-- ==== Sys2Proof/Word.lean ====
section
/-! DEFINITION. The plain value types of the block: words, bytes, cache lines and the fixed finite
indexes of its units. -/

namespace Sys2Proof

/-- One byte. -/
abbrev Byte := BitVec 8

/-- One register word (R5: every register is 32 bits wide). -/
abbrev Word := BitVec 32

/-- One 64 B cache line, byte 0 in bits 7:0 (R3). -/
abbrev Line := BitVec 512

/-- The byte enables or the byte mask of a line, bit `i` for byte `i`. -/
abbrev Mask := BitVec 64

/-- A media channel, 0 to 71 (Table SCOPE-1). -/
abbrev Chan := Fin 72

/-- A die on its channel, 0 to 7. -/
abbrev Die := Fin 8

/-- A module slot, 0 to 17. -/
abbrev Slot := Fin 18

/-- A physical cache slice, CS0 to CS16. -/
abbrev Slice := Fin 17

/-- A logical cache slice, 0 to 15 (R60). -/
abbrev LSlice := Fin 16

/-- A mailbox, 0 to 4 (Table MAST-3). -/
abbrev Mbox := Fin 5

/-- An HBM stack. -/
abbrev Stack := Fin 2

end Sys2Proof
end

