-- ==== Sys2Proof/Syntax.lean ====
section
/-! DEFINITION. The commands of the block: one constructor of `Instr` for each row of the operation
table, in the table's order, with the operands this model gives the row (the table gives none). -/

namespace Sys2Proof

/-- The two host ports. -/
inductive Port where
  | hp0 | hp1
  deriving DecidableEq, Repr

/-- The access path of a software register access (R427): Mainmast firmware, the debug TAP, or the
host window of a port. -/
inductive Path where
  | mainmast
  | debug
  | host (p : Port)
  deriving DecidableEq, Repr

/-- The two read opcodes served alike (Table PORT-2). -/
inductive RdOp where
  | memRd | memRdData
  deriving DecidableEq, Repr

/-- An uncorrectable tag or data error met by a request or by patrol: the rows of Table CACHE-6. -/
inductive CacheErr where
  | none
  | tagSram
  | tagOne
  | tagBoth
  | clean
  | home
  | mirror
  | maskOne
  | both
  deriving DecidableEq, Repr

/-- The settings a host has written into an HDM decoder when it commits it (R36, R37). -/
structure HdmConfig where
  lockOnCommit : Bool
  base : Nat
  size : Nat
  skip : Nat
  ways : Nat
  granularity : Nat
  deriving DecidableEq, Repr

/-- Which response a RESPONSE_SEND sends: a belay entry's, or the oldest answer of the port itself. -/
inductive RespSel where
  | belay (idx : Nat)
  | answer
  deriving DecidableEq, Repr

/-- Link rates, coded as HPn.LINK_STATUS.rate. -/
inductive LinkRate where
  | r2_5 | r5 | r8 | r16 | r32 | r64 | r128
  deriving DecidableEq, Repr

/-- Link widths, coded as HPn.LINK_STATUS.width. -/
inductive LinkWidth where
  | x1 | x2 | x4 | x8 | x16
  deriving DecidableEq, Repr

/-- What the host asks for at HOST_L1_ENTRY (R48). -/
inductive HostPm where
  | l1
  | l0p (w : LinkWidth)
  deriving DecidableEq, Repr

/-- How a port goes down at PORT_FAIL (Table PORT-5). -/
inductive PortDown where
  | linkDown | surpriseDown | fatal
  deriving DecidableEq, Repr

/-- The losses of Table LAYOUT-8. -/
inductive WearLoss where
  | leafHbm | oneMedia | hbmAndOneMedia | allCopies | allAndGroup | summary
  deriving DecidableEq, Repr

/-- Why a swath is retired (R144, Table INTEG-5). -/
inductive RetireWhy where
  | wear | error | drift
  deriving DecidableEq, Repr

/-- Why a quick retrain starts (R209). -/
inductive RetrainWhy where
  | ackExpiry | crcRate | recentring
  deriving DecidableEq, Repr

/-- A response packet of a module, its fields taken apart (R202). -/
structure Resp where
  tag : Fin 64
  die : Die
  status : Byte
  crcOk : Bool
  deriving DecidableEq, Repr

/-- The payload of a STATE response (R202): the program state (0 none, 1 running, 2 suspended), the
suspends used and the pulse time remaining in units of 64 ns. -/
structure DieReport where
  prog : Fin 4
  suspends : Fin 8
  remaining : BitVec 16
  deriving DecidableEq, Repr

/-- A module's identity record as read (Table CHIUT-8). -/
structure Identity where
  crcOk : Bool
  magic : BitVec 16
  version : Byte
  dies : Byte
  serial : BitVec 64
  mediaType : BitVec 16
  setId : BitVec 128
  deriving DecidableEq, Repr

/-- The result of sensing one sector: the number of bit errors of the raw sector, of which a BCH
decode corrects 20 (R174, R177), whether a decode within 20 is a miscorrection that the CRC-16 or the LSN
check catches (R178), and the corrected bits one step from their level: for each its reference and whether
it was sensed above the reference (R162). -/
structure Sense where
  errs : Nat
  miscorrected : Bool
  steps : List (Fin 7 × Bool)
  deriving DecidableEq, Repr

/-- Domains of Table BUD-5 that take a sleep state. -/
inductive Domain where
  | port (p : Port)
  | core
  | slice (n : Slice)
  | channel (n : Chan)
  | die (n : Chan) (d : Die)
  | mainmast
  | spareCore
  | aux
  | aon
  deriving DecidableEq, Repr

/-- The permit holders of Table BUD-1. -/
inductive Holder where
  | dump
  | setUrgent
  | setEqual
  | rewrite
  | metadata
  | scrubPass
  | hbmRecal
  | setLow
  | rebuildProgram
  | rebuildStream
  | sweepSet
  | selfTest (cost : Nat)
  deriving DecidableEq, Repr

/-- The reset requests of Table RST-2 that reach a CORE reset. -/
inductive CoreSource where
  | watchdog | mpllRelock | firmware | debug
  deriving DecidableEq, Repr

/-- What the power-down saw fail (R323). -/
inductive DownFail where
  | device (rail : Fin 7)
  | module (k : Slot)
  deriving DecidableEq, Repr

/-- What one failed sequencer-bus transaction was (Table PWR-7). -/
inductive BusErr where
  | nack | pec | timeout
  deriving DecidableEq, Repr

/-- A reset output whose stretch ends (R328). -/
inductive RstOut where
  | board
  | module (k : Slot)
  deriving DecidableEq, Repr

/-- The reset domains in release order (R347). -/
inductive RstDomain where
  | aon | datapath | mainmast
  | port (p : Port)
  deriving DecidableEq, Repr

/-- The clocks the clock watchdog watches (Table RST-3). -/
inductive WdClock where
  | dpll (n : Fin 2)
  | mpll
  | port (p : Port)
  | chiut (k : Slot)
  | hbm (n : Stack)
  deriving DecidableEq, Repr

/-- The arrays of the fill whose check fails (R355). -/
inductive FillFail where
  | belayBank (b : Fin 8)
  | vbfBank (b : Fin 8)
  | pseudoChannel (stack : Stack) (pc : Fin 32)
  | stack (n : Stack)
  deriving DecidableEq, Repr

/-- What a hold-up measurement read (R360, R362): the drop of the input in mV over the window, the
ESR step in units of 0.1 mΩ, and C in mF. -/
structure HoldupRead where
  dropMv : Nat
  esr : Nat
  capMf : Nat
  deriving DecidableEq, Repr

/-- One entry of Set Trim Override (Table HCMD-4). -/
structure TrimEntry where
  margin : Nat
  value : Int
  release : Bool
  deriving DecidableEq, Repr

/-- Results the boot step meets (R265, R266, R282): whether the active image verifies, and the Shroud
slots and KCE registers whose wrapped record fails the KW check. -/
structure BootResult where
  imageOk : Bool
  badSlots : BitVec 64
  badRegs : BitVec 8
  deriving DecidableEq, Repr

/-- Detail of an event firing: bytes 4, 5–10, 11 and 12–15 of Table EVT-4. -/
structure Detail where
  unit : Nat
  addr : Nat
  code : Nat
  value : Nat
  deriving DecidableEq, Repr

/-- The commands, one constructor for each row of the operation table. -/
inductive Instr where
  /-- MEM_RD (R30). -/
  | memRd (p : Port) (op : RdOp) (hpa : BitVec 52) (err : CacheErr)
  /-- MEM_INV (R30). -/
  | memInv (p : Port) (nt : Bool) (hpa : BitVec 52)
  /-- MEM_SPEC_RD (R33). -/
  | memSpecRd (p : Port) (hpa : BitVec 52)
  /-- MEM_WR (R99). -/
  | memWr (p : Port) (hpa : BitVec 52) (data : Line) (poison : Bool)
  /-- MEM_WR_PTL (R78). -/
  | memWrPtl (p : Port) (hpa : BitVec 52) (data : Line) (enables : Mask) (poison : Bool)
  /-- UNSUPPORTED_REQUEST (R31). -/
  | unsupportedRequest (p : Port) (rwd : Bool) (header : BitVec 128)
  /-- RESPONSE_SEND (R59). -/
  | responseSend (p : Port) (sel : RespSel) (ndrReturned drsReturned : Nat)
  /-- VIRAL (R35). -/
  | viral (p : Port)
  /-- HDM_DECODER_COMMIT (R36). -/
  | hdmDecoderCommit (p : Port) (d : Fin 4) (cfg : HdmConfig)
  /-- DEVLOAD_UPDATE (R40). -/
  | devloadUpdate (p : Port)
  /-- PORT_FAIL (R43). -/
  | portFail (p : Port) (how : PortDown)
  /-- PATH_RESTORED (R44). -/
  | pathRestored (p : Port)
  /-- PERST_ASSERT (R52). -/
  | perstAssert (p : Port)
  /-- HOT_RESET (R52). -/
  | hotReset (p : Port)
  /-- CXL_RESET (R52). -/
  | cxlReset (p : Port)
  /-- FUNCTION_LEVEL_RESET (R52). -/
  | functionLevelReset (p : Port)
  /-- LINK_TRAINING_START (R53). -/
  | linkTrainingStart (p : Port) (eqFails : Nat) (lanes : LinkWidth)
  /-- RECOVERY_ENTRY (R47). -/
  | recoveryEntry (p : Port)
  /-- LANE_MARGIN_SCAN (R49). -/
  | laneMarginScan (p : Port) (timingStep voltageMv : Nat)
  /-- HOST_MARGIN_COMMAND (R49). -/
  | hostMarginCommand (p : Port) (lane : Fin 16) (done : Bool)
  /-- FLIT_CRC_FAIL (R50). -/
  | flitCrcFail (p : Port)
  /-- L0P_NARROW (R343). -/
  | l0pNarrow (p : Port) (usePercent : Nat)
  /-- ASPM_L1_REQUEST (R343). -/
  | aspmL1Request (p : Port)
  /-- HOST_L1_ENTRY (R48). -/
  | hostL1Entry (p : Port) (what : HostPm)
  /-- L1_EXIT (R340). -/
  | l1Exit (p : Port)
  /-- GPF_PHASE1 (R101). -/
  | gpfPhase1 (p : Port)
  /-- GPF_PHASE2 (R101). -/
  | gpfPhase2 (p : Port)
  /-- ADMIT_WINDOW_EXPIRY (R65). -/
  | admitWindowExpiry (p : Port)
  /-- BELAY_BANK_FENCE (R58). -/
  | belayBankFence (b : Fin 8)
  /-- BELAY_REISSUE (R58). -/
  | belayReissue
  /-- PARITY_ENGINE_FAIL (R16). -/
  | parityEngineFail (e : Fin 2)
  /-- EVICTION_CANCEL (R91). -/
  | evictionCancel (idx : Nat)
  /-- HBM_PATROL_STEP (R83). -/
  | hbmPatrolStep (n : Slice) (err : CacheErr) (corrected : Nat)
  /-- PSEUDO_CHANNEL_FAIL (R84). -/
  | pseudoChannelFail (stack : Stack) (pc : Fin 32)
  /-- HBM_STACK_FAIL (R85). -/
  | hbmStackFail (stack : Stack)
  /-- VBF_BANK_FENCE (R89). -/
  | vbfBankFence (b : Fin 8)
  /-- VBF_REBUILD_COMPLETE (R89). -/
  | vbfRebuildComplete (b : Fin 8)
  /-- MAINT_CLEAN (R92). -/
  | maintClean (n : Slice)
  /-- MAINT_FLUSH (R92). -/
  | maintFlush (n : Slice)
  /-- MAINT_DROP (R92). -/
  | maintDrop (n : Slice)
  /-- MAINT_PRELOAD (R92). -/
  | maintPreload (n : Slice)
  /-- MAINT_DONE (R92). -/
  | maintDone (n : Slice)
  /-- SLICE_FAIL (R95). -/
  | sliceFail (n : Slice)
  /-- HANDOVER_CUTOVER (R97). -/
  | handoverCutover (out inc : Slice)
  /-- HANDOVER_END (R97). -/
  | handoverEnd
  /-- HANDOVER_ABANDON (R97). -/
  | handoverAbandon
  /-- RESERVATION_GRANT (R104). -/
  | reservationGrant (p : Port)
  /-- DIRTY_BUDGET_REPLAN (R106). -/
  | dirtyBudgetReplan
  /-- WRITE_BACK_START (R107). -/
  | writeBackStart (lsn : BitVec 40)
  /-- STRIPE_GATHER_TIMEOUT (R108). -/
  | stripeGatherTimeout (idx : Nat)
  /-- MERGE_READ_COMPLETE (R108). -/
  | mergeReadComplete (idx : Nat) (ok : Bool)
  /-- SET_CONFIRMED (R109). -/
  | setConfirmed (id : Nat)
  /-- DUMP_COMPLETE (R113). -/
  | dumpComplete
  /-- REPLAY_START (R117). -/
  | replayStart (bad : List Nat)
  /-- REPLAY_COMPLETE (R122). -/
  | replayComplete
  /-- GAP_MOVE_START (R128). -/
  | gapMoveStart (region : BitVec 16)
  /-- GAP_MOVE_PROGRAMS_CONFIRMED (R128). -/
  | gapMoveProgramsConfirmed (region : BitVec 16)
  /-- GAP_SWITCH (R129). -/
  | gapSwitch (region : BitVec 16)
  /-- LEAF_SECTOR_FLUSH (R140). -/
  | leafSectorFlush (k : Slot) (die : Fin 32) (sector : Nat)
  /-- WEAR_TREE_LOAD (R141). -/
  | wearTreeLoad
  /-- WEAR_TREE_REPAIR (R142). -/
  | wearTreeRepair (k : Slot) (die : Fin 32) (swath : Nat) (loss : WearLoss)
  /-- SWATH_RETIRE (R144). -/
  | swathRetire (k : Slot) (die : Fin 32) (swath : Nat) (why : RetireWhy)
  /-- FROZEN_SWATH_DAILY (R148). -/
  | frozenSwathDaily (k : Slot) (die : Fin 32) (swath : Nat)
  /-- MIGRATION_ROW_CONFIRMED (R145). -/
  | migrationRowConfirmed (k : Slot) (die : Fin 32) (swath : Nat)
  /-- DIE_RETIRE (R146). -/
  | dieRetire (ch : Chan) (die : Die)
  /-- MEDIA_READ_ISSUE (R153). -/
  | mediaReadIssue (id : Nat)
  /-- PROGRAM_RESUME (R152). -/
  | programResume (ch : Chan) (die : Die)
  /-- PROGRAM_START (R150). -/
  | programStart (ch : Chan) (die : Die)
  /-- DRIFT_CLOCK_TICK (R158). -/
  | driftClockTick (ch : Chan) (die : Die) (tempC : Int)
  /-- OFFSET_TABLE_RELOAD (R160). -/
  | offsetTableReload (ch : Chan) (die : Die)
  /-- DRIFT_CLOCK_RESTORE (R161). -/
  | driftClockRestore (ch : Chan) (die : Die) (stamp : BitVec 40) (age : BitVec 40)
  /-- DUAL_READ_COMPARE (R164). -/
  | dualReadCompare (id : Nat) (differ : Bool)
  /-- PREFETCH_DROP_TIMEOUT (R167). -/
  | prefetchDropTimeout (id : Nat)
  /-- PREFETCH_DECODE (R168). -/
  | prefetchDecode (id : Nat) (r : Sense)
  /-- REFRESH_VISIT (R172). -/
  | refreshVisit (ch : Chan) (die : Die) (r : Sense)
  /-- SECTOR_DECODE (R177). -/
  | sectorDecode (id : Nat) (k : Slot) (r : Sense)
  /-- TIER2_RECONSTRUCT (R177). -/
  | tier2Reconstruct (id : Nat)
  /-- TIER3_START (R183). -/
  | tier3Start
  /-- TIER3_OUTCOME (R184). -/
  | tier3Outcome (lsn : BitVec 40) (recovered : Bool)
  /-- POISON_LIST_COPY (R188). -/
  | poisonListCopy
  /-- POISON_RECONCILE (R189). -/
  | poisonReconcile (lsn : BitVec 40)
  /-- SCRUB_ROW_CHECK (R195). -/
  | scrubRowCheck (sp sq : BitVec 2112)
  /-- ACK (R202). -/
  | ack (ch : Chan) (r : Resp)
  /-- NACK (R203). -/
  | nack (ch : Chan) (r : Resp)
  /-- READY (R203). -/
  | ready (ch : Chan) (r : Resp)
  /-- READ_BURST (R151). -/
  | readBurst (ch : Chan) (tag : Fin 64) (crcOk : Bool)
  /-- DONE (R203). -/
  | done (ch : Chan) (r : Resp)
  /-- FAIL (R207). -/
  | fail (ch : Chan) (r : Resp)
  /-- SUSPENDED (R152). -/
  | suspended (ch : Chan) (r : Resp)
  /-- STATE (R202). -/
  | state (ch : Chan) (r : Resp) (report : DieReport)
  /-- ACK_TIMEOUT (R205). -/
  | ackTimeout (ch : Chan) (die : Die)
  /-- READ_BURST_TIMEOUT (R205). -/
  | readBurstTimeout (ch : Chan) (tag : Fin 64)
  /-- SUSPEND_TIMEOUT (R205). -/
  | suspendTimeout (ch : Chan) (die : Die)
  /-- PROGRAM_TIMEOUT (R205). -/
  | programTimeout (ch : Chan) (die : Die)
  /-- CHANNEL_TRAINING (R208). -/
  | channelTraining (ch : Chan) (ok : Bool)
  /-- QUICK_RETRAIN (R209). -/
  | quickRetrain (ch : Chan) (why : RetrainWhy) (closingOk : Bool)
  /-- RECENTRING (R209). -/
  | recentring (ch : Chan) (eyeMv : Nat) (inRange : Bool)
  /-- MODULE_ALERT (R211). -/
  | moduleAlert (k : Slot) (cause : Fin 8)
  /-- MODULE_PROGRAMS_ENDED (R321). -/
  | moduleProgramsEnded (k : Slot)
  /-- MODULE_FAILURE (R214). -/
  | moduleFailure (k : Slot)
  /-- MODULE_REMOVAL (R214). -/
  | moduleRemoval (k : Slot)
  /-- MODULE_INSERT (R215). -/
  | moduleInsert (k : Slot) (ident : Identity)
  /-- MODULE_AUTO_ADMIT (R216). -/
  | moduleAutoAdmit (k : Slot)
  /-- REBUILD_START (R217). -/
  | rebuildStart (k : Slot)
  /-- REBUILD_BATCH_CONFIRMED (R218). -/
  | rebuildBatchConfirmed
  /-- SHROUD_ENGINE_FENCE (R224). -/
  | shroudEngineFence (e : Fin 20)
  /-- SHR_KEY_LOAD (R226). -/
  | shrKeyLoad (path : Path)
  /-- SHR_KEY_ZEROIZE (R226). -/
  | shrKeyZeroize (path : Path)
  /-- SHR_KEY_ERASE (R239). -/
  | shrKeyErase (path : Path)
  /-- SHR_REKEY_GO (R230). -/
  | shrRekeyGo (path : Path)
  /-- SHR_REKEY_ABORT (R238). -/
  | shrRekeyAbort (path : Path)
  /-- REKEY_CLAIM_ROW (R231). -/
  | rekeyClaimRow
  /-- REKEY_END (R236). -/
  | rekeyEnd
  /-- REKEY_CUT (R238). -/
  | rekeyCut
  /-- KCE_KEY_LOAD (R244). -/
  | kceKeyLoad (path : Path)
  /-- KCE_KEY_ZEROIZE (R244). -/
  | kceKeyZeroize (path : Path)
  /-- LOCK_REQUEST (R245). -/
  | lockRequest (codes : List (Fin 8))
  /-- LOCK_RELEASE (R247). -/
  | lockRelease (code : Fin 8)
  /-- LOCK_REVOKE (R247). -/
  | lockRevoke
  /-- MSG_START (R241). -/
  | msgStart (path : Path)
  /-- DATA_IN_WRITE (R241). -/
  | dataInWrite (path : Path) (data : Word)
  /-- MSG_FINISH (R241). -/
  | msgFinish (path : Path)
  /-- DRBG_RESEED (R242). -/
  | drbgReseed (coreG : Bool) (ok : Bool)
  /-- ENTROPY_STALL_TIMEOUT (R242). -/
  | entropyStallTimeout
  /-- KCE_SELF_TEST (R243). -/
  | kceSelfTest (coreG : Bool) (pass : Bool)
  /-- SEAL_DRAIN_DONE (R252). -/
  | sealDrainDone (stored : Bool)
  /-- SEAL_LINE_FEED (R252). -/
  | sealLineFeed
  /-- SEAL_REGISTRY_CONFIRMED (R252). -/
  | sealRegistryConfirmed (stored : Bool)
  /-- VERIFY_LINE_FEED (R259). -/
  | verifyLineFeed
  /-- VERIFY_RETIRE (R260). -/
  | verifyRetire
  /-- DEBUG_ENTRY (R271). -/
  | debugEntry (stored : Bool)
  /-- DEBUG_EXIT (R272). -/
  | debugExit
  /-- LOCKSTEP_MISMATCH (R276). -/
  | lockstepMismatch
  /-- CONFIG_CHOSEN (R277). -/
  | configChosen (leadPasses checkerPasses : Bool)
  /-- TAKEOVER_RESUME (R277). -/
  | takeoverResume (checkpointsValid : BitVec 2)
  /-- TASK_CHECKPOINT (R274). -/
  | taskCheckpoint
  /-- SPARE_SELF_TEST (R275). -/
  | spareSelfTest (pass : Bool)
  /-- WDOG_KICK (R280). -/
  | wdogKick (path : Path)
  /-- WDOG_EXPIRY (R280). -/
  | wdogExpiry
  /-- CORE_RESET (R279). -/
  | coreReset (src : CoreSource)
  /-- ACTIVATION_TIMEOUT (R283). -/
  | activationTimeout
  /-- MAILBOX_DOORBELL (R286). -/
  | mailboxDoorbell (m : Mbox) (opcode : BitVec 16) (payload : List Byte)
  /-- MB_DONE_GO (R285). -/
  | mbDoneGo (path : Path) (m : Mbox)
  /-- HLY_RETIRE_REQUEST (R288). -/
  | hlyRetireRequest (m : Mbox)
  /-- HLY_ABORT_REQUEST (R288). -/
  | hlyAbortRequest (m : Mbox)
  /-- SIDEBAND_REQUEST (R289). -/
  | sidebandRequest (opcode : BitVec 16) (payload : List Byte)
  /-- SIDEBAND_REASSEMBLY_TIMEOUT (R289). -/
  | sidebandReassemblyTimeout
  /-- SET_ENDPOINT_ID (R289). -/
  | setEndpointId (eid : Byte)
  /-- GET_ENDPOINT_ID (R289). -/
  | getEndpointId
  /-- GET_MCTP_VERSION_SUPPORT (R289). -/
  | getMctpVersionSupport (msgType : Byte)
  /-- GET_MESSAGE_TYPE_SUPPORT (R289). -/
  | getMessageTypeSupport
  /-- UNSUPPORTED_COMMAND (R290). -/
  | unsupportedCommand (m : Mbox)
  /-- IDENTIFY (R293). -/
  | identify (m : Mbox)
  /-- BACKGROUND_OPERATION_STATUS (R293). -/
  | backgroundOperationStatus (m : Mbox)
  /-- REQUEST_ABORT_BACKGROUND_OPERATION (R288). -/
  | requestAbortBackgroundOperation (m : Mbox)
  /-- GET_EVENT_RECORDS (R293). -/
  | getEventRecords (m : Mbox) (log : Fin 4)
  /-- CLEAR_EVENT_RECORDS (R293). -/
  | clearEventRecords (m : Mbox) (log : Fin 4) (handles : List Nat)
  /-- GET_EVENT_INTERRUPT_POLICY (R293). -/
  | getEventInterruptPolicy (m : Mbox)
  /-- SET_EVENT_INTERRUPT_POLICY (R411). -/
  | setEventInterruptPolicy (m : Mbox) (log : Fin 4) (msix : Bool) (vector : Fin 32)
  /-- GET_FW_INFO (R293). -/
  | getFwInfo (m : Mbox)
  /-- TRANSFER_FW (R282). -/
  | transferFw (m : Mbox) (slot : Fin 2) (offset : Nat) (data : List Byte)
  /-- ACTIVATE_FW (R283). -/
  | activateFw (m : Mbox) (slot : Fin 2) (online digestOk accepts : Bool)
  /-- GET_TIMESTAMP (R293). -/
  | getTimestamp (m : Mbox)
  /-- SET_TIMESTAMP (R293). -/
  | setTimestamp (m : Mbox) (time : BitVec 64)
  /-- GET_SUPPORTED_LOGS (R293). -/
  | getSupportedLogs (m : Mbox)
  /-- GET_LOG (R293). -/
  | getLog (m : Mbox)
  /-- IDENTIFY_MEMORY_DEVICE (R293). -/
  | identifyMemoryDevice (m : Mbox)
  /-- GET_PARTITION_INFO (R293). -/
  | getPartitionInfo (m : Mbox)
  /-- GET_HEALTH_INFO (R294). -/
  | getHealthInfo (m : Mbox)
  /-- GET_ALERT_CONFIGURATION (R293). -/
  | getAlertConfiguration (m : Mbox)
  /-- SET_ALERT_CONFIGURATION (R293). -/
  | setAlertConfiguration (m : Mbox) (lifeUsed : Nat) (overC underC : Int) (volatileErrs persistentErrs : Nat)
  /-- GET_SHUTDOWN_STATE (R293). -/
  | getShutdownState (m : Mbox)
  /-- SET_SHUTDOWN_STATE (R293). -/
  | setShutdownState (m : Mbox) (clean : Bool)
  /-- GET_POISON_LIST (R187). -/
  | getPoisonList (m : Mbox) (dpa : BitVec 48) (lines : Nat)
  /-- INJECT_POISON (R295). -/
  | injectPoison (m : Mbox) (dpa : BitVec 48)
  /-- CLEAR_POISON (R295). -/
  | clearPoison (m : Mbox) (dpa : BitVec 48) (data : Line)
  /-- SANITIZE (R296). -/
  | sanitize (m : Mbox)
  /-- SECURE_ERASE (R296). -/
  | secureErase (m : Mbox)
  /-- GET_DEVICE_STATUS (R298). -/
  | getDeviceStatus (m : Mbox)
  /-- GET_DIRTY_BUDGET (R298). -/
  | getDirtyBudget (m : Mbox)
  /-- GET_SEAL_RECORD (R298). -/
  | getSealRecord (m : Mbox)
  /-- SEA_CHEST_STORE (R299). -/
  | seaChestStore (m : Mbox) (stored : Bool)
  /-- GET_TRIM_PLAN (R298). -/
  | getTrimPlan (m : Mbox)
  /-- SET_TRIM_OVERRIDE (R301). -/
  | setTrimOverride (m : Mbox)
  /-- REEF_BUDGET (R300). -/
  | reefBudget (m : Mbox)
  /-- SEAL_EXTENT (R252). -/
  | sealExtent (m : Mbox)
  /-- VERIFY_READ (R258). -/
  | verifyRead (m : Mbox) (stored : Bool)
  /-- KEY_LOAD (R302). -/
  | keyLoad (m : Mbox) (stored : Bool)
  /-- KEY_ZEROIZE (R302). -/
  | keyZeroize (m : Mbox) (stored : Bool)
  /-- REKEY_START (R303). -/
  | rekeyStart (m : Mbox) (stored : Bool)
  /-- REKEY_ABORT (R303). -/
  | rekeyAbort (m : Mbox)
  /-- LOGBOOK_SNAPSHOT (R382). -/
  | logbookSnapshot (m : Mbox)
  /-- LOGBOOK_CLEAR (R388). -/
  | logbookClear (m : Mbox)
  /-- MODULE_RETIRE (R304). -/
  | moduleRetire (m : Mbox)
  /-- MODULE_ADMIT (R304). -/
  | moduleAdmit (m : Mbox)
  /-- SELF_TEST (R305). -/
  | selfTest (m : Mbox)
  /-- PMU_GRANT (R306). -/
  | pmuGrant (m : Mbox)
  /-- FORMAT_MEDIA_SET (R307). -/
  | formatMediaSet (m : Mbox) (stored : Bool)
  /-- RAIL_WARNING (R309). -/
  | railWarning (r : Fin 7)
  /-- RAIL_FAULT (R309). -/
  | railFault (r : Fin 7)
  /-- OVER_VOLTAGE (R311). -/
  | overVoltage
  /-- INPUT_STABLE (R312). -/
  | inputStable
  /-- POWER_FAIL_WARNING (R314). -/
  | powerFailWarning
  /-- SHUTDOWN_REQUEST (R314). -/
  | shutdownRequest
  /-- OVER_TEMPERATURE (R446). -/
  | overTemperature (sensor : Fin 16) (tempC : Nat)
  /-- STRIKE_POINT (R316). -/
  | strikePoint (belowStrike : Bool) (pages : Nat)
  /-- RESUME_QUALIFIED (R319). -/
  | resumeQualified
  /-- ABANDON_CONFIRMED (R319). -/
  | abandonConfirmed
  /-- RAIL_DISABLE_STEP (R321). -/
  | railDisableStep
  /-- RAIL_IN_WINDOW (R324). -/
  | railInWindow (r : Fin 7)
  /-- RAMP_RAIL_FAIL (R322). -/
  | rampRailFail (r : Fin 7) (timeUs : Nat)
  /-- RAMP_RETRY (R322). -/
  | rampRetry
  /-- POWERDOWN_RAIL_FAIL (R323). -/
  | powerdownRailFail (what : DownFail) (timeUs : Nat)
  /-- BUS_TRANSACTION_ERROR (R327). -/
  | busTransactionError (k : Slot) (why : BusErr) (stuckLow : Bool)
  /-- BUS_RETRY (R327). -/
  | busRetry (k : Slot) (ok : Bool)
  /-- UNRESPONSIVE_RETRY (R327). -/
  | unresponsiveRetry (k : Slot) (answered : Bool)
  /-- BUS_CLEAR_RETRY (R327). -/
  | busClearRetry (recovered : Bool)
  /-- MODULE_TEMP_READ (R325). -/
  | moduleTempRead (k : Slot) (tempC : Byte)
  /-- STATUS_WORD_POLL (R325). -/
  | statusWordPoll (k : Slot) (powerGood : Bool)
  /-- RESET_STRETCH_END (R328). -/
  | resetStretchEnd (out : RstOut)
  /-- REEF_REQUEST (R331). -/
  | reefRequest (holder : Holder) (programs : Nat) (target : Option Slot)
  /-- REEF_GRANT (R331). -/
  | reefGrant
  /-- PERMIT_RELEASE (R329). -/
  | permitRelease (id : Nat)
  /-- REEF_LEVEL_RAISE (R331). -/
  | reefLevelRaise (id : Nat)
  /-- REEF_ARBITER_FAIL (R334). -/
  | reefArbiterFail
  /-- MODULE_CAP_RESTORE (R332). -/
  | moduleCapRestore (k : Slot)
  /-- XTAL_LOST (R336). -/
  | xtalLost
  /-- XTAL_RETURN (R336). -/
  | xtalReturn
  /-- RC_TRIM (R336). -/
  | rcTrim
  /-- REFCLK_LOST (R337). -/
  | refclkLost (n : Fin 2)
  /-- REFCLK_RECOVERED (R337). -/
  | refclkRecovered (n : Fin 2)
  /-- HOLDOVER_EXPIRY (R337). -/
  | holdoverExpiry
  /-- DPLL_LOCK_LOSS (R338). -/
  | dpllLockLoss
  /-- DPLL_RELOCK (R338). -/
  | dpllRelock (n : Fin 2)
  /-- MPLL_LOCK_LOSS (R339). -/
  | mpllLockLoss
  /-- MPLL_RELOCK (R339). -/
  | mpllRelock
  /-- SLEEP_EVALUATE (R341). -/
  | sleepEvaluate (d : Domain) (nextNs : Option Nat)
  /-- SCHEDULED_WAKE (R341). -/
  | scheduledWake (d : Domain)
  /-- WAKE_LATE (R342). -/
  | wakeLate (d : Domain)
  /-- AON_POWER_ON_DETECT (R444). -/
  | aonPowerOnDetect (pages : Nat)
  /-- POR_ASSERT (R345). -/
  | porAssert
  /-- SYS_RESET_REQUEST (R349). -/
  | sysResetRequest (path : Path) (key : BitVec 16)
  /-- CORE_RESET_REQUEST (R351). -/
  | coreResetRequest (path : Path) (key : BitVec 16)
  /-- RESET_HOLD_OFF_DONE (R349). -/
  | resetHoldOffDone
  /-- DOMAIN_RELEASE (R347). -/
  | domainRelease (d : RstDomain) (fuseCrc : BitVec 2)
  /-- CLOCK_WATCHDOG_EXPIRY (R348). -/
  | clockWatchdogExpiry (c : WdClock)
  /-- ARRAY_FILL_DONE (R355). -/
  | arrayFillDone (bad : List FillFail)
  /-- FIRMWARE_BOOT (R356). -/
  | firmwareBoot (r : BootResult)
  /-- HOLDUP_MEASURE_START (R360). -/
  | holdupMeasureStart
  /-- HOLDUP_MEASURE_END (R361). -/
  | holdupMeasureEnd (r : HoldupRead)
  /-- HOLDUP_GO (R360). -/
  | holdupGo (path : Path)
  /-- TRIM_PLAN_COMPUTE (R364). -/
  | trimPlanCompute
  /-- PLAN_STALE (R364). -/
  | planStale
  /-- PATH_MONITOR_SAMPLE (R359). -/
  | pathMonitorSample (slackPs : Nat)
  /-- SELF_TEST_SLICE_START (R370). -/
  | selfTestSliceStart (ticket : Nat)
  /-- SELF_TEST_SLICE_END (R371). -/
  | selfTestSliceEnd (pass : Bool)
  /-- SLICE_FAULT_END (R372). -/
  | sliceFaultEnd (ownFault : Bool)
  /-- TICKET_COVER_TIMEOUT (R370). -/
  | ticketCoverTimeout (ticket : Nat)
  /-- HBM_RECALIBRATION (R370). -/
  | hbmRecalibration (stack : Stack) (pc : Fin 32) (eyePercent : Nat)
  /-- LOG_RECORD_WRITE (R376). -/
  | logRecordWrite
  /-- LOG_WR_GO (R376). -/
  | logWrGo (path : Path)
  /-- ARCHIVE_COPY (R378). -/
  | archiveCopy
  /-- CHAIN_WRITE (R385). -/
  | chainWrite
  /-- CHAIN_STALL_TIMEOUT (R386). -/
  | chainStallTimeout
  /-- BLOCK_COUNTER_ADVANCE (R375). -/
  | blockCounterAdvance (verified : Bool)
  /-- LOGBOOK_RESTORE (R379). -/
  | logbookRestore
  /-- SNAPSHOT_RELEASE_TIMEOUT (R383). -/
  | snapshotReleaseTimeout (m : Mbox)
  /-- CLEAR_RETIRE (R388). -/
  | clearRetire
  /-- RECORD_STORE (R392). -/
  | recordStore (id : BitVec 15) (payload : List Byte) (verified : Bool)
  /-- RECORD_WITHDRAW (R394). -/
  | recordWithdraw (id : BitVec 15)
  /-- BACKGROUND_ERASE (R395). -/
  | backgroundErase
  /-- RAW_PROGRAM (R391). -/
  | rawProgram (path : Path)
  /-- RAW_ERASE (R390). -/
  | rawErase (path : Path)
  /-- COUNTER_INCREMENT (R402). -/
  | counterIncrement (ctr : Fin 8) (verified : Bool)
  /-- COUNTER_REFILL (R404). -/
  | counterRefill
  /-- SEA_CHEST_SETTLE (R399). -/
  | seaChestSettle
  /-- EVENT_FIRE (R406). -/
  | eventFire (source : Nat) (severity : Fin 4) (detail : Detail)
  /-- EVENT_COALESCE_FLUSH (R407). -/
  | eventCoalesceFlush (source : Nat)
  /-- BUCKET_LEAK (R413). -/
  | bucketLeak (cls : Fin 6) (unit : Nat)
  /-- MST_FIFO_READ (R409). -/
  | mstFifoRead (path : Path)
  /-- ADDR_TAB_CLEAR (R415). -/
  | addrTabClear (path : Path) (ch : Chan)
  /-- ADDR_TAB_HI_READ (R428). -/
  | addrTabHiRead (path : Path) (ch : Chan)
  /-- ALERT_HOLD_EXPIRY (R412). -/
  | alertHoldExpiry
  /-- PMU_CYCLE_COUNT (R417). -/
  | pmuCycleCount (cycles : Nat)
  /-- PMU_FREEZE (R421). -/
  | pmuFreeze (path : Path) (u : Fin 4)
  /-- PMU_CLEAR (R421). -/
  | pmuClear (path : Path) (u : Fin 4)
  /-- LOW_WORD_READ (R5). -/
  | lowWordRead (path : Path) (addr : Word)
  /-- TIME_HI_WRITE (R427). -/
  | timeHiWrite (path : Path) (data : Word)
  /-- LOCK_SET (R430). -/
  | lockSet (path : Path) (addr : Word) (data : Word)
  /-- HOST_WINDOW_READ (R432). -/
  | hostWindowRead (p : Port) (offset : BitVec 20) (size : Nat)
  /-- REGISTER_WRITE (R428). -/
  | registerWrite (path : Path) (addr : Word) (data : Word)
  /-- LINK_UP (R27). -/
  | linkUp (p : Port) (rate : LinkRate) (width : LinkWidth) (flit256 latopt : Bool) (ndrCredits drsCredits : Nat)
  /-- REPLAY_TIMER_TIMEOUT (R50). -/
  | replayTimerTimeout (p : Port) (rollover : Bool)
  /-- CONTROLLER_TEMPERATURE_WARNING (R446). -/
  | controllerTemperatureWarning (sensor : Fin 16) (tempC : Nat)
  /-- HBM_STACK_TEMPERATURE (R446). -/
  | hbmStackTemperature (stack : Stack) (tempC : Nat)
  /-- DAILY_SUMMARY (R368). -/
  | dailySummary
  /-- HOLDUP_BOOT_TIMEOUT (R363). -/
  | holdupBootTimeout
  deriving DecidableEq, Repr

end Sys2Proof
end

