-- ==== Sys2Proof/Decode.lean ====
section
/-! DEFINITION. The decoder of table words. The operation table gives no row any bits: a command reaches
the block as an event or an access, not as an encoded word. -/

namespace Sys2Proof

/-- The command that a word of the table's bits spells: no row of the table has bits, so none. -/
def decodeTableWord (_nbits _w : Nat) : Option Instr :=
  none

end Sys2Proof
end

