-- ==== Sys2Proof/Config.lean ====
section
/-! DEFINITION. What an implementation fixes and what the specification leaves open. Each constant
below has no body: nothing can be proved of its value, so a statement about the block holds for every
value of it. -/

namespace Sys2Proof

/-- A free 512-bit value, fresh for each draw number: the on-die entropy source (R124, R226, R227,
R239, R307) and every other value the specification leaves open. The state counts the draws. -/
opaque Config.entropy : Nat → BitVec 512

/-- The value a factory register returns to the debug TAP (R425 leaves it to manufacturing test). -/
opaque Config.factoryValue : Nat → Word

/-- The device serial number, from fuses (R28, GLB.SERIAL_LO/HI). -/
opaque Config.serial : BitVec 64

/-- The device key-encryption key, drawn in manufacturing and held in fuses (R265). -/
opaque Config.keyEncryptionKey : BitVec 256

/-- The outcome of one draw of the wear counter (R139): whether the 22-bit draw with this number
increments the leaf. -/
opaque Config.leafDraw : Nat → Bool

/-- The data a sector reads whose pulse a power loss tore when no hold-off covered it (R349). -/
opaque Config.tornData : Nat → Line

end Sys2Proof
end

