-- ==== Sys2Proof/Machine/State.lean ====
section
/-! DEFINITION. The state of the block as plain data, its value right after the always-on power-on
reset, and the reasons a step can stop. -/

namespace Sys2Proof.Machine

open Sys2Proof

/-- Data kept by key: pairs of strictly rising keys, none listed that equals the default of its map. -/
abbrev Sparse (α : Type) := List (Nat × α)

/-- One value for each of the four lines of a block. -/
structure Four (α : Type) where
  l0 : α
  l1 : α
  l2 : α
  l3 : α
  deriving DecidableEq, Repr

/-- The same value for all four lines. -/
def Four.all {α : Type} (a : α) : Four α := ⟨a, a, a, a⟩

/-- Logbook and event severities, in rank order (R4, Table LOG-1). -/
inductive Severity where
  | note | warn | fault | critical
  deriving DecidableEq, Repr

/-- The five service levels (Table ARCH-5). -/
inductive Level where
  | full | absorbed | degraded | barePoles | outOfService
  deriving DecidableEq, Repr

/-- Reset levels (R344), coded as GLB.RESET_CAUSE.level. -/
inductive ResetLevel where
  | none | pon | sys | core
  deriving DecidableEq, Repr

/-! ## Requests, belay table and ports -/

/-- The operation of a CXL.mem request (Table PORT-2). -/
inductive MemOp where
  | rd | inv | spec | wr | wrPtl
  deriving DecidableEq, Repr

/-- A request in a port's ingress buffer, with its device DPA once a decoder has matched (R57). -/
structure PortReq where
  op : MemOp
  dpa : Nat
  data : Line
  enables : Mask
  poison : Bool
  err : CacheErr
  unsupported : Bool
  deriving DecidableEq, Repr

/-- A message the port sends: NDR Cmp or DRS MemData (Table PORT-2), with the DevLoad it carries. -/
structure S2M where
  isData : Bool
  data : Line
  poison : Bool
  devload : BitVec 2
  rwd : Bool
  deriving DecidableEq, Repr

/-- The belay states of Table REQ-1, but for FREE (an absent entry) and ORPHAN (a flag beside the
state the entry works in). -/
inductive BelayState where
  | wait | lookup | fill | write | respond | prefetch
  deriving DecidableEq, Repr

/-- One belay entry (R57, R58, Table REQ-1): the copy of its request, its acceptance time in 0.5 ns
cycles, its place in the acceptance order, and its response once built. -/
structure Belay where
  st : BelayState
  orphan : Bool
  port : Port
  req : PortReq
  accepted : Nat
  order : Nat
  hit : Bool
  window : Bool
  data : Line
  respPoison : Bool
  creditWait : Nat
  reserved : Bool
  deriving DecidableEq, Repr

/-- One HDM decoder of a port (R36, R37). -/
structure Decoder where
  committed : Bool
  lockOnCommit : Bool
  errNotCommitted : Bool
  base : Nat
  size : Nat
  skip : Nat
  ways : Nat
  granularity : Nat
  deriving DecidableEq, Repr

/-- The kinds of host event record (Table PORT-5, R44, R199, R412). -/
inductive HostKind where
  | generalMedia | memoryModule
  deriving DecidableEq, Repr

/-- One host event record (R199, R410). -/
structure HostRec where
  kind : HostKind
  source : Nat
  severity : Severity
  detail : Detail
  time : BitVec 64
  handle : Nat
  deriving DecidableEq, Repr

/-- One event log of 256 records with the overflow count and timestamps of the CXL specification. -/
structure EvLog where
  recs : List HostRec
  overflow : Nat
  firstOverflow : BitVec 64
  lastOverflow : BitVec 64
  deriving DecidableEq, Repr

/-- The link power state of a port (R48, R343). -/
inductive LinkPm where
  | l0
  | l0p (w : LinkWidth)
  | l1
  deriving DecidableEq, Repr

/-- Everything one host port holds (chapter "Host ports"). -/
structure PortState where
  lock : Bool
  mode : BitVec 2
  maxWidth : BitVec 2
  maxRate : BitVec 2
  flitLatopt : Bool
  l0pEn : Bool
  partBase : BitVec 20
  partSize : BitVec 21
  severe : Byte
  moderate : Byte
  optimal : Byte
  recoveryCount : Nat
  recoveries : List Nat
  devload : BitVec 2
  devloadBelow : Option Nat
  viral : Bool
  memEnabled : Bool
  latoptInUse : Bool
  width : BitVec 3
  rate : BitVec 3
  linkUp : Bool
  pm : LinkPm
  training : Bool
  rateCap : BitVec 3
  widthCap : BitVec 3
  perst : Bool
  perstAt : Nat
  released : Bool
  releasedAt : Nat
  infoValid : Bool
  reqUsed : Nat
  rwdUsed : Nat
  ndrCredits : Nat
  drsCredits : Nat
  lowCreditsNoted : Bool
  ingressReq : List PortReq
  ingressRwd : List PortReq
  answers : List S2M
  lastSent : Option S2M
  decoders : Sparse Decoder
  logs : Sparse EvLog
  nextHandle : Nat
  logVector : Sparse Nat
  msixSent : BitVec 32
  aerReceiver : Bool
  aerReplay : Bool
  aerSurpriseDown : Bool
  aerFatal : Bool
  rasUncorrectable : Bool
  rasViral : Bool
  rasHeader : BitVec 128
  gpf1Done : Bool
  gpf2Done : Bool
  winReads : Nat
  winMisses : Nat
  winWrites : Nat
  winSameLine : Bool
  admitSeen : BitVec 5
  hostMarginLane : Option (Fin 16)
  marginVoltage : Nat
  marginTiming : Nat
  gpf2Order : Option Nat
  quietSince : Nat
  pathLost : Bool
  deriving DecidableEq, Repr

/-- The belay table (R57, R58): entries not FREE by index, the reissue queue, the fenced banks, the
late count and the running acceptance order. -/
structure Bly where
  entries : Sparse Belay
  reissue : List Belay
  fenced : Byte
  lateCount : Nat
  nextOrder : Nat
  deriving DecidableEq, Repr

/-! ## Staging cache and victim buffer -/

/-- Line states of Table CACHE-4. -/
inductive LineState where
  | invalid | clean | dirtyFull | dirtyPartial
  deriving DecidableEq, Repr

/-- One way: its tag entry (Table CACHE-3), its home copy and home masks, and the bookkeeping of a
write-back that leaves it valid. The mirror slot is keyed stack × 2^23 + slot. -/
structure Way where
  tag : Nat
  lines : Four LineState
  poison : BitVec 4
  mslot : Option Nat
  data : Four Line
  mask : Four Mask
  held : Bool
  dirtySince : Nat
  flushing : Option Nat
  written : BitVec 4
  flush : Bool
  deriving DecidableEq, Repr

/-- One mirror slot in use (Table CACHE-2): its header LSN, the copies and masks it holds, and whether
the extra unit of R103 is charged to it. -/
structure Mirror where
  lsn : Nat
  data : Four Line
  mask : Four Mask
  extra : Bool
  deriving DecidableEq, Repr

/-- Roles of a physical slice, coded as CSn.STATUS.role. -/
inductive SliceRole where
  | idle | active | bypassing | failed
  deriving DecidableEq, Repr

/-- The registers and bookkeeping of one physical slice (chapter "Staging cache"). -/
structure SliceState where
  serves : Option Nat
  bypassFor : Option Nat
  role : SliceRole
  tagSramFenced : Bool
  corrected : Nat
  uncorrectable : Nat
  tagParity : Nat
  errLsn : BitVec 40
  errLine : BitVec 2
  errValid : Bool
  maintAll : Bool
  maintOp : BitVec 3
  maintBusy : Bool
  maintDone : Bool
  maintError : Bool
  maintStart : BitVec 40
  maintCount : BitVec 32
  maintSkip : Nat
  maintWaits : List Nat
  patrolPtr : Nat
  deriving DecidableEq, Repr

/-- A planned handover (R97): outgoing and incoming physical slice and its cutover time. -/
structure Handover where
  out : Nat
  inc : Nat
  lslice : Nat
  start : Nat
  deriving DecidableEq, Repr

/-- The staging cache: ways keyed (slice × 655,360 + set) × 16 + way, pseudo-LRU bits per set, mirror
slots, the tag SRAM's index array, the stacks and pseudo-channels, and the slices. -/
structure Cache where
  ways : Sparse Way
  plru : Sparse (BitVec 15)
  mirror : Sparse Mirror
  tagSram : Sparse Nat
  stackOk : BitVec 2
  stackFailed : BitVec 2
  pcFenced : BitVec 64
  handover : Option Handover
  slices : Sparse SliceState
  unserved : BitVec 16
  stackHotAt : Sparse Nat
  eyes : Sparse Nat
  recalAt : Sparse Nat
  deriving DecidableEq, Repr

/-- Victim-buffer entry states of Table CACHE-7, but for FREE (an absent entry). -/
inductive VictimState where
  | held | queued | issued
  deriving DecidableEq, Repr

/-- One victim-buffer entry with its eviction tracker (R86, R108). -/
structure Victim where
  st : VictimState
  lsn : Nat
  lines : Four LineState
  poison : BitVec 4
  mask : Four Mask
  data : Four Line
  mslot : Option Nat
  tracker : Option (Four Line)
  trackPoison : BitVec 4
  set : Option Nat
  order : Nat
  since : Nat
  merging : Option Nat
  maint : Option Nat
  sweep : Bool
  rebuilding : Bool
  deriving DecidableEq, Repr

/-- The victim buffer (R86 to R89) and its race counters. -/
structure Vbf where
  entries : Sparse Victim
  fenced : Byte
  rebuilding : Byte
  reserved : Nat
  recalls : Nat
  cancels : Nat
  nextOrder : Nat
  deriving DecidableEq, Repr

/-! ## Media, stripes, reads and programs -/

/-- What a data sector holds (R174, R175, R222): the plaintext that its ciphertext encodes, the key
and the tweak it was encrypted with, the key slot and poison bits of its metadata, and its stamp. -/
structure Stored where
  plain : Four Line
  key : BitVec 512
  slot : Nat
  poison : BitVec 4
  stamp : BitVec 40
  deriving DecidableEq, Repr

/-- A member of a stripe row. -/
inductive Member where
  | data (j : Nat)
  | p
  | q
  deriving DecidableEq, Repr

/-- Kinds of a program in the in-flight list (R116, R120). -/
inductive ProgKind where
  | hostWriteBack | inPlace | unmapped
  deriving DecidableEq, Repr

/-- Status of a program (R150, R152, R154). -/
inductive ProgStatus where
  | queued | running | suspending | suspended | withdrawn
  deriving DecidableEq, Repr

/-- What a program writes: a data sector under its LSN, or the 264 B of a parity sector. -/
inductive ProgData where
  | sector (lsn : Nat) (c : Stored)
  | parity (row : Nat) (isQ : Bool) (bytes : BitVec 2112)
  deriving DecidableEq, Repr

/-- One program command (Table CHIUT-5) from its set to its confirmation. -/
structure Prog where
  kind : ProgKind
  set : Option Nat
  ch : Nat
  die : Nat
  sector : Nat
  data : ProgData
  status : ProgStatus
  tag : Nat
  suspends : Nat
  withdrawals : Nat
  started : Nat
  fails : Nat
  pulseRun : Nat
  deriving DecidableEq, Repr

/-- Forms of a write-back set (R132). -/
inductive SetForm where
  | full | readModify | reconstruct
  deriving DecidableEq, Repr

/-- A stripe set (R108, R132): its row, its members' victim entries, whether its first program has
been sent, and the belay entry of a write-through write. -/
structure StripeSet where
  row : Nat
  members : List (Nat × Nat)
  form : SetForm
  outstanding : List Nat
  sent : Bool
  sweep : Bool
  writer : Option Nat
  deriving DecidableEq, Repr

/-- Classes of a media read (Table READ-1). -/
inductive ReadClass where
  | demand | prefetch | background
  deriving DecidableEq, Repr

/-- Where a media read stands. -/
inductive ReadStatus where
  | queued | suspending | sensing | ready | transferred | around | done
  deriving DecidableEq, Repr

/-- One media read: the sector, its die, the belay entries it answers, the way held for its fill, the
members of its read-around, and its link state. -/
structure ReadOp where
  cls : ReadClass
  lsn : Nat
  ch : Nat
  die : Nat
  sector : Nat
  status : ReadStatus
  belays : List Nat
  way : Option Nat
  victim : Option Nat
  dual : Bool
  direct : Bool
  around : Bool
  members : List Nat
  confirmed : List Nat
  failed : List Nat
  bucket : Nat
  tag : Nat
  resends : Nat
  accepted : Nat
  tracker : Option Nat
  deriving DecidableEq, Repr

/-- A sector in Tier 3 (R183). -/
structure Tier3 where
  lsn : Nat
  start : Nat
  deriving DecidableEq, Repr

/-- Stages of a gap move (R128). -/
inductive GapStage where
  | reading | recorded
  deriving DecidableEq, Repr

/-- A gap move of one region (R128): source and target positions. -/
structure GapMove where
  source : Nat
  target : Nat
  stage : GapStage
  deriving DecidableEq, Repr

/-- Stripe and parity (STP): sets, programs, reads, scrub, refresh, recovery and rebuild. -/
structure Stp where
  sets : Sparse StripeSet
  nextSet : Nat
  progs : Sparse Prog
  nextProg : Nat
  reads : Sparse ReadOp
  nextRead : Nat
  parityFailed : BitVec 2
  passLog2 : Nat
  rewriteBucket : Nat
  scrubEnable : Bool
  passDays : Nat
  scrubPasses : Nat
  located : Nat
  unlocated : Nat
  scrubRow : Nat
  scrubHead : List Nat
  scrubDiscarded : List Nat
  rowTouched : List Nat
  tier3Queue : List Nat
  tier3Active : List Tier3
  recovered : Nat
  lost : Nat
  tier2AfterFail : Nat
  rebuildRate : Nat
  rebuildModule : Option Nat
  rebuildRow : Nat
  rebuildTimes : List Nat
  gapMoves : Sparse GapMove
  gapSeq : BitVec 32
  deriving DecidableEq, Repr

/-- The start-gap state of one region (R125). -/
structure Region where
  start : Nat
  gap : Nat
  programs : Nat
  deriving DecidableEq, Repr

/-- A remap entry (R146) with its copy pointer (R145) and the place the migration copies from. -/
structure Remap where
  migrating : Bool
  targetDie : Nat
  targetSwath : Nat
  pointer : Nat
  oldDie : Nat
  oldSwath : Nat
  deriving DecidableEq, Repr

/-- An adoption record (R147). -/
structure Adoption where
  slot : Nat
  die : Nat
  adopters : List (Nat × Nat)
  pointer : Nat
  deriving DecidableEq, Repr

/-- Poison-list states of Table INTEG-4. -/
inductive PoisonState where
  | host | pending | lost | injected | restored
  deriving DecidableEq, Repr

/-- A poison-list entry (Table INTEG-4). -/
structure Poison where
  lines : BitVec 4
  state : PoisonState
  time : BitVec 64
  deriving DecidableEq, Repr

/-- Wear and translation (WLV). Leaves, remap entries and spare counts are keyed by
(slot × 32 + die) × 2^20 + swath, or by slot × 32 + die. -/
structure Wlv where
  lock : Bool
  sgShift : Nat
  retireUnits : Nat
  loaded : Bool
  wearKey : Option (BitVec 256)
  regions : Sparse Region
  remap : Sparse Remap
  adoptions : List Adoption
  leaves : Sparse Nat
  leafDirty : List Nat
  leafSeq : Sparse Nat
  mediaLeaves : Sparse Nat
  spareUsed : Sparse Nat
  headUsed : Sparse Nat
  retired : Nat
  forced : Nat
  frozen : List Nat
  forcedOut : List Nat
  spareLowNoted : List Nat
  errorRetires : Sparse Nat
  ordered : Sparse RetireWhy
  poison : Sparse Poison
  overflow : Bool
  overflowAt : BitVec 64
  poisonDirty : List Nat
  cam : List Nat
  dies : Nat
  bump : Nat
  deriving DecidableEq, Repr

/-- One block descriptor of the dump journal (Table PERS-4) with its payload. -/
structure JRec where
  lsn : Nat
  lines : Four LineState
  poison : BitVec 4
  data : Four Line
  mask : Four Mask
  deriving DecidableEq, Repr

/-- One in-flight list entry (R116). -/
structure InFlight where
  ch : Nat
  die : Nat
  kind : ProgKind
  sector : Nat
  lsn : Nat
  deriving DecidableEq, Repr

/-- The journal of one dump epoch (R112 to R117). -/
structure Epoch where
  epoch : Nat
  recs : List JRec
  inflight : List InFlight
  sealed : Bool
  abandoned : Bool
  pages : Nat
  deriving DecidableEq, Repr

/-- What the media-set membership record says of a slot (R447). -/
inductive Standing where
  | inService
  | rebuilding (checkpoint : Nat)
  | retiring
  | out
  deriving DecidableEq, Repr

/-- One slot of the membership record. -/
structure MemberRec where
  serial : BitVec 64
  standing : Standing
  deriving DecidableEq, Repr

/-- What the media modules hold: sectors by LSN (each stripe row's code word kept once), sectors torn
by an unheld power loss, and the metadata areas of Table LAYOUT-4. -/
structure Media where
  cells : Sparse Stored
  base : Stored
  baseMap : Sparse Nat
  baseKeys : Sparse (BitVec 512)
  torn : List Nat
  setId : Option (BitVec 128)
  wearKey : Option (BitVec 256)
  keyMap : Option (Sparse Nat × Nat)
  keyMapGen : Nat
  members : Sparse MemberRec
  memberGen : Nat
  journal : Option Epoch
  poison : Sparse Poison
  registry : Sparse (List Byte)
  archive : List Nat
  rekeyPoint : Nat
  driftBase : Sparse Int
  sweepPoint : Sparse Nat
  scrubPoint : Nat
  deriving DecidableEq, Repr

/-! ## Media channels -/

/-- One die as its channel sees it (R158 to R163, R171, R205, R211). -/
structure DieState where
  clk : BitVec 48
  provisional : Bool
  late : Bool
  bucket : Nat
  table : Bool
  reload : Bool
  tempC : Int
  decoded : Nat
  passClk : Nat
  sweepRow : Nat
  base : Sparse Int
  up : Sparse Nat
  down : Sparse Nat
  hot : Bool
  notReady : Bool
  expiries : List Nat
  ackResent : Bool
  visits : Nat
  hotVisits : Nat
  deriving DecidableEq, Repr

/-- One address-table entry (R193, R414). -/
structure AddrEntry where
  sector : Word
  die : Nat
  outcome : Nat
  timeMs : Nat
  read : Bool
  deriving DecidableEq, Repr

/-- The weak-swath set's entry (R192). -/
structure Weak where
  key : Nat
  hits : Nat
  strong : Bool
  deriving DecidableEq, Repr

/-- One media channel (chapters "Media reads", "Media integrity", "Chiut"). -/
structure Mch where
  linkUp : Bool
  failed : Bool
  train : BitVec 2
  diesReady : Byte
  diesFailed : Byte
  retrains : Nat
  trainFails : Nat
  trained : Bool
  burstCrc : Nat
  packetCrc : Nat
  timeouts : Nat
  progFail : Nat
  crcTimes : List Nat
  bgLanes : BitVec 4
  pfLanes : BitVec 4
  bgSlots : BitVec 6
  pfSlots : BitVec 6
  suspends : Nat
  withdrawals : Nat
  readArounds : Nat
  dualReads : Nat
  driftSel : BitVec 3
  dies : Sparse DieState
  weak : List Weak
  strikes : Sparse Nat
  dcnt : Sparse Nat
  scrubHits : Sparse Nat
  tier1Fail : Nat
  heavy : Nat
  errSector : Word
  errValid : Bool
  errOutcome : Nat
  errDie : Nat
  addrTab : Sparse AddrEntry
  addrMade : Nat
  ringHead : Nat
  addrOverflow : Nat
  addrIdx : BitVec 6
  lastCommand : BitVec 128
  eyeMv : Nat
  deriving DecidableEq, Repr

/-! ## Shroud and keyed check engine -/

/-- Shroud slot states of Table SHR-1. -/
inductive SlotState where
  | empty | loaded | active | retiring
  deriving DecidableEq, Repr

/-- One Shroud key slot (R225). -/
structure KeySlot where
  state : SlotState
  key : BitVec 512
  deriving DecidableEq, Repr

/-- Codes of SHR.REKEY_STATUS.state. -/
inductive RekeyState where
  | idle | running | paused | finishing | aborting
  deriving DecidableEq, Repr

/-- The Shroud (SHR). -/
structure Shr where
  keyData : Sparse Word
  cmdError : Bool
  fmt : Bool
  op : BitVec 2
  slot : BitVec 6
  slots : Sparse KeySlot
  keyMap : Sparse Nat
  keyMapDefault : Nat
  keyMapLoaded : Bool
  mapIdx : BitVec 20
  rkError : Bool
  rkNew : BitVec 6
  rkOld : BitVec 6
  rkRate : Nat
  rkFirst : BitVec 20
  rkLast : BitVec 20
  rkState : RekeyState
  rkDone : Bool
  rkA : Nat
  rkB : Nat
  rkLo : Nat
  rkHi : Nat
  hemline : Nat
  enginesFenced : BitVec 20
  deriving DecidableEq, Repr

/-- Outcomes of a core G message (Table KCE-1). -/
inductive MsgOutcome where
  | ok | length | overrun | underrun | keyAbsent | entropy | aborted | engine
  deriving DecidableEq, Repr

/-- Owners of the cipher lock (Table KCE-2). -/
inductive LockOwner where
  | none | firmware | seal | verify | selfTest | debug
  deriving DecidableEq, Repr

/-- A running CMAC: the key, the chaining value, the bytes not yet absorbed and the count fed. -/
structure Cmac where
  key : BitVec 256
  chain : BitVec 128
  buf : List Byte
  fed : Nat
  deriving DecidableEq, Repr

/-- An extent in the seal map (R249): base and length in MiB, and whether it is SEALED. -/
structure Extent where
  base : Nat
  len : Nat
  sealed : Bool
  deriving DecidableEq, Repr

/-- A registry entry (R250, Table KCE-3). -/
structure Registry where
  keyReg : Nat
  base : Nat
  len : Nat
  seq : BitVec 64
  time : BitVec 64
  tag : BitVec 128
  generation : Nat
  deriving DecidableEq, Repr

/-- A seal in progress (R252). -/
structure SealRun where
  id : Nat
  keyReg : Nat
  base : Nat
  len : Nat
  mbox : Mbox
  seq : BitVec 64
  time : BitVec 64
  started : Bool
  nextLine : Nat
  tagDone : Bool
  tag : BitVec 128
  deriving DecidableEq, Repr

/-- A verify-read in progress (R259): the extent, the buffer base, the delivered length and whether
the fill runs. -/
structure VerifyRun where
  id : Nat
  mbox : Mbox
  buffer : Option Nat
  len : Nat
  nextLine : Nat
  delivered : Nat
  tag : Option (BitVec 128)
  deriving DecidableEq, Repr

/-- The keyed check engine (KCE) and the seal map. -/
structure Kce where
  keyData : Sparse Word
  cmdError : Bool
  op : BitVec 2
  reg : BitVec 3
  keys : Sparse (BitVec 256)
  loaded : Byte
  owner : LockOwner
  gen : BitVec 16
  ownedAt : Nat
  keyReg : BitVec 3
  msgLen : BitVec 41
  busy : Bool
  cmac : Cmac
  err : MsgOutcome
  tag : BitVec 128
  notOwner : Bool
  coreLFenced : Bool
  coreGFenced : Bool
  entropyOk : Bool
  stallG : Bool
  stallL : Option Nat
  extents : Sparse Extent
  registry : Sparse Registry
  sealing : Option SealRun
  verify : Option VerifyRun
  drops : Nat
  deriving DecidableEq, Repr

/-! ## Mainmast and Halyard -/

/-- Standing of a firmware slot's image (R282). -/
structure FwSlot where
  valid : Bool
  bytes : Nat
  deriving DecidableEq, Repr

/-- One command of the command journal (R277, R278); it leaves the journal when its completion is posted. -/
structure JCmd where
  mbox : Mbox
  opcode : BitVec 16
  retired : Bool
  deriving DecidableEq, Repr

/-- The control processors (MST). -/
structure Mst where
  running : Bool
  takeover : Bool
  activating : Bool
  activateAt : Nat
  activateMbox : Option Mbox
  unchecked : Bool
  lead : Option Nat
  checker : Option Nat
  spare : Option Nat
  retired : BitVec 3
  slot : Bool
  staged : Option Bool
  takeovers : Nat
  coreResets : Nat
  wdLock : Bool
  timeoutMs : Nat
  expiries : Nat
  kickedAt : Nat
  wdPaused : Bool
  expiryTimes : List Nat
  slotSwitched : Bool
  alternating : Bool
  switchAt : Nat
  banks : Sparse Nat
  bank : Bool
  tasks : Nat
  journal : List JCmd
  fw : Sparse FwSlot
  row : Nat
  released : Bool
  deriving DecidableEq, Repr

/-- Standard return codes (R291). -/
inductive RetCode where
  | success | backgroundStarted | invalidInput | unsupported | internalError | retryRequired | busy
  | mediaDisabled | fwAuthFailed | invalidSlot | activationFailedRolledBack | invalidPhysicalAddress
  | injectPoisonLimit | aborted | unsupportedMailbox | invalidPayloadLength | fwOutOfOrder
  deriving DecidableEq, Repr

/-- Vendor extended statuses (Table HCMD-1). -/
inductive Vendor where
  | none | nothingToAbort | permission | range | overlap | registryFull | keyAbsent | lockBusy
  | unavailable | engine | poisoned | macFail | mediaError | aborted | entropy | interrupted
  | registryLost | sealedLine | modulesOut | keyState | keyValue | rekeyState | moduleState
  | storeFailed | authFail | queueFull | moduleFailed
  deriving DecidableEq, Repr

/-- The named values that the standard commands return (Table HCMD-2, R294). -/
structure Health where
  maintenanceNeeded : Bool
  performanceDegraded : Bool
  replacementNeeded : Bool
  mediaNotReady : Bool
  lifeUsed : Nat
  temperature : Int
  dirtyShutdowns : Nat
  correctedVolatile : Nat
  correctedPersistent : Nat
  deriving DecidableEq, Repr

/-- Alert configuration of Set Alert Configuration (Table HCMD-2). -/
structure AlertCfg where
  lifeUsed : Nat
  overC : Int
  underC : Int
  volatileErrs : Nat
  persistentErrs : Nat
  deriving DecidableEq, Repr

/-- One run of poisoned 64 B lines reported by Get Poison List (R187): its DPA, its length in lines and the
state of its entries, which gives the source. -/
structure PoisonRun where
  dpa : Nat
  lines : Nat
  state : PoisonState
  deriving DecidableEq, Repr

/-- The output payload of a command: the bytes of Table HCMD-4 for a vendor command, the named values
of Table HCMD-2 for a standard one. -/
inductive Output where
  | empty
  | bytes (b : List Byte)
  | identify (serial : BitVec 64)
  | background (opcode : BitVec 16) (percent : Nat) (running : Bool) (rc vendor : BitVec 16)
  | events (recs : List HostRec) (more : Bool) (overflow : Nat) (first last : BitVec 64)
  | policy (vectors : List Nat)
  | fwInfo (active : Nat) (staged : Option Nat) (headers : List (List Byte))
  | timestamp (t : BitVec 64)
  | supportedLogs (effectsLog : Bool)
  | log (entries : List (BitVec 16 × Bool))
  | memoryDevice (total persistent volatileOnly alignment lsa poisonMax injectMax : Nat) (qos : Bool)
  | partition (active : Nat)
  | health (h : Health)
  | alerts (a : AlertCfg)
  | shutdown (clean : Bool)
  | poison (runs : List PoisonRun) (more overflow : Bool) (time : BitVec 64)
  deriving DecidableEq, Repr

/-- Mailbox states of Table MAST-4. -/
inductive MbState where
  | idle | pending | executing | completing
  deriving DecidableEq, Repr

/-- One mailbox (R285 to R288). -/
structure Mb where
  st : MbState
  opcode : BitVec 16
  payload : List Byte
  outLen : Nat
  background : Bool
  rc : BitVec 16
  vendor : BitVec 16
  rcReg : BitVec 16
  vendorReg : BitVec 16
  output : Output
  bgActive : Bool
  bgOpcode : BitVec 16
  bgPercent : Nat
  bgAbortable : Bool
  bgRetired : Bool
  bgAborted : Bool
  bgRc : BitVec 16
  bgVendor : BitVec 16
  bgOutput : Output
  bgSlot : Option Nat
  interrupts : Nat
  deriving DecidableEq, Repr

/-- The last MCTP response that no mailbox state shows (R289): the Busy answer to a request, and the answers to
the control messages. -/
inductive McTp where
  | busy (opcode : BitVec 16)
  | setEid (accepted : Bool) (eid : Byte)
  | getEid (eid : Byte)
  | version (msgType : Byte) (supported : Bool) (version : Word)
  | messageTypes (types : List Byte)
  deriving DecidableEq, Repr

/-- The mailboxes, the retire/abort arbiter and the sideband (HLY). -/
structure Hly where
  mb : Sparse Mb
  retireMbox : BitVec 3
  retireGranted : Bool
  retireLost : Bool
  abortMbox : BitVec 3
  abortGranted : Bool
  abortNothing : Bool
  sidebandOn : Bool
  smbAddr : BitVec 7
  eid : Byte
  mctpOut : Option McTp
  shutdownClean : Bool
  alertCfg : AlertCfg
  deriving DecidableEq, Repr

/-! ## Power, budgets, clocks, reset -/

/-- Sequencer states of Table PWR-4. -/
inductive SeqState where
  | down | ramp | run | dump | hold | resume | strike
  deriving DecidableEq, Repr

/-- Shutdown causes of SEQ.STATE.cause. -/
inductive Cause where
  | none | warning | shdn | railFault | overTemp | warnBeforeReplay
  deriving DecidableEq, Repr

/-- Slot states of Table CHIUT-10. -/
inductive SlotSt where
  | empty | powering | training | waiting | rebuilding | inService | retiring | safe | failed
  deriving DecidableEq, Repr

/-- One module slot (R210 to R216). -/
structure ModState where
  state : SlotSt
  tempMax : Byte
  alertCause : Byte
  dies : BitVec 2
  present : Bool
  rst : Bool
  railsOn : Bool
  powerGood : Bool
  refusedSetId : Bool
  ident : Option Identity
  retries : Nat
  coolSince : Option Nat
  retireMbox : Option Mbox
  admitMbox : Option Mbox
  deriving DecidableEq, Repr

/-- The sequencer (SEQ). -/
structure Seq where
  state : SeqState
  cause : Cause
  railsEn : BitVec 7
  strikeLock : Bool
  strikeDv : Byte
  vinMv : BitVec 16
  stable : Bool
  atResume : Bool
  warn : Bool
  belowStrike : Bool
  overVolt : Bool
  shdn : Bool
  railFault : BitVec 7
  railWarn : BitVec 7
  railIn : BitVec 7
  brdStretch : Byte
  modStretch : Byte
  busFailed : Bool
  busErrors : Nat
  unresponsive : BitVec 18
  unrespTimes : List Nat
  autoAdmit : Bool
  mods : Sparse ModState
  brdRst : Bool
  started : Bool
  rampFails : Nat
  rampBlocked : Bool
  rampNext : Nat
  downAt : Nat
  shutAt : Nat
  dumpDoneAt : Option Nat
  overAt : Option Nat
  hotAt : Option Nat
  epochTaken : Nat
  deriving DecidableEq, Repr

/-- One reef permit, waiting or held (R329 to R331): the programs it still covers, the tokens of one of
them, and its whole cost. -/
structure Permit where
  holder : Holder
  media : Bool
  programs : Nat
  each : Nat
  cost : Nat
  level : Nat
  target : Option Slot
  since : Nat
  deriving DecidableEq, Repr

/-- The reef (REEF). -/
structure Reef where
  budgetW : Nat
  pkgTokens : Nat
  prog : Nat
  failed : Bool
  refusals : Nat
  waiting : Sparse Permit
  held : Sparse Permit
  nextId : Nat
  capHalved : BitVec 18
  deriving DecidableEq, Repr

/-- Sleep states of Table BUD-4. -/
inductive Sleep where
  | trim | luff | furl | stow | layUp
  deriving DecidableEq, Repr

/-- What one domain's sleep logic holds (R340 to R342): its state, the wake it has scheduled and the
limit a late wake set. -/
structure DomSleep where
  state : Sleep
  wakeAt : Option Nat
  limit : Sleep
  deriving DecidableEq, Repr

/-- The clocks (CLK). Sleep bookkeeping is keyed by a domain number. -/
structure Clk where
  xtalOk : Bool
  onRc : Bool
  rcTrimAt : Option Nat
  refOk : BitVec 2
  dpllLock : BitVec 2
  dpllActive : Bool
  dpllSpareLost : Bool
  mpllLock : Bool
  refSwitches : Nat
  plls : Sparse Nat
  holdover : Option Nat
  freeRun : Bool
  dpStopped : Bool
  lock : Bool
  portL1En : Bool
  maxChiut : BitVec 3
  maxSlice : BitVec 3
  maxCore : BitVec 3
  maxAux : BitVec 3
  mpllFailed : Bool
  dpllFailed : BitVec 2
  portFailed : BitVec 2
  hbmFailed : BitVec 2
  fuseFailed : Bool
  chiutFailed : BitVec 18
  sleep : Sparse DomSleep
  deriving DecidableEq, Repr

/-- A reset being held off (R349, R350). -/
structure ResetReq where
  level : ResetLevel
  source : Nat
  afterRun : Bool
  deriving DecidableEq, Repr

/-- Reset control (RST and the reset registers of GLB). -/
structure Rst where
  sysCount : Nat
  prevLevel : ResetLevel
  prevSource : BitVec 5
  level : ResetLevel
  source : BitVec 5
  request : Option ResetReq
  aon : Bool
  datapath : Bool
  filled : Bool
  darn : Bool
  bootAt : Nat
  mediaUpAt : Option Nat
  booted : Bool
  deriving DecidableEq, Repr

/-! ## Ageing, logbook, sea chest, ditty bag -/

/-- Ticket states (Table HCMD-4). -/
inductive TicketState where
  | waiting | running | passed | failed | cancelled
  deriving DecidableEq, Repr

/-- One self-test ticket (R305, R373). -/
structure Ticket where
  id : Nat
  test : Nat
  unit : Nat
  notBefore : Nat
  state : TicketState
  detail : Nat
  startT : BitVec 64
  endT : BitVec 64
  since : Nat
  cancel : Bool
  deriving DecidableEq, Repr

/-- A slice in progress (R370): the test, its unit and its ticket. -/
structure SliceRun where
  test : Nat
  unit : Nat
  ticket : Option Nat
  deriving DecidableEq, Repr

/-- A tell-tale history record (R368). -/
structure Hist where
  summary : Bool
  time : BitVec 64
  capMf : Nat
  esr : Nat
  euMj : Nat
  generation : BitVec 16
  slack : Nat
  eye : Nat
  prog : Nat
  hostMargin : Nat
  chiutMargin : Nat
  passLog2 : Nat
  deriving DecidableEq, Repr

/-- Tell-tales (TEL). -/
structure Tel where
  busy : Bool
  valid : Bool
  dropoutDv : Nat
  strings : Nat
  intervalH : Nat
  capMf : Nat
  esr : Nat
  measuredAt : Option Nat
  planTime : BitVec 64
  euMj : Nat
  measured : Bool
  invalidRun : Nat
  history : List Hist
  projectAt : Option Nat
  summaryAt : Option Nat
  slack : Option Nat
  slackAt : Option Nat
  pulseSum : Sparse Nat
  pulseCount : Sparse Nat
  residualUp : Sparse Nat
  residualDown : Sparse Nat
  passHot : Bool
  calmPasses : Nat
  inputHighAt : Option Nat
  deriving DecidableEq, Repr

/-- The trim plan (TRM): values computed, values in force and overrides, by margin identifier; `due` while a
cause of R364 asks for a plan. -/
structure Trm where
  generation : BitVec 16
  stale : Bool
  computedAt : Nat
  appliedT : BitVec 64
  due : Bool
  values : Sparse Int
  applied : Sparse Int
  overrides : Sparse Int
  slice : Option SliceRun
  tickets : List Ticket
  nextTicket : Nat
  deriving DecidableEq, Repr

/-- Logbook record types of Table LOG-2. -/
inductive RecType where
  | event | boot | chain | clear | sealDone | sealVoid | debugEnter | debugExit | key | lost | outcome
  | other (code : Byte)
  deriving DecidableEq, Repr

/-- One logbook record or pair (R374): a pair takes two slots and two numbers, `seq` being the first.
The payload is 16 B, or 46 B for a pair. -/
structure LogRec where
  seq : Nat
  sev : Severity
  type : RecType
  time : BitVec 64
  payload : List Byte
  pair : Bool
  archived : Bool
  deriving DecidableEq, Repr

/-- A clear whose CLEAR pair is written and not yet confirmed in both archive copies (R388). -/
structure ClearRun where
  bound : Nat
  seq : Nat
  mbox : Mbox
  deriving DecidableEq, Repr

/-- The logbook (LOG). -/
structure Logb where
  restored : Bool
  queue : List LogRec
  ring : List LogRec
  archive : List LogRec
  block : Nat
  n : Nat
  nextBlock : Option Nat
  saturated : Bool
  lostNote : Nat
  lostWarn : Nat
  lostFault : Nat
  lostCritical : Nat
  lostTotal : Nat
  owed : Sparse Nat
  owedUnknown : Nat
  lostAfter : Nat
  wrPair : Bool
  wrSev : BitVec 2
  wrType : Byte
  wrData : Sparse Word
  chainTag : BitVec 128
  prevTag : BitVec 128
  chainSeq : Nat
  prevChainSeq : Nat
  chainIndex : Nat
  chainFrom : Nat
  chainCount : Nat
  chainAt : Nat
  clearBound : Nat
  clearPending : Option ClearRun
  snapshots : Sparse (Nat × Nat)
  deriving DecidableEq, Repr

/-- One parameter-log record (R392). -/
structure SRec where
  id : BitVec 15
  payload : List Byte
  txn : Nat
  withdrawn : Bool
  deriving DecidableEq, Repr

/-- The sea chest (SEA). -/
structure Sea where
  recs : List SRec
  txn : Nat
  freeBytes : Nat
  activeLog : Bool
  generation : Nat
  otherErased : Bool
  erases : Sparse Nat
  counters : Sparse (BitVec 64)
  ctrSlots : Nat
  extents : Sparse Extent
  flash : List Host.Cell
  progs : Sparse Nat
  storeFailed : Bool
  rawError : Bool
  erasing : Bool
  settled : Bool
  rawOp : BitVec 2
  rawLen : BitVec 9
  rawOffset : BitVec 9
  rawPage : BitVec 11
  rawBuf : Sparse Word
  ctr : BitVec 3
  deriving DecidableEq, Repr

/-- The ditty bag (DTY): the power event, the boot stage, the debug copies, the free registers, the
448 newest logbook records and the rest of the retained SRAM. -/
structure Dty where
  evValid : Bool
  evPhase : BitVec 3
  evRail : BitVec 4
  evSlot : BitVec 5
  evTime : BitVec 16
  stage : Byte
  bootLevel : Byte
  bootMs : BitVec 16
  dbgEpoch : BitVec 24
  dbgStart : BitVec 64
  dbgOwed : Bool
  fw : Sparse Word
  recs : List LogRec
  sram : List Host.Cell
  deriving DecidableEq, Repr

/-! ## Events, counters, debug -/

/-- One event source (EVT.SRC_CFG and the coalescing of R407). -/
structure Src where
  pending : Bool
  count : Nat
  sev : Option Severity
  host : Option Bool
  alert : Option Bool
  mst : Bool
  lastRec : Option Nat
  heldCount : Nat
  heldSev : Severity
  heldDetail : Detail
  deriving DecidableEq, Repr

/-- One leaky bucket (R413). -/
structure Bucket where
  level : Nat
  fired : Nat
  deriving DecidableEq, Repr

/-- Events (EVT): sources, the Mainmast FIFO, buckets keyed class × 1,024 + unit, the logs of mailbox
4 and DEV_ALERT_N. -/
structure Evt where
  sel : BitVec 11
  src : Sparse Src
  fifo : List Nat
  fifoOverflow : Bool
  bucketClass : BitVec 3
  bucketUnit : BitVec 10
  buckets : Sparse Bucket
  logs : Sparse EvLog
  nextHandle : Nat
  alert : Bool
  alertAt : Nat
  deriving DecidableEq, Repr

/-- One performance-counter unit (R416). -/
structure PmuUnit where
  freeze : Bool
  cycInt : Bool
  int : Byte
  ovf : BitVec 9
  cyc : BitVec 64
  en : Byte
  edge : Byte
  thresh : Sparse (BitVec 24)
  event : Sparse (BitVec 12)
  cnt : Sparse (BitVec 48)
  prev : Sparse Nat
  deriving DecidableEq, Repr

/-- The performance counters (PMU): the units, the grants, and the occurrences of the present cycle. -/
structure Pmu where
  units : Sparse PmuUnit
  grant0 : BitVec 4
  grant1 : BitVec 4
  occ : Sparse Nat
  deriving DecidableEq, Repr

/-- Debug access (DBG.STATUS). -/
structure Dbg where
  granted : Bool
  strap : Bool
  entering : Bool
  storeFailed : Bool
  saturated : Bool
  epoch : BitVec 24
  deriving DecidableEq, Repr

/-- The last result of a software register access: the word it returned and whether Mainmast took a
bus error (R426). -/
structure Access where
  value : BitVec 64
  busError : Bool
  deriving DecidableEq, Repr

/-- The high-word latches and staged writes of one access path (R5, R427). -/
structure Latches where
  high : Sparse Word
  timeLo : Option Word
  deriving DecidableEq, Repr

/-- The global registers and conditions (GLB). -/
structure Glb where
  time : BitVec 64
  timeHalf : Bool
  energyMj : Nat
  budget : Nat
  effBudget : Nat
  reserved : Nat
  dumpEpoch : Nat
  dumpOutcome : Nat
  replayDone : Bool
  replaying : Bool
  epochCounter : Nat
  epochConsumed : Nat
  dumping : Bool
  dumpInflight : List InFlight
  admitOpen : Bool
  level : Level
  memoryActive : Bool
  formatting : Bool
  erasing : Bool
  scratch : Sparse Word
  deriving DecidableEq, Repr

/-- The whole block. `pending` is the queue of commands waiting, first in, first out; `clock` is the
time since State.reset in units of 0.5 ns; `draws` counts the free values drawn. -/
structure State where
  pending : List Instr
  clock : Nat
  draws : Nat
  access : Access
  latches : Sparse Latches
  glb : Glb
  port0 : PortState
  port1 : PortState
  bly : Bly
  cache : Cache
  vbf : Vbf
  stp : Stp
  wlv : Wlv
  media : Media
  mch : Sparse Mch
  shr : Shr
  kce : Kce
  mst : Mst
  hly : Hly
  seq : Seq
  reef : Reef
  clk : Clk
  rst : Rst
  tel : Tel
  trm : Trm
  log : Logb
  sea : Sea
  dty : Dty
  evt : Evt
  pmu : Pmu
  dbg : Dbg
  deriving DecidableEq, Repr

/-! ## Values right after reset

Each register below holds the value of its Reset column. The bookkeeping beside the registers, for
which the specification has no reset column, starts empty or at zero (log entries 2 and 3). -/

/-- All four lines zero. -/
def Four.zero : Four Line := Four.all 0#512

/-- The cell of every sector that no program has written (log entry 4). -/
def Stored.zero : Stored := ⟨Four.zero, 0#512, 0, 0#4, 0#40⟩

/-- A decoder that is not committed. -/
def Decoder.reset : Decoder := ⟨false, false, false, 0, 0, 0, 1, 256⟩

/-- An empty event log. -/
def EvLog.reset : EvLog := ⟨[], 0, 0#64, 0#64⟩

/-- A port held in reset. -/
def PortState.reset : PortState where
  lock := false
  mode := 0b00#2
  maxWidth := 0b00#2
  maxRate := 0b00#2
  flitLatopt := true
  l0pEn := true
  partBase := 0#20
  partSize := 0#21
  severe := 0xD0#8
  moderate := 0xA0#8
  optimal := 0x40#8
  recoveryCount := 0
  recoveries := []
  devload := 0#2
  devloadBelow := none
  viral := false
  memEnabled := false
  latoptInUse := false
  width := 0#3
  rate := 0#3
  linkUp := false
  pm := .l0
  training := false
  rateCap := 7#3
  widthCap := 5#3
  perst := true
  perstAt := 0
  released := false
  releasedAt := 0
  infoValid := false
  reqUsed := 0
  rwdUsed := 0
  ndrCredits := 0
  drsCredits := 0
  lowCreditsNoted := false
  ingressReq := []
  ingressRwd := []
  answers := []
  lastSent := none
  decoders := []
  logs := []
  nextHandle := 1
  logVector := []
  msixSent := 0#32
  aerReceiver := false
  aerReplay := false
  aerSurpriseDown := false
  aerFatal := false
  rasUncorrectable := false
  rasViral := false
  rasHeader := 0#128
  gpf1Done := false
  gpf2Done := false
  winReads := 0
  winMisses := 0
  winWrites := 0
  winSameLine := false
  admitSeen := 0#5
  hostMarginLane := none
  marginVoltage := 0
  marginTiming := 0
  gpf2Order := none
  quietSince := 0
  pathLost := false

/-- The belay table with every entry FREE. -/
def Bly.reset : Bly := ⟨[], [], 0#8, 0, 0⟩

/-- Slice registers of an idle spare: the reset values of CS16. -/
def SliceState.idle : SliceState where
  serves := none
  bypassFor := none
  role := .idle
  tagSramFenced := false
  corrected := 0
  uncorrectable := 0
  tagParity := 0
  errLsn := 0#40
  errLine := 0#2
  errValid := false
  maintAll := false
  maintOp := 0#3
  maintBusy := false
  maintDone := false
  maintError := false
  maintStart := 0#40
  maintCount := 0#32
  maintSkip := 0
  maintWaits := []
  patrolPtr := 0

/-- The reset values of CSn: CS0 to CS15 serve the logical slice of their own number. -/
def SliceState.reset (n : Nat) : SliceState :=
  if n < 16 then { SliceState.idle with serves := some n, role := .active } else SliceState.idle

/-- The staging cache with nothing in it and no stack trained. -/
def Cache.reset : Cache where
  ways := []
  plru := []
  mirror := []
  tagSram := []
  stackOk := 0b00#2
  stackFailed := 0b00#2
  pcFenced := 0#64
  handover := none
  slices := (List.range 16).map fun n => (n, SliceState.reset n)
  unserved := 0#16
  stackHotAt := []
  eyes := []
  recalAt := []

/-- The victim buffer with every entry FREE. -/
def Vbf.reset : Vbf := ⟨[], 0#8, 0#8, 0, 0, 0, 0⟩

/-- Stripe and parity with nothing under way. -/
def Stp.reset : Stp where
  sets := []
  nextSet := 0
  progs := []
  nextProg := 0
  reads := []
  nextRead := 0
  parityFailed := 0#2
  passLog2 := 0x16
  rewriteBucket := 0x14
  scrubEnable := true
  passDays := 0x0E
  scrubPasses := 0
  located := 0
  unlocated := 0
  scrubRow := 0
  scrubHead := []
  scrubDiscarded := []
  rowTouched := []
  tier3Queue := []
  tier3Active := []
  recovered := 0
  lost := 0
  tier2AfterFail := 0
  rebuildRate := 0x0C
  rebuildModule := none
  rebuildRow := 0
  rebuildTimes := []
  gapMoves := []
  gapSeq := 0#32

/-- A region that has made no gap move (R125). -/
def Region.reset : Region := ⟨0, 1048576, 0⟩

/-- WLV before its tables are loaded; 32 dies a module (log entry 5). -/
def Wlv.reset : Wlv where
  lock := false
  sgShift := 0xA
  retireUnits := 0xA8C
  loaded := false
  wearKey := none
  regions := []
  remap := []
  adoptions := []
  leaves := []
  leafDirty := []
  leafSeq := []
  mediaLeaves := []
  spareUsed := []
  headUsed := []
  retired := 0
  forced := 0
  frozen := []
  forcedOut := []
  spareLowNoted := []
  errorRetires := []
  ordered := []
  poison := []
  overflow := false
  overflowAt := 0#64
  poisonDirty := []
  cam := []
  dies := 32
  bump := 0

/-- Modules that hold no media set (log entry 4). -/
def Media.reset : Media where
  cells := []
  base := Stored.zero
  baseMap := []
  baseKeys := []
  torn := []
  setId := none
  wearKey := none
  keyMap := none
  keyMapGen := 0
  members := []
  memberGen := 0
  journal := none
  poison := []
  registry := []
  archive := []
  rekeyPoint := 0
  driftBase := []
  sweepPoint := []
  scrubPoint := 0

/-- A die of which nothing is known yet: provisional (R161). -/
def DieState.reset : DieState where
  clk := 0#48
  provisional := true
  late := false
  bucket := 0
  table := false
  reload := false
  tempC := 0
  decoded := 0
  passClk := 0
  sweepRow := 0
  base := []
  up := []
  down := []
  hot := false
  notReady := false
  expiries := []
  ackResent := false
  visits := 0
  hotVisits := 0

/-- An empty address-table entry. -/
def AddrEntry.empty : AddrEntry := ⟨0#32, 0, 0, 0, false⟩

/-- A media channel that has not been trained. -/
def Mch.reset : Mch where
  linkUp := false
  failed := false
  train := 0b00#2
  diesReady := 0#8
  diesFailed := 0#8
  retrains := 0
  trainFails := 0
  trained := false
  burstCrc := 0
  packetCrc := 0
  timeouts := 0
  progFail := 0
  crcTimes := []
  bgLanes := 0x4#4
  pfLanes := 0x2#4
  bgSlots := 0x10#6
  pfSlots := 0x08#6
  suspends := 0
  withdrawals := 0
  readArounds := 0
  dualReads := 0
  driftSel := 0#3
  dies := []
  weak := []
  strikes := []
  dcnt := []
  scrubHits := []
  tier1Fail := 0
  heavy := 0
  errSector := 0#32
  errValid := false
  errOutcome := 0
  errDie := 0
  addrTab := []
  addrMade := 0
  ringHead := 16
  addrOverflow := 0
  addrIdx := 0#6
  lastCommand := 0#128
  eyeMv := 0

/-- An EMPTY key slot. -/
def KeySlot.empty : KeySlot := ⟨.empty, 0#512⟩

/-- The Shroud with every slot EMPTY. -/
def Shr.reset : Shr where
  keyData := []
  cmdError := false
  fmt := false
  op := 0#2
  slot := 0#6
  slots := []
  keyMap := []
  keyMapDefault := 0
  keyMapLoaded := false
  mapIdx := 0#20
  rkError := false
  rkNew := 0#6
  rkOld := 0#6
  rkRate := 8
  rkFirst := 0#20
  rkLast := 0#20
  rkState := .idle
  rkDone := false
  rkA := 0
  rkB := 0
  rkLo := 0
  rkHi := 0
  hemline := 0
  enginesFenced := 0#20

/-- No CMAC running. -/
def Cmac.reset : Cmac := ⟨0#256, 0#128, [], 0⟩

/-- The keyed check engine with no key loaded. -/
def Kce.reset : Kce where
  keyData := []
  cmdError := false
  op := 0#2
  reg := 0#3
  keys := []
  loaded := 0#8
  owner := .none
  gen := 0#16
  ownedAt := 0
  keyReg := 0#3
  msgLen := 0#41
  busy := false
  cmac := Cmac.reset
  err := .ok
  tag := 0#128
  notOwner := false
  coreLFenced := false
  coreGFenced := false
  entropyOk := false
  stallG := false
  stallL := none
  extents := []
  registry := []
  sealing := none
  verify := none
  drops := 0

/-- A firmware slot that holds no image. -/
def FwSlot.empty : FwSlot := ⟨false, 0⟩

/-- Mainmast held in reset: C0 leads, C1 checks, C2 is the spare. -/
def Mst.reset : Mst where
  running := false
  takeover := false
  activating := false
  activateAt := 0
  activateMbox := none
  unchecked := false
  lead := some 0
  checker := some 1
  spare := some 2
  retired := 0#3
  slot := false
  staged := none
  takeovers := 0
  coreResets := 0
  wdLock := false
  timeoutMs := 0x1F4
  expiries := 0
  kickedAt := 0
  wdPaused := false
  expiryTimes := []
  slotSwitched := false
  alternating := false
  switchAt := 0
  banks := []
  bank := false
  tasks := 0
  journal := []
  fw := []
  row := 0
  released := false

/-- The alert configuration before Set Alert Configuration (log entry 3). -/
def AlertCfg.reset : AlertCfg := ⟨0, 0, 0, 0, 0⟩

/-- An IDLE mailbox. -/
def Mb.reset : Mb where
  st := .idle
  opcode := 0#16
  payload := []
  outLen := 0
  background := false
  rc := 0#16
  vendor := 0#16
  rcReg := 0#16
  vendorReg := 0#16
  output := .empty
  bgActive := false
  bgOpcode := 0#16
  bgPercent := 0
  bgAbortable := false
  bgRetired := false
  bgAborted := false
  bgRc := 0#16
  bgVendor := 0#16
  bgOutput := .empty
  bgSlot := none
  interrupts := 0

/-- Halyard with every mailbox IDLE. -/
def Hly.reset : Hly where
  mb := []
  retireMbox := 0#3
  retireGranted := false
  retireLost := false
  abortMbox := 0#3
  abortGranted := false
  abortNothing := false
  sidebandOn := false
  smbAddr := 0x64#7
  eid := 0#8
  mctpOut := none
  shutdownClean := true
  alertCfg := AlertCfg.reset

/-- An EMPTY module slot with MOD_RST_N asserted and its rails off. -/
def ModState.reset : ModState where
  state := .empty
  tempMax := 0#8
  alertCause := 0#8
  dies := 0#2
  present := false
  rst := true
  railsOn := false
  powerGood := false
  refusedSetId := false
  ident := none
  retries := 0
  coolSince := none
  retireMbox := none
  admitMbox := none

/-- The sequencer in DOWN with every rail off. -/
def Seq.reset : Seq where
  state := .down
  cause := .none
  railsEn := 0#7
  strikeLock := false
  strikeDv := 0x5A#8
  vinMv := 0#16
  stable := false
  atResume := false
  warn := false
  belowStrike := false
  overVolt := false
  shdn := false
  railFault := 0#7
  railWarn := 0#7
  railIn := 0#7
  brdStretch := 0x14#8
  modStretch := 0x01#8
  busFailed := false
  busErrors := 0
  unresponsive := 0#18
  unrespTimes := []
  autoAdmit := false
  mods := []
  brdRst := true
  started := false
  rampFails := 0
  rampBlocked := false
  rampNext := 0
  downAt := 0
  shutAt := 0
  dumpDoneAt := none
  overAt := none
  hotAt := none
  epochTaken := 0

/-- The reef with no permit held. -/
def Reef.reset : Reef := ⟨0xB4, 0x4E20, 0x44C, false, 0, [], [], 0, 0#18⟩

/-- A domain in Trim with no limit set by a late wake. -/
def DomSleep.reset : DomSleep := ⟨.trim, none, .layUp⟩

/-- The clocks at PON. -/
def Clk.reset : Clk where
  xtalOk := false
  onRc := false
  rcTrimAt := none
  refOk := 0#2
  dpllLock := 0#2
  dpllActive := false
  dpllSpareLost := false
  mpllLock := false
  refSwitches := 0
  plls := []
  holdover := none
  freeRun := false
  dpStopped := false
  lock := false
  portL1En := true
  maxChiut := 3#3
  maxSlice := 3#3
  maxCore := 3#3
  maxAux := 4#3
  mpllFailed := false
  dpllFailed := 0#2
  portFailed := 0#2
  hbmFailed := 0#2
  fuseFailed := false
  chiutFailed := 0#18
  sleep := []

/-- Reset control at PON; the source is the power-on detector (log entry 6). -/
def Rst.reset : Rst := ⟨0, .none, 0#5, .pon, 0x01#5, none, false, false, false, false, 0, none, false⟩

/-- Tell-tales before any measurement. -/
def Tel.reset : Tel where
  busy := false
  valid := false
  dropoutDv := 0x55
  strings := 1
  intervalH := 0x18
  capMf := 0
  esr := 0
  measuredAt := none
  planTime := 0#64
  euMj := 0
  measured := false
  invalidRun := 0
  history := []
  projectAt := none
  summaryAt := none
  slack := none
  slackAt := none
  pulseSum := []
  pulseCount := []
  residualUp := []
  residualDown := []
  passHot := false
  calmPasses := 0
  inputHighAt := none

/-- No plan computed. -/
def Trm.reset : Trm := ⟨0#16, false, 0, 0#64, true, [], [], [], none, [], 0⟩

/-- An empty logbook. -/
def Logb.reset : Logb where
  restored := false
  queue := []
  ring := []
  archive := []
  block := 0
  n := 0
  nextBlock := none
  saturated := false
  lostNote := 0
  lostWarn := 0
  lostFault := 0
  lostCritical := 0
  lostTotal := 0
  owed := []
  owedUnknown := 0
  lostAfter := 0
  wrPair := false
  wrSev := 0#2
  wrType := 0x01#8
  wrData := []
  chainTag := 0#128
  prevTag := 0#128
  chainSeq := 0
  prevChainSeq := 0
  chainIndex := 0
  chainFrom := 0
  chainCount := 0
  chainAt := 0
  clearBound := 0
  clearPending := none
  snapshots := []

/-- An erased sea chest (log entry 4). -/
def Sea.reset : Sea where
  recs := []
  txn := 0
  freeBytes := 32256
  activeLog := false
  generation := 0
  otherErased := true
  erases := []
  counters := []
  ctrSlots := 0
  extents := []
  flash := []
  progs := []
  storeFailed := false
  rawError := false
  erasing := false
  settled := false
  rawOp := 0#2
  rawLen := 0#9
  rawOffset := 0#9
  rawPage := 0#11
  rawBuf := []
  ctr := 1#3

/-- The ditty bag filled with zero (R355) and its registers at their Reset columns. -/
def Dty.reset : Dty where
  evValid := false
  evPhase := 0#3
  evRail := 0xF#4
  evSlot := 0x1F#5
  evTime := 0#16
  stage := 0#8
  bootLevel := 0x01#8
  bootMs := 0#16
  dbgEpoch := 0#24
  dbgStart := 0#64
  dbgOwed := false
  fw := []
  recs := []
  sram := []

/-- A source that has not fired; its severity and its routes are the table's (R408). -/
def Src.reset : Src := ⟨false, 0, none, none, none, true, none, 0, .note, ⟨0, 0, 0, 0⟩⟩

/-- An empty bucket. -/
def Bucket.reset : Bucket := ⟨0, 0⟩

/-- No event pending; DEV_ALERT_N released (Table RST-4). -/
def Evt.reset : Evt := ⟨0#11, [], [], false, 0#3, 0#10, [], [], 1, false, 0⟩

/-- A performance-counter unit at its Reset columns. -/
def PmuUnit.reset : PmuUnit := ⟨false, false, 0#8, 0#9, 0#64, 0#8, 0#8, [], [], [], []⟩

/-- The performance counters with no grant. -/
def Pmu.reset : Pmu := ⟨[], 0#4, 0#4, []⟩

/-- Debug access closed. -/
def Dbg.reset : Dbg := ⟨false, false, false, false, false, 0#24⟩

/-- No access made yet. -/
def Access.reset : Access := ⟨0#64, false⟩

/-- Empty latches. -/
def Latches.reset : Latches := ⟨[], none⟩

/-- The global registers and conditions: Out of service (GLB.SERVICE_STATE.level 0b100). -/
def Glb.reset : Glb where
  time := 0#64
  timeHalf := false
  energyMj := 0
  budget := 0
  effBudget := 0
  reserved := 0
  dumpEpoch := 0
  dumpOutcome := 0
  replayDone := false
  replaying := false
  epochCounter := 1
  epochConsumed := 0
  dumping := false
  dumpInflight := []
  admitOpen := false
  level := .outOfService
  memoryActive := false
  formatting := false
  erasing := false
  scratch := []

/-- The block right after a PON from the always-on power-on detector (R9, R344): the sequencer in
DOWN, every register at its Reset column, the queue of commands empty. -/
def State.reset : State where
  pending := []
  clock := 0
  draws := 0
  access := Access.reset
  latches := []
  glb := Glb.reset
  port0 := PortState.reset
  port1 := PortState.reset
  bly := Bly.reset
  cache := Cache.reset
  vbf := Vbf.reset
  stp := Stp.reset
  wlv := Wlv.reset
  media := Media.reset
  mch := []
  shr := Shr.reset
  kce := Kce.reset
  mst := Mst.reset
  hly := Hly.reset
  seq := Seq.reset
  reef := Reef.reset
  clk := Clk.reset
  rst := Rst.reset
  tel := Tel.reset
  trm := Trm.reset
  log := Logb.reset
  sea := Sea.reset
  dty := Dty.reset
  evt := Evt.reset
  pmu := Pmu.reset
  dbg := Dbg.reset

/-- Why a step can stop with a fault. -/
inductive Fault where
  /-- Raised by every meaning whose command is not well formed (an index or a length that no row of the
  specification's tables admits). Safe: no such command can be given to the hardware. -/
  | illFormed
  deriving DecidableEq, Repr

/-- Why a step can stop without a meaning. -/
inductive Refusal where
  /-- Raised by the arms of the dispatch whose command has no meaning yet. Safe. -/
  | notModelled (mnemonic : String)
  /-- Raised by REGISTER_WRITE on the debug path to a factory register: R425 gives the write to
  manufacturing test and says nothing of its effect. Safe. -/
  | factoryRegister
  deriving DecidableEq, Repr

end Sys2Proof.Machine
end

