-- ==== Sys2Proof/Machine/Sparse.lean ====
section
/-! DEFINITION. Sparse tables: a list of keyed entries in one canonical form (keys strictly rising, no
entry equal to the default of its table), with reading, writing and removing an entry. The byte arrays
of the block (sea chest flash, retained SRAM) are such tables of bytes. -/

namespace Sys2Proof.Machine

variable {α : Type}

/-- The entry at key `k`, if the table lists one. -/
def Sparse.find (m : Sparse α) (k : Nat) : Option α :=
  match m with
  | [] => none
  | e :: r => if e.1 = k then some e.2 else Sparse.find r k

/-- The value at key `k`; `d` where the table lists none. -/
def Sparse.get (d : α) (m : Sparse α) (k : Nat) : α :=
  (Sparse.find m k).getD d

/-- The table without key `k`. -/
def Sparse.erase (m : Sparse α) (k : Nat) : Sparse α :=
  m.filter fun e => e.1 != k

/-- The table with `v` at key `k`, kept in rising order of keys. -/
def Sparse.put (m : Sparse α) (k : Nat) (v : α) : Sparse α :=
  match m with
  | [] => [(k, v)]
  | e :: r =>
    if k < e.1 then (k, v) :: e :: r
    else if k = e.1 then (k, v) :: r
    else e :: Sparse.put r k v

/-- The table whose unlisted keys read `d`, with `v` at key `k`: a value equal to `d` is not listed. -/
def Sparse.set [DecidableEq α] (d : α) (m : Sparse α) (k : Nat) (v : α) : Sparse α :=
  if v = d then Sparse.erase m k else Sparse.put m k v

/-- `f` applied to the value at key `k`. -/
def Sparse.modify [DecidableEq α] (d : α) (m : Sparse α) (k : Nat) (f : α → α) : Sparse α :=
  Sparse.set d m k (f (Sparse.get d m k))

/-- `f` applied to the entry at key `k`, if there is one. -/
def Sparse.adjust (m : Sparse α) (k : Nat) (f : α → α) : Sparse α :=
  match Sparse.find m k with
  | some v => Sparse.put m k (f v)
  | none => m

/-- `f` applied to every entry. -/
def Sparse.mapVals (m : Sparse α) (f : α → α) : Sparse α :=
  m.map fun e => (e.1, f e.2)

/-- The first key whose entry satisfies `p`. -/
def Sparse.findKey (m : Sparse α) (p : α → Bool) : Option Nat :=
  (m.find? fun e => p e.2).map Prod.fst

/-- The smallest key below `bound`, tried from `k` upward, that the table does not list. -/
def Sparse.freshFrom (m : Sparse α) (fuel k : Nat) : Option Nat :=
  match fuel with
  | 0 => none
  | n + 1 => if (Sparse.find m k).isNone then some k else Sparse.freshFrom m n (k + 1)

/-- How many entries satisfy `p`. -/
def Sparse.count (m : Sparse α) (p : α → Bool) : Nat :=
  m.countP fun e => p e.2

/-- Keys strictly rising above `lo`. -/
def Sparse.risingFrom (lo : Nat) : Sparse α → Bool
  | [] => true
  | e :: r => decide (lo ≤ e.1) && Sparse.risingFrom (e.1 + 1) r

/-- The canonical form of a table of entries: keys strictly rising. -/
def Sparse.rising (m : Sparse α) : Bool :=
  Sparse.risingFrom 0 m

/-- The canonical form of a table whose unlisted keys read `d`. -/
def Sparse.wf [DecidableEq α] (d : α) (m : Sparse α) : Bool :=
  Sparse.rising m && m.all fun e => e.2 != d

/-- The bytes of the sea chest flash and of the retained SRAM are in canonical form. -/
def Memory.wf (d : Byte) (m : List Host.Cell) : Bool :=
  Sparse.wf d m

/-- One byte of such a memory; an unlisted address reads `d`. -/
def Memory.read (d : Byte) (m : List Host.Cell) (a : Nat) : Byte :=
  Sparse.get d m a

/-- A write of one byte. -/
def Memory.write (d : Byte) (m : List Host.Cell) (a : Nat) (b : Byte) : List Host.Cell :=
  Sparse.set d m a b

/-- A write of bytes at rising addresses. -/
def Memory.writeBytes (d : Byte) (m : List Host.Cell) (a : Nat) : List Byte → List Host.Cell
  | [] => m
  | b :: r => Memory.writeBytes d (Memory.write d m a b) (a + 1) r

end Sys2Proof.Machine
end

