-- ==== Sys2Proof/Machine/Crypto.lean ====
section
/-! DEFINITION. The arithmetic on bytes that the specification names: AES-256 (FIPS 197), XTS
(R222), AES-256-CMAC (R240), CRC-16 of packets (R201), CRC-32C (R116) and the GF(2^8) of the stripe
parities (R131). -/

namespace Sys2Proof.Machine

/-- Byte `i` of a word, byte 0 in bits 7:0. -/
def byteAt {w : Nat} (b : BitVec w) (i : Nat) : Byte :=
  b.extractLsb' (8 * i) 8

/-- The first `n` bytes of a word, byte 0 first. -/
def bytesOf {w : Nat} (n : Nat) (b : BitVec w) : List Byte :=
  (List.range n).map (byteAt b)

/-- The number whose little-endian bytes are given. -/
def leNat : List Byte → Nat
  | [] => 0
  | b :: r => b.toNat + 256 * leNat r

/-- The little-endian bytes of a number. -/
def leBytes : Nat → Nat → List Byte
  | 0, _ => []
  | n + 1, v => BitVec.ofNat 8 v :: leBytes n (v / 256)

/-- Byte-wise exclusive or. -/
def xorBytes : List Byte → List Byte → List Byte
  | a :: r, b :: t => (a ^^^ b) :: xorBytes r t
  | _, _ => []

/-- The S-box of FIPS 197, entry `x` in bits 8x+7:8x. -/
def sboxBits : Nat :=
  0xc072a49cafa2d4adf04759fa7dc982ca76abd7fe2b670130c56f6bf27b777c63 |||
  0x75b227ebe28012079a059618c323c7041531d871f1e5a534ccf73f362693fdb7 <<< 256 |||
  0xcf584c4a39becb6a5bb1fc20ed00d153842fe329b3d63b52a05a6e1b1a2c8309 <<< 512 |||
  0xd2f3ff1021dab6bcf5389d928f40a351a89f3c507f02f94585334d43fbaaefd0 <<< 768 |||
  0xdb0b5ede14b8ee4688902a22dc4f816073195d643d7ea7c41744975fec130ccd <<< 1024 |||
  0x08ae7a65eaf4566ca94ed58d6d37c8e779e4959162acd3c25c2406490a3a32e0 <<< 1280 |||
  0x9e1dc186b95735610ef6034866b53e708a8bbd4b1f74dde8c6b4a61c2e2578ba <<< 1536 |||
  0x16bb54b00f2d99416842e6bf0d89a18cdf2855cee9871e9b948ed9691198f8e1 <<< 1792

/-- Its inverse. -/
def invSboxBits : Nat :=
  0xcbe9dec444438e3487ff2f9b8239e37cfbd7f3819ea340bf38a53630d56a0952 |||
  0x25d18b6d49a25b76b224d92866a12e084ec3fa420b954cee3d23c2a632947b54 <<< 256 |||
  0x849d8da75746155edab9edfd5048706c92b6655dcc5ca4d41698688664f6f872 <<< 512 |||
  0x6b8a130103bdafc1020f3fca8f1e2cd00645b3b80558e4f70ad3bc8c00abd890 <<< 768 |||
  0x6edf751ce837f9e28535ade72274ac9673e6b4f0cecff297eadc674f4111913a <<< 1024 |||
  0xf45acd78fec0db9a2079d2c64b3e56fc1bbe18aa0e62b76f89c5291d711af147 <<< 1280 |||
  0xef9cc9939f7ae52d0d4ab519a97f51605fec8027591012b131c7078833a8dd1f <<< 1536 |||
  0x7d0c2155631469e126d677ba7e042b17619953833cbbebc8b0f52aae4d3be0a0 <<< 1792

/-- SubBytes of one byte. -/
def sbox (x : Byte) : Byte :=
  BitVec.ofNat 8 (sboxBits >>> (8 * x.toNat))

/-- Its inverse. -/
def invSbox (x : Byte) : Byte :=
  BitVec.ofNat 8 (invSboxBits >>> (8 * x.toNat))

/-- Multiplication by x in the field of AES. -/
def xtime (a : Byte) : Byte :=
  if a.msb then (a <<< 1) ^^^ 0x1B#8 else a <<< 1

/-- Multiplication by 3. -/
def mul3 (a : Byte) : Byte :=
  xtime a ^^^ a

/-- ShiftRows on the sixteen bytes of a block, column by column. -/
def shiftRows : List Byte → List Byte
  | [a0, a1, a2, a3, b0, b1, b2, b3, c0, c1, c2, c3, d0, d1, d2, d3] =>
    [a0, b1, c2, d3, b0, c1, d2, a3, c0, d1, a2, b3, d0, a1, b2, c3]
  | l => l

/-- Its inverse. -/
def invShiftRows : List Byte → List Byte
  | [a0, b1, c2, d3, b0, c1, d2, a3, c0, d1, a2, b3, d0, a1, b2, c3] =>
    [a0, a1, a2, a3, b0, b1, b2, b3, c0, c1, c2, c3, d0, d1, d2, d3]
  | l => l

/-- MixColumns. -/
def mixColumns : List Byte → List Byte
  | a :: b :: c :: d :: r =>
    (xtime a ^^^ mul3 b ^^^ c ^^^ d) :: (a ^^^ xtime b ^^^ mul3 c ^^^ d) ::
      (a ^^^ b ^^^ xtime c ^^^ mul3 d) :: (mul3 a ^^^ b ^^^ c ^^^ xtime d) :: mixColumns r
  | _ => []

/-- InvMixColumns, as MixColumns of the column with the doubled sums added first. -/
def invMixColumns : List Byte → List Byte
  | a :: b :: c :: d :: r =>
    let u := xtime (xtime (a ^^^ c))
    let v := xtime (xtime (b ^^^ d))
    mixColumns [a ^^^ u, b ^^^ v, c ^^^ u, d ^^^ v] ++ invMixColumns r
  | _ => []

/-- The round constants of AES-256. -/
def rcons : List Byte :=
  [0x01#8, 0x02#8, 0x04#8, 0x08#8, 0x10#8, 0x20#8, 0x40#8]

/-- The next eight words (32 bytes) of the key schedule. -/
def nextKeyWords (rc : Byte) (w : List Byte) : List Byte :=
  let t := match w.drop 28 with
    | [a, b, c, d] => [sbox b ^^^ rc, sbox c, sbox d, sbox a]
    | l => l
  let n0 := xorBytes (w.take 4) t
  let n1 := xorBytes ((w.drop 4).take 4) n0
  let n2 := xorBytes ((w.drop 8).take 4) n1
  let n3 := xorBytes ((w.drop 12).take 4) n2
  let n4 := xorBytes ((w.drop 16).take 4) (n3.map sbox)
  let n5 := xorBytes ((w.drop 20).take 4) n4
  let n6 := xorBytes ((w.drop 24).take 4) n5
  let n7 := xorBytes ((w.drop 28).take 4) n6
  n0 ++ n1 ++ n2 ++ n3 ++ n4 ++ n5 ++ n6 ++ n7

/-- The words that follow `w` in the schedule. -/
def keyWordsFrom : List Byte → List Byte → List Byte
  | w, [] => w
  | w, rc :: r => w ++ keyWordsFrom (nextKeyWords rc w) r

/-- `n` pieces of sixteen bytes. -/
def blocks16 : Nat → List Byte → List (List Byte)
  | 0, _ => []
  | n + 1, l => l.take 16 :: blocks16 n (l.drop 16)

/-- The fifteen round keys of AES-256 (FIPS 197). -/
def roundKeys (key : BitVec 256) : List (List Byte) :=
  blocks16 15 (keyWordsFrom (bytesOf 32 key) rcons)

/-- The rounds after the first key addition; the last has no MixColumns. -/
def aesRounds : List (List Byte) → List Byte → List Byte
  | [], s => s
  | [k], s => xorBytes (shiftRows (s.map sbox)) k
  | k :: r, s => aesRounds r (xorBytes (mixColumns (shiftRows (s.map sbox))) k)

/-- One AES-256 encryption of sixteen bytes. -/
def aesBytes (rks : List (List Byte)) (s : List Byte) : List Byte :=
  match rks with
  | [] => s
  | k :: r => aesRounds r (xorBytes s k)

/-- The inverse rounds, over the round keys last first. -/
def invAesRounds : List (List Byte) → List Byte → List Byte
  | [], s => s
  | [k], s => xorBytes ((invShiftRows s).map invSbox) k
  | k :: r, s => invAesRounds r (invMixColumns (xorBytes ((invShiftRows s).map invSbox) k))

/-- One AES-256 decryption of sixteen bytes. -/
def invAesBytes (rks : List (List Byte)) (s : List Byte) : List Byte :=
  match rks.reverse with
  | [] => s
  | k :: r => invAesRounds r (xorBytes s k)

/-- AES-256 of a block, byte 0 in bits 7:0. -/
def aes (key : BitVec 256) (b : BitVec 128) : BitVec 128 :=
  BitVec.ofNat 128 (leNat (aesBytes (roundKeys key) (bytesOf 16 b)))

/-- Its inverse. -/
def invAes (key : BitVec 256) (b : BitVec 128) : BitVec 128 :=
  BitVec.ofNat 128 (leNat (invAesBytes (roundKeys key) (bytesOf 16 b)))

/-! ## XTS-AES-256 over the sixteen blocks of a data unit (R222) -/

/-- Multiplication of the tweak by x (IEEE 1619). -/
def xtsNext (t : BitVec 128) : BitVec 128 :=
  if t.msb then (t <<< 1) ^^^ 0x87#128 else t <<< 1

/-- One pass over `n` blocks of a unit with the block cipher `f`. -/
def xtsBlocks (f : BitVec 128 → BitVec 128) : Nat → BitVec 128 → BitVec 2048 → Nat → BitVec 2048
  | 0, _, _, _ => 0#2048
  | n + 1, t, u, i =>
    let c := f (u.extractLsb' (128 * i) 128 ^^^ t) ^^^ t
    (c.setWidth 2048 <<< (128 * i)) ||| xtsBlocks f n (xtsNext t) u (i + 1)

/-- Key1 (data) and Key2 (tweak) of a 512-bit key: the low and the high half. -/
def xtsKeys (key : BitVec 512) : BitVec 256 × BitVec 256 :=
  (key.extractLsb' 0 256, key.extractLsb' 256 256)

/-- Encryption of the 256 B unit with tweak `lsn` (R222). -/
def xtsEncrypt (key : BitVec 512) (lsn : Nat) (u : BitVec 2048) : BitVec 2048 :=
  xtsBlocks (aes (xtsKeys key).1) 16 (aes (xtsKeys key).2 (BitVec.ofNat 128 lsn)) u 0

/-- Decryption of the 256 B unit with tweak `lsn`. -/
def xtsDecrypt (key : BitVec 512) (lsn : Nat) (u : BitVec 2048) : BitVec 2048 :=
  xtsBlocks (invAes (xtsKeys key).1) 16 (aes (xtsKeys key).2 (BitVec.ofNat 128 lsn)) u 0

/-! ## AES-256-CMAC (R240, NIST SP 800-38B) -/

/-- The big-endian number of some bytes. -/
def beNat (l : List Byte) : Nat :=
  l.foldl (fun a b => 256 * a + b.toNat) 0

/-- Sixteen big-endian bytes. -/
def be16 (v : Nat) : List Byte :=
  (leBytes 16 v).reverse

/-- Doubling in the field of CMAC, on the big-endian number. -/
def cmacDouble (l : List Byte) : List Byte :=
  let v := BitVec.ofNat 128 (beNat l)
  be16 (if v.msb then ((v <<< 1) ^^^ 0x87#128).toNat else (v <<< 1).toNat)

/-- One block of the chain. -/
def cmacBlock (key : BitVec 256) (chain : BitVec 128) (b : List Byte) : BitVec 128 :=
  aes key (chain ^^^ BitVec.ofNat 128 (leNat b))

/-- A CMAC started under `key`. -/
def cmacStart (key : BitVec 256) : Cmac :=
  ⟨key, 0#128, [], 0⟩

/-- One more byte; the block held is taken only when a further byte follows it. -/
def cmacByte (c : Cmac) (b : Byte) : Cmac :=
  if c.buf.length = 16 then
    { c with chain := cmacBlock c.key c.chain c.buf, buf := [b], fed := c.fed + 1 }
  else { c with buf := c.buf ++ [b], fed := c.fed + 1 }

/-- More bytes. -/
def cmacFeed (c : Cmac) (l : List Byte) : Cmac :=
  l.foldl cmacByte c

/-- The tag. -/
def cmacTag (c : Cmac) : BitVec 128 :=
  let k1 := cmacDouble (bytesOf 16 (aes c.key 0#128))
  let last := if c.buf.length = 16 then xorBytes c.buf k1
    else xorBytes ((c.buf ++ [0x80#8] ++ List.replicate 15 0#8).take 16) (cmacDouble k1)
  cmacBlock c.key c.chain last

/-- The tag of a message. -/
def cmac (key : BitVec 256) (msg : List Byte) : BitVec 128 :=
  cmacTag (cmacFeed (cmacStart key) msg)

/-! ## Check codes -/

/-- One bit of the packet CRC (R201): polynomial 0x1021. -/
def crc16Bit (c : BitVec 16) (b : Bool) : BitVec 16 :=
  if c.msb != b then (c <<< 1) ^^^ 0x1021#16 else c <<< 1

/-- The packet CRC over bits 0 to `n` − 1, bit 0 first, from 0xFFFF (R201). -/
def crc16 {w : Nat} (n : Nat) (p : BitVec w) : BitVec 16 :=
  ((List.range n).map fun i => p.getLsbD i).foldl crc16Bit 0xFFFF#16

/-- One bit of CRC-32C in its reflected form (R116). -/
def crc32cBit (c : BitVec 32) : BitVec 32 :=
  if c.getLsbD 0 then (c >>> 1) ^^^ 0x82F63B78#32 else c >>> 1

/-- One byte of CRC-32C. -/
def crc32cByte (c : BitVec 32) (b : Byte) : BitVec 32 :=
  crc32cBit <| crc32cBit <| crc32cBit <| crc32cBit <| crc32cBit <| crc32cBit <| crc32cBit <|
    crc32cBit (c ^^^ b.setWidth 32)

/-- CRC-32C (Castagnoli, as in iSCSI). -/
def crc32c (l : List Byte) : BitVec 32 :=
  l.foldl crc32cByte 0xFFFFFFFF#32 ^^^ 0xFFFFFFFF#32

/-! ## The stripe parities (R131) -/

/-- Multiplication by the generator 0x02 of GF(2^8) with the polynomial 0x11D, on all bytes of a
vector of `w` bits at once. -/
def gfDouble (w : Nat) (v : BitVec w) : BitVec w :=
  BitVec.ofNat w (leNat ((bytesOf (w / 8) v).map fun a =>
    if a.msb then (a <<< 1) ^^^ 0x1D#8 else a <<< 1))

/-- Multiplication by the generator `j` times. -/
def gfPow {w : Nat} : Nat → BitVec w → BitVec w
  | 0, v => v
  | j + 1, v => gfPow j (gfDouble w v)

end Sys2Proof.Machine
end

