-- ==== Sys2Proof/Machine/Ops.lean ====
section
/-! DEFINITION. The named operations over the state that every family uses: the parts of the state by
index, time, saturating counts, and draws of free values. -/

namespace Sys2Proof.Machine

open Sys2Proof

/-- What a meaning answers. -/
abbrev Out := Host.Outcome State Fault Refusal

/-! ## Counts and time -/

/-- `a + b`, held at `m` (the saturating counts of the registers). -/
def satAdd (m a b : Nat) : Nat :=
  min m (a + b)

/-- `n` ns in units of `State.clock`. -/
def ns (n : Nat) : Nat := 2 * n

/-- `n` µs in units of `State.clock`. -/
def us (n : Nat) : Nat := 2000 * n

/-- `n` ms in units of `State.clock`. -/
def ms (n : Nat) : Nat := 2000000 * n

/-- `n` s in units of `State.clock`. -/
def sec (n : Nat) : Nat := 2000000000 * n

/-- `n` h in units of `State.clock`. -/
def hours (n : Nat) : Nat := sec (3600 * n)

/-- At least `d` has passed since `t`. -/
def State.elapsed (s : State) (t d : Nat) : Bool :=
  decide (t + d ≤ s.clock)

/-- At least `d` has passed since the time held, or none is held. -/
def State.elapsedOpt (s : State) (t : Option Nat) (d : Nat) : Bool :=
  match t with
  | some u => s.elapsed u d
  | none => true

/-- Whether bit `i` of a register is set, `i` a plain number. -/
def bitOf {w : Nat} (b : BitVec w) (i : Nat) : Bool :=
  b.getLsbD i

/-- A register with bit `i` set to `v`. -/
def setBit {w : Nat} (b : BitVec w) (i : Nat) (v : Bool) : BitVec w :=
  if v then b ||| BitVec.ofNat w (2 ^ i) else b &&& ~~~BitVec.ofNat w (2 ^ i)

/-- How many bits are set. -/
def popCount {w : Nat} (b : BitVec w) : Nat :=
  (List.range w).countP fun i => b.getLsbD i

/-- 1 for true. -/
def b2n (b : Bool) : Nat := if b then 1 else 0

/-- The number with `f` at bit `lo` and above: one field of a register. -/
def fieldAt (lo f : Nat) : Nat := f <<< lo

/-- Bits `hi:lo` of a word. -/
def bits (w : Word) (hi lo : Nat) : Nat :=
  (w.toNat >>> lo) % 2 ^ (hi + 1 - lo)

/-- The value of a field whose encodings from `lo` to `hi` are defined (R8). -/
def defined (lo hi new old : Nat) : Nat := if lo ≤ new ∧ new ≤ hi then new else old

/-- The same for a field that is a bit vector. -/
def definedVec {w : Nat} (lo hi new : Nat) (old : BitVec w) : BitVec w :=
  BitVec.ofNat w (defined lo hi new old.toNat)

/-- A field of `n` little-endian bytes of a payload; bytes beyond its end read 0. -/
def leField (l : List Byte) (off n : Nat) : Nat :=
  leNat ((l.drop off).take n)

/-- A signed byte of a payload. -/
def signedByte (l : List Byte) (off : Nat) : Int :=
  (BitVec.ofNat 8 (leField l off 1)).toInt

/-! ## Severities, codes -/

/-- The rank of a severity (R4), also its code in Table LOG-1. -/
def Severity.code : Severity → Nat
  | .note => 0
  | .warn => 1
  | .fault => 2
  | .critical => 3

/-- The severity of a code. -/
def Severity.ofCode (c : Nat) : Severity :=
  if c = 0 then .note else if c = 1 then .warn else if c = 2 then .fault else .critical

/-- The higher of two severities. -/
def Severity.max (a b : Severity) : Severity :=
  if a.code < b.code then b else a

/-- Codes of Table ARCH-5. -/
def Level.code : Level → Nat
  | .full => 0
  | .absorbed => 1
  | .degraded => 2
  | .barePoles => 3
  | .outOfService => 4

/-- Codes of GLB.RESET_CAUSE.level. -/
def ResetLevel.code : ResetLevel → Nat
  | .none => 0
  | .pon => 1
  | .sys => 2
  | .core => 3

/-- Codes of Table CHIUT-10. -/
def SlotSt.code : SlotSt → Nat
  | .empty => 0
  | .powering => 1
  | .training => 2
  | .waiting => 3
  | .rebuilding => 4
  | .inService => 5
  | .retiring => 6
  | .safe => 7
  | .failed => 8

/-- Codes of Table PWR-4. -/
def SeqState.code : SeqState → Nat
  | .down => 0
  | .ramp => 1
  | .run => 2
  | .dump => 3
  | .hold => 4
  | .resume => 5
  | .strike => 6

/-- Codes of SEQ.STATE.cause. -/
def Cause.code : Cause → Nat
  | .none => 0
  | .warning => 1
  | .shdn => 2
  | .railFault => 3
  | .overTemp => 4
  | .warnBeforeReplay => 5

/-- Codes of Table BUD-4. -/
def Sleep.code : Sleep → Nat
  | .trim => 0
  | .luff => 1
  | .furl => 2
  | .stow => 3
  | .layUp => 4

/-- The sleep state of a code; codes 5 to 7 are not defined. -/
def Sleep.ofCode (n : Nat) : Sleep :=
  if n = 0 then .trim else if n = 1 then .luff else if n = 2 then .furl
  else if n = 3 then .stow else .layUp

/-- Codes of SHR.REKEY_STATUS.state. -/
def RekeyState.code : RekeyState → Nat
  | .idle => 0
  | .running => 1
  | .paused => 2
  | .finishing => 3
  | .aborting => 4

/-- Codes of Table SHR-1. -/
def SlotState.code : SlotState → Nat
  | .empty => 0
  | .loaded => 1
  | .active => 2
  | .retiring => 3

/-- Codes of Table KCE-1. -/
def MsgOutcome.code : MsgOutcome → Nat
  | .ok => 0
  | .length => 1
  | .overrun => 2
  | .underrun => 3
  | .keyAbsent => 4
  | .entropy => 5
  | .aborted => 6
  | .engine => 7

/-- Codes of Table KCE-2. -/
def LockOwner.code : LockOwner → Nat
  | .none => 0
  | .firmware => 1
  | .seal => 2
  | .verify => 3
  | .selfTest => 4
  | .debug => 5

/-- Codes of the LinkRate field of HPn.LINK_STATUS. -/
def LinkRate.code : LinkRate → Nat
  | .r2_5 => 1
  | .r5 => 2
  | .r8 => 3
  | .r16 => 4
  | .r32 => 5
  | .r64 => 6
  | .r128 => 7

/-- Codes of the width field of HPn.LINK_STATUS. -/
def LinkWidth.code : LinkWidth → Nat
  | .x1 => 1
  | .x2 => 2
  | .x4 => 3
  | .x8 => 4
  | .x16 => 5

/-! ## The four lines of a block -/

/-- The value of line `i`. -/
def Four.get {α : Type} (f : Four α) (i : Nat) : α :=
  match i with
  | 0 => f.l0
  | 1 => f.l1
  | 2 => f.l2
  | _ => f.l3

/-- The block with line `i` changed. -/
def Four.set {α : Type} (f : Four α) (i : Nat) (a : α) : Four α :=
  match i with
  | 0 => { f with l0 := a }
  | 1 => { f with l1 := a }
  | 2 => { f with l2 := a }
  | _ => { f with l3 := a }

/-- `g` on every line, with its number. -/
def Four.map {α β : Type} (g : Nat → α → β) (f : Four α) : Four β :=
  ⟨g 0 f.l0, g 1 f.l1, g 2 f.l2, g 3 f.l3⟩

/-- The four values in order. -/
def Four.toList {α : Type} (f : Four α) : List α :=
  [f.l0, f.l1, f.l2, f.l3]

/-- The byte mask of a line as a mask of bits. -/
def expandMask (m : Mask) : Line :=
  BitVec.ofNat 512 (leNat ((List.range 64).map fun i => if m.getLsbD i then 0xFF#8 else 0#8))

/-- The bytes of `new` where the mask is set, those of `old` elsewhere. -/
def mergeBytes (m : Mask) (new old : Line) : Line :=
  let e := expandMask m
  (new &&& e) ||| (old &&& ~~~e)

/-- The data unit of four lines, line 0 in the low bits. -/
def Four.join (f : Four Line) : BitVec 2048 :=
  f.l3 ++ f.l2 ++ f.l1 ++ f.l0

/-- Its inverse. -/
def Four.split (u : BitVec 2048) : Four Line :=
  ⟨u.extractLsb' 0 512, u.extractLsb' 512 512, u.extractLsb' 1024 512, u.extractLsb' 1536 512⟩

/-! ## Parts of the state by index -/

/-- The number of a port. -/
def portIdx : Port → Nat
  | .hp0 => 0
  | .hp1 => 1

/-- The other port. -/
def portOther : Port → Port
  | .hp0 => .hp1
  | .hp1 => .hp0

/-- The port of a number. -/
def portOf (n : Nat) : Port := if n = 0 then .hp0 else .hp1

/-- One port. -/
def State.port (s : State) : Port → PortState
  | .hp0 => s.port0
  | .hp1 => s.port1

/-- The state with one port changed. -/
def State.setPort (s : State) (p : Port) (x : PortState) : State :=
  match p with
  | .hp0 => { s with port0 := x }
  | .hp1 => { s with port1 := x }

/-- `f` on one port. -/
def State.modPort (s : State) (p : Port) (f : PortState → PortState) : State :=
  s.setPort p (f (s.port p))

/-- One media channel. -/
def State.ch (s : State) (n : Nat) : Mch :=
  Sparse.get Mch.reset s.mch n

/-- The state with one channel changed. -/
def State.setCh (s : State) (n : Nat) (c : Mch) : State :=
  { s with mch := Sparse.set Mch.reset s.mch n c }

/-- `f` on one channel. -/
def State.modCh (s : State) (n : Nat) (f : Mch → Mch) : State :=
  s.setCh n (f (s.ch n))

/-- One die of a channel. -/
def Mch.die (c : Mch) (d : Nat) : DieState :=
  Sparse.get DieState.reset c.dies d

/-- The channel with one die changed. -/
def Mch.setDie (c : Mch) (d : Nat) (x : DieState) : Mch :=
  { c with dies := Sparse.set DieState.reset c.dies d x }

/-- `f` on one die. -/
def State.modDie (s : State) (n d : Nat) (f : DieState → DieState) : State :=
  s.modCh n fun c => c.setDie d (f (c.die d))

/-- One module slot. -/
def State.slot (s : State) (k : Nat) : ModState :=
  Sparse.get ModState.reset s.seq.mods k

/-- `f` on one module slot. -/
def State.modSlot (s : State) (k : Nat) (f : ModState → ModState) : State :=
  { s with seq := { s.seq with mods := Sparse.modify ModState.reset s.seq.mods k f } }

/-- One physical slice. -/
def State.slice (s : State) (n : Nat) : SliceState :=
  Sparse.get SliceState.idle s.cache.slices n

/-- `f` on one physical slice. -/
def State.modSlice (s : State) (n : Nat) (f : SliceState → SliceState) : State :=
  { s with cache := { s.cache with slices := Sparse.modify SliceState.idle s.cache.slices n f } }

/-- One event source. -/
def State.src (s : State) (i : Nat) : Src :=
  Sparse.get Src.reset s.evt.src i

/-- `f` on one event source. -/
def State.modSrc (s : State) (i : Nat) (f : Src → Src) : State :=
  { s with evt := { s.evt with src := Sparse.modify Src.reset s.evt.src i f } }

/-- One mailbox. -/
def State.mb (s : State) (m : Nat) : Mb :=
  Sparse.get Mb.reset s.hly.mb m

/-- `f` on one mailbox. -/
def State.modMb (s : State) (m : Nat) (f : Mb → Mb) : State :=
  { s with hly := { s.hly with mb := Sparse.modify Mb.reset s.hly.mb m f } }

/-- One Shroud slot. -/
def State.keySlot (s : State) (i : Nat) : KeySlot :=
  Sparse.get KeySlot.empty s.shr.slots i

/-- `f` on one Shroud slot. -/
def State.modKeySlot (s : State) (i : Nat) (f : KeySlot → KeySlot) : State :=
  { s with shr := { s.shr with slots := Sparse.modify KeySlot.empty s.shr.slots i f } }

/-- The sleep bookkeeping of one domain. -/
def State.dom (s : State) (i : Nat) : DomSleep :=
  Sparse.get DomSleep.reset s.clk.sleep i

/-- `f` on one domain. -/
def State.modDom (s : State) (i : Nat) (f : DomSleep → DomSleep) : State :=
  { s with clk := { s.clk with sleep := Sparse.modify DomSleep.reset s.clk.sleep i f } }

/-- The module that carries a channel. -/
def moduleOf (ch : Nat) : Nat := ch / 4

/-- A die of a module (0 to 31) as its channel and the die on the channel, with `D` dies to a module. -/
def dieOfModule (dies k d : Nat) : Nat × Nat :=
  let per := max 1 (dies / 4)
  (4 * k + (d / per) % 4, d % per)

/-- The die of the module that a channel's die is. -/
def moduleDie (dies ch d : Nat) : Nat :=
  (ch % 4) * max 1 (dies / 4) + d

/-- A slot whose module's members are present (R212, R213): in every other state they are absent for the
sets formed, and the slot counts as out. -/
def SlotSt.serving (x : SlotSt) : Bool := x == .inService

/-- GLB.SERVICE_STATE.modules_out (R212). -/
def State.modulesOut (s : State) : Nat :=
  (List.range 18).countP fun k => !(s.slot k).state.serving

/-! ## Access paths -/

/-- Whether an access path can write the registers of the block: Mainmast while its firmware runs, the debug
path while access is granted; a host window writes nothing (R427, R428). -/
def State.pathOpen (s : State) : Path → Bool
  | .mainmast => s.mst.running
  | .debug => s.dbg.granted
  | .host _ => false

/-! ## Free values -/

/-- One draw of a free value. -/
def State.draw (s : State) : BitVec 512 :=
  Config.entropy s.draws

/-- The draw used up. -/
def State.drawn (s : State) : State :=
  { s with draws := s.draws + 1 }

/-- Device timestamp in ms, bits 23:0 (R193). -/
def State.timeMs (s : State) : Nat :=
  (s.glb.time.toNat / 1000000) % 2 ^ 24

end Sys2Proof.Machine
end

