-- ==== Sys2Proof/Machine/EventOps.lean ====
section
/-! DEFINITION. Firing an event source: its pending bit and count, its logbook record, the Mainmast
FIFO, the host event logs, mailbox 4's logs and DEV_ALERT_N (R405 to R413, R451), and putting a record
into the writer queue (R376, R381). -/

namespace Sys2Proof.Machine

open Sys2Proof

/-! ## The writer queue -/

/-- The code of a record type (Table LOG-2). -/
def RecType.code : RecType → Byte
  | .event => 0x01#8
  | .boot => 0x02#8
  | .chain => 0x03#8
  | .clear => 0x04#8
  | .sealDone => 0x05#8
  | .sealVoid => 0x06#8
  | .debugEnter => 0x07#8
  | .debugExit => 0x08#8
  | .key => 0x09#8
  | .lost => 0x0A#8
  | .outcome => 0x0B#8
  | .other c => c

/-- Slots a record takes: a pair takes two (R374). -/
def LogRec.slots (r : LogRec) : Nat :=
  if r.pair then 2 else 1

/-- Slots of a list of records. -/
def slotsOf (l : List LogRec) : Nat :=
  l.foldl (fun n r => n + r.slots) 0

/-- The next sequence number (R375). -/
def Logb.nextSeq (l : Logb) : Nat := if l.saturated then 0xFFFFFFFFFFFF else l.block * 2 ^ 20 + l.n

/-- Losses for which no LOST record has been written. -/
def Logb.owes (l : Logb) : Bool := !l.owed.isEmpty || decide (0 < l.owedUnknown)

/-- One loss of severity `v` (R381): the counters, and the record owed for it, which names the last number
written before the first of the losses. -/
def Logb.lose (l : Logb) (v : Severity) : Logb :=
  let l := { l with
    lostAfter := if l.owes then l.lostAfter else l.nextSeq - 1
    lostTotal := satAdd 0xFFFFFFFF l.lostTotal 1
    owed := Sparse.modify 0 l.owed v.code (· + 1) }
  match v with
  | .note => { l with lostNote := satAdd 0xFFFF l.lostNote 1 }
  | .warn => { l with lostWarn := satAdd 0xFFFF l.lostWarn 1 }
  | .fault => { l with lostFault := satAdd 0xFFFF l.lostFault 1 }
  | .critical => { l with lostCritical := satAdd 0xFFFF l.lostCritical 1 }

/-- A payload of `n` bytes: padded with zero, cut at `n`. -/
def padTo (n : Nat) (l : List Byte) : List Byte :=
  (l ++ List.replicate n 0#8).take n

/-- A record offered to the writer queue of 512 records (R376); a full queue loses it (R381). -/
def Logb.offer (l : Logb) (r : LogRec) : Logb :=
  if slotsOf l.queue + r.slots ≤ 512 then { l with queue := l.queue ++ [r] } else l.lose r.sev

/-- A record of the given type, severity and payload, stamped with the device timestamp. -/
def State.logPut (s : State) (sev : Severity) (t : RecType) (pair : Bool) (payload : List Byte) : State :=
  let r : LogRec :=
    ⟨0, sev, t, s.glb.time, padTo (if pair then 46 else 16) payload, pair, false⟩
  { s with log := s.log.offer r }

/-! ## Sources: severities and routes -/

/-- The lowest and the highest severity of channel source `s` (Table EVT-1). -/
def chanSevs (s : Nat) : Severity × Severity :=
  match s with
  | 1 => (.note, .warn)
  | 2 => (.warn, .warn)
  | 3 => (.warn, .warn)
  | 5 => (.warn, .warn)
  | 6 => (.warn, .warn)
  | 10 => (.warn, .warn)
  | 12 => (.warn, .warn)
  | 13 => (.warn, .warn)
  | _ => (.fault, .fault)

/-- The lowest and the highest severity of host port source `s` (Table EVT-2). -/
def portSevs (s : Nat) : Severity × Severity :=
  match s with
  | 1 => (.note, .fault)
  | 2 => (.warn, .warn)
  | 3 => (.critical, .critical)
  | 4 => (.warn, .warn)
  | 6 => (.warn, .warn)
  | 7 => (.fault, .fault)
  | 8 => (.fault, .fault)
  | 10 => (.warn, .warn)
  | 11 => (.warn, .warn)
  | 12 => (.warn, .warn)
  | 13 => (.fault, .critical)
  | 14 => (.fault, .fault)
  | _ => (.note, .note)

/-- The lowest and the highest severity at which source `i` can fire (Tables EVT-1 and EVT-2). -/
def srcSevs (i : Nat) : Severity × Severity :=
  if i < 1008 then chanSevs (i % 14)
  else if i < 1010 then (.note, .critical)
  else if i = 1010 then (.warn, .fault)
  else if i = 1011 then (.warn, .critical)
  else if i < 1052 then portSevs ((i - 1012) % 20)
  else if i < 1061 then (.fault, .fault)
  else if i < 1064 then (.note, .note)
  else if i < 1132 then
    (match (i - 1064) % 4 with
      | 0 => (.warn, .critical)
      | 1 => (.fault, .fault)
      | _ => (.note, .note))
  else if i < 1196 then
    (if (i - 1132) % 32 = 0 then (.warn, .critical) else (.warn, .fault))
  else if i < 1204 then (.fault, .fault)
  else if i = 1204 then (.note, .note)
  else if i < 1209 then (.fault, .fault)
  else if i < 1211 then (.note, .note)
  else if i = 1211 then (.warn, .warn)
  else if i = 1212 then (.critical, .critical)
  else if i = 1213 then (.note, .note)
  else if i = 1214 then (.fault, .fault)
  else if i < 1217 then (.critical, .critical)
  else if i = 1217 then (.warn, .warn)
  else if i = 1218 then (.critical, .critical)
  else if i = 1219 then (.note, .critical)
  else if i < 1222 then (.fault, .fault)
  else if i = 1222 then (.note, .note)
  else if i = 1223 then (.warn, .warn)
  else if i < 1226 then (.fault, .fault)
  else if i < 1228 then (.warn, .warn)
  else if i = 1228 then (.note, .critical)
  else if i = 1229 then (.warn, .warn)
  else if i = 1231 then (.fault, .critical)
  else if i < 1234 then (.fault, .fault)
  else if i = 1234 then (.note, .critical)
  else if i = 1235 then (.note, .note)
  else if i < 1238 then (.warn, .warn)
  else if i < 1256 then (.note, .critical)
  else if i = 1256 then (.warn, .warn)
  else if i = 1257 then (.fault, .fault)
  else if i < 1260 then (.note, .fault)
  else if i = 1260 then (.warn, .warn)
  else if i = 1261 then (.note, .critical)
  else if i = 1262 then (.critical, .critical)
  else if i = 1263 then (.note, .note)
  else if i = 1264 then (.note, .fault)
  else if i < 1268 then (.fault, .critical)
  else if i = 1268 then (.fault, .fault)
  else if i = 1269 then (.note, .fault)
  else if i = 1271 then (.warn, .warn)
  else if i < 1273 then (.fault, .fault)
  else if i < 1275 then (.warn, .warn)
  else if i = 1275 then (.fault, .fault)
  else if i = 1276 then (.warn, .warn)
  else if i = 1277 then (.critical, .critical)
  else if i = 1278 then (.warn, .critical)
  else (.note, .note)

/-- The host event record a source marked H posts (Tables EVT-1 and EVT-2); viral and path records are
Memory Module records, as R44 gives for the path sources. -/
def srcHostKind (i : Nat) : Option HostKind :=
  if i < 1008 then
    (if i % 14 = 4 then some .memoryModule else if i % 14 = 7 then some .generalMedia else none)
  else if i < 1012 then none
  else if i < 1052 then
    (match (i - 1012) % 20 with
      | 3 => some .memoryModule
      | 8 => some .memoryModule
      | 9 => some .memoryModule
      | _ => none)
  else if i = 1211 ∨ i = 1212 then some .generalMedia
  else none

/-- The host route in force (R408): a source not marked H posts nothing. -/
def Src.hostOn (x : Src) (i : Nat) : Bool :=
  (srcHostKind i).isSome && x.host.getD true

/-- The alert route in force (R408): by default, sources that can fire at FAULT or CRITICAL. -/
def Src.alertOn (x : Src) (i : Nat) : Bool :=
  x.alert.getD (decide (2 ≤ (srcSevs i).2.code))

/-! ## Event logs -/

/-- A record into a log of 256 records; a full log counts the overflow with its first and last time
(R412, CXL). -/
def EvLog.push (l : EvLog) (r : HostRec) : EvLog :=
  if l.recs.length < 256 then { l with recs := l.recs ++ [r] }
  else { l with
    overflow := satAdd 0xFFFF l.overflow 1
    firstOverflow := if l.overflow = 0 then r.time else l.firstOverflow
    lastOverflow := r.time }

/-- The vector of a port's log: 1 to 4 by default (R411); 255 means no interrupt. -/
def PortState.logVec (p : PortState) (log : Nat) : Nat :=
  Sparse.get (log + 1) p.logVector log

/-- A record posted to a port: its log by severity (Table PORT-5), and the log's MSI-X vector. -/
def PortState.post (p : PortState) (kind : HostKind) (i : Nat) (v : Severity) (d : Detail)
    (t : BitVec 64) : PortState :=
  { p with
    logs := Sparse.modify EvLog.reset p.logs v.code fun l => l.push ⟨kind, i, v, d, t, p.nextHandle⟩
    nextHandle := p.nextHandle + 1
    msixSent := if p.logVec v.code < 32 then setBit p.msixSent (p.logVec v.code) true else p.msixSent }

/-- A record posted to one port. -/
def State.postPort (s : State) (p : Port) (kind : HostKind) (i : Nat) (v : Severity) (d : Detail) : State :=
  s.modPort p fun x => x.post kind i v d s.glb.time

/-- An MSI-X message of a port (R411). -/
def State.sendMsix (s : State) (p : Port) (vector : Nat) : State :=
  s.modPort p fun x => { x with msixSent := setBit x.msixSent vector true }

/-- Whether a port in split mode holds device DPA `a` (R410). -/
def PortState.holds (p : PortState) (a : Nat) : Bool :=
  decide (p.partBase.toNat * 2 ^ 28 ≤ a ∧ a < (p.partBase.toNat + p.partSize.toNat) * 2 ^ 28)

/-- A host event record (R410): in multipath the lowest-numbered port with CXL.mem enabled; in split
the port whose partition holds its DPA, in that port's own DPA, or every port. -/
def State.postHost (s : State) (kind : HostKind) (i : Nat) (v : Severity) (d : Detail) : State :=
  let post (s : State) (p : Port) (d : Detail) : State :=
    if (s.port p).memEnabled then s.postPort p kind i v d else s
  let one (s : State) (p : Port) : State :=
    let x := s.port p
    if x.mode = 0b01#2 ∧ kind = .generalMedia then
      (if x.holds d.addr then post s p { d with addr := d.addr - x.partBase.toNat * 2 ^ 28 } else s)
    else post s p d
  if s.port0.memEnabled ∧ s.port0.mode = 0b10#2 then post s .hp0 d
  else if s.port1.memEnabled ∧ s.port1.mode = 0b10#2 then post s .hp1 d
  else one (one s .hp0) .hp1

/-- A record posted to mailbox 4's logs; above NOTE it asserts DEV_ALERT_N (R412). -/
def State.postAlert (s : State) (i : Nat) (v : Severity) (d : Detail) : State :=
  let kind := (srcHostKind i).getD .memoryModule
  { s with evt := { s.evt with
      logs := Sparse.modify EvLog.reset s.evt.logs v.code fun l =>
        l.push ⟨kind, i, v, d, s.glb.time, s.evt.nextHandle⟩
      nextHandle := s.evt.nextHandle + 1
      alert := s.evt.alert || decide (1 ≤ v.code)
      alertAt := if !s.evt.alert && decide (1 ≤ v.code) then s.clock else s.evt.alertAt } }

/-! ## Firing -/

/-- The payload of an EVENT record (Table EVT-4). -/
def eventPayload (i firings : Nat) (d : Detail) : List Byte :=
  leBytes 2 i ++ leBytes 2 (min firings 0xFFFF) ++ leBytes 1 d.unit ++ leBytes 6 d.addr ++
    leBytes 1 d.code ++ leBytes 4 d.value

/-- A detail in which every byte is 0 and no unit is named. -/
def Detail.none : Detail := ⟨0xFF, 0, 0, 0⟩

/-- A detail that names a unit alone. -/
def Detail.ofUnit (u : Nat) : Detail := ⟨u, 0, 0, 0⟩

/-- The write-discarded source of a port (Table EVT-2). -/
def srcWriteDiscarded (p : Port) : Nat := 1026 + 20 * portIdx p

/-- How long after its last record a source holds further firings back (R407): 1 ms for NOTE and WARN,
and the one second of R23, R256 and R309. -/
def holdPeriod (i : Nat) (v : Severity) : Nat :=
  if i = 1026 ∨ i = 1046 ∨ i = 1227 ∨ i = 1256 then sec 1
  else if v.code < 2 then ms 1 else 0

/-- The key under which held firings gather: the source itself, or for a limit kept per extent or per
rail the source with its unit. -/
def holdKey (i sub : Nat) : Nat := i + 2048 * sub

/-- The record that carries the held firings of key `k`, written when their period ends. -/
def State.flushKey (s : State) (k : Nat) : State :=
  let x := s.src k
  let i := k % 2048
  match x.lastRec with
  | none => s
  | some t =>
    if x.heldCount = 0 ∨ s.clock < t + holdPeriod i x.heldSev then s
    else
      let d := if i = 1026 ∨ i = 1046 then { x.heldDetail with value := x.heldCount } else x.heldDetail
      let s := s.logPut x.heldSev .event false (eventPayload i x.heldCount d)
      s.modSrc k fun x => { x with
        lastRec := some (t + holdPeriod i x.heldSev), heldCount := 0, heldSev := .note
        heldDetail := ⟨0, 0, 0, 0⟩ }

/-- The EVENT record of one firing, or its holding back (R407). -/
def State.recordFiring (s : State) (i k : Nat) (v : Severity) (d : Detail) : State :=
  let s := s.flushKey k
  let x := s.src k
  let held := match x.lastRec with
    | none => false
    | some t => decide (s.clock < t + holdPeriod i v)
  if held then
    s.modSrc k fun x => { x with
      heldCount := x.heldCount + 1
      heldSev := if x.heldCount = 0 then v else Severity.max x.heldSev v
      heldDetail := if x.heldCount = 0 then d else x.heldDetail }
  else
    (s.logPut v .event false (eventPayload i 1 d)).modSrc k fun x => { x with lastRec := some s.clock }

/-- The pending bit and the count of a firing (R406). -/
def State.markFired (s : State) (i : Nat) (v : Severity) : State :=
  s.modSrc i fun x => { x with pending := true, count := satAdd 0xFFF x.count 1, sev := some v }

/-- The push of a firing into the Mainmast FIFO of 256 entries (R409). -/
def State.pushFifo (s : State) (i : Nat) : State :=
  if (s.src i).mst then
    { s with evt :=
        if s.evt.fifo.length < 256 then { s.evt with fifo := s.evt.fifo ++ [i] }
        else { s.evt with fifoOverflow := true } }
  else s

/-- The routes of a firing: Mainmast, host, alert (R408 to R412). -/
def State.routeFiring (s : State) (i : Nat) (v : Severity) (d : Detail) : State :=
  let s := s.pushFifo i
  let s := if (s.src i).hostOn i then
      s.postHost ((srcHostKind i).getD .memoryModule) i v d else s
  if (s.src i).alertOn i then s.postAlert i v d else s

/-- Source `i` fires at severity `v`, its held firings gathered under `sub` (R406, R407). -/
def State.fireSub (s : State) (i sub : Nat) (v : Severity) (d : Detail) : State :=
  ((s.markFired i v).recordFiring i (holdKey i sub) v d).routeFiring i v d

/-- Source `i` fires at severity `v`. -/
def State.fire (s : State) (i : Nat) (v : Severity) (d : Detail) : State :=
  s.fireSub i 0 v d

/-- A path record (R44): the named port's own log, whatever R410 would choose. -/
def State.firePath (s : State) (on : Port) (i : Nat) (v : Severity) (d : Detail) : State :=
  let s := ((s.markFired i v).recordFiring i (holdKey i 0) v d).pushFifo i
  let s := if (s.src i).hostOn i ∧ (s.port on).memEnabled then
      s.postPort on .memoryModule i v d else s
  if (s.src i).alertOn i then s.postAlert i v d else s

/-- Source 1,228 fires, writing an OUTCOME pair in place of the EVENT record (R451, Table LOG-2). -/
def State.fireOutcome (s : State) (v : Severity) (kind id outcome delivered seq : Nat) : State :=
  let s := s.markFired 1228 v
  let s := s.logPut v .outcome true
    (leBytes 2 1228 ++ leBytes 1 kind ++ leBytes 1 0 ++ leBytes 2 id ++ leBytes 2 outcome ++
      leBytes 6 delivered ++ leBytes 8 seq)
  s.routeFiring 1228 v ⟨0xFF, 0, outcome, delivered⟩

/-- The logs of mailbox 4 that keep DEV_ALERT_N asserted: Warning, Failure and Fatal (R412). -/
def Evt.alertHeld (e : Evt) : Bool :=
  [1, 2, 3].any fun l => !(Sparse.get EvLog.reset e.logs l).recs.isEmpty

/-! ## Leaky buckets -/

/-- Size of a bucket of a class (Table EVT-3). -/
def bucketSize (c : Nat) : Nat :=
  match c with
  | 0 => 1024
  | 1 => 64
  | 2 => 256
  | 3 => 16
  | 4 => 4096
  | _ => 256

/-- The source that a full bucket fires (Table EVT-3). -/
def bucketSource (c unit : Nat) : Nat :=
  match c with
  | 0 => 14 * (unit / 8) + 5
  | 1 => 14 * (unit / 8) + 6
  | 2 => 14 * unit + 2
  | 3 => 14 * unit + 3
  | 4 => 1132 + unit
  | _ => 1018 + 20 * unit

/-- The unit byte of a full bucket's record: the die on the channel, the pseudo-channel or the port. -/
def bucketUnit (c unit : Nat) : Nat :=
  if c ≤ 1 then unit % 8 else if c ≤ 3 then 0xFF else unit

/-- The key of a bucket. -/
def bucketKey (c unit : Nat) : Nat := c * 1024 + unit

/-- One qualifying occurrence (R413). -/
def State.bucketAdd (s : State) (c unit : Nat) : State :=
  let b := Sparse.get Bucket.reset s.evt.buckets (bucketKey c unit)
  let full := decide (bucketSize c ≤ b.level + 1)
  let b' : Bucket := if full then ⟨0, satAdd 0xFFFF b.fired 1⟩ else { b with level := b.level + 1 }
  let s := { s with evt := { s.evt with
    buckets := Sparse.set Bucket.reset s.evt.buckets (bucketKey c unit) b' } }
  if full then
    s.fire (bucketSource c unit) .warn ⟨bucketUnit c unit, 0, 0, bucketSize c⟩
  else s

/-- `n` qualifying occurrences. -/
def State.bucketAddN (s : State) (c unit : Nat) : Nat → State
  | 0 => s
  | n + 1 => State.bucketAddN (s.bucketAdd c unit) c unit n

end Sys2Proof.Machine
end

