-- ==== Sys2Proof/Machine/Operands.lean ====
section
/-! DEFINITION. The forms an operand takes: host physical addresses through the HDM decoders to device
addresses (R36, R42), logical sector numbers (R13, R60, R74), key-map entries (R227) and media sector
addresses (R123 to R127, R133, R145, R147). -/

namespace Sys2Proof.Machine

open Sys2Proof

/-! ## HPA to device DPA -/

/-- The offset inside the device of offset `off` of a decoder's HPA range (Table PORT-1, R36). -/
def Decoder.dpaOf (d : Decoder) (off : Nat) : Nat :=
  d.skip + off / (d.granularity * d.ways) * d.granularity + off % d.granularity

/-- The port DPA of an HPA, by the first committed decoder whose range holds it. -/
def PortState.decodeHpa (p : PortState) (hpa : Nat) : Option Nat :=
  ((p.decoders.map Prod.snd).find? fun d =>
    d.committed && decide (d.base ≤ hpa ∧ hpa < d.base + d.size)).map
    fun d => d.dpaOf (hpa - d.base)

/-- The device DPA of a port DPA: the partition base is added in split mode (R36). -/
def PortState.toDevice (p : PortState) (a : Nat) : Nat :=
  if p.mode = 0b01#2 then p.partBase.toNat * 2 ^ 28 + a else a

/-- The device DPA of an HPA on a port; none where no decoder matches. -/
def PortState.dpa (p : PortState) (hpa : Nat) : Option Nat :=
  (p.decodeHpa hpa).map p.toDevice

/-- User capacity in bytes (Table LAYOUT-3): 8 TiB for each die of a module. -/
def State.capacity (s : State) : Nat :=
  s.wlv.dies * 2 ^ 43

/-- The size of the DPA space a port presents (R36). -/
def State.portSize (s : State) (p : Port) : Nat :=
  if (s.port p).mode = 0b01#2 then (s.port p).partSize.toNat * 2 ^ 28 else s.capacity

/-! ## Logical sectors and lines -/

/-- The LSN of a device DPA. -/
def lsnOf (dpa : Nat) : Nat := dpa / 256

/-- The line of a device DPA within its sector. -/
def lineOf (dpa : Nat) : Nat := dpa / 64 % 4

/-- The logical slice of an LSN: the XOR of its ten 4-bit groups (R60). -/
def sliceHash (lsn : Nat) : Nat :=
  (List.range 10).foldl (fun a i => a ^^^ (lsn >>> (4 * i)) % 16) 0

/-- The set of an LSN within its logical slice (R74). -/
def setOf (lsn : Nat) : Nat :=
  lsn % 131072 + 131072 * ((lsn / 131072) % 5)

/-- The tag of an LSN (R74). -/
def tagOf (lsn : Nat) : Nat := lsn / 131072

/-- The key-map entry of an LSN: LSN[39:20] (R227). -/
def entryOf (lsn : Nat) : Nat := lsn / 2 ^ 20

/-- The 4 KiB row of an LSN: LSN[39:4]. -/
def rowOf (lsn : Nat) : Nat := lsn / 16

/-- The Shroud slot a key-map entry names. -/
def State.keySlotOf (s : State) (entry : Nat) : Nat :=
  Sparse.get s.shr.keyMapDefault s.shr.keyMap entry

/-! ## From LSN to die sector -/

/-- A member's place: its module, channel, die, die sector, global row and parity rotation, and whether
the member is absent (R133). -/
structure Place where
  slot : Nat
  ch : Nat
  die : Nat
  sector : Nat
  row : Nat
  rot : Nat
  absent : Bool
  deriving DecidableEq, Repr

/-- The four round keys of region `g` (R124). -/
def regionKeys (wearKey : BitVec 256) (g : Nat) : List Nat :=
  let t := (aes wearKey (BitVec.ofNat 128 g)).toNat
  [t % 1024, (t >>> 10) % 1024, (t >>> 20) % 1024, (t >>> 30) % 1024]

/-- The round function of the keyed permutation (R124). -/
def feistelRound (r k : Nat) : Nat :=
  let t := r ^^^ k
  (t * 0x2C5 + t / 16) % 1024

/-- The keyed permutation of a row index by its round keys (R124). -/
def feistel (keys : List Nat) (x : Nat) : Nat :=
  let e := keys.foldl (fun (lr : Nat × Nat) k => (lr.2, lr.1 ^^^ feistelRound lr.2 k)) (x / 1024, x % 1024)
  e.1 * 1024 + e.2

/-- The wear key in use. -/
def State.wearKey (s : State) : BitVec 256 :=
  s.wlv.wearKey.getD 0#256

/-- One region's start-gap state. -/
def State.region (s : State) (g : Nat) : Region :=
  Sparse.get Region.reset s.wlv.regions g

/-- Start-gap (R125). -/
def Region.position (r : Region) (y : Nat) : Nat :=
  let p := (y + r.start) % 1048576
  if r.gap ≤ p then p + 1 else p

/-- The global row of a 4 KiB row (R123 to R126). -/
def State.globalRow (s : State) (row : Nat) : Nat :=
  let g := row / 2 ^ 20
  g * 1048577 + (s.region g).position (feistel (regionKeys s.wearKey g) (row % 2 ^ 20))

/-- The module of a member of a row with parity rotation `k` (R126): 0 is P, 1 is Q, 2 + j is data
member j. -/
def memberSlot (k pos : Nat) : Nat := (k + pos) % 18

/-- The key of a swath of a module's die. -/
def swathKey (slot die swath : Nat) : Nat := (slot * 32 + die) * 2 ^ 20 + swath

/-- The key of a module's die. -/
def dieKey (slot die : Nat) : Nat := slot * 32 + die

/-- The adoption record of a module's die, if it is retired (R147). -/
def State.adoption (s : State) (slot die : Nat) : Option Adoption :=
  s.wlv.adoptions.find? fun a => a.slot == slot && a.die == die

/-- Where a logical swath of a module's die lies now for die row `w12` within it (R145 to R147): the die
and the physical swath, and whether the member must be read around. -/
def State.physSwath (s : State) (slot die swath w12 : Nat) : Nat × Nat × Bool :=
  match s.adoption slot die with
  | some a =>
    let n := a.adopters.length
    let t := a.adopters.getD (swath % max 1 n) (die, 0)
    (t.1, t.2 + swath / max 1 n, decide (a.pointer ≤ swath))
  | none =>
    match Sparse.find s.wlv.remap (swathKey slot die swath) with
    | some e =>
      if e.migrating && decide (e.pointer ≤ w12) then (e.oldDie, e.oldSwath, false)
      else (e.targetDie, e.targetSwath, false)
    | none => (die, swath, false)

/-- Whether the module of a slot holds its member of global row `r` (R133). -/
def State.slotHolds (s : State) (k r : Nat) : Bool :=
  match (s.slot k).state with
  | .inService => true
  | .rebuilding => decide (s.stp.rebuildModule = some k ∧ r < s.stp.rebuildRow)
  | _ => false

/-- The place of the member at position `pos` of a global row (R126, R133). -/
def State.memberPlace (s : State) (r pos : Nat) : Place :=
  let dies := s.wlv.dies
  let per := max 1 (dies / 4)
  let c := r % 4
  let d := r / 4 % per
  let w := r / max 1 dies
  let k := w % 18
  let slot := memberSlot k pos
  let die := c * per + d
  let swath := w / 4096
  let ph := s.physSwath slot die swath (w % 4096)
  let cd := dieOfModule dies slot ph.1
  let forced := s.wlv.forcedOut.contains (swathKey slot die swath)
  let dead := (s.ch cd.1).failed || bitOf (s.ch cd.1).diesFailed cd.2
  ⟨slot, cd.1, cd.2, ph.2.1 * 4096 + w % 4096, r, k,
    !(s.slotHolds slot r) || forced || ph.2.2 || dead⟩

/-- The place of a sector (R123). -/
def State.place (s : State) (lsn : Nat) : Place :=
  s.memberPlace (s.globalRow (rowOf lsn)) (2 + lsn % 16)

/-- The places of all eighteen members of a 4 KiB row: P, Q, then the data members. -/
def State.rowPlaces (s : State) (row : Nat) : List Place :=
  (List.range 18).map (s.memberPlace (s.globalRow row))

/-- The logical swath of a global row on every die. -/
def State.rowSwath (s : State) (r : Nat) : Nat :=
  r / max 1 s.wlv.dies / 4096

/-! ## Channels of a module -/

/-- The channels of a module. -/
def channelsOf (k : Nat) : List Nat :=
  [4 * k, 4 * k + 1, 4 * k + 2, 4 * k + 3]

/-- The modules that are present and in service. -/
def State.presentSlots (s : State) : List Nat :=
  (List.range 18).filter fun k => (s.slot k).state.serving

/-- The first present module upward from `k`, wrapping, other than `skip`. -/
def State.firstPresentFrom (s : State) (k : Nat) (skip : Option Nat) : Option Nat :=
  ((List.range 18).map fun i => (k + i) % 18).find? fun m =>
    (s.slot m).state.serving && decide (some m ≠ skip)

end Sys2Proof.Machine
end

