-- ==== Sys2Proof/Machine/CacheOps.lean ====
section
/-! DEFINITION. The shared operations on the staging cache, the victim buffer, the dirty budget and the
poison list: lookup and replacement (R73 to R82), landing a write and a fill (R78, R79), mirror slots
and charges (R78, R103), victim entries (R86 to R90) and poison entries (R187 to R189). -/

namespace Sys2Proof.Machine

open Sys2Proof

/-! ## Occurrences counted by the performance counters -/

/-- `n` occurrences of the event of a code of Table PMU-1 in the present cycle. -/
def State.occ (s : State) (code n : Nat) : State :=
  { s with pmu := { s.pmu with occ := Sparse.modify 0 s.pmu.occ code (· + n) } }

/-! ## Line and block states -/

/-- A line whose 64 bytes are all held (R77). -/
def LineState.valid : LineState → Bool
  | .clean => true
  | .dirtyFull => true
  | _ => false

/-- A line that holds bytes media does not. -/
def LineState.dirty : LineState → Bool
  | .dirtyFull => true
  | .dirtyPartial => true
  | _ => false

/-- Codes of Table CACHE-4. -/
def LineState.code : LineState → Nat
  | .invalid => 0
  | .clean => 1
  | .dirtyFull => 2
  | .dirtyPartial => 3

/-- Any line dirty. -/
def anyDirty (l : Four LineState) : Bool := l.toList.any LineState.dirty

/-- Any line Dirty-partial. -/
def anyPartial (l : Four LineState) : Bool := l.toList.any (· == .dirtyPartial)

/-- Every line Invalid. -/
def allInvalid (l : Four LineState) : Bool := l.toList.all (· == .invalid)

/-- An Invalid way. -/
def Way.empty : Way :=
  ⟨0, Four.all .invalid, 0#4, none, Four.zero, Four.all 0#64, false, 0, none, 0#4, false⟩

/-! ## Places in the cache -/

/-- The key of a set. -/
def setKey (ls set : Nat) : Nat := ls * 655360 + set

/-- The key of a way. -/
def wayKey (ls set way : Nat) : Nat := setKey ls set * 16 + way

/-- The set of a way's key, within its logical slice. -/
def setOfKey (key : Nat) : Nat := key / 16 % 655360

/-- The logical slice of a way's key. -/
def sliceOfKey (key : Nat) : Nat := key / 16 / 655360

/-- The LSN that a way holds (R74). -/
def Way.lsn (w : Way) (key : Nat) : Nat := w.tag * 131072 + setOfKey key % 131072

/-- The HBM stack of a way (Table CACHE-1). -/
def stackOfWay (way : Nat) : Nat := if way < 8 then 0 else 1

/-- The pseudo-channel of a way of logical slice `ls`, within its stack (Table CACHE-1). -/
def pcOfWay (ls way : Nat) : Nat := 2 * ls + (if way % 8 < 4 then 0 else 1)

/-- The unit out of service for a slice of a self-test of a code (R370). -/
def State.underTest (s : State) (test unit : Nat) : Bool :=
  match s.trm.slice with
  | some x => x.test == test && x.unit == unit
  | none => false

/-- Whether a pseudo-channel serves; one under test takes no way and no mirror slot (Table TRIM-2). -/
def State.pcOk (s : State) (stack pc : Nat) : Bool :=
  bitOf s.cache.stackOk stack && !bitOf s.cache.pcFenced (stack * 32 + pc) &&
    !s.underTest 2 (stack * 32 + pc)

/-- A way whose pseudo-channel and stack serve. -/
def State.wayServes (s : State) (ls way : Nat) : Bool :=
  s.pcOk (stackOfWay way) (pcOfWay ls way)

/-- The way at a key, Invalid where none is listed. -/
def State.way (s : State) (key : Nat) : Way :=
  (Sparse.find s.cache.ways key).getD Way.empty

/-- A way as it stands in a fenced pseudo-channel or stack: only its dirty lines are served, from their
other copy (R84, R85). -/
def Way.fencedLines (w : Way) : Way :=
  { w with lines := w.lines.map fun _ st => if st = .clean then .invalid else st }

/-- The state with one way changed; an Invalid way that is not held is not listed. -/
def State.setWay (s : State) (key : Nat) (w : Way) : State :=
  let w := if s.wayServes (sliceOfKey key) (key % 16) then w else w.fencedLines
  let ways := if allInvalid w.lines && !w.held then Sparse.erase s.cache.ways key
    else Sparse.put s.cache.ways key w
  { s with cache := { s.cache with ways := ways } }

/-- The way that holds an LSN, or is held for its fill. -/
def State.findWay (s : State) (lsn : Nat) : Option Nat :=
  let ls := sliceHash lsn
  let set := setOf lsn
  ((List.range 16).find? fun w =>
    match Sparse.find s.cache.ways (wayKey ls set w) with
    | some x => x.tag == tagOf lsn
    | none => false).map (wayKey ls set)

/-- The physical slice that serves a logical slice, and whether in bypass (R95, R96); a slice in a
planned handover serves from its incoming slice (R97). -/
def State.serving (s : State) (ls : Nat) : Option (Nat × Bool) :=
  match (List.range 17).find? fun n => (s.slice n).serves == some ls && (s.slice n).role != .failed with
  | some n => some (n, false)
  | none =>
    match (List.range 17).find? fun n => (s.slice n).bypassFor == some ls with
    | some n => some (n, true)
    | none => none

/-- Whether a cache serves a logical slice: a slice serves it and a stack is in service. -/
def State.cached (s : State) (ls : Nat) : Bool :=
  (s.serving ls).isSome && s.cache.stackOk != 0#2

/-- Whether a logical slice is in bypass. -/
def State.bypassed (s : State) (ls : Nat) : Bool :=
  match s.serving ls with
  | some (_, b) => b
  | none => false

/-- The tag SRAM takes the set of a lookup (Table CACHE-1). -/
def State.touchTagSram (s : State) (lsn : Nat) : State :=
  { s with cache := { s.cache with
    tagSram := Sparse.put s.cache.tagSram (sliceHash lsn * 32768 + setOf lsn % 32768)
      (setOf lsn / 32768) } }

/-! ## Pseudo-LRU (R81) -/

/-- The depth of a node of the tree of 31 nodes. -/
def plruDepth (n : Nat) : Nat :=
  if n < 1 then 0 else if n < 3 then 1 else if n < 7 then 2 else if n < 15 then 3 else 4

/-- Whether an allowed way lies under node `n`. -/
def subtreeHas (n : Nat) (allowed : Nat → Bool) : Bool :=
  let d := plruDepth n
  let width := 2 ^ (4 - d)
  (List.range width).any fun i => allowed ((n + 1 - 2 ^ d) * width + i)

/-- The walk of R81 from node `n`. -/
def plruWalkFrom (bits : BitVec 15) (allowed : Nat → Bool) : Nat → Nat → Nat
  | 0, n => n
  | f + 1, n =>
    let l := 2 * n + 1
    let r := 2 * n + 2
    plruWalkFrom bits allowed f
      (if !subtreeHas l allowed then r
       else if !subtreeHas r allowed then l
       else if bitOf bits n then r else l)

/-- The walk of R81: a victim among the allowed ways, if there is one. -/
def plruWalk (bits : BitVec 15) (allowed : Nat → Bool) : Option Nat :=
  let n := plruWalkFrom bits allowed 4 0
  if allowed (n - 15) then some (n - 15) else none

/-- The nodes on the path to `way` set to point away from it, from node `n` at level `f`. -/
def plruTouchFrom (way : Nat) : Nat → Nat → BitVec 15 → BitVec 15
  | 0, _, b => b
  | f + 1, n, b =>
    let right := way / 2 ^ f % 2 == 1
    plruTouchFrom way f (2 * n + (if right then 2 else 1)) (setBit b n (!right))

/-- The pseudo-LRU bits of a set. -/
def State.plru (s : State) (ls set : Nat) : BitVec 15 :=
  Sparse.get 0#15 s.cache.plru (setKey ls set)

/-- A hit, fill or write of the way at a key (R81). -/
def State.touchWay (s : State) (key : Nat) : State :=
  { s with cache := { s.cache with
    plru := Sparse.modify 0#15 s.cache.plru (key / 16) (plruTouchFrom (key % 16) 4 0) } }

/-! ## Mirror slots and charges -/

/-- The key of a mirror slot of a stack. -/
def mirrorKey (stack slot : Nat) : Nat := stack * 2 ^ 23 + slot

/-- The stack of a mirror slot's key. -/
def stackOfMirror (m : Nat) : Nat := m / 2 ^ 23

/-- The pseudo-channel of a mirror slot: the pool is striped across all 32 (Table CACHE-2). -/
def pcOfMirror (m : Nat) : Nat := m % 32

/-- Units charged to the dirty budget (R103). -/
def State.charged (s : State) : Nat :=
  (s.cache.mirror.map fun e => 1 + b2n e.2.extra).sum

/-- The budget in force in units of 256 B (R104). -/
def State.budgetUnits (s : State) : Nat := s.glb.effBudget * 262144

/-- The first free mirror slot of a stack from `k` on whose pseudo-channel `ok` admits. -/
def freeMirrorFrom (m : Sparse Mirror) (ok : Nat → Bool) : Nat → Nat → Option Nat
  | 0, _ => none
  | f + 1, k =>
    if ok k && (Sparse.find m k).isNone then some k else freeMirrorFrom m ok f (k + 1)

/-- A free mirror slot for a block homed in `way` of logical slice `ls` (R78; with one stack alone, the
opposite half of that stack, R85). -/
def State.freeMirror (s : State) (ls way : Nat) : Option Nat :=
  let home := stackOfWay way
  let fuel := s.cache.mirror.length + 64
  if s.cache.stackOk = 0b11#2 then
    freeMirrorFrom s.cache.mirror (fun k => s.pcOk (stackOfMirror k) (pcOfMirror k)) fuel
      (mirrorKey (1 - home) 0)
  else
    freeMirrorFrom s.cache.mirror
      (fun k => s.pcOk (stackOfMirror k) (pcOfMirror k) &&
        decide (pcOfMirror k / 16 ≠ pcOfWay ls way / 16)) fuel (mirrorKey home 0)

/-- The way whose block holds a mirror slot. -/
def State.wayOfSlot (s : State) (m : Nat) : Option (Nat × Way) :=
  s.cache.ways.find? fun e => e.2.mslot == some m && !allInvalid e.2.lines

/-- The youngest victim entry that shares a mirror slot (R110). -/
def State.victimOfSlot (s : State) (m : Nat) : Option (Nat × Victim) :=
  (s.vbf.entries.filter fun e => e.2.mslot == some m).foldl
    (fun (a : Option (Nat × Victim)) e =>
      match a with
      | none => some e
      | some b => if b.2.order < e.2.order then some e else some b) none

/-- Whether the content the dump would write for a slot has a Dirty-partial line (R103, R110). -/
def State.slotPartial (s : State) (m : Nat) : Bool :=
  match s.wayOfSlot m with
  | some (_, w) => anyPartial w.lines
  | none =>
    match s.victimOfSlot m with
    | some (_, v) => v.tracker.isNone && anyPartial v.lines
    | none => false

/-- A slot after a change to the blocks that share it: freed with its charge when no dirty line and no
victim entry needs it (R78), else its second unit as R103 has it. -/
def State.settleSlot (s : State) (m : Nat) : State :=
  let needed := (s.cache.ways.any fun e => e.2.mslot == some m && anyDirty e.2.lines) ||
    (s.vbf.entries.any fun e => e.2.mslot == some m)
  if needed then
    { s with cache := { s.cache with
      mirror := Sparse.adjust s.cache.mirror m fun x => { x with extra := s.slotPartial m } } }
  else
    { s with cache := { s.cache with
      mirror := Sparse.erase s.cache.mirror m
      ways := Sparse.mapVals s.cache.ways fun w =>
        if w.mslot == some m then { w with mslot := none } else w } }

/-- `settleSlot` where there is a slot. -/
def State.settleSlotOpt (s : State) : Option Nat → State
  | some m => s.settleSlot m
  | none => s

/-- The mirror copy of a way brought up to date, a slot taken if the way is dirty and has none (R78). -/
def State.mirrorWay (s : State) (key : Nat) : State :=
  let w := s.way key
  let slot := match w.mslot with
    | some m => some m
    | none => if anyDirty w.lines then s.freeMirror (sliceOfKey key) (key % 16) else none
  match slot with
  | none => s
  | some m =>
    let x : Mirror := ⟨w.lsn key, w.data, w.mask, false⟩
    let s := { s with cache := { s.cache with mirror := Sparse.put s.cache.mirror m x } }
    (s.setWay key { w with mslot := some m }).settleSlot m

/-! ## Victim entries -/

/-- Victim entries in banks in service that are FREE. -/
def State.victimFree (s : State) : Nat :=
  4096 * (8 - popCount s.vbf.fenced) -
    (s.vbf.entries.countP fun e => !bitOf s.vbf.fenced (e.1 / 4096))

/-- FREE entries no write has reserved (R87). -/
def State.victimUnreserved (s : State) : Nat := s.victimFree - s.vbf.reserved

/-- The lowest FREE entry of the banks in service. -/
def State.freshVictim (s : State) : Option Nat :=
  (List.range 8).findSome? fun b =>
    if bitOf s.vbf.fenced b then none
    else
      match Sparse.freshFrom s.vbf.entries (s.vbf.entries.length + 1) (b * 4096) with
      | some i => if i < (b + 1) * 4096 then some i else none
      | none => none

/-- `f` on one victim entry. -/
def State.modVictim (s : State) (i : Nat) (f : Victim → Victim) : State :=
  { s with vbf := { s.vbf with entries := Sparse.adjust s.vbf.entries i f } }

/-- A victim entry freed, and its mirror slot settled. -/
def State.freeVictim (s : State) (i : Nat) : State :=
  let m := (Sparse.find s.vbf.entries i).bind (·.mslot)
  ({ s with vbf := { s.vbf with entries := Sparse.erase s.vbf.entries i } }).settleSlotOpt m

/-- The block of a way copied to a victim entry (R81, R107); `copyOnly` leaves the way valid, with the
entry named in it. -/
def State.victimise (s : State) (key : Nat) (copyOnly : Bool) (maint : Option Nat) (flush : Bool) : State :=
  match s.freshVictim with
  | none => s
  | some i =>
    let w := s.way key
    let v : Victim :=
      { st := .held, lsn := w.lsn key, lines := w.lines, poison := w.poison, mask := w.mask
        data := w.data, mslot := w.mslot, tracker := none, trackPoison := 0#4, set := none
        order := s.vbf.nextOrder, since := s.clock, merging := none
        maint := maint, sweep := false, rebuilding := false }
    let s := { s with vbf := { s.vbf with
      entries := Sparse.put s.vbf.entries i v, nextOrder := s.vbf.nextOrder + 1 } }
    if copyOnly then
      s.setWay key { w with flushing := some i, written := 0#4, flush := flush }
    else (s.setWay key Way.empty).settleSlotOpt w.mslot

/-- A way emptied for a new block: a Clean block is dropped, a dirty one goes to a victim entry (R81). -/
def State.vacate (s : State) (key : Nat) : State :=
  if anyDirty (s.way key).lines then s.victimise key false none false
  else s.setWay key Way.empty

/-- Victim entries of an LSN, oldest first. -/
def State.victimsOf (s : State) (lsn : Nat) : List (Nat × Victim) :=
  s.vbf.entries.filter fun e => e.2.lsn == lsn

/-- The youngest victim entry of an LSN, which a request's lookup matches. -/
def State.matchVictim (s : State) (lsn : Nat) : Option (Nat × Victim) :=
  (s.victimsOf lsn).foldl
    (fun (a : Option (Nat × Victim)) e =>
      match a with
      | none => some e
      | some b => if b.2.order < e.2.order then some e else some b) none

/-! ## Allocation -/

/-- A way chosen in a set (R81) among the ways `allowed`: the lowest usable Invalid way, else the walk;
a dirty victim only where an entry can take it. -/
def State.chooseWay (s : State) (ls set : Nat) (allowed : Nat → Bool) (victimOk : Bool) : Option Nat :=
  let usable (w : Nat) : Bool :=
    allowed w && s.wayServes ls w && !(s.way (wayKey ls set w)).held
  let dirty (w : Nat) : Bool := anyDirty (s.way (wayKey ls set w)).lines
  match (List.range 16).find? fun w => usable w && allInvalid (s.way (wayKey ls set w)).lines with
  | some w => some w
  | none =>
    match plruWalk (s.plru ls set) usable with
    | none => none
    | some w =>
      if dirty w && !victimOk then plruWalk (s.plru ls set) fun x => usable x && !dirty x
      else some w

/-- Whether a fill into `way` leaves the set the ways R82 keeps free of fills. -/
def State.fillAllowed (s : State) (ls set way : Nat) : Bool :=
  let free (w : Nat) : Bool :=
    w != way && s.wayServes ls w && !(s.way (wayKey ls set w)).held
  let inStack (n : Nat) : Bool := (List.range 8).any fun i => free (8 * n + i)
  if s.cache.stackOk = 0b11#2 then inStack 0 && inStack 1
  else (List.range 16).any free

/-- A way for the fill of a block (R81, R82), emptied and held; none where the read is served without
allocation. -/
def State.allocFill (s : State) (lsn : Nat) : State × Option Nat :=
  let ls := sliceHash lsn
  let set := setOf lsn
  match s.chooseWay ls set (fun _ => true) (decide (0 < s.victimUnreserved)) with
  | none => (s, none)
  | some w =>
    if s.fillAllowed ls set w then
      let key := wayKey ls set w
      let s := s.vacate key
      (s.setWay key { Way.empty with tag := tagOf lsn, held := true }, some key)
    else (s, none)

/-- A way for a write or a recall, among the ways `allowed`, emptied. -/
def State.allocWrite (s : State) (lsn : Nat) (allowed : Nat → Bool) : State × Option Nat :=
  let ls := sliceHash lsn
  let set := setOf lsn
  match s.chooseWay ls set allowed true with
  | none => (s, none)
  | some w =>
    let key := wayKey ls set w
    let s := s.vacate key
    (s, some key)

/-- The ways a recall may take for a block whose mirror slot is `m` (R90). -/
def State.recallAllowed (s : State) (m : Option Nat) (way : Nat) : Bool :=
  match m with
  | some x => if s.cache.stackOk = 0b11#2 then stackOfWay way != stackOfMirror x else true
  | none => true

/-! ## Landing writes and fills -/

/-- How a write lands on one line (Table CACHE-5): the new state, bytes and mask. A poisoned write
leaves the line Dirty-full (R77). -/
def landLine (st : LineState) (old : Line) (mask : Mask) (full poison : Bool) (data : Line)
    (en : Mask) : LineState × Line × Mask :=
  if full then (.dirtyFull, data, 0#64)
  else
    let merged := mergeBytes en data old
    if poison then (.dirtyFull, merged, 0#64)
    else
      match st with
      | .invalid => (.dirtyPartial, mergeBytes en data 0#512, en)
      | .dirtyPartial =>
        if mask ||| en = BitVec.allOnes 64 then (.dirtyFull, merged, 0#64)
        else (.dirtyPartial, merged, mask ||| en)
      | _ => (.dirtyFull, merged, 0#64)

/-- The way after a write to one of its lines (R78, R32). -/
def Way.write (w : Way) (line : Nat) (full poison : Bool) (data : Line) (en : Mask) (now : Nat) : Way :=
  let r := landLine (w.lines.get line) (w.data.get line) (w.mask.get line) full poison data en
  { w with
    lines := w.lines.set line r.1
    data := w.data.set line r.2.1
    mask := w.mask.set line r.2.2
    poison := if poison then setBit w.poison line true
      else if full then setBit w.poison line false else w.poison
    dirtySince := if anyDirty w.lines then w.dirtySince else now
    written := setBit w.written line true }

/-- How a fill lands on one line (R79): the media bytes outside what the line holds. -/
def fillLine (st : LineState) (old : Line) (mask : Mask) (media : Line) : LineState × Line × Mask :=
  match st with
  | .invalid => (.clean, media, 0#64)
  | .dirtyPartial => (.dirtyFull, mergeBytes mask old media, 0#64)
  | st => (st, old, mask)

/-- The way after a fill with the plaintext and poison bits of its sector; a poison bit is set only on
a line that takes media bytes, and never cleared (R79). -/
def Way.fill (w : Way) (plain : Four Line) (poison : BitVec 4) : Way :=
  let r (i : Nat) := fillLine (w.lines.get i) (w.data.get i) (w.mask.get i) (plain.get i)
  let takes (i : Nat) : Bool :=
    match w.lines.get i with
    | .invalid => true
    | .dirtyPartial => true
    | _ => false
  { w with
    lines := ⟨(r 0).1, (r 1).1, (r 2).1, (r 3).1⟩
    data := ⟨(r 0).2.1, (r 1).2.1, (r 2).2.1, (r 3).2.1⟩
    mask := ⟨(r 0).2.2, (r 1).2.2, (r 2).2.2, (r 3).2.2⟩
    poison := (List.range 4).foldl
      (fun p i => if takes i && bitOf poison i then setBit p i true else p) w.poison
    held := false }

/-! ## The poison list -/

/-- Entries changed since their last copy to media (R188). -/
def Wlv.touchPoison (w : Wlv) (lsn : Nat) : Wlv :=
  { w with poisonDirty := if w.poisonDirty.contains lsn then w.poisonDirty else w.poisonDirty ++ [lsn] }

/-- Lines of a sector entered in the poison list (R187, R188): an entry that exists gains the lines, and
takes the new state unless it is PENDING; a full list sets overflow and reports it once. -/
def State.poisonAdd (s : State) (lsn : Nat) (lines : BitVec 4) (st : PoisonState) : State :=
  match Sparse.find s.wlv.poison lsn with
  | some e =>
    let e' : Poison := ⟨e.lines ||| lines, if e.state = .pending then .pending else st, s.glb.time⟩
    { s with wlv := { s.wlv with poison := Sparse.put s.wlv.poison lsn e' }.touchPoison lsn }
  | none =>
    if s.wlv.poison.length < 1048576 then
      { s with wlv := { s.wlv with
        poison := Sparse.put s.wlv.poison lsn ⟨lines, st, s.glb.time⟩ }.touchPoison lsn }
    else if s.wlv.overflow then s
    else
      ({ s with wlv := { s.wlv with overflow := true, overflowAt := s.glb.time } }).fire 1218 .critical
        { Detail.none with addr := lsn * 256 }

/-- An entry removed; overflow clears below 1,040,384 entries (R188). -/
def State.poisonDrop (s : State) (lsn : Nat) : State :=
  let p := Sparse.erase s.wlv.poison lsn
  { s with wlv := { s.wlv with
    poison := p
    overflow := s.wlv.overflow && decide (1040384 ≤ p.length) }.touchPoison lsn }

/-- A line bit cleared by a non-poisoned full-line write (R189); a PENDING entry keeps its bits. -/
def State.poisonClear (s : State) (lsn line : Nat) : State :=
  match Sparse.find s.wlv.poison lsn with
  | none => s
  | some e =>
    if e.state = .pending ∨ !bitOf e.lines line then s
    else
      let l := setBit e.lines line false
      if l = 0#4 then s.poisonDrop lsn
      else
        let e' : Poison := ⟨l, e.state, s.glb.time⟩
        { s with wlv := { s.wlv with poison := Sparse.put s.wlv.poison lsn e' }.touchPoison lsn }

/-! ## Media sectors -/

/-- What a sector holds that no program has written since the set was formatted or sanitized: zero plaintext
under the key that its key-map entry named then (log entry 4). -/
def Media.blank (m : Media) (lsn : Nat) : Stored :=
  let slot := Sparse.get m.base.slot m.baseMap (entryOf lsn)
  { m.base with slot := slot, key := Sparse.get m.base.key m.baseKeys slot }

/-- What media holds for a sector; a torn sector reads unpredictable data (R349). -/
def State.cell (s : State) (lsn : Nat) : Stored :=
  let c := Sparse.get (s.media.blank lsn) s.media.cells lsn
  if s.media.torn.contains lsn then { c with plain := Four.all (Config.tornData lsn) } else c

/-- A sector programmed. -/
def State.setCell (s : State) (lsn : Nat) (c : Stored) : State :=
  { s with media := { s.media with
    cells := Sparse.set (s.media.blank lsn) s.media.cells lsn c
    torn := s.media.torn.filter (· != lsn) } }

/-- The plaintext of a stored sector under the key its slot now holds (R228): under the key it was
encrypted with it is the plaintext written; under another key it is what XTS makes of it. -/
def State.decrypt (s : State) (lsn : Nat) (c : Stored) : Four Line :=
  let k := (s.keySlot c.slot).key
  if k = c.key then c.plain
  else Four.split (xtsDecrypt k lsn (xtsEncrypt c.key lsn c.plain.join))

/-- The slot that encrypts a row (Table SHR-2). -/
def State.encSlot (s : State) (lsn : Nat) : Nat :=
  let e := entryOf lsn
  let slot := s.keySlotOf e
  let x := s.shr
  if x.rkState != .idle && decide (x.rkLo ≤ e ∧ e ≤ x.rkHi) && slot == x.rkA then
    (if rowOf lsn < x.hemline then x.rkB else x.rkA)
  else slot

/-- A sector encrypted for its place: plaintext, key and slot, with poison bits and the die's stamp
(R158, R175, R229). -/
def State.encrypt (s : State) (lsn : Nat) (plain : Four Line) (poison : BitVec 4) : Stored :=
  let slot := s.encSlot lsn
  let p := s.place lsn
  let stamp := BitVec.ofNat 40 (((s.ch p.ch).die p.die).clk.toNat / 256)
  ⟨plain, (s.keySlot slot).key, slot, poison, stamp⟩

/-- Whether a slot named by a sector is valid for its row (R228). -/
def State.slotValid (s : State) (lsn slot : Nat) : Bool :=
  let e := entryOf lsn
  let x := s.shr
  slot == s.keySlotOf e ||
    (x.rkState != .idle && decide (x.rkLo ≤ e ∧ e ≤ x.rkHi) && (slot == x.rkA || slot == x.rkB))

end Sys2Proof.Machine
end

