-- ==== Sys2Proof/Machine/StripeOps.lean ====
section
/-! DEFINITION. The shared operations of STP: sector images and parities (R131, R174, R175), write-back
sets and their programs (R108, R109, R132, R133), cancelling an eviction (R90, R91) and confirming a set
(Table CACHE-7, R92, R107). -/

namespace Sys2Proof.Machine

open Sys2Proof

/-! ## Sector images and parities -/

/-- The 8 metadata bytes of a data member: LSN, key slot, poison bits, 0 (R130, R175). -/
def metaBytes (lsn slot : Nat) (poison : BitVec 4) : List Byte :=
  leBytes 5 lsn ++ leBytes 1 slot ++ leBytes 1 poison.toNat ++ leBytes 1 0

/-- The 264 B of a data member as stored: ciphertext and metadata (R131). -/
def sectorImage (lsn : Nat) (c : Stored) : BitVec 2112 :=
  BitVec.ofNat 64 (leNat (metaBytes lsn c.slot c.poison)) ++ xtsEncrypt c.key lsn c.plain.join

/-- What data member `j` of a 4 KiB row would hold once `news` is programmed. -/
def State.memberCell (s : State) (news : List (Nat × Stored)) (row j : Nat) : Stored :=
  match news.find? fun e => e.1 == row * 16 + j with
  | some e => e.2
  | none => s.cell (row * 16 + j)

/-- P of a row (R131). -/
def State.parityP (s : State) (news : List (Nat × Stored)) (row : Nat) : BitVec 2112 :=
  (List.range 16).foldl
    (fun a j => a ^^^ sectorImage (row * 16 + j) (s.memberCell news row j)) 0#2112

/-- Q of a row (R131). -/
def State.parityQ (s : State) (news : List (Nat × Stored)) (row : Nat) : BitVec 2112 :=
  (List.range 16).foldl
    (fun a j => a ^^^ gfPow j (sectorImage (row * 16 + j) (s.memberCell news row j))) 0#2112

/-! ## Sets -/

/-- Whether STP has a program of a 4 KiB row that no set holds, a gap move takes the row as its source, or
the row lies in the batch of a rebuild (R109, R128, R218). -/
def State.rowBusy (s : State) (row : Nat) : Bool :=
  (s.stp.sets.any fun e => e.2.row == row) ||
    (s.stp.progs.any fun e => e.2.set.isNone &&
      (match e.2.data with
        | .sector l _ => rowOf l == row
        | .parity r _ _ => r == row)) ||
    (match Sparse.find s.stp.gapMoves (row / 2 ^ 20) with
      | some g => g.source == s.globalRow row - (row / 2 ^ 20) * 1048577
      | none => false) ||
    (s.stp.rebuildModule.isSome && decide (s.stp.rebuildRow ≤ s.globalRow row) &&
      decide (s.globalRow row < s.stp.rebuildRow + 32 * s.wlv.dies))

/-- The form of a set of `k` members (R132); a row with an absent member takes read-modify-write (R133). -/
def State.setForm (s : State) (row k : Nat) : SetForm :=
  if (s.rowPlaces row).any (·.absent) then (if k = 16 then .full else .readModify)
  else if k = 16 then .full
  else if k ≤ 7 then .readModify
  else .reconstruct

/-- The block of a victim entry is ready for programming: no line Invalid or Dirty-partial, or merged. -/
def Victim.complete (v : Victim) : Bool :=
  v.tracker.isSome || v.lines.toList.all LineState.valid

/-- The plaintext the entry programs. -/
def Victim.plain (v : Victim) : Four Line := v.tracker.getD v.data

/-- The poison bits the entry programs. -/
def Victim.poisonBits (v : Victim) : BitVec 4 :=
  if v.tracker.isSome then v.poison ||| v.trackPoison else v.poison

/-- A program of a sector of its place, waiting to be sent. -/
def mkProg (kind : ProgKind) (set : Option Nat) (p : Place) (d : ProgData) : Prog :=
  ⟨kind, set, p.ch, p.die, p.sector, d, .queued, 0, 0, 0, 0, 0, 0⟩

/-- A program added, with its number. -/
def State.addProg (s : State) (p : Prog) : State :=
  { s with stp := { s.stp with
    progs := Sparse.put s.stp.progs s.stp.nextProg p, nextProg := s.stp.nextProg + 1 } }

/-- The programs of one update of a row: each changed member present, then P and Q (R132, R133). -/
def State.rowPrograms (s : State) (kind : ProgKind) (set : Option Nat) (row : Nat)
    (news : List (Nat × Stored)) : List Prog :=
  let places := s.rowPlaces row
  let datas := news.filterMap fun e =>
    let p := s.place e.1
    if p.absent then none else some (mkProg kind set p (.sector e.1 e.2))
  let par (pos : Nat) (isQ : Bool) (bytes : BitVec 2112) : List Prog :=
    match places[pos]? with
    | some p => if p.absent then [] else [mkProg kind set p (.parity row isQ bytes)]
    | none => []
  datas ++ par 0 false (s.parityP news row) ++ par 1 true (s.parityQ news row)

/-- The programs of a set put into the channels' queues. -/
def State.queuePrograms (s : State) (id : Nat) (row : Nat) (news : List (Nat × Stored)) : State :=
  let ps := s.rowPrograms .hostWriteBack (some id) row news
  let first := s.stp.nextProg
  let s := ps.foldl State.addProg s
  { s with stp := { s.stp with
    sets := Sparse.adjust s.stp.sets id fun t =>
      { t with outstanding := (List.range ps.length).map (first + ·) } } }

/-- The new content of each member of a set. -/
def State.setNews (s : State) (t : StripeSet) : List (Nat × Stored) :=
  t.members.filterMap fun m =>
    (Sparse.find s.vbf.entries m.1).map fun v => (v.lsn, s.encrypt v.lsn v.plain v.poisonBits)

/-- The programs of a set formed anew once every member is merged; programs formed before and not sent
are dropped first. -/
def State.formPrograms (s : State) (id : Nat) : State :=
  match Sparse.find s.stp.sets id with
  | none => s
  | some t =>
    if t.members.all fun m => ((Sparse.find s.vbf.entries m.1).map Victim.complete).getD true then
      let s := { s with stp := { s.stp with progs := s.stp.progs.filter fun e => e.2.set != some id } }
      s.queuePrograms id t.row (s.setNews t)
    else s

/-- A member dropped from its set before any program of the set was sent (R91); a set left empty ends. -/
def State.dropFromSet (s : State) (i : Nat) : State :=
  match (Sparse.find s.vbf.entries i).bind (·.set) with
  | none => s
  | some id =>
    match Sparse.find s.stp.sets id with
    | none => s
    | some t =>
      let ms := t.members.filter fun m => m.1 != i
      let clear (s : State) : State :=
        { s with stp := { s.stp with progs := s.stp.progs.filter fun e => e.2.set != some id } }
      if ms.isEmpty then
        clear { s with stp := { s.stp with sets := Sparse.erase s.stp.sets id } }
      else
        let t' : StripeSet := { t with members := ms, form := s.setForm t.row ms.length, outstanding := [] }
        (clear { s with stp := { s.stp with sets := Sparse.put s.stp.sets id t' } }).formPrograms id

/-- An eviction cancelled (R90): dropped from its set, and counted. -/
def State.cancelEviction (s : State) (i : Nat) : State :=
  let s := s.dropFromSet i
  let s := s.modVictim i fun v => { v with st := .held, set := none }
  { s with vbf := { s.vbf with cancels := satAdd 0xFFFF s.vbf.cancels 1 } }

/-- The block of a victim entry copied back into a way (R90): with its own lines, or from the tracker
with every line Dirty-full. -/
def State.recallInto (s : State) (i key : Nat) (fromTracker : Bool) : State :=
  match Sparse.find s.vbf.entries i with
  | none => s
  | some v =>
    let w : Way :=
      { Way.empty with
        tag := tagOf v.lsn
        lines := if fromTracker then Four.all .dirtyFull else v.lines
        poison := if fromTracker then v.poisonBits else v.poison
        mslot := v.mslot
        data := if fromTracker then v.plain else v.data
        mask := if fromTracker then Four.all 0#64 else v.mask
        dirtySince := s.clock
        flushing := if fromTracker then some i else none }
    let s := (s.setWay key w).touchWay key
    { s with vbf := { s.vbf with recalls := satAdd 0xFFFF s.vbf.recalls 1 } }

/-- A line of a way whose block's media write is confirmed: Clean unless written since (R90, R92). -/
def cleanLines (l : Four LineState) (written : BitVec 4) : Four LineState :=
  l.map fun i st => if bitOf written i then st else if st = .dirtyFull then .clean else st

/-- The way of a confirmed write-back: lines not written since become Clean; a flushed block all of whose
lines are Clean is invalidated (Table CACHE-9). -/
def State.cleanWay (s : State) (i : Nat) : State :=
  match s.cache.ways.find? fun e => e.2.flushing == some i with
  | none => s
  | some (key, w) =>
    let ls := cleanLines w.lines w.written
    let w' : Way := { w with lines := ls, flushing := none, written := 0#4, flush := false }
    if w.flush && ls.toList.all (fun st => st == .clean || st == .invalid) then s.setWay key Way.empty
    else s.setWay key w'

/-- A victim entry whose media write is confirmed: its way becomes Clean, the entry is freed and its
charge returned (R103, R109). -/
def State.confirmVictim (s : State) (i : Nat) : State :=
  (s.cleanWay i).freeVictim i

/-- The content of absent members takes effect with their set (R133). -/
def State.settleAbsent (s : State) (news : List (Nat × Stored)) : State :=
  news.foldl (fun s e => if (s.place e.1).absent then s.setCell e.1 e.2 else s) s

end Sys2Proof.Machine
end

