-- ==== Sys2Proof/Machine/RequestOps.lean ====
section
/-! DEFINITION. The shared operations on host requests: port answers (R450), acceptance (R55 to R57),
the belay states (Table REQ-1), ordering (R61 to R63), a read and a write at their slice (R66, R77, R78,
R90, Table CACHE-6), and completion (R59, R99). -/

namespace Sys2Proof.Machine

open Sys2Proof

/-! ## Belay entries -/

/-- Entries a port holds. -/
def State.held (s : State) (p : Port) : Nat :=
  s.bly.entries.countP fun e => e.2.port == p

/-- The share of a port (Table REQ-2). -/
def State.share (s : State) (p : Port) : Nat :=
  if !(s.port p).memEnabled then 0
  else if s.glb.level = .barePoles then 512
  else if (s.port (portOther p)).memEnabled then 4096 - 512 * popCount s.bly.fenced
  else 4096

/-- The lowest FREE entry of the banks in service. -/
def State.freshBelay (s : State) : Option Nat :=
  (List.range 8).findSome? fun b =>
    if bitOf s.bly.fenced b then none
    else
      match Sparse.freshFrom s.bly.entries (s.bly.entries.length + 1) (b * 1024) with
      | some i => if i < (b + 1) * 1024 then some i else none
      | none => none

/-- `f` on one belay entry. -/
def State.modBelay (s : State) (i : Nat) (f : Belay → Belay) : State :=
  { s with bly := { s.bly with entries := Sparse.adjust s.bly.entries i f } }

/-- An entry freed; a request of the reissue queue takes it before any new acceptance (R58). -/
def State.freeBelay (s : State) (i : Nat) : State :=
  let s := { s with bly := { s.bly with entries := Sparse.erase s.bly.entries i } }
  match s.bly.reissue with
  | [] => s
  | b :: r =>
    match s.freshBelay with
    | none => s
    | some k => { s with bly := { s.bly with entries := Sparse.put s.bly.entries k b, reissue := r } }

/-- A write whose units and victim entry are still reserved (R87, R104). -/
def Belay.reserves (b : Belay) : Nat :=
  match b.req.op with
  | .wr => 1
  | .wrPtl => 2
  | _ => 0

/-- The reservation of a write returned (R87, R104). -/
def State.returnReservation (s : State) (b : Belay) : State :=
  if b.reserves = 0 ∨ !b.reserved then s
  else { s with
    glb := { s.glb with reserved := s.glb.reserved - b.reserves }
    vbf := { s.vbf with reserved := s.vbf.reserved - 1 } }

/-- An earlier request to the same 64 B line that has not reached RESPOND (R61, R62). -/
def Belay.sameLine (a b : Belay) : Bool := a.req.dpa / 64 == b.req.dpa / 64

/-- Whether an earlier write to the line of `b` is still in flight (R62). -/
def State.earlierWrite (s : State) (b : Belay) : Bool :=
  s.bly.entries.any fun e =>
    decide (e.2.order < b.order) && e.2.sameLine b && e.2.reserves != 0 && e.2.st != .respond

/-- RESPOND: the response is built, or an orphan is freed instead (R59, R43). -/
def State.toRespond (s : State) (i : Nat) (data : Line) (poison : Bool) : State :=
  match Sparse.find s.bly.entries i with
  | none => s
  | some b =>
    let s := if b.window then s.occ 0x014 1 else s
    if b.orphan then
      (s.freeBelay i).fire 1063 .note { Detail.none with addr := b.req.dpa }
    else s.modBelay i fun b => { b with st := .respond, data := data, respPoison := poison }

/-- A prefetch belay entry retires: its Req credit goes back to the port whose link it came over
(Table PORT-3, R43). -/
def State.retirePrefetch (s : State) (i : Nat) : State :=
  match Sparse.find s.bly.entries i with
  | none => s
  | some b =>
    let s := if b.orphan then s else s.modPort b.port fun x => { x with reqUsed := x.reqUsed - 1 }
    s.freeBelay i

/-! ## Errors in tags and data (Table CACHE-6) -/

/-- The source and severity of an error of Table CACHE-6. -/
def cacheErrSeverity : CacheErr → Severity
  | .none => .note
  | .tagSram => .note
  | .tagOne => .warn
  | .tagBoth => .fault
  | .clean => .warn
  | .home => .fault
  | .mirror => .fault
  | .maskOne => .fault
  | .both => .critical

/-- Whether the state of a line admits the error. -/
def cacheErrFits (w : Way) (line : Nat) : CacheErr → Bool
  | .none => false
  | .tagSram => true
  | .tagOne => true
  | .tagBoth => true
  | .clean => w.lines.get line == .clean
  | .home => (w.lines.get line).dirty
  | .mirror => (w.lines.get line).dirty
  | .maskOne => w.lines.get line == .dirtyPartial
  | .both => (w.lines.get line).dirty

/-- The Clean lines of every way of a set invalidated (tag set uncorrectable in both copies). -/
def State.dropCleanOfSet (s : State) (key : Nat) : State :=
  (List.range 16).foldl
    (fun s w =>
      let k := key / 16 * 16 + w
      s.setWay k { s.way k with
        lines := (s.way k).lines.map fun _ st => if st = .clean then .invalid else st }) s

/-- One uncorrectable error on the block at `key`, met through logical slice `ls` (R83, Table CACHE-6). -/
def State.cacheError (s : State) (key line : Nat) (err : CacheErr) : State :=
  let ls := sliceOfKey key
  let w := s.way key
  match s.serving ls with
  | none => s
  | some (n, _) =>
    if !cacheErrFits w line err then s
    else if err = .tagSram then
      (s.modSlice n fun x => { x with tagParity := satAdd 0xFF x.tagParity 1 }).fire (1064 + 4 * n + 3)
        .note (Detail.ofUnit n)
    else
      let lsn := w.lsn key
      let s := s.modSlice n fun x => { x with
        uncorrectable := satAdd 0xFF x.uncorrectable 1
        errLsn := BitVec.ofNat 40 lsn
        errLine := BitVec.ofNat 2 line
        errValid := true }
      let s := match err with
        | .tagBoth => s.dropCleanOfSet key
        | .clean => s.setWay key { w with lines := w.lines.set line .invalid }
        | .both =>
          let w' : Way := { w with
            lines := w.lines.set line .dirtyFull
            mask := w.mask.set line 0#64
            poison := setBit w.poison line true }
          ((s.setWay key w').mirrorWay key).poisonAdd lsn (setBit 0#4 line true) .lost
        | _ => s
      s.fire (1064 + 4 * n) (cacheErrSeverity err) ⟨n, lsn * 256 + line * 64, 0, 0⟩

/-! ## Reads at their slice -/

/-- The response to a read that Tiers 0 to 2 cannot serve: all ones with Poison (R31, R180). -/
def allOnesLine : Line := BitVec.allOnes 512

/-- The host read of an LSN that is in flight (R63). -/
def State.hostRead (s : State) (lsn : Nat) : Option (Nat × ReadOp) :=
  s.stp.reads.find? fun e => e.2.lsn == lsn && e.2.status != .done &&
    (e.2.cls != .background || e.2.tracker.isSome)

/-- `f` on one media read. -/
def State.modRead (s : State) (id : Nat) (f : ReadOp → ReadOp) : State :=
  { s with stp := { s.stp with reads := Sparse.adjust s.stp.reads id f } }

/-- A media read of a sector, waiting for its issue. -/
def State.newRead (s : State) (cls : ReadClass) (lsn : Nat) (belays : List Nat) (way victim : Option Nat) :
    State :=
  let p := s.place lsn
  let r : ReadOp :=
    { cls := cls, lsn := lsn, ch := p.ch, die := p.die, sector := p.sector, status := .queued
      belays := belays, way := way, victim := victim, dual := false, direct := false, around := false
      members := [], confirmed := [], failed := [], bucket := 0, tag := 0, resends := 0
      accepted := s.clock, tracker := victim }
  { s with stp := { s.stp with
    reads := Sparse.put s.stp.reads s.stp.nextRead r, nextRead := s.stp.nextRead + 1 } }

/-- The line bytes a way holds when a read misses it (R62): they answer the read with the media bytes. -/
def State.snapshot (s : State) (i line : Nat) (lines : Four LineState) (data : Four Line)
    (mask : Four Mask) : State :=
  s.modBelay i fun b => { b with
    data := if lines.get line = .dirtyPartial then data.get line else 0#512
    req := { b.req with enables := if lines.get line = .dirtyPartial then mask.get line else 0#64 } }

/-- A read miss: joined to the fill in flight of its block, answered with Poison where the sector awaits
Tier 3, or a media read of its own (R63, R77, R170, R181). -/
def State.readMiss (s : State) (i lsn : Nat) (way : Option Nat) : State :=
  let s := s.occ 0x011 1
  let p := ((Sparse.find s.bly.entries i).map (·.port)).getD .hp0
  let s := s.modPort p fun x => { x with winMisses := x.winMisses + 1 }
  let s := s.modBelay i fun b => { b with st := .fill, hit := false }
  match s.hostRead lsn with
  | some (id, x) =>
    let join := x.cls == .prefetch
    let s := match way with
      | some k => if join then s.setWay k { s.way k with held := true } else s
      | none => s
    s.modRead id fun r => { r with
      belays := r.belays ++ [i]
      way := if join then way else r.way
      cls := if join then .demand else r.cls }
  | none =>
    if s.wlv.cam.contains lsn then s.toRespond i allOnesLine true
    else
      let s := match way with
        | some k => s.setWay k { s.way k with held := true }
        | none => s
      s.newRead .demand lsn [i] way none

/-- A read that matches a victim entry (Table CACHE-8). -/
def State.readVictim (s : State) (i lsn line k : Nat) (v : Victim) : State :=
  if v.rebuilding then s
  else if v.st = .issued then
    (s.occ 0x011 1).toRespond i (v.plain.get line) (bitOf v.poisonBits line)
  else if v.merging.isSome then
    s.readMiss i lsn none
  else if s.cached (sliceHash lsn) then
    let s := s.cancelEviction k
    let (s, way) := s.allocWrite lsn (s.recallAllowed v.mslot)
    match way with
    | none => s
    | some key =>
      let s := (s.recallInto k key false).freeVictim k
      let w := s.way key
      if (w.lines.get line).valid then
        (s.occ 0x011 1).toRespond i (w.data.get line) (bitOf w.poison line)
      else (s.snapshot i line w.lines w.data w.mask).readMiss i lsn (some key)
  else if (v.lines.get line).valid then
    (s.occ 0x011 1).toRespond i (v.data.get line) (bitOf v.poison line)
  else (s.snapshot i line v.lines v.data v.mask).readMiss i lsn none

/-- A read in LOOKUP (R62, R66, R77): held behind an earlier write, a hit, or a miss. -/
def State.startRead (s : State) (i : Nat) : State :=
  match Sparse.find s.bly.entries i with
  | none => s
  | some b =>
    let lsn := lsnOf b.req.dpa
    let line := lineOf b.req.dpa
    let ls := sliceHash lsn
    if s.earlierWrite b then s.modBelay i fun b => { b with st := .wait, hit := false }
    else
      let s := s.modBelay i fun b => { b with st := .lookup }
      if !s.cached ls then
        match s.matchVictim lsn with
        | some (k, v) => s.readVictim i lsn line k v
        | none => s.readMiss i lsn none
      else
        let s := s.touchTagSram lsn
        let s := match s.findWay lsn with
          | some key =>
            if cacheErrFits (s.way key) line b.req.err then
              (s.cacheError key line b.req.err).modBelay i fun b => { b with window := true }
            else s
          | none => s
        match s.findWay lsn with
        | some key =>
          let w := s.way key
          let st := w.lines.get line
          if (if s.bypassed ls then st = .dirtyFull else st.valid) then
            let wasHit := b.hit && !s.bypassed ls
            let s := (s.touchWay key).occ (if wasHit then 0x010 else 0x011) 1
            (s.modBelay i fun b => { b with hit := wasHit }).toRespond i (w.data.get line)
              (bitOf w.poison line)
          else
            (s.snapshot i line w.lines w.data w.mask).readMiss i lsn
              (if s.bypassed ls then none else some key)
        | none =>
          match s.matchVictim lsn with
          | some (k, v) => s.readVictim i lsn line k v
          | none =>
            let filling := match s.hostRead lsn with
              | some (_, x) => x.cls != .prefetch
              | none => false
            if s.bypassed ls || filling || s.wlv.cam.contains lsn then
              s.readMiss i lsn none
            else
              let (s, way) := s.allocFill lsn
              s.readMiss i lsn way

/-- The reads that waited behind writes to a line go on, in acceptance order (R62). -/
def State.releaseWaiters (s : State) (dpa : Nat) : State :=
  let ws := s.bly.entries.filter fun e => e.2.st == .wait && e.2.req.dpa / 64 == dpa / 64
  ws.foldl (fun s e => s.startRead e.1) s

/-! ## Writes -/

/-- A write reaches RESPOND (R99, R104): its reservation is returned, waiting reads go on. -/
def State.completeWrite (s : State) (i : Nat) : State :=
  match Sparse.find s.bly.entries i with
  | none => s
  | some b =>
    let s := (s.returnReservation b).occ 0x012 1
    let s := s.modBelay i fun b => { b with reserved := false }
    (s.toRespond i 0#512 false).releaseWaiters b.req.dpa

/-- The poison list after an acknowledged write (R32, R189). -/
def State.poisonOfWrite (s : State) (b : Belay) : State :=
  let lsn := lsnOf b.req.dpa
  let line := lineOf b.req.dpa
  if b.req.poison then
    (s.poisonAdd lsn (setBit 0#4 line true) .host).fire (1017 + 20 * portIdx b.port) .note
      { Detail.none with addr := b.req.dpa }
  else if b.req.op = .wr then s.poisonClear lsn line
  else s

/-- A write lands on a way (Table CACHE-5), its mirror copy and charge with it; a way newly allocated for
it is no longer held. -/
def State.landWrite (s : State) (i key : Nat) (fresh : Bool) (b : Belay) : State :=
  let line := lineOf b.req.dpa
  let w := (s.way key).write line (b.req.op == .wr) b.req.poison b.req.data b.req.enables s.clock
  let w : Way := { w with held := w.held && !fresh }
  let s := ((s.setWay key w).mirrorWay key).touchWay key
  (s.poisonOfWrite b).completeWrite i

/-- The old content of a block that a write-through write keeps (R449): cached dirty bytes over media, or
the bytes of a victim entry where no usable cache holds them. -/
def overlay (lines : Four LineState) (data : Four Line) (mask : Four Mask) (media : Four Line) : Four Line :=
  media.map fun i m =>
    match lines.get i with
    | .dirtyFull => data.get i
    | .dirtyPartial => mergeBytes (mask.get i) (data.get i) m
    | _ => m

/-- What the set of a write-through write programs into its sector (R449): the written line over the cached
dirty bytes over the media bytes. -/
def State.writeThroughNews (s : State) (b : Belay) : List (Nat × Stored) :=
  let lsn := lsnOf b.req.dpa
  let line := lineOf b.req.dpa
  let c := s.cell lsn
  let media := s.decrypt lsn c
  let base := match s.findWay lsn with
    | some key => let w := s.way key; (overlay w.lines w.data w.mask media, c.poison ||| w.poison)
    | none =>
      match s.matchVictim lsn with
      | some (_, v) => (overlay v.lines v.data v.mask media, c.poison ||| v.poison)
      | none => (media, c.poison)
  let new := if b.req.op = .wr then b.req.data
    else mergeBytes b.req.enables b.req.data (base.1.get line)
  let poison := if b.req.poison then setBit base.2 line true
    else if b.req.op = .wr then setBit base.2 line false else base.2
  [(lsn, s.encrypt lsn (base.1.set line new) poison)]

/-- The set of a write-through write (R22, R449), programmed with both parities. It waits while another set
or program holds the row (R109). -/
def State.formWriteThrough (s : State) (i : Nat) : State :=
  match Sparse.find s.bly.entries i with
  | none => s
  | some b =>
    let lsn := lsnOf b.req.dpa
    let row := rowOf lsn
    if s.rowBusy row ∨ s.stp.sets.any (fun e => e.2.writer == some i) then s
    else
      let news := s.writeThroughNews b
      let id := s.stp.nextSet
      let victims := if (s.findWay lsn).isSome then []
        else ((s.victimsOf lsn).filter fun e => e.2.st == .held).map fun e => (e.1, lsn)
      let t : StripeSet := ⟨row, victims, s.setForm row 1, [], false, false, some i⟩
      let s := { s with stp := { s.stp with sets := Sparse.put s.stp.sets id t, nextSet := id + 1 } }
      s.queuePrograms id row news

/-- The write-through writes that wait for a row to be free, tried again in acceptance order (R109). -/
def State.retryWriters (s : State) : State :=
  let ws := (s.bly.entries.foldl
    (fun (m : Sparse Nat) e => if e.2.st = .write then Sparse.put m e.2.order e.1 else m) []).map Prod.snd
  ws.foldl (fun s i => s.formWriteThrough i) s

/-- A write-through write (R22, R449): a victim entry that can be cancelled is recalled first. -/
def State.writeThrough (s : State) (i lsn : Nat) : State :=
  let s := match s.matchVictim lsn with
    | some (k, v) =>
      if v.st != VictimState.issued && v.merging.isNone && !v.rebuilding then
        let s := s.cancelEviction k
        if s.cached (sliceHash lsn) then
          let (s, way) := s.allocWrite lsn (s.recallAllowed v.mslot)
          match way with
          | some key => (s.recallInto k key false).freeVictim k
          | none => s
        else s
      else s
    | none => s
  (s.modBelay i fun b => { b with st := .write }).formWriteThrough i

/-- A write that matches a victim entry (Table CACHE-8); it waits while the entry is rebuilt (R89) or its
merge read is in flight. -/
def State.writeVictim (s : State) (i lsn k : Nat) (v : Victim) (b : Belay) : State :=
  if v.rebuilding then s
  else if v.st = .issued then
    let (s, way) := s.allocWrite lsn (s.recallAllowed v.mslot)
    match way with
    | none => s
    | some key => (s.recallInto k key true).landWrite i key false b
  else
    match v.merging with
    | some r => s.modRead r fun x =>
        if x.belays.contains i then x else { x with belays := x.belays ++ [i] }
    | none =>
      let s := s.cancelEviction k
      let (s, way) := s.allocWrite lsn (s.recallAllowed v.mslot)
      match way with
      | none => s
      | some key => ((s.recallInto k key false).freeVictim k).landWrite i key false b

/-- A write in LOOKUP (R35, R22, R78, R90). -/
def State.startWrite (s : State) (i : Nat) : State :=
  match Sparse.find s.bly.entries i with
  | none => s
  | some b =>
    let lsn := lsnOf b.req.dpa
    let ls := sliceHash lsn
    if b.req.op = .inv ∨ (s.port b.port).viral then s.completeWrite i
    else if s.glb.level = .barePoles ∨ !s.cached ls then s.writeThrough i lsn
    else
      let s := s.touchTagSram lsn
      match s.findWay lsn with
      | some key => s.landWrite i key false b
      | none =>
        match s.matchVictim lsn with
        | some (k, v) => s.writeVictim i lsn k v b
        | none =>
          let (s, way) := s.allocWrite lsn (fun _ => true)
          match way with
          | none => s
          | some key => (s.setWay key { Way.empty with tag := tagOf lsn, held := true }).landWrite i key true b

/-! ## MemSpecRd -/

/-- A MemSpecRd at its slice (R167): it retires where the block is present, otherwise a prefetch read
waits for its issue. -/
def State.startPrefetch (s : State) (i : Nat) : State :=
  match Sparse.find s.bly.entries i with
  | none => s
  | some b =>
    let lsn := lsnOf b.req.dpa
    let present := match s.findWay lsn with
      | some key => !allInvalid (s.way key).lines
      | none => false
    if present || (s.matchVictim lsn).isSome || (s.hostRead lsn).isSome || s.wlv.cam.contains lsn then
      s.retirePrefetch i
    else
      let s := s.modPort b.port fun x => { x with winMisses := x.winMisses + 1 }
      s.newRead .prefetch lsn [i] none none

/-- A request taken up again at its slice. -/
def State.restart (s : State) (i : Nat) : State :=
  match Sparse.find s.bly.entries i with
  | none => s
  | some b =>
    if b.st = .lookup then
      match b.req.op with
      | .rd => s.startRead i
      | _ => s.startWrite i
    else s

/-- The indexes of some entries in acceptance order. -/
def byOrder (es : Sparse Belay) : List Nat :=
  (es.foldl (fun m e => Sparse.put m e.2.order e.1) ([] : Sparse Nat)).map Prod.snd

/-- Every request that waits in LOOKUP taken up again, in acceptance order (R16, R89). -/
def State.retryLookups (s : State) : State :=
  (byOrder s.bly.entries).foldl (fun s i => s.restart i) s

/-! ## Presentation at the port -/

/-- The seal map marks a device DPA's line (R249, R256). -/
def State.sealedAt (s : State) (dpa : Nat) : Option Nat :=
  (s.kce.extents.find? fun e =>
    decide (e.2.base * 2 ^ 20 ≤ dpa ∧ dpa < (e.2.base + e.2.len) * 2 ^ 20)).map Prod.fst

/-- An answer of the port itself (R450), in its channel's order. -/
def State.answer (s : State) (p : Port) (isData rwd : Bool) : State :=
  let m : S2M := ⟨isData, allOnesLine, isData, 0#2, rwd⟩
  s.modPort p fun x => { x with answers := x.answers ++ [m] }

/-- A write the port discards, with the cause of Table EVT-5. -/
def State.discardWrite (s : State) (p : Port) (dpa cause : Nat) : State :=
  s.fire (srcWriteDiscarded p) .fault ⟨portIdx p, dpa, cause, 1⟩

/-- Whether a request is one the port answers itself (R450). -/
def State.answeredByPort (s : State) (r : PortReq) : Bool :=
  r.unsupported || s.glb.level == .outOfService ||
    (s.keySlot (s.keySlotOf (entryOf (lsnOf r.dpa)))).state == .empty ||
    ((r.op == .wr || r.op == .wrPtl) && (s.sealedAt r.dpa).isSome)

/-- The port's own answer (R23, R31, R256, R448). -/
def State.portAnswer (s : State) (p : Port) (r : PortReq) : State :=
  let isRead := r.op == .rd
  let isWrite := r.op == .wr || r.op == .wrPtl
  if r.op = .spec then
    (s.occ 0x013 1).modPort p fun x => { x with reqUsed := x.reqUsed - 1 }
  else
    let s := s.answer p isRead isWrite
    if r.unsupported then
      let s := s.modPort p fun x => { x with
        rasUncorrectable := true
        rasHeader := if x.rasUncorrectable then x.rasHeader else r.data.extractLsb' 0 128 }
      s.fire (1016 + 20 * portIdx p) .warn ⟨portIdx p, r.dpa, 0, 0⟩
    else if s.glb.level = .outOfService then
      (if isWrite then s.discardWrite p r.dpa 0 else s)
    else if (s.keySlot (s.keySlotOf (entryOf (lsnOf r.dpa)))).state = .empty then
      (if isWrite then s.discardWrite p r.dpa 1 else s)
    else
      match s.sealedAt r.dpa with
      | some e =>
        ({ s with kce := { s.kce with drops := satAdd 0xFFFFFFFF s.kce.drops 1 } }).fireSub 1227 (e + 1)
          .warn ⟨0xFF, r.dpa, 0, 0⟩
      | none => s

/-- The reservation of a write is granted (R104, R106); Bare poles charges nothing (R22). -/
def State.canReserve (s : State) (r : PortReq) : Bool :=
  let n := if r.op = .wrPtl then 2 else 1
  s.glb.level == .barePoles ||
    (decide (s.charged + s.glb.reserved + n ≤ s.budgetUnits) && decide (0 < s.victimUnreserved))

/-- A request becomes a belay entry (R55, R57): counted in its window, its same-line limit tested. -/
def State.accept (s : State) (p : Port) (r : PortReq) (k : Nat) : State :=
  let isWr := r.op == .wr || r.op == .wrPtl
  let reserve := isWr && s.glb.level != .barePoles
  let b : Belay :=
    { st := if r.op = .spec then .prefetch else .lookup
      orphan := false, port := p, req := r, accepted := s.clock, order := s.bly.nextOrder
      hit := true, window := false, data := 0#512, respPoison := false, creditWait := 0
      reserved := reserve }
  let same := s.bly.entries.countP fun e => e.2.sameLine b
  let s := { s with bly := { s.bly with
    entries := Sparse.put s.bly.entries k b, nextOrder := s.bly.nextOrder + 1 } }
  let s := if reserve then { s with
      glb := { s.glb with reserved := s.glb.reserved + b.reserves }
      vbf := { s.vbf with reserved := s.vbf.reserved + 1 } } else s
  let s := s.occ (1 + portIdx p) 1
  let s := s.modPort p fun x => { x with
    winReads := x.winReads + b2n (r.op == .rd)
    winWrites := x.winWrites + b2n (isWr || r.op == .inv)
    winSameLine := x.winSameLine || decide (4 < same + 1) }
  match r.op with
  | .rd => s.startRead k
  | .spec => s.startPrefetch k
  | _ => s.startWrite k

/-- Whether the head of a channel can be accepted now. -/
def State.canAccept (s : State) (p : Port) (r : PortReq) : Bool :=
  s.glb.admitOpen && s.bly.reissue.isEmpty && decide (s.held p < s.share p) &&
    (if r.op = .wr ∨ r.op = .wrPtl then s.canReserve r else true)

/-- MemSpecRd is carried in only at Light or Optimal load, above Bare poles, with an entry free (R33). -/
def State.specAllowed (s : State) (p : Port) : Bool :=
  decide ((s.port p).devload.toNat ≤ 1) && decide (s.glb.level.code ≤ 2) && s.glb.admitOpen &&
    decide (s.held p < s.share p) && s.freshBelay.isSome && s.bly.reissue.isEmpty

/-- One presentation of the request at the head of a channel (R55, R56): answered, dropped, accepted, or
left waiting. The second value says whether the head moved on. -/
def State.present (s : State) (p : Port) (r : PortReq) : State × Bool :=
  if s.answeredByPort r then (s.portAnswer p r, true)
  else if r.op = .spec ∧ !s.specAllowed p then
    ((s.occ 0x013 1).modPort p fun x => { x with reqUsed := x.reqUsed - 1 }, true)
  else
    match s.freshBelay with
    | none => (s, false)
    | some k => if s.canAccept p r then (s.accept p r k, true) else (s, false)

/-- The Req channel of a port presented from its head on. -/
def State.pumpReq (s : State) (p : Port) : Nat → State
  | 0 => s
  | f + 1 =>
    match (s.port p).ingressReq with
    | [] => s
    | r :: rest =>
      let (t, moved) := s.present p r
      if moved then State.pumpReq (t.modPort p fun x => { x with ingressReq := rest }) p f else s

/-- The RwD channel of a port presented from its head on. -/
def State.pumpRwd (s : State) (p : Port) : Nat → State
  | 0 => s
  | f + 1 =>
    match (s.port p).ingressRwd with
    | [] => s
    | r :: rest =>
      let (t, moved) := s.present p r
      if moved then State.pumpRwd (t.modPort p fun x => { x with ingressRwd := rest }) p f else s

/-- Both channels of a port presented (R55, R56); a stopped datapath takes nothing (R338). -/
def State.pump (s : State) (p : Port) : State :=
  if s.clk.dpStopped then s
  else
  let s := s.pumpReq p (s.port p).ingressReq.length
  s.pumpRwd p (s.port p).ingressRwd.length

/-- Both ports presented. -/
def State.pumpAll (s : State) : State :=
  (s.pump .hp0).pump .hp1

/-! ## The end of a media read -/

/-- The demand belay entries of a read answered from its confirmed sector: the bytes held at the miss
over the media bytes (R62, R79). -/
def State.answerReads (s : State) (belays : List Nat) (plain : Four Line) (poison : BitVec 4) : State :=
  belays.foldl
    (fun s i =>
      match Sparse.find s.bly.entries i with
      | none => s
      | some b =>
        if b.st = .prefetch then
          s.retirePrefetch i
        else if b.st = .fill then
          let line := lineOf b.req.dpa
          s.toRespond i (mergeBytes b.req.enables b.data (plain.get line)) (bitOf poison line)
        else s) s

/-- The mirror copy of a filled way brought up to date where it holds dirty lines. -/
def State.mirrorIfDirty (s : State) (key : Nat) : State :=
  if anyDirty (s.way key).lines then s.mirrorWay key else s

/-- The fill of a confirmed sector (R79): the held way takes it, with its mirror copy and charge. -/
def State.fillWay (s : State) (way : Option Nat) (plain : Four Line) (poison : BitVec 4) : State :=
  match way with
  | none => s
  | some key =>
    let w := (s.way key).fill plain poison
    ((s.setWay key w).touchWay key).mirrorIfDirty key

/-- A media read's sector is confirmed (R165): its requests are answered and its block filled. -/
def State.finishRead (s : State) (id : Nat) (c : Stored) : State :=
  match Sparse.find s.stp.reads id with
  | none => s
  | some r =>
    let plain := s.decrypt r.lsn c
    let wayPoison := match r.way with
      | some k => (s.way k).poison
      | none => 0#4
    let s := s.answerReads r.belays plain (c.poison ||| wayPoison)
    let s := s.fillWay r.way plain c.poison
    let s := if r.cls = .prefetch ∧ r.way.isSome then s.occ 0x015 1 else s
    { s with stp := { s.stp with reads := Sparse.erase s.stp.reads id } }

/-- A media read whose sector cannot be confirmed at Tiers 0 to 2 (R180): its requests complete with all
ones and Poison, the block is not filled. -/
def State.failRead (s : State) (id : Nat) : State :=
  match Sparse.find s.stp.reads id with
  | none => s
  | some r =>
    let s := r.belays.foldl
      (fun s i => (s.modBelay i fun b => { b with window := true }).toRespond i allOnesLine true) s
    let s := match r.way with
      | some k => s.setWay k { s.way k with held := false }
      | none => s
    { s with stp := { s.stp with reads := Sparse.erase s.stp.reads id } }

end Sys2Proof.Machine
end

