-- ==== Sys2Proof/Machine/Flags.lean ====
section
/-! DEFINITION. The status conditions computed from the state: the service level and the fields of
GLB.SERVICE_STATE (R19 to R25), the admitted-load bits (R65), the load index and DevLoad (R40), the
write-back fraction (R107), and life used (R149). -/

namespace Sys2Proof.Machine

open Sys2Proof

/-! ## Conditions of units -/

/-- A port whose mode is not disabled (R42). -/
def PortState.enabled (p : PortState) : Bool := p.mode != 0b00#2

/-- A port that counts as down: enabled, and without CXL.mem (R27, R42). -/
def PortState.down (p : PortState) : Bool := p.enabled && !p.memEnabled

/-- GLB.SERVICE_STATE.slice_spare_used: CS16 serves, or failed as idle spare. -/
def State.sliceSpareUsed (s : State) : Bool :=
  ((s.slice 16).serves.isSome && s.cache.handover.isNone) || (s.slice 16).role == .failed

/-- GLB.SERVICE_STATE.slice_bypass: a slice share is served without cache. -/
def State.sliceBypass (s : State) : Bool :=
  ((List.range 17).any fun n => (s.slice n).bypassFor.isSome) || s.cache.unserved != 0#16

/-- GLB.SERVICE_STATE.core_spare_used: the spare core runs, or has been retired (R275). -/
def State.coreSpareUsed (s : State) : Bool :=
  s.mst.lead == some 2 || s.mst.checker == some 2 || bitOf s.mst.retired 2

/-- GLB.SERVICE_STATE.pll_spare: the datapath moved to the spare and the lost DPLL is not back, or no
spare remains (R338, Table RST-3). -/
def State.pllSpare (s : State) : Bool :=
  s.clk.dpllSpareLost || s.clk.dpllFailed != 0#2

/-- Only one reference usable. -/
def State.refclkSingle (s : State) : Bool := popCount s.clk.refOk == 1

/-- Modules absent or failed; a rebuilding module is out as well (Table ARCH-5). -/
def State.modulesLost (s : State) : Nat := s.modulesOut

/-- A die or a channel retired. -/
def State.dieOrChannelRetired (s : State) : Bool :=
  !s.wlv.adoptions.isEmpty || s.mch.any fun e => e.2.failed

/-- A Shroud engine, parity engine, victim bank or belay bank fenced. -/
def State.anyFenced (s : State) : Bool :=
  s.shr.enginesFenced != 0#20 || s.stp.parityFailed != 0#2 || s.vbf.fenced != 0#8 || s.bly.fenced != 0#8

/-! ## The service level -/

/-- The port minimum of Table ARCH-6: with a port enabled, one is trained at ×4 or wider. -/
def State.portMinimum (s : State) : Bool :=
  let ok (p : PortState) : Bool := p.enabled && p.linkUp && decide (3 ≤ p.width.toNat)
  (!s.port0.enabled && !s.port1.enabled) || ok s.port0 || ok s.port1

/-- Every unit of Table ARCH-6 at its minimum. -/
def State.minimumSet (s : State) : Bool :=
  s.rst.aon && !s.clk.freeRun && !s.clk.dpStopped && s.clk.dpllLock != 0#2 && s.clk.mpllLock &&
    s.mst.lead.isSome && s.portMinimum && s.bly.fenced != 0xFF#8 && decide (s.modulesLost ≤ 2) &&
    ((List.range 18).all fun k => !(s.slot k).state.serving || (s.slot k).powerGood) &&
    s.shr.enginesFenced != BitVec.allOnes 20 && s.stp.parityFailed != 0b11#2

/-- Out of service: before Memory_Active (R24, R29), during a format, or below the minimum set. -/
def State.outOfService (s : State) : Bool :=
  !s.glb.memoryActive || s.glb.formatting || !s.minimumSet

/-- The row Bare poles of Table ARCH-5. -/
def State.isBarePoles (s : State) : Bool :=
  s.cache.stackOk == 0#2 || s.glb.effBudget == 0 || decide (2 ≤ popCount s.bly.fenced) ||
    s.cache.unserved != 0#16

/-- The row Degraded of Table ARCH-5. -/
def State.isDegraded (s : State) : Bool :=
  decide (0 < s.modulesLost) || s.cache.stackOk != 0b11#2 || s.sliceBypass || s.mst.unchecked ||
    s.port0.down || s.port1.down || s.seq.busFailed || decide (s.glb.effBudget < 16)

/-- The row Absorbed of Table ARCH-5. -/
def State.isAbsorbed (s : State) : Bool :=
  s.coreSpareUsed || s.mst.retired != 0#3 || s.sliceSpareUsed || s.pllSpare || s.clk.onRc ||
    s.refclkSingle || s.dieOrChannelRetired || s.anyFenced

/-- The service level (R19): the lowest row of Table ARCH-5 whose condition holds. -/
def State.levelOf (s : State) : Level :=
  if s.outOfService then .outOfService
  else if s.isBarePoles then .barePoles
  else if s.isDegraded then .degraded
  else if s.isAbsorbed then .absorbed
  else .full

/-- The severity recorded when a level is entered (Table ARCH-5). -/
def Level.severity : Level → Severity
  | .full => .note
  | .absorbed => .fault
  | .degraded => .fault
  | .barePoles => .critical
  | .outOfService => .critical

/-- GLB.SERVICE_STATE.level set. -/
def State.enterLevel (s : State) (l : Level) : State :=
  { s with glb := { s.glb with level := l } }

/-- The level taken from the units' present state; a change is recorded and fires source 1,008, at NOTE on
a rise (R24, R25). -/
def State.settleLevel (s : State) : State :=
  let l := s.levelOf
  if l = s.glb.level then s
  else
    let v := if l.code < s.glb.level.code then .note else l.severity
    (s.enterLevel l).fire 1008 v { Detail.none with code := l.code }

/-! ## The dirty budget in force -/

/-- eff_budget after the caps of R105. -/
def State.cappedBudget (s : State) : Nat :=
  if s.cache.stackOk = 0#2 ∨ s.glb.epochConsumed = 0xFFFFFFFF then 0
  else if s.cache.stackOk ≠ 0b11#2 then min 16 s.glb.budget
  else s.glb.budget

/-- eff_budget taken anew; a drop is reported by source 1,010 at WARN, or at FAULT above 20 % (R106). -/
def State.settleBudget (s : State) : State :=
  let b := s.cappedBudget
  let old := s.glb.effBudget
  let s := { s with glb := { s.glb with effBudget := b } }
  if b < old then
    s.fire 1010 (if old * 80 > b * 100 then .fault else .warn) { Detail.none with value := b }
  else s

/-! ## Admission and load -/

/-- Reads accepted, misses and writes allowed to a port in one 2.0 µs window (Table REQ-3). -/
def State.missLimit (s : State) (p : Port) : Nat :=
  let both := (s.port (portOther p)).memEnabled
  let out := decide (1 ≤ s.modulesOut ∧ s.modulesOut ≤ 2)
  if both then (if out then 1500 else 3000) else (if out then 3000 else 6000)

/-- Reads accepted per window (Table REQ-3). -/
def State.readLimit (s : State) (p : Port) : Nat :=
  if (s.port (portOther p)).memEnabled && popCount s.cache.stackOk == 1 then 3437 else 6875

/-- The limits a port breaches now (BLY.ADMIT_STATUS, Table REQ-3). -/
def State.admitNow (s : State) (p : Port) : BitVec 5 :=
  let x := s.port p
  BitVec.ofNat 5
    (b2n (decide (s.share p < s.held p)) + 2 * b2n (decide (s.missLimit p < x.winMisses)) +
      4 * b2n (decide (s.readLimit p < x.winReads)) + 8 * b2n (decide (2500 < x.winWrites)) +
      16 * b2n x.winSameLine)

/-- The sticky bits gain the present breaches; a new breach fires the port's admitted-load source (R65). -/
def State.noteAdmit (s : State) (p : Port) : State :=
  let now := s.admitNow p
  let x := s.port p
  if now &&& ~~~x.admitSeen = 0#5 then s
  else
    (s.modPort p fun x => { x with admitSeen := x.admitSeen ||| now }).fire (1061 + portIdx p) .note
      ⟨portIdx p, 0, now.toNat, 0⟩

/-- Media command slots held: reads sent, and programs sent and not ended (Table BUD-2). -/
def State.slotsHeld (s : State) : Nat :=
  (s.stp.reads.countP fun e => e.2.status == .sensing || e.2.status == .ready ||
    e.2.status == .transferred || e.2.status == .around) +
  (s.stp.progs.countP fun e => e.2.status != .queued)

/-- The load index L of a port in 1/256 (R40). -/
def State.loadIndex (s : State) (p : Port) : Nat :=
  let bel := 256 * s.held p / 4096
  let dirty := if s.budgetUnits = 0 then 0 else 256 * (s.charged + s.glb.reserved) / s.budgetUnits
  let slots := 256 * s.slotsHeld / (64 * 72)
  min 256 (max bel (max dirty slots))

/-- The threshold of a DevLoad value in HPn.DEVLOAD_CFG. -/
def PortState.threshold (p : PortState) (v : Nat) : Nat :=
  if v = 3 then p.severe.toNat else if v = 2 then p.moderate.toNat
  else if v = 1 then p.optimal.toNat else 0

/-- DevLoad by Table PORT-4. -/
def PortState.loadClass (p : PortState) (l : Nat) : Nat :=
  if p.severe.toNat ≤ l then 3 else if p.moderate.toNat ≤ l then 2
  else if p.optimal.toNat ≤ l then 1 else 0

/-- The charged share of the budget in force, in per cent (Table PERS-1). -/
def State.chargedPercent (s : State) : Nat :=
  if s.budgetUnits = 0 then 100 else 100 * s.charged / s.budgetUnits

/-! ## Wear -/

/-- The effective count of a leaf (R141). -/
def State.leafCount (s : State) (key : Nat) : Nat :=
  min 4095 (Sparse.get 0 s.wlv.leaves key + s.wlv.bump)

/-- Spare swaths of a die at format (Table LAYOUT-3). -/
def sparePool (dies : Nat) : Nat :=
  if dies = 32 then 126447 else if dies = 16 then 125919 else 124863

/-- The first physical swath of the headroom, which is followed by the spare pool (Tables LAYOUT-2 and
LAYOUT-3). -/
def headroomBase (dies : Nat) : Nat :=
  655360 - sparePool dies - 4096

/-- Free spare swaths of a die. -/
def State.spareFree (s : State) (slot die : Nat) : Nat :=
  sparePool s.wlv.dies - Sparse.get 0 s.wlv.spareUsed (dieKey slot die)

/-- Free headroom swaths of a die. -/
def State.headFree (s : State) (slot die : Nat) : Nat :=
  4096 - Sparse.get 0 s.wlv.headUsed (dieKey slot die)

/-- Free spare swaths of a module: of its dies that are not retired. -/
def State.moduleSpareFree (s : State) (slot : Nat) : Nat :=
  ((List.range s.wlv.dies).map fun d =>
    if (s.adoption slot d).isSome then 0 else s.spareFree slot d).sum

/-- Free headroom swaths of a module. -/
def State.moduleHeadFree (s : State) (slot : Nat) : Nat :=
  ((List.range s.wlv.dies).map fun d =>
    if (s.adoption slot d).isSome then 0 else s.headFree slot d).sum

/-- The module with the fewest free spares, among those present. -/
def State.worstModule (s : State) : Option Nat :=
  (s.presentSlots).foldl
    (fun (a : Option Nat) k =>
      match a with
      | none => some k
      | some b => if s.moduleSpareFree k < s.moduleSpareFree b then some k else some b) none

/-- The number of leaves of the tree (Table LAYOUT-6). -/
def State.leafTotal (s : State) : Nat := 18 * s.wlv.dies * 524289

/-- The mean effective leaf count, rounded down. -/
def State.meanLeaf (s : State) : Nat :=
  let n := max 1 s.leafTotal
  min 4095 (((s.wlv.leaves.map Prod.snd).sum + s.wlv.bump * n) / n)

/-- The largest effective leaf count. -/
def State.worstLeaf (s : State) : Nat :=
  min 4095 ((s.wlv.leaves.map Prod.snd).foldl max 0 + s.wlv.bump)

/-- Life used in per cent (R149). -/
def State.lifeUsed (s : State) : Nat :=
  let n := max 1 s.leafTotal
  let wear := 100 * ((s.wlv.leaves.map Prod.snd).sum + s.wlv.bump * n) / (n * max 1 s.wlv.retireUnits)
  let pool := sparePool s.wlv.dies * s.wlv.dies
  let spare := match s.worstModule with
    | some k => 100 * (pool - s.moduleSpareFree k) / max 1 pool
    | none => 0
  min 100 (max wear spare)

/-! ## Health -/

/-- SHUTDOWN state name: whether the level allows CXL.mem service at all. -/
def State.serves (s : State) : Bool := s.glb.level != .outOfService

end Sys2Proof.Machine
end

