-- ==== Sys2Proof/Machine/SeaOps.lean ====
section
/-! DEFINITION. The shared operations of the sea chest: the values of records (R393), a store of one
transaction with compaction (R392, R395, R396), clearing a record (R394) and the monotonic counters
(R401 to R403). -/

namespace Sys2Proof.Machine

open Sys2Proof

/-! ## Records -/

/-- The bytes that both copies of a record take (Table SEA-3, R392). -/
def recordBytes (len : Nat) : Nat := 2 * ((14 + len + 15) / 16 * 16)

/-- Bytes of a log sector behind its header page (Tables SEA-1 and SEA-2). -/
def logSectorBytes : Nat := 32256

/-- The records that hold the present value of their identifiers (R393). -/
def liveRecs : List SRec → List SRec
  | [] => []
  | r :: rest =>
    if r.withdrawn ∨ rest.any fun x => x.id == r.id && !x.withdrawn then liveRecs rest
    else r :: liveRecs rest

/-- Bytes of the live records, both copies (R396). -/
def liveBytes (l : List SRec) : Nat :=
  ((liveRecs l).map fun r => recordBytes r.payload.length).sum

/-- The value of an identifier, if one is stored (R393). -/
def Sea.value (x : Sea) (id : Nat) : Option (List Byte) :=
  (((x.recs.filter fun r => r.id.toNat == id && !r.withdrawn).getLast?).map SRec.payload)

/-- The erase of the log sector not in use ends (R395). -/
def Sea.eraseOther (x : Sea) : Sea :=
  { x with
    erases := Sparse.modify 0 x.erases (if x.activeLog then 0 else 1) (· + 1)
    otherErased := true, erasing := false }

/-- Compaction into the other log sector (R395), which waits for that sector's erase; the old sector then waits
for its own. -/
def Sea.compact (x : Sea) : Sea :=
  let x := if x.otherErased then x else x.eraseOther
  { x with
    recs := liveRecs x.recs
    freeBytes := logSectorBytes - liveBytes x.recs
    activeLog := !x.activeLog
    generation := x.generation + 1
    otherErased := false
    erasing := true }

/-- Erase count of the most-erased sector, and that sector, the lowest of equals (R396). -/
def Sea.maxErases (x : Sea) : Nat × Nat :=
  x.erases.foldl (fun (m : Nat × Nat) e => if m.1 < e.2 then (e.2, e.1) else m) (0, 0)

/-- The WARN record written when the most-erased sector's count, `was` before, passes 80,000 (R396). -/
def State.noteWear (s : State) (was : Nat) : State :=
  let m := s.sea.maxErases
  if was ≤ 80000 ∧ 80000 < m.1 then s.fire 1276 .warn ⟨m.2, 0, 0, m.1⟩ else s

/-- A failed store: SEA.STATUS.store_failed and source 1,275 (R396, R402). -/
def State.storeFails (s : State) : State :=
  ({ s with sea := { s.sea with storeFailed := true } }).fire 1275 .fault Detail.none

/-- The records of one transaction appended (R392). -/
def Sea.append (x : Sea) (new : List (Nat × List Byte)) : Sea :=
  { x with
    recs := x.recs ++ new.map fun e => ⟨BitVec.ofNat 15 e.1, e.2, x.txn + 1, false⟩
    txn := x.txn + 1
    freeBytes := x.freeBytes - (new.map fun e => recordBytes e.2.length).sum }

/-- Whether a transaction keeps to the limits of R392 and R396. -/
def Sea.fits (x : Sea) (new : List (Nat × List Byte)) : Bool :=
  (new.all fun e => decide (e.2.length ≤ 480)) &&
    decide (liveBytes (x.append new).recs ≤ 20480)

/-- One store (R392 to R396): all its records become the values of their identifiers together, or it
fails and none does. -/
def State.seaStore (s : State) (new : List (Nat × List Byte)) (verified : Bool) : State × Bool :=
  if verified && s.sea.fits new then
    let total := (new.map fun e => recordBytes e.2.length).sum
    let x := if s.sea.freeBytes < total + 2048 then s.sea.compact else s.sea
    (State.noteWear { s with sea := x.append new } s.sea.maxErases.1, true)
  else (s.storeFails, false)

/-- A record cleared (R394). -/
def State.seaWithdraw (s : State) (id : Nat) : State :=
  { s with sea := { s.sea with
    recs := s.sea.recs.map fun r => if r.id.toNat = id then { r with withdrawn := true } else r } }

/-! ## Counters -/

/-- The largest value of a counter of Table SEA-5. -/
def counterMax (c : Nat) : Nat :=
  match c with
  | 1 => 2 ^ 28 - 1
  | 2 => 2 ^ 24 - 1
  | 3 => 2 ^ 64 - 1
  | 4 => 2 ^ 32 - 1
  | 5 => 2 ^ 12 - 1
  | _ => 0

/-- A counter's value (R401). -/
def Sea.counter (x : Sea) (c : Nat) : Nat :=
  (Sparse.get 0#64 x.counters c).toNat

/-- A counter stands at the largest value of its width (R403). -/
def Sea.saturated (x : Sea) (c : Nat) : Bool :=
  decide (counterMax c ≤ x.counter c)

/-- The counter sector refilled (R404): the base record with all five values stored, the sector erased, one
slot written for each counter. -/
def State.refillCounters (s : State) : State :=
  let base := ((List.range 5).map fun i => leBytes 8 (s.sea.counter (i + 1))).flatten
  let r := s.seaStore [(0x0303, base)] true
  if r.2 then
    State.noteWear
      { r.1 with sea := { r.1.sea with
        ctrSlots := 5, erases := Sparse.modify 0 r.1.sea.erases 2 (· + 1) } } r.1.sea.maxErases.1
  else r.1

/-- One increment (R402, R403); the second value says whether the counter's user may proceed. A value
that is a multiple of 64 needs a new slot of the counter sector, for which an increment waits where none is
free (R404). -/
def State.counterInc (s : State) (c : Nat) (verified : Bool) : State × Bool :=
  if s.sea.saturated c then (s.fire 1277 .critical (Detail.ofUnit c), true)
  else if verified then
    let s := if s.sea.counter c % 64 = 0 ∧ 1024 ≤ s.sea.ctrSlots then s.refillCounters else s
    let v := s.sea.counter c
    ({ s with sea := { s.sea with
      counters := Sparse.set 0#64 s.sea.counters c (BitVec.ofNat 64 (v + 1))
      ctrSlots := s.sea.ctrSlots + (if v % 64 = 0 then 1 else 0) } }, true)
  else (s.storeFails, false)

/-! ## The flash array (R389 to R391) -/

/-- Bytes of the flash from an address. -/
def Sea.readFlash (x : Sea) (addr n : Nat) : List Byte :=
  (List.range n).map fun i => Memory.read 0xFF#8 x.flash (addr + i)

/-- One byte programmed: bits change from 1 to 0 only, and the byte's programs are counted. -/
def Sea.programByte (x : Sea) (addr : Nat) (b : Byte) : Sea :=
  { x with
    flash := Memory.write 0xFF#8 x.flash addr (Memory.read 0xFF#8 x.flash addr &&& b)
    progs := Sparse.set 0 x.progs addr (Sparse.get 0 x.progs addr + 1) }

/-- Bytes programmed at the addresses given. -/
def Sea.program (x : Sea) (l : List (Nat × Byte)) : Sea :=
  l.foldl (fun x e => x.programByte e.1 e.2) x

/-- No byte is programmed for the seventeenth time since its erase. -/
def Sea.canProgram (x : Sea) (addrs : List Nat) : Bool :=
  addrs.all fun a => decide (Sparse.get 0 x.progs a < 16)

/-- Bytes of a sector. -/
def sectorBytes : Nat := 32768

/-- A sector erased to all ones. -/
def Sea.eraseSector (x : Sea) (k : Nat) : Sea :=
  let inside (a : Nat) : Bool := decide (a / sectorBytes = k)
  { x with
    flash := x.flash.filter fun c => !inside c.1
    progs := x.progs.filter fun c => !inside c.1
    erases := Sparse.modify 0 x.erases k (· + 1) }

/-! ## Record identifiers (R392) -/

/-- The identifier of a store group of Table HCMD-5. -/
def recGroup (b : Nat) : Nat := 0x0100 + b

/-- The identifier of a wrapped Shroud key. -/
def recShroudKey (slot : Nat) : Nat := 0x0200 + slot

/-- The identifier of a wrapped KCE key. -/
def recKceKey (r : Nat) : Nat := 0x0240 + r

/-- The payload of a wrapped key of `n` bytes: the key and the integrity block of AES KW (log entry 20). -/
def wrapPayload {w : Nat} (n : Nat) (k : BitVec w) : List Byte :=
  bytesOf n k ++ List.replicate 8 0#8

end Sys2Proof.Machine
end

