-- ==== Sys2Proof/Machine/MailOps.lean ====
section
/-! DEFINITION. The shared operations of the mailboxes: return codes and vendor statuses (Table HCMD-1),
opcodes and classes (Tables HCMD-2, HCMD-3 and SEC-2), posting completions (R285, R291), background
commands (R287) and the retire point (R288). Standard opcodes and return codes are CXL's (log entry 21). -/

namespace Sys2Proof.Machine

open Sys2Proof

/-! ## Codes -/

/-- Return codes (R291). -/
def RetCode.code : RetCode → Nat
  | .success => 0x0
  | .backgroundStarted => 0x1
  | .invalidInput => 0x2
  | .unsupported => 0x3
  | .internalError => 0x4
  | .retryRequired => 0x5
  | .busy => 0x6
  | .mediaDisabled => 0x7
  | .fwOutOfOrder => 0x9
  | .fwAuthFailed => 0xA
  | .invalidSlot => 0xB
  | .activationFailedRolledBack => 0xC
  | .invalidPhysicalAddress => 0xF
  | .injectPoisonLimit => 0x10
  | .aborted => 0x12
  | .unsupportedMailbox => 0x15
  | .invalidPayloadLength => 0x16

/-- Vendor extended statuses (Table HCMD-1). -/
def Vendor.code : Vendor → Nat
  | .none => 0x0000
  | .nothingToAbort => 0x0101
  | .permission => 0x0102
  | .range => 0x0103
  | .overlap => 0x0104
  | .registryFull => 0x0105
  | .keyAbsent => 0x0106
  | .lockBusy => 0x0107
  | .unavailable => 0x0108
  | .engine => 0x0109
  | .poisoned => 0x010A
  | .macFail => 0x010B
  | .mediaError => 0x010C
  | .aborted => 0x010D
  | .entropy => 0x010E
  | .interrupted => 0x010F
  | .registryLost => 0x0110
  | .sealedLine => 0x0111
  | .modulesOut => 0x0112
  | .keyState => 0x0113
  | .keyValue => 0x0114
  | .rekeyState => 0x0115
  | .moduleState => 0x0116
  | .storeFailed => 0x0117
  | .authFail => 0x0118
  | .queueFull => 0x0119
  | .moduleFailed => 0x011A

/-- The return code that Table HCMD-1 pairs with a vendor status (R291). -/
def Vendor.rc : Vendor → RetCode
  | .none => .success
  | .nothingToAbort => .success
  | .permission => .unsupportedMailbox
  | .lockBusy => .busy
  | .queueFull => .busy
  | .unavailable => .mediaDisabled
  | .engine => .internalError
  | .poisoned => .internalError
  | .macFail => .internalError
  | .mediaError => .internalError
  | .aborted => .aborted
  | .entropy => .internalError
  | .interrupted => .internalError
  | .registryLost => .internalError
  | .storeFailed => .internalError
  | .moduleFailed => .internalError
  | .range => .invalidInput
  | .overlap => .invalidInput
  | .registryFull => .invalidInput
  | .keyAbsent => .invalidInput
  | .sealedLine => .invalidInput
  | .modulesOut => .invalidInput
  | .keyState => .invalidInput
  | .keyValue => .invalidInput
  | .rekeyState => .invalidInput
  | .moduleState => .invalidInput
  | .authFail => .invalidInput

/-- Codes of Table MAST-4. -/
def MbState.code : MbState → Nat
  | .idle => 0
  | .pending => 1
  | .executing => 2
  | .completing => 3

/-- Command classes of Table SEC-2. -/
inductive CmdClass where
  | query | range | operational | device | key | destructive
  deriving DecidableEq, Repr

/-- The opcode, the class and the input length of the supported commands (Tables HCMD-2, HCMD-3 and
HCMD-4); no length where the standard, or a count in the payload, decides it. -/
def commands : List (Nat × CmdClass × Option Nat) :=
  [ (0x0001, .query, none), (0x0002, .query, none), (0x0005, .query, none),
    (0x0100, .query, none), (0x0101, .operational, none), (0x0102, .query, none),
    (0x0103, .operational, none), (0x0200, .query, none), (0x0201, .device, none),
    (0x0202, .device, none), (0x0300, .query, none), (0x0301, .device, none),
    (0x0400, .query, none), (0x0401, .query, none), (0x4000, .query, none),
    (0x4100, .query, none), (0x4200, .query, none), (0x4201, .query, none),
    (0x4202, .operational, none), (0x4203, .query, none), (0x4204, .device, none),
    (0x4300, .query, none), (0x4301, .range, none), (0x4302, .range, none),
    (0x4400, .destructive, none), (0x4401, .destructive, none) ] ++
  [ (0xC001, .query, some 0), (0xC002, .query, some 0), (0xC003, .query, some 4),
    (0xC010, .device, some 4), (0xC011, .operational, some 4), (0xC012, .device, none),
    (0xC013, .device, some 4), (0xC020, .range, some 16), (0xC021, .range, some 16),
    (0xC030, .key, some 72), (0xC031, .key, some 4), (0xC032, .key, some 12),
    (0xC033, .key, some 0), (0xC040, .query, some 16), (0xC041, .destructive, some 24),
    (0xC050, .device, some 4), (0xC051, .device, some 4), (0xC060, .operational, some 16),
    (0xC061, .operational, some 4), (0xC070, .destructive, some 4) ]

/-- The class of an opcode; none for an opcode that is not supported. -/
def opClass (op : BitVec 16) : Option CmdClass :=
  (commands.find? fun e => e.1 == op.toNat).map fun e => e.2.1

/-- The input length of an opcode, where it is fixed. -/
def opLen (op : BitVec 16) : Option Nat :=
  (commands.find? fun e => e.1 == op.toNat).bind fun e => e.2.2

/-- The port of a mailbox; none for the sideband. -/
def mboxPort (m : Nat) : Option Port :=
  if m ≤ 1 then some .hp0 else if m ≤ 3 then some .hp1 else none

/-- Whether a mailbox is a primary one. -/
def primaryMbox (m : Nat) : Bool := m == 0 || m == 2

/-- Whether Table SEC-2 allows a class on a mailbox (R267). -/
def State.classAllowed (s : State) (m : Nat) (c : CmdClass) : Bool :=
  match mboxPort m with
  | none => true
  | some p =>
    if primaryMbox m then
      (s.port p).mode == 0b10#2 || c == .query || c == .range || c == .operational
    else c == .query

/-! ## Completion -/

/-- The completion interrupt: MSI-X vector 0 of the mailbox's port (R411), or the MCTP response. -/
def State.mbInterrupt (s : State) (m : Nat) : State :=
  let s := s.modMb m fun x => { x with interrupts := x.interrupts + 1 }
  match mboxPort m with
  | some p => s.sendMsix p 0
  | none => s

/-- A command of a mailbox taken from the command journal (R278). -/
def State.journalDrop (s : State) (m : Nat) (op : BitVec 16) : State :=
  { s with mst := { s.mst with
    journal := s.mst.journal.filter fun j => !(j.mbox.val == m && j.opcode == op) } }

/-- A completion posted (R285, R291): COMPLETING, the doorbell cleared, IDLE. `keep` leaves the command in the
journal, where it goes on in the background. -/
def State.completeCode (s : State) (m : Nat) (keep : Bool) (rc v : BitVec 16) (out : Output) (len : Nat) :
    State :=
  let op := (s.mb m).opcode
  let s := if keep then s else s.journalDrop m op
  (s.modMb m fun x => { x with
    st := .idle, rc := rc, vendor := v, output := out, outLen := len
    rcReg := rc, vendorReg := v }).mbInterrupt m

/-- A completion with a return code and a vendor status. -/
def State.complete (s : State) (m : Nat) (rc : RetCode) (v : Vendor) (out : Output) (len : Nat) : State :=
  s.completeCode m (rc == .backgroundStarted) (BitVec.ofNat 16 rc.code) (BitVec.ofNat 16 v.code) out len

/-- Success with an output. -/
def State.succeed (s : State) (m : Nat) (out : Output) : State :=
  let len := match out with
    | .bytes b => b.length
    | _ => 0
  s.complete m .success .none out len

/-- A refusal with a vendor status of Table HCMD-1. -/
def State.refuse (s : State) (m : Nat) (v : Vendor) : State :=
  s.complete m v.rc v .empty 0

/-- A refusal with a standard return code alone. -/
def State.refuseRc (s : State) (m : Nat) (rc : RetCode) : State :=
  s.complete m rc .none .empty 0

/-! ## Background commands -/

/-- The command of a mailbox goes on in the background (R287). -/
def State.startBg (s : State) (m : Nat) (abortable : Bool) (slot : Option Nat) : State :=
  let op := (s.mb m).opcode
  let s := s.complete m .backgroundStarted .none .empty 0
  s.modMb m fun x => { x with
    bgActive := true, bgOpcode := op, bgPercent := 0, bgAbortable := abortable
    bgRetired := false, bgAborted := false, bgRc := 0#16, bgVendor := 0#16
    bgOutput := .empty, bgSlot := slot }

/-- A background command ends with the codes given. -/
def State.completeBgCode (s : State) (m : Nat) (rc v : BitVec 16) (out : Output) : State :=
  if (s.mb m).bgActive then
    let s := s.journalDrop m (s.mb m).bgOpcode
    (s.modMb m fun x => { x with
      bgActive := false, bgPercent := if rc = 0#16 then 100 else x.bgPercent
      bgRc := rc, bgVendor := v, bgOutput := out }).mbInterrupt m
  else s

/-- A background command ends. -/
def State.completeBg (s : State) (m : Nat) (rc : RetCode) (v : Vendor) (out : Output) : State :=
  s.completeBgCode m (BitVec.ofNat 16 rc.code) (BitVec.ofNat 16 v.code) out

/-- Progress of a background command (R287); it never falls. -/
def State.bgProgress (s : State) (m percent : Nat) : State :=
  s.modMb m fun x => if x.bgActive ∧ x.bgPercent < percent then { x with bgPercent := min 100 percent } else x

/-- The retire point of a background command at the arbiter (R288). -/
def State.retireBg (s : State) (m : Nat) : State :=
  if !(s.mb m).bgActive ∨ (s.mb m).bgAborted then s
  else
    let s := s.modMb m fun x => { x with bgRetired := true }
    { s with mst := { s.mst with journal := s.mst.journal.map fun j =>
      if j.mbox.val = m ∧ j.opcode = (s.mb m).bgOpcode then { j with retired := true } else j } }

/-- A background command of the opcode runs on any mailbox. -/
def State.bgRuns (s : State) (op : Nat) : Bool :=
  (List.range 5).any fun m => (s.mb m).bgActive && (s.mb m).bgOpcode.toNat == op

/-- Any background command runs. -/
def State.anyBg (s : State) : Bool :=
  (List.range 5).any fun m => (s.mb m).bgActive

/-! ## Carrying out a command -/

/-- Firmware holds the command of this opcode in EXECUTING. -/
def State.taken (s : State) (m : Nat) (op : Nat) : Bool :=
  (s.mb m).st == .executing && (s.mb m).opcode.toNat == op

/-- `f` where firmware holds the command; otherwise nothing happens. -/
def State.onCommand (s : State) (m : Mbox) (op : Nat) (f : State → State) : Out :=
  .next (if s.taken m.val op then f s else s)

/-- The payload of a mailbox. -/
def State.payload (s : State) (m : Nat) : List Byte := (s.mb m).payload

/-- Bytes of a payload that Table HCMD-4 does not name are 0 (R290, step 5). -/
def reservedZero (p : List Byte) (offs : List Nat) : Bool :=
  offs.all fun o => leField p o 1 == 0

/-- The device DPA of a mailbox command's address (R292); none outside its limits. -/
def State.mboxDpa (s : State) (m : Nat) (a : Nat) : Option Nat :=
  match mboxPort m with
  | none => if a < s.capacity then some a else none
  | some p => if a < s.portSize p then some ((s.port p).toDevice a) else none

end Sys2Proof.Machine
end

