-- ==== Sys2Proof/Machine/SealOps.lean ====
section
/-! DEFINITION. The shared operations of the keyed check engine and the sealed extents: lines read and
written by the device itself, the cipher lock (R245 to R247), key registers (R244), core G messages
(R241), and the ends of a seal (R252, R253) and of a verify-read (R260, R261). -/

namespace Sys2Proof.Machine

open Sys2Proof

/-! ## Lines read and written inside the device -/

/-- The Shroud slot of a sector's key-map entry is EMPTY (R448). -/
def State.slotEmpty (s : State) (lsn : Nat) : Bool :=
  (s.keySlot (s.keySlotOf (entryOf lsn))).state == .empty

/-- The present bytes of a line and whether it is poisoned, read without allocation (R252, step 5); none
while its sector awaits Tier 3. -/
def State.peekLine (s : State) (lsn line : Nat) : Option (Line × Bool) :=
  let held : Option (Four LineState × Four Line × Four Mask × BitVec 4) :=
    match s.findWay lsn with
    | some key => let w := s.way key; some (w.lines, w.data, w.mask, w.poison)
    | none => (s.matchVictim lsn).map fun e => (e.2.lines, e.2.data, e.2.mask, e.2.poison)
  let c := s.cell lsn
  match held with
  | some (ls, d, m, p) =>
    if (ls.get line).valid then some (d.get line, bitOf p line)
    else if s.wlv.cam.contains lsn then none
    else some ((overlay ls d m (s.decrypt lsn c)).get line, bitOf (p ||| c.poison) line)
  | none =>
    if s.wlv.cam.contains lsn then none
    else some ((s.decrypt lsn c).get line, bitOf c.poison line)

/-- A way for a write of the device's own to a sector: the block's way, its victim entry recalled (Table
CACHE-8), or a new way. -/
def State.wayForWrite (s : State) (lsn : Nat) : State × Option Nat :=
  match s.findWay lsn with
  | some key => (s, some key)
  | none =>
    match s.matchVictim lsn with
    | none =>
      let (s, way) := s.allocWrite lsn (fun _ => true)
      match way with
      | some key => (s.setWay key { Way.empty with tag := tagOf lsn, held := true }, some key)
      | none => (s, none)
    | some (k, v) =>
      if v.rebuilding ∨ v.merging.isSome then (s, none)
      else if v.st = .issued then
        let (s, way) := s.allocWrite lsn (s.recallAllowed v.mslot)
        match way with
        | some key => (s.recallInto k key true, some key)
        | none => (s, none)
      else
        let s := s.cancelEviction k
        let (s, way) := s.allocWrite lsn (s.recallAllowed v.mslot)
        match way with
        | some key => ((s.recallInto k key false).freeVictim k, some key)
        | none => (s, none)

/-- A full line written by the device itself, acknowledged as a host write is (R99, R259, R261, R295):
through the cache where a usable cache and the budget admit it, otherwise to media. -/
def State.storeLine (s : State) (dpa : Nat) (data : Line) (poison : Option PoisonState) : State :=
  let lsn := lsnOf dpa
  let line := lineOf dpa
  let units := decide (s.charged + s.glb.reserved + 1 ≤ s.budgetUnits) && decide (0 < s.victimUnreserved)
  let viaCache := s.cached (sliceHash lsn) && s.glb.level != .barePoles && units
  let found := if viaCache then s.wayForWrite lsn else (s, s.findWay lsn)
  let s := found.1
  let s := match viaCache, found.2 with
    | true, some key =>
      let w := (s.way key).write line true poison.isSome data (BitVec.allOnes 64) s.clock
      ((s.setWay key { w with held := false }).mirrorWay key).touchWay key
    | _, way =>
      let c := s.cell lsn
      let base := s.decrypt lsn c
      let pb := setBit c.poison line poison.isSome
      let s := s.setCell lsn (s.encrypt lsn (base.set line data) pb)
      match way with
      | none => s
      | some key =>
        let w := s.way key
        let w' : Way := { w with
          lines := w.lines.set line .clean, data := w.data.set line data
          mask := w.mask.set line 0#64, poison := setBit w.poison line poison.isSome }
        (s.setWay key w').settleSlotOpt w.mslot
  match poison with
  | some st => s.poisonAdd lsn (setBit 0#4 line true) st
  | none => s.poisonClear lsn line

/-- `storeLine` over consecutive lines of one value. -/
def State.fillLines (s : State) (dpa : Nat) (data : Line) : Nat → State
  | 0 => s
  | n + 1 => (s.storeLine dpa data none).fillLines (dpa + 64) data n

/-! ## The cipher lock and core G -/

/-- The owner named by a code of Table KCE-2. -/
def ownerOf (c : Nat) : LockOwner :=
  match c with
  | 1 => .firmware
  | 2 => .seal
  | 3 => .verify
  | 4 => .selfTest
  | 5 => .debug
  | _ => .none

/-- The lock granted (R245). -/
def State.grantLock (s : State) (o : LockOwner) : State :=
  { s with kce := { s.kce with owner := o, gen := s.kce.gen + 1#16, ownedAt := s.clock } }

/-- A core G message in progress ends with an outcome and no tag (Table KCE-1). -/
def Kce.endMsg (k : Kce) (e : MsgOutcome) : Kce :=
  { k with busy := false, err := e, cmac := Cmac.reset }

/-- The lock returns to owner 0; a message in progress ends with ABORTED (R247). -/
def State.dropLock (s : State) : State :=
  let k := if s.kce.busy then s.kce.endMsg .aborted else s.kce
  { s with kce := { k with owner := .none } }

/-- Whether a write on an access path is the owner's (R246). -/
def Kce.isOwner (k : Kce) : Path → Bool
  | .mainmast => k.owner == .firmware
  | .debug => k.owner == .debug
  | .host _ => false

/-- The key of a register. -/
def Kce.key (k : Kce) (r : Nat) : BitVec 256 := Sparse.get 0#256 k.keys r

/-- A new chain at index 0 with a zero previous tag (R384). -/
def Logb.newChain (l : Logb) : Logb :=
  { l with chainIndex := 0, chainTag := 0#128, prevTag := 0#128 }

/-- A KEY record (Table LOG-2). -/
def State.keyRecord (s : State) (sev : Severity) (target index op : Nat) : State :=
  s.logPut sev .key false [BitVec.ofNat 8 target, BitVec.ofNat 8 index, BitVec.ofNat 8 op]

/-- The effect of a loaded or zeroized KCE register on the records and, for register 0, the chain. -/
def State.kceKeyChanged (s : State) (r op : Nat) : State :=
  let s := s.keyRecord .note 1 r op
  if r = 0 then { s with log := s.log.newChain } else s

/-- LOAD of a key register (R244); none where it is refused. -/
def State.kceLoad (s : State) (r : Nat) (key : BitVec 256) : Option State :=
  if bitOf s.kce.loaded r ∨ key = 0#256 then none
  else
    let s := { s with kce := { s.kce with
      keys := Sparse.set 0#256 s.kce.keys r key, loaded := setBit s.kce.loaded r true } }
    some (s.kceKeyChanged r 1)

/-- ZEROIZE of a key register (R244); none where it is refused. -/
def State.kceZeroize (s : State) (r : Nat) : Option State :=
  if !bitOf s.kce.loaded r then none
  else
    let s := { s with kce := { s.kce with
      keys := Sparse.erase s.kce.keys r, loaded := setBit s.kce.loaded r false } }
    some (s.kceKeyChanged r 2)

/-- Core G started for a streamer's message (R252, step 5). -/
def State.startStream (s : State) (r len : Nat) (header : List Byte) : State :=
  { s with kce := { s.kce with
    busy := true, tag := 0#128, cmac := cmacFeed (cmacStart (s.kce.key r)) header
    msgLen := BitVec.ofNat 41 len } }

/-- A line fed to core G. -/
def State.feedLine (s : State) (l : Line) : State :=
  { s with kce := { s.kce with cmac := cmacFeed s.kce.cmac (bytesOf 64 l) } }

/-- The streamer's message complete: its tag. -/
def State.finishStream (s : State) : State × BitVec 128 :=
  let t := cmacTag s.kce.cmac
  ({ s with kce := { s.kce.endMsg .ok with tag := t } }, t)

/-! ## Seals -/

/-- The seal header (Table KCE-3). -/
def sealHeader (keyReg id base len : Nat) (seq time : BitVec 64) : List Byte :=
  leBytes 2 0x534C ++ leBytes 1 1 ++ leBytes 1 keyReg ++ leBytes 2 id ++ leBytes 2 0 ++
    leBytes 8 base ++ leBytes 8 (len * 2 ^ 20) ++ bytesOf 8 seq ++ bytesOf 8 time ++
    bytesOf 8 Config.serial ++ List.replicate 16 0#8

/-- The 128 B registry entry (R250). -/
def registryImage (id : Nat) (r : Registry) : List Byte :=
  let body := sealHeader r.keyReg id r.base r.len r.seq r.time ++ bytesOf 16 r.tag ++
    leBytes 4 r.generation ++ List.replicate 40 0#8
  body ++ bytesOf 4 (crc32c body)

/-- Extents in SEALED. -/
def Kce.sealedCount (k : Kce) : Nat := k.extents.countP fun e => e.2.sealed

/-- Whether [a, a + n) overlaps an extent in SEALING or SEALED. -/
def Kce.overlaps (k : Kce) (a n : Nat) : Bool :=
  k.extents.any fun e =>
    decide (a < (e.2.base + e.2.len) * 2 ^ 20 ∧ e.2.base * 2 ^ 20 < a + n)

/-- The lowest free extent identifier. -/
def Kce.freeId (k : Kce) : Option Nat := Sparse.freshFrom k.extents 4096 0

/-- The outcome source of the sealed extents (R263). -/
def vendorOutcome (v : Vendor) : Nat := v.code

/-- A seal that ends before its commit leaves no extent (R253). -/
def State.sealFails (s : State) (v : Vendor) : State :=
  match s.kce.sealing with
  | none => s
  | some r =>
    let s := { s with
      kce := { s.kce with
        extents := Sparse.erase s.kce.extents r.id
        registry := Sparse.erase s.kce.registry r.id
        sealing := none }
      media := { s.media with registry := Sparse.erase s.media.registry r.id } }
    let s := s.dropLock
    let s := s.completeBg r.mbox.val v.rc v .empty
    s.fireOutcome .fault 0 r.id v.code 0 r.seq.toNat

/-! ## Verify-reads -/

/-- One line of the fill pattern 0x5EA1_DEAD (R261). -/
def fillPattern : Line :=
  BitVec.ofNat 512 (leNat ((List.replicate 16 (leBytes 4 0x5EA1DEAD)).flatten))

/-- The output of a verify-read (Table HCMD-4). -/
def verifyOutput (v : Vendor) (d : Nat) (seq : BitVec 64) : Output :=
  .bytes (leBytes 2 v.code ++ List.replicate 6 0#8 ++ leBytes 8 d ++ bytesOf 8 seq)

/-- The sequence number of an extent's registry entry. -/
def Kce.seqOf (k : Kce) (id : Nat) : BitVec 64 :=
  match Sparse.find k.registry id with
  | some r => r.seq
  | none => 0#64

/-- Any end of a verify-read but a match (R261): the delivered prefix filled, the record cleared, the
command completed, the outcome recorded. -/
def State.verifyFails (s : State) (v : Vendor) : State :=
  match s.kce.verify with
  | none => s
  | some r =>
    let seq := s.kce.seqOf r.id
    let s := match r.buffer with
      | some a => s.fillLines a fillPattern (r.delivered / 64)
      | none => s
    let s := { s with kce := { s.kce with verify := none } }
    let s := (s.dropLock).seaWithdraw 0x0302
    let s := s.completeBg r.mbox.val v.rc v (verifyOutput v r.delivered seq)
    s.fireOutcome .fault 1 r.id v.code r.delivered seq.toNat

/-- A running seal or verify-read ended with an outcome. -/
def State.streamFails (s : State) (v : Vendor) : State :=
  (s.sealFails v).verifyFails v

/-- Whether a device DPA lies in an active verify-read buffer (R295). -/
def State.inVerifyBuffer (s : State) (dpa : Nat) : Bool :=
  match s.kce.verify with
  | some r =>
    match r.buffer with
    | some a => decide (a ≤ dpa ∧ dpa < a + r.len)
    | none => false
  | none => false

/-! ## Aborting a background command (Table MAST-5) -/

/-- An online activation taken back (R283): past its step 2 the old image is restored, which is recorded at
WARN. -/
def State.rollBack (s : State) : State :=
  let was := s.mst.activating
  let s := { s with mst := { s.mst with
    running := s.mst.running || was, activating := false, activateMbox := none
    kickedAt := if was then s.clock else s.mst.kickedAt } }
  if was then s.fire 1236 .warn Detail.none else s

/-- The background command of a mailbox undone under its own rule: a seal by R253, a verify-read by R261, a
module admission by its return to TRAINING. -/
def State.undoBg (s : State) (m : Nat) : State :=
  let x := s.mb m
  let s := s.modMb m fun x => { x with bgAborted := true }
  match x.bgOpcode.toNat with
  | 0x0202 => (s.rollBack).completeBg m .aborted .aborted .empty
  | 0xC020 => s.sealFails .aborted
  | 0xC021 => s.verifyFails .aborted
  | 0xC051 =>
    let s := match x.bgSlot with
      | some k => s.modSlot k fun (y : ModState) =>
          { y with state := if y.state = SlotSt.waiting then SlotSt.training else y.state, admitMbox := none }
      | none => s
    s.completeBg m .aborted .aborted .empty
  | _ => s.completeBg m .aborted .aborted .empty

end Sys2Proof.Machine
end

