-- ==== Sys2Proof/Machine/ShroudOps.lean ====
section
/-! DEFINITION. The shared operations of the Shroud: key slots and the key map (R225 to R227), ERASE
(R239), and the start, the end and the cut of a rekey (R230, R236, R238). -/

namespace Sys2Proof.Machine

open Sys2Proof

/-! ## Slots and the key map -/

/-- Key-map entries that name a slot (SHR.SLOT_STATUS.entries). -/
def Shr.entriesNaming (x : Shr) (slot : Nat) : Nat :=
  (x.keyMap.countP fun e => e.2 == slot) +
    (if x.keyMapDefault = slot then 1048576 - x.keyMap.length else 0)

/-- The state of a slot that holds a key and is no rekey's old slot (Table SHR-1). -/
def Shr.heldState (x : Shr) (slot : Nat) : SlotState :=
  if 0 < x.entriesNaming slot then .active else .loaded

/-- The key written through SHR.KEY_DATA_0 to SHR.KEY_DATA_15. -/
def Shr.keyInput (x : Shr) : BitVec 512 :=
  BitVec.ofNat 512 ((List.range 16).foldl
    (fun a i => a + (Sparse.get 0#32 x.keyData i).toNat * 2 ^ (32 * i)) 0)

/-- LOAD of a slot (R226); none where it is refused. -/
def State.shrLoad (s : State) (slot : Nat) (key : BitVec 512) : Option State :=
  if (s.keySlot slot).state ≠ .empty ∨ (xtsKeys key).1 = (xtsKeys key).2 then none
  else
    let s := s.modKeySlot slot fun _ => ⟨s.shr.heldState slot, key⟩
    some (s.keyRecord .note 0 slot 1)

/-- ZEROIZE of a slot (R226); none where it is refused. -/
def State.shrZeroize (s : State) (slot : Nat) : Option State :=
  if (s.keySlot slot).state ≠ .loaded then none
  else some ((s.modKeySlot slot fun _ => KeySlot.empty).keyRecord .note 0 slot 2)

/-- Entries `lo` to `hi` of the key map that name `a` set to `b`. -/
def Shr.moveEntries (x : Shr) (a b lo hi : Nat) : Shr :=
  if lo = 0 ∧ 1048575 ≤ hi ∧ x.keyMapDefault = a then
    { x with
      keyMapDefault := b
      keyMap := x.keyMap.filter fun e => e.2 != a && e.2 != b }
  else
    let m := (List.range (hi + 1 - lo)).foldl
      (fun m i =>
        if Sparse.get x.keyMapDefault m (lo + i) = a then Sparse.set x.keyMapDefault m (lo + i) b
        else m) x.keyMap
    { x with keyMap := m }

/-- The key map written to every copy on media (R227). -/
def State.saveKeyMap (s : State) : State :=
  { s with media := { s.media with
    keyMap := some (s.shr.keyMap, s.shr.keyMapDefault), keyMapGen := s.media.keyMapGen + 1 } }

/-- A slot that holds a key takes the state that the key map now gives it. -/
def State.settleKeySlot (s : State) (slot : Nat) : State :=
  s.modKeySlot slot fun k =>
    if k.state = .empty then k else { k with state := s.shr.heldState slot }

/-! ## The rekey sweep -/

/-- Rows of a key-map entry. -/
def rowsPerEntry : Nat := 65536

/-- The first entry from `e` to `hi` that names slot `a`. -/
def Shr.nextEntry (x : Shr) (a hi : Nat) : Nat → Nat → Option Nat
  | 0, _ => none
  | f + 1, e =>
    if hi < e then none
    else if Sparse.get x.keyMapDefault x.keyMap e = a then some e
    else if x.keyMapDefault = a then Shr.nextEntry x a hi f (e + 1)
    else
      match x.keyMap.find? fun p => decide (e < p.1) && p.2 == a with
      | some p => if p.1 ≤ hi then some p.1 else none
      | none => none

/-- The first row from `r` on that the sweep visits; the row after the range where none is left. -/
def Shr.nextRow (x : Shr) (r : Nat) : Nat :=
  match x.nextEntry x.rkA x.rkHi (x.keyMap.length + 2) (r / rowsPerEntry) with
  | some e => max r (e * rowsPerEntry)
  | none => (x.rkHi + 1) * rowsPerEntry

/-- The sweep has visited every row of its range. -/
def Shr.sweepDone (x : Shr) : Bool := decide ((x.rkHi + 1) * rowsPerEntry ≤ x.hemline)

/-- Sweep sets in flight. -/
def State.sweepSets (s : State) : Nat := s.stp.sets.countP fun e => e.2.sweep

/-- The confirmed point C (R235). -/
def State.rekeyPoint (s : State) : Nat :=
  (s.stp.sets.filter fun e => e.2.sweep).foldl (fun a e => min a e.2.row) s.shr.hemline

/-- C checkpointed in the remap records every 2^20 rows (R235). -/
def State.checkpointSweep (s : State) : State :=
  if s.rekeyPoint / 1048576 = s.media.rekeyPoint / 1048576 then s
  else { s with media := { s.media with rekeyPoint := s.rekeyPoint } }

/-- Whether R230 refuses a start. -/
def State.rekeyRefused (s : State) (a b lo hi : Nat) : Bool :=
  s.shr.rkState != RekeyState.idle || (s.keySlot a).state != SlotState.active ||
    (s.keySlot b).state != SlotState.loaded || a == b || decide (hi < lo)

/-- The rekey record (R230). -/
def rekeyRecord (a b lo hi : Nat) : List Byte :=
  leBytes 1 a ++ leBytes 1 b ++ leBytes 2 0 ++ leBytes 4 lo ++ leBytes 4 hi

/-- A rekey started (R230), its record stored already; its start is recorded (R236). -/
def State.rekeyBegin (s : State) (a b lo hi rate : Nat) : State :=
  let s := s.modKeySlot a fun k => { k with state := .retiring }
  let s := s.modKeySlot b fun k => { k with state := .active }
  let x := { s.shr with rkState := .running, rkA := a, rkB := b, rkLo := lo, rkHi := hi, rkRate := rate }
  let s := { s with
    shr := { x with hemline := x.nextRow (lo * rowsPerEntry) }
    media := { s.media with rekeyPoint := lo * rowsPerEntry } }
  s.fire 1222 .note Detail.none

/-- The common end of a rekey: the entries below the row moved, both slots settled, the record cleared. -/
def State.rekeyFinish (s : State) (hi : Option Nat) : State :=
  let x := s.shr
  let s := match hi with
    | some h => { s with shr := x.moveEntries x.rkA x.rkB x.rkLo h }
    | none => s
  let s := (s.saveKeyMap).seaWithdraw 0x0301
  let s := { s with shr := { s.shr with rkState := .idle, rkDone := true } }
  (s.settleKeySlot x.rkA).settleKeySlot x.rkB

/-- The last entry whose rows all lie below row `c`, within the range (R238). -/
def Shr.cutEntry (x : Shr) (c : Nat) : Option Nat :=
  let e := c / rowsPerEntry
  if e ≤ x.rkLo then none else some (min x.rkHi (e - 1))

/-- A rekey cut at C (R238), recorded at WARN. -/
def State.rekeyCutNow (s : State) : State :=
  (s.rekeyFinish (s.shr.cutEntry s.rekeyPoint)).fire 1223 .warn Detail.none

/-! ## ERASE (R239) -/

/-- The accepted reads complete, each with what media holds (R239, step 2). -/
def State.drainReads (s : State) : State :=
  s.stp.reads.foldl (fun s e => s.finishRead e.1 (s.cell e.2.lsn)) s

/-- The cache emptied without write-back (R239, step 2): ISSUED victim entries alone stay. -/
def State.emptyCache (s : State) : State :=
  let gone := (s.vbf.entries.filter fun e => e.2.st != VictimState.issued).map Prod.fst
  let sets := s.stp.sets.filter fun e => e.2.sent || e.2.writer.isSome
  let kept := sets.map Prod.fst
  { s with
    glb := { s.glb with reserved := 0 }
    bly := { s.bly with entries := Sparse.mapVals s.bly.entries fun b => { b with reserved := false } }
    cache := { s.cache with ways := [], mirror := [] }
    vbf := { s.vbf with
      entries := Sparse.mapVals (s.vbf.entries.filter fun e => !gone.contains e.1)
        fun v => { v with mslot := none }
      reserved := 0 }
    stp := { s.stp with
      sets := sets
      progs := s.stp.progs.filter fun e =>
        match e.2.set with
        | some id => kept.contains id
        | none => true } }

/-- A fresh key for every slot that holds one (R239, in-place form). -/
def State.freshKeys (s : State) : State :=
  (List.range 64).foldl
    (fun s i =>
      if (s.keySlot i).state = .empty then s
      else (s.modKeySlot i fun k => { k with key := s.draw }).drawn) s

/-- Every slot zeroized, slot 0 ACTIVE with a fresh key, every key-map entry on slot 0 (R239, format form). -/
def State.formatKeys (s : State) : State :=
  let s := { s with shr := { s.shr with
    slots := Sparse.put [] 0 ⟨.active, s.draw⟩, keyMap := [], keyMapDefault := 0 } }
  (s.drawn).saveKeyMap

/-- The wrapped records of the slots (R239, step 4; R265). -/
def State.wrappedSlots (s : State) : List (Nat × List Byte) :=
  (List.range 64).filterMap fun i =>
    if (s.keySlot i).state = .empty then none
    else some (recShroudKey i, wrapPayload 64 (s.keySlot i).key)

/-- ERASE in one of its forms (R239). -/
def State.erase (s : State) (fmt : Bool) : State :=
  let s := if s.shr.rkState = .idle then s else s.rekeyCutNow
  let s := (s.drainReads).emptyCache
  let s := if fmt then s.formatKeys else s.freshKeys
  let s := (List.range 64).foldl
    (fun s i => if (s.keySlot i).state = .empty then s.seaWithdraw (recShroudKey i) else s) s
  let s := (s.seaStore s.wrappedSlots true).1
  (s.keyRecord .warn 0 (b2n fmt) 3).pumpAll

/-- The poison list, the dead-sector CAM and Tier 3 emptied (R296, R307). -/
def State.clearPoisonList (s : State) : State :=
  { s with
    wlv := { s.wlv with poison := [], overflow := false, poisonDirty := [], cam := [] }
    media := { s.media with poison := [] }
    stp := { s.stp with tier3Queue := [], tier3Active := [] } }

/-- Zero plaintext written to every stripe row (R296, R307): every sector decrypts to 0 under the key that
its key-map entry names. -/
def State.zeroMedia (s : State) : State :=
  let d := s.shr.keyMapDefault
  { s with media := { s.media with
    cells := [], torn := []
    base := ⟨Four.zero, (s.keySlot d).key, d, 0#4, 0#40⟩
    baseMap := s.shr.keyMap
    baseKeys := s.shr.slots.map fun e => (e.1, e.2.key) } }

/-- The work of Sanitize or Secure Erase ends (R296): Sanitize has written zero to every stripe row. -/
def State.endErase (s : State) (zero : Bool) : State :=
  let s := if zero then s.zeroMedia else s
  { s with glb := { s.glb with erasing := false } }

/-- Steps 3 and 4 of Format Media Set end (R307): zero in every row, seals, poison and journal cleared, the
consumed epoch stored as 0 and the epoch counter at 1. -/
def State.endFormat (s : State) : State :=
  let s := (s.zeroMedia).clearPoisonList
  let s := (s.seaStore [(0x0300, leBytes 4 0)] true).1
  let s := { s with
    media := { s.media with registry := [], journal := none, rekeyPoint := 0 }
    sea := { s.sea with extents := [] }
    kce := { s.kce with extents := [], registry := [] }
    glb := { s.glb with epochConsumed := 0, epochCounter := 1, formatting := false } }
  ((s.settleBudget).settleLevel).pumpAll

end Sys2Proof.Machine
end

