-- ==== Sys2Proof/Machine/DumpOps.lean ====
section
/-! DEFINITION. The shared operations of persistence: merge reads (R108), the content and the start of a
dump (R110, R111, R114), shutdown and strike point (R314 to R316), reopening after a dump (R115, R319),
the dirty-budget plan (R105, R106) and Memory_Active (R29, R363). -/

namespace Sys2Proof.Machine

open Sys2Proof

/-! ## Merge reads (R108) -/

/-- A merge read for a victim entry that needs media bytes. -/
def State.startMerge (s : State) (i : Nat) : State :=
  match Sparse.find s.vbf.entries i with
  | none => s
  | some v =>
    if v.complete ∨ v.merging.isSome then s
    else
      let s := s.modVictim i fun v => { v with merging := some s.stp.nextRead }
      s.newRead .background v.lsn [] none (some i)

/-- A merge read: a background read whose tracker is a victim entry. -/
def ReadOp.merges (r : ReadOp) : Bool := r.cls == .background && r.tracker.isSome

/-- The merge reads cancelled (R111); a host read that joined one goes on as a demand read. -/
def State.cancelMerges (s : State) : State :=
  let reads := (s.stp.reads.filter fun e => !(e.2.merges && e.2.belays.isEmpty)).map fun e =>
    (e.1, if e.2.merges then { e.2 with cls := .demand, tracker := none, victim := none } else e.2)
  { s with
    stp := { s.stp with reads := reads }
    vbf := { s.vbf with entries := Sparse.mapVals s.vbf.entries fun v => { v with merging := none } } }

/-! ## Programs cancelled and formed again -/

/-- Programs that run on a die. -/
def Prog.onDie (p : Prog) : Bool := p.status != .queued

/-- A program whose sector a read must not sense (R155): sent, withdrawn or failed, and not yet confirmed. -/
def Prog.inFlight (p : Prog) : Bool := p.onDie || decide (0 < p.withdrawals) || decide (0 < p.fails)

/-- Whether a program is one of a write-through write's (R111). -/
def State.ofWriter (s : State) (p : Prog) : Bool :=
  match p.set.bind (Sparse.find s.stp.sets) with
  | some t => t.writer.isSome
  | none => false

/-- Program commands not yet sent are cancelled, but for those of write-through writes (R111) and the copies
that a migration takes as its source (R207); the gap
moves that wait for them are given up, their targets unmapped. -/
def State.cancelUnsent (s : State) : State :=
  { s with stp := { s.stp with
    progs := s.stp.progs.filter fun e => e.2.onDie || s.ofWriter e.2 || e.2.fails == 2
    gapMoves := s.stp.gapMoves.filter fun e => e.2.stage != .reading } }

/-- A set whose programs a dump cancelled, formed again once service reopens. -/
def State.reformSet (s : State) (id : Nat) : State :=
  match Sparse.find s.stp.sets id with
  | none => s
  | some t =>
    if t.writer.isSome then s
    else
      let s := { s with stp := { s.stp with
        sets := Sparse.put s.stp.sets id { t with sent := false, outstanding := [] } } }
      let s := t.members.foldl
        (fun s m => (s.modVictim m.1 fun v => { v with st := .queued }).startMerge m.1) s
      s.formPrograms id

/-- No program runs on any die. -/
def State.diesQuiet (s : State) : Bool := !(s.stp.progs.any fun e => e.2.onDie)

/-! ## The dump -/

/-- The LSN or the row that a program writes, as the in-flight list's bookkeeping has it. -/
def ProgData.lsn : ProgData → Nat
  | .sector l _ => l
  | .parity r _ _ => r * 16

/-- The programs in flight when the dump starts (R116), withdrawn ones among them (R154). -/
def State.inflightList (s : State) : List InFlight :=
  (s.stp.progs.filter fun e => e.2.inFlight).map fun e =>
    ⟨e.2.ch, e.2.die, e.2.kind, e.2.sector, e.2.data.lsn⟩

/-- The record of a charged mirror slot (R110). -/
def State.slotRecord (s : State) (m : Nat) : Option JRec :=
  match s.wayOfSlot m with
  | some (key, w) => some ⟨w.lsn key, w.lines, w.poison, w.data, w.mask⟩
  | none =>
    match s.victimOfSlot m with
    | some (_, v) =>
      if v.tracker.isSome then
        some ⟨v.lsn, Four.all .dirtyFull, v.poisonBits, v.plain, Four.all 0#64⟩
      else some ⟨v.lsn, v.lines, v.poison, v.data, v.mask⟩
    | none => none

/-- The records of a dump: every charged mirror slot once (R110). -/
def State.dumpRecs (s : State) : List JRec :=
  s.cache.mirror.filterMap fun e => s.slotRecord e.1

/-- Descriptors that a record takes: its block, and its masks where a line is Dirty-partial (R103). -/
def JRec.descriptors (r : JRec) : Nat := 1 + b2n (anyPartial r.lines)

/-- Stream pages of 15 descriptors that records fill. -/
def pagesOf (l : List JRec) : Nat := ((l.map JRec.descriptors).sum + 14) / 15

/-- The records whose descriptors all lie among the first `n` of the stream. -/
def takeRecs : Nat → List JRec → List JRec
  | _, [] => []
  | n, r :: rest => if r.descriptors ≤ n then r :: takeRecs (n - r.descriptors) rest else []

/-- The dump of this epoch is complete: its SEALED pages stand. -/
def State.dumpSealed (s : State) : Bool :=
  s.glb.dumping &&
    match s.media.journal with
    | some e => e.sealed && !e.abandoned && e.epoch == s.seq.epochTaken
    | none => false

/-- The dump starts (R111, R114): admission stops, an epoch is taken, unsent programs and merge reads are
cancelled, and the writes that waited for a merge go on. -/
def State.dumpStart (s : State) : State :=
  if s.glb.dumping then s
  else
    let e := s.glb.epochCounter
    let s := { s with
      glb := { s.glb with
        admitOpen := false, dumping := true, dumpInflight := s.inflightList
        epochCounter := satAdd 0xFFFFFFFF e 1 }
      seq := { s.seq with epochTaken := e } }
    ((s.cancelUnsent).cancelMerges).retryLookups

/-- A measurement under way is given up with a warning or a requested shutdown (R360). -/
def State.holdupAbort (s : State) : State :=
  { s with tel := { s.tel with busy := false } }

/-- The stream stops where it stands (R316): the pages programmed form an incomplete epoch (R119). -/
def State.dumpStops (s : State) (pages : Nat) : State :=
  if !s.glb.dumping ∨ s.dumpSealed ∨ pages = 0 then s
  else
    let e : Epoch := ⟨s.seq.epochTaken, takeRecs (15 * pages) s.dumpRecs, [], false, false, pages⟩
    { s with media := { s.media with journal := some e } }

/-! ## Shutdown (R314 to R316, R321) -/

/-- SEQ enters STRIKE: no program is started any more, BRD_RST_N is asserted (R321, step 1). -/
def State.enterStrike (s : State) : State :=
  { s with
    glb := { s.glb with admitOpen := false }
    seq := { s.seq with state := .strike, brdRst := true, downAt := s.clock } }

/-- The severity of a shutdown by its cause (Table EVT-2). -/
def Cause.severity : Cause → Severity
  | .none => .note
  | .warning => .warn
  | .shdn => .note
  | .railFault => .fault
  | .overTemp => .critical
  | .warnBeforeReplay => .warn

/-- Where SEQ goes when the dump is complete (Table PWR-4): to HOLD after a power-fail warning, to STRIKE
after any other cause. -/
def State.afterDump (s : State) : State :=
  if s.seq.state ≠ .dump then s
  else if s.seq.cause = .warning then
    { s with seq := { s.seq with state := .hold, dumpDoneAt := some s.clock } }
  else s.enterStrike

/-- A shutdown from RUN (R314); before replay is done no dump starts and SEQ goes straight to STRIKE
(R315). -/
def State.shutdown (s : State) (c : Cause) : State :=
  if s.seq.state ≠ .run then s
  else
    let s := if c = .warning ∨ c = .shdn then s.holdupAbort else s
    if !s.glb.replayDone then
      let c := if c = .warning then .warnBeforeReplay else c
      let s := { s with seq := { s.seq with cause := c, shutAt := s.clock } }
      (s.enterStrike).fire 1261 c.severity { Detail.none with code := c.code }
    else
      let s := { s with seq := { s.seq with
        state := .dump, cause := c, shutAt := s.clock, dumpDoneAt := none } }
      let s := s.dumpStart
      let s := s.fire 1261 c.severity { Detail.none with addr := s.seq.epochTaken, code := c.code }
      if s.dumpSealed then s.afterDump else s

/-! ## Reopening -/

/-- Admission and write-back reopen (R115): the sets that the dump stopped are formed again, and the
requests in the ingress buffers are presented. -/
def State.reopen (s : State) : State :=
  let s := { s with glb := { s.glb with dumping := false, dumpInflight := [], admitOpen := true } }
  ((s.stp.sets.map Prod.fst).foldl (fun s id => s.reformSet id) s).pumpAll

/-! ## The dirty-budget plan -/

/-- The budget of R105 for an E_u in mJ. -/
def budgetFor (mj : Nat) : Nat :=
  if 80 * mj < 50000 then 0 else min 32 ((80 * mj - 50000) / 21875)

/-- The budget planned: an override counts only below the computed value (R367). -/
def State.plannedBudget (s : State) : Nat :=
  let b := budgetFor s.tel.euMj
  match Sparse.find s.trm.overrides 0x0001 with
  | some v => min b v.toNat
  | none => b

/-- The budget planned anew from E_u (R106), and requests that it admits. -/
def State.replan (s : State) : State :=
  let s := { s with glb := { s.glb with budget := s.plannedBudget, energyMj := min 0xFFFF s.tel.euMj } }
  ((s.settleBudget).settleLevel).pumpAll

/-! ## Boot progress and Memory_Active -/

/-- DTY.BOOT_STAGE written with a stage (Table RST-6). -/
def State.bootStage (s : State) (n : Nat) : State :=
  { s with dty := { s.dty with
    stage := BitVec.ofNat 8 n
    bootMs := BitVec.ofNat 16 (min 0xFFFF ((s.clock - s.rst.bootAt) / 2000000)) } }

/-- Memory_Active set on both ports (R29): the service level is taken from the state of the units. -/
def State.activateMemory (s : State) : State :=
  let s := { s with glb := { s.glb with memoryActive := true, admitOpen := !s.glb.dumping } }
  ((s.bootStage 0x0C).settleLevel).pumpAll

/-- Memory_Active may be set: replay is done, and the bank is known from the history or from a measurement
of this boot (R363). -/
def State.memoryReady (s : State) : Bool :=
  s.glb.replayDone && !s.glb.memoryActive && (!s.tel.history.isEmpty || s.tel.valid)

/-- Memory_Active set where nothing holds it. -/
def State.tryActivate (s : State) : State :=
  if s.memoryReady then s.activateMemory else s

/-! ## Media written by replay and recovery -/

/-- Lines entered in the poison list under a state, whatever their entry said. -/
def State.poisonSet (s : State) (lsn : Nat) (lines : BitVec 4) (st : PoisonState) : State :=
  match Sparse.find s.wlv.poison lsn with
  | none => s.poisonAdd lsn lines st
  | some _ =>
    let e : Poison := ⟨lines, st, s.glb.time⟩
    { s with wlv := { s.wlv with poison := Sparse.put s.wlv.poison lsn e }.touchPoison lsn }

/-- Poison found on media or in the journal: the state of a surviving entry, or RESTORED (R118, R189). -/
def State.poisonRestore (s : State) (lsn : Nat) (lines : BitVec 4) : State :=
  if lines = 0#4 then s
  else
    match Sparse.find s.wlv.poison lsn with
    | some e => s.poisonAdd lsn lines e.state
    | none => s.poisonAdd lsn lines .restored

/-- The content of a LOST sector (R185): zero plaintext under its key, or zero bytes as stored where its
slot is EMPTY, with every poison bit. -/
def State.lostSector (s : State) (lsn : Nat) : Stored :=
  let c := s.encrypt lsn Four.zero 0xF#4
  if (s.keySlot c.slot).state = .empty then
    { c with plain := Four.split (xtsDecrypt 0#512 lsn 0#2048), key := 0#512 }
  else c

/-- A sector written as LOST and entered so (R185), at CRITICAL (R199). -/
def State.writeLost (s : State) (lsn : Nat) : State :=
  let s := (s.setCell lsn (s.lostSector lsn)).poisonSet lsn 0xF#4 .lost
  s.fire 1212 .critical { Detail.none with addr := lsn * 256 }

end Sys2Proof.Machine
end

