-- ==== Sys2Proof/WellFormed.lean ====
section
/-! DEFINITION. Which commands are well formed: the operands name a unit, an index or a length that the
specification's tables admit. Everything else about a command is for its meaning to judge. -/

namespace Sys2Proof

/-- Payload bytes of a mailbox (Table MAST-3): 64 KiB for the primary mailboxes 0 and 2, 4 KiB for the
secondary ones and the sideband. -/
def mailboxSize (m : Mbox) : Nat :=
  if m.val = 0 ∨ m.val = 2 then 65536 else 4096

/-- Units of a bucket class (Table EVT-3). -/
def bucketUnits (c : Nat) : Nat :=
  match c with
  | 0 => 576
  | 1 => 576
  | 2 => 72
  | 3 => 72
  | 4 => 64
  | _ => 2

/-- Swaths of a die: 2,684,354,560 die sectors of 4,096 sectors each (Table ARCH-2). -/
def swathsPerDie : Nat := 655360

/-- The largest payload of a sea chest record (Table SEA-3). -/
def recordMax : Nat := 480

/-- An eye width in percent of its first calibration. -/
def eyeOk (eye : Nat) : Bool := decide (eye ≤ 100)

/-- A payload that one sea chest record holds. -/
def recordFits (p : List Byte) : Bool := decide (p.length ≤ recordMax)

/-- A source index that exists (R405). -/
def sourceOk (i : Nat) : Bool := decide (i ≤ 1283)

/-- A unit of a bucket class (Table EVT-3). -/
def bucketOk (c : Fin 6) (u : Nat) : Bool := decide (u < bucketUnits c.val)

/-- Well-formed commands. -/
def Instr.wf : Instr → Bool
  | .l0pNarrow _ use => decide (use ≤ 100)
  | .handoverCutover out inc => out != inc
  | .wearTreeRepair _ _ swath _ => decide (swath < swathsPerDie)
  | .swathRetire _ _ swath _ => decide (swath < swathsPerDie)
  | .frozenSwathDaily _ _ swath => decide (swath < swathsPerDie)
  | .migrationRowConfirmed _ _ swath => decide (swath < swathsPerDie)
  | .driftClockTick _ _ t => decide (-128 ≤ t ∧ t ≤ 127)
  | .state _ _ rep => decide (rep.prog.val ≤ 2)
  | .hbmRecalibration _ _ eye => eyeOk eye
  | .recordStore _ p _ => recordFits p
  | .eventFire i _ _ => sourceOk i
  | .eventCoalesceFlush i => sourceOk i
  | .bucketLeak c u => bucketOk c u
  | _ => true

end Sys2Proof
end

