-- ==== Sys2Proof/Machine/Persist.lean ====
section
/-! DEFINITION. The commands of persistence: reservations and the dirty budget, write-back and stripe sets,
the dump's completion and replay (chapter "Persistence, power-fail dump and replay"). -/

namespace Sys2Proof.Machine

open Sys2Proof

/-! ## Reservations and the budget -/

/-- RESERVATION_GRANT: the requests that wait at a port for a reservation are presented anew (R55, R104). -/
def execReservationGrant (p : Port) (s : State) : Out := .next (s.pump p)

/-- DIRTY_BUDGET_REPLAN: firmware plans the budget from E_u (R105, R106). -/
def execDirtyBudgetReplan (s : State) : Out :=
  .next (if s.mst.running then s.replan else s)

/-! ## Write-back -/

/-- WRITE_BACK_START: a dirty block is copied to a victim entry, its way left valid (R107). -/
def execWriteBackStart (lsn : BitVec 40) (s : State) : Out :=
  .next (match s.findWay lsn.toNat with
    | none => s
    | some key =>
      let w := s.way key
      if anyDirty w.lines && w.flushing.isNone && !s.glb.dumping then s.victimise key true none false
      else s)

/-- The dirty blocks of a row in the cache that are not being written back yet (R108). -/
def State.rowBlocks (s : State) (row : Nat) : List Nat :=
  (List.range 16).filterMap fun j =>
    match s.findWay (row * 16 + j) with
    | some key => if anyDirty (s.way key).lines && (s.way key).flushing.isNone then some key else none
    | none => none

/-- The blocks of a row asked for by STP copied to victim entries, a merge read with each that needs one. -/
def State.gatherBlock (s : State) (key : Nat) : State :=
  let i := s.freshVictim
  let s := s.victimise key true none false
  match i with
  | some i => s.startMerge i
  | none => s

/-- Whether an entry joins a set of its row: HELD, in no set, and the oldest of its LSN (R88). -/
def State.gathers (s : State) (row : Nat) (e : Nat × Victim) : Bool :=
  rowOf e.2.lsn == row && e.2.st == .held && e.2.set.isNone && !e.2.rebuilding &&
    !((s.victimsOf e.2.lsn).any fun x => decide (x.2.order < e.2.order))

/-- The set of a row fixed (R108, R132): its entries become QUEUED, and its programs wait for their merge
reads. -/
def State.fixSet (s : State) (row : Nat) : State :=
  let ms := (s.vbf.entries.filter fun e => s.gathers row e).map fun e => (e.1, e.2.lsn)
  let id := s.stp.nextSet
  let t : StripeSet := ⟨row, ms, s.setForm row ms.length, [], false, false, none⟩
  let s := { s with stp := { s.stp with sets := Sparse.put s.stp.sets id t, nextSet := id + 1 } }
  let s := ms.foldl
    (fun s m => (s.modVictim m.1 fun v => { v with set := some id, st := .queued }).startMerge m.1) s
  s.formPrograms id

/-- STRIPE_GATHER_TIMEOUT: the entry has been HELD for 20 µs; the blocks of its row are gathered and the set
fixed, unless the row has a program in flight (R108, R109). -/
def execStripeGatherTimeout (idx : Nat) (s : State) : Out :=
  .next (match Sparse.find s.vbf.entries idx with
    | none => s
    | some v =>
      let row := rowOf v.lsn
      if !s.gathers row (idx, v) || !s.elapsed v.since (us 20) || s.rowBusy row || s.glb.dumping then s
      else ((s.rowBlocks row).foldl (fun s k => s.gatherBlock k) s).fixSet row)

/-! ## Merge reads -/

/-- The tracker of an entry after its merge read (R108): the entry's own bytes over the media bytes; where
the sector could not be confirmed, the masked bytes alone. -/
def Victim.merged (v : Victim) (plain : Four Line) (poison : BitVec 4) (ok : Bool) : Victim :=
  let needs (i : Nat) : Bool := !(v.lines.get i).valid
  let media := if ok then plain else Four.zero
  let bits := (List.range 4).foldl
    (fun (b : BitVec 4) i => if needs i && (!ok || bitOf poison i) then setBit b i true else b) 0#4
  { v with
    tracker := some (v.data.map fun i old =>
      if (v.lines.get i).valid then old
      else if v.lines.get i = .dirtyPartial then mergeBytes (v.mask.get i) old (media.get i)
      else media.get i)
    trackPoison := bits, merging := none }

/-- The Dirty-partial lines of a way take the media bytes outside their masks (R108). -/
def Way.mergePartial (w : Way) (plain : Four Line) (poison : BitVec 4) : Way :=
  let f := w.fill plain poison
  let part (i : Nat) : Bool := w.lines.get i == .dirtyPartial
  { f with
    lines := f.lines.map fun i st => if part i then st else w.lines.get i
    data := f.data.map fun i d => if part i then d else w.data.get i
    poison := (List.range 4).foldl
      (fun p i => if part i then p else setBit p i (bitOf w.poison i)) f.poison
    held := w.held }

/-- The way of a block being written back merged with the same media bytes (R108). -/
def State.mergeWay (s : State) (i : Nat) (plain : Four Line) (poison : BitVec 4) : State :=
  match s.cache.ways.find? fun e => e.2.flushing == some i with
  | none => s
  | some (key, w) => (s.setWay key (w.mergePartial plain poison)).mirrorIfDirty key

/-- The lines of an entry that needed media bytes. -/
def Victim.needed (v : Victim) : BitVec 4 :=
  (List.range 4).foldl
    (fun (b : BitVec 4) i => if (v.lines.get i).valid then b else setBit b i true) 0#4

/-- The reads that joined a merge read answered, and the writes that wait for it taken up again. -/
def State.answerJoined (s : State) (belays : List Nat) (plain : Four Line) (poison : BitVec 4) (ok : Bool) :
    State :=
  let s := if ok then s.answerReads belays plain poison
    else belays.foldl (fun s i =>
      if ((Sparse.find s.bly.entries i).map fun b => b.st == .fill).getD false then
        s.toRespond i allOnesLine true else s) s
  belays.foldl (fun s i => s.restart i) s

/-- A merge read of an entry ends (R108): the tracker, the way and the slot's charge, the lines lost, the
requests that joined it, and the programs of its set. -/
def State.endMerge (s : State) (idx id : Nat) (v : Victim) (r : ReadOp) (ok : Bool) : State :=
  let c := s.cell v.lsn
  let plain := s.decrypt v.lsn c
  let v' := v.merged plain c.poison ok
  let s := s.modVictim idx fun _ => v'
  let s := if ok then s.mergeWay idx plain c.poison else s
  let s := if ok then s
    else (s.poisonAdd v.lsn v.needed .lost).fire 1212 .critical
      { Detail.none with addr := v.lsn * 256 }
  let s := { s with stp := { s.stp with reads := Sparse.erase s.stp.reads id } }
  let s := s.settleSlotOpt v.mslot
  let s := s.answerJoined r.belays v'.plain v'.poisonBits ok
  match (Sparse.find s.vbf.entries idx).bind (·.set) with
  | some t => s.formPrograms t
  | none => s

/-- MERGE_READ_COMPLETE: the merge read of a victim entry ends, confirmed, or unconfirmed at every tier. -/
def execMergeReadComplete (idx : Nat) (ok : Bool) (s : State) : Out :=
  .next (match Sparse.find s.vbf.entries idx with
    | none => s
    | some v =>
      match v.merging with
      | none => s
      | some id =>
        match Sparse.find s.stp.reads id with
        | none => s
        | some r => s.endMerge idx id v r ok)

/-! ## Confirmed sets -/

/-- The cached block of a confirmed write-through write (R449): every line held takes the programmed content
and becomes Clean, and its charge is returned. -/
def State.cleanThrough (s : State) (news : List (Nat × Stored)) : State :=
  news.foldl
    (fun s e =>
      match s.findWay e.1 with
      | none => s
      | some key =>
        let w := s.way key
        let plain := e.2.plain
        let w' : Way := { w with
          lines := w.lines.map fun _ st => if st = .invalid then .invalid else .clean
          data := w.data.map fun i d => if w.lines.get i = .invalid then d else plain.get i
          mask := Four.all 0#64, poison := e.2.poison, flushing := none, written := 0#4 }
        (s.setWay key w').settleSlotOpt w.mslot) s

/-- The writes that wait for a row under write-through, oldest first. -/
def State.waitingWriters (s : State) (row : Nat) : List Nat :=
  (byOrder s.bly.entries).filter fun i =>
    match Sparse.find s.bly.entries i with
    | some b => b.st == .write && rowOf (lsnOf b.req.dpa) == row &&
        !(s.stp.sets.any fun e => e.2.writer == some i)
    | none => false

/-- The write of a confirmed write-through set is acknowledged (R22). -/
def State.endWriter (s : State) (i : Nat) (news : List (Nat × Stored)) : State :=
  match Sparse.find s.bly.entries i with
  | none => s
  | some b => ((s.cleanThrough news).poisonOfWrite b).completeWrite i

/-- What a set programs into its data members. -/
def State.newsOf (s : State) (t : StripeSet) : List (Nat × Stored) :=
  match t.writer with
  | none => s.setNews t
  | some i =>
    match Sparse.find s.bly.entries i with
    | some b => s.writeThroughNews b
    | none => []

/-- A set whose programs are all confirmed: its entries are freed, its charges returned, its write
acknowledged (R103, R109, Table CACHE-7). -/
def State.confirmSet (s : State) (id : Nat) (t : StripeSet) : State :=
  let news := s.newsOf t
  let s := s.settleAbsent news
  let s := t.members.foldl (fun s m => s.confirmVictim m.1) s
  let s := { s with stp := { s.stp with sets := Sparse.erase s.stp.sets id } }
  let s := match t.writer with
    | some i => s.endWriter i news
    | none => s
  let s := match (s.waitingWriters t.row).head? with
    | some i => s.formWriteThrough i
    | none => s
  (if t.sweep then s.checkpointSweep else s).retryLookups.pumpAll

/-- SET_CONFIRMED: every program of a set is confirmed (R109). -/
def execSetConfirmed (id : Nat) (s : State) : Out :=
  .next (match Sparse.find s.stp.sets id with
    | none => s
    | some t => if t.sent && t.outstanding.isEmpty then s.confirmSet id t else s)

/-! ## The dump's completion -/

/-- Every accepted write is acknowledged and every program has ended (R111). -/
def State.dumpMayEnd (s : State) : Bool :=
  s.glb.dumping && !s.dumpSealed && s.diesQuiet &&
    !(s.bly.entries.any fun e => e.2.reserves != 0 && e.2.st != .respond) &&
    (s.seq.state == .dump || (s.seq.state == .run && s.rst.request.isSome))

/-- DUMP_COMPLETE: the SEALED pages are programmed (R113); SEQ goes to HOLD after a power-fail warning, to
STRIKE after any other cause (Table PWR-4), and stays in RUN for a reset's own dump (R102). -/
def execDumpComplete (s : State) : Out :=
  .next (if !s.dumpMayEnd then s
    else
      let e : Epoch := ⟨s.seq.epochTaken, s.dumpRecs, s.glb.dumpInflight, true, false, pagesOf s.dumpRecs⟩
      let s := { s with
        media := { s.media with journal := some e }
        glb := { s.glb with dumpOutcome := 4, dumpEpoch := e.epoch } }
      (s.fire 1009 .note { Detail.none with addr := e.epoch, code := 4 }).afterDump)

/-! ## Replay -/

/-- The outcome of a journal against the consumed epoch (R117). -/
def replayOutcome (journal : Option Epoch) (consumed : Nat) : Nat :=
  match journal with
  | none => 0
  | some e =>
    if e.epoch ≤ consumed then 0 else if e.abandoned then 2 else if e.sealed then 1 else 3

/-- The lines of a record that hold bytes media does not. -/
def JRec.dirtyLines (r : JRec) : BitVec 4 :=
  (List.range 4).foldl
    (fun (b : BitVec 4) i => if (r.lines.get i).dirty then setBit b i true else b) 0#4

/-- The poison bits of a sector after a record: a Dirty-full line's own, the media's with the record's
elsewhere (R118). -/
def JRec.poisonOver (r : JRec) (media : BitVec 4) : BitVec 4 :=
  (List.range 4).foldl
    (fun (b : BitVec 4) i =>
      setBit b i (if r.lines.get i = .dirtyFull then bitOf r.poison i
        else bitOf media i || bitOf r.poison i)) 0#4

/-- One record replayed (R118). -/
def State.applyRecord (s : State) (bad : List Nat) (r : JRec) : State :=
  let c := s.cell r.lsn
  if (s.keySlot (s.encSlot r.lsn)).state = .empty then s.writeLost r.lsn
  else if bad.contains r.lsn then
    let p := c.poison ||| r.dirtyLines
    let s := s.setCell r.lsn (s.encrypt r.lsn (s.decrypt r.lsn c) p)
    (s.poisonAdd r.lsn r.dirtyLines .lost).fire 1212 .critical { Detail.none with addr := r.lsn * 256 }
  else
    let plain := overlay r.lines r.data r.mask (s.decrypt r.lsn c)
    let s := s.setCell r.lsn (s.encrypt r.lsn plain (r.poisonOver c.poison))
    s.poisonRestore r.lsn r.poison

/-- One in-flight entry replayed (R120): an in-place rewrite is rebuilt from its stripe; a host write-back's
block is in the journal; nothing is done for an unmapped target. -/
def State.applyInflight (s : State) (f : InFlight) : State :=
  if f.kind = .inPlace then
    { s with media := { s.media with torn := s.media.torn.filter (· != f.lsn) } }
  else s

/-- The records and the in-flight list of an epoch replayed, where its outcome says so (R117). -/
def State.applyEpoch (s : State) (e : Epoch) (bad : List Nat) : State :=
  e.inflight.foldl State.applyInflight (e.recs.foldl (fun s r => s.applyRecord bad r) s)

/-- Media channels are up. -/
def State.mediaUp (s : State) : Bool := s.mch.any fun e => e.2.linkUp

/-- The consumed epoch of the sea chest (R117). -/
def State.consumedEpoch (s : State) : Nat :=
  match s.sea.value 0x0300 with
  | some p => leField p 0 4
  | none => 0

/-- REPLAY_START: the journal is scanned, the epoch counter set, and the highest unconsumed epoch replayed;
`bad` names the sectors whose payload fails its CRC in both copies (R114, R117, R118, R120). -/
def execReplayStart (bad : List Nat) (s : State) : Out :=
  .next (if !s.rst.booted || !s.mediaUp || !s.shr.keyMapLoaded || s.glb.replayDone || s.glb.replaying then s
    else
      let cons := s.consumedEpoch
      let top := match s.media.journal with
        | some e => max e.epoch cons
        | none => cons
      let o := replayOutcome s.media.journal cons
      let s := { s with glb := { s.glb with
        replaying := true, epochConsumed := cons, epochCounter := satAdd 0xFFFFFFFF top 1
        dumpOutcome := o } }
      let s := if s.glb.epochCounter = 0xFFFFFFFF then
          s.fire 1009 .critical { Detail.none with addr := 0xFFFFFFFF, code := 0x10 } else s
      match s.media.journal with
      | none => s
      | some e =>
        let s := if o = 0 then s else { s with glb := { s.glb with dumpEpoch := e.epoch } }
        if o = 1 ∨ o = 3 then s.applyEpoch e bad else s)

/-- The outcome of a replay recorded (R119): SEALED at NOTE; ABANDONED and INCOMPLETE at CRITICAL with the
Dirty Shutdown counter incremented. -/
def State.recordReplay (s : State) : State :=
  let o := s.glb.dumpOutcome
  let pages := match s.media.journal with
    | some e => e.pages
    | none => 0
  let d : Detail := { Detail.none with
    addr := s.glb.dumpEpoch, code := o, value := if o = 3 then pages else 0 }
  if o = 1 then s.fire 1009 .note d
  else if o = 2 ∨ o = 3 then ((s.counterInc 4 true).1).fire 1009 .critical d
  else s

/-- The whole buffer of an interrupted verify-read filled, its record cleared, its outcome recorded (R262).
The delivered length of the outcome is not known any more and is a free value. -/
def State.fillInterrupted (s : State) : State :=
  match s.sea.value 0x0302 with
  | none => s
  | some p =>
    let id := leField p 0 2
    let base := leField p 8 8
    let len := leField p 16 8
    let s := (s.fillLines base fillPattern (len / 64)).seaWithdraw 0x0302
    (s.drawn).fireOutcome .fault 1 id Vendor.interrupted.code (s.draw.toNat % 2 ^ 48)
      (s.kce.seqOf id).toNat

/-- REPLAY_COMPLETE: every replay program is confirmed, the consumed epoch is stored, and Memory_Active
follows where nothing else holds it (R117, R122, R262, R363). -/
def execReplayComplete (s : State) : Out :=
  .next (if !s.glb.replaying || !s.diesQuiet then s
    else
      let top := match s.media.journal with
        | some e => max e.epoch s.glb.epochConsumed
        | none => s.glb.epochConsumed
      let (s, ok) := s.seaStore [(0x0300, leBytes 4 top)] true
      if !ok then s
      else
        let s := { s with glb := { s.glb with
          epochConsumed := top, replaying := false, replayDone := true } }
        let s := (s.bootStage 0x0B).recordReplay
        let s := (s.settleBudget).fillInterrupted
        s.tryActivate)

end Sys2Proof.Machine
end

