-- ==== Sys2Proof/Machine/Margins.lean ====
section
/-! DEFINITION. The margins of the trim plan (Table TRIM-1, R365, R367) and the WARN record of a guard band. -/

namespace Sys2Proof.Machine

open Sys2Proof

/-- One margin of Table TRIM-1: its identifier, its limits and its default. -/
structure Margin where
  id : Nat
  lo : Int
  hi : Int
  dflt : Int
  deriving DecidableEq, Repr

/-- The temperature corrections: buckets 0 to 7 but for bucket 3, references 0 to 6 (R366). -/
def tempMargins : List Margin :=
  [0, 1, 2, 4, 5, 6, 7].flatMap fun tb =>
    (List.range 7).map fun k => ⟨0x0100 + 8 * tb + k, -32, 32, 0⟩

/-- The margins of Table TRIM-1, in the order of their identifiers. -/
def margins : List Margin :=
  [ ⟨0x0001, 0, 32, 0⟩, ⟨0x0002, 1, 168, 24⟩, ⟨0x0003, 1, 8, 1⟩, ⟨0x0004, 80, 100, 85⟩,
    ⟨0x0005, 86, 100, 90⟩, ⟨0x0010, 800, 2000, 1100⟩, ⟨0x0020, 20, 23, 22⟩, ⟨0x0021, 16, 21, 20⟩ ] ++
  tempMargins ++
  [ ⟨0x0200, 100, 60000, 1000⟩, ⟨0x0300, 5, 50, 15⟩, ⟨0x0301, 5, 40, 10⟩, ⟨0x0302, 10, 60, 25⟩ ]

/-- The margin of an identifier. -/
def marginOf (id : Nat) : Option Margin := margins.find? fun m => m.id == id

/-- The margins that a plan computes. -/
def Margin.isComputed (m : Margin) : Bool := (m.id == 0x0001 || decide (0x0010 ≤ m.id)) && decide (m.id < 0x0300)

/-- The value of a margin in force: that of the plan applied last, or the default (R364, R365). -/
def State.margin (s : State) (id : Nat) : Int :=
  match Sparse.find s.trm.applied id with
  | some v => v
  | none => (marginOf id).elim 0 Margin.dflt

/-- The source of a margin as Get Trim Plan shows it: 0 computed, 1 override, 2 default. -/
def Trm.sourceOf (t : Trm) (id : Nat) : Nat :=
  if (Sparse.find t.overrides id).isSome then 1
  else if (Sparse.find t.values id).isSome && (marginOf id).any Margin.isComputed then 0 else 2

/-- The WARN record of an alarm of Table TRIM-1. No source of the event tables is named for it, so the index
it carries is a free value (log entry 32). -/
def State.warnRecord (s : State) (unit value : Nat) : State :=
  (s.logPut .warn .event false
    (eventPayload ((s.draw).toNat % 65536) 1 ⟨unit, 0, 0, value⟩)).drawn

end Sys2Proof.Machine
end

