-- ==== Sys2Proof/Machine/PortOps.lean ====
section
/-! DEFINITION. The shared operations of the host ports: HPn.LINK_STATUS, a request into an ingress
buffer (R55, R56), a port that fails (R43, R44), the clearing of R52, and the wake hint of Table REQ-7. -/

namespace Sys2Proof.Machine

open Sys2Proof

/-- HPn.LINK_STATUS. -/
def PortState.linkStatus (p : PortState) : Nat :=
  fieldAt 16 p.recoveryCount + fieldAt 12 p.devload.toNat + fieldAt 11 (b2n p.viral) +
    fieldAt 10 (b2n p.memEnabled) + fieldAt 9 (b2n p.latoptInUse) + fieldAt 6 p.width.toNat +
    fieldAt 3 p.rate.toNat + b2n p.linkUp

/-- Source `k` of a port (Table EVT-2). -/
def portSrc (p : Port) (k : Nat) : Nat := 1012 + 20 * portIdx p + k

/-! ## Requests -/

/-- A port that carries CXL.mem now: enabled under R27, its link not in L1. -/
def PortState.carriesMem (p : PortState) : Bool :=
  p.memEnabled && p.linkUp && p.pm != LinkPm.l1

/-- A request as the port holds it: its device DPA, or the header of the request where no decoder matches
(R31). The header of such a request is the flit's, a free value here (log entry 22). -/
def State.hostReq (s : State) (p : Port) (op : MemOp) (hpa : Nat) (data : Line) (en : Mask)
    (poison : Bool) (err : CacheErr) : PortReq :=
  match (s.port p).dpa hpa with
  | some a => ⟨op, a, data, en, poison, err, false⟩
  | none => ⟨op, 0, s.draw, en, poison, err, true⟩

/-- A request received on M2S Req or M2S RwD, where the host holds a credit for it (Table PORT-3), and
both channels presented. -/
def State.receive (s : State) (p : Port) (rwd : Bool) (r : PortReq) : State :=
  let s := if r.unsupported then s.drawn else s
  let s := if rwd then s.modPort p fun x => { x with
      rwdUsed := x.rwdUsed + 1, ingressRwd := x.ingressRwd ++ [r], quietSince := s.clock }
    else s.modPort p fun x => { x with
      reqUsed := x.reqUsed + 1, ingressReq := x.ingressReq ++ [r], quietSince := s.clock }
  (s.pump p).noteAdmit p

/-- Whether the port can take a request of a channel now. -/
def State.canReceive (s : State) (p : Port) (rwd : Bool) : Bool :=
  (s.port p).carriesMem &&
    (if rwd then decide ((s.port p).rwdUsed < 1024) else decide ((s.port p).reqUsed < 3072))

/-- A host request of any kind. -/
def State.hostRequest (s : State) (p : Port) (rwd : Bool) (op : MemOp) (hpa : Nat) (data : Line)
    (en : Mask) (poison : Bool) (err : CacheErr) : State :=
  if s.canReceive p rwd then s.receive p rwd (s.hostReq p op hpa data en poison err) else s

/-! ## Failing and clearing a port -/

/-- The accepted requests of a failed port become orphans; those in RESPOND are freed, their responses
discarded (R43). -/
def State.orphanPort (s : State) (p : Port) : State :=
  s.bly.entries.foldl
    (fun s e =>
      if e.2.port ≠ p then s
      else if e.2.st = .respond then
        (s.freeBelay e.1).fire 1063 .note { Detail.none with addr := e.2.req.dpa }
      else s.modBelay e.1 fun b => { b with orphan := true }) s

/-- The link state cleared: no link, no CXL.mem, the ingress buffers and answers discarded. -/
def PortState.dropLink (p : PortState) : PortState :=
  { p with
    linkUp := false, width := 0#3, rate := 0#3, memEnabled := false, latoptInUse := false
    pm := .l0, training := false, devload := 0#2, devloadBelow := none
    ingressReq := [], ingressRwd := [], answers := [], lastSent := none
    reqUsed := 0, rwdUsed := 0, ndrCredits := 0, drsCredits := 0
    gpf1Done := false, gpf2Done := false, gpf2Order := none, hostMarginLane := none
    winReads := 0, winMisses := 0, winWrites := 0, winSameLine := false }

/-- Both ports run in multipath mode. -/
def State.multipath (s : State) : Bool :=
  s.port0.mode == 0b10#2 && s.port1.mode == 0b10#2

/-- A port that fails (R43), with the path-lost record of the surviving port (R44). -/
def State.failPort (s : State) (p : Port) : State :=
  let hadMem := (s.port p).memEnabled
  let s := s.orphanPort p
  let s := s.modPort p fun x => { x.dropLink with pathLost := x.pathLost || hadMem }
  let o := portOther p
  let s := if hadMem && s.multipath && (s.port o).memEnabled then
      s.firePath o (portSrc o 8) .fault (Detail.ofUnit (portIdx p)) else s
  s.settleLevel

/-- The mailbox commands of a port that have not retired are aborted (R52); a background command that is
not abortable goes on as device work (R296, R297). -/
def State.abortPortMail (s : State) (p : Port) : State :=
  [2 * portIdx p, 2 * portIdx p + 1].foldl
    (fun s m =>
      let x := s.mb m
      let s := if x.bgActive ∧ x.bgAbortable ∧ !x.bgRetired then s.undoBg m else s
      let s := if x.st = .executing then s.journalDrop m x.opcode else s
      s.modMb m fun x => { x with st := .idle, payload := [], output := .empty, outLen := 0 }) s

/-- What PERST_N, hot reset and CXL Reset clear at their port (R52, R37, R47): configuration but for
sticky bits, decoders, event logs, viral, and the limits a downshift set. -/
def PortState.resetPort (p : PortState) : PortState :=
  { p with
    decoders := [], logs := [], viral := false, logVector := [], msixSent := 0#32
    rateCap := 7#3, widthCap := 5#3, recoveries := [], infoValid := false }

/-- PERST_N, hot reset or CXL Reset at a port (R52): a link that was up goes down at NOTE. -/
def State.portReset (s : State) (p : Port) : State :=
  let wasUp := (s.port p).linkUp
  let s := if wasUp then s.failPort p else s
  let s := if wasUp then s.fire (portSrc p 1) .note (Detail.ofUnit (portIdx p)) else s
  let s := s.abortPortMail p
  (s.modPort p fun x => x.dropLink.resetPort).settleLevel

/-! ## Sleep domains -/

/-- The number of a domain of Table BUD-5 in the sleep bookkeeping. -/
def domainKey : Domain → Nat
  | .port p => portIdx p
  | .core => 2
  | .slice n => 3 + n.val
  | .channel n => 20 + n.val
  | .die n d => 92 + 8 * n.val + d.val
  | .mainmast => 1000
  | .spareCore => 1001
  | .aux => 1002
  | .aon => 1003

/-- A domain back in Trim. -/
def State.wake (s : State) (k : Nat) : State :=
  s.modDom k fun d => { d with state := .trim, wakeAt := none }

/-- The wake hint to the core datapath and the slices (Table REQ-7). -/
def State.wakeHint (s : State) : State :=
  (List.range 18).foldl (fun s i => s.wake (2 + i)) s

end Sys2Proof.Machine
end

