-- ==== Sys2Proof/Machine/SliceOps.lean ====
section
/-! DEFINITION. The shared operations on failing units of the request path and the cache: belay banks
(R58), HBM stacks and pseudo-channels (R21, R84, R85), victim banks (R89) and slices (R95, R96). -/

namespace Sys2Proof.Machine

open Sys2Proof

/-! ## Belay banks -/

/-- A belay index renamed in the reads and sets that answer it. -/
def State.renameBelay (s : State) (i k : Nat) : State :=
  let f (b : Nat) : Nat := if b = i then k else b
  { s with stp := { s.stp with
    reads := Sparse.mapVals s.stp.reads fun r => { r with belays := r.belays.map f }
    sets := Sparse.mapVals s.stp.sets fun t => { t with writer := t.writer.map f } } }

/-- One request of a fenced bank reissued from its copy: the lowest free entry of a bank in service, or the
reissue queue (R58). -/
def State.moveBelay (s : State) (i : Nat) : State :=
  match Sparse.find s.bly.entries i with
  | none => s
  | some b =>
    let s := { s with bly := { s.bly with entries := Sparse.erase s.bly.entries i } }
    let b := { b with window := true }
    match s.freshBelay with
    | some k =>
      ({ s with bly := { s.bly with entries := Sparse.put s.bly.entries k b } }).renameBelay i k
    | none =>
      let st := if b.st = .respond then b.st else .lookup
      { s with
        bly := { s.bly with reissue := s.bly.reissue ++ [{ b with st := st }] }
        stp := { s.stp with reads := Sparse.mapVals s.stp.reads fun r =>
          { r with belays := r.belays.filter (· != i) } } }

/-! ## HBM -/

/-- A mirror slot moved to another place, with every block and victim entry that shares it. -/
def State.moveSlot (s : State) (m k : Nat) : State :=
  match Sparse.find s.cache.mirror m with
  | none => s
  | some x =>
    let f (o : Option Nat) : Option Nat := if o = some m then some k else o
    { s with
      cache := { s.cache with
        mirror := Sparse.put (Sparse.erase s.cache.mirror m) k x
        ways := Sparse.mapVals s.cache.ways fun w => { w with mslot := f w.mslot } }
      vbf := { s.vbf with
        entries := Sparse.mapVals s.vbf.entries fun v => { v with mslot := f v.mslot } } }

/-- The home way of a mirror slot's block; way 0 of slice 0 where none is left. -/
def State.homeOfSlot (s : State) (m : Nat) : Nat :=
  match s.wayOfSlot m with
  | some (key, _) => key
  | none => 0

/-- The mirror slots in a failed unit given new places in what serves (R85). -/
def State.remirror (s : State) : State :=
  s.cache.mirror.foldl
    (fun s e =>
      if s.pcOk (stackOfMirror e.1) (pcOfMirror e.1) then s
      else
        let home := s.homeOfSlot e.1
        match s.freeMirror (sliceOfKey home) (home % 16) with
        | some k => s.moveSlot e.1 k
        | none => s) s

/-- Lines of the ways of failed units that have no other copy are dropped. -/
def State.dropFenced (s : State) : State :=
  s.cache.ways.foldl (fun s e => s.setWay e.1 e.2) s

/-- The HBM source of a pseudo-channel (Table EVT-5). -/
def State.fireHbm (s : State) (stack pc : Nat) (v : Severity) (code value : Nat) : State :=
  s.fire (1132 + 32 * stack + pc) v ⟨stack * 32 + pc, 0, code, value⟩

/-- The media reads that would have filled a way fill none. -/
def State.dropFills (s : State) : State :=
  { s with stp := { s.stp with reads := Sparse.mapVals s.stp.reads fun r => { r with way := none } } }

/-- The content of the whole cache lost with the last stack (R21): victim entries stay. -/
def State.loseCache (s : State) : State :=
  ({ s with
    cache := { s.cache with ways := [], mirror := [], plru := [] }
    vbf := { s.vbf with
      entries := Sparse.mapVals s.vbf.entries fun v => { v with mslot := none } } }).dropFills

/-- A stack in service fails (R85), or the last one does (R21); a new trim plan is due (R364). -/
def State.stackFail (s : State) (stack : Nat) : State :=
  if !bitOf s.cache.stackOk stack then s
  else
    let units := s.charged
    let s := { s with cache := { s.cache with
      stackOk := setBit s.cache.stackOk stack false, stackFailed := setBit s.cache.stackFailed stack true } }
    let s := if s.cache.stackOk = 0#2 then
        s.loseCache.fireHbm stack 0 .critical 2 units
      else (s.dropFenced.remirror).fireHbm stack 0 .fault 2 0
    let s := { s with trm := { s.trm with due := true } }
    (s.settleBudget).settleLevel

/-- A pseudo-channel of a stack serving alone fenced by itself (R84). -/
def State.fencePc (s : State) (stack pc : Nat) : State :=
  let s := { s with cache := { s.cache with
    pcFenced := setBit s.cache.pcFenced (stack * 32 + pc) true } }
  (s.dropFenced.remirror).fireHbm stack pc .fault 1 0

/-- A pseudo-channel that fails takes its stack with it while both serve, and is fenced by itself in a stack
serving alone (R84). -/
def State.pcFails (s : State) (stack pc : Nat) : State :=
  if !s.pcOk stack pc then s
  else if s.cache.stackOk = 0b11#2 then s.stackFail stack
  else s.fencePc stack pc

/-! ## Victim banks -/

/-- A victim entry placed in another bank, with every reference to it. -/
def State.moveVictim (s : State) (i : Nat) : State :=
  match Sparse.find s.vbf.entries i, s.freshVictim with
  | some v, some k =>
    let f (o : Option Nat) : Option Nat := if o = some i then some k else o
    let es := Sparse.put (Sparse.erase s.vbf.entries i) k { v with rebuilding := false }
    { s with
      vbf := { s.vbf with entries := es }
      cache := { s.cache with ways := Sparse.mapVals s.cache.ways fun w =>
        { w with flushing := f w.flushing } }
      stp := { s.stp with
        sets := Sparse.mapVals s.stp.sets fun t =>
          { t with members := t.members.map fun m => if m.1 = i then (k, m.2) else m }
        reads := Sparse.mapVals s.stp.reads fun r =>
          { r with victim := f r.victim, tracker := if r.cls = .prefetch then r.tracker else f r.tracker } } }
  | _, _ => s

/-! ## Slices -/

/-- The tag SRAM bank of a logical slice invalidated (R95). -/
def State.dropTagSram (s : State) (ls : Nat) : State :=
  { s with cache := { s.cache with
    tagSram := s.cache.tagSram.filter fun e => e.1 / 32768 != ls } }

/-- The Clean lines of a logical slice invalidated (R96). -/
def State.dropCleanOfSlice (s : State) (ls : Nat) : State :=
  s.cache.ways.foldl
    (fun s e => if sliceOfKey e.1 = ls ∧ !e.2.held then s.setWay e.1 e.2.fencedLines else s) s

/-- The physical slice that takes the bypass of logical slice `ls`: counted upward from ls XOR 1, the first
that serves no bypass (R96). -/
def State.bypassHost (s : State) (ls : Nat) : Option Nat :=
  (List.range 16).findSome? fun i =>
    match (List.range 17).find? fun n =>
        (s.slice n).serves == some (((ls ^^^ 1) + i) % 16) && (s.slice n).role != .failed with
    | some n => if (s.slice n).bypassFor.isNone then some n else none
    | none => none

/-- A logical slice put into bypass, or left with no slice to serve it (R96). -/
def State.assignBypass (s : State) (ls : Nat) : State :=
  match s.bypassHost ls with
  | some n =>
    (s.modSlice n fun x => { x with bypassFor := some ls, role := .bypassing }).dropCleanOfSlice ls
  | none => { s with cache := { s.cache with unserved := setBit s.cache.unserved ls true } }

/-- Whether CS16 stands by to take over (R95). -/
def State.spareReady (s : State) : Bool :=
  (s.slice 16).role == .idle && (s.slice 16).serves.isNone && s.cache.handover.isNone

/-- The takeover or bypass of one logical slice of a failed physical slice. -/
def State.coverSlice (s : State) (ls : Nat) : State :=
  if s.spareReady then
    (s.modSlice 16 fun x => { x with serves := some ls, role := .active }).dropTagSram ls
  else s.assignBypass ls

/-- A physical slice fails (R95, R96, R98); the requests it holds complete in a fault window. -/
def State.sliceFails (s : State) (n : Nat) : State :=
  let x := s.slice n
  if x.role = .failed then s
  else
    let s := s.modSlice n fun x => { x with role := .failed, serves := none, bypassFor := none }
    let s := match s.cache.handover with
      | some h => if h.out = n ∨ h.inc = n then { s with cache := { s.cache with handover := none } } else s
      | none => s
    let mine (b : Belay) : Bool :=
      x.serves == some (sliceHash (lsnOf b.req.dpa)) && b.st != .respond && b.st != .fill
    let flag (b : Belay) : Belay := if mine b then { b with window := true } else b
    let s := { s with bly := { s.bly with entries := Sparse.mapVals s.bly.entries flag } }
    let s := match x.serves with
      | some ls => s.coverSlice ls
      | none => s
    let s := match x.bypassFor with
      | some ls => s.assignBypass ls
      | none => s
    ((s.fire (1064 + 4 * n + 1) .fault (Detail.ofUnit n)).settleLevel).retryLookups

end Sys2Proof.Machine
end

