-- ==== Sys2Proof/Machine/ResetOps.lean ====
section
/-! DEFINITION. The shared operations of reset: what PON, SYS and CORE reach (R344, Table RST-1), the
hold-off (R349, R350), and the undoing of commands that a restart finds unretired (R279). -/

namespace Sys2Proof.Machine

open Sys2Proof

/-! ## Access paths -/

/-- The number of an access path in the latches. -/
def pathKey : Path → Nat
  | .mainmast => 0
  | .debug => 1
  | .host p => 2 + portIdx p

/-- What an access path holds (R427). -/
def State.latch (s : State) (p : Path) : Latches :=
  Sparse.get Latches.reset s.latches (pathKey p)

/-- `f` on what an access path holds. -/
def State.modLatch (s : State) (p : Path) (f : Latches → Latches) : State :=
  { s with latches := Sparse.modify Latches.reset s.latches (pathKey p) f }

/-! ## Self-test slices cut short (R372, R373) -/

/-- A ticket in a state. -/
def Trm.setTicket (t : Trm) (id : Nat) (f : Ticket → Ticket) : Trm :=
  { t with tickets := t.tickets.map fun x => if x.id = id then f x else x }

/-- The slice in progress ends without having run: its unit returns, its ticket waits again (R373). -/
def State.cutSlice (s : State) : State :=
  match s.trm.slice with
  | none => s
  | some x =>
    let s := if s.kce.owner = .selfTest then s.dropLock else s
    let t := match x.ticket with
      | some id => s.trm.setTicket id fun (k : Ticket) =>
          { k with state := if k.state = TicketState.running then TicketState.waiting else k.state }
      | none => s.trm
    { s with trm := { t with slice := none } }

/-! ## Commands undone by a restart (R279) -/

/-- A background command completed with Retry Required and undone under its own rule; the undo rule of a command
that is not abortable is completion, without the command (R296, R297). -/
def State.undoRetry (s : State) (m : Nat) : State :=
  let x := s.mb m
  let s := s.completeBg m .retryRequired .none .empty
  match x.bgOpcode.toNat with
  | 0x4400 => s.endErase true
  | 0x4401 => s.endErase false
  | 0xC070 => s.endFormat
  | 0xC050 =>
    match x.bgSlot with
    | some k => s.modSlot k fun (y : ModState) => { y with retireMbox := none }
    | none => s
  | 0xC020 => s.sealFails .aborted
  | 0xC021 => s.verifyFails .aborted
  | 0xC051 =>
    match x.bgSlot with
    | some k => s.modSlot k fun (y : ModState) =>
        { y with state := if y.state = SlotSt.waiting then SlotSt.training else y.state, admitMbox := none }
    | none => s
  | _ => s

/-- A mailbox after a restart of the firmware (R279): the completion of a retired command is posted, an
unretired one is undone and completes with Retry Required. -/
def State.settleMailbox (s : State) (m : Nat) : State :=
  let x := s.mb m
  let s := if x.bgActive then
      (if x.bgRetired then s.completeBg m .success .none .empty else s.undoRetry m) else s
  let s := if x.st = .executing ∧ x.opcode = 0xC041#16 then
      { s with log := { s.log with clearPending := none } } else s
  if x.st = .executing then s.refuseRc m .retryRequired else s

/-- Every mailbox after a restart of the firmware. -/
def State.settleMailboxes (s : State) : State :=
  (List.range 5).foldl (fun s m => s.settleMailbox m) s

/-! ## CORE -/

/-- The latest reset recorded in GLB.RESET_CAUSE. -/
def Rst.record (r : Rst) (level : ResetLevel) (source : Nat) : Rst :=
  { r with prevLevel := r.level, prevSource := r.source, level := level, source := BitVec.ofNat 5 source }

/-- Whether a restart after a watchdog expiry boots the other firmware slot (R281). -/
def State.slotSwitches (s : State) (source : Nat) : Bool :=
  let m := s.mst
  let other := Sparse.get FwSlot.empty m.fw (if m.slot then 0 else 1)
  source == 0x08 && other.valid &&
    (if m.alternating then s.elapsed m.switchAt (sec 10) else decide (3 ≤ m.expiryTimes.length))

/-- The severity of a CORE reset (Table EVT-2). -/
def coreSeverity (source : Nat) (switches : Bool) : Severity :=
  if switches then .critical else if source = 0x0A ∨ source = 0x0B then .note else .fault

/-- Mainmast after a CORE reset: the TCM is lost but for the command journal, the chosen configuration runs
again, and the watchdog counts anew (R279, R280, R281). -/
def Mst.coreReset (m : Mst) (switches : Bool) (now : Nat) : Mst :=
  { m with
    running := true, takeover := false, activating := false
    activateMbox := none, banks := [], bank := false, tasks := 0, row := 0
    coreResets := satAdd 0xFF m.coreResets 1
    slot := if switches then !m.slot else m.slot
    alternating := m.alternating || (switches && m.slotSwitched)
    slotSwitched := m.slotSwitched || switches
    switchAt := if switches then now else m.switchAt
    expiryTimes := if switches then [] else m.expiryTimes
    wdPaused := false, kickedAt := now }

/-- Source 1,231 at a configuration put in force (R277, Table EVT-5). -/
def State.fireTakeover (s : State) (row : Nat) : State :=
  s.fire 1231 (if row = 4 then .critical else .fault) ⟨s.mst.lead.getD 0xFF, 0, row, 0⟩

/-- A takeover that had chosen its configuration: the reset puts it in force (R277). -/
def State.forceTakeover (s : State) : State :=
  if !s.mst.takeover || s.mst.row = 0 then s
  else
    State.fireTakeover { s with mst := { s.mst with takeovers := satAdd 0xFF s.mst.takeovers 1 } } s.mst.row

/-- A CORE reset takes effect, and the restarted firmware settles the mailboxes (R247, R279, R344, R357). -/
def State.coreResetNow (s : State) (source : Nat) : State :=
  let sw := s.slotSwitches source
  let s := s.forceTakeover
  let s := { s with
    latches := Sparse.erase s.latches (pathKey .mainmast)
    rst := { s.rst.record .core source with request := none }
    mst := s.mst.coreReset sw s.clock }
  let s := { s with dty := { s.dty with bootLevel := 0x03#8 } }
  let s := (s.bootStage 0x07).cutSlice
  let s := if s.kce.owner = .firmware then s.dropLock else s
  let s := s.fire 1234 (coreSeverity source sw) ⟨b2n s.mst.slot + 1, 0, source, 0⟩
  s.settleMailboxes.settleLevel

/-! ## SYS -/

/-- A port after SYS or PON: configuration locked until PON is kept by SYS; PERST_N is a pin. -/
def PortState.sysReset (x : PortState) : PortState :=
  { PortState.reset with
    lock := x.lock, mode := x.mode, maxWidth := x.maxWidth, maxRate := x.maxRate
    flitLatopt := x.flitLatopt, l0pEn := x.l0pEn, partBase := x.partBase, partSize := x.partSize
    perst := x.perst, perstAt := x.perstAt }

/-- A slice after SYS: what it serves stays as failures left it (R25), a planned handover is undone. -/
def SliceState.sysReset (x : SliceState) (n : Nat) (h : Option Handover) : SliceState :=
  let base := { SliceState.idle with serves := x.serves, bypassFor := x.bypassFor, role := x.role }
  match h with
  | none => base
  | some h =>
    if n = h.out then { base with serves := some h.lslice, role := .active }
    else if n = h.inc then { base with serves := none, role := .idle }
    else base

/-- The staging cache after SYS: emptied; failed units stay out (R25). -/
def Cache.sysReset (c : Cache) : Cache :=
  { Cache.reset with
    stackFailed := c.stackFailed, pcFenced := c.pcFenced, unserved := c.unserved
    slices := (List.range 17).foldl
      (fun m n => Sparse.set SliceState.idle m n
        ((Sparse.get SliceState.idle c.slices n).sysReset n c.handover)) [] }

/-- WLV after a reset: the tables that media holds, the poison list and the leaves to be loaded again. -/
def Wlv.reload (w : Wlv) (key : Option (BitVec 256)) : Wlv :=
  { Wlv.reset with
    wearKey := key, regions := w.regions, remap := w.remap, adoptions := w.adoptions
    leafSeq := w.leafSeq, mediaLeaves := w.mediaLeaves, spareUsed := w.spareUsed
    headUsed := w.headUsed, retired := w.retired, forced := w.forced, frozen := w.frozen
    forcedOut := w.forcedOut, spareLowNoted := w.spareLowNoted, dies := w.dies }

/-- Mainmast after SYS: retired cores and the consumed spare stay out, an offline activation takes its
slot (R25, R282). -/
def Mst.sysReset (m : Mst) : Mst :=
  { Mst.reset with
    unchecked := m.unchecked, lead := m.lead, checker := m.checker, spare := m.spare
    retired := m.retired, slot := m.staged.getD m.slot, takeovers := satAdd 0xFF m.takeovers (b2n (m.takeover && decide (0 < m.row)))
    coreResets := m.coreResets, wdLock := m.wdLock, timeoutMs := m.timeoutMs
    expiries := m.expiries, fw := m.fw }

/-- A module slot after SYS: its rails are kept, MOD_RST_N is asserted, its state is taken again (R447). -/
def ModState.sysReset (x : ModState) : ModState :=
  { ModState.reset with
    state := if x.present then .powering else .empty
    present := x.present, railsOn := x.railsOn, powerGood := x.powerGood }

/-- The sequencer after SYS: its state machine, the rails and the fields kept by Table RST-1. -/
def Seq.sysReset (q : Seq) : Seq :=
  { q with
    railFault := 0#7, railWarn := 0#7, busErrors := 0, autoAdmit := false
    mods := (List.range 18).foldl
      (fun m k => Sparse.set ModState.reset m k (Sparse.get ModState.reset q.mods k).sysReset) []
    brdRst := true, unrespTimes := [] }

/-- The tell-tales after SYS: what the sea chest and the RWS fields keep, and the last measurement. -/
def Tel.sysReset (t : Tel) : Tel :=
  { Tel.reset with
    valid := t.valid, dropoutDv := t.dropoutDv, strings := t.strings, capMf := t.capMf, esr := t.esr
    measuredAt := t.measuredAt, euMj := t.euMj, invalidRun := t.invalidRun, history := t.history
    projectAt := t.projectAt, summaryAt := t.summaryAt, inputHighAt := t.inputHighAt }

/-- The trim plan after SYS: tickets live in the ditty bag (R373), overrides are loaded again at boot. -/
def Trm.sysReset (t : Trm) : Trm :=
  { Trm.reset with
    generation := t.generation, nextTicket := t.nextTicket
    tickets := t.tickets.map fun (k : Ticket) =>
      { k with state := if k.state = TicketState.running then TicketState.waiting else k.state } }

/-- The sea chest after SYS or PON: its flash is untouched, its registers are reset. -/
def Sea.sysReset (x : Sea) : Sea :=
  { Sea.reset with
    recs := x.recs, txn := x.txn, freeBytes := x.freeBytes, activeLog := x.activeLog
    generation := x.generation, otherErased := x.otherErased, erases := x.erases
    counters := x.counters, ctrSlots := x.ctrSlots, extents := x.extents, flash := x.flash
    progs := x.progs }

/-- The global registers after SYS: the timestamp and the scratch registers are kept. -/
def Glb.sysReset (g : Glb) : Glb :=
  { Glb.reset with time := g.time, timeHalf := g.timeHalf, scratch := g.scratch }

/-- Every domain back in Trim; the limit of a late wake stands until PON (R342). -/
def wokenAll (m : Sparse DomSleep) : Sparse DomSleep :=
  Sparse.mapVals (m.filter fun e => e.2.limit != .layUp) fun x => { x with state := .trim, wakeAt := none }

/-- A SYS reset takes effect with a source code of Table RST-2 (R344). A restart from DOWN ends a debug
session and clears every latch; its DEBUG_EXIT is owed to the next boot (R272). -/
def State.sysResetNow (s : State) (source : Nat) : State :=
  let restart := source == 0x03
  { s with
    latches := if restart then [] else s.latches.filter fun e => e.1 == 1
    glb := s.glb.sysReset
    port0 := s.port0.sysReset
    port1 := s.port1.sysReset
    bly := { Bly.reset with fenced := s.bly.fenced }
    cache := s.cache.sysReset
    vbf := { Vbf.reset with fenced := s.vbf.fenced }
    stp := { Stp.reset with parityFailed := s.stp.parityFailed, gapSeq := s.stp.gapSeq }
    wlv := { s.wlv.reload s.media.wearKey with
      lock := s.wlv.lock, sgShift := s.wlv.sgShift, retireUnits := s.wlv.retireUnits }
    mch := []
    shr := { Shr.reset with enginesFenced := s.shr.enginesFenced }
    kce := { Kce.reset with coreLFenced := s.kce.coreLFenced, coreGFenced := s.kce.coreGFenced }
    mst := s.mst.sysReset
    hly := Hly.reset
    seq := s.seq.sysReset
    reef := { Reef.reset with failed := s.reef.failed }
    clk := { s.clk with sleep := wokenAll s.clk.sleep, dpStopped := false }
    rst := { s.rst.record .sys source with
      sysCount := satAdd 0xFF s.rst.sysCount 1
      request := none, datapath := false, filled := false, darn := false, bootAt := s.clock
      mediaUpAt := none, booted := false }
    tel := s.tel.sysReset
    trm := s.trm.sysReset
    log := { Logb.reset with archive := s.log.archive }
    sea := s.sea.sysReset
    dty := { s.dty with
      bootLevel := 0x02#8, dbgOwed := s.dty.dbgOwed || (restart && s.dbg.granted) }
    evt := Evt.reset
    pmu := Pmu.reset
    dbg := if restart then { s.dbg with granted := false, entering := false } else s.dbg }

/-! ## PON -/

/-- What survives a PON: media, the sea chest, the firmware slots, and what the host or the board holds. -/
def State.ponResetNow (s : State) (source : Nat) : State :=
  { State.reset with
    pending := s.pending
    clock := s.clock
    draws := s.draws
    access := s.access
    port0 := { PortState.reset with perst := s.port0.perst, perstAt := s.port0.perstAt }
    port1 := { PortState.reset with perst := s.port1.perst, perstAt := s.port1.perstAt }
    stp := { Stp.reset with gapSeq := s.stp.gapSeq }
    wlv := s.wlv.reload s.media.wearKey
    media := s.media
    mst := { Mst.reset with slot := s.mst.staged.getD s.mst.slot, fw := s.mst.fw }
    hly := Hly.reset
    rst := { Rst.reset with source := BitVec.ofNat 5 source }
    tel := { Tel.reset with history := s.tel.history }
    log := { Logb.reset with archive := s.log.archive }
    sea := s.sea.sysReset }

/-- The sectors that running programs leave torn when a PON cannot be held off (R349). -/
def State.tornNow (s : State) : List Nat :=
  s.stp.progs.filterMap fun e =>
    match e.2.data with
    | .sector l _ => if e.2.status = .running then some l else none
    | .parity _ _ _ => none

/-! ## Hold-off (R349, R350) -/

/-- A reset request whose hold-off begins, the ports stopped. -/
def State.holdRequest (s : State) (r : ResetReq) : State :=
  { s with
    rst := { s.rst with request := some { r with afterRun := false } }
    glb := { s.glb with admitOpen := false } }

/-- The hold-off of a pending reset begins in RUN: the ports stop accepting, and the dump runs if a unit is
charged (R102, R349). -/
def State.beginHoldOff (s : State) : State :=
  match s.rst.request with
  | none => s
  | some r =>
    if r.level = .core ∨ s.seq.state ≠ .run then s
    else
      let s := s.holdRequest r
      if 0 < s.charged then s.dumpStart else s

/-- A request of a level with a source: a higher one overrides; one that meets a shutdown waits (R350). -/
def State.requestReset (s : State) (level : ResetLevel) (source : Nat) : State :=
  let rank : ResetLevel → Nat
    | .none => 0
    | .core => 1
    | .sys => 2
    | .pon => 3
  let higher := match s.rst.request with
    | some r => decide (rank r.level < rank level)
    | none => true
  if !higher then s
  else
    let waits := s.seq.state == .dump || s.seq.state == .hold || s.seq.state == .resume ||
      s.seq.state == .strike
    let s := { s with rst := { s.rst with request := some ⟨level, source, waits⟩ } }
    s.beginHoldOff

/-- The configuration of Mainmast is chosen: no takeover runs, or it is past its choice (R277). -/
def State.configSettled (s : State) : Bool := !s.mst.takeover || decide (0 < s.mst.row)

/-- The steps of R349 are done. -/
def State.holdOffDone (s : State) : Bool :=
  (s.seq.state == .run || s.seq.state == .ramp) && (s.charged == 0 || s.dumpSealed) &&
    s.wlv.poisonDirty.isEmpty && s.configSettled && s.diesQuiet

/-! ## Entry to DOWN and the restart from it (R320 to R322) -/

/-- A media channel without power. -/
def Mch.powerOff (c : Mch) : Mch := { c with linkUp := false, train := 0b00#2 }

/-- SEQ enters DOWN: every device rail off, and with them every clock, link and core; the power-off ends a
debug session, whose DEBUG_EXIT is owed to the next boot (R272, R320). -/
def State.enterDown (s : State) : State :=
  { s with
    seq := { s.seq with
      state := .down, railsEn := 0#7, railIn := 0#7, downAt := s.clock, stable := false, dumpDoneAt := none }
    clk := { s.clk with dpllLock := 0#2, mpllLock := false, dpStopped := false }
    rst := { s.rst with datapath := false, filled := false, booted := false }
    mst := { s.mst with running := false, released := false, takeover := false, activating := false }
    port0 := { s.port0.dropLink with released := false }
    port1 := { s.port1.dropLink with released := false }
    mch := Sparse.mapVals s.mch Mch.powerOff
    glb := { s.glb with
      memoryActive := false, admitOpen := false, dumping := false, level := .outOfService }
    dty := { s.dty with dbgOwed := s.dty.dbgOwed || s.dbg.granted }
    dbg := { s.dbg with granted := false, entering := false } }

/-- Modules that lost their rails. -/
def State.railsOff (s : State) : State :=
  { s with seq := { s.seq with
    mods := Sparse.mapVals s.seq.mods fun x => { x with railsOn := false, powerGood := false } } }

/-- SEQ enters RAMP on a stable input (R312): a restart is a SYS with code 0x03, or takes the code of a
request that waited (R345, R350); a waiting PON takes effect instead. -/
def State.powerUp (s : State) : State :=
  match s.rst.request with
  | some ⟨.pon, src, _⟩ => s.ponResetNow src
  | r =>
    let src := match r with
      | some ⟨.sys, c, _⟩ => c
      | _ => 0x03
    let fresh := { s with rst := { s.rst with request := none } }
    let s := if s.seq.started then
        (let t := fresh.sysResetNow 0x03
         { t with rst := { t.rst with source := BitVec.ofNat 5 src } })
      else fresh
    { s with seq := { s.seq with
      state := .ramp, started := true, railsEn := 0b1#7, railIn := 0#7, rampNext := 0 } }

end Sys2Proof.Machine
end

