-- ==== Sys2Proof/Machine/Power.lean ====
section
/-! DEFINITION. The commands of the sequencer: rails and input supervision, shutdown and strike point, the
power-down and the power-up, the sequencer bus and the reset outputs (R308 to R328, R446). -/

namespace Sys2Proof.Machine

open Sys2Proof

/-! ## Rails and input (R309, R311, R312) -/

/-- A rail that is enabled and in its fault window: meant to be up. -/
def Seq.railUp (q : Seq) (r : Nat) : Bool := bitOf q.railsEn r && bitOf q.railIn r

/-- RAIL_WARNING: a rail leaves its warning window while meant to be up (R309). -/
def execRailWarning (r : Fin 7) (s : State) : Out :=
  .next (if !s.seq.railUp r.val then s
    else
      ({ s with seq := { s.seq with railWarn := setBit s.seq.railWarn r.val true } }).fireSub 1256
        (r.val + 1) .warn (Detail.ofUnit r.val))

/-- RAIL_FAULT: a rail leaves its fault window; in RUN a shutdown starts (R309, R314). -/
def execRailFault (r : Fin 7) (s : State) : Out :=
  .next (if !s.seq.railUp r.val then s
    else
      let s := { s with seq := { s.seq with
        railFault := setBit s.seq.railFault r.val true, railIn := setBit s.seq.railIn r.val false } }
      let s := if s.seq.state = .ramp ∨ s.seq.state = .strike then s
        else s.fire 1257 .fault (Detail.ofUnit r.val)
      s.shutdown .railFault)

/-- OVER_VOLTAGE: the filtered input above 13.2 V, recorded once an hour (R311). -/
def execOverVoltage (s : State) : Out :=
  .next (
    let s := { s with seq := { s.seq with overVolt := true, belowStrike := false, warn := false } }
    if s.elapsedOpt s.seq.overAt (hours 1) then
      ({ s with seq := { s.seq with overAt := some s.clock } }).fire 1260 .warn Detail.none
    else s)

/-- Whether RAMP may start from DOWN (R312, R320, R322): the always-on domain released, fewer than three
failures, and 1 s since DOWN after a failed RAMP. -/
def State.mayRamp (s : State) : Bool :=
  s.seq.state == .down && s.rst.aon && s.seq.stable && !s.seq.rampBlocked &&
    (s.seq.rampFails == 0 || s.elapsed s.seq.downAt (sec 1))

/-- INPUT_STABLE: at or above 11.4 V for 100 ms with SHDN_REQ_N high; power-up from DOWN (R311, R312). -/
def execInputStable (s : State) : Out :=
  .next (
    let s := { s with seq := { s.seq with
      stable := true, atResume := true, warn := false, belowStrike := false, shdn := false } }
    if s.mayRamp then s.powerUp else s)

/-! ## Shutdown (R314 to R319) -/

/-- A new warning during RESUME: the dump runs again with the next epoch (Table PWR-4, R115). -/
def State.warnInResume (s : State) : State :=
  let s := { s with
    glb := { s.glb with dumping := false }
    seq := { s.seq with state := .dump, cause := .warning, shutAt := s.clock, dumpDoneAt := none } }
  s.dumpStart

/-- POWER_FAIL_WARNING: the filtered input below 10.8 V (R314, R315, R322). -/
def execPowerFailWarning (s : State) : Out :=
  .next (
    let s := { s with
      seq := { s.seq with warn := true, stable := false, atResume := false, overVolt := false }
      tel := { s.tel with inputHighAt := none } }
    match s.seq.state with
    | .run => s.shutdown .warning
    | .ramp => s.enterDown.railsOff
    | .resume => s.warnInResume
    | .down => { s with seq := { s.seq with rampFails := 0, rampBlocked := false } }
    | _ => s)

/-- SHUTDOWN_REQUEST: filtered SHDN_REQ_N low (R314, R360). -/
def execShutdownRequest (s : State) : Out :=
  .next (
    let s := { s with seq := { s.seq with shdn := true, stable := false } }
    s.holdupAbort.shutdown .shdn)

/-- OVER_TEMPERATURE: a controller sensor at or above 115 °C for 1 ms (R314, R446). -/
def execOverTemperature (sensor : Fin 16) (tempC : Nat) (s : State) : Out :=
  .next (if tempC < 115 ∨ s.seq.state ≠ .run then s
    else (s.fire 1011 .critical ⟨sensor.val, 0, 1, tempC⟩).shutdown .overTemp)

/-- A strike point of R316 beside the dump's own completion: the strike threshold, 2 ms of HOLD, or 20 ms
of shutdown. -/
def State.strikeReached (s : State) (below : Bool) : Bool :=
  below || s.elapsed s.seq.shutAt (ms 20) ||
    (s.seq.state == .hold && s.elapsedOpt s.seq.dumpDoneAt (ms 2))

/-- STRIKE_POINT: SEQ enters STRIKE; a dump not complete stops where it stands (R316, R320, R321). -/
def execStrikePoint (below : Bool) (pages : Nat) (s : State) : Out :=
  .next (
    let s := { s with seq := { s.seq with belowStrike := s.seq.belowStrike || below } }
    if s.seq.state ≠ .dump ∧ s.seq.state ≠ .hold then s
    else if s.strikeReached below then (s.dumpStops pages).enterStrike
    else s)

/-- RESUME_QUALIFIED: 2 ms at or above 11.4 V before the strike point of a warning's shutdown (R319). -/
def execResumeQualified (s : State) : Out :=
  .next (if (s.seq.state ≠ .dump ∧ s.seq.state ≠ .hold) ∨ s.seq.cause ≠ .warning ∨
      s.seq.epochTaken = 0xFFFFFFFF ∨ s.strikeReached false then s
    else { s with seq := { s.seq with state := .resume, atResume := true, warn := false } })

/-- The µs that the device spent out of RUN. -/
def State.outOfRun (s : State) : Nat := (s.clock - s.seq.shutAt) / 2000

/-- ABANDON_CONFIRMED: the ABANDON pages are confirmed; admission reopens and SEQ enters RUN (R115, R319). -/
def execAbandonConfirmed (s : State) : Out :=
  .next (if s.seq.state ≠ .resume ∨ !s.diesQuiet then s
    else
      let e : Epoch := ⟨s.seq.epochTaken, [], [], false, true, 0⟩
      let s := { s with
        media := { s.media with journal := some e }
        seq := { s.seq with state := .run, dumpDoneAt := none } }
      let s := s.reopen.fire 1261 .warn
        { Detail.none with addr := s.seq.epochTaken, code := 0x10, value := s.outOfRun }
      let s := if s.seq.shdn then s.shutdown .shdn else s
      s.beginHoldOff)

/-! ## Power-down (R320, R321, R323) -/

/-- MOD_RST_N is asserted to every present module (R321, step 4). -/
def State.allModReset (s : State) : Bool :=
  (List.range 18).all fun k => !(s.slot k).present || (s.slot k).rst

/-- The group Soft Off (R310, R321): skipped while the bus is failed (Table PWR-7). -/
def State.softOff (s : State) : State := if s.seq.busFailed then s else s.railsOff

/-- The highest rail still enabled: the next in the down order of Table PWR-1. -/
def Seq.topRail (q : Seq) : Option Nat :=
  ((List.range 7).map fun i => 6 - i).find? fun r => bitOf q.railsEn r

/-- RAIL_DISABLE_STEP: the next rail is disabled; after the last SEQ enters DOWN (R321). -/
def execRailDisableStep (s : State) : Out :=
  .next (if s.seq.state ≠ .strike ∨ !s.allModReset then s
    else
      let s := s.softOff
      match s.seq.topRail with
      | none => s.enterDown
      | some r =>
        let en := setBit s.seq.railsEn r false
        let s := { s with seq := { s.seq with railsEn := en, railIn := setBit s.seq.railIn r false } }
        if en = 0#7 then s.enterDown else s)

/-- An event in DTY.PWR_EVENT, if none stands there. -/
def State.powerEvent (s : State) (phase rail slot timeUs : Nat) : State :=
  if s.dty.evValid then s
  else { s with dty := { s.dty with
    evValid := true, evPhase := BitVec.ofNat 3 phase, evRail := BitVec.ofNat 4 rail
    evSlot := BitVec.ofNat 5 slot, evTime := BitVec.ofNat 16 (min 0xFFFF timeUs) } }

/-- POWERDOWN_RAIL_FAIL: the device rails still enabled go off at once; a module whose own rail failed is
dropped (R323). -/
def execPowerdownRailFail (what : DownFail) (timeUs : Nat) (s : State) : Out :=
  .next (if s.seq.state ≠ .strike then s
    else
      let drop (s : State) : State :=
        { s with seq := { s.seq with railsEn := 0#7, railIn := 0#7 } }
      match what with
      | .device r =>
        if !s.seq.railUp r.val then s
        else
          let s := { s with seq := { s.seq with railFault := setBit s.seq.railFault r.val true } }
          drop (s.powerEvent 2 r.val 0x1F timeUs)
      | .module k =>
        if !(s.slot k.val).railsOn then s
        else
          let s := s.modSlot k.val fun x => { x with railsOn := false, powerGood := false }
          drop (s.powerEvent 2 0x8 k.val timeUs))

/-! ## Power-up (R322, R324) -/

/-- The group OPERATION On to every module that passed its identity check (Table PWR-5). -/
def State.groupOn (s : State) : State :=
  if s.seq.busFailed then s
  else { s with seq := { s.seq with
    mods := Sparse.mapVals s.seq.mods fun (x : ModState) =>
      if x.present && x.ident.isSome && x.state == SlotSt.powering then { x with railsOn := true } else x } }

/-- SEQ enters RUN: bring-up begins (Table PWR-4). A SHDN_REQ_N that is low shuts the device down again. -/
def State.enterRun (s : State) : State :=
  let s := { s with seq := { s.seq with state := .run, rampFails := 0 } }
  let s := (s.bootStage 0x02).groupOn
  let s := if s.seq.shdn then s.shutdown .shdn else s
  s.beginHoldOff

/-- RAIL_IN_WINDOW: a rail comes into window; the next is enabled, or RUN is entered (R324). -/
def execRailInWindow (r : Fin 7) (s : State) : Out :=
  .next (if s.seq.state ≠ .ramp ∨ r.val ≠ s.seq.rampNext ∨ !bitOf s.seq.railsEn r.val then s
    else
      let q := { s.seq with railIn := setBit s.seq.railIn r.val true }
      if r.val = 6 then State.enterRun { s with seq := q }
      else { s with seq := { q with
        rampNext := r.val + 1, railsEn := setBit q.railsEn (r.val + 1) true } })

/-- RAMP_RAIL_FAIL: every rail enabled is dropped, the event noted, DOWN entered; the third failure blocks a
restart (R322). -/
def execRampRailFail (r : Fin 7) (timeUs : Nat) (s : State) : Out :=
  .next (if s.seq.state ≠ .ramp ∨ !bitOf s.seq.railsEn r.val then s
    else
      let s := s.powerEvent 1 r.val 0x1F timeUs
      let s := { s with seq := { s.seq with
        railFault := setBit s.seq.railFault r.val true
        rampFails := s.seq.rampFails + 1
        rampBlocked := s.seq.rampBlocked || decide (2 ≤ s.seq.rampFails) } }
      let stable := s.seq.stable
      let s := s.enterDown.railsOff
      { s with seq := { s.seq with stable := stable } })

/-- RAMP_RETRY: a restart at least 1 s after a failed RAMP (R322). -/
def execRampRetry (s : State) : Out :=
  .next (if s.seq.rampFails = 0 ∨ !s.mayRamp then s else s.powerUp)

/-! ## The sequencer bus (R325 to R327) -/

/-- The bus fails (Table PWR-7). -/
def State.busFails (s : State) : State :=
  if s.seq.busFailed then s
  else
    (({ s with seq := { s.seq with busFailed := true } }).fire 1259 .fault Detail.none).settleLevel

/-- A waiting Module Retire or Module Admit for a slot completes with MODULE_STATE (Table PWR-7). -/
def State.endSlotCommands (s : State) (k : Nat) : State :=
  let x := s.slot k
  let finish (s : State) (m : Option Mbox) : State :=
    match m with
    | some m => s.completeBg m.val Vendor.moduleState.rc .moduleState .empty
    | none => s
  let s := finish (finish s x.retireMbox) x.admitMbox
  s.modSlot k fun x => { x with retireMbox := none, admitMbox := none }

/-- A failed transaction counted, and the third retry that fails (Table PWR-7). -/
def State.busError (s : State) (k : Nat) : State :=
  let s := { s with seq := { s.seq with busErrors := satAdd 0x1FFF s.seq.busErrors 1 } }
  let n := (s.slot k).retries + 1
  let s := s.modSlot k fun x => { x with retries := if n < 4 then n else 0 }
  if n < 4 ∨ bitOf s.seq.unresponsive k then s
  else
    let times := s.clock :: s.seq.unrespTimes.filter fun t => decide (s.clock < t + ms 100)
    let s := { s with seq := { s.seq with
      unresponsive := setBit s.seq.unresponsive k true, unrespTimes := times } }
    let s := (s.fire 1258 .fault (Detail.ofUnit k)).endSlotCommands k
    if 3 ≤ times.length then s.busFails else s

/-- BUS_TRANSACTION_ERROR: a transaction fails; a line low 2 ms after the bus clear fails the bus (R327). -/
def execBusTransactionError (k : Slot) (_why : BusErr) (stuckLow : Bool) (s : State) : Out :=
  .next (if s.seq.busFailed ∨ 0 < (s.slot k.val).retries then s
    else
      let s := s.busError k.val
      if stuckLow then s.busFails else s)

/-- BUS_RETRY: a retry of a failed transaction (R327). -/
def execBusRetry (k : Slot) (ok : Bool) (s : State) : Out :=
  .next (if s.seq.busFailed ∨ (s.slot k.val).retries = 0 then s
    else if ok then s.modSlot k.val fun x => { x with retries := 0 }
    else s.busError k.val)

/-- UNRESPONSIVE_RETRY: a marked slave retried every 1 s (R327). -/
def execUnresponsiveRetry (k : Slot) (answered : Bool) (s : State) : Out :=
  .next (if !bitOf s.seq.unresponsive k.val then s
    else if answered then
      ({ s with seq := { s.seq with
        unresponsive := setBit s.seq.unresponsive k.val false } }).fire 1258 .note (Detail.ofUnit k.val)
    else { s with seq := { s.seq with busErrors := satAdd 0x1FFF s.seq.busErrors 1 } })

/-- BUS_CLEAR_RETRY: a failed bus cleared again every 1 s (R327). -/
def execBusClearRetry (recovered : Bool) (s : State) : Out :=
  .next (if !s.seq.busFailed ∨ !recovered then s
    else
      (({ s with seq := { s.seq with busFailed := false, unrespTimes := [] } }).fire 1259 .note
        Detail.none).settleLevel)

/-- MODULE_TEMP_READ: the highest sensor of a module (R325), and the time since which it has read below
80 °C (R332). -/
def execModuleTempRead (k : Slot) (tempC : Byte) (s : State) : Out :=
  .next (if !(s.slot k.val).present ∨ s.seq.busFailed ∨ bitOf s.seq.unresponsive k.val then s
    else s.modSlot k.val fun x => { x with
      tempMax := tempC
      coolSince := if tempC.toInt < 80 then (if x.coolSince.isSome then x.coolSince else some s.clock)
        else none })

/-- STATUS_WORD_POLL: power good read in POWERING (R310, R325). -/
def execStatusWordPoll (k : Slot) (powerGood : Bool) (s : State) : Out :=
  .next (if (s.slot k.val).state ≠ .powering ∨ !(s.slot k.val).railsOn ∨ s.seq.busFailed then s
    else s.modSlot k.val fun x => { x with powerGood := powerGood })

/-! ## Reset outputs (R328) -/

/-- RESET_STRETCH_END: a reset output deasserts once its cause has ended and its stretch has run; a module
enters TRAINING (R213, R324, R328). -/
def execResetStretchEnd (out : RstOut) (s : State) : Out :=
  .next (if s.seq.state ≠ .run then s
    else
      match out with
      | .board => { s with seq := { s.seq with brdRst := false } }
      | .module k =>
        let x := s.slot k.val
        if x.state = .powering ∧ x.powerGood ∧ s.rst.datapath then
          s.modSlot k.val fun x => { x with rst := false, state := .training }
        else s)

end Sys2Proof.Machine
end

