-- ==== Sys2Proof/Machine/SettingsOps.lean ====
section
/-! DEFINITION. The settings that a Sea Chest Store keeps (R299, Table HCMD-5): the payload of each store
group and its loading at boot (R42, R299, R317, R361, R367). The bytes of a group's payload are this
model's own (log entry 24). -/

namespace Sys2Proof.Machine

open Sys2Proof

/-! ## Overrides (group 3) -/

/-- The payload of the overrides: their margins and values, six bytes each. -/
def overridesPayload (m : Sparse Int) : List Byte :=
  (m.map fun e => leBytes 2 e.1 ++ bytesOf 4 (BitVec.ofInt 32 e.2)).flatten

/-- The overrides of a payload. -/
def overridesOf (p : List Byte) : Sparse Int :=
  (List.range (p.length / 6)).foldl
    (fun m i => Sparse.put m (leField p (6 * i) 2) (BitVec.ofNat 32 (leField p (6 * i + 2) 4)).toInt) []

/-! ## Payloads of the groups -/

/-- Mode, rates, widths and partition of a port (group 0). -/
def portPayload (x : PortState) : List Byte :=
  leBytes 1 x.mode.toNat ++ leBytes 1 x.maxWidth.toNat ++ leBytes 1 x.maxRate.toNat ++
    leBytes 1 (b2n x.flitLatopt + 2 * b2n x.l0pEn) ++ leBytes 4 x.partBase.toNat ++ leBytes 4 x.partSize.toNat

/-- A port with the settings of a payload at an offset. -/
def portSettings (x : PortState) (p : List Byte) (o : Nat) : PortState :=
  { x with
    mode := definedVec 0 2 (leField p o 1) x.mode
    maxWidth := definedVec 0 2 (leField p (o + 1) 1) x.maxWidth
    maxRate := definedVec 0 2 (leField p (o + 2) 1) x.maxRate
    flitLatopt := leField p (o + 3) 1 % 2 == 1
    l0pEn := leField p (o + 3) 1 / 2 % 2 == 1
    partBase := BitVec.ofNat 20 (leField p (o + 4) 4)
    partSize := BitVec.ofNat 21 (leField p (o + 8) 4) }

/-- The thresholds of a port (group 6). -/
def devloadPayload (x : PortState) : List Byte := [x.severe, x.moderate, x.optimal]

/-- A port with the thresholds of a payload at an offset. -/
def devloadSettings (x : PortState) (p : List Byte) (o : Nat) : PortState :=
  { x with
    severe := BitVec.ofNat 8 (leField p o 1)
    moderate := BitVec.ofNat 8 (leField p (o + 1) 1)
    optimal := BitVec.ofNat 8 (leField p (o + 2) 1) }

/-- The alert configuration (group 7). -/
def alertPayload (a : AlertCfg) : List Byte :=
  leBytes 4 a.lifeUsed ++ bytesOf 4 (BitVec.ofInt 32 a.overC) ++ bytesOf 4 (BitVec.ofInt 32 a.underC) ++
    leBytes 4 a.volatileErrs ++ leBytes 4 a.persistentErrs

/-- The alert configuration of a payload. -/
def alertOf (p : List Byte) : AlertCfg :=
  ⟨leField p 0 4, (BitVec.ofNat 32 (leField p 4 4)).toInt, (BitVec.ofNat 32 (leField p 8 4)).toInt,
    leField p 12 4, leField p 16 4⟩

/-- The payload of a store group (Table HCMD-5). -/
def State.groupPayload (s : State) (b : Nat) : List Byte :=
  match b with
  | 0 => portPayload s.port0 ++ portPayload s.port1
  | 1 => leBytes 1 s.hly.smbAddr.toNat
  | 2 => leBytes 2 s.reef.budgetW
  | 3 => overridesPayload s.trm.overrides
  | 4 => leBytes 1 (b2n s.seq.autoAdmit)
  | 5 => leBytes 1 (b2n s.stp.scrubEnable) ++ leBytes 1 s.stp.passDays ++ leBytes 1 s.stp.passLog2 ++
      leBytes 1 s.stp.rewriteBucket ++ leBytes 1 s.stp.rebuildRate
  | 6 => devloadPayload s.port0 ++ devloadPayload s.port1
  | 7 => alertPayload s.hly.alertCfg
  | 8 => leBytes 2 s.mst.timeoutMs
  | 9 => leBytes 1 s.wlv.sgShift ++ leBytes 2 s.wlv.retireUnits
  | _ => leBytes 1 (b2n s.hly.shutdownClean)

/-- A store group loaded from its payload; an encoding that a field does not define leaves it (R8). -/
def State.loadGroup (s : State) (b : Nat) (p : List Byte) : State :=
  match b with
  | 0 => { s with port0 := portSettings s.port0 p 0, port1 := portSettings s.port1 p 12 }
  | 1 => { s with hly := { s.hly with smbAddr := BitVec.ofNat 7 (leField p 0 1) } }
  | 2 => { s with reef := { s.reef with budgetW := defined 100 280 (leField p 0 2) s.reef.budgetW } }
  | 3 => { s with trm := { s.trm with overrides := overridesOf p } }
  | 4 => { s with seq := { s.seq with autoAdmit := leField p 0 1 == 1 } }
  | 5 => { s with stp := { s.stp with
      scrubEnable := leField p 0 1 == 1
      passDays := defined 1 60 (leField p 1 1) s.stp.passDays
      passLog2 := defined 20 23 (leField p 2 1) s.stp.passLog2
      rewriteBucket := defined 16 21 (leField p 3 1) s.stp.rewriteBucket
      rebuildRate := defined 1 48 (leField p 4 1) s.stp.rebuildRate } }
  | 6 => { s with port0 := devloadSettings s.port0 p 0, port1 := devloadSettings s.port1 p 3 }
  | 7 => { s with hly := { s.hly with alertCfg := alertOf p } }
  | 8 => { s with mst := { s.mst with timeoutMs := defined 100 5000 (leField p 0 2) s.mst.timeoutMs } }
  | 9 => { s with wlv := { s.wlv with
      sgShift := defined 8 14 (leField p 0 1) s.wlv.sgShift
      retireUnits := defined 1024 4094 (leField p 1 2) s.wlv.retireUnits } }
  | _ => { s with hly := { s.hly with shutdownClean := leField p 0 1 == 1 } }

/-- The fields of a store group are locked, so that a load into them is ignored (R431). -/
def State.groupLocked (s : State) (b : Nat) : Bool :=
  match b with
  | 0 => s.port0.lock
  | 8 => s.mst.wdLock
  | 9 => s.wlv.lock
  | _ => false

/-- The lock of the fields that a load has set (R431, log entry 30). The ports' lock is set apart, at every
boot (R42). -/
def State.lockGroup (s : State) (b : Nat) : State :=
  match b with
  | 8 => { s with mst := { s.mst with wdLock := true } }
  | 9 => { s with wlv := { s.wlv with lock := true } }
  | _ => s

/-- A store group loaded where the sea chest holds it and its fields are not locked. -/
def State.loadStored (s : State) (b : Nat) : State :=
  match s.sea.value (recGroup b) with
  | some p => if s.groupLocked b then s else (s.loadGroup b p).lockGroup b
  | none => s

/-- The stored groups loaded at a boot (R299, R367, R431). -/
def State.loadSettings (s : State) : State := (List.range 11).foldl State.loadStored s

/-! ## Margins that describe the board (R317, R361, R367) -/

/-- The margins of an override applied to the registers of the hold-up bank. -/
def State.applyBank (s : State) : State :=
  let o := s.trm.overrides
  let pick (id dflt : Nat) : Nat :=
    match Sparse.find o id with
    | some v => v.toNat
    | none => dflt
  { s with tel := { s.tel with
    intervalH := defined 1 168 (pick 0x0002 s.tel.intervalH) s.tel.intervalH
    strings := defined 1 8 (pick 0x0003 s.tel.strings) s.tel.strings
    dropoutDv := defined 80 100 (pick 0x0004 s.tel.dropoutDv) s.tel.dropoutDv } }

/-- The strike threshold taken from margin 0x0005 and locked (R317). -/
def State.applyStrike (s : State) : State :=
  let v := match Sparse.find s.trm.overrides 0x0005 with
    | some v => v.toNat
    | none => 90
  if s.seq.strikeLock then s
  else { s with seq := { s.seq with
    strikeDv := definedVec 86 100 v s.seq.strikeDv, strikeLock := true } }

end Sys2Proof.Machine
end

