-- ==== Sys2Proof/Machine/ModuleOps.lean ====
section
/-! DEFINITION. The shared operations of the module slots: the membership record (R447), a module that fails
or leaves (R213, R214, R221), admission (R216), and the state that a trained module takes at bring-up. -/

namespace Sys2Proof.Machine

open Sys2Proof

/-! ## Slots, channels and events -/

/-- The slot source of a module (Table EVT-2). -/
def slotSrc (k : Nat) : Nat := 1238 + k

/-- The slot's source for a state entered (Table EVT-5). -/
def State.fireSlot (s : State) (k : Nat) (v : Severity) (st : SlotSt) : State :=
  s.fire (slotSrc k) v ⟨k, 0, 0x10 + st.code, 0⟩

/-- Source `i` of a channel (Table EVT-1). -/
def chanSrc (ch i : Nat) : Nat := 14 * ch + i

/-- A channel that carries commands: link up and trained, not retraining. -/
def Mch.up (c : Mch) : Bool := c.linkUp && c.train == 0b11#2 && !c.failed

/-! ## The media-set membership record (R447) -/

/-- The record of a slot rewritten in every copy before a change takes effect. -/
def State.setMember (s : State) (k : Nat) (st : Standing) : State :=
  let serial := match (s.slot k).ident with
    | some i => i.serial
    | none =>
      match Sparse.find s.media.members k with
      | some m => m.serial
      | none => 0#64
  { s with media := { s.media with
    members := Sparse.put s.media.members k ⟨serial, st⟩, memberGen := s.media.memberGen + 1 } }

/-- A slot recorded out, where the set knows it. -/
def State.memberOut (s : State) (k : Nat) : State :=
  if (Sparse.find s.media.members k).isSome then s.setMember k .out else s

/-- What the record says of the module in a slot: its standing, if the module is the one recorded there and
carries the set's identifier. -/
def State.standing (s : State) (k : Nat) : Option Standing :=
  match (s.slot k).ident, Sparse.find s.media.members k with
  | some i, some m =>
    if i.serial = m.serial ∧ some i.setId = s.media.setId then some m.standing else none
  | _, _ => none

/-! ## Work caught in a module (R214) -/

/-- Whether a die sits on a module's channels. -/
def onModule (k ch : Nat) : Bool := ch / 4 == k

/-- Requests caught complete in a fault window (R16). -/
def State.flagWindow (s : State) (belays : List Nat) : State :=
  belays.foldl (fun s i => s.modBelay i fun b => { b with window := true }) s

/-- Reads that a module's loss catches wait to be routed afresh; merge reads are ended by their own command. -/
def State.rerouteReads (s : State) (hit : ReadOp → Bool) : State :=
  let caught := s.stp.reads.filter fun e => !e.2.merges && e.2.status != .done && hit e.2
  let s := caught.foldl (fun s e => s.flagWindow e.2.belays) s
  let again (r : ReadOp) : ReadOp :=
    { r with
      status := .queued, dual := false, direct := false, around := false
      members := [], confirmed := [], failed := [], tag := 0, resends := 0 }
  let f (e : Nat × ReadOp) : Nat × ReadOp :=
    if caught.any (fun c => c.1 == e.1) then (e.1, again e.2) else e
  { s with stp := { s.stp with reads := s.stp.reads.map f } }

/-- The programs of lost dies end without confirmation (R214): their sets complete on the other members. -/
def State.dropPrograms (s : State) (hit : Prog → Bool) : State :=
  let gone := (s.stp.progs.filter fun e => hit e.2).map Prod.fst
  { s with stp := { s.stp with
    progs := s.stp.progs.filter fun e => !gone.contains e.1
    sets := Sparse.mapVals s.stp.sets fun t =>
      { t with
        outstanding := t.outstanding.filter fun i => !gone.contains i
        sent := t.sent || t.outstanding.any fun i => gone.contains i } } }

/-- A channel whose link is gone. -/
def Mch.dropLink (c : Mch) : Mch :=
  { c with linkUp := false, train := 0b00#2, diesReady := 0#8, trained := false, trainFails := 0 }

/-- The channels of a module lose their links; those that were up report it (Table EVT-1). -/
def State.loseLinks (s : State) (k : Nat) : State :=
  (channelsOf k).foldl
    (fun s n =>
      let was := (s.ch n).linkUp
      let s := s.modCh n Mch.dropLink
      if was then s.fire (chanSrc n 0) .fault Detail.none else s) s

/-! ## Failure (R214, R221) -/

/-- The Halyard commands that wait for a slot: a retirement ends with MODULE_FAILED (R304), an admission with
MODULE_STATE. -/
def State.endRetire (s : State) (k : Nat) (v : Vendor) : State :=
  let x := s.slot k
  let s := match x.retireMbox with
    | some m => s.completeBg m.val v.rc v .empty
    | none => s
  let s := match x.admitMbox with
    | some m => s.completeBg m.val Vendor.moduleState.rc .moduleState .empty
    | none => s
  s.modSlot k fun x => { x with retireMbox := none, admitMbox := none }

/-- A rebuild of the module in a slot stops; a further module lost stops any rebuild (R221). -/
def State.stopRebuild (s : State) (k : Nat) : State :=
  if s.stp.rebuildModule = some k then
    { s with stp := { s.stp with rebuildModule := none, rebuildRow := 0 } }
  else s

/-- The members of a module become absent: reads caught are routed afresh, programs end, links drop. -/
def State.loseModule (s : State) (k : Nat) : State :=
  let s := s.rerouteReads fun r => onModule k r.ch || r.members.length != 0
  let s := s.dropPrograms fun p => onModule k p.ch
  (s.loseLinks k).stopRebuild k

/-- A module fails (R214): rails off, MOD_RST_N asserted, the slot FAILED, the record marks it out. -/
def State.failModule (s : State) (k : Nat) : State :=
  let x := s.slot k
  if !x.present ∨ x.state = .failed ∨ x.state = .safe ∨ x.state = .empty then s
  else
    let s := s.modSlot k fun x => { x with
      state := .failed, rst := true, railsOn := false, powerGood := false, coolSince := none }
    let s := (s.loseModule k).memberOut k
    let s := (s.fireSlot k .fault .failed).endRetire k .moduleFailed
    s.settleLevel.retryLookups

/-- A slot in FAILED or SAFE with no module enters EMPTY (R214). -/
def State.emptySlot (s : State) (k : Nat) : State :=
  if (s.slot k).state = .failed ∨ (s.slot k).state = .safe then
    (s.modSlot k fun x => { x with
      state := .empty, present := false, ident := none, refusedSetId := false, tempMax := 0#8
      alertCause := 0#8, dies := 0#2 }).fireSlot k .note .empty
  else s

/-! ## Planned retirement (R213) -/

/-- Whether R213 refuses a retirement: two modules are out already. -/
def State.retireRefused (s : State) : Bool := decide (2 ≤ s.modulesOut)

/-- A retirement begins (R213, step 1): the slot enters RETIRING and its members become absent. -/
def State.beginRetire (s : State) (k : Nat) (mbox : Option Mbox) : State :=
  let s := s.setMember k .retiring
  let s := s.modSlot k fun x => { x with state := .retiring, retireMbox := mbox }
  (s.rerouteReads fun r => onModule k r.ch && r.status == .queued).settleLevel

/-- Pulse time of a program in ns: what ran before its last start, and what has run since (R152). -/
def State.pulseTime (s : State) (g : Prog) : Nat :=
  g.pulseRun + (if g.status = .running then (s.clock - g.started) / 2 else 0)

/-- No program sent to the module is still running: its DONE or FAIL has come, or it has run tPROG maximum of
pulse time (R321, step 2). -/
def State.moduleQuiet (s : State) (k : Nat) : Bool :=
  !(s.stp.progs.any fun e => e.2.onDie && onModule k e.2.ch && decide (s.pulseTime e.2 < 14000))

/-- SAFE (R213, steps 3 and 4). -/
def State.enterSafe (s : State) (k : Nat) : State :=
  let m := (s.slot k).retireMbox
  let s := s.modSlot k fun x => { x with
    state := .safe, rst := true, railsOn := false, powerGood := false, retireMbox := none }
  let s := s.dropPrograms fun p => onModule k p.ch
  let s := (channelsOf k).foldl (fun s n => s.modCh n Mch.dropLink) s
  let s := (s.memberOut k).fireSlot k .note .safe
  match m with
  | some m => s.completeBg m.val .success .none .empty
  | none => s

/-! ## Identity, admission and bring-up (R215, R216, R447) -/

/-- The code of SEQ.MOD_STATE_k.dies. -/
def diesCode (d : Nat) : Nat := if d = 8 then 1 else if d = 16 then 2 else if d = 32 then 3 else 0

/-- Whether set_id alone speaks against a module (R215). -/
def State.foreignSet (s : State) (i : Identity) : Bool :=
  i.setId != 0#128 && some i.setId != s.media.setId

/-- Whether R215 refuses a module for any other reason; without a media set any of the three builds may be
the first. -/
def State.identRefused (s : State) (i : Identity) : Bool :=
  !i.crcOk || i.magic != 0x4E55#16 || i.version != 0x01#8 || i.mediaType != 0x0A11#16 ||
    diesCode i.dies.toNat == 0 || (s.media.setId.isSome && i.dies.toNat != s.wlv.dies)

/-- The identity check of a module in POWERING (R215): it is powered, or the slot is set to FAILED. -/
def State.checkIdentity (s : State) (k : Nat) (i : Identity) (overwrite : Bool) : State :=
  let s := s.modSlot k fun x => { x with
    ident := some i, dies := BitVec.ofNat 2 (if i.crcOk then diesCode i.dies.toNat else 0) }
  let other := s.identRefused i
  let foreign := s.foreignSet i && !overwrite
  if other ∨ foreign then
    let s := s.modSlot k fun x => { x with
      state := .failed, rst := true, railsOn := false, powerGood := false
      refusedSetId := !other && foreign }
    s.fireSlot k .warn .failed
  else
    let s := if s.media.setId.isNone then { s with wlv := { s.wlv with dies := i.dies.toNat } } else s
    s.modSlot k fun x => { x with
      state := .powering, refusedSetId := false
      railsOn := x.railsOn || (s.seq.state == .run && !s.seq.busFailed) }

/-- The four channels of a module are trained. -/
def State.moduleTrained (s : State) (k : Nat) : Bool :=
  (channelsOf k).all fun n => (s.ch n).up

/-- The metadata area of a module written afresh (R216, step 2): empty remap tables, leaves at zero. -/
def State.freshMetadata (s : State) (k : Nat) : State :=
  let far (e : Nat) : Bool := e / 2 ^ 20 / 32 != k
  let farDie (e : Nat) : Bool := e / 32 != k
  let w := s.wlv
  { s with
    wlv := { w with
      remap := w.remap.filter fun e => far e.1
      adoptions := w.adoptions.filter fun a => a.slot != k
      leaves := w.leaves.filter fun e => far e.1
      leafDirty := w.leafDirty.filter far
      mediaLeaves := w.mediaLeaves.filter fun e => far e.1
      spareUsed := w.spareUsed.filter fun e => farDie e.1
      headUsed := w.headUsed.filter fun e => farDie e.1
      frozen := w.frozen.filter far
      forcedOut := w.forcedOut.filter far
      ordered := w.ordered.filter fun e => far e.1
      errorRetires := w.errorRetires.filter fun e => farDie e.1
      spareLowNoted := w.spareLowNoted.filter (· != k) }
    media := { s.media with
      driftBase := s.media.driftBase.filter fun e => e.1 / 256 / 32 != k
      sweepPoint := s.media.sweepPoint.filter fun e => e.1 / 32 != k } }

/-- Admission (R216): set_id and the metadata area are written, the slot enters WAITING. -/
def State.admitModule (s : State) (k : Nat) : State :=
  let id := s.media.setId.getD 0#128
  let m := (s.slot k).admitMbox
  let s := s.freshMetadata k
  let s := s.modSlot k fun x => { x with
    ident := x.ident.map fun i => { i with setId := id }, state := .waiting, admitMbox := none }
  let s := s.setMember k .out
  match m with
  | some m => s.completeBg m.val .success .none .empty
  | none => s

/-- The state that a trained module takes from the record at bring-up (R447); one rebuild runs at a time
(R217). A module that a Module Admit waits for is admitted (R304). -/
def State.takeStanding (s : State) (k : Nat) : State :=
  if (s.slot k).state ≠ .training then s
  else if (s.slot k).admitMbox.isSome then s.admitModule k
  else
    match s.standing k with
    | some .inService => (s.modSlot k fun x => { x with state := .inService }).settleLevel
    | some (.rebuilding c) =>
      if s.stp.rebuildModule.isSome then s.modSlot k fun x => { x with state := .waiting }
      else
        { s.modSlot k fun x => { x with state := .rebuilding } with stp := { s.stp with
          rebuildModule := some k, rebuildRow := c } }
    | some .retiring => s.modSlot k fun x => { x with state := .retiring }
    | _ => s

end Sys2Proof.Machine
end

