-- ==== Sys2Proof/Machine/WearOps.lean ====
section
/-! DEFINITION. The shared operations of layout and wear: the inverse of the placement (R124 to R126), leaves
(R139 to R143), retirement, migration and adoption (R144 to R149), and the rows of a module's die. -/

namespace Sys2Proof.Machine

open Sys2Proof

/-! ## From a global row back to a 4 KiB row -/

/-- The inverse of the keyed permutation (R124). -/
def feistelInv (keys : List Nat) (x : Nat) : Nat :=
  let e := keys.reverse.foldl
    (fun (lr : Nat × Nat) k => (lr.2 ^^^ feistelRound lr.1 k, lr.1)) (x / 1024, x % 1024)
  e.1 * 1024 + e.2

/-- The row index of a position (R125); none for the gap row. -/
def Region.unposition (r : Region) (q : Nat) : Option Nat :=
  if q = r.gap then none
  else
    let p := if r.gap < q then q - 1 else q
    some ((p + 1048576 - r.start % 1048576) % 1048576)

/-- The 4 KiB row that a global row holds; none for a gap row or a row outside the user space. -/
def State.rowAt (s : State) (r : Nat) : Option Nat :=
  let g := r / 1048577
  match (s.region g).unposition (r % 1048577) with
  | none => none
  | some y =>
    let row := g * 2 ^ 20 + feistelInv (regionKeys s.wearKey g) y
    if row < s.capacity / 4096 then some row else none

/-- Regions of the media set (Table LAYOUT-3). -/
def State.regions (s : State) : Nat := 2048 * s.wlv.dies

/-- Global rows of the stripe area. -/
def State.totalRows (s : State) : Nat := s.regions * 1048577

/-- The global row of die row `w` of a module's die (R126). -/
def State.rowOfDie (s : State) (die w : Nat) : Nat :=
  let per := max 1 (s.wlv.dies / 4)
  w * s.wlv.dies + (die % per) * 4 + die / per

/-- The module's die and its logical swath that a member of a global row lies in. -/
def State.logicalOf (s : State) (r pos : Nat) : Nat × Nat × Nat :=
  let dies := max 1 s.wlv.dies
  let per := max 1 (s.wlv.dies / 4)
  let w := r / dies
  (memberSlot (w % 18) pos, r % 4 * per + r / 4 % per, w / 4096)

/-- The position of the member of a row on a module. -/
def State.posOnSlot (s : State) (r k : Nat) : Nat :=
  (k + 18 - (r / max 1 s.wlv.dies) % 18) % 18

/-! ## Leaves (R139 to R143) -/

/-- The last logical swath of the stripe area. -/
def lastSwath : Nat := 524288

/-- A leaf set, and its sector marked for its next flush. -/
def State.setLeaf (s : State) (key v : Nat) : State :=
  { s with wlv := { s.wlv with
    leaves := Sparse.set 0 s.wlv.leaves key v
    leafDirty := if s.wlv.leafDirty.contains key then s.wlv.leafDirty else s.wlv.leafDirty ++ [key] } }

/-- An increment of a leaf; it holds at the effective count 4,095 (R148). -/
def State.bumpLeaf (s : State) (key : Nat) : State :=
  if s.leafCount key < 4095 then s.setLeaf key (Sparse.get 0 s.wlv.leaves key + 1) else s

/-- One program of a stripe-area sector: the leaf is incremented where the 22-bit draw says so (R139). -/
def State.wearDraw (s : State) (key : Nat) : State :=
  let t := s.drawn
  if Config.leafDraw s.draws then t.bumpLeaf key else t

/-! ## Spares (R144) -/

/-- Dies of a module that serve: neither retired nor failed. -/
def State.moduleDies (s : State) (slot : Nat) : List Nat :=
  (List.range s.wlv.dies).filter fun d =>
    let cd := dieOfModule s.wlv.dies slot d
    (s.adoption slot d).isNone && !bitOf (s.ch cd.1).diesFailed cd.2

/-- The die of a list with the most of `f`, the first of equals. -/
def mostOf (f : Nat → Nat) (l : List Nat) : Option Nat :=
  l.foldl
    (fun (a : Option Nat) d =>
      match a with
      | none => some d
      | some b => if f b < f d then some d else some b) none

/-- A die of the module with a free swath in a pool: the die itself first, then the one with the most. -/
def State.poolDie (s : State) (free : Nat → Nat) (slot die : Nat) : Option Nat :=
  if 0 < free die then some die
  else (mostOf free (s.moduleDies slot)).bind fun d => if 0 < free d then some d else none

/-- A spare taken for a retiring swath in the order of R144: its die and swath. -/
def State.takeSpare (s : State) (slot die : Nat) (why : RetireWhy) : Option (Nat × Nat × State) :=
  let head := if why = .drift then s.poolDie (s.headFree slot) slot die else none
  match head with
  | some d =>
    let u := Sparse.get 0 s.wlv.headUsed (dieKey slot d)
    some (d, headroomBase s.wlv.dies + u,
      { s with wlv := { s.wlv with headUsed := Sparse.set 0 s.wlv.headUsed (dieKey slot d) (u + 1) } })
  | none =>
    match s.poolDie (s.spareFree slot) slot die with
    | some d =>
      let u := Sparse.get 0 s.wlv.spareUsed (dieKey slot d)
      some (d, headroomBase s.wlv.dies + 4096 + u,
        { s with wlv := { s.wlv with spareUsed := Sparse.set 0 s.wlv.spareUsed (dieKey slot d) (u + 1) } })
    | none => none

/-- The free spares of a module below 10 % of its pool, recorded once (R149). -/
def State.noteSpares (s : State) (slot : Nat) : State :=
  let pool := sparePool s.wlv.dies * s.wlv.dies
  if 10 * s.moduleSpareFree slot < pool ∧ !s.wlv.spareLowNoted.contains slot then
    ({ s with wlv := { s.wlv with spareLowNoted := s.wlv.spareLowNoted ++ [slot] } }).fire 1217 .warn
      (Detail.ofUnit slot)
  else s

/-! ## Die retirement and adoption (R146, R147, R198) -/

/-- Swaths that each of `n` adopters gives (R147). -/
def adoptShare (n : Nat) : Nat := (524289 + n - 1) / max 1 n

/-- An adopter's share of `n` taken from its spare pool: its base swath. -/
def State.takeShare (s : State) (slot d n : Nat) : State × (Nat × Nat) :=
  let u := Sparse.get 0 s.wlv.spareUsed (dieKey slot d)
  ({ s with wlv := { s.wlv with
    spareUsed := Sparse.set 0 s.wlv.spareUsed (dieKey slot d) (u + adoptShare n) } },
    (d, headroomBase s.wlv.dies + 4096 + u))

/-- A retired adopter's share of an earlier record moved to the surviving adopter with the most free spares
(R147); the record is rebuilt from its start. -/
def State.moveShares (s : State) (slot die : Nat) : State :=
  s.wlv.adoptions.foldl
    (fun s a =>
      if a.slot = slot ∧ a.adopters.any (fun x => x.1 == die) then
        let n := a.adopters.length
        match mostOf (s.spareFree slot) ((a.adopters.map Prod.fst).filter (· != die)) with
        | none => s
        | some d =>
          let (s, share) := s.takeShare slot d n
          let a' : Adoption := { a with
            adopters := a.adopters.map fun x => if x.1 = die then share else x, pointer := 0 }
          { s with wlv := { s.wlv with
            adoptions := s.wlv.adoptions.map fun x => if x = a then a' else x } }
      else s) s

/-- The die counts as failed on its channel. -/
def State.markDieFailed (s : State) (ch d : Nat) : State :=
  let s := s.rerouteReads fun r => (r.ch == ch && r.die == d) || r.members.length != 0
  let s := s.dropPrograms fun p => p.ch == ch && p.die == d
  s.modCh ch fun c => { c with
    diesFailed := setBit c.diesFailed d true, diesReady := setBit c.diesReady d false }

/-- A die retired whole (R146, R147): adopted by the dies of its module in service; a fifth fails the module.
Where the adopters lack the spares its members stay absent. -/
def State.retireDie (s : State) (slot die : Nat) : State :=
  if (s.adoption slot die).isSome then s
  else if 4 ≤ (s.wlv.adoptions.filter fun a => a.slot == slot).length then s.failModule slot
  else
    let cd := dieOfModule s.wlv.dies slot die
    let s := s.markDieFailed cd.1 cd.2
    let ds := (s.moduleDies slot).filter (· != die)
    let s := s.fire (chanSrc cd.1 4) .fault (Detail.ofUnit cd.2)
    if ds.isEmpty ∨ ds.any (fun d => decide (s.spareFree slot d < adoptShare ds.length)) then
      s.fire 1215 .critical (Detail.ofUnit slot)
    else
      let n := ds.length
      let r := ds.foldl
        (fun (a : State × List (Nat × Nat)) d =>
          let x := a.1.takeShare slot d n
          (x.1, a.2 ++ [x.2])) (s, [])
      let s := r.1
      let a : Adoption := ⟨slot, die, r.2, 0⟩
      let s := { s with wlv := { s.wlv with adoptions := s.wlv.adoptions ++ [a] } }
      let s := (s.moveShares slot die).fire 1214 .fault (Detail.ofUnit slot)
      (s.noteSpares slot).settleLevel

/-! ## Swath retirement (R144, R145, R148) -/

/-- Remap entries of a die. -/
def State.remapCount (s : State) (slot die : Nat) : Nat :=
  s.wlv.remap.countP fun e => e.1 / 2 ^ 20 == dieKey slot die

/-- Every row that a swath touches keeps at least 16 present members without it (R148). -/
def State.rowsKeepSixteen (s : State) (slot die swath : Nat) : Bool :=
  let r := s.rowOfDie die (swath * 4096)
  decide (16 ≤ ((List.range 18).countP fun pos =>
    let p := s.memberPlace r pos
    !p.absent && p.slot != slot))

/-- No spare is left on the module (R148): the swath stays in service, or saturates and is forced out. -/
def State.noSpare (s : State) (slot die swath : Nat) : State :=
  let key := swathKey slot die swath
  if s.leafCount key < 4095 ∨ s.wlv.frozen.contains key then
    s.fire 1215 .critical (Detail.ofUnit slot)
  else
    let out := s.rowsKeepSixteen slot die swath
    let s := { s with wlv := { s.wlv with
      frozen := s.wlv.frozen ++ [key]
      forcedOut := if out then s.wlv.forcedOut ++ [key] else s.wlv.forcedOut
      forced := satAdd 0xFF s.wlv.forced 1 } }
    (s.fire 1215 .critical (Detail.ofUnit slot)).fire 1216 .critical (Detail.ofUnit slot)

/-- Errors that retired swaths of a die within one refresh pass (R198). -/
def State.countErrorRetire (s : State) (slot die : Nat) (why : RetireWhy) : State :=
  if why ≠ .error then s
  else
    let k := dieKey slot die
    let s := { s with wlv := { s.wlv with errorRetires := Sparse.modify 0 s.wlv.errorRetires k (· + 1) } }
    if 64 < Sparse.get 0 s.wlv.errorRetires k then s.retireDie slot die else s

/-- A swath retired (R144 to R149): its spare takes it and migration starts. -/
def State.retireSwath (s : State) (slot die swath : Nat) (why : RetireWhy) : State :=
  let key := swathKey slot die swath
  if (Sparse.find s.wlv.remap key).isNone ∧ 2048 ≤ s.remapCount slot die then s.retireDie slot die
  else
    match s.takeSpare slot die why with
    | none => s.noSpare slot die swath
    | some (td, ts, s) =>
      let at_ := s.physSwath slot die swath 0
      let e : Remap := ⟨true, td, ts, 0, at_.1, at_.2.1⟩
      let s := s.setLeaf key 0
      let s := { s with wlv := { s.wlv with
        remap := Sparse.put s.wlv.remap key e
        frozen := s.wlv.frozen.filter (· != key)
        forcedOut := s.wlv.forcedOut.filter (· != key)
        ordered := Sparse.erase s.wlv.ordered key
        retired := satAdd 0xFFFFFF s.wlv.retired 1 } }
      let s := (s.fire 1213 .note (Detail.ofUnit slot)).noteSpares slot
      s.countErrorRetire slot die why

/-- A swath ordered retired, to be carried out by SWATH_RETIRE (R197). -/
def State.orderRetire (s : State) (slot die swath : Nat) (why : RetireWhy) : State :=
  let key := swathKey slot die swath
  if (Sparse.find s.wlv.ordered key).isSome then s
  else { s with wlv := { s.wlv with ordered := Sparse.put s.wlv.ordered key why } }

/-- Whether R144 or R197 has a swath retired for a reason. -/
def State.retireDue (s : State) (key : Nat) (why : RetireWhy) : Bool :=
  if why = .wear then decide (s.wlv.retireUnits ≤ s.leafCount key)
  else Sparse.find s.wlv.ordered key == some why

end Sys2Proof.Machine
end

