-- ==== Sys2Proof/Machine/Reset.lean ====
section
/-! DEFINITION. The commands of reset and bring-up: the requests, the hold-off, the release of the domains,
the clock watchdog, the array fill and the firmware boot (R344 to R358, R444). -/

namespace Sys2Proof.Machine

open Sys2Proof

/-! ## Requests (R345, R349 to R351) -/

/-- AON_POWER_ON_DETECT: a PON that cannot be held off; a dump in progress stops after `pages` pages, and the
programs running on dies leave their sectors torn (R349, R444). -/
def execAonPowerOnDetect (pages : Nat) (s : State) : Out :=
  .next (
    let s := if s.glb.dumping then s.dumpStops pages else s
    let torn := s.media.torn ++ s.tornNow.filter fun l => !s.media.torn.contains l
    State.ponResetNow { s with media := { s.media with torn := torn } } 0x01)

/-- POR_ASSERT: POR_N low after its filter requests a PON, held off as R349 allows. -/
def execPorAssert (s : State) : Out := .next (s.requestReset .pon 0x02)

/-- The path that makes a GLB.RESET_CTRL request, where it may write the register: `some` debug or firmware. -/
def State.resetPath (s : State) (path : Path) : Option Bool :=
  match path with
  | .mainmast => if s.mst.running then some false else none
  | .debug => if s.dbg.granted then some true else none
  | .host _ => none

/-- The key of GLB.RESET_CTRL. -/
def resetKey : BitVec 16 := 0xB007#16

/-- SYS_RESET_REQUEST: GLB.RESET_CTRL.sys_req with the key requests a SYS reset (R345, R349). -/
def execSysResetRequest (path : Path) (key : BitVec 16) (s : State) : Out :=
  .next (match s.resetPath path with
    | some debug => if key = resetKey then s.requestReset .sys (if debug then 0x05 else 0x04) else s
    | none => s)

/-- CORE_RESET_REQUEST: GLB.RESET_CTRL.core_req with the key requests a CORE reset (R345, R351). -/
def execCoreResetRequest (path : Path) (key : BitVec 16) (s : State) : Out :=
  .next (match s.resetPath path with
    | some debug => if key = resetKey then s.requestReset .core (if debug then 0x0B else 0x0A) else s
    | none => s)

/-- RESET_HOLD_OFF_DONE: the steps of R349 are done; the SYS or PON reset takes effect internally. -/
def execResetHoldOffDone (s : State) : Out :=
  .next (match s.rst.request with
    | some ⟨level, src, afterRun⟩ =>
      if afterRun || !s.holdOffDone then s
      else
        match level with
        | .sys => s.sysResetNow src
        | .pon => s.ponResetNow src
        | _ => s
    | none => s)

/-! ## Release of the domains (R347, R354, R356) -/

/-- The clocks lock as their rails come up: each PLL that the watchdog has not failed (R347, R348). -/
def Clk.lockAll (c : Clk) : Clk :=
  if c.dpllLock ≠ 0#2 then c
  else { c with
    dpllLock := ~~~c.dpllFailed, dpllActive := bitOf c.dpllFailed 0, mpllLock := !c.mpllFailed }

/-- The datapath domains: both the fuse map and darn come before the release (R354). -/
def State.releaseDatapath (s : State) (fuseCrc : BitVec 2) : State :=
  if s.seq.state ≠ .run ∨ s.rst.datapath ∨ s.clk.refOk = 0#2 ∨ s.clk.dpllFailed = 0b11#2 then s
  else
    let s := (({ s with clk := s.clk.lockAll }).bootStage 0x03).bootStage 0x04
    { s with
      rst := { s.rst with datapath := true, darn := true }
      clk := { s.clk with fuseFailed := s.clk.fuseFailed || fuseCrc == 0#2 } }

/-- DOMAIN_RELEASE: a domain leaves reset once its rails are in window, its clock is stable and the domain
before it is released (R347). -/
def execDomainRelease (d : RstDomain) (fuseCrc : BitVec 2) (s : State) : Out :=
  .next (match d with
    | .aon =>
      if s.rst.aon then s
      else State.bootStage { s with rst := { s.rst with aon := true, bootAt := s.clock } } 0x01
    | .datapath => s.releaseDatapath fuseCrc
    | .mainmast =>
      if !s.rst.filled || s.mst.released || !s.clk.mpllLock || s.mst.lead.isNone then s
      else State.bootStage { s with mst := { s.mst with released := true } } 0x06
    | .port p =>
      let x := s.port p
      if !s.rst.booted || x.released || !x.lock || bitOf s.clk.portFailed (portIdx p) then s
      else State.bootStage (s.modPort p fun x => { x with
        released := true, releasedAt := s.clock, infoValid := true }) 0x08)

/-! ## Clock watchdog (R348, Table RST-3) -/

/-- CLOCK_WATCHDOG_EXPIRY: a clock not stable within 2 ms is failed until PON (R348; sources, log entry
25). -/
def execClockWatchdogExpiry (c : WdClock) (s : State) : Out :=
  .next (if !s.rst.aon ∨ (s.seq.state ≠ .run ∧ s.seq.state ≠ .ramp) then s
    else
      let k := s.clk
      match c with
      | .dpll n =>
        if bitOf k.dpllFailed n.val || bitOf k.dpllLock n.val then s
        else
          let f := setBit k.dpllFailed n.val true
          State.fire { s with clk := { k with dpllFailed := f } } 1267
            (if f = 0b11#2 then .critical else .fault) (Detail.ofUnit n.val)
      | .mpll =>
        if k.mpllFailed || k.mpllLock then s
        else State.fire { s with clk := { k with mpllFailed := true } } 1268 .critical Detail.none
      | .port p =>
        if bitOf k.portFailed (portIdx p) || (s.port p).released then s
        else State.fire { s with clk := { k with portFailed := setBit k.portFailed (portIdx p) true } }
          (portSrc p 1) .fault (Detail.ofUnit (portIdx p))
      | .chiut m =>
        if bitOf k.chiutFailed m.val || (s.slot m.val).state.serving then s
        else
          let s := { s with clk := { k with chiutFailed := setBit k.chiutFailed m.val true } }
          let s := (channelsOf m.val).foldl
            (fun s n => (s.modCh n fun c => { c with failed := true }).fire (chanSrc n 0) .fault Detail.none) s
          s.failModule m.val
      | .hbm n =>
        if bitOf k.hbmFailed n.val || s.rst.filled then s
        else
          let f := setBit k.hbmFailed n.val true
          let s := { s with
            clk := { k with hbmFailed := f }
            cache := { s.cache with stackFailed := setBit s.cache.stackFailed n.val true } }
          s.fireHbm n.val 0 (if s.cache.stackFailed = 0b11#2 then .critical else .fault) 2 0)

/-! ## The fill (R355) -/

/-- A unit whose fill check fails is fenced as a failure in service would fence it. -/
def State.fillFails (s : State) (f : FillFail) : State :=
  match f with
  | .belayBank b =>
    State.fire { s with bly := { s.bly with fenced := setBit s.bly.fenced b.val true } } (1052 + b.val) .fault
      (Detail.ofUnit b.val)
  | .vbfBank b =>
    State.fire { s with vbf := { s.vbf with fenced := setBit s.vbf.fenced b.val true } } (1196 + b.val) .fault
      (Detail.ofUnit b.val)
  | .pseudoChannel stack pc => if bitOf s.cache.stackOk stack.val then s.fencePc stack.val pc.val else s
  | .stack n => s.stackFail n.val

/-- Every array that the fuse map covers (R354). -/
def allArrays : List FillFail :=
  (List.finRange 8).map .belayBank ++ (List.finRange 8).map .vbfBank ++ (List.finRange 2).map .stack

/-- ARRAY_FILL_DONE: the arrays hold zero with valid check bits; those whose check fails are fenced (R355). -/
def execArrayFillDone (bad : List FillFail) (s : State) : Out :=
  .next (if !s.rst.datapath || s.rst.filled then s
    else
      let ok := ~~~(s.cache.stackFailed ||| s.clk.hbmFailed)
      let s := { s with
        rst := { s.rst with filled := true }
        cache := { s.cache with stackOk := ok } }
      let s := if s.clk.fuseFailed then
          (List.range 17).foldl (fun s n => s.modSlice n fun x => { x with tagSramFenced := true })
            (allArrays.foldl State.fillFails s)
        else bad.foldl State.fillFails s
      ((s.bootStage 0x05).settleBudget).settleLevel)

/-! ## The boot (R356) -/

/-- A wrapped Shroud key unwrapped into its slot, or the slot left EMPTY with a CRITICAL record (R266, log
entry 23). -/
def State.unwrapSlot (s : State) (bad : BitVec 64) (n : Nat) : State :=
  match s.sea.value (recShroudKey n) with
  | none => s
  | some p =>
    if bitOf bad n then s.keyRecord .critical 0 n 1
    else s.modKeySlot n fun _ => ⟨s.shr.heldState n, BitVec.ofNat 512 (leNat (p.take 64))⟩

/-- A wrapped KCE key unwrapped into its register (R266). -/
def State.unwrapReg (s : State) (bad : BitVec 8) (r : Nat) : State :=
  match s.sea.value (recKceKey r) with
  | none => s
  | some p =>
    if bitOf bad r then s.keyRecord .critical 1 r 1
    else { s with kce := { s.kce with
      keys := Sparse.set 0#256 s.kce.keys r (BitVec.ofNat 256 (leNat (p.take 32)))
      loaded := setBit s.kce.loaded r true } }

/-- The key map of the newest valid copy; without one, the map that every copy of a formatted set begins with
(R227). -/
def State.loadKeyMap (s : State) : State :=
  let m := s.media.keyMap.getD ([], 0)
  { s with shr := { s.shr with keyMap := m.1, keyMapDefault := m.2, keyMapLoaded := true } }

/-- A rekey that its record names goes on from the checkpoint of its confirmed point (R230, R235). -/
def State.resumeRekey (s : State) : State :=
  match s.sea.value 0x0301 with
  | none => s
  | some p =>
    let a := leField p 0 1
    let b := leField p 1 1
    let hold (s : State) (n : Nat) (st : SlotState) : State :=
      s.modKeySlot n fun k => if k.state = .empty then k else { k with state := st }
    let x := { s.shr with rkState := .running, rkA := a, rkB := b, rkLo := leField p 4 4, rkHi := leField p 8 4 }
    let s := { s with shr := { x with hemline := x.nextRow s.media.rekeyPoint } }
    hold (hold s a .retiring) b .active

/-- A registry entry read back from its 128 B image, where its CRC holds (R250, Table KCE-3). -/
def registryOf (img : List Byte) : Option Registry :=
  if img.length ≠ 128 ∨ bytesOf 4 (crc32c (img.take 124)) ≠ img.drop 124 then none
  else some {
    keyReg := leField img 3 1
    base := leField img 8 8
    len := leField img 16 8 / 2 ^ 20
    seq := BitVec.ofNat 64 (leField img 24 8)
    time := BitVec.ofNat 64 (leField img 32 8)
    tag := BitVec.ofNat 128 (leField img 64 16)
    generation := leField img 80 4 }

/-- A SEAL pair stands in the logbook for a seal sequence, with no SEAL_VOID after it. -/
def State.sealStands (s : State) (seq : BitVec 64) : Bool :=
  let all := s.log.archive ++ s.dty.recs ++ s.log.ring ++ s.log.queue
  (all.any fun r => r.type == .sealDone && r.payload.take 8 == bytesOf 8 seq) &&
    !(all.any fun r => r.type == .sealVoid && r.payload.take 8 == bytesOf 8 seq)

/-- A registry entry whose extent is not listed is discarded; the SEAL pair of that seal, if it stands, is
voided (R250, R254). -/
def State.discardSeal (s : State) (e : Nat × List Byte) : State :=
  if (Sparse.find s.sea.extents e.1).isSome then s
  else
    let s := { s with media := { s.media with registry := Sparse.erase s.media.registry e.1 } }
    match registryOf e.2 with
    | some g => if s.sealStands g.seq then s.logPut .note .sealVoid false (bytesOf 8 g.seq) else s
    | none => s

/-- A listed extent enters the seal map with its registry entry; without a valid copy it stays sealed, and
the loss is recorded at CRITICAL (R250, R263). -/
def State.loadExtent (s : State) (e : Nat × Extent) : State :=
  let s := { s with kce := { s.kce with extents := Sparse.put s.kce.extents e.1 e.2 } }
  match (Sparse.find s.media.registry e.1).bind registryOf with
  | some g => { s with kce := { s.kce with registry := Sparse.put s.kce.registry e.1 g } }
  | none => s.fireOutcome .critical 2 e.1 Vendor.registryLost.code 0 0

/-- The poison list and, from its PENDING entries, the queue of Tier 3 (R186, R190). -/
def State.loadPoison (s : State) : State :=
  let pend := (s.media.poison.filter fun e => e.2.state == .pending).map Prod.fst
  { s with
    wlv := { s.wlv with poison := s.media.poison, cam := pend.take 4096 }
    stp := { s.stp with tier3Queue := pend } }

/-- The wear key drawn on the first start with a media set that carries none (R124). -/
def State.drawWearKey (s : State) : State :=
  if s.media.setId.isNone || s.media.wearKey.isSome then s
  else
    let k := (s.draw).setWidth 256
    let s := s.drawn
    { s with media := { s.media with wearKey := some k }, wlv := { s.wlv with wearKey := some k } }

/-- The wear bump, increased at a power-on that follows loss of input (R141). -/
def State.loadBump (s : State) : State :=
  let s := if s.rst.source = 0x01#5 ∨ s.rst.source = 0x03#5 then (s.counterInc 5 true).1 else s
  { s with wlv := { s.wlv with bump := s.sea.counter 5 } }

/-- A power event of the ditty bag copied to the logbook at FAULT and cleared (R323). -/
def State.copyPowerEvent (s : State) : State :=
  if !s.dty.evValid then s
  else
    let d : Detail := ⟨s.dty.evRail.toNat, s.dty.evSlot.toNat, s.dty.evPhase.toNat, s.dty.evTime.toNat⟩
    State.fire { s with dty := { s.dty with evValid := false } } 1257 .fault d

/-- The DEBUG_EXIT record (Table LOG-2): the epoch, whether a pass through DOWN ended the session, and the
session length in ms (R272). -/
def State.debugExitRecord (s : State) (boot : Bool) : State :=
  let len := (s.glb.time - s.dty.dbgStart).toNat / 1000000
  (s.logPut .note .debugExit false
    (bytesOf 3 s.dty.dbgEpoch ++ leBytes 1 (b2n boot) ++ leBytes 8 len)).fire 1279 .note Detail.none

/-- A DEBUG_EXIT owed since a pass through DOWN (R272). -/
def State.payDebugExit (s : State) : State :=
  if !s.dty.dbgOwed then s
  else State.debugExitRecord { s with dty := { s.dty with dbgOwed := false } } true

/-- A record for every counter that stands saturated at boot (R403). -/
def State.noteSaturated (s : State) : State :=
  [1, 2, 3, 4, 5].foldl
    (fun s c => if s.sea.saturated c then s.fireSub 1277 c .critical (Detail.ofUnit c) else s) s

/-- The plan before Memory_Active: E_u of the newest history record times 0.95 (R106, R363). -/
def State.bootPlan (s : State) : State :=
  match s.tel.history.getLast? with
  | some h => State.replan { s with tel := { s.tel with euMj := h.euMj * 95 / 100 } }
  | none => s

/-- The keys, the key map and the seal map, before journal replay (R227, R249, R266). -/
def State.bootKeys (s : State) (r : BootResult) : State :=
  let s := s.loadKeyMap
  let s := (List.range 64).foldl (fun s n => s.unwrapSlot r.badSlots n) s
  let s := (List.range 8).foldl (fun s n => s.unwrapReg r.badRegs n) s
  let s := s.resumeRekey
  s.sea.extents.foldl State.loadExtent (s.media.registry.foldl State.discardSeal s)

/-- The ports' mode and partition fields locked (R42). -/
def State.lockPorts (s : State) : State :=
  { s with port0 := { s.port0 with lock := true }, port1 := { s.port1 with lock := true } }

/-- FIRMWARE_BOOT: the active image verified, firmware runs and brings up what the sea chest and the metadata
hold (R42, R141, R249, R266, R272, R299, R317, R323, R356, R363, R403). An image that does not verify leaves
Mainmast not running. -/
def execFirmwareBoot (r : BootResult) (s : State) : Out :=
  .next (if !s.mst.released || s.rst.booted || !s.sea.settled || !r.imageOk then s
    else
      let slot := if s.mst.slot then 1 else 0
      let m := { s.mst with
        running := true, kickedAt := s.clock
        fw := Sparse.modify FwSlot.empty s.mst.fw slot fun x => { x with valid := true } }
      let s := State.bootStage { s with mst := m, rst := { s.rst with booted := true } } 0x07
      let s := (((s.loadSettings).applyBank).applyStrike).lockPorts
      let s := ((s.bootKeys r).loadPoison.drawWearKey).loadBump
      let s := { s with
        hly := { s.hly with sidebandOn := true }
        dbg := { s.dbg with
          epoch := BitVec.ofNat 24 (s.sea.counter 2), saturated := s.sea.saturated 2 } }
      let s := ((s.copyPowerEvent).payDebugExit).noteSaturated
      s.bootPlan)

end Sys2Proof.Machine
end

