-- ==== Sys2Proof/Machine/Mainmast.lean ====
section
/-! DEFINITION. The commands of debug access and of the control processors: the debug epoch, lockstep and
takeover, the watchdog, CORE reset and activation (R270 to R283). -/

namespace Sys2Proof.Machine

open Sys2Proof

/-! ## Debug access (R271, R272) -/

/-- GLB.RESET_CAUSE as a word. -/
def Rst.causeWord (r : Rst) : Nat :=
  fieldAt 24 r.sysCount + fieldAt 18 r.prevLevel.code + fieldAt 13 r.prevSource.toNat +
    fieldAt 8 r.level.code + r.source.toNat

/-- DEBUG_ENTRY: the rise of the filtered enable; the epoch is incremented, recorded and copied to the ditty
bag, and access is granted (R271). The entry waits for the sea chest to be settled (R399). -/
def execDebugEntry (stored : Bool) (s : State) : Out :=
  .next (
    if !s.rst.aon || s.seq.state == .down || s.dbg.granted || (s.dbg.strap && !s.dbg.entering) then s
    else if !s.sea.settled then { s with dbg := { s.dbg with strap := true, entering := true } }
    else
      let full := s.sea.saturated 2
      let counted := if full then ((s.counterInc 2 true).1, true) else s.counterInc 2 stored
      let s := counted.1
      let ok := counted.2
      let e := BitVec.ofNat 24 (s.sea.counter 2)
      let sev : Severity := if ok then .warn else .critical
      let s := s.logPut sev .debugEnter false
        (bytesOf 3 e ++ leBytes 1 s.glb.level.code ++ leBytes 4 s.rst.causeWord ++ leBytes 1 (b2n !ok))
      let s := { s with
        dty := { s.dty with dbgEpoch := e, dbgStart := s.glb.time }
        dbg := {
          granted := true, strap := true, entering := false, storeFailed := !ok
          saturated := s.sea.saturated 2, epoch := e } }
      s.fire 1278 sev Detail.none)

/-- DEBUG_EXIT: the fall of the filtered enable; a session ends, an entry not yet granted is abandoned
(R247, R271, R272). -/
def execDebugExit (s : State) : Out :=
  .next (
    let was := s.dbg.granted
    let s := { s with dbg := { s.dbg with granted := false, strap := false, entering := false } }
    if was then
      let s := if s.kce.owner = .debug then
          s.dropLock.fire 1229 .warn (Detail.ofUnit (LockOwner.code .debug)) else s
      s.debugExitRecord false
    else s)

/-! ## Lockstep and takeover (R273 to R278) -/

/-- TASK_CHECKPOINT: a task ends and its checkpoint goes to the other bank (R274). At this boundary an online
activation that waits stops the old firmware (R283, step 2). -/
def execTaskCheckpoint (s : State) : Out :=
  .next (if !s.mst.running then s
    else
      let m := s.mst
      let b := !m.bank
      let m := { m with bank := b, tasks := m.tasks + 1, banks := Sparse.put m.banks (b2n b) (m.tasks + 1) }
      if m.activateMbox.isSome then
        { s with mst := { m with activating := true, activateAt := s.clock, running := false } }
      else { s with mst := m })

/-- LOCKSTEP_MISMATCH: the pair halts, the watchdog pauses, the spare leaves its ROM loop (R273, R276,
Table MAST-2). A single core does not mismatch. -/
def execLockstepMismatch (s : State) : Out :=
  .next (if (!s.mst.running && !s.mst.activating) || s.mst.takeover || s.mst.checker.isNone then s
    else
      let m := { s.mst with
        running := false, takeover := true, row := 0, wdPaused := true }
      State.fire { s with mst := m } 1230 .fault Detail.none)

/-- A core set out of service until PON. -/
def Mst.retire (m : Mst) (c : Nat) : Mst := { m with retired := setBit m.retired c true }

/-- The row of Table MAST-1 for a spare and the two self-tests. -/
def takeoverRow (spare lead checker : Bool) : Nat :=
  if spare then (if lead || checker then 1 else 2) else (if lead || checker then 3 else 4)

/-- The configuration of Table MAST-1. The leading core of a pair is the lower-numbered one, so the lowest
passing core is the leader where it passes. -/
def Mst.choose (m : Mst) (l c : Nat) (leadPasses checkerPasses : Bool) : Mst :=
  let row := takeoverRow m.spare.isSome leadPasses checkerPasses
  let keep := if leadPasses then l else c
  let drop := if leadPasses then c else l
  match row, m.spare with
  | 1, some x =>
    { m.retire drop with row := 1, lead := some (min keep x), checker := some (max keep x), spare := none }
  | 2, some x =>
    { (m.retire l).retire c with row := 2, lead := some x, checker := none, spare := none, unchecked := true }
  | 3, _ => { m.retire drop with row := 3, lead := some keep, checker := none, unchecked := true }
  | _, _ => { (m.retire l).retire c with row := 4, lead := none, checker := none, takeover := false }

/-- CONFIG_CHOSEN: the self-tests choose the configuration; without a core it is in force at once (R276, R277,
Table MAST-1). -/
def execConfigChosen (leadPasses checkerPasses : Bool) (s : State) : Out :=
  .next (match s.mst.lead, s.mst.checker with
    | some l, some c =>
      if !s.mst.takeover || decide (0 < s.mst.row) then s
      else
        let s := { s with mst := s.mst.choose l c leadPasses checkerPasses }
        if s.mst.lead.isNone then
          let s := { s with mst := { s.mst with takeovers := satAdd 0xFF s.mst.takeovers 1, row := 0 } }
          (s.fireTakeover 4).settleLevel
        else s
    | _, _ => s)

/-- The checkpoint banks that hold a checkpoint whose CRC holds. -/
def Mst.validBanks (m : Mst) (valid : BitVec 2) : Sparse Nat := m.banks.filter fun e => bitOf valid e.1

/-- The newest valid checkpoint: its bank and its number. -/
def Mst.newest (m : Mst) (valid : BitVec 2) : Option (Nat × Nat) :=
  match m.validBanks valid with
  | [] => none
  | [a] => some a
  | a :: b :: _ => some (if a.2 < b.2 then b else a)

/-- The completion of every retired command that had not been posted (R278). -/
def State.postRetired (s : State) : State :=
  (List.range 5).foldl
    (fun s m =>
      if (s.mb m).bgActive ∧ (s.mb m).bgRetired then
        s.completeBgCode m (s.mb m).bgRc (s.mb m).bgVendor (s.mb m).bgOutput
      else s) s

/-- TAKEOVER_RESUME: the chosen configuration resumes at the newest valid checkpoint (R277, R278); an
activation cut off is taken back to the checkpoint before it. -/
def execTakeoverResume (checkpointsValid : BitVec 2) (s : State) : Out :=
  .next (if !s.mst.takeover || s.mst.row = 0 then s
    else
      match s.mst.newest checkpointsValid with
      | none => s
      | some (b, n) =>
        let row := s.mst.row
        let s := { s with mst := { s.mst with
          takeover := false, row := 0, running := !s.mst.activating
          takeovers := satAdd 0xFF s.mst.takeovers 1
          bank := b == 1, tasks := n, wdPaused := false, kickedAt := s.clock } }
        ((s.fireTakeover row).postRetired).settleLevel)

/-- SPARE_SELF_TEST: the hourly self-test of the spare; a failure retires it (R275). -/
def execSpareSelfTest (pass : Bool) (s : State) : Out :=
  .next (match s.mst.spare with
    | some c =>
      if pass || s.mst.takeover || !s.mst.released then s
      else
        (State.fire { s with mst := { s.mst.retire c with spare := none } } 1232 .fault
          (Detail.ofUnit c)).settleLevel
    | none => s)

/-! ## Watchdog (R280, R281) and CORE reset (R279, R351) -/

/-- WDOG_KICK: a write of MST.WDOG.kick restarts the count (R280). -/
def execWdogKick (path : Path) (s : State) : Out :=
  .next (match s.resetPath path with
    | some _ => { s with mst := { s.mst with kickedAt := s.clock } }
    | none => s)

/-- WDOG_EXPIRY: no kick for timeout_ms while the watchdog counts (R280); an hour without an expiry ends the
alternation of images (R281). -/
def execWdogExpiry (s : State) : Out :=
  .next (
    let m := s.mst
    if !m.running || m.wdPaused || !s.elapsed m.kickedAt (ms m.timeoutMs) then s
    else
      let calm := m.expiryTimes.all fun t => s.elapsed t (hours 1)
      let recent := m.expiryTimes.filter fun t => decide (s.clock < t + hours 1)
      let m := { m with
        expiries := satAdd 0x3F m.expiries 1
        expiryTimes := s.clock :: recent
        alternating := m.alternating && !calm, slotSwitched := m.slotSwitched && !calm
        wdPaused := true }
      (State.fire { s with mst := m } 1233 .fault Detail.none).requestReset .core 0x08)

/-- The code of Table RST-2 of a CORE source. -/
def coreCode : CoreSource → Nat
  | .watchdog => 0x08
  | .mpllRelock => 0x09
  | .firmware => 0x0A
  | .debug => 0x0B

/-- CORE_RESET: a requested CORE reset takes effect, once a takeover has chosen its configuration (R277, R279,
R351). -/
def execCoreReset (src : CoreSource) (s : State) : Out :=
  .next (match s.rst.request with
    | some ⟨.core, c, _⟩ =>
      if c ≠ coreCode src || !s.configSettled || s.mst.lead.isNone || !s.mst.released then s
      else s.coreResetNow c
    | _ => s)

/-! ## Live activation (R283) -/

/-- ACTIVATION_TIMEOUT: step 4 not reached 100 ms after step 2; the old image and the checkpoint are restored
(R283). -/
def execActivationTimeout (s : State) : Out :=
  .next (if !s.mst.activating || s.mst.takeover || !s.elapsed s.mst.activateAt (ms 100) then s
    else
      let mb := s.mst.activateMbox
      let s := s.rollBack
      match mb with
      | some m => s.completeBg m.val .activationFailedRolledBack .none .empty
      | none => s)

end Sys2Proof.Machine
end

