-- ==== Sys2Proof/Machine/ReadOps.lean ====
section
/-! DEFINITION. The shared operations of the media channels: command packets (R201), suspend and withdraw
(R152, R154), the routing of a host read (R153, R452), read-around (R156, R157), the counting of decodes and
training (R162, R191 to R198), and a sector that Tiers 0 to 2 cannot confirm (R180 to R182). -/

namespace Sys2Proof.Machine

open Sys2Proof

/-! ## Ages -/

/-- Bits needed to write a number. -/
def bitLength (n : Nat) : Nat := if n = 0 then 0 else Nat.log2 n + 1

/-- The age bucket of an age in clock units (R159). -/
def ageBucket (a : Nat) : Nat := if a < 16 then 0 else min 23 (bitLength a - 4)

/-- The bucket in which a die senses a sector with a stamp. -/
def DieState.bucketOf (d : DieState) (stamp : BitVec 40) : Nat :=
  ageBucket (d.clk.extractLsb' 8 40 - stamp).toNat

/-! ## Command packets (R201, Table CHIUT-3) -/

/-- A command packet with its CRC. -/
def packet (op die tag table count sector clock arg : Nat) : BitVec 128 :=
  let body : Nat := fieldAt 0 (op % 32) + fieldAt 5 (die % 8) + fieldAt 8 (tag % 64) +
    fieldAt 14 (table % 2) + fieldAt 15 (count % 32) + fieldAt 20 (sector % 2 ^ 32) +
    fieldAt 52 (clock % 2 ^ 40) + fieldAt 92 (arg % 2 ^ 20)
  BitVec.ofNat 128 (body + fieldAt 112 (crc16 112 (BitVec.ofNat 128 body)).toNat)

/-- The event of Table PMU-1 that a command packet counts under: READ, SUSPEND and PROGRAM. -/
def cmdEvent (op : Nat) : Option Nat :=
  match op with
  | 0x01 => some 0x030
  | 0x02 => some 0x033
  | 0x03 => some 0x032
  | _ => none

/-- A command sent on a channel; it carries the die's clock and names the table in use (R158, R159). -/
def State.sendCmd (s : State) (ch die op tag sector arg : Nat) : State :=
  let d := (s.ch ch).die die
  let w := packet op die tag (b2n d.table) 0 sector (d.clk.toNat / 256) arg
  let s := match cmdEvent op with
    | some e => s.occ e 1
    | none => s
  s.modCh ch fun c => { c with lastCommand := w }

/-- One more decode outcome of a die under its key (R191), saturating. -/
def Mch.countDecode (c : Mch) (key : Nat) : Sparse Nat :=
  Sparse.modify 0 c.dcnt key fun n => satAdd 0xFFFFFFFF n 1

/-! ## Slots and lanes (R150, R204) -/

/-- A read that holds its command slot and a lane. -/
def ReadOp.holdsSlot (r : ReadOp) : Bool :=
  r.direct && (r.status == .sensing || r.status == .ready)

/-- Whether a command slot of a channel is taken. -/
def State.tagTaken (s : State) (ch t : Nat) : Bool :=
  (s.stp.reads.any fun e => e.2.ch == ch && e.2.holdsSlot && e.2.tag == t) ||
    (s.stp.progs.any fun e => e.2.ch == ch && e.2.onDie && e.2.tag == t)

/-- The lowest free command slot of a channel. -/
def State.freeTag (s : State) (ch : Nat) : Option Nat :=
  (List.range 64).find? fun t => !s.tagTaken ch t

/-- Lanes of a die in use, by the reads of a class if one is named. -/
def State.lanesUsed (s : State) (ch die : Nat) (cls : Option ReadClass) : Nat :=
  s.stp.reads.countP fun e =>
    e.2.ch == ch && e.2.die == die && e.2.holdsSlot && (cls.isNone || cls == some e.2.cls)

/-- Slots of a channel that the reads of a class hold. -/
def State.slotsUsed (s : State) (ch : Nat) (cls : ReadClass) : Nat :=
  s.stp.reads.countP fun e => e.2.ch == ch && e.2.holdsSlot && e.2.cls == cls

/-- The program on a die: running, suspended, or being stopped. -/
def State.dieProg (s : State) (ch die : Nat) : Option (Nat × Prog) :=
  s.stp.progs.find? fun e => e.2.ch == ch && e.2.die == die && e.2.onDie

/-- A read command sent (R150): it waits where no slot or lane is free. -/
def State.sendRead (s : State) (id : Nat) : State :=
  match Sparse.find s.stp.reads id with
  | none => s
  | some r =>
    match s.freeTag r.ch with
    | none => s.modRead id fun r => { r with status := .queued }
    | some t =>
      if s.lanesUsed r.ch r.die none < 16 then
        (s.sendCmd r.ch r.die 0x01 t r.sector 0).modRead id fun r =>
          { r with status := .sensing, direct := true, tag := t }
      else s.modRead id fun r => { r with status := .queued }

/-! ## Suspend and withdraw (R152, R154) -/

/-- `f` on one program. -/
def State.modProg (s : State) (i : Nat) (f : Prog → Prog) : State :=
  { s with stp := { s.stp with progs := Sparse.adjust s.stp.progs i f } }

/-- A suspend command to a die whose program runs. -/
def State.suspendDie (s : State) (ch die : Nat) : State :=
  match s.dieProg ch die with
  | none => s
  | some (i, g) =>
    if g.status ≠ .running then s
    else
      let s := s.modProg i fun g => { g with status := .suspending, suspends := g.suspends + 1 }
      (s.sendCmd ch die 0x03 0 0 0).modCh ch fun c => { c with suspends := satAdd 0xFFFFF c.suspends 1 }

/-- A withdraw command to a die whose program runs (R154). -/
def State.withdrawDie (s : State) (ch die : Nat) : State :=
  match s.dieProg ch die with
  | none => s
  | some (i, g) =>
    if g.status ≠ .running then s
    else
      let s := s.modProg i fun g => { g with status := .withdrawn, withdrawals := g.withdrawals + 1 }
      let s := (s.sendCmd ch die 0x05 0 0 0).modCh ch fun c =>
        { c with withdrawals := satAdd 0xFFF c.withdrawals 1 }
      if g.withdrawals + 1 = 16 then s.fire (chanSrc ch 10) .warn ⟨die, g.sector, 0, 16⟩ else s

/-! ## Members (R153, R155, R156) -/

/-- The position of a sector in its row. -/
def posOf (lsn : Nat) : Nat := 2 + lsn % 16

/-- Whether a program writes the member at a position of a 4 KiB row. -/
def ProgData.writes (d : ProgData) (row pos : Nat) : Bool :=
  match d with
  | .sector l _ => l == row * 16 + (pos - 2) && decide (2 ≤ pos)
  | .parity r q _ => r == row && pos == b2n q

/-- The program in flight of a member, whose data STP holds (R155). -/
def State.heldProg (s : State) (row pos : Nat) : Option Prog :=
  (s.stp.progs.find? fun e => e.2.inFlight && e.2.data.writes row pos).map Prod.snd

/-- The held copy of a data sector. -/
def State.heldCell (s : State) (lsn : Nat) : Option Stored :=
  (s.heldProg (rowOf lsn) (posOf lsn)).bind fun g =>
    match g.data with
    | .sector _ c => some c
    | .parity _ _ _ => none

/-- How a member's die can be reached. -/
inductive Reach where
  | held | free | suspend | withdraw | later | never
  deriving DecidableEq, Repr

/-- A die that reads pass by for now: its link retrains, it is under self-test, or it has not answered
(R205, R209, R370). -/
def State.dieAway (s : State) (ch die : Nat) : Bool :=
  !(s.ch ch).up || s.underTest 3 (ch * 8 + die) || ((s.ch ch).die die).notReady

/-- The reach of the member at a position of a 4 KiB row. -/
def State.reach (s : State) (row pos : Nat) : Reach :=
  let p := s.memberPlace (s.globalRow row) pos
  if (s.heldProg row pos).isSome then .held
  else if p.absent || (decide (2 ≤ pos) && s.wlv.cam.contains (row * 16 + (pos - 2))) then .never
  else if s.dieAway p.ch p.die then .later
  else
    match s.dieProg p.ch p.die with
    | none => .free
    | some (_, g) =>
      if g.status ≠ .running then .free else if g.suspends < 4 then .suspend else .withdraw

/-- The members of a row other than one, and other than those named, in the order of R156; those whose
program would have to be withdrawn only where `force` allows. -/
def State.candidates (s : State) (row pos : Nat) (skip : List Nat) (force : Bool) : List Nat :=
  let ms := (List.range 18).filter fun q => q != pos && !skip.contains q
  let of (x : Reach) := ms.filter fun q => s.reach row q == x
  of .held ++ of .free ++ of .suspend ++ (if force then of .withdraw else [])

/-- A member that may become ready without a change of its row's members. -/
def State.membersLater (s : State) (row pos : Nat) : Nat :=
  (List.range 18).countP fun q =>
    q != pos && (s.reach row q == .later || s.reach row q == .withdraw)

/-- The die of a member made ready. -/
def State.readyMember (s : State) (row pos : Nat) : State :=
  let p := s.memberPlace (s.globalRow row) pos
  match s.reach row pos with
  | .suspend => s.suspendDie p.ch p.die
  | .withdraw => s.withdrawDie p.ch p.die
  | _ => s

/-- The read-around of a read on chosen members (R156). -/
def State.aroundWith (s : State) (id : Nat) (r : ReadOp) (ms : List Nat) : State :=
  let row := rowOf r.lsn
  let held := ms.filter fun q => s.reach row q == .held
  let s := ms.foldl (fun s q => s.readyMember row q) s
  let s := ((s.occ 0x030 (ms.length - held.length)).occ 0x031 1).modCh r.ch fun c =>
    { c with readArounds := satAdd 0xFFFF c.readArounds 1 }
  s.modRead id fun r => { r with
    status := if r.direct then r.status else .around
    around := true, members := ms, confirmed := held }

/-! ## A sector that cannot be confirmed (R180 to R182, R193) -/

/-- An entry in a channel's address table (R193, R414, R415). -/
def State.addrEntry (s : State) (ch die sector outcome : Nat) : State :=
  let c := s.ch ch
  let ring := decide (16 ≤ c.addrMade)
  let i := if ring then c.ringHead else c.addrMade
  let old := Sparse.get AddrEntry.empty c.addrTab i
  let lost := ring && old.outcome != 0 && !old.read
  let e : AddrEntry := ⟨BitVec.ofNat 32 sector, die, outcome, s.timeMs, false⟩
  let s := s.setCh ch { c with
    addrTab := Sparse.set AddrEntry.empty c.addrTab i e
    addrMade := c.addrMade + 1
    ringHead := if ring then (if c.ringHead = 63 then 16 else c.ringHead + 1) else c.ringHead
    addrOverflow := if lost then satAdd 0xFF c.addrOverflow 1 else c.addrOverflow
    errSector := BitVec.ofNat 32 sector, errValid := true, errOutcome := outcome, errDie := die }
  if lost ∧ c.addrOverflow = 0 then s.fire (chanSrc ch 13) .warn Detail.none else s

/-- A sector queued for Tier 3 (R180 to R182): entered as PENDING once, with its CAM entry where one is
free. -/
def State.makePending (s : State) (lsn : Nat) : State :=
  let known : Bool := match Sparse.find s.wlv.poison lsn with
    | some e => e.state == .pending
    | none => false
  if known then s
  else
    let p := s.place lsn
    let s := s.poisonSet lsn 0xF#4 .pending
    let s := if s.wlv.cam.length < 4096 ∧ !s.wlv.cam.contains lsn then
        { s with wlv := { s.wlv with cam := s.wlv.cam ++ [lsn] } } else s
    let s := if s.stp.tier3Queue.contains lsn then s
      else { s with stp := { s.stp with tier3Queue := s.stp.tier3Queue ++ [lsn] } }
    let s := (s.addrEntry p.ch p.die p.sector 2).modCh p.ch fun c =>
      { c with dcnt := c.countDecode (p.die * 8 + 5) }
    s.fire (chanSrc p.ch 7) .fault ⟨p.die, lsn * 256, 0, 0⟩

/-- A host read that no tier up to 2 can confirm (R180). -/
def State.pendRead (s : State) (id lsn : Nat) : State :=
  (s.makePending lsn).failRead id

/-! ## Routing (R153, R452) -/

/-- A sector at risk of failing Tier 1 (R163). -/
def State.atRisk (s : State) (p : Place) : Bool :=
  let c := s.ch p.ch
  let d := c.die p.die
  (c.weak.any fun w => w.key == p.die * 2 ^ 20 + p.sector / 4096) || d.provisional ||
    (d.late && decide (d.sweepRow ≤ p.sector))

/-- The direct read of a read: behind a suspend where the program runs, behind a withdraw where it has no
suspend left. -/
def State.directRead (s : State) (id : Nat) (r : ReadOp) : State :=
  match s.dieProg r.ch r.die with
  | none => s.sendRead id
  | some (_, g) =>
    if g.status = .suspended then s.sendRead id
    else
      let s := if g.suspends < 4 then s.suspendDie r.ch r.die else s.withdrawDie r.ch r.die
      s.modRead id fun r => { r with status := .suspending, direct := true }

/-- The read-around alone; where too few members can be reached, the read waits for those that come back,
or its sector cannot be confirmed. -/
def State.aroundRead (s : State) (id : Nat) (r : ReadOp) (force : Bool) : State :=
  let row := rowOf r.lsn
  let pos := posOf r.lsn
  let ms := s.candidates row pos [] force
  if 16 ≤ ms.length then s.aroundWith id r (ms.take 16)
  else if 16 ≤ ms.length + s.membersLater row pos then
    s.modRead id fun r => { r with status := .queued, direct := false, around := false }
  else s.pendRead id r.lsn

/-- A host read routed at its issue (R153, R155, R181, R452). -/
def State.routeRead (s : State) (id : Nat) (r : ReadOp) : State :=
  let row := rowOf r.lsn
  let pos := posOf r.lsn
  let p := s.place r.lsn
  if s.wlv.cam.contains r.lsn then s.failRead id
  else
    match s.heldCell r.lsn with
    | some c => s.finishRead id c
    | none =>
      let r : ReadOp := { r with ch := p.ch, die := p.die, sector := p.sector }
      let s := s.modRead id fun _ => r
      if p.absent || !(s.ch p.ch).up || s.underTest 3 (p.ch * 8 + p.die) then s.aroundRead id r true
      else
        let s := (s.wake (domainKey (.channel (Fin.ofNat 72 p.ch)))).wake
          (domainKey (.die (Fin.ofNat 72 p.ch) (Fin.ofNat 8 p.die)))
        let reach := s.reach row pos
        let direct := reach == .free || reach == .suspend
        let ms := s.candidates row pos [] false
        let around := decide (16 ≤ ms.length)
        if s.atRisk p && direct && around then
          let s := s.modCh p.ch fun c => { c with dualReads := satAdd 0xFFFF c.dualReads 1 }
          let s := s.modRead id fun r => { r with dual := true }
          (s.directRead id r).aroundWith id { r with direct := true } (ms.take 16)
        else if direct then s.directRead id r
        else if around then s.aroundWith id r (ms.take 16)
        else if reach == .withdraw then s.directRead id r
        else s

/-- Whether a prefetch read may be issued (R152, R163, R167). -/
def State.prefetchOk (s : State) (r : ReadOp) (p : Place) : Bool :=
  let c := s.ch p.ch
  !p.absent && !s.dieAway p.ch p.die && (s.dieProg p.ch p.die).isNone && !s.atRisk p &&
    (s.heldCell r.lsn).isNone && decide (s.slotsUsed p.ch .prefetch < c.pfSlots.toNat) &&
    decide (s.lanesUsed p.ch p.die (some .prefetch) < c.pfLanes.toNat) &&
    decide (s.lanesUsed p.ch p.die none < 16) && (s.freeTag p.ch).isSome

/-- The prefetch entries of a read retired and the read gone (R168). -/
def State.dropPrefetch (s : State) (id : Nat) : State :=
  match Sparse.find s.stp.reads id with
  | none => s
  | some r =>
    let s := r.belays.foldl (fun s i => s.retirePrefetch i) s
    { s with stp := { s.stp with reads := Sparse.erase s.stp.reads id } }

/-- The reads that waited for a die's program to stop go on (R152, R153). -/
def State.releaseSuspended (s : State) (ch die : Nat) : State :=
  (s.stp.reads.filter fun e => e.2.ch == ch && e.2.die == die && e.2.status == .suspending).foldl
    (fun s e => s.sendRead e.1) s

/-! ## Counting decodes (R162, R191 to R198) -/

/-- A hit in the weak-swath set (R192). -/
def Mch.weakHit (c : Mch) (k : Nat) : Mch :=
  let new : Weak := ⟨k, 1, true⟩
  if c.weak.any fun w => w.key == k then
    { c with weak := c.weak.map fun w =>
        if w.key = k then { w with hits := w.hits + 1, strong := true } else w }
  else if c.weak.length < 1024 then { c with weak := c.weak ++ [new] }
  else
    let least := c.weak.foldl (fun m w => min m w.hits) (2 ^ 64)
    let i := c.weak.findIdx fun w => w.hits == least
    { c with weak := c.weak.eraseIdx i ++ [new] }

/-- A sector above 12 corrected bits keeps its swath in the set for one pass more (R192). -/
def Mch.weakSeen (c : Mch) (k : Nat) : Mch :=
  { c with weak := c.weak.map fun w => if w.key = k then { w with strong := true } else w }

/-- One corrected bit one step from its level (R162), with the residual count of its temperature bucket
(Table TEL-1). -/
def State.trainBit (s : State) (ch die b : Nat) (x : Fin 7 × Bool) : State :=
  let k := b * 8 + x.1.val
  let d := (s.ch ch).die die
  let up := Sparse.get 0 d.up k + b2n x.2
  let down := Sparse.get 0 d.down k + b2n (!x.2)
  let step : Int :=
    if (up - down) * 4 > up + down then 1 else if (down - up) * 4 > up + down then -1 else 0
  let full := decide (256 ≤ up + down)
  let base := Sparse.get 0 d.base k
  let moved := max (-127) (min 127 (base + step))
  let d' : DieState :=
    if full then { d with
      up := Sparse.set 0 d.up k 0, down := Sparse.set 0 d.down k 0
      base := Sparse.set 0 d.base k moved, reload := d.reload || moved != base }
    else { d with up := Sparse.set 0 d.up k up, down := Sparse.set 0 d.down k down }
  let r := d.bucket * 8 + x.1.val
  let s := s.modDie ch die fun _ => d'
  if x.2 then
    { s with tel := { s.tel with residualUp := Sparse.modify 0 s.tel.residualUp r (· + 1) } }
  else
    { s with tel := { s.tel with residualDown := Sparse.modify 0 s.tel.residualDown r (· + 1) } }

/-- Strikes of a swath within the refresh pass of its die (R197): kind 0 for Tier 1 failures, 1 for sectors
with 16 or more corrected bits. -/
def State.strike (s : State) (ch die sector kind : Nat) : State × Nat :=
  let k := (die * 2 ^ 20 + sector / 4096) * 2 + kind
  let n := Sparse.get 0 (s.ch ch).strikes k + 1
  (s.modCh ch fun c => { c with strikes := Sparse.set 0 c.strikes k n }, n)

/-- The swath of a member of a global row ordered retired (R197). -/
def State.orderMember (s : State) (r pos : Nat) (why : RetireWhy) : State :=
  let x := s.logicalOf r pos
  s.orderRetire x.1 x.2.1 x.2.2 why

/-- A decode that fails Tier 1 (R178, R191 to R193, R197). -/
def State.tier1Failure (s : State) (p : Place) (pos b : Nat) : State :=
  let s := s.modCh p.ch fun c => { c with
    tier1Fail := satAdd 0xFFF c.tier1Fail 1
    dcnt := c.countDecode (p.die * 8 + 3) }
  let s := s.bucketAdd 1 (p.ch * 8 + p.die)
  let s := s.addrEntry p.ch p.die p.sector 1
  let s := s.modCh p.ch fun c => c.weakHit (p.die * 2 ^ 20 + p.sector / 4096)
  if b ≤ 12 then s.orderMember p.row pos .error
  else if b < s.stp.rewriteBucket then
    let (s, n) := s.strike p.ch p.die p.sector 0
    if 3 ≤ n then s.orderMember p.row pos .error else s
  else s

/-- A decode that confirms its sector at Tier 0 or Tier 1 (R161, R162, R191, R192, R197). -/
def State.tier1Success (s : State) (p : Place) (pos b : Nat) (x : Sense) : State :=
  let w := p.die * 2 ^ 20 + p.sector / 4096
  let kind := if x.errs = 0 then 0 else if x.errs ≤ 12 then 1 else 2
  let s := s.modCh p.ch fun c => { c with dcnt := c.countDecode (p.die * 8 + kind) }
  let s := s.occ 0x034 x.errs
  let s := if 13 ≤ x.errs then
      (s.modCh p.ch fun c => { c.weakSeen w with heavy := satAdd 0xFFFFF c.heavy 1 }).bucketAdd 0
        (p.ch * 8 + p.die)
    else s
  let s := if 16 ≤ x.errs then s.modCh p.ch fun c => c.weakHit w else s
  let s := if 16 ≤ x.errs ∧ b + 2 < s.stp.rewriteBucket then
      let (s, n) := s.strike p.ch p.die p.sector 1
      if 16 ≤ n then s.orderMember p.row pos .drift else s
    else s
  let s := x.steps.foldl (fun s y => s.trainBit p.ch p.die b y) s
  s.modDie p.ch p.die fun d =>
    let n := d.decoded + 1
    { d with decoded := n, provisional := d.provisional && decide (n < 4096) }

/-- The bucket in which the member of a global row is sensed: from its stamp, or for a parity, whose stamp
the model does not keep, a free value (log entry 26). -/
def State.memberBucket (s : State) (p : Place) (row pos : Nat) : State × Nat :=
  if 2 ≤ pos then
    (s, ((s.ch p.ch).die p.die).bucketOf (s.cell (row * 16 + (pos - 2))).stamp)
  else (s.drawn, s.draw.toNat % 24)

/-- Whether a sensed member passes Tier 0 or Tier 1 (R177, R178, R228). -/
def State.senseOk (s : State) (row pos : Nat) (x : Sense) : Bool :=
  let lsn := row * 16 + (pos - 2)
  decide (x.errs ≤ 20) && !x.miscorrected &&
    (decide (pos < 2) || s.slotValid lsn (s.cell lsn).slot)

/-- One decode of a member counted; the second value says whether it confirmed. -/
def State.decodeMember (s : State) (row pos : Nat) (x : Sense) : State × Bool :=
  let p := s.memberPlace (s.globalRow row) pos
  let (s, b) := s.memberBucket p row pos
  if s.senseOk row pos x then (s.tier1Success p pos b x, true) else (s.tier1Failure p pos b, false)

/-- Poison of a confirmed sector that no list entry covers (R189). -/
def State.noteMediaPoison (s : State) (lsn : Nat) (bits : BitVec 4) : State :=
  let known : Bool := match Sparse.find s.wlv.poison lsn with
    | some e => bits &&& ~~~e.lines == 0#4
    | none => false
  if bits = 0#4 ∨ known then s else s.poisonRestore lsn bits

/-! ## Answers (R164, R165) -/

/-- A host read's sector confirmed: its requests are answered; a dual read whose other path is still out is
kept for its comparison. -/
def State.confirmRead (s : State) (id : Nat) (r : ReadOp) : State :=
  let c := s.cell r.lsn
  let t := (s.finishRead id c).noteMediaPoison r.lsn c.poison
  if r.dual && (r.direct || r.around) then
    let r' : ReadOp := { r with status := .done, belays := [], way := none, victim := none }
    { t with stp := { t.stp with reads := Sparse.put t.stp.reads id r' } }
  else t

/-- The direct path of a read fails: read-around starts, or a dual read's read-around goes on (R69, R70,
R452). -/
def State.directFails (s : State) (id : Nat) (r : ReadOp) : State :=
  if r.status = .done then { s with stp := { s.stp with reads := Sparse.erase s.stp.reads id } }
  else if r.around then
    s.modRead id fun r => { r with
      status := .around, direct := false, failed := r.failed ++ [posOf r.lsn] }
  else
    let s := s.flagWindow r.belays
    let r' : ReadOp := { r with
      direct := false, status := .queued, dual := false, failed := [posOf r.lsn] }
    (s.modRead id fun _ => r').aroundRead id r' true

/-- A member of a read-around fails (R157): a seventeenth member is read, or the path ends. -/
def State.memberFails (s : State) (id : Nat) (r : ReadOp) (pos : Nat) : State :=
  if r.status = .done then { s with stp := { s.stp with reads := Sparse.erase s.stp.reads id } }
  else
    let row := rowOf r.lsn
    let s := s.flagWindow r.belays
    let failed := r.failed ++ [pos]
    match s.candidates row (posOf r.lsn) (r.members ++ failed) true with
    | q :: _ =>
      let held := s.reach row q == .held
      let s := s.readyMember row q
      s.modRead id fun r => { r with
        members := r.members.filter (· != pos) ++ [q], failed := failed
        confirmed := if held then r.confirmed ++ [q] else r.confirmed }
    | [] =>
      if r.direct then
        s.modRead id fun r => { r with around := false, members := [], confirmed := [], failed := failed }
      else s.pendRead id r.lsn

/-! ## Programs (R139, R150) -/

/-- The key of the leaf that counts a program of a physical swath of a module's die (R138). -/
def State.leafKeyAt (s : State) (slot die swath : Nat) : Nat :=
  match s.wlv.remap.find? fun e =>
      e.1 / 2 ^ 20 / 32 == slot && e.2.targetDie == die && e.2.targetSwath == swath with
  | some e => e.1
  | none =>
    let share (a : Adoption) (x : Nat × Nat) : Bool :=
      x.1 == die && decide (x.2 ≤ swath ∧ swath < x.2 + adoptShare a.adopters.length)
    match s.wlv.adoptions.find? fun a => a.slot == slot && a.adopters.any (share a) with
    | some a =>
      let i := a.adopters.findIdx (share a)
      let base := (a.adopters.getD i (0, 0)).2
      swathKey slot a.die ((swath - base) * a.adopters.length + i)
    | none => swathKey slot die swath

/-- The place of a program now: a mapped target follows its translation, an unmapped one stays. -/
def State.progPlace (s : State) (g : Prog) : Nat × Nat × Nat :=
  if g.kind = .unmapped ∨ 0 < g.fails then (g.ch, g.die, g.sector)
  else
    let p := match g.data with
      | .sector l _ => s.place l
      | .parity r q _ => s.memberPlace (s.globalRow r) (b2n q)
    (p.ch, p.die, p.sector)

/-- The 4 KiB row of what a program writes. -/
def ProgData.row : ProgData → Nat
  | .sector l _ => rowOf l
  | .parity r _ _ => r

/-- Whether a program waits at the copy pointer of a migration (R145). -/
def State.atPointer (s : State) (g : Prog) : Bool :=
  g.kind != .unmapped &&
    (let pos := match g.data with
      | .sector l _ => posOf l
      | .parity _ q _ => b2n q
     let r := s.globalRow g.data.row
     let x := s.logicalOf r pos
     match Sparse.find s.wlv.remap (swathKey x.1 x.2.1 x.2.2) with
     | some e => e.migrating && e.pointer == r / max 1 s.wlv.dies % 4096
     | none => false)

/-- Programs that the held permits cover, but for those of the dump (Table BUD-1). -/
def State.permitPrograms (s : State) : Nat :=
  ((s.reef.held.filter fun e => e.2.holder != .dump).map fun e => e.2.programs).sum

/-- Programs on dies that the permits cover: a withdrawn program has returned its tokens. -/
def State.coveredPrograms (s : State) : Nat :=
  s.stp.progs.countP fun e => e.2.onDie && e.2.status != .withdrawn && !(s.glb.dumping && s.ofWriter e.2)

/-- Whether one more program is covered by permits (R329); write-through programs of a dump take dump permits
by the hardwired path (R330). -/
def State.permitted (s : State) (g : Prog) : Bool :=
  (s.glb.dumping && s.ofWriter g) || decide (s.coveredPrograms < s.permitPrograms)

/-- The row that the patrol scrub takes next. -/
def State.scrubTarget (s : State) : Nat := s.stp.scrubHead.head?.getD s.stp.scrubRow

/-- A host read that needs a die: queued for it, waiting for its suspend, sensing, or to be transferred
(R150, R152). -/
def State.hostReadOn (s : State) (ch die : Nat) : Bool :=
  s.stp.reads.any fun e =>
    let r := e.2
    let link := r.status == .suspending || r.status == .sensing || r.status == .ready
    r.cls == .demand &&
      ((r.ch == ch && r.die == die && (r.status == .queued || link)) ||
        (r.around && r.status != .done && r.members.any fun q =>
          !r.confirmed.contains q &&
            (let p := s.memberPlace (s.globalRow (rowOf r.lsn)) q
             p.ch == ch && p.die == die)))

/-! ## Die temperatures (R158, R211) -/

/-- The temperature bucket (Table READ-2). -/
def tempBucket (t : Int) : Nat :=
  if t < 25 then 0 else if t < 35 then 1 else if t < 45 then 2 else if t < 55 then 3
  else if t < 65 then 4 else if t < 75 then 5 else if t < 85 then 6 else 7

/-- The bucket after a reading: it falls only 2 °C below a boundary (log entry 27). -/
def nextBucket (cur : Nat) (t : Int) : Nat :=
  if cur ≤ tempBucket t then tempBucket t else min cur (tempBucket (t + 2))

/-- An alert cause taken by the device (Table CHIUT-9). -/
def State.alertCause (s : State) (k cause : Nat) (v : Severity) : State :=
  (s.modSlot k fun x => { x with alertCause := BitVec.ofNat 8 cause }).fire (slotSrc k) v ⟨k, 0, cause, 0⟩

/-- A die temperature that a STATUS reported: the clock's bucket, and causes 2 and 3 of Table CHIUT-9. -/
def State.dieTemp (s : State) (ch die : Nat) (t : Int) : State :=
  let k := moduleOf ch
  let was := (s.ch ch).die die
  let s := s.modDie ch die fun d => { d with
    tempC := t, hot := if 95 ≤ t then true else if t < 90 then false else d.hot }
  let s := if 95 ≤ t ∧ !was.hot then
      (s.fire (chanSrc ch 11) .fault ⟨die, 0, 0, t.toNat⟩).alertCause k 2 .fault
    else s
  if 105 ≤ t then (s.alertCause k 3 .critical).failModule k else s

end Sys2Proof.Machine
end

