-- ==== Sys2Proof/Machine/Budgets.lean ====
section
/-! DEFINITION. The commands of the reef, the clocks and the sleep states (R329 to R343). -/

namespace Sys2Proof.Machine

open Sys2Proof

/-! ## The reef (R329 to R334) -/

/-- SEQ is in DUMP or HOLD. -/
def State.inDump (s : State) : Bool := s.seq.state == .dump || s.seq.state == .hold

/-- The media budget in force, in W (R330). -/
def State.effWatts (s : State) : Nat := if s.inDump then 280 else s.reef.budgetW

/-- Tokens of a pool (R330). -/
def State.poolSize (s : State) (media : Bool) : Nat :=
  if !media then s.reef.pkgTokens
  else if s.seq.state == .down || s.seq.state == .strike then 0 else s.effWatts * 1000

/-- Tokens held of a pool. -/
def State.heldTokens (s : State) (media : Bool) : Nat :=
  ((s.reef.held.filter fun e => e.2.media == media).map fun e => e.2.cost).sum

/-- Pool, number of programs and cost of one, and level of a holder (Table BUD-1). A standing stream covers no
program. -/
def State.permitFor (s : State) (h : Holder) (programs : Nat) (target : Option Nat) : Permit :=
  let progs (n level : Nat) : Permit := ⟨h, true, n, s.reef.prog, s.reef.prog * n, level, none, s.clock⟩
  let whole (media : Bool) (cost level : Nat) : Permit := ⟨h, media, 0, 0, cost, level, none, s.clock⟩
  let p := match h with
    | .dump => progs programs 1
    | .setUrgent => progs programs 2
    | .setEqual => progs programs 3
    | .rewrite => progs programs 3
    | .metadata => progs programs 3
    | .scrubPass => whole true 2000 3
    | .hbmRecal => whole false 1500 3
    | .setLow => progs programs 4
    | .rebuildProgram => progs programs 4
    | .rebuildStream => whole true 6000 4
    | .sweepSet => progs 18 5
    | .selfTest cost => whole false cost 5
  { p with target := if p.programs = 0 then none else (target.filter (· < 18)).map fun k => Fin.ofNat 18 k }

/-- The level that u gives a write-back set (Tables BUD-1 and PERS-1). -/
def State.setLevel (s : State) : Nat :=
  if 85 ≤ s.chargedPercent then 2 else if 50 ≤ s.chargedPercent then 3 else 4

/-- The level of a waiting request now: a write-back set takes the level of u at each evaluation, less the
rises of its wait (R331). -/
def State.levelNow (s : State) (p : Permit) : Nat :=
  let set (base : Nat) : Nat := max 2 (s.setLevel - (base - p.level))
  match p.holder with
  | .setUrgent => set 2
  | .setEqual => set 3
  | .setLow => set 4
  | _ => p.level

/-- A request refused outright (R333). -/
def State.reefRefuses (s : State) (p : Permit) : Bool :=
  decide (s.poolSize p.media < p.cost) || (s.inDump && p.holder != .dump) ||
    (s.reef.failed && p.holder != .dump)

/-- REEF_REQUEST: a permit requested, queued at its level or refused outright (R331, R333). -/
def execReefRequest (holder : Holder) (programs : Nat) (target : Option Slot) (s : State) : Out :=
  .next (
    let p := s.permitFor holder programs (target.map fun k => k.val)
    if s.reefRefuses p then
      State.fire { s with reef := { s.reef with refusals := satAdd 0xFFFF s.reef.refusals 1 } } 1263 .note
        Detail.none
    else { s with reef := { s.reef with
      nextId := s.reef.nextId + 1, waiting := Sparse.put s.reef.waiting s.reef.nextId p } })

/-- The tokens that the cap leaves programs of one module (R332). -/
def State.moduleCap (s : State) (k : Nat) : Nat :=
  let cap := 2 * s.poolSize true / max 1 s.presentSlots.length
  if bitOf s.reef.capHalved k then cap / 2 else cap

/-- Whether the cap of its module allows a request (R332). -/
def State.capAllows (s : State) (p : Permit) : Bool :=
  match p.target with
  | none => true
  | some k =>
    let held := ((s.reef.held.filter fun e => e.2.target == some k).map fun e => e.2.cost).sum
    decide (held + p.cost ≤ s.moduleCap k.val)

/-- The waiting requests in the order of their levels, the oldest first within a level. -/
def State.reefOrder (s : State) : List (Nat × Permit) :=
  [1, 2, 3, 4, 5].flatMap fun l => s.reef.waiting.filter fun e => s.levelNow e.2 == l

/-- The request that the reef grants now: the head, or past heads that wait on their module cap alone the first
of another module (R331). -/
def State.reefPick (s : State) : List (Nat × Permit) → List (Option Slot) → Option (Nat × Permit)
  | [], _ => none
  | e :: r, blocked =>
    if e.2.target.isSome && blocked.contains e.2.target then s.reefPick r blocked
    else if s.poolSize e.2.media < s.heldTokens e.2.media + e.2.cost then none
    else if s.capAllows e.2 then some e
    else s.reefPick r (e.2.target :: blocked)

/-- REEF_GRANT: the head of the highest waiting level is granted when tokens and cap allow; a failed arbiter, and
a dump, let dump permits alone through (R330, R331, R333, R334). -/
def execReefGrant (s : State) : Out :=
  .next (
    let order := if s.reef.failed || s.inDump then s.reefOrder.filter fun e => e.2.holder == .dump
      else s.reefOrder
    match s.reefPick order [] with
    | none => s
    | some (id, p) => { s with reef := { s.reef with
        waiting := Sparse.erase s.reef.waiting id
        held := Sparse.put s.reef.held id p } })

/-- PERMIT_RELEASE: a permit of programs returns the tokens of one program that has ended; any other permit is
released whole (R329, Table BUD-1). -/
def execPermitRelease (id : Nat) (s : State) : Out :=
  .next (match Sparse.find s.reef.held id with
    | none => s
    | some p =>
      let gone := { s with reef := { s.reef with held := Sparse.erase s.reef.held id } }
      if p.programs = 0 then
        (if s.trm.slice.isSome && (match p.holder with
          | .selfTest _ => true
          | _ => false) then s else gone)
      else if p.holder != .dump && decide (s.permitPrograms ≤ s.coveredPrograms) then s
      else if p.programs = 1 then gone
      else { s with reef := { s.reef with held := Sparse.put s.reef.held id { p with
        programs := p.programs - 1, cost := p.cost - p.each } } })

/-- REEF_LEVEL_RAISE: 10 ms of waiting raise a request one level, never above level 2 (R331). -/
def execReefLevelRaise (id : Nat) (s : State) : Out :=
  .next (match Sparse.find s.reef.waiting id with
    | none => s
    | some p =>
      if p.level ≤ 2 || !s.elapsed p.since (ms 10) then s
      else { s with reef := { s.reef with
        waiting := Sparse.put s.reef.waiting id { p with level := p.level - 1, since := s.clock } } })

/-- REEF_ARBITER_FAIL: the arbiter fails closed until PON (R334). -/
def execReefArbiterFail (s : State) : Out :=
  .next (if s.reef.failed then s
    else State.fire { s with reef := { s.reef with failed := true } } 1262 .critical Detail.none)

/-- MODULE_CAP_RESTORE: temp_max below 80 °C for 10 s restores the cap (R332). -/
def execModuleCapRestore (k : Slot) (s : State) : Out :=
  .next (match (s.slot k.val).coolSince with
    | some t =>
      if bitOf s.reef.capHalved k.val && s.elapsed t (sec 10) then
        { s with reef := { s.reef with capHalved := setBit s.reef.capHalved k.val false } }
      else s
    | none => s)

/-! ## The always-on clock (R336) -/

/-- XTAL_LOST: the always-on clock moves to the RC (R336); in the first 2 s after PON the RC is no fault
(R347). -/
def execXtalLost (s : State) : Out :=
  .next (if s.clk.onRc || !s.rst.aon || (!s.clk.xtalOk && !s.elapsed s.rst.bootAt (sec 2)) then s
    else
      (State.fire { s with clk := { s.clk with xtalOk := false, onRc := true } } 1264 .fault
        Detail.none).settleLevel)

/-- XTAL_RETURN: the crystal in range for 1 s takes the always-on clock; a return is recorded (R336). -/
def execXtalReturn (s : State) : Out :=
  .next (if s.clk.xtalOk || !s.rst.aon then s
    else
      let was := s.clk.onRc
      let s := { s with clk := { s.clk with xtalOk := true, onRc := false } }
      if was then (s.fire 1264 .note Detail.none).settleLevel else s)

/-- RC_TRIM: every 1 s the RC is trimmed against a usable reference (R336). -/
def execRcTrim (s : State) : Out :=
  .next (if s.clk.refOk = 0#2 || !s.elapsedOpt s.clk.rcTrimAt (sec 1) then s
    else { s with clk := { s.clk with rcTrimAt := some s.clock } })

/-! ## References (R337) -/

/-- The reference that PLL `i` takes at PON (Table BUD-3): 0 and 1 the DPLLs, 2 MPLL, 3 and 4 the ports, 5 + k
the Chiut PLL of module k. -/
def pllHome (i : Nat) : Nat := if i = 1 ∨ i = 4 then 1 else if 5 ≤ i then (i - 5) % 2 else 0

/-- The reference of a PLL now; `plls` lists the PLLs that moved away from their home. -/
def Clk.pllRef (c : Clk) (i : Nat) : Nat := Sparse.get (pllHome i) c.plls i

/-- Every PLL on reference `a` moved to the other one, each move counted (R337). -/
def Clk.movePlls (c : Clk) (a : Nat) : Clk :=
  let moved := (List.range 23).filter fun i => c.pllRef i == a
  let put (m : Sparse Nat) (i : Nat) : Sparse Nat :=
    if pllHome i = 1 - a then Sparse.erase m i else Sparse.put m i (1 - a)
  { c with plls := moved.foldl put c.plls, refSwitches := satAdd 0xFF c.refSwitches moved.length }

/-- REFCLK_LOST: the PLLs of a lost reference move to the other one; with none left the holdover begins
(R337). -/
def execRefclkLost (n : Fin 2) (s : State) : Out :=
  .next (if !bitOf s.clk.refOk n.val then s
    else
      let c := { s.clk with refOk := setBit s.clk.refOk n.val false }
      if c.refOk = 0#2 then
        (State.fire { s with clk := { c with holdover := some s.clock } } (1265 + n.val) .critical
          Detail.none).settleLevel
      else
        (State.fire { s with clk := c.movePlls n.val } (1265 + n.val) .fault Detail.none).settleLevel)

/-- REFCLK_RECOVERED: a reference in range for 100 ms; PLLs move to it only where theirs is lost (R337). -/
def execRefclkRecovered (n : Fin 2) (s : State) : Out :=
  .next (if bitOf s.clk.refOk n.val then s
    else
      let c := { s.clk with refOk := setBit s.clk.refOk n.val true, holdover := none, freeRun := false }
      let other := 1 - n.val
      let c := if bitOf c.refOk other || c.dpllLock = 0#2 then c else c.movePlls other
      State.settleLevel { s with clk := c })

/-- HOLDOVER_EXPIRY: 1 ms after both references were lost the PLLs run free (R337). -/
def execHoldoverExpiry (s : State) : Out :=
  .next (match s.clk.holdover with
    | some t =>
      if s.elapsed t (ms 1) then
        State.settleLevel { s with clk := { s.clk with holdover := none, freeRun := true } }
      else s
    | none => s)

/-! ## PLLs (R338, R339) -/

/-- The DPLL that clocks the datapath. -/
def Clk.active (c : Clk) : Nat := b2n c.dpllActive

/-- DPLL_LOCK_LOSS: the datapath moves to the other DPLL, or stops where that one is not locked (R338). -/
def execDpllLockLoss (s : State) : Out :=
  .next (
    let c := s.clk
    let a := c.active
    if !s.rst.datapath || !bitOf c.dpllLock a then s
    else
      let c := { c with dpllLock := setBit c.dpllLock a false }
      if bitOf c.dpllLock (1 - a) then
        (State.fire { s with clk := { c with dpllActive := !c.dpllActive, dpllSpareLost := true } } 1267 .fault
          (Detail.ofUnit a)).settleLevel
      else
        (State.fire { s with clk := { c with dpStopped := true } } 1267 .critical
          (Detail.ofUnit a)).settleLevel)

/-- DPLL_RELOCK: a relocked DPLL is the spare again, or restarts a stopped datapath through a SYS (R338). -/
def execDpllRelock (n : Fin 2) (s : State) : Out :=
  .next (
    let c := s.clk
    if !s.rst.datapath || bitOf c.dpllLock n.val || bitOf c.dpllFailed n.val || c.refOk = 0#2 then s
    else
      let lock := setBit c.dpllLock n.val true
      if c.dpStopped then
        let s := { s with clk := { c with
          dpllLock := lock, dpStopped := false, dpllActive := n.val == 1, dpllSpareLost := true } }
        s.settleLevel.requestReset .sys 0x06
      else State.settleLevel { s with clk := { c with dpllLock := lock, dpllSpareLost := false } })

/-- MPLL_LOCK_LOSS: Mainmast halts (R12, R339). -/
def execMpllLockLoss (s : State) : Out :=
  .next (if !s.clk.mpllLock then s
    else
      (State.fire { s with
        clk := { s.clk with mpllLock := false }
        mst := { s.mst with running := false, wdPaused := true } } 1268 .fault Detail.none).settleLevel)

/-- MPLL_RELOCK: the relocked MPLL is followed by a CORE reset (R339). -/
def execMpllRelock (s : State) : Out :=
  .next (if s.clk.mpllLock || s.clk.mpllFailed || !s.rst.datapath || s.clk.refOk = 0#2 then s
    else (State.settleLevel { s with clk := { s.clk with mpllLock := true } }).requestReset .core 0x09)

/-! ## Sleep (R340 to R342) -/

/-- The class of CLK.SLEEP_CTRL that limits a domain. -/
inductive SleepClass where
  | chiut | slice | core | aux | none
  deriving DecidableEq, Repr

/-- The class of a domain by its number. -/
def sleepClass (k : Nat) : SleepClass :=
  if k = 2 then .core
  else if 3 ≤ k ∧ k < 20 then .slice
  else if 20 ≤ k ∧ k < 92 then .chiut
  else if k = 1002 then .aux
  else .none

/-- The limit of a class: its field of CLK.SLEEP_CTRL, and the limits that late wakes set (R340, R342). -/
def State.classLimit (s : State) (c : SleepClass) : Nat :=
  let field := match c with
    | .chiut => s.clk.maxChiut.toNat
    | .slice => s.clk.maxSlice.toNat
    | .core => s.clk.maxCore.toNat
    | .aux => s.clk.maxAux.toNat
    | .none => 4
  (s.clk.sleep.filter fun e => sleepClass e.1 == c && c != .none).foldl
    (fun m e => min m e.2.limit.code) field

/-- Whether a CXL.mem port is in L0 or L0p. -/
def State.memAwake (s : State) : Bool :=
  [s.port0, s.port1].any fun x => x.memEnabled && x.pm != .l1

/-- The deepest state that Table BUD-5 permits a domain. -/
def State.deepestTable (s : State) (d : Domain) : Nat :=
  match d with
  | .port p => if (s.port p).enabled && (s.port p).linkUp then 2 else 4
  | .core => if s.memAwake then 0 else 3
  | .slice n =>
    if (s.slice n.val).role = .failed then 4
    else if n.val = 16 ∧ (s.slice 16).serves.isNone then 1
    else if s.memAwake then 0 else 3
  | .channel n =>
    if (s.ch n.val).failed then 4
    else
      match (s.slot (moduleOf n.val)).state with
      | .inService => 2
      | .rebuilding => 2
      | .retiring => 2
      | .waiting => 3
      | .empty => 4
      | .safe => 4
      | .failed => 4
      | _ => 0
  | .die _ _ => 2
  | .mainmast => 1
  | .spareCore => 0
  | .aux =>
    let counts := s.pmu.units.any fun e => e.2.en != 0#8 && !e.2.freeze
    if s.kce.loaded != 0#8 || s.kce.owner != .none || counts then 3 else 4
  | .aon => 0

/-- The deepest permitted state of a domain (R340). -/
def State.deepest (s : State) (d : Domain) : Nat :=
  min (s.deepestTable d) (s.classLimit (sleepClass (domainKey d)))

/-- Wake time of a domain from a state in ns (Table BUD-5); none where the domain has no such state. -/
def wakeNs (d : Domain) (st : Nat) : Option Nat :=
  match d, st with
  | .port _, 1 => some 0
  | .port _, 2 => some 8000
  | .port _, 4 => some 0
  | .core, 1 => some 10
  | .core, 2 => some 1000
  | .core, 3 => some 8000
  | .slice _, 1 => some 20
  | .slice _, 2 => some 1000
  | .slice _, 3 => some 8000
  | .slice _, 4 => some 0
  | .channel _, 1 => some 20
  | .channel _, 2 => some 100
  | .channel _, 3 => some 20000
  | .channel _, 4 => some 2000000
  | .die _ _, 1 => some 50
  | .die _ _, 2 => some 200
  | .mainmast, 1 => some 50
  | .aux, 1 => some 20
  | .aux, 2 => some 1000
  | .aux, 3 => some 20000
  | .aux, 4 => some 100000
  | _, _ => none

/-- Entry time plus minimum residency of a state in ns (Table BUD-4). -/
def stayNs (st : Nat) : Nat :=
  match st with
  | 1 => 2 + 100
  | 2 => 100 + 2000
  | 3 => 1000 + 50000
  | 4 => 10000 + 10000000
  | _ => 0

/-- A domain that holds work, a permit or a maintenance tracker (R341, R342). -/
def State.domBusy (s : State) (d : Domain) : Bool :=
  match d with
  | .port p => (s.bly.entries.any fun e => e.2.port == p) || 0 < (s.port p).ingressReq.length ||
      0 < (s.port p).ingressRwd.length
  | .core => !s.bly.entries.isEmpty || !s.stp.progs.isEmpty || !s.stp.reads.isEmpty || !s.reef.held.isEmpty
  | .slice n => (s.slice n.val).maintBusy ||
      s.bly.entries.any fun e => (s.slice n.val).serves == some (sliceHash (lsnOf e.2.req.dpa))
  | .channel n => (s.stp.progs.any fun e => e.2.ch == n.val) || s.stp.reads.any fun e => e.2.ch == n.val
  | .die n e => (s.stp.progs.any fun g => g.2.ch == n.val && g.2.die == e.val) ||
      s.stp.reads.any fun g => g.2.ch == n.val && g.2.die == e.val
  | .mainmast => !s.evt.fifo.isEmpty || (List.range 5).any fun m => (s.mb m).st == .executing
  | .spareCore => true
  | .aux => s.kce.busy || s.trm.slice.isSome
  | .aon => true

/-- The state of R341: the deepest permitted one that fits before the next known event. -/
def State.sleepChoice (s : State) (d : Domain) (t : Option Nat) : Nat :=
  let fits (st : Nat) : Bool :=
    decide (st ≤ s.deepest d) && (match wakeNs d st with
      | none => false
      | some w =>
        match t with
        | none => true
        | some t => decide (stayNs st + w ≤ t))
  (([4, 3, 2, 1].filter fits).head?).getD 0

/-- SLEEP_EVALUATE: a domain idle for 1 µs chooses its state, and the start of its wake (R341). -/
def execSleepEvaluate (d : Domain) (nextNs : Option Nat) (s : State) : Out :=
  .next (
    let k := domainKey d
    if s.domBusy d then s.wake k
    else
      let st := s.sleepChoice d nextNs
      let at_ := if st = 0 then none
        else nextNs.map fun t => s.clock + ns (t - (wakeNs d st).getD 0)
      s.modDom k fun x => { x with state := Sleep.ofCode st, wakeAt := at_ })

/-- SCHEDULED_WAKE: the scheduled wake of a domain starts (R341). -/
def execScheduledWake (d : Domain) (s : State) : Out :=
  .next (match (s.dom (domainKey d)).wakeAt with
    | some t => if t ≤ s.clock then s.wake (domainKey d) else s
    | none => s)

/-- One state shallower. -/
def shallower (x : Sleep) : Sleep := Sleep.ofCode (x.code - 1)

/-- WAKE_LATE: a domain of the request path not in Trim within its wake time is recorded at WARN, and its class
is limited to one state shallower until PON (R342; the source of a domain that is no port, log entry 32). -/
def execWakeLate (d : Domain) (s : State) : Out :=
  .next (
    let k := domainKey d
    let x := s.dom k
    if x.state = .trim then s
    else
      let s := s.modDom k fun y => { y with
        state := .trim, wakeAt := none
        limit := if (shallower x.state).code < y.limit.code then shallower x.state else y.limit }
      match d with
      | .port p => s.fire (portSrc p 12) .warn (Detail.ofUnit (portIdx p))
      | _ => s.warnRecord 0xFF 0)

end Sys2Proof.Machine
end

