-- ==== Sys2Proof/Machine/Kce.lean ====
section
/-! DEFINITION. The commands of the keyed check engine: key registers, the cipher lock, core G messages,
randomness and self-tests, and the steps of a seal and of a verify-read. -/

namespace Sys2Proof.Machine

open Sys2Proof

/-! ## Key registers (R244, R246) -/

/-- The key written through KCE.KEY_DATA_0 to KCE.KEY_DATA_7. -/
def Kce.keyInput (k : Kce) : BitVec 256 :=
  BitVec.ofNat 256 ((List.range 8).foldl
    (fun a i => a + (Sparse.get 0#32 k.keyData i).toNat * 2 ^ (32 * i)) 0)

/-- A KEY_CMD executed, with its result where it is not refused; every KEY_DATA word is zeroed (R244). -/
def State.kceCommand (s : State) (op : BitVec 2) (r : Option State) : State :=
  let t := match r with
    | some t => t
    | none => { s with kce := { s.kce with cmdError := true } }
  { t with kce := { t.kce with keyData := [], op := op } }

/-- Whether KEY_CMD takes a write on a path (R246): the owner's, or Mainmast's for register 0. -/
def Kce.takesKeyCmd (k : Kce) (path : Path) : Bool :=
  k.isOwner path || (path == .mainmast && k.reg == 0#3)

/-- Whether R244 lets the command go on: registers 1 to 7 only while Mainmast firmware holds the lock. -/
def Kce.keyCmdAllowed (k : Kce) : Bool :=
  k.reg == 0#3 || k.owner == .firmware

/-- A write by a non-owner (R246). -/
def State.notOwner (s : State) : State :=
  { s with kce := { s.kce with notOwner := true } }

/-- KEY_CMD.go on a path with the op and register the word holds. -/
def State.kceKeyCmd (s : State) (path : Path) (op : BitVec 2) : State :=
  if !s.kce.takesKeyCmd path then s.notOwner
  else
    let r := s.kce.reg.toNat
    let res : Option State :=
      if !s.kce.keyCmdAllowed then none
      else if op = 0b01#2 then s.kceLoad r s.kce.keyInput
      else if op = 0b10#2 then s.kceZeroize r
      else none
    s.kceCommand op res

/-- KCE_KEY_LOAD: a KEY_CMD.go with op LOAD (R244). -/
def execKceKeyLoad (path : Path) (s : State) : Out := .next (s.kceKeyCmd path 0b01#2)

/-- KCE_KEY_ZEROIZE: a KEY_CMD.go with op ZEROIZE (R244). -/
def execKceKeyZeroize (path : Path) (s : State) : Out := .next (s.kceKeyCmd path 0b10#2)

/-! ## The cipher lock (R245, R247) -/

/-- Whether a code of Table KCE-2 may request the lock; debug only while access is granted. -/
def State.mayRequest (s : State) (c : Nat) : Bool :=
  decide (1 ≤ c ∧ c ≤ 5) && (c != 5 || s.dbg.granted)

/-- LOCK_REQUEST: the codes requested in one cycle; the lowest wins a free lock (R245). -/
def execLockRequest (codes : List (Fin 8)) (s : State) : Out :=
  let cs := (codes.map Fin.val).filter s.mayRequest
  .next (match cs with
    | [] => s
    | c :: rest => if s.kce.owner = .none then s.grantLock (ownerOf (rest.foldl min c)) else s)

/-- LOCK_RELEASE: the owner writes release (R245, R247). -/
def execLockRelease (code : Fin 8) (s : State) : Out :=
  .next (if s.kce.owner ≠ .none ∧ s.kce.owner.code = code.val then s.dropLock else s)

/-- Whether the limit of Table KCE-2 on the present owner has passed. -/
def State.lockOverdue (s : State) : Bool :=
  match s.kce.owner with
  | .firmware => !s.kce.busy && s.elapsed s.kce.ownedAt (ms 10)
  | .selfTest => s.elapsed s.kce.ownedAt (ms 2)
  | .debug => !s.dbg.granted
  | _ => false

/-- LOCK_REVOKE: a revocation under Table KCE-2, recorded at WARN with the owner revoked (R247). -/
def execLockRevoke (s : State) : Out :=
  .next (if s.lockOverdue then
    s.dropLock.fire 1229 .warn (Detail.ofUnit s.kce.owner.code) else s)

/-! ## Core G messages (R241) -/

/-- The outcome that refuses a start, if one does. -/
def Kce.startError (k : Kce) : Option MsgOutcome :=
  if k.msgLen = 0#41 ∨ 2 ^ 40 < k.msgLen.toNat then some .length
  else if k.coreGFenced then some .engine
  else if k.keyReg = 0#3 ∨ !bitOf k.loaded k.keyReg.toNat then some .keyAbsent
  else none

/-- MSG_START: a message with the declared length (R241); a start while one is in progress is ignored. -/
def execMsgStart (path : Path) (s : State) : Out :=
  .next (if !s.kce.isOwner path then s.notOwner
    else if s.kce.busy then s
    else
      let k := { s.kce with tag := 0#128 }
      match k.startError with
      | some e => { s with kce := k.endMsg e }
      | none => { s with kce := { k with busy := true, cmac := cmacStart (k.key k.keyReg.toNat) } })

/-- Message bytes still expected. -/
def Kce.remaining (k : Kce) : Nat := k.msgLen.toNat - k.cmac.fed

/-- DATA_IN_WRITE: the next four message bytes, of which those within the declared length count (R241). -/
def execDataInWrite (path : Path) (data : Word) (s : State) : Out :=
  .next (if !s.kce.isOwner path then s.notOwner
    else if !s.kce.busy ∨ s.kce.stallG then s
    else if s.kce.remaining = 0 then { s with kce := s.kce.endMsg .overrun }
    else { s with kce := { s.kce with
      cmac := cmacFeed s.kce.cmac (bytesOf (min 4 s.kce.remaining) data) } })

/-- MSG_FINISH: the message ends, with its tag where the declared length was received (R241). -/
def execMsgFinish (path : Path) (s : State) : Out :=
  .next (if !s.kce.isOwner path then s.notOwner
    else if !s.kce.busy ∨ s.kce.stallG then s
    else if s.kce.remaining = 0 then
      { s with kce := { s.kce.endMsg .ok with tag := cmacTag s.kce.cmac, ownedAt := s.clock } }
    else { s with kce := { s.kce.endMsg .underrun with ownedAt := s.clock } })

/-! ## Randomness and self-tests (R242, R243) -/

/-- DRBG_RESEED: the reseed of a core, due every 1 ms; without output that passed its tests the core stalls
at the next block boundary (R242). -/
def execDrbgReseed (coreG : Bool) (ok : Bool) (s : State) : Out :=
  let k := { s.kce with entropyOk := ok }
  .next { s with kce :=
    if coreG then { k with stallG := !ok }
    else { k with stallL := if ok then none else some (s.kce.stallL.getD s.clock) } }

/-- ENTROPY_STALL_TIMEOUT: a core G message stalled for 1 ms ends with ENTROPY (R242). -/
def execEntropyStallTimeout (s : State) : Out :=
  .next (if s.kce.stallG ∧ s.kce.busy then
    let s := (s.fire 1226 .warn Detail.none)
    let s := { s with kce := s.kce.endMsg .entropy }
    s.streamFails .entropy
  else s)

/-- Core G fenced: its message ends in ENGINE, and so does the streamer's command (R243). -/
def State.failCoreG (s : State) : State :=
  let s := ({ s with kce := { s.kce with coreGFenced := true } }).fire 1225 .fault Detail.none
  let s := if s.kce.busy then { s with kce := s.kce.endMsg .engine } else s
  s.streamFails .engine

/-- KCE_SELF_TEST: the example vectors of SP 800-38B on one core; a core that fails is fenced and a stream
on core G ends with ENGINE (R243). -/
def execKceSelfTest (coreG : Bool) (pass : Bool) (s : State) : Out :=
  .next (if pass then s
    else if coreG then s.failCoreG
    else ({ s with kce := { s.kce with coreLFenced := true } }).fire 1224 .fault Detail.none)

/-! ## A seal (R252) -/

/-- Whether a belay entry still holds a write to an extent (R252, step 3). -/
def State.writesTo (s : State) (base len : Nat) : Bool :=
  s.bly.entries.any fun e => e.2.reserves != 0 && e.2.st != .respond &&
    decide (base * 2 ^ 20 ≤ e.2.req.dpa ∧ e.2.req.dpa < (base + len) * 2 ^ 20)

/-- SEAL_DRAIN_DONE: no write to the extent is left; the seal sequence is stored and core G started
(R252, steps 3 to 5). -/
def execSealDrainDone (stored : Bool) (s : State) : Out :=
  .next (match s.kce.sealing with
    | none => s
    | some r =>
      if r.started ∨ s.writesTo r.base r.len then s
      else
        let (s, ok) := s.counterInc 3 stored
        if !ok then s.sealFails .storeFailed
        else
          let seq := BitVec.ofNat 64 (s.sea.counter 3)
          let r := { r with started := true, seq := seq }
          let s := { s with kce := { s.kce with sealing := some r } }
          s.startStream r.keyReg (64 + r.len * 2 ^ 20)
            (sealHeader r.keyReg r.id (r.base * 2 ^ 20) r.len seq r.time))

/-- The line that a stream reads next: none while it waits for Tier 3, and otherwise its bytes, or nothing
where it reads Poison or its slot is EMPTY (R253, R448). -/
def State.streamLine (s : State) (dpa : Nat) : Option (Option Line) :=
  if s.slotEmpty (lsnOf dpa) then some none
  else
    match s.peekLine (lsnOf dpa) (lineOf dpa) with
    | none => none
    | some (d, poison) => if poison then some none else some (some d)

/-- SEAL_LINE_FEED: the next confirmed line of the extent goes to core G, or Poison ends the seal (R252,
R253); the last line completes the tag. -/
def execSealLineFeed (s : State) : Out :=
  .next (match s.kce.sealing with
    | none => s
    | some r =>
      if !r.started ∨ r.tagDone ∨ s.kce.stallG then s
      else
        match s.streamLine (r.base * 2 ^ 20 + 64 * r.nextLine) with
        | none => s
        | some none => s.sealFails .poisoned
        | some (some d) =>
          let n := r.nextLine + 1
          let s := s.feedLine d
          let s := s.bgProgress r.mbox.val (100 * n / (r.len * 16384 + 1))
          if n = r.len * 16384 then
            let (s, t) := s.finishStream
            { s with kce := { s.kce with
              sealing := some { r with nextLine := n, tagDone := true, tag := t } } }
          else { s with kce := { s.kce with sealing := some { r with nextLine := n } } })

/-- The payload of a SEAL pair (R263). -/
def sealPayload (id : Nat) (g : Registry) : List Byte :=
  bytesOf 8 g.seq ++ leBytes 2 id ++ leBytes 8 g.base ++ leBytes 4 g.len ++ leBytes 1 g.keyReg ++
    bytesOf 16 g.tag ++ leBytes 4 g.generation

/-- SEAL_REGISTRY_CONFIRMED: the registry copies stand, the SEAL pair is written, and the store of the
extent list commits the seal (R252, steps 6 to 9). -/
def execSealRegistryConfirmed (stored : Bool) (s : State) : Out :=
  .next (match s.kce.sealing with
    | none => s
    | some r =>
      if !r.tagDone ∨ (s.mb r.mbox.val).bgAborted then s
      else
        let g : Registry := ⟨r.keyReg, r.base * 2 ^ 20, r.len, r.seq, r.time, r.tag, 1⟩
        let s := { s with
          kce := { s.kce with registry := Sparse.put s.kce.registry r.id g }
          media := { s.media with registry := Sparse.put s.media.registry r.id (registryImage r.id g) } }
        let s := s.logPut .note .sealDone true (sealPayload r.id g)
        if !stored then (s.storeFails).sealFails .storeFailed
        else
          let e : Extent := ⟨r.base, r.len, true⟩
          let s := { s with
            sea := { s.sea with extents := Sparse.put s.sea.extents r.id e }
            kce := { s.kce with extents := Sparse.put s.kce.extents r.id e, sealing := none } }
          let s := (s.retireBg r.mbox.val).dropLock
          s.completeBg r.mbox.val .success .none
            (.bytes (leBytes 2 r.id ++ List.replicate 6 0#8 ++ bytesOf 8 r.seq ++ bytesOf 16 r.tag)))

/-! ## A verify-read (R259, R260) -/

/-- VERIFY_LINE_FEED: the next line goes to core G and into the buffer, once its buffer write can be
reserved; Poison ends the verify-read (R259, R261). -/
def execVerifyLineFeed (s : State) : Out :=
  .next (match s.kce.verify, s.kce.verify.bind fun r => Sparse.find s.kce.registry r.id with
    | some r, some g =>
      if r.tag.isSome ∨ s.kce.stallG then s
      else
        match s.streamLine (g.base + 64 * r.nextLine) with
        | none => s
        | some none => s.verifyFails .mediaError
        | some (some d) =>
          let n := r.nextLine + 1
          let s := s.feedLine d
          let s := match r.buffer with
            | some a => s.storeLine (a + 64 * r.nextLine) d none
            | none => s
          let delivered := if r.buffer.isSome then 64 * n else r.delivered
          let s := s.bgProgress r.mbox.val (100 * n / (g.len * 16384 + 1))
          let r := { r with nextLine := n, delivered := delivered }
          if n = g.len * 16384 then
            let (s, t) := s.finishStream
            { s with kce := { s.kce with verify := some { r with tag := some t } } }
          else { s with kce := { s.kce with verify := some r } }
    | _, _ => s)

/-- VERIFY_RETIRE: the tags are compared, and the comparison decides the outcome (R260, R261). -/
def execVerifyRetire (s : State) : Out :=
  .next (match s.kce.verify, s.kce.verify.bind fun r => Sparse.find s.kce.registry r.id with
    | some r, some g =>
      match r.tag with
      | none => s
      | some t =>
        let s := s.retireBg r.mbox.val
        if t = g.tag then
          let s := { s with kce := { s.kce with verify := none } }
          let s := (s.dropLock).seaWithdraw 0x0302
          let d := g.len * 2 ^ 20
          let s := s.completeBg r.mbox.val .success .none (verifyOutput .none d g.seq)
          s.fireOutcome .note 1 r.id 0 d g.seq.toNat
        else s.verifyFails .macFail
    | _, _ => s)

end Sys2Proof.Machine
end

