-- ==== Sys2Proof/Machine/Ports.lean ====
section
/-! DEFINITION. The commands at the host ports: CXL.mem messages, responses, Viral, decoders, QoS,
failures, resets, link training and power states, margining, link errors and GPF. -/

namespace Sys2Proof.Machine

open Sys2Proof

/-- Every byte of a line. -/
def allBytes : Mask := BitVec.allOnes 64

/-! ## CXL.mem messages (Table PORT-2) -/

/-- MEM_RD: MemRd and MemRdData are served alike (R30); `err` is the uncorrectable error its lookup meets,
if any (Table CACHE-6). -/
def execMemRd (p : Port) (_op : RdOp) (hpa : BitVec 52) (err : CacheErr) (s : State) : Out :=
  .next (s.hostRequest p false .rd hpa.toNat 0#512 0#64 false err)

/-- MEM_INV: MemInv and MemInvNT are answered with Cmp and change nothing (R30). -/
def execMemInv (p : Port) (_nt : Bool) (hpa : BitVec 52) (s : State) : Out :=
  .next (s.hostRequest p false .inv hpa.toNat 0#512 0#64 false .none)

/-- MEM_SPEC_RD (R33, R167). -/
def execMemSpecRd (p : Port) (hpa : BitVec 52) (s : State) : Out :=
  .next (s.hostRequest p false .spec hpa.toNat 0#512 0#64 false .none)

/-- MEM_WR: a full line (R78, R99). -/
def execMemWr (p : Port) (hpa : BitVec 52) (data : Line) (poison : Bool) (s : State) : Out :=
  .next (s.hostRequest p true .wr hpa.toNat data allBytes poison .none)

/-- MEM_WR_PTL: the enabled bytes alone (R78, R99). -/
def execMemWrPtl (p : Port) (hpa : BitVec 52) (data : Line) (enables : Mask) (poison : Bool)
    (s : State) : Out :=
  .next (s.hostRequest p true .wrPtl hpa.toNat data enables poison .none)

/-- UNSUPPORTED_REQUEST: an opcode that Table PORT-2 does not serve, with its header (R31). -/
def execUnsupportedRequest (p : Port) (rwd : Bool) (header : BitVec 128) (s : State) : Out :=
  let r : PortReq := ⟨if rwd then .wr else .rd, 0, header.setWidth 512, 0#64, false, .none, true⟩
  .next (if s.canReceive p rwd then
    let s := if rwd then s.modPort p fun x => { x with
        rwdUsed := x.rwdUsed + 1, ingressRwd := x.ingressRwd ++ [r] }
      else s.modPort p fun x => { x with
        reqUsed := x.reqUsed + 1, ingressReq := x.ingressReq ++ [r] }
    s.pump p
  else s)

/-! ## Responses (R59, R67) -/

/-- The bound of a request from its acceptance (R2, R66, R22). -/
def State.boundOf (s : State) (b : Belay) : Nat :=
  match b.req.op with
  | .rd => if b.hit then ns 180 else us 2
  | _ => if s.glb.level = .barePoles then us 40 else ns 300

/-- A response that starts after its bound, outside a fault window and under the admitted-load conditions,
counts in BLY.LATE_COUNT (R67, R34) and fires the late-response source. -/
def State.noteLate (s : State) (b : Belay) : State :=
  let waited := if b.creditWait = 0 then 0 else s.clock + 1 - b.creditWait
  if s.clock - b.accepted - waited ≤ s.boundOf b ∨ b.window ∨ s.admitNow b.port ≠ 0#5 then s
  else
    ({ s with bly := { s.bly with lateCount := satAdd 0xFFFFFFFF s.bly.lateCount 1 } }).fire 1060 .fault
      { Detail.none with addr := b.req.dpa }

/-- Whether the host has granted the S2M credit of a message. -/
def PortState.hasCredit (x : PortState) (isData : Bool) : Bool :=
  if isData then decide (0 < x.drsCredits) else decide (0 < x.ndrCredits)

/-- A message on the link with the DevLoad of the port (R40), and its request credit returned (Table
PORT-3). -/
def State.sendMessage (s : State) (p : Port) (isData rwd : Bool) (data : Line) (poison : Bool) : State :=
  s.modPort p fun x => { x with
    lastSent := some ⟨isData, data, poison, x.devload, rwd⟩
    drsCredits := if isData then x.drsCredits - 1 else x.drsCredits
    ndrCredits := if isData then x.ndrCredits else x.ndrCredits - 1
    rwdUsed := if rwd then x.rwdUsed - 1 else x.rwdUsed
    reqUsed := if rwd then x.reqUsed else x.reqUsed - 1
    quietSince := s.clock }

/-- The response of a belay entry, or its wait for a credit (R34). -/
def State.sendBelay (s : State) (p : Port) (i : Nat) : State :=
  match Sparse.find s.bly.entries i with
  | none => s
  | some b =>
    if b.st ≠ .respond ∨ b.port ≠ p then s
    else
      let isData := b.req.op == .rd
      if !(s.port p).carriesMem || !(s.port p).hasCredit isData then
        s.modBelay i fun b => { b with creditWait := if b.creditWait = 0 then s.clock + 1 else b.creditWait }
      else
        let s := (s.noteLate b).sendMessage p isData (b.reserves != 0) b.data b.respPoison
        (s.freeBelay i).pumpAll

/-- The oldest answer of the port itself (R450). -/
def State.sendAnswer (s : State) (p : Port) : State :=
  match (s.port p).answers with
  | [] => s
  | a :: rest =>
    if !(s.port p).carriesMem || !(s.port p).hasCredit a.isData then s
    else (s.modPort p fun x => { x with answers := rest }).sendMessage p a.isData a.rwd a.data a.poison

/-- RESPONSE_SEND: after the S2M credits the host returned, a response flit starts on the link. -/
def execResponseSend (p : Port) (sel : RespSel) (ndrReturned drsReturned : Nat) (s : State) : Out :=
  let s := if (s.port p).linkUp then s.modPort p fun x => { x with
    ndrCredits := x.ndrCredits + ndrReturned, drsCredits := x.drsCredits + drsReturned } else s
  .next (match sel with
    | .belay i => s.sendBelay p i
    | .answer => s.sendAnswer p)

/-! ## Viral (R35) -/

/-- One port enters the viral state, with its Fatal record and its source at CRITICAL. -/
def State.goViral (s : State) (p : Port) : State :=
  if (s.port p).viral then s
  else
    (s.modPort p fun x => { x with viral := true, rasViral := true }).firePath p (portSrc p 3) .critical
      (Detail.ofUnit (portIdx p))

/-- VIRAL: Viral received or raised at a port; in multipath mode the other port enters it as well. -/
def execViral (p : Port) (s : State) : Out :=
  .next (if !(s.port p).linkUp then s
    else if s.multipath then (s.goViral p).goViral (portOther p) else s.goViral p)

/-! ## HDM decoders (R36, R37) -/

/-- The interleave ways and granularities of Table PORT-1. -/
def hdmListed (c : HdmConfig) : Bool :=
  [1, 2, 3, 4, 6, 8, 12, 16].contains c.ways &&
    [256, 512, 1024, 2048, 4096, 8192, 16384].contains c.granularity

/-- The part of a decoder's DPA space. -/
def hdmSpan (c : HdmConfig) : Nat := c.size / max 1 c.ways

/-- Whether the commit of decoder `d` succeeds (R36). -/
def State.commitOk (s : State) (p : Port) (d : Nat) (c : HdmConfig) : Bool :=
  let ds := (s.port p).decoders
  let lower := (List.range d).all fun i =>
    match Sparse.find ds i with
    | some x => x.committed
    | none => false
  let higher := ds.all fun e => decide (e.1 ≤ d) || !e.2.committed
  let disjoint := ds.all fun e => e.1 == d || !e.2.committed ||
    decide (c.skip + hdmSpan c ≤ e.2.skip ∨ e.2.skip + e.2.size / max 1 e.2.ways ≤ c.skip)
  hdmListed c && decide (c.skip + hdmSpan c ≤ s.portSize p) && disjoint && lower && higher

/-- HDM_DECODER_COMMIT: the settings that the host wrote are committed, or Error Not Committed is set and
the source of commit errors fires (R36); a locked decoder keeps its settings (R37). -/
def execHdmDecoderCommit (p : Port) (d : Fin 4) (cfg : HdmConfig) (s : State) : Out :=
  let old := Sparse.get Decoder.reset (s.port p).decoders d.val
  .next (if old.committed ∧ old.lockOnCommit then s
    else
      let ok := s.commitOk p d.val cfg
      let x : Decoder := ⟨ok, cfg.lockOnCommit, !ok, cfg.base, cfg.size, cfg.skip, cfg.ways, cfg.granularity⟩
      let s := s.modPort p fun y => { y with decoders := Sparse.put y.decoders d.val x }
      if ok then s else s.fire (portSrc p 11) .warn (Detail.ofUnit (portIdx p)))

/-! ## QoS (R40, R41, R65) -/

/-- DevLoad after one evaluation: up at once, down only after 4 µs at 0x10 below the threshold of the value
sent (R40). -/
def PortState.nextDevload (x : PortState) (v : Nat) (l now : Nat) (outside : Bool) : PortState :=
  let cur := x.devload.toNat
  if cur < v then { x with devload := BitVec.ofNat 2 v, devloadBelow := none }
  else if v < cur ∧ !outside ∧ l + 0x10 ≤ x.threshold cur then
    match x.devloadBelow with
    | none => { x with devloadBelow := some now }
    | some t =>
      if t + us 4 ≤ now then { x with devload := BitVec.ofNat 2 v, devloadBelow := none } else x
  else { x with devloadBelow := none }

/-- DEVLOAD_UPDATE: the load index taken every 256 ns (R40); outside the admitted-load conditions the port
sends Severe Overload (R41). -/
def execDevloadUpdate (p : Port) (s : State) : Out :=
  .next (if !(s.port p).memEnabled then s
    else
      let l := s.loadIndex p
      let outside := s.admitNow p != 0#5
      let v := if outside then 3 else (s.port p).loadClass l
      s.modPort p fun x => x.nextDevload v l s.clock outside)

/-- ADMIT_WINDOW_EXPIRY: the 2.0 µs window of a port ends and its counts start anew (R65). -/
def execAdmitWindowExpiry (p : Port) (s : State) : Out :=
  .next ((s.noteAdmit p).modPort p fun x => { x with
    winReads := 0, winMisses := 0, winWrites := 0, winSameLine := false })

/-! ## Failures and resets (R43, R44, R52) -/

/-- PORT_FAIL: the link goes down (Table PORT-5). -/
def execPortFail (p : Port) (how : PortDown) (s : State) : Out :=
  .next (if !(s.port p).linkUp then s
    else
      let s := s.modPort p fun x => { x with
        aerSurpriseDown := x.aerSurpriseDown || how != PortDown.fatal
        aerFatal := x.aerFatal || how == PortDown.fatal }
      let s := s.failPort p
      s.fire (portSrc p (if how = .surpriseDown then 7 else 1)) .fault (Detail.ofUnit (portIdx p)))

/-- PATH_RESTORED: the port that failed has CXL.mem again; the surviving port's Informational log records
it (R44). -/
def execPathRestored (p : Port) (s : State) : Out :=
  let o := portOther p
  .next (if (s.port p).pathLost ∧ (s.port p).memEnabled then
    let s := s.modPort p fun x => { x with pathLost := false }
    if s.multipath ∧ (s.port o).memEnabled then
      s.firePath o (portSrc o 9) .note (Detail.ofUnit (portIdx p)) else s
  else s)

/-- PERST_ASSERT: PERST_N of a port low for 1 µs (R51, R52). -/
def execPerstAssert (p : Port) (s : State) : Out :=
  .next ((s.portReset p).modPort p fun x => { x with perst := true, perstAt := s.clock })

/-- HOT_RESET (R52). -/
def execHotReset (p : Port) (s : State) : Out :=
  .next (if (s.port p).linkUp then s.portReset p else s)

/-- CXL_RESET (R52); it clears no memory. -/
def execCxlReset (p : Port) (s : State) : Out :=
  .next (if (s.port p).linkUp then s.portReset p else s)

/-- FUNCTION_LEVEL_RESET: CXL.io state and the mailboxes of the port alone (R52). -/
def execFunctionLevelReset (p : Port) (s : State) : Out :=
  .next (if (s.port p).linkUp then
    (s.abortPortMail p).modPort p fun x => { x with msixSent := 0#32, logVector := [] } else s)

/-! ## Link training (R27, R47, R53) -/

/-- The rate code that HPn.PORT_CTRL.max_rate admits. -/
def PortState.rateLimit (x : PortState) : Nat := min x.rateCap.toNat (7 - x.maxRate.toNat)

/-- The width code that HPn.PORT_CTRL.max_width admits. -/
def PortState.widthLimit (x : PortState) : Nat := 5 - x.maxWidth.toNat

/-- Downshifts recorded, one WARN record each (R47). -/
def State.noteDownshifts (s : State) (p : Port) : Nat → State
  | 0 => s
  | n + 1 => (s.fire (portSrc p 2) .warn (Detail.ofUnit (portIdx p))).noteDownshifts p n

/-- LINK_TRAINING_START: 20 ms after PERST_N deasserts and after the release from SYS, training begins;
`eqFails` rates fail equalization twice and `lanes` is the widest width that forms (R47, R53). -/
def execLinkTrainingStart (p : Port) (eqFails : Nat) (lanes : LinkWidth) (s : State) : Out :=
  let x := s.port p
  .next (if x.linkUp ∨ !x.released ∨ !x.enabled ∨ !s.elapsed x.perstAt (ms 20) ∨
      !s.elapsed x.releasedAt (ms 20) then s
    else
      let rate := max 4 (x.rateLimit - eqFails)
      let width := min x.widthLimit (LinkWidth.code lanes)
      let s := s.modPort p fun x => { x with
        perst := false, training := true
        rateCap := BitVec.ofNat 3 rate, widthCap := BitVec.ofNat 3 width }
      s.noteDownshifts p (x.rateLimit - rate + (if width < x.widthLimit then 1 else 0)))

/-- Whether the mode and partition settings of R42 disagree. -/
def State.modesConflict (s : State) : Bool :=
  let a := s.port0
  let b := s.port1
  let mixed := a.enabled && b.enabled && a.mode != b.mode
  let inside (x : PortState) : Bool :=
    x.mode != 0b01#2 || decide ((x.partBase.toNat + x.partSize.toNat) * 2 ^ 28 ≤ s.capacity)
  let overlap := a.mode == 0b01#2 && b.mode == 0b01#2 &&
    decide (a.partBase.toNat < b.partBase.toNat + b.partSize.toNat ∧
      b.partBase.toNat < a.partBase.toNat + a.partSize.toNat)
  mixed || !inside a || !inside b || overlap

/-- Whether a link meets the three conditions of R27. -/
def linkCarriesMem (rate : LinkRate) (width : LinkWidth) (flit256 : Bool) : Bool :=
  decide (5 ≤ LinkRate.code rate) && decide (3 ≤ LinkWidth.code width) && flit256

/-- The CXL.mem-withheld source of a port (R27, R42). -/
def State.noteWithheld (s : State) (p : Port) (conflict : Bool) : State :=
  s.fire (portSrc p 13) (if conflict then .critical else .fault)
    ⟨portIdx p, 0, b2n conflict, (s.port p).linkStatus⟩

/-- The S2M credits the host advertised, recorded where they are fewer than 256 (R39). -/
def State.noteCredits (s : State) (p : Port) (ndr drs : Nat) : State :=
  if (ndr < 256 ∨ drs < 256) ∧ !(s.port p).lowCreditsNoted then
    (s.modPort p fun x => { x with lowCreditsNoted := true }).fire (portSrc p 10) .warn
      (Detail.ofUnit (portIdx p))
  else s

/-- LINK_UP: training ended at a rate and a width within what it can form (R27, R38, R39, R42). -/
def execLinkUp (p : Port) (rate : LinkRate) (width : LinkWidth) (flit256 latopt : Bool)
    (ndrCredits drsCredits : Nat) (s : State) : Out :=
  let x := s.port p
  .next (if !x.training ∨ x.rateCap.toNat < LinkRate.code rate ∨ x.widthCap.toNat < LinkWidth.code width then s
    else
      let conflict := s.modesConflict
      let mem := linkCarriesMem rate width flit256 && !conflict
      let s := s.modPort p fun x => { x with
        linkUp := true, training := false, pm := .l0
        rate := BitVec.ofNat 3 (LinkRate.code rate), width := BitVec.ofNat 3 (LinkWidth.code width)
        recoveryCount := 0, recoveries := [], lowCreditsNoted := false, infoValid := true
        memEnabled := mem, latoptInUse := latopt && flit256 && x.flitLatopt
        ndrCredits := ndrCredits, drsCredits := drsCredits }
      let s := s.fire (portSrc p 0) .note (Detail.ofUnit (portIdx p))
      let s := if mem then s else s.noteWithheld p conflict
      ((s.noteCredits p ndrCredits drsCredits).settleLevel))

/-! ## Recovery and link errors (R47, R50) -/

/-- An entry to Recovery: counted, in the host bucket, and more than 16 within 1 s cause a retrain at the
next lower rate. -/
def State.enterRecovery (s : State) (p : Port) : State :=
  let s := s.bucketAdd 5 (portIdx p)
  let recent := ((s.port p).recoveries.filter fun t => decide (s.clock < t + sec 1)) ++ [s.clock]
  let s := s.modPort p fun x => { x with
    recoveryCount := satAdd 0xFFFF x.recoveryCount 1, recoveries := recent }
  if recent.length ≤ 16 then s
  else
    let x := s.port p
    let s := s.modPort p fun x => { x with recoveries := [] }
    if x.rate.toNat ≤ 5 then s
    else
      let s := s.modPort p fun x => { x with rate := x.rate - 1#3, rateCap := x.rate - 1#3 }
      s.noteDownshifts p 1

/-- RECOVERY_ENTRY (R47). -/
def execRecoveryEntry (p : Port) (s : State) : Out :=
  .next (if (s.port p).linkUp then s.enterRecovery p else s)

/-- FLIT_CRC_FAIL: a flit CRC failure after FEC, an AER correctable Receiver Error (Table PORT-5). -/
def execFlitCrcFail (p : Port) (s : State) : Out :=
  .next (if (s.port p).linkUp then
    (s.modPort p fun x => { x with aerReceiver := true }).bucketAdd 5 (portIdx p) else s)

/-- REPLAY_TIMER_TIMEOUT: AER correctable; a replay number rollover enters Recovery (Table PORT-5). -/
def execReplayTimerTimeout (p : Port) (rollover : Bool) (s : State) : Out :=
  .next (if (s.port p).linkUp then
    let s := (s.modPort p fun x => { x with aerReplay := true }).bucketAdd 5 (portIdx p)
    if rollover then s.enterRecovery p else s
  else s)

/-! ## Margining (R49) -/

/-- A port in L0 at a rate at which margining is served. -/
def PortState.margins (x : PortState) : Bool :=
  x.linkUp && x.pm == LinkPm.l0 && decide (5 ≤ x.rate.toNat)

/-- LANE_MARGIN_SCAN: the device's own scan, with the smallest margins it found; a host margining command
defers it (R49). A voltage margin below its guard band is recorded at WARN (Table TRIM-1). -/
def execLaneMarginScan (p : Port) (timingStep voltageMv : Nat) (s : State) : Out :=
  .next (if (s.port p).margins ∧ (s.port p).hostMarginLane.isNone then
    let s := s.modPort p fun x => { x with marginTiming := timingStep, marginVoltage := voltageMv }
    if (voltageMv : Int) < s.margin 0x0301 then s.warnRecord (portIdx p) voltageMv else s
  else s)

/-- HOST_MARGIN_COMMAND: a host command on a lane begins, or completes (R49). -/
def execHostMarginCommand (p : Port) (lane : Fin 16) (done : Bool) (s : State) : Out :=
  .next (if (s.port p).margins then
    s.modPort p fun x => { x with hostMarginLane := if done then none else some lane } else s)

/-! ## Link power (R48, R343) -/

/-- The link state of a lane width: the full width is L0. -/
def pmOfWidth (w : LinkWidth) : LinkPm := if w = .x16 then .l0 else .l0p w

/-- L0P_NARROW: L0p by the flit-slot use of the last 10 µs (R343). -/
def execL0pNarrow (p : Port) (usePercent : Nat) (s : State) : Out :=
  let x := s.port p
  if Instr.wf (.l0pNarrow p usePercent) then
    .next (if !x.linkUp ∨ !x.l0pEn ∨ x.pm = LinkPm.l1 then s
      else if usePercent < 20 ∧ 3 ≤ x.width.toNat then s.modPort p fun x => { x with pm := .l0p .x4 }
      else if usePercent < 40 ∧ 4 ≤ x.width.toNat ∧ x.pm = LinkPm.l0 then
        s.modPort p fun x => { x with pm := .l0p .x8 }
      else if 60 < usePercent then s.modPort p fun x => { x with pm := .l0 }
      else s)
  else .fault .illFormed

/-- Whether no CXL.mem request is outstanding on a port. -/
def State.portQuiet (s : State) (p : Port) : Bool :=
  s.held p == 0 && (s.port p).ingressReq.isEmpty && (s.port p).ingressRwd.isEmpty &&
    (s.port p).answers.isEmpty && s.elapsed (s.port p).quietSince (us 100)

/-- ASPM_L1_REQUEST: after 100 µs with no request outstanding, while CLK.SLEEP_CTRL allows it (R343). -/
def execAspmL1Request (p : Port) (s : State) : Out :=
  .next (if (s.port p).linkUp ∧ s.clk.portL1En ∧ s.portQuiet p then
    s.modPort p fun x => { x with pm := .l1 } else s)

/-- HOST_L1_ENTRY: a host-initiated L0p change or L1 entry is always accepted (R48). -/
def execHostL1Entry (p : Port) (what : HostPm) (s : State) : Out :=
  .next (if (s.port p).linkUp then
    s.modPort p fun x => { x with pm := match what with
      | .l1 => .l1
      | .l0p w => pmOfWidth w }
  else s)

/-- L1_EXIT: a CXL.mem port starts L1 exit and hints the datapath and the slices to wake (R340, R71). -/
def execL1Exit (p : Port) (s : State) : Out :=
  .next (if (s.port p).linkUp ∧ (s.port p).pm = LinkPm.l1 then
    let s := s.modPort p fun x => { x with pm := .l0 }
    if (s.port p).memEnabled then s.wakeHint else s
  else s)

/-! ## Global Persistent Flush (R101) -/

/-- GPF_PHASE1: it moves no data and completes at once. -/
def execGpfPhase1 (p : Port) (s : State) : Out :=
  .next (if (s.port p).linkUp then
    s.modPort p fun x => { x with gpf1Done := true, gpf2Done := false, gpf2Order := none } else s)

/-- GPF_PHASE2: it completes as soon as every write accepted before the request has been acknowledged; a
request that has to wait keeps its place, and its repetition completes it. -/
def execGpfPhase2 (p : Port) (s : State) : Out :=
  .next (if (s.port p).linkUp then
    let since := (s.port p).gpf2Order.getD s.bly.nextOrder
    let waits := s.bly.entries.any fun e =>
      decide (e.2.order < since) && e.2.reserves != 0 && e.2.st != .respond
    if waits then s.modPort p fun x => { x with gpf2Order := some since }
    else s.modPort p fun x => { x with gpf2Done := true, gpf2Order := none }
  else s)

end Sys2Proof.Machine
end

