-- ==== Sys2Proof/Machine/Shroud.lean ====
section
/-! DEFINITION. The commands of the Shroud: engines, key slots, ERASE and the rekey sweep. -/

namespace Sys2Proof.Machine

open Sys2Proof

/-- An engine fenced: the requests inside it are run again through another engine (R224). -/
def State.fenceEngine (s : State) (e : Nat) : State :=
  if bitOf s.shr.enginesFenced e then s
  else
    let inside := (s.stp.reads.filter fun r =>
      r.2.status == .transferred && (s.shr.enginesFenced != 0#20 || r.2.ch / 4 == e)).flatMap
        fun r => r.2.belays
    let s := inside.foldl (fun s i => s.modBelay i fun b => { b with window := true }) s
    let s := { s with shr := { s.shr with enginesFenced := setBit s.shr.enginesFenced e true } }
    (s.fire 1221 .fault (Detail.ofUnit e)).settleLevel

/-- SHROUD_ENGINE_FENCE: an engine that fails its check is fenced, at FAULT; the requests inside it complete
in a fault window (R224, R16). -/
def execShroudEngineFence (e : Fin 20) (s : State) : Out := .next (s.fenceEngine e.val)

/-- A KEY_CMD refused without an effect (R226). -/
def State.shrRefuse (s : State) : State :=
  { s with shr := { s.shr with cmdError := true } }

/-- KEY_CMD.go of the Shroud on a path with an op (R226, R239): the owner's path alone; a LOAD or ZEROIZE
that its slot refuses sets error and leaves the slot. -/
def State.shrKeyCmd (s : State) (path : Path) (op : BitVec 2) (f : State → Option State) : State :=
  if !s.kce.isOwner path then s.shrRefuse
  else
    let t := match f s with
      | some t => t
      | none => s.shrRefuse
    { t with shr := { t.shr with keyData := [], op := op } }

/-- SHR_KEY_LOAD: LOAD of the slot selected with the key written (R226). -/
def execShrKeyLoad (path : Path) (s : State) : Out :=
  .next ((s.shrKeyCmd path 0b01#2 fun s => s.shrLoad s.shr.slot.toNat s.shr.keyInput).pumpAll)

/-- SHR_KEY_ZEROIZE: ZEROIZE of the slot selected (R226). -/
def execShrKeyZeroize (path : Path) (s : State) : Out :=
  .next (s.shrKeyCmd path 0b10#2 fun s => s.shrZeroize s.shr.slot.toNat)

/-- SHR_KEY_ERASE: ERASE in the form that SHR.KEY_CMD.fmt names (R239). -/
def execShrKeyErase (path : Path) (s : State) : Out :=
  .next (s.shrKeyCmd path 0b11#2 fun s => some (s.erase s.shr.fmt))

/-- SHR_REKEY_GO: a rekey started with the slots and the range of the registers (R230). -/
def execShrRekeyGo (path : Path) (s : State) : Out :=
  .next (if !s.pathOpen path then s
    else
      let a := s.shr.rkOld.toNat
      let b := s.shr.rkNew.toNat
      let lo := s.shr.rkFirst.toNat
      let hi := s.shr.rkLast.toNat
      if s.rekeyRefused a b lo hi then { s with shr := { s.shr with rkError := true } }
      else
        let (s, ok) := s.seaStore [(0x0301, rekeyRecord a b lo hi)] true
        if ok then s.rekeyBegin a b lo hi s.shr.rkRate
        else { s with shr := { s.shr with rkError := true } })

/-- Whether a rekey runs that an abort reaches (R303). -/
def Shr.abortable (x : Shr) : Bool :=
  x.rkState == .running || x.rkState == .paused

/-- The running rekey is aborted: no new set is formed (R238). -/
def State.rekeyAbortNow (s : State) : State :=
  if s.shr.abortable then { s with shr := { s.shr with rkState := .aborting } } else s

/-- SHR_REKEY_ABORT: a write of SHR.REKEY_CTRL.abort (R238). -/
def execShrRekeyAbort (path : Path) (s : State) : Out :=
  .next (if s.pathOpen path then s.rekeyAbortNow else s)

/-! ## The sweep -/

/-- Whether the sweep may form a set now (R233): at most 32 sets, 16 units and entries, below 85 %, a
permit held, above Bare poles and with no dump running. -/
def State.sweepMayClaim (s : State) : Bool :=
  s.shr.rkState == .running && !s.shr.sweepDone && decide (s.sweepSets < 32) &&
    decide (s.glb.level.code ≤ 2) && !s.glb.dumping &&
    decide (s.charged + s.glb.reserved + 16 ≤ s.budgetUnits) && decide (16 ≤ s.victimUnreserved) &&
    decide (s.chargedPercent < 85) && (s.reef.held.any fun e => e.2.holder == .sweepSet) &&
    !s.rowBusy s.shr.hemline

/-- The victim entry that holds a swept member's place until its merge read ends. -/
def State.sweepEntry (s : State) (i lsn : Nat) (slot : Option Nat) : State :=
  let v : Victim :=
    { st := .held, lsn := lsn, lines := Four.all .invalid, poison := 0#4, mask := Four.all 0#64
      data := Four.zero, mslot := slot, tracker := none, trackPoison := 0#4, set := none
      order := s.vbf.nextOrder, since := s.clock, merging := some s.stp.nextRead
      maint := none, sweep := true, rebuilding := false }
  { s with vbf := { s.vbf with
    entries := Sparse.put s.vbf.entries i v, nextOrder := s.vbf.nextOrder + 1 } }

/-- An empty mirror slot taken for a swept member. -/
def State.sweepSlot (s : State) (lsn : Nat) (slot : Option Nat) : State :=
  match slot with
  | some m => { s with cache := { s.cache with
      mirror := Sparse.put s.cache.mirror m ⟨lsn, Four.zero, Four.all 0#64, false⟩ } }
  | none => s

/-- A member that is neither dirty in the cache nor in a victim entry: a free entry and a mirror slot,
charged 1 unit, and a background read of its sector (R232, steps 2 and 3). -/
def State.sweepMember (s : State) (lsn : Nat) : State :=
  match s.freshVictim with
  | none => s
  | some i =>
    let stack := if bitOf s.cache.stackOk 0 then 0 else 1
    let slot := freeMirrorFrom s.cache.mirror
      (fun k => s.pcOk (stackOfMirror k) (pcOfMirror k)) (s.cache.mirror.length + 64) (mirrorKey stack 0)
    let s := (s.sweepEntry i lsn slot).sweepSlot lsn slot
    s.newRead .background lsn [] none (some i)

/-- A member whose block holds bytes of its own that media lacks: written back, with a merge read where a
line is Invalid or Dirty-partial (R232, step 1; R108). -/
def State.joinMember (s : State) (key : Nat) : State :=
  let i := s.freshVictim
  let s := s.victimise key true none false
  match i with
  | none => s
  | some i => s.startMerge i

/-- One member of a claimed row. -/
def State.claimMember (s : State) (lsn : Nat) : State :=
  match s.findWay lsn with
  | some key => if anyDirty (s.way key).lines then s.joinMember key else s.sweepMember lsn
  | none => if (s.matchVictim lsn).isSome then s else s.sweepMember lsn

/-- The victim entries of a claimed row join its set. -/
def Victim.joinSweep (v : Victim) (row id : Nat) : Victim :=
  if rowOf v.lsn = row ∧ v.set = none then
    { v with set := some id, sweep := true, st := .queued }
  else v

/-- The row at the hemline claimed: H moved on, its sixteen members gathered, its set formed. -/
def State.claimRow (s : State) : State :=
  let row := s.shr.hemline
  let s := { s with shr := { s.shr with hemline := s.shr.nextRow (row + 1) } }
  let s := (List.range 16).foldl (fun s j => s.claimMember (row * 16 + j)) s
  let ms := (s.vbf.entries.filter fun e => rowOf e.2.lsn == row && e.2.set.isNone).map
    fun e => (e.1, e.2.lsn)
  let id := s.stp.nextSet
  let t : StripeSet := ⟨row, ms, .full, [], false, true, none⟩
  let s := { s with
    stp := { s.stp with sets := Sparse.put s.stp.sets id t, nextSet := id + 1 }
    vbf := { s.vbf with entries := Sparse.mapVals s.vbf.entries (Victim.joinSweep · row id) } }
  (s.formPrograms id).checkpointSweep

/-- REKEY_CLAIM_ROW: the row at the hemline is claimed as a full-stripe set, H moves to the next row, and
C is checkpointed every 2^20 rows (R231, R232, R235). -/
def execRekeyClaimRow (s : State) : Out :=
  .next (if s.sweepMayClaim then s.claimRow else s)

/-- REKEY_END: the sets of the last row are confirmed (R236); without Mainmast the sweep waits in
FINISHING. -/
def execRekeyEnd (s : State) : Out :=
  .next (if (s.shr.rkState = .running ∨ s.shr.rkState = .finishing) ∧ s.shr.sweepDone = true ∧
      s.sweepSets = 0 then
    if s.mst.running then (s.rekeyFinish (some s.shr.rkHi)).fire 1222 .note Detail.none
    else { s with shr := { s.shr with rkState := .finishing } }
  else s)

/-- REKEY_CUT: the sets formed before an abort are confirmed and the range is cut at C (R238). -/
def execRekeyCut (s : State) : Out :=
  .next (if s.shr.rkState = .aborting ∧ s.sweepSets = 0 then s.rekeyCutNow else s)

end Sys2Proof.Machine
end

