-- ==== Sys2Proof/Machine/TrimOps.lean ====
section
/-! DEFINITION. The shared operations of the tell-tales: the usable energy of the bank (R361), the history
(R368), the projection (R369), and the computation of a trim plan (R364, R365, Table TRIM-1). -/

namespace Sys2Proof.Machine

open Sys2Proof

/-! ## The hold-up bank -/

/-- E_u in mJ of R361 for C in mF, ESR in units of 0.1 mΩ, V_d in units of 0.1 V and n strings, rounded down
(log entry 33): V_e is (100 · V_d² + 455 · ESR) / (1000 · V_d) volts. -/
def usableEnergy (capMf esr dv n : Nat) : Nat :=
  let v := 100 * dv * dv + 455 * esr
  capMf * (116640000 * dv * dv - v * v) * (n - 1) / (2000000 * dv * dv * n)

/-- E_u of the last valid measurement, where one stands. -/
def Tel.energy (t : Tel) : Nat := usableEnergy t.capMf t.esr t.dropoutDv t.strings

/-- E_u computed anew after a change of the bank's description, and the budget replanned (R361). -/
def State.refreshEnergy (s : State) : State :=
  if s.tel.capMf = 0 then s else State.replan { s with tel := { s.tel with euMj := s.tel.energy } }

/-- The smallest value of a list. -/
def smallest (l : List Nat) : Nat :=
  match l with
  | [] => 0
  | a :: r => r.foldl min a

/-- A history record appended, the oldest of 1,024 overwritten; its source fires at NOTE (R368). -/
def State.history (s : State) (summary : Bool) : State :=
  let host := smallest (([s.port0, s.port1].filter fun x => x.linkUp).map (·.marginVoltage))
  let chiut := smallest ((s.mch.filter fun e => e.2.linkUp).map fun e => e.2.eyeMv)
  let h : Hist := {
    summary := summary, time := s.glb.time, capMf := s.tel.capMf, esr := s.tel.esr, euMj := s.tel.euMj
    generation := s.trm.generation
    slack := if summary then s.tel.slack.getD 0 else 0
    eye := if summary then smallest (s.cache.eyes.map Prod.snd) else 0
    prog := if summary then s.reef.prog else 0
    hostMargin := if summary then host else 0
    chiutMargin := if summary then chiut else 0
    passLog2 := if summary then s.stp.passLog2 else 0 }
  let l := s.tel.history ++ [h]
  let s := { s with tel := { s.tel with history := l.drop (l.length - 1024) } }
  s.fire 1269 .note ⟨0xFF, s.trm.generation.toNat, b2n summary, s.tel.euMj⟩

/-- The second at which the line fitted to the last 30 hold-up records falls to the E_u below which the
budget is under 16; none where it does not fall (R369). -/
def projection (h : List Hist) : Option Int :=
  let l := h.filter fun x => !x.summary
  let l := l.drop (l.length - 30)
  let n : Int := l.length
  let t (x : Hist) : Int := x.time.toNat / 1000000000
  let st := (l.map t).sum
  let se := (l.map fun x => (x.euMj : Int)).sum
  let stt := (l.map fun x => t x * t x).sum
  let ste := (l.map fun x => t x * (x.euMj : Int)).sum
  let num := n * ste - st * se
  let den := n * stt - st * st
  if 0 ≤ num ∨ den ≤ 0 then none
  else some ((st + (5000 * n - se) * den / num) / n)

/-- The projection recorded once per week where it falls within 90 days (R369). -/
def State.project (s : State) : State :=
  match projection s.tel.history with
  | none => s
  | some t =>
    if (s.glb.time.toNat / 1000000000 + 90 * 86400 : Int) < t ∨
        !s.elapsedOpt s.tel.projectAt (hours 168) then s
    else
      State.fire { s with tel := { s.tel with projectAt := some s.clock } } 1271 .warn
        { Detail.none with value := t.toNat % 2 ^ 32 }

/-- Whether the conditions of R360 for a measurement hold: RUN, 10 s at or above 11.8 V, and 10 min since the
previous one. -/
def State.mayMeasure (s : State) : Bool :=
  s.seq.state == .run && !s.tel.busy &&
    (match s.tel.inputHighAt with
      | some t => s.elapsed t (sec 10)
      | none => false) &&
    s.elapsedOpt s.tel.measuredAt (sec 600)

/-- HU_TEST_N asserted (R360). -/
def State.startMeasure (s : State) : State :=
  { s with tel := { s.tel with busy := true, measuredAt := some s.clock } }

/-! ## The trim plan -/

/-- A value moved at most one step toward its target (R365). -/
def stepTo (cur target step : Int) : Int := max (cur - step) (min (cur + step) target)

/-- The value computed last, or the register that holds it, or the default where an override stands. -/
def State.planBase (s : State) (id : Nat) (reg : Int) : Int :=
  match Sparse.find s.trm.values id with
  | some v => v
  | none =>
    if (Sparse.find s.trm.overrides id).isSome then (marginOf id).elim reg Margin.dflt else reg

/-- The program cost: round(1,100 × mean pulse time / 8 µs) of the worst die, at most 50 away. -/
def State.planCost (s : State) : Int :=
  let target (e : Nat × Nat) : Nat :=
    let n := max 1 (Sparse.get 1 s.tel.pulseCount e.1)
    (2200 * e.2 + 8000 * n) / (16000 * n)
  let base := s.planBase 0x0010 s.reef.prog
  let worst := (s.tel.pulseSum.map target).foldl max 0
  if s.tel.pulseSum.isEmpty then base else max 800 (min 2000 (stepTo base (worst : Int) 50))

/-- The drift pass length and the rewrite bucket. -/
def State.planDrift (s : State) : Int × Int :=
  let len := s.planBase 0x0020 s.stp.passLog2
  let b := s.planBase 0x0021 s.stp.rewriteBucket
  if s.tel.passHot then
    if len ≤ 20 then (len, max 16 (b - 1)) else (len - 1, b)
  else if 2 ≤ s.tel.calmPasses ∧ len < 22 then
    (len + 1, if len + 1 = 22 then min 20 (b + 1) else b)
  else (len, b)

/-- One temperature correction and whether its counts are used up. -/
def State.planTemp (s : State) (id : Nat) : Int × Bool :=
  let key := id - 0x0100
  let up := Sparse.get 0 s.tel.residualUp key
  let down := Sparse.get 0 s.tel.residualDown key
  let base := s.planBase id 0
  if up + down < 4096 then (base, false)
  else if up + down < 4 * (up - down) then (min 32 (base + 1), true)
  else if up + down < 4 * (down - up) then (max (-32) (base - 1), true)
  else (base, false)

/-- The HBM recalibration interval. -/
def State.planHbm (s : State) : Int :=
  let base := s.planBase 0x0200 1000
  if s.cache.eyes.any fun e => decide (e.2 < 60) then max 100 (base / 2)
  else if !s.cache.eyes.isEmpty ∧ (s.cache.eyes.all fun e => decide (80 < e.2)) ∧ base < 1000 then
    min 1000 (base * 2)
  else base

/-- Every computed margin by the rule of Table TRIM-1. -/
def State.computeMargins (s : State) : State :=
  let temps := tempMargins.map fun m => (m.id, s.planTemp m.id)
  let drift := s.planDrift
  let vals := temps.foldl (fun (v : Sparse Int) e => Sparse.put v e.1 e.2.1)
    (Sparse.put (Sparse.put (Sparse.put (Sparse.put (Sparse.put s.trm.values 0x0001 (budgetFor s.tel.euMj))
      0x0010 s.planCost) 0x0020 drift.1) 0x0021 drift.2) 0x0200 s.planHbm)
  let used := (temps.filter fun e => e.2.2).map fun e => e.1 - 0x0100
  { s with
    trm := { s.trm with values := vals }
    tel := { s.tel with
      residualUp := s.tel.residualUp.filter fun e => !used.contains e.1
      residualDown := s.tel.residualDown.filter fun e => !used.contains e.1
      pulseSum := [], pulseCount := [], passHot := false
      calmPasses := if 2 ≤ s.tel.calmPasses then 0 else s.tel.calmPasses } }

/-- The value of a margin that the plan puts in force (R367): an override pins it, but one of the dirty budget
counts only below the computed value. -/
def Trm.chosen (t : Trm) (m : Margin) : Int :=
  let c := match Sparse.find t.values m.id with
    | some v => v
    | none => m.dflt
  match Sparse.find t.overrides m.id with
  | some v => if m.id = 0x0001 then min v c else v
  | none => c

/-- The margins written to their registers (R8, R365). A margin that is not computed is written where an override pins it
or has just been released. -/
def State.applyMargins (s : State) : State :=
  let t := s.trm
  let named (id : Nat) (reg : Nat) : Nat :=
    if (Sparse.find t.overrides id).isSome || (Sparse.find t.values id).isSome then (s.margin id).toNat else reg
  { s with
    reef := { s.reef with prog := (s.margin 0x0010).toNat % 65536 }
    stp := { s.stp with
      passLog2 := defined 20 23 (s.margin 0x0020).toNat s.stp.passLog2
      rewriteBucket := defined 16 21 (s.margin 0x0021).toNat s.stp.rewriteBucket }
    tel := { s.tel with
      intervalH := defined 1 168 (named 0x0002 s.tel.intervalH) s.tel.intervalH
      strings := defined 1 8 (named 0x0003 s.tel.strings) s.tel.strings
      dropoutDv := defined 80 100 (named 0x0004 s.tel.dropoutDv) s.tel.dropoutDv }
    trm := { t with values := t.values.filter fun e => (marginOf e.1).any Margin.isComputed } }

/-- A trim plan computed and put in force: a new generation where any margin changes (R364, R365). -/
def State.computePlan (s : State) : State :=
  let s := s.computeMargins
  let next := margins.foldl (fun (v : Sparse Int) m => Sparse.put v m.id (s.trm.chosen m)) []
  let changed := margins.any fun m => s.margin m.id != s.trm.chosen m
  let strings := s.tel.strings
  let dv := s.tel.dropoutDv
  let s := { s with trm := { s.trm with
    applied := next, computedAt := s.clock, stale := false, due := false
    generation := if changed then s.trm.generation + 1 else s.trm.generation
    appliedT := if changed then s.glb.time else s.trm.appliedT } }
  let s := s.applyMargins
  let s := if s.tel.strings = strings ∧ s.tel.dropoutDv = dv then s else s.refreshEnergy
  s.replan

end Sys2Proof.Machine
end

