-- ==== Sys2Proof/Machine/Ageing.lean ====
section
/-! DEFINITION. The commands of the tell-tales and the trim plan: hold-up measurements, plans, the path
monitors, the daily summary, and self-test slices (R359 to R373). -/

namespace Sys2Proof.Machine

open Sys2Proof

/-! ## Hold-up measurements (R360 to R363) -/

/-- Whether a measurement is due: none yet, none since boot, the last one invalid, or the interval over. -/
def State.measureDue (s : State) : Bool :=
  !s.tel.measured || decide (0 < s.tel.invalidRun) || s.elapsedOpt s.tel.measuredAt (hours s.tel.intervalH)

/-- HOLDUP_MEASURE_START: a measurement that is due starts when its conditions hold (R360, R363). -/
def execHoldupMeasureStart (s : State) : Out :=
  .next (if s.mst.running && s.measureDue && s.mayMeasure then s.startMeasure else s)

/-- HOLDUP_GO: a write of TEL.HOLDUP_CTRL.go starts a measurement when R360 allows. -/
def execHoldupGo (path : Path) (s : State) : Out :=
  .next (match s.resetPath path with
    | some _ => if s.mayMeasure then s.startMeasure else s
    | none => s)

/-- Whether a measurement is invalid: a drop under 0.1 V, an ESR step below 0.1 mΩ, or C more than 50 % from the
previous valid value (R362). -/
def Tel.invalid (t : Tel) (r : HoldupRead) : Bool :=
  decide (r.dropMv < 100) || r.esr == 0 ||
    (t.capMf != 0 && (decide (t.capMf * 3 < r.capMf * 2) || decide (r.capMf * 2 < t.capMf)))

/-- A valid measurement (R361, R362, R368, R369). -/
def State.validMeasure (s : State) (r : HoldupRead) : State :=
  let n := s.tel.strings
  let lost := s.tel.capMf != 0 && decide (s.tel.capMf < (s.tel.capMf - r.capMf) * 2 * n)
  let t := { s.tel with
    valid := true, measured := true, invalidRun := 0, capMf := r.capMf, esr := r.esr, planTime := s.glb.time }
  let s := { s with
    tel := { t with euMj := t.energy }
    trm := { s.trm with due := true } }
  let s := if lost then s.fire 1270 .fault Detail.none else s
  ((s.history false).project.replan).tryActivate

/-- An invalid measurement; the third in a row plans 0.9 of the last valid E_u (R362). -/
def State.invalidMeasure (s : State) : State :=
  let run := s.tel.invalidRun + 1
  let s := { s with tel := { s.tel with valid := false, measured := true, invalidRun := run } }
  if run = 3 then
    let s := { s with tel := { s.tel with euMj := s.tel.euMj * 9 / 10 }, trm := { s.trm with due := true } }
    (s.fire 1269 .fault ⟨0xFF, s.trm.generation.toNat, 3, s.tel.euMj⟩).replan
  else s.fire 1269 .warn ⟨0xFF, s.trm.generation.toNat, 2, s.tel.euMj⟩

/-- HOLDUP_MEASURE_END: HU_TEST_N is released; E_u is computed, or the result judged invalid (R361, R362). -/
def execHoldupMeasureEnd (r : HoldupRead) (s : State) : Out :=
  .next (if !s.tel.busy then s
    else
      let s := { s with tel := { s.tel with busy := false } }
      if s.tel.invalid r then s.invalidMeasure else s.validMeasure r)

/-- HOLDUP_BOOT_TIMEOUT: a device with no history whose conditions have not held 15 s after the media channels
came up sets Memory_Active with a budget of 0 (R363). -/
def execHoldupBootTimeout (s : State) : Out :=
  .next (match s.rst.mediaUpAt with
    | some t =>
      if !s.glb.replayDone || s.glb.memoryActive || !s.tel.history.isEmpty || s.tel.valid || s.tel.busy ||
          !s.elapsed t (sec 15) then s
      else (State.replan { s with tel := { s.tel with euMj := 0 } }).activateMemory
    | none => s)

/-! ## The plan and its monitors (R359, R364, R368) -/

/-- TRIM_PLAN_COMPUTE: firmware computes the plan every hour and at the causes of R364. -/
def execTrimPlanCompute (s : State) : Out :=
  .next (if !s.mst.running || !s.rst.booted ||
      (!s.trm.due && !s.elapsed s.trm.computedAt (hours 1)) then s
    else s.computePlan)

/-- PLAN_STALE: 2 h without a computation (R364). -/
def execPlanStale (s : State) : Out :=
  .next (if s.elapsed s.trm.computedAt (hours 2) then { s with trm := { s.trm with stale := true } } else s)

/-- PATH_MONITOR_SAMPLE: the worst slack, with a WARN at most once per day below the alarm margin (Tables
TEL-1 and TRIM-1). -/
def execPathMonitorSample (slackPs : Nat) (s : State) : Out :=
  .next (
    let worst := match s.tel.slack with
      | some v => min v slackPs
      | none => slackPs
    let s := { s with tel := { s.tel with slack := some worst } }
    if (slackPs : Int) < s.margin 0x0300 ∧ s.elapsedOpt s.tel.slackAt (hours 24) then
      State.warnRecord { s with tel := { s.tel with slackAt := some s.clock } } 0xFF slackPs
    else s)

/-- DAILY_SUMMARY: once per day a summary record is appended to the history (R368). -/
def execDailySummary (s : State) : Out :=
  .next (if !s.mst.running || !s.elapsedOpt s.tel.summaryAt (hours 24) then s
    else
      let s := s.history true
      { s with tel := { s.tel with summaryAt := some s.clock, slack := none } })

/-! ## Self-test slices (R370 to R373) -/

/-- Package cost of a test code (Table TRIM-2); none for a code that the table does not list. -/
def testCost : Nat → Option Nat
  | 1 => some 2000
  | 2 => some 1500
  | 3 => some 300
  | 4 => some 200
  | 5 => some 400
  | 7 => some 0
  | 8 => some 100
  | _ => none

/-- Whether a test's unit is absent or retired (R373, detail 0x03). -/
def State.unitGone (s : State) (test unit : Nat) : Bool :=
  match test with
  | 1 => (s.slice unit).role == .failed
  | 2 => !s.pcOk (unit / 32) (unit % 32)
  | 3 =>
    let ch := unit / 8
    let d := unit % 8
    decide (s.wlv.dies / 4 ≤ d) || !(s.slot (moduleOf ch)).present || (s.ch ch).failed ||
      (s.adoption (moduleOf ch) (moduleDie s.wlv.dies ch d)).isSome
  | 4 => bitOf s.shr.enginesFenced unit
  | 5 => s.kce.coreGFenced
  | 8 => !(s.port (portOf unit)).enabled
  | _ => false

/-- Ways of a pseudo-channel. -/
def inPc (stack pc : Nat) (e : Nat × Way) : Bool :=
  stackOfWay (e.1 % 16) == stack && pcOfWay (sliceOfKey e.1) (e.1 % 16) == pc

/-- A pseudo-channel that its preparation has emptied of dirty blocks: clean ones alone may be left. -/
def State.pcEmptied (s : State) (stack pc : Nat) : Bool :=
  (s.cache.ways.all fun e => !inPc stack pc e || (!e.2.held && !anyDirty e.2.lines)) &&
    s.cache.mirror.all fun e => stackOfMirror e.1 != stack || pcOfMirror e.1 != pc

/-- The clean blocks of a pseudo-channel dropped (Table TRIM-2). -/
def State.dropPc (s : State) (stack pc : Nat) : State :=
  { s with cache := { s.cache with ways := s.cache.ways.filter fun e => !inPc stack pc e } }

/-- Whether a die of the same channel and die index on another module is out of service (R370). -/
def State.sameDieOut (s : State) (ch d : Nat) : Bool :=
  (List.range 18).any fun k =>
    let c := 4 * k + ch % 4
    k != moduleOf ch && (!(s.slot k).state.serving || (s.ch c).failed ||
      (s.adoption k (moduleDie s.wlv.dies c d)).isSome)

/-- Whether the cover of a test is available (Table TRIM-2). -/
def State.coverOk (s : State) (test unit : Nat) : Bool :=
  match test with
  | 1 => (s.slice unit).serves.isNone && (s.slice unit).role == .idle && s.cache.handover.isNone &&
      (unit == 16 || (s.slice 16).serves.isSome)
  | 2 => s.cache.stackOk == 0b11#2 && s.pcEmptied (unit / 32) (unit % 32)
  | 3 =>
    let ch := unit / 8
    let d := unit % 8
    (s.slot (moduleOf ch)).state.serving && !s.sameDieOut ch d &&
      !(s.stp.progs.any fun e => e.2.ch == ch && e.2.die == d && e.2.onDie)
  | 4 => setBit s.shr.enginesFenced unit true != BitVec.allOnes 20 &&
      !(s.stp.reads.any fun r => r.2.status == .transferred && r.2.ch / 4 == unit)
  | 5 => s.kce.owner == .none
  | 7 => s.mayMeasure
  | 8 => (s.port (portOf unit)).margins && (s.port (portOf unit)).hostMarginLane.isNone
  | _ => false

/-- Service level Full or Absorbed (R370). -/
def State.levelForSlices (s : State) : Bool := s.glb.level == .full || s.glb.level == .absorbed

/-- When a pseudo-channel was calibrated last: at the boot that trained its stack, or since. -/
def State.recalTime (s : State) (unit : Nat) : Nat := Sparse.get s.rst.bootAt s.cache.recalAt unit

/-- A pseudo-channel whose recalibration interval is over. -/
def State.recalDue (s : State) (unit : Nat) : Bool :=
  s.pcOk (unit / 32) (unit % 32) && s.elapsed (s.recalTime unit) (ms (s.margin 0x0200).toNat)

/-- A package permit held for a self-test of a cost. -/
def State.testPermit (s : State) (cost : Nat) : Bool :=
  cost == 0 || s.reef.held.any fun e => e.2.holder == .selfTest cost

/-- The first permit of a holder returned. -/
def State.returnPermit (s : State) (h : Holder) : State :=
  match Sparse.findKey s.reef.held fun p => p.holder == h with
  | some id => { s with reef := { s.reef with held := Sparse.erase s.reef.held id } }
  | none => s

/-- A ticket ends with a state and a result detail. -/
def State.endTicket (s : State) (id : Nat) (st : TicketState) (detail : Nat) : State :=
  { s with trm := s.trm.setTicket id fun (k : Ticket) =>
    { k with state := st, detail := detail, endT := s.glb.time } }

/-- A slice begins: its unit leaves service behind its cover. -/
def State.beginSlice (s : State) (k : Ticket) : State :=
  let t := s.trm.setTicket k.id fun (x : Ticket) =>
    { x with state := .running, startT := if x.startT = 0#64 then s.glb.time else x.startT }
  let s := { s with trm := { t with slice := some ⟨k.test, k.unit, some k.id⟩ } }
  match k.test with
  | 2 => s.dropPc (k.unit / 32) (k.unit % 32)
  | 5 => s.grantLock .selfTest
  | 7 => s.startMeasure
  | _ => s

/-- SELF_TEST_SLICE_START: a waiting ticket's slice starts when every condition of R370 holds; one whose unit is
absent or retired ends (R373). -/
def execSelfTestSliceStart (ticket : Nat) (s : State) : Out :=
  .next (match s.trm.tickets.find? fun k => k.id == ticket && k.state == .waiting with
    | none => s
    | some k =>
      if !s.mst.running || s.trm.slice.isSome || decide (s.glb.time.toNat < k.notBefore) then s
      else if s.unitGone k.test k.unit then s.endTicket k.id .failed 3
      else
        let cost := (testCost k.test).getD 0
        if !s.levelForSlices || !s.coverOk k.test k.unit || !s.testPermit cost ||
            ((List.range 64).any fun u => s.recalDue u) then s
        else s.beginSlice k)

/-- The unit returned and the permit released (Table BUD-1). -/
def State.endSlice (s : State) (x : SliceRun) : State :=
  let s := if x.test = 5 ∧ s.kce.owner = .selfTest then s.dropLock else s
  let s := { s with trm := { s.trm with slice := none } }
  if x.test = 7 then s else s.returnPermit (.selfTest ((testCost x.test).getD 0))

/-- A fault that a test finds in its own unit, handled as the same fault in service (R372, Table ARCH-3). -/
def State.unitFault (s : State) (test unit : Nat) : State :=
  match test with
  | 1 => s.sliceFails unit
  | 2 => s.pcFails (unit / 32) (unit % 32)
  | 3 => s.retireDie (moduleOf (unit / 8)) (moduleDie s.wlv.dies (unit / 8) (unit % 8))
  | 4 => s.fenceEngine unit
  | 5 => s.failCoreG
  | _ => s

/-- The ticket of a slice whose test is over. -/
def State.closeTicket (s : State) (x : SliceRun) (pass : Bool) : State :=
  match x.ticket with
  | none => s
  | some id =>
    let cancel := s.trm.tickets.any fun k => k.id == id && k.cancel
    if cancel then s.endTicket id .cancelled 4
    else if pass then s.endTicket id .passed 0
    else s.endTicket id .failed 1

/-- SELF_TEST_SLICE_END: the slice ends and its unit returns; a cancelled ticket ends here (R305, R371, R373). -/
def execSelfTestSliceEnd (pass : Bool) (s : State) : Out :=
  .next (match s.trm.slice with
    | none => s
    | some x =>
      if x.test = 7 ∧ s.tel.busy then s
      else
        let s := (s.endSlice x).closeTicket x pass
        let s := if x.test = 2 ∧ pass then
            { s with cache := { s.cache with recalAt := Sparse.put s.cache.recalAt x.unit s.clock } } else s
        if pass then s else s.unitFault x.test x.unit)

/-- SLICE_FAULT_END: a fault that removes the cover, or one of the unit itself, ends the slice at once (R372);
a ticket whose cover went waits again. -/
def execSliceFaultEnd (ownFault : Bool) (s : State) : Out :=
  .next (match s.trm.slice with
    | none => s
    | some x =>
      let s := s.endSlice x
      let s := if x.test = 7 then s.holdupAbort else s
      let s := s.fire 1272 .fault (Detail.ofUnit (x.unit % 256))
      if ownFault then (s.closeTicket x false).unitFault x.test x.unit
      else
        match x.ticket with
        | none => s
        | some id => { s with trm := s.trm.setTicket id fun (k : Ticket) =>
            { k with state := .waiting, since := s.clock } })

/-- TICKET_COVER_TIMEOUT: a ticket whose cover stays unavailable for 24 h ends failed (R370). -/
def execTicketCoverTimeout (ticket : Nat) (s : State) : Out :=
  .next (match s.trm.tickets.find? fun k => k.id == ticket && k.state == .waiting with
    | none => s
    | some k =>
      if s.coverOk k.test k.unit || !s.elapsed k.since (hours 24) ||
          decide (s.glb.time.toNat < k.notBefore) then s
      else s.endTicket k.id .failed 2)

/-- HBM_RECALIBRATION: a due recalibration runs as a slice when its conditions hold, and measures the eye
(R359, R370). -/
def execHbmRecalibration (stack : Stack) (pc : Fin 32) (eyePercent : Nat) (s : State) : Out :=
  if !eyeOk eyePercent then .fault .illFormed
  else .next (
    let u := stack.val * 32 + pc.val
    if !s.recalDue u || s.trm.slice.isSome || !s.levelForSlices || s.cache.stackOk != 0b11#2 ||
        !s.pcEmptied stack.val pc.val || !(s.reef.held.any fun e => e.2.holder == .hbmRecal) then s
    else
      let s := (s.dropPc stack.val pc.val).returnPermit .hbmRecal
      { s with cache := { s.cache with
        eyes := Sparse.put s.cache.eyes u eyePercent, recalAt := Sparse.put s.cache.recalAt u s.clock } })

end Sys2Proof.Machine
end

