-- ==== Sys2Proof/Machine/Cache.lean ====
section
/-! DEFINITION. The commands on the request path and the staging cache: fences, patrol, HBM failures,
maintenance operations, slice failure and planned handover. -/

namespace Sys2Proof.Machine

open Sys2Proof

/-! ## Belay table and parity engines -/

/-- BELAY_BANK_FENCE: a bank is fenced, its requests reissued in acceptance order (R58, R16). -/
def execBelayBankFence (b : Fin 8) (s : State) : Out :=
  .next (if bitOf s.bly.fenced b.val then s
    else
      let s := { s with bly := { s.bly with fenced := setBit s.bly.fenced b.val true } }
      let s := (byOrder (s.bly.entries.filter fun e => e.1 / 1024 == b.val)).foldl State.moveBelay s
      ((s.fire (1052 + b.val) .fault (Detail.ofUnit b.val)).settleLevel).retryLookups)

/-- BELAY_REISSUE: the oldest request of the reissue queue takes a free entry, and the requests that wait
at their slice are taken up again (R58). -/
def execBelayReissue (s : State) : Out :=
  .next (match s.bly.reissue with
    | [] => s.retryLookups
    | b :: rest =>
      match s.freshBelay with
      | none => s
      | some k =>
        ({ s with bly := { s.bly with
          entries := Sparse.put s.bly.entries k b, reissue := rest } }).retryLookups)

/-- PARITY_ENGINE_FAIL: engine 1 computes every parity after engine 0 fails (R16). -/
def execParityEngineFail (e : Fin 2) (s : State) : Out :=
  .next (if bitOf s.stp.parityFailed e.val then s
    else
      let s := { s with stp := { s.stp with parityFailed := setBit s.stp.parityFailed e.val true } }
      (s.fire (1205 + e.val) .fault (Detail.ofUnit e.val)).settleLevel)

/-! ## Evictions and patrol -/

/-- EVICTION_CANCEL: a cancellation reaches STP; it is refused once the set's first program has been sent
(R91). -/
def execEvictionCancel (idx : Nat) (s : State) : Out :=
  .next (match Sparse.find s.vbf.entries idx with
    | none => s
    | some v =>
      if v.st = .issued ∨ v.merging.isSome ∨ v.rebuilding then s
      else
        let s := s.cancelEviction idx
        match s.findWay v.lsn with
        | some key => (s.setWay key { s.way key with flushing := none, flush := false }).freeVictim idx
        | none =>
          if !s.cached (sliceHash v.lsn) then s
          else
            let (s, way) := s.allocWrite v.lsn (s.recallAllowed v.mslot)
            match way with
            | none => s
            | some key => (s.recallInto idx key false).freeVictim idx)

/-- The line of a way that an error is met on: the lowest whose state admits it. -/
def errLine (w : Way) (err : CacheErr) : Option Nat :=
  (List.range 4).find? fun i => cacheErrFits w i err

/-- HBM_PATROL_STEP: one block with its mirror slot and masks every 50 µs; bytes the per-byte code
corrected are counted, and an error it cannot correct is handled (R83, Tables CACHE-6 and EVT-3). -/
def execHbmPatrolStep (n : Slice) (err : CacheErr) (corrected : Nat) (s : State) : Out :=
  .next (match (s.slice n.val).serves with
    | none => s
    | some ls =>
      let ptr := (s.slice n.val).patrolPtr
      let key := ls * 10485760 + ptr
      let s := s.modSlice n.val fun x => { x with
        patrolPtr := (ptr + 1) % 10485760, corrected := satAdd 0xFFFF x.corrected corrected }
      let pc := stackOfWay (ptr % 16) * 32 + pcOfWay ls (ptr % 16)
      let s := s.bucketAddN 4 pc corrected
      match errLine (s.way key) err with
      | some line => s.cacheError key line err
      | none => s)

/-- PSEUDO_CHANNEL_FAIL: it fails its whole stack while both serve, and is fenced by itself in a stack
serving alone (R84). -/
def execPseudoChannelFail (stack : Stack) (pc : Fin 32) (s : State) : Out :=
  .next (s.pcFails stack.val pc.val)

/-- HBM_STACK_FAIL (R85, R21). -/
def execHbmStackFail (stack : Stack) (s : State) : Out := .next (s.stackFail stack.val)

/-! ## Victim banks (R89) -/

/-- VBF_BANK_FENCE: the HELD and QUEUED entries of the bank are rebuilt; its ISSUED entries complete. -/
def execVbfBankFence (b : Fin 8) (s : State) : Out :=
  .next (if bitOf s.vbf.fenced b.val then s
    else
      let es := s.vbf.entries.map fun e =>
        if e.1 / 4096 = b.val ∧ e.2.st ≠ .issued then (e.1, { e.2 with rebuilding := true }) else e
      let s := { s with vbf := { s.vbf with
        fenced := setBit s.vbf.fenced b.val true
        rebuilding := setBit s.vbf.rebuilding b.val true
        entries := es } }
      (s.fire (1196 + b.val) .fault (Detail.ofUnit b.val)).settleLevel)

/-- VBF_REBUILD_COMPLETE: the rebuilt entries stand in other banks; requests that waited go on. -/
def execVbfRebuildComplete (b : Fin 8) (s : State) : Out :=
  .next (if !bitOf s.vbf.rebuilding b.val then s
    else
      let is := (s.vbf.entries.filter fun e => e.1 / 4096 == b.val && e.2.rebuilding).map Prod.fst
      let s := is.foldl State.moveVictim s
      let s := { s with vbf := { s.vbf with rebuilding := setBit s.vbf.rebuilding b.val false } }
      (s.fire 1204 .note (Detail.ofUnit b.val)).retryLookups)

/-! ## Maintenance operations (R92 to R94) -/

/-- Whether an LSN lies in the range of a slice's maintenance operation and in its share. -/
def State.maintCovers (s : State) (n lsn : Nat) : Bool :=
  let x := s.slice n
  x.serves == some (sliceHash lsn) &&
    (x.maintAll || decide (x.maintStart.toNat ≤ lsn ∧ lsn < x.maintStart.toNat + x.maintCount.toNat))

/-- One block operation (Table CACHE-9); a block with a fill in flight, or for CLEAN and FLUSH with an
unconfirmed victim entry, waits (R93, R94). -/
def State.maintBlock (s : State) (n op key : Nat) : State :=
  let w := s.way key
  let lsn := w.lsn key
  let wait (s : State) : State :=
    s.modSlice n fun x => { x with maintWaits := x.maintWaits ++ [lsn] }
  if w.held then wait s
  else if op = 3 then
    (if anyDirty w.lines then s.modSlice n fun x => { x with maintSkip := satAdd 0xFFFFFFFF x.maintSkip 1 }
     else s.setWay key Way.empty)
  else if !anyDirty w.lines then (if op = 2 then s.setWay key Way.empty else s)
  else if (s.matchVictim lsn).isSome || s.freshVictim.isNone then wait s
  else s.victimise key true (some n) (op == 2)

/-- The blocks present that an operation covers. -/
def State.maintKeys (s : State) (n : Nat) : List Nat :=
  (s.cache.ways.filter fun e => s.maintCovers n (e.2.lsn e.1)).map Prod.fst

/-- A PRELOAD of one LSN that is not present (R169). -/
def State.preload (s : State) (n lsn : Nat) : State :=
  if (s.findWay lsn).isSome ∨ (s.hostRead lsn).isSome ∨ s.wlv.cam.contains lsn then s
  else
    let id := s.stp.nextRead
    (s.newRead .prefetch lsn [] none none).modRead id fun r => { r with tracker := some n }

/-- The operation applied to every block of its share. -/
def State.maintApply (s : State) (n op : Nat) : State :=
  if op = 4 then
    let x := s.slice n
    let lsns := if x.maintAll then [] else
      (List.range x.maintCount.toNat).map fun i => x.maintStart.toNat + i
    (lsns.filter fun l => s.maintCovers n l).foldl (fun s l => s.preload n l) s
  else (s.maintKeys n).foldl (fun s k => s.maintBlock n op k) s

/-- CSn.MAINT_CTRL.go with an operation: refused while busy, or with a range beyond the user capacity. -/
def State.maintGo (s : State) (n : Nat) (op : Nat) : State :=
  let x := s.slice n
  if x.maintBusy || (!x.maintAll && decide (s.capacity / 256 < x.maintStart.toNat + x.maintCount.toNat)) then
    s.modSlice n fun x => { x with maintError := true }
  else
    let s := s.modSlice n fun x => { x with
      maintOp := BitVec.ofNat 3 op, maintBusy := true, maintSkip := 0, maintWaits := [] }
    s.maintApply n op

/-- MAINT_CLEAN. -/
def execMaintClean (n : Slice) (s : State) : Out := .next (s.maintGo n.val 1)

/-- MAINT_FLUSH. -/
def execMaintFlush (n : Slice) (s : State) : Out := .next (s.maintGo n.val 2)

/-- MAINT_DROP. -/
def execMaintDrop (n : Slice) (s : State) : Out := .next (s.maintGo n.val 3)

/-- MAINT_PRELOAD. -/
def execMaintPreload (n : Slice) (s : State) : Out := .next (s.maintGo n.val 4)

/-- Work that an operation of a slice has still to see confirmed (R92). -/
def State.maintPending (s : State) (n : Nat) : Bool :=
  (s.vbf.entries.any fun e => e.2.maint == some n) ||
    (s.stp.reads.any fun e => e.2.cls == .prefetch && e.2.tracker == some n) ||
    !(s.slice n).maintWaits.isEmpty

/-- The blocks that waited taken up again. -/
def State.maintRetry (s : State) (n : Nat) : State :=
  let x := s.slice n
  let s := s.modSlice n fun x => { x with maintWaits := [] }
  x.maintWaits.foldl
    (fun s l =>
      match s.findWay l with
      | some key => s.maintBlock n x.maintOp.toNat key
      | none => s) s

/-- MAINT_DONE: the operation has been applied to every block of its share, and every media write it started
is confirmed (R92). -/
def execMaintDone (n : Slice) (s : State) : Out :=
  .next (if !(s.slice n.val).maintBusy then s
    else
      let s := s.maintRetry n.val
      if s.maintPending n.val then s
      else s.modSlice n.val fun x => { x with maintBusy := false, maintDone := true })

/-! ## Slices (R95 to R98) -/

/-- SLICE_FAIL. -/
def execSliceFail (n : Slice) (s : State) : Out := .next (s.sliceFails n.val)

/-- HANDOVER_CUTOVER: new requests of the logical slice go to the incoming slice (R97). -/
def execHandoverCutover (out inc : Slice) (s : State) : Out :=
  if Instr.wf (.handoverCutover out inc) then
    .next (match (s.slice out.val).serves with
      | none => s
      | some ls =>
        if s.cache.handover.isSome || (s.slice inc.val).serves.isSome ||
            (s.slice inc.val).role != .idle || (s.slice out.val).role != .active then s
        else
          let s := s.modSlice out.val fun x => { x with serves := none }
          let s := s.modSlice inc.val fun x => { x with serves := some ls, role := .active }
          { s with cache := { s.cache with handover := some ⟨out.val, inc.val, ls, s.clock⟩ } })
  else .fault .illFormed

/-- Whether the outgoing slice still holds an entry of a handover. -/
def State.handoverHeld (s : State) (h : Handover) : Bool :=
  s.bly.entries.any fun e => sliceHash (lsnOf e.2.req.dpa) == h.lslice && e.2.st != .respond &&
    decide (e.2.accepted ≤ h.start)

/-- HANDOVER_END: the outgoing slice holds no entry any more and is idle (R97). -/
def execHandoverEnd (s : State) : Out :=
  .next (match s.cache.handover with
    | none => s
    | some h =>
      if s.handoverHeld h then s
      else
        let s := s.modSlice h.out fun x => { x with role := .idle }
        ({ s with cache := { s.cache with handover := none } }).settleLevel)

/-- HANDOVER_ABANDON: 100 µs after cutover an entry is still held, and routing returns (R97, R98). -/
def execHandoverAbandon (s : State) : Out :=
  .next (match s.cache.handover with
    | none => s
    | some h =>
      if !s.handoverHeld h || !s.elapsed h.start (us 100) then s
      else
        let s := s.modSlice h.inc fun x => { x with serves := none, role := .idle }
        let s := s.modSlice h.out fun x => { x with serves := some h.lslice }
        let s := { s with cache := { s.cache with handover := none } }
        (s.fire (1064 + 4 * h.out + 2) .note (Detail.ofUnit h.out)).settleLevel)

end Sys2Proof.Machine
end

