-- ==== Sys2Proof/Machine/Reads.lean ====
section
/-! DEFINITION. The commands of the media channels' reads, programs, drift clocks and refresh (chapter "Media
reads, drift and speculation"). -/

namespace Sys2Proof.Machine

open Sys2Proof

/-! ## Reads against programs -/

/-- MEDIA_READ_ISSUE: a host read is routed at its issue (R153); a prefetch read is sent where R167 lets
it. -/
def execMediaReadIssue (id : Nat) (s : State) : Out :=
  .next (match Sparse.find s.stp.reads id with
    | none => s
    | some r =>
      if r.status ≠ .queued ∨ r.merges then s
      else
        match r.cls with
        | .prefetch =>
          let p := s.place r.lsn
          if s.prefetchOk r p then
            (s.modRead id fun r => { r with ch := p.ch, die := p.die, sector := p.sector }).sendRead id
          else s
        | _ => s.routeRead id r)

/-- PROGRAM_RESUME: a suspended program goes on once no host read needs its die (R152). -/
def execProgramResume (ch : Chan) (die : Die) (s : State) : Out :=
  .next (match s.dieProg ch.val die.val with
    | none => s
    | some (i, g) =>
      if g.status ≠ .suspended || !(s.ch ch.val).up || s.hostReadOn ch.val die.val then s
      else
        (s.modProg i fun g => { g with status := .running, started := s.clock }).sendCmd ch.val die.val
          0x04 0 0 0)

/-- Whether a queued program may be sent to a die now (R145, R150, R207, R211, R329). -/
def State.startable (s : State) (ch die : Nat) (g : Prog) : Bool :=
  let p := s.progPlace g
  g.status == .queued && p.1 == ch && p.2.1 == die && decide (g.fails < 2) && !s.atPointer g &&
    s.permitted g

/-- Whether a die takes a program now (R150, Table READ-1, Table CHIUT-9). -/
def State.dieTakes (s : State) (ch die : Nat) : Bool :=
  let c := s.ch ch
  c.up && !s.dieAway ch die && !(c.die die).hot && !bitOf c.diesFailed die && (s.dieProg ch die).isNone &&
    s.lanesUsed ch die none == 0 && !s.hostReadOn ch die &&
    decide ((s.stp.progs.countP fun e => e.2.ch == ch && e.2.onDie) < 8) &&
    (s.seq.state == .run || s.seq.state == .resume || (s.seq.state == .dump && s.glb.dumping))

/-- The set of a program sent: its first program is out, its entries are ISSUED (Table CACHE-7). -/
def State.markSent (s : State) (id : Nat) : State :=
  let members := ((Sparse.find s.stp.sets id).map (·.members)).getD []
  let s := { s with stp := { s.stp with
    sets := Sparse.adjust s.stp.sets id fun t => { t with sent := true } } }
  members.foldl (fun s m => s.modVictim m.1 fun v => { v with st := .issued }) s

/-- One program counted for a region (R128). -/
def Wlv.countProgram (w : Wlv) (region : Nat) : Wlv :=
  { w with regions := Sparse.modify Region.reset w.regions region fun r =>
    { r with programs := r.programs + 1 } }

/-- The region of a program sent counts it (R128): its data members, not those of an unmapped row. -/
def State.countProgram (s : State) (g : Prog) : State :=
  match g.data, g.kind with
  | .parity _ _ _, _ => s
  | _, .unmapped => s
  | .sector _ _, _ => { s with wlv := s.wlv.countProgram (g.data.row / 2 ^ 20) }

/-- A scrub of the row of a program sent sees it (R196). -/
def State.touchRow (s : State) (row : Nat) : State :=
  let t := s.scrubTarget
  if s.globalRow row = t ∧ !s.stp.rowTouched.contains t then
    { s with stp := { s.stp with rowTouched := [t] } }
  else s

/-- The bookkeeping of a program sent. -/
def State.noteStart (s : State) (g : Prog) : State :=
  let s := match g.set with
    | none => s
    | some id => s.markSent id
  (s.countProgram g).touchRow g.data.row

/-- PROGRAM_START: the oldest program of a die is sent (R150); its leaf counts it (R139). -/
def execProgramStart (ch : Chan) (die : Die) (s : State) : Out :=
  .next (
    if !s.dieTakes ch.val die.val then s
    else
      match s.stp.progs.find? fun e => s.startable ch.val die.val e.2 with
      | none => s
      | some (i, g) =>
        match s.freeTag ch.val with
        | none => s
        | some t =>
          let sector := (s.progPlace g).2.2
          let s := s.modProg i fun g => { g with
            ch := ch.val, die := die.val, sector := sector, status := .running, tag := t
            started := s.clock, pulseRun := 0, suspends := 0 }
          let s := (s.sendCmd ch.val die.val 0x02 t sector 0).noteStart g
          let md := moduleDie s.wlv.dies ch.val die.val
          s.wearDraw (s.leafKeyAt (moduleOf ch.val) md (sector / 4096)))

/-! ## Drift clocks (R158 to R161) -/

/-- The acceleration of a temperature bucket in units of 1/256 (Table READ-2). -/
def driftAccel (b : Nat) : Nat := 32 * 2 ^ b

/-- The key of a die in the drift tables. -/
def driftKey (ch die : Nat) : Nat := ch * 8 + die

/-- The base offsets of a die saved to the drift tables (R161). -/
def State.saveBase (s : State) (ch die : Nat) : State :=
  let k := driftKey ch die
  let kept := s.media.driftBase.filter fun e => e.1 / 256 != k
  { s with media := { s.media with
    driftBase := ((s.ch ch).die die).base.foldl (fun m e => Sparse.put m (k * 256 + e.1) e.2) kept } }

/-- The base offsets that the drift tables hold for a die. -/
def State.savedBase (s : State) (ch die : Nat) : Sparse Int :=
  (s.media.driftBase.filter fun e => e.1 / 256 == driftKey ch die).map fun e => (e.1 % 256, e.2)

/-- DRIFT_CLOCK_TICK: the die temperature is read and its clock advanced (R158); a sentinel is due at each
multiple of 65,536 units (R161), and a die turns late (R171). -/
def execDriftClockTick (ch : Chan) (die : Die) (tempC : Int) (s : State) : Out :=
  if !(Instr.driftClockTick ch die tempC).wf then .fault .illFormed
  else .next (
    let c := s.ch ch.val
    if !c.up ∨ bitOf c.diesFailed die.val then s
    else
      let d := c.die die.val
      let b := nextBucket d.bucket tempC
      let clk := d.clk + BitVec.ofNat 48 (driftAccel b)
      let pass := d.passClk + driftAccel b
      let late := decide (2 * 2 ^ s.stp.passLog2 * 256 < pass)
      let s := s.modDie ch.val die.val fun d => { d with
        bucket := b, clk := clk, passClk := pass, late := late, reload := d.reload || b != d.bucket }
      let s := s.sendCmd ch.val die.val 0x06 0 0 0
      let s := if d.clk.toNat / 2 ^ 24 = clk.toNat / 2 ^ 24 then s else s.saveBase ch.val die.val
      let s := if late ∧ !d.late then s.fire (chanSrc ch.val 12) .warn (Detail.ofUnit die.val) else s
      s.dieTemp ch.val die.val tempC)

/-- OFFSET_TABLE_RELOAD: the inactive table is loaded and named in every later read (R160). -/
def execOffsetTableReload (ch : Chan) (die : Die) (s : State) : Out :=
  .next (
    let d := (s.ch ch.val).die die.val
    if !d.reload ∨ !(s.ch ch.val).up then s
    else
      (s.modDie ch.val die.val fun d => { d with table := !d.table, reload := false }).sendCmd ch.val
        die.val 0x08 0 0 0)

/-- DRIFT_CLOCK_RESTORE: the clock from the newest valid sentinel, the base offsets from the drift tables, the
die provisional (R161); its sweep resumes from its checkpoint (R172). -/
def execDriftClockRestore (ch : Chan) (die : Die) (stamp age : BitVec 40) (s : State) : Out :=
  .next (
    if !(s.ch ch.val).up || s.glb.replayDone || s.glb.replaying then s
    else s.modDie ch.val die.val fun d => { d with
      clk := BitVec.ofNat 48 ((stamp.toNat + age.toNat) * 256)
      base := s.savedBase ch.val die.val, reload := true, provisional := true, decoded := 0
      sweepRow := Sparse.get 0 s.media.sweepPoint (driftKey ch.val die.val) })

/-! ## Dual reads and prefetches -/

/-- DUAL_READ_COMPARE: the second confirmed result of a dual read against the first (R164). -/
def execDualReadCompare (id : Nat) (differ : Bool) (s : State) : Out :=
  .next (match Sparse.find s.stp.reads id with
    | none => s
    | some r =>
      if r.status ≠ .done then s
      else
        let s := { s with stp := { s.stp with reads := Sparse.erase s.stp.reads id } }
        if !differ then s
        else
          let p := s.place r.lsn
          let s := s.addrEntry p.ch p.die p.sector 3
          let s := { s with stp := { s.stp with
            scrubHead := [p.row] ++ s.stp.scrubHead.filter (· != p.row), rowTouched := [] } }
          s.fire (chanSrc p.ch 8) .fault ⟨p.die, p.sector, 0, 0⟩)

/-- PREFETCH_DROP_TIMEOUT: a prefetch not issued within 2.0 µs of its acceptance is dropped (R167). -/
def execPrefetchDropTimeout (id : Nat) (s : State) : Out :=
  .next (match Sparse.find s.stp.reads id with
    | none => s
    | some r =>
      if r.cls = .prefetch ∧ r.status = .queued ∧ s.elapsed r.accepted (us 2) then s.dropPrefetch id
      else s)

/-- PREFETCH_DECODE: the sector is checked and its block filled Clean, or the prefetch dropped (R168). -/
def execPrefetchDecode (id : Nat) (r : Sense) (s : State) : Out :=
  .next (match Sparse.find s.stp.reads id with
    | none => s
    | some x =>
      if x.cls ≠ .prefetch ∨ x.status ≠ .transferred then s
      else
        let c := s.cell x.lsn
        let ok := decide (r.errs ≤ 12) && !r.miscorrected && s.slotValid x.lsn c.slot &&
          (s.findWay x.lsn).isNone && (s.matchVictim x.lsn).isNone && s.cached (sliceHash x.lsn)
        if !ok then s.dropPrefetch id
        else
          let (s, way) := s.allocFill x.lsn
          (s.fillWay way (s.decrypt x.lsn c) c.poison).dropPrefetch id)

/-! ## Refresh (R171, R172, R192) -/

/-- The die row after `w` in a sweep: the stripe area, the metadata and the headroom and spare swaths in use
(R171); none at the end of the pass. -/
def State.nextSweep (s : State) (slot die w : Nat) : Option Nat :=
  let n := w + 1
  let head := headroomBase s.wlv.dies
  let headEnd := (head + Sparse.get 0 s.wlv.headUsed (dieKey slot die)) * 4096
  let spare := (head + 4096) * 4096
  let spareEnd := spare + Sparse.get 0 s.wlv.spareUsed (dieKey slot die) * 4096
  if n < headEnd then some n
  else if n < spare ∧ spare < spareEnd then some spare
  else if spare ≤ n ∧ n < spareEnd then some n
  else none

/-- The swaths of a channel's dies that are ordered retired or still migrate: they stay in the weak-swath
set (R198). -/
def State.leavingSwath (s : State) (ch key : Nat) : Bool :=
  let at_ (slot die swath : Nat) : Bool :=
    let cd := dieOfModule s.wlv.dies slot die
    cd.1 == ch && cd.2 * 2 ^ 20 + swath == key
  (s.wlv.ordered.any fun e =>
    let die := e.1 / 2 ^ 20 % 32
    let slot := e.1 / 2 ^ 20 / 32
    let p := s.physSwath slot die (e.1 % 2 ^ 20) 0
    at_ slot p.1 p.2.1) ||
  (s.wlv.remap.any fun e => e.2.migrating && at_ (e.1 / 2 ^ 20 / 32) e.2.oldDie e.2.oldSwath)

/-- A refresh pass of a die ends: the swaths that stayed clean leave the weak-swath set, the strikes and the
retirements for errors of the pass are forgotten (R192, R197, R198), and its refresh outcomes feed the drift
margins (Tables TEL-1 and TRIM-1). -/
def State.endPass (s : State) (ch die : Nat) : State :=
  let md := moduleDie s.wlv.dies ch die
  let keep (w : Weak) : Bool := w.key / 2 ^ 20 != die || w.strong || s.leavingSwath ch w.key
  let calm (w : Weak) : Weak := if w.key / 2 ^ 20 = die then { w with strong := false } else w
  let s := s.modCh ch fun c => { c with
    weak := (c.weak.filter keep).map calm
    strikes := c.strikes.filter fun e => e.1 / 2 / 2 ^ 20 != die }
  let s := { s with wlv := { s.wlv with
    errorRetires := Sparse.erase s.wlv.errorRetires (dieKey (moduleOf ch) md) } }
  let d := (s.ch ch).die die
  let hot := decide (d.visits * 5 < d.hotVisits * 1000)
  let calmPass := decide (d.hotVisits * 10000 < d.visits * 5)
  let s := { s with tel := { s.tel with
    passHot := s.tel.passHot || hot
    calmPasses := if calmPass then s.tel.calmPasses + 1 else 0 } }
  s.modDie ch die fun d => { d with
    passClk := 0, late := false, sweepRow := 0, visits := 0, hotVisits := 0 }

/-- The sweep pointer of a die kept on media at the start of its swath group (R171). -/
def State.saveSweep (s : State) (ch die n : Nat) : State :=
  { s with media := { s.media with
    sweepPoint := Sparse.set 0 s.media.sweepPoint (driftKey ch die) (n / 65536 * 65536) } }

/-- The sweep pointer moved on, with its checkpoint every 65,536 rows (R172). -/
def State.advanceSweep (s : State) (ch die : Nat) : State :=
  let k := moduleOf ch
  let md := moduleDie s.wlv.dies ch die
  let w := ((s.ch ch).die die).sweepRow
  let next := s.nextSweep k md w
  let n := next.getD 0
  let s := match next with
    | some n => s.modDie ch die fun d => { d with sweepRow := n }
    | none => s.endPass ch die
  if n / 65536 = w / 65536 then s else s.saveSweep ch die n

/-- The row and the position of the stripe member that a die row holds now; none for a gap row, a row of the
metadata or a swath that no mapping names. -/
def State.memberAt (s : State) (ch die w : Nat) : Option (Nat × Nat) :=
  let k := moduleOf ch
  let md := moduleDie s.wlv.dies ch die
  let key := s.leafKeyAt k md (w / 4096)
  let logical := key % 2 ^ 20
  if lastSwath < logical then none
  else
    let r := s.rowOfDie (key / 2 ^ 20 % 32) (logical * 4096 + w % 4096)
    let pos := s.posOnSlot r k
    let p := s.memberPlace r pos
    match s.rowAt r with
    | some row => if p.ch = ch ∧ p.die = die ∧ p.sector = w ∧ !p.absent then some (row, pos) else none
    | none => none

/-- The same content with a fresh stamp, as an in-place rewrite (R120, R172). -/
def State.rewriteMember (s : State) (row pos : Nat) : State :=
  let p := s.memberPlace (s.globalRow row) pos
  let data : ProgData :=
    if 2 ≤ pos then
      let lsn := row * 16 + (pos - 2)
      let c := s.cell lsn
      .sector lsn { c with stamp := ((s.ch p.ch).die p.die).clk.extractLsb' 8 40 }
    else if pos = 0 then .parity row false (s.parityP [] row)
    else .parity row true (s.parityQ [] row)
  s.addProg (mkProg .inPlace none p data)

/-- A member that a background read could not confirm itself: it is rebuilt at Tier 2, or its sector goes to
Tier 3 (R177, R182). The second value says whether it was confirmed. -/
def State.backgroundTier2 (s : State) (row pos : Nat) : State × Bool :=
  let p := s.memberPlace (s.globalRow row) pos
  if 16 ≤ (s.candidates row pos [] false).length then
    (s.modCh p.ch fun c => { c with dcnt := c.countDecode (p.die * 8 + 4) }, true)
  else if 2 ≤ pos then (s.makePending (row * 16 + (pos - 2)), false)
  else (s, false)

/-- A visit of one member (R172): read as a background read, rewritten in place when old enough. -/
def State.visitMember (s : State) (row pos : Nat) (r : Sense) : State :=
  let p := s.memberPlace (s.globalRow row) pos
  let b := (s.memberBucket p row pos).2
  let d := s.decodeMember row pos r
  let e := if d.2 then d else d.1.backgroundTier2 row pos
  let s := e.1
  let ok := e.2
  let lsn := row * 16 + (pos - 2)
  let s := if ok ∧ 2 ≤ pos then s.noteMediaPoison lsn (s.cell lsn).poison else s
  let rewrite := ok && decide (s.stp.rewriteBucket ≤ b)
  let s := s.modDie p.ch p.die fun d => { d with
    visits := d.visits + 1, hotVisits := d.hotVisits + b2n (rewrite && decide (12 < r.errs)) }
  if rewrite then s.rewriteMember row pos else s

/-- REFRESH_VISIT: the sweep of a die reads the sector at its pointer (R171, R172); it runs at every service
level but Out of service. -/
def execRefreshVisit (ch : Chan) (die : Die) (r : Sense) (s : State) : Out :=
  .next (
    let c := s.ch ch.val
    if s.glb.level == .outOfService || !c.up || s.dieAway ch.val die.val || bitOf c.diesFailed die.val then s
    else
      let s := match s.memberAt ch.val die.val (c.die die.val).sweepRow with
        | none => s
        | some (row, pos) => if s.rowBusy row then s else s.visitMember row pos r
      s.advanceSweep ch.val die.val)

end Sys2Proof.Machine
end

