-- ==== Sys2Proof/Machine/Integrity.lean ====
section
/-! DEFINITION. The commands of media integrity: the decode tiers, deep recovery, the poison list and patrol
scrub (chapter "Media integrity, scrub and retirement"). -/

namespace Sys2Proof.Machine

open Sys2Proof

/-! ## Decode tiers -/

/-- The decode of a read's own sector. -/
def State.decodeDirect (s : State) (id : Nat) (x : ReadOp) (r : Sense) : State :=
  let (s, ok) := s.decodeMember (rowOf x.lsn) (posOf x.lsn) r
  if !ok then s.directFails id x
  else if x.status = .done then s
  else s.confirmRead id { x with direct := false }

/-- The decode of a member of a read-around. -/
def State.decodeAround (s : State) (id : Nat) (x : ReadOp) (pos : Nat) (r : Sense) : State :=
  let (s, ok) := s.decodeMember (rowOf x.lsn) pos r
  if ok then s.modRead id fun x => { x with confirmed := x.confirmed ++ [pos] }
  else s.memberFails id x pos

/-- SECTOR_DECODE: a transferred sector of module `k` is decoded at Tier 0 or Tier 1 for a host read (R177,
R178, R191). -/
def execSectorDecode (id : Nat) (k : Slot) (r : Sense) (s : State) : Out :=
  .next (match Sparse.find s.stp.reads id with
    | none => s
    | some x =>
      let row := rowOf x.lsn
      let g := s.globalRow row
      let pos := s.posOnSlot g k.val
      if x.cls ≠ .demand then s
      else if pos = posOf x.lsn then
        (if x.direct && (x.status == .transferred || x.status == .done) then s.decodeDirect id x r else s)
      else
        let p := s.memberPlace g pos
        let stopped := match s.dieProg p.ch p.die with
          | none => true
          | some (_, q) => q.status == .suspended
        if x.around && x.members.contains pos && !x.confirmed.contains pos && stopped &&
            (s.ch p.ch).up then
          s.decodeAround id x pos r
        else s)

/-- TIER2_RECONSTRUCT: a sector is rebuilt from 16 confirmed members; its LSN check includes the slot it
names (R156, R177, R228). -/
def execTier2Reconstruct (id : Nat) (s : State) : Out :=
  .next (match Sparse.find s.stp.reads id with
    | none => s
    | some x =>
      if !x.around ∨ x.status = .done ∨ x.confirmed.length < 16 then s
      else if !s.slotValid x.lsn (s.cell x.lsn).slot then
        (if x.direct then s.modRead id fun x => { x with around := false } else s.pendRead id x.lsn)
      else
        let p := s.place x.lsn
        let s := s.modCh p.ch fun c => { c with dcnt := c.countDecode (p.die * 8 + 4) }
        let s := if x.failed.isEmpty then s
          else { s with stp := { s.stp with tier2AfterFail := s.stp.tier2AfterFail + 1 } }
        s.confirmRead id { x with around := false })

/-! ## Deep recovery (R183 to R186) -/

/-- TIER3_START: Mainmast takes the oldest sector that waits, at most 64 at once (R183, R186). -/
def execTier3Start (s : State) : Out :=
  .next (match s.stp.tier3Queue with
    | [] => s
    | lsn :: rest =>
      if !s.mst.running ∨ 64 ≤ s.stp.tier3Active.length then s
      else
        let t : Tier3 := ⟨lsn, s.clock⟩
        { s with stp := { s.stp with
          tier3Queue := rest, tier3Active := s.stp.tier3Active ++ [t] } })

/-- A sector leaves the CAM. -/
def State.leaveCam (s : State) (lsn : Nat) : State :=
  { s with wlv := { s.wlv with cam := s.wlv.cam.filter (· != lsn) } }

/-- A sector recovered at Tier 3: rewritten in place, out of the CAM and the list (R185). -/
def State.tier3Recovered (s : State) (lsn : Nat) : State :=
  let s := (s.poisonDrop lsn).leaveCam lsn
  let s := s.noteMediaPoison lsn (s.cell lsn).poison
  let s := s.rewriteMember (rowOf lsn) (posOf lsn)
  let s := { s with stp := { s.stp with recovered := satAdd 0xFFFF s.stp.recovered 1 } }
  s.fire 1211 .warn { Detail.none with addr := lsn * 256 }

/-- A sector declared LOST (R185, R197). -/
def State.tier3Lost (s : State) (lsn : Nat) : State :=
  let s := (s.writeLost lsn).leaveCam lsn
  let s := { s with stp := { s.stp with lost := satAdd 0xFFFF s.stp.lost 1 } }
  s.orderMember (s.globalRow (rowOf lsn)) (posOf lsn) .error

/-- TIER3_OUTCOME: recovery ends for a sector in work (R184, R185). -/
def execTier3Outcome (lsn : BitVec 40) (recovered : Bool) (s : State) : Out :=
  .next (
    if !s.mst.running || !(s.stp.tier3Active.any fun t => t.lsn == lsn.toNat) then s
    else
      let s := { s with stp := { s.stp with
        tier3Active := s.stp.tier3Active.filter fun t => t.lsn != lsn.toNat } }
      if recovered then s.tier3Recovered lsn.toNat else s.tier3Lost lsn.toNat)

/-! ## The poison list (R188, R189) -/

/-- POISON_LIST_COPY: every change not yet on media is copied (R188). -/
def execPoisonListCopy (s : State) : Out :=
  .next (if s.presentSlots.isEmpty then s
    else
      let copy (m : Sparse Poison) (lsn : Nat) : Sparse Poison :=
        match Sparse.find s.wlv.poison lsn with
        | some e => Sparse.put m lsn e
        | none => Sparse.erase m lsn
      { s with
        media := { s.media with poison := s.wlv.poisonDirty.foldl copy s.media.poison }
        wlv := { s.wlv with poisonDirty := [] } })

/-- Whether a block has content that media has not taken yet. -/
def State.blockDirty (s : State) (lsn : Nat) : Bool :=
  (s.victimsOf lsn).length != 0 ||
    (match s.findWay lsn with
      | some key => anyDirty (s.way key).lines
      | none => false)

/-- POISON_RECONCILE: an entry is compared with its sector's metadata, which wins (R189). A block whose
content media has not taken yet keeps its entry until it is written back (log entry 28). -/
def execPoisonReconcile (lsn : BitVec 40) (s : State) : Out :=
  .next (match Sparse.find s.wlv.poison lsn.toNat with
    | none => s
    | some e =>
      let bits := (s.cell lsn.toNat).poison
      if !s.glb.replayDone || !s.wlv.loaded || e.state == .pending || s.blockDirty lsn.toNat then s
      else if bits = e.lines then s
      else if bits = 0#4 then s.poisonDrop lsn.toNat
      else s.poisonSet lsn.toNat bits e.state)

/-! ## Patrol scrub (R194 to R196) -/

/-- What a check of a row finds (R195). -/
inductive ScrubResult where
  | ok | parityQ | parityP | member (j : Nat) | unlocated
  deriving DecidableEq, Repr

/-- The check of a row from its syndromes (R195). -/
def scrubCheck (sp sq : BitVec 2112) : ScrubResult :=
  if sp = 0#2112 ∧ sq = 0#2112 then .ok
  else if sp = 0#2112 then .parityQ
  else if sq = 0#2112 then .parityP
  else
    let a := bytesOf 264 sp
    let b := bytesOf 264 sq
    let fits (j : Nat) : Bool :=
      ((a.zip b).zip (bytesOf 264 (gfPow j sp))).all fun x => x.1.1 == 0#8 || x.1.2 == x.2
    match (List.range 16).find? fits with
    | some j => .member j
    | none => .unlocated

/-- The row after a check: a row of the head of the queue leaves it; the pointer moves on with its checkpoint
every 2^20 rows and its passes counted (R194). -/
def State.advanceScrub (s : State) : State :=
  let s := { s with stp := { s.stp with rowTouched := [] } }
  match s.stp.scrubHead with
  | _ :: rest => { s with stp := { s.stp with scrubHead := rest } }
  | [] =>
    let n := s.stp.scrubRow + 1
    if s.totalRows ≤ n then
      { s with
        stp := { s.stp with
          scrubRow := 0, scrubDiscarded := [], scrubPasses := satAdd 0xFFFF s.stp.scrubPasses 1 }
        media := { s.media with scrubPoint := 0 } }
    else
      { s with
        stp := { s.stp with scrubRow := n }
        media := { s.media with
          scrubPoint := if n % 1048576 = 0 then n else s.media.scrubPoint } }

/-- A member or parity located and rewritten (R193, R195, R197). -/
def State.scrubLocated (s : State) (row pos : Nat) : State :=
  let p := s.memberPlace (s.globalRow row) pos
  let w := p.die * 2 ^ 20 + p.sector / 4096
  let again := decide (0 < Sparse.get 0 (s.ch p.ch).scrubHits w)
  let s := s.modCh p.ch fun c => { c with scrubHits := Sparse.modify 0 c.scrubHits w (· + 1) }
  let s := (s.addrEntry p.ch p.die p.sector 4).rewriteMember row pos
  let s := { s with stp := { s.stp with located := satAdd 0xFF s.stp.located 1 } }
  let s := s.fire 1207 .fault { Detail.none with addr := row * 4096 }
  if again then s.orderMember p.row pos .error else s

/-- The outcome of a row's check. -/
def State.scrubOutcome (s : State) (row : Nat) (x : ScrubResult) : State :=
  match x with
  | .ok => s
  | .parityQ => s.scrubLocated row 1
  | .parityP => s.scrubLocated row 0
  | .member j => s.scrubLocated row (2 + j)
  | .unlocated =>
    let s := (s.rewriteMember row 0).rewriteMember row 1
    let s := { s with stp := { s.stp with unlocated := satAdd 0xFF s.stp.unlocated 1 } }
    s.fire 1208 .fault { Detail.none with addr := row * 4096 }

/-- The members of a scrubbed row that a refresh visit would rewrite (R172, R195). -/
def State.scrubRefresh (s : State) (row : Nat) : State :=
  (List.range 16).foldl
    (fun s j =>
      let p := s.memberPlace (s.globalRow row) (2 + j)
      let b := ((s.ch p.ch).die p.die).bucketOf (s.cell (row * 16 + j)).stamp
      if !p.absent && decide (s.stp.rewriteBucket ≤ b) && (s.heldCell (row * 16 + j)).isNone then
        s.rewriteMember row (2 + j)
      else s) s

/-- The check of a mapped row: with one member absent the row is checked against the other parity, with two
it is not checked (R195). -/
def State.scrubRow (s : State) (row : Nat) (sp sq : BitVec 2112) : State :=
  let gone := (List.range 18).filter fun pos => (s.memberPlace (s.globalRow row) pos).absent
  let s := match gone with
    | [] => s.scrubOutcome row (scrubCheck sp sq)
    | [pos] => s.scrubOutcome row (if pos = 1 then scrubCheck sp 0#2112 else scrubCheck 0#2112 sq)
    | _ => s
  s.scrubRefresh row

/-- SCRUB_ROW_CHECK: the row at the scrub pointer, or at the head of the queue, is read whole and checked. A
check met by a program in its row is discarded and requeued once (R195, R196); a scrub holds its standing
permit (Table BUD-1). -/
def execScrubRowCheck (sp sq : BitVec 2112) (s : State) : Out :=
  .next (
    let r := s.scrubTarget
    if !s.stp.scrubEnable || s.glb.level == .outOfService ||
        !(s.reef.held.any fun e => e.2.holder == .scrubPass) then s
    else if s.stp.rowTouched.contains r then
      (if s.stp.scrubDiscarded.contains r then s.advanceScrub
      else
        let s := s.advanceScrub
        { s with stp := { s.stp with
          scrubHead := s.stp.scrubHead ++ [r], scrubDiscarded := s.stp.scrubDiscarded ++ [r] } })
    else
      match s.rowAt r with
      | none => s.advanceScrub
      | some row => (s.scrubRow row sp sq).advanceScrub)

end Sys2Proof.Machine
end

