-- ==== Sys2Proof/Machine/Chiut.lean ====
section
/-! DEFINITION. The commands of the Chiut link: the modules' responses, the timeouts, training, and the module
service from insertion to rebuild (chapter "Chiut media link and module service"). -/

namespace Sys2Proof.Machine

open Sys2Proof

/-! ## Link errors (R205, R206, R209) -/

/-- A CRC failure's moment, kept for 1 ms (R209). -/
def State.noteCrc (s : State) (ch : Nat) : State :=
  (s.modCh ch fun c => { c with
    crcTimes := c.crcTimes.filter (fun t => decide (s.clock < t + ms 1)) ++ [s.clock] }).bucketAdd 2 ch

/-- A packet whose CRC fails: it is discarded. -/
def State.packetFails (s : State) (ch : Nat) : State :=
  (s.modCh ch fun c => { c with packetCrc := satAdd 0xFF c.packetCrc 1 }).noteCrc ch

/-- A burst whose CRC fails, in either direction. -/
def State.burstFails (s : State) (ch : Nat) : State :=
  (s.modCh ch fun c => { c with burstCrc := satAdd 0xFFF c.burstCrc 1 }).noteCrc ch

/-- A response on a channel whose link is up; one whose CRC fails is discarded. -/
def State.onResponse (s : State) (ch : Chan) (r : Resp) (f : State → State) : Out :=
  .next (if !(s.ch ch.val).linkUp then s else if !r.crcOk then s.packetFails ch.val else f s)

/-- The read that holds a command slot. -/
def State.readOfTag (s : State) (ch t : Nat) : Option (Nat × ReadOp) :=
  s.stp.reads.find? fun e => e.2.ch == ch && e.2.holdsSlot && e.2.tag == t

/-- The program on the die that a response names. -/
def State.progOf (s : State) (ch : Nat) (r : Resp) : Option (Nat × Prog) :=
  s.dieProg ch r.die.val

/-- An expiry of Table CHIUT-4: counted, and the fourth of a die within 1 s fails the die (R205). -/
def State.expiry (s : State) (ch die : Nat) : State :=
  let recent := (((s.ch ch).die die).expiries.filter fun t => decide (s.clock < t + sec 1)) ++ [s.clock]
  let s := s.modCh ch fun c => { c with timeouts := satAdd 0xFF c.timeouts 1 }
  let s := (s.modDie ch die fun d => { d with expiries := recent }).bucketAdd 3 ch
  if 4 ≤ recent.length then s.retireDie (moduleOf ch) (moduleDie s.wlv.dies ch die) else s

/-! ## Responses (R202, R203) -/

/-- ACK: the module has taken the command. -/
def execAck (ch : Chan) (r : Resp) (s : State) : Out :=
  s.onResponse ch r fun s => s.modDie ch.val r.die.val fun d => { d with ackResent := false }

/-- NACK: cause 0x02 has the program and its bursts sent again (R207); cause 0x01 does nothing (R203). -/
def execNack (ch : Chan) (r : Resp) (s : State) : Out :=
  s.onResponse ch r fun s =>
    let s := s.modDie ch.val r.die.val fun d => { d with ackResent := false }
    match s.progOf ch.val r with
    | none => s
    | some (i, g) =>
      if r.status ≠ 0x02#8 ∨ g.tag ≠ r.tag.val then s
      else
        let s := (s.burstFails ch.val).modProg i fun g => { g with started := s.clock, pulseRun := 0 }
        s.sendCmd ch.val r.die.val 0x02 g.tag g.sector 0

/-- READY: the data of a read is ready; the die reports the age bucket (R159). -/
def execReady (ch : Chan) (r : Resp) (s : State) : Out :=
  s.onResponse ch r fun s =>
    match s.readOfTag ch.val r.tag.val with
    | some (id, x) =>
      if x.status = .sensing then
        s.modRead id fun x => { x with status := .ready, bucket := r.status.toNat }
      else s
    | none => s

/-- A burst that did not arrive whole: it is requested once more, then the read fails as at Tier 1 without a
decode (R206). -/
def State.burstLost (s : State) (id : Nat) (x : ReadOp) : State :=
  if x.resends = 0 then
    (s.sendCmd x.ch x.die 0x0A 0 0 x.tag).modRead id fun x => { x with resends := 1 }
  else if x.cls = .prefetch then s.dropPrefetch id
  else s.directFails id x

/-- READ_BURST: a data burst arrives and its CRC-32C is checked (R151, R206). -/
def execReadBurst (ch : Chan) (tag : Fin 64) (crcOk : Bool) (s : State) : Out :=
  .next (match s.readOfTag ch.val tag.val with
    | none => s
    | some (id, x) =>
      if x.status ≠ .ready || !(s.ch ch.val).linkUp then s
      else if crcOk then s.modRead id fun x => { x with status := .transferred, resends := 0 }
      else (s.burstFails ch.val).burstLost id x)

/-- A program confirmed: its sector holds what it wrote, its set has one program fewer, and writes that waited
for its row are tried again. -/
def State.confirmProgram (s : State) (i : Nat) (g : Prog) : State :=
  let s := { s with stp := { s.stp with
    progs := Sparse.erase s.stp.progs i
    sets := Sparse.mapVals s.stp.sets fun t => { t with outstanding := t.outstanding.filter (· != i) } } }
  let s := match g.data, g.kind with
    | .sector _ _, .unmapped => s
    | .sector l c, _ => s.setCell l c
    | .parity _ _ _, _ => s
  if g.set.isNone then s.retryWriters else s

/-- A withdrawn program discarded by its die: requeued, with a fresh allowance of suspends (R154). -/
def State.confirmWithdraw (s : State) (i : Nat) : State :=
  s.modProg i fun g => { g with status := .queued, suspends := 0, pulseRun := 0 }

/-- The pulse time of a program command that ended, counted for its die (Table TEL-1). -/
def State.notePulse (s : State) (g : Prog) : State :=
  let k := g.ch * 8 + g.die
  { s with tel := { s.tel with
    pulseSum := Sparse.modify 0 s.tel.pulseSum k fun v => v + s.pulseTime g
    pulseCount := Sparse.modify 0 s.tel.pulseCount k (· + 1) } }

/-- DONE: a program's pulse has ended, or a withdraw is confirmed (R203). -/
def execDone (ch : Chan) (r : Resp) (s : State) : Out :=
  s.onResponse ch r fun s =>
    match s.progOf ch.val r with
    | none => s
    | some (i, g) =>
      let s := if g.status = .withdrawn then s.confirmWithdraw i
        else if g.status = .suspended then s
        else (s.notePulse g).confirmProgram i g
      s.releaseSuspended ch.val r.die.val

/-- A program answered with a verify failure (R207): sent once more; after the second the swath is ordered
retired and STP keeps the data until migration has passed the row. -/
def State.verifyFailed (s : State) (i : Nat) (g : Prog) : State :=
  let again (n : Nat) (s : State) : State := s.modProg i fun g => { g with
    status := .queued, fails := n, suspends := 0, pulseRun := 0 }
  if g.fails = 0 then again 1 s
  else
    let s := (again 2 s).modCh g.ch fun c => { c with progFail := satAdd 0xF c.progFail 1 }
    let md := moduleDie s.wlv.dies g.ch g.die
    let key := s.leafKeyAt (moduleOf g.ch) md (g.sector / 4096)
    (s.orderRetire (moduleOf g.ch) (key / 2 ^ 20 % 32) (key % 2 ^ 20) .error).fire (chanSrc g.ch 9) .fault
      ⟨g.die, g.sector, 0, 0⟩

/-- FAIL: a program failed its verify (R207). -/
def execFail (ch : Chan) (r : Resp) (s : State) : Out :=
  s.onResponse ch r fun s =>
    match s.progOf ch.val r with
    | none => s
    | some (i, g) =>
      if r.status ≠ 0x10#8 ∨ g.status = .withdrawn ∨ g.status = .suspended then s
      else (s.verifyFailed i g).releaseSuspended ch.val r.die.val

/-- A program stopped by its suspend: its pulse time is kept (R152). -/
def State.confirmSuspend (s : State) (i : Nat) (g : Prog) : State :=
  s.modProg i fun _ => { g with status := .suspended, pulseRun := g.pulseRun + (s.clock - g.started) / 2 }

/-- SUSPENDED: the die has stopped, its host reads start (R152). -/
def execSuspended (ch : Chan) (r : Resp) (s : State) : Out :=
  s.onResponse ch r fun s =>
    match s.progOf ch.val r with
    | none => s
    | some (i, g) =>
      if g.status ≠ .suspending then s
      else (s.confirmSuspend i g).releaseSuspended ch.val r.die.val

/-- What a STATE response says of the program on its die: none there any more, running with the pulse time that
remains, or suspended (R202, R205). -/
def State.applyReport (s : State) (rep : DieReport) (i : Nat) (g : Prog) : State :=
  let pulse := 14000 - rep.remaining.toNat * 64
  if rep.prog.val = 0 then
    (if g.status = .withdrawn then s.confirmWithdraw i else s.confirmProgram i g)
  else if g.status = .withdrawn then s
  else if rep.prog.val = 1 then
    s.modProg i fun g => { g with
      status := .running, suspends := rep.suspends.val, started := s.clock, pulseRun := pulse }
  else
    s.modProg i fun g => { g with status := .suspended, suspends := rep.suspends.val, pulseRun := pulse }

/-- STATE: temperature, program state, suspends used and pulse time of a die (R202). -/
def execState (ch : Chan) (r : Resp) (report : DieReport) (s : State) : Out :=
  if !(Instr.state ch r report).wf then .fault .illFormed
  else
    s.onResponse ch r fun s =>
      let s := s.modDie ch.val r.die.val fun d => { d with notReady := false }
      let s := match s.progOf ch.val r with
        | none => s
        | some (i, g) => s.applyReport report i g
      let s := if report.prog.val = 1 then s else s.releaseSuspended ch.val r.die.val
      s.dieTemp ch.val r.die.val r.status.toInt

/-! ## Timeouts (R205) -/

/-- ACK_TIMEOUT: the command is sent once more; a second expiry starts a quick retrain. -/
def execAckTimeout (ch : Chan) (die : Die) (s : State) : Out :=
  .next (
    let c := s.ch ch.val
    if !c.up then s
    else
      let again := (c.die die.val).ackResent
      let s := s.modDie ch.val die.val fun d => { d with ackResent := !again }
      let s := if again then s.modCh ch.val fun c => { c with train := 0b10#2 } else s
      s.expiry ch.val die.val)

/-- READ_BURST_TIMEOUT: a burst missing at the end of its window is handled as a CRC failure (R205, R206). -/
def execReadBurstTimeout (ch : Chan) (tag : Fin 64) (s : State) : Out :=
  .next (match s.readOfTag ch.val tag.val with
    | none => s
    | some (id, x) =>
      if x.status ≠ .ready then s else (s.burstLost id x).expiry ch.val x.die)

/-- The reads that wait for a die routed afresh (R205). -/
def State.rerouteWaiting (s : State) (ch die : Nat) : State :=
  (s.stp.reads.filter fun e => e.2.ch == ch && e.2.die == die && e.2.status == .suspending).foldl
    (fun s e =>
      match Sparse.find s.stp.reads e.1 with
      | none => s
      | some r =>
        let r : ReadOp := { r with status := .queued, direct := false }
        let s := s.modRead e.1 fun _ => r
        if r.around then s.modRead e.1 fun r => { r with status := .around } else s.routeRead e.1 r) s

/-- SUSPEND_TIMEOUT: the die counts as not ready until it answers a STATUS, its reads are routed afresh. -/
def execSuspendTimeout (ch : Chan) (die : Die) (s : State) : Out :=
  .next (match s.dieProg ch.val die.val with
    | none => s
    | some (_, g) =>
      if g.status = .suspending ∨ g.status = .withdrawn then
        let s := s.modDie ch.val die.val fun d => { d with notReady := true }
        let s := s.sendCmd ch.val die.val 0x06 0 0 0
        (s.rerouteWaiting ch.val die.val).expiry ch.val die.val
      else s)

/-- PROGRAM_TIMEOUT: after 16 µs of pulse time a STATUS is sent; after 28 µs the die fails. -/
def execProgramTimeout (ch : Chan) (die : Die) (s : State) : Out :=
  .next (match s.dieProg ch.val die.val with
    | none => s
    | some (_, g) =>
      let t := s.pulseTime g
      if g.status ≠ .running ∨ t < 16000 then s
      else if 28000 ≤ t then
        (s.expiry ch.val die.val).retireDie (moduleOf ch.val) (moduleDie s.wlv.dies ch.val die.val)
      else (s.sendCmd ch.val die.val 0x06 0 0 0).expiry ch.val die.val)

/-! ## Training (R208, R209) -/

/-- A channel fails (R208); with the last of its module the module fails (R214). -/
def State.failChannel (s : State) (ch : Nat) : State :=
  let s := s.modCh ch fun c => { c with failed := true, linkUp := false, train := 0b00#2, diesReady := 0#8 }
  let s := s.rerouteReads fun r => r.ch == ch || r.members.length != 0
  let s := s.dropPrograms fun p => p.ch == ch
  let s := s.fire (chanSrc ch 0) .fault Detail.none
  if (channelsOf (moduleOf ch)).all fun n => (s.ch n).failed then s.failModule (moduleOf ch)
  else s.settleLevel

/-- The dies that answer IDENTIFY on a channel and are not failed. -/
def Mch.readyDies (c : Mch) (dies : Nat) : Byte :=
  BitVec.ofNat 8 (2 ^ (dies / 4) - 1) &&& ~~~c.diesFailed

/-- A full training that succeeds: the link is up; any but the first counts as a retrain (R209). -/
def State.trained (s : State) (ch : Nat) : State :=
  let again := (s.ch ch).trained
  let s := s.modCh ch fun c => { c with
    linkUp := true, train := 0b11#2, trained := true, trainFails := 0, crcTimes := []
    diesReady := c.readyDies s.wlv.dies
    retrains := if again then satAdd 0xFF c.retrains 1 else 0 }
  let s := if again then s.fire (chanSrc ch 1) .warn { Detail.none with code := 1 } else s
  let s := if s.rst.mediaUpAt.isSome then s
    else State.bootStage { s with rst := { s.rst with mediaUpAt := some s.clock } } 0x09
  if s.moduleTrained (moduleOf ch) then s.takeStanding (moduleOf ch) else s

/-- CHANNEL_TRAINING: full training after MOD_RST_N is released or when a quick retrain ordered it; two failures
in a row fail the channel (R208). -/
def execChannelTraining (ch : Chan) (ok : Bool) (s : State) : Out :=
  .next (
    let c := s.ch ch.val
    let x := s.slot (moduleOf ch.val)
    if x.rst || !x.powerGood || c.failed || bitOf s.clk.chiutFailed (moduleOf ch.val) ||
        c.train == 0b11#2 || c.train == 0b10#2 then s
    else if ok then s.trained ch.val
    else if c.trainFails = 0 then s.modCh ch.val fun c => { c with trainFails := 1, train := 0b01#2 }
    else s.failChannel ch.val)

/-- Whether a cause of R209 stands. -/
def State.retrainDue (s : State) (ch : Nat) (why : RetrainWhy) : Bool :=
  match why with
  | .crcRate => decide (8 ≤ ((s.ch ch).crcTimes.filter fun t => decide (s.clock < t + ms 1)).length)
  | _ => (s.ch ch).train == 0b10#2

/-- QUICK_RETRAIN: a quick retrain runs; a CRC failure in its closing run passes to full training (R209). -/
def execQuickRetrain (ch : Chan) (why : RetrainWhy) (closingOk : Bool) (s : State) : Out :=
  .next (
    if !(s.ch ch.val).linkUp || !s.retrainDue ch.val why then s
    else
      let s := s.modCh ch.val fun c => { c with
        retrains := satAdd 0xFF c.retrains 1, crcTimes := []
        train := if closingOk then 0b11#2 else 0b01#2
        dies := Sparse.mapVals c.dies fun d => { d with ackResent := false } }
      s.fire (chanSrc ch.val 1) .note Detail.none)

/-- RECENTRING: the periodic adjustment; its eye feeds the tell-tales, and a result out of range starts a quick
retrain (R209); an eye below its guard band is recorded at WARN (Table TRIM-1). -/
def execRecentring (ch : Chan) (eyeMv : Nat) (inRange : Bool) (s : State) : Out :=
  .next (if !(s.ch ch.val).up then s
    else
      let s := s.modCh ch.val fun c => { c with
        eyeMv := eyeMv, train := if inRange then c.train else 0b10#2 }
      if (eyeMv : Int) < s.margin 0x0302 then s.warnRecord ch.val eyeMv else s)

/-! ## Alerts and the end of a module's programs (R211, R213, R321) -/

/-- MODULE_ALERT: the cause of a filtered MOD_ALERT_N is read and acted on (Table CHIUT-9); cause 2 is the
device's own and raises no alert. -/
def execModuleAlert (k : Slot) (cause : Fin 8) (s : State) : Out :=
  .next (if !(s.slot k.val).present then s
    else
      match cause.val with
      | 1 =>
        let s := { s with reef := { s.reef with capHalved := setBit s.reef.capHalved k.val true } }
        (s.modSlot k.val fun x => { x with coolSince := none }).alertCause k.val 1 .warn
      | 3 => (s.alertCause k.val 3 .critical).failModule k.val
      | 4 => (s.alertCause k.val 4 .fault).failModule k.val
      | 5 =>
        let s := s.alertCause k.val 5 .note
        if (s.slot k.val).state = .inService && !s.retireRefused then s.beginRetire k.val none else s
      | 6 => s.alertCause k.val 6 .warn
      | _ => s)

/-- MODULE_PROGRAMS_ENDED: every program sent to a module has ended: a retirement goes to SAFE (R213), a
power-down asserts MOD_RST_N (R321). -/
def execModuleProgramsEnded (k : Slot) (s : State) : Out :=
  .next (
    let x := s.slot k.val
    if !x.present || !s.moduleQuiet k.val then s
    else if s.seq.state = .strike then
      (channelsOf k.val).foldl (fun s n => s.modCh n Mch.dropLink)
        (s.modSlot k.val fun x => { x with rst := true })
    else if x.state = .retiring then (s.enterSafe k.val).settleLevel
    else s)

/-! ## Failure, removal, insertion and admission (R214 to R216) -/

/-- MODULE_FAILURE: a module fails in service (R214). -/
def execModuleFailure (k : Slot) (s : State) : Out :=
  .next (s.failModule k.val)

/-- MODULE_REMOVAL: MOD_PRSNT_N goes high: a present module fails, and the slot enters EMPTY (R214). -/
def execModuleRemoval (k : Slot) (s : State) : Out :=
  .next ((s.failModule k.val).emptySlot k.val)

/-- MODULE_INSERT: a module has been latched for 100 ms; its identity is checked (R215). -/
def execModuleInsert (k : Slot) (ident : Identity) (s : State) : Out :=
  .next (
    let x := s.slot k.val
    if (x.state = .empty ∨ (x.state = .powering ∧ x.ident.isNone)) ∧ s.rst.datapath then
      (s.modSlot k.val fun x => { x with state := .powering, present := true }).checkIdentity k.val ident false
    else s)

/-- MODULE_AUTO_ADMIT: a trained module that the record does not take back is admitted without a command
(R216, R447). -/
def execModuleAutoAdmit (k : Slot) (s : State) : Out :=
  .next (
    let x := s.slot k.val
    let taken := match s.standing k.val with
      | some .inService => true
      | some (.rebuilding _) => true
      | some .retiring => true
      | _ => false
    if x.state = .training && s.seq.autoAdmit && s.moduleTrained k.val && !taken && s.media.setId.isSome then
      s.admitModule k.val
    else s)

/-! ## Rebuild (R217 to R221) -/

/-- The rebuild read stream holds its standing permit (Table BUD-1). -/
def State.rebuildPermit (s : State) : Bool :=
  s.reef.held.any fun e => e.2.holder == .rebuildStream

/-- REBUILD_START: a WAITING module starts its rebuild when no other runs (R216, R217). -/
def execRebuildStart (k : Slot) (s : State) : Out :=
  .next (
    if (s.slot k.val).state ≠ .waiting || s.stp.rebuildModule.isSome || !s.rebuildPermit ||
        s.presentSlots.length < 16 then s
    else
      let s := s.setMember k.val (.rebuilding 0)
      let s := s.modSlot k.val fun x => { x with state := .rebuilding }
      let s := { s with stp := { s.stp with
        rebuildModule := some k.val, rebuildRow := 0, rebuildTimes := [] } }
      s.fire 1209 .note (Detail.ofUnit k.val))

/-- The module of a finished rebuild enters IN_SERVICE (R218, R447). -/
def State.endRebuild (s : State) (k : Nat) : State :=
  let s := s.setMember k .inService
  let s := s.modSlot k fun x => { x with state := .inService }
  let s := { s with stp := { s.stp with rebuildModule := none, rebuildRow := 0 } }
  ((s.fire 1210 .note (Detail.ofUnit k)).fireSlot k .note .inService).settleLevel

/-- The wear of a batch: each die of the module takes 32 sectors of its rows (R139, R217). -/
def State.wearBatch (s : State) (k row : Nat) : State :=
  (List.range s.wlv.dies).foldl
    (fun s d =>
      let key := swathKey k d (row / max 1 s.wlv.dies / 4096)
      (List.range 32).foldl (fun s _ => s.wearDraw key) s) s

/-- REBUILD_BATCH_CONFIRMED: every program of the batch is confirmed; the pointer advances by 32 × D rows, with
its checkpoint every 2^20 rows (R218). -/
def execRebuildBatchConfirmed (s : State) : Out :=
  .next (match s.stp.rebuildModule with
    | none => s
    | some k =>
      if (s.slot k).state ≠ .rebuilding || !s.rebuildPermit || s.presentSlots.length < 16 then s
      else
        let old := s.stp.rebuildRow
        let n := old + 32 * s.wlv.dies
        let times := (s.stp.rebuildTimes.filter fun t => decide (s.clock < t + sec 1)) ++ [s.clock]
        let s := s.wearBatch k old
        let s := { s with stp := { s.stp with rebuildRow := n, rebuildTimes := times } }
        let s := if s.totalRows ≤ n then s.endRebuild k
          else if n / 1048576 = old / 1048576 then s
          else s.setMember k (.rebuilding n)
        s.retryWriters.retryLookups)

end Sys2Proof.Machine
end

