-- ==== Sys2Proof/Machine/LogOps.lean ====
section
/-! DEFINITION. The shared operations of the logbook: record images (Table LOG-1), the ring and the archive
(R377 to R381), the writer (R375, R376) and the chain (R385). -/

namespace Sys2Proof.Machine

open Sys2Proof

/-! ## Records -/

/-- The record type of a code (Table LOG-2). -/
def RecType.ofCode (c : Byte) : RecType :=
  match c.toNat with
  | 0x01 => .event
  | 0x02 => .boot
  | 0x03 => .chain
  | 0x04 => .clear
  | 0x05 => .sealDone
  | 0x06 => .sealVoid
  | 0x07 => .debugEnter
  | 0x08 => .debugExit
  | 0x09 => .key
  | 0x0A => .lost
  | 0x0B => .outcome
  | _ => .other c

/-- The last sequence number of a record or pair. -/
def LogRec.last (r : LogRec) : Nat := if r.pair then r.seq + 1 else r.seq

/-- The 32 B of a record, or the 64 B of a pair (Table LOG-1). -/
def LogRec.bytes (r : LogRec) : List Byte :=
  leBytes 6 r.seq ++ leBytes 1 (r.sev.code * 64 + b2n r.pair * 32) ++ [r.type.code] ++ bytesOf 8 r.time ++
    padTo 16 r.payload ++
    (if r.pair then leBytes 2 r.last ++ padTo 30 (r.payload.drop 16) else [])

/-- The records that R380 pins: the first of each severity, CHAIN pairs never. -/
def pinnedOf (l : List LogRec) : List LogRec :=
  [Severity.note, .warn, .fault, .critical].filterMap fun v =>
    l.find? fun r => r.sev == v && r.type != .chain

/-- Whether no record that a CHAIN pair covers is held (R380). -/
def chainFree (held : List LogRec) (r : LogRec) : Bool :=
  !(held.any fun x => x.type != .chain &&
    decide (leField r.payload 0 6 ≤ x.seq ∧ x.seq ≤ leField r.payload 6 6))

/-- The record that a new one of severity `v` overwrites: the oldest of the lowest severity present, at or below
`v`, that is not pinned (R380). -/
def overwritten (held : List LogRec) (v : Severity) : Option LogRec :=
  let pins := pinnedOf held
  let ok := held.filter fun r =>
    !pins.contains r && decide (r.sev.code ≤ v.code) && (r.type != .chain || chainFree held r)
  [Severity.note, .warn, .fault, .critical].findSome? fun w => ok.find? fun r => r.sev == w

/-! ## The ring -/

/-- Slots of the ring. -/
def ringSlots : Nat := 65536

/-- Slots of the archive: 4,096 segments of 32,768. -/
def archiveSlots : Nat := 134217728

/-- Ring records not archived. -/
def Logb.unarchived (l : Logb) : List LogRec := l.ring.filter fun r => !r.archived

/-- Every ring slot holds an unarchived record. -/
def Logb.ringFull (l : Logb) : Bool := decide (ringSlots ≤ slotsOf l.unarchived)

/-- Room in the ring for `need` slots: archived records go first, oldest first (R377); then R380 chooses, and
what it overwrites is lost (R381). -/
def Logb.ringRoom (v : Severity) (need : Nat) : Nat → Logb → Option Logb
  | 0, l => if slotsOf l.ring + need ≤ ringSlots then some l else none
  | fuel + 1, l =>
    if slotsOf l.ring + need ≤ ringSlots then some l
    else
      match l.ring.find? LogRec.archived with
      | some r => Logb.ringRoom v need fuel { l with ring := l.ring.erase r }
      | none =>
        match overwritten l.ring v with
        | some r => Logb.ringRoom v need fuel (Logb.lose { l with ring := l.ring.erase r } r.sev)
        | none => none

/-! ## Numbering (R375) -/

/-- Whether `k` numbers can be issued now: they lie within the block, or the next block is confirmed. -/
def Logb.canNumber (l : Logb) (k : Nat) : Bool :=
  l.saturated || decide (l.n + k ≤ 2 ^ 20) || l.nextBlock.isSome

/-- `k` numbers issued. -/
def Logb.advance (l : Logb) (k : Nat) : Logb :=
  if l.saturated then l
  else if l.n + k ≤ 2 ^ 20 then { l with n := l.n + k }
  else
    let b := l.nextBlock.getD l.block
    { l with block := b, n := l.n + k - 2 ^ 20, nextBlock := none, saturated := b == 2 ^ 28 - 1 }

/-! ## The writer (R376, R358) -/

/-- The newest 448 slots of records. -/
def newest448 (l : List LogRec) : List LogRec :=
  (l.foldr
    (fun r (a : List LogRec × Nat) =>
      if a.2 + r.slots ≤ 448 then (r :: a.1, a.2 + r.slots) else (a.1, 448)) ([], 0)).1

/-- A record written to the ring and to the ditty bag copy with its number; none where it has no number yet. A
record that finds no place is lost (R380, R381). -/
def State.writeRec (s : State) (r : LogRec) : Option State :=
  if !s.log.canNumber r.slots then none
  else
    match s.log.ringRoom r.sev r.slots 3 with
    | none => some { s with log := s.log.lose r.sev }
    | some l =>
      let r := { r with seq := l.nextSeq }
      let l := l.advance r.slots
      let l := { l with
        ring := l.ring ++ [r]
        chainCount := if r.type = .chain then l.chainCount else l.chainCount + r.slots }
      some { s with log := l, dty := { s.dty with recs := newest448 (s.dty.recs ++ [r]) } }

/-- The LOST record (Table LOG-2) for the losses owed, once the ring has room for it (R381). -/
def State.payLost (s : State) : State :=
  let l := s.log
  if !l.owes then s
  else
    let drops (v : Nat) : Nat := min 0xFF (Sparse.get 0 l.owed v)
    let p := leBytes 1 (drops 0) ++ leBytes 1 (drops 1) ++ leBytes 1 (drops 2) ++ leBytes 1 (drops 3) ++
      leBytes 6 l.lostAfter ++ leBytes 4 l.owedUnknown
    let r : LogRec := ⟨0, .warn, .lost, s.glb.time, padTo 16 p, false, false⟩
    if (l.ringRoom .warn 1 3).isNone then s
    else
      match State.writeRec { s with log := { l with owed := [], owedUnknown := 0 } } r with
      | some t => (t.markFired 1273 .warn).routeFiring 1273 .warn { Detail.none with value := l.lostTotal }
      | none => s

/-- The head of the writer queue written, after a LOST record that is owed. -/
def State.writeHead (s : State) : State :=
  let s := s.payLost
  match s.log.queue with
  | [] => s
  | r :: q =>
    match s.writeRec r with
    | some t => { t with log := { t.log with queue := q } }
    | none => s

/-- The queue written out, as far as numbers last. -/
def State.drainLog (s : State) : Nat → State
  | 0 => s
  | n + 1 => (s.writeHead).drainLog n

/-! ## The archive (R378, R380) -/

/-- Room in the archive for a record (R380); the records above the last clear alone can be pinned. -/
def Logb.archiveRoom (v : Severity) (need : Nat) : Nat → Logb → Option Logb
  | 0, l => if slotsOf l.archive + need ≤ archiveSlots then some l else none
  | fuel + 1, l =>
    if slotsOf l.archive + need ≤ archiveSlots then some l
    else
      match overwritten l.archive v with
      | some r => Logb.archiveRoom v need fuel (Logb.lose { l with archive := l.archive.erase r } r.sev)
      | none => none

/-- One ring record copied to both archive copies; one at or below the bound of a clear is not kept (R388). -/
def Logb.archiveOne (l : Logb) (r : LogRec) : Logb :=
  let mark (l : Logb) : Logb :=
    { l with ring := l.ring.map fun x => if x = r then { x with archived := true } else x }
  if r.last ≤ l.clearBound then mark l
  else
    match l.archiveRoom r.sev r.slots 3 with
    | some k => mark { k with archive := k.archive ++ [{ r with archived := true }] }
    | none => mark (l.lose r.sev)

/-- Every unarchived ring record copied, in ascending sequence. -/
def Logb.archiveAll (l : Logb) : Logb := l.unarchived.foldl Logb.archiveOne l

/-- Metadata programs reach the modules: in RUN, with a media set and a module present (R333, R378). -/
def State.archiveReachable (s : State) : Bool :=
  s.seq.state == .run && s.media.setId.isSome && !s.presentSlots.isEmpty

/-! ## The chain (R384 to R387) -/

/-- The records that the next CHAIN pair covers. -/
def Logb.covered (l : Logb) : List LogRec :=
  l.ring.filter fun r => r.type != .chain && decide (l.chainFrom ≤ r.seq)

/-- A CHAIN pair is due: 254 records since the last one, or 1 s with one at least (R385). -/
def State.chainDue (s : State) : Bool :=
  decide (254 ≤ s.log.chainCount) || (decide (0 < s.log.chainCount) && s.elapsed s.log.chainAt (sec 1))

/-- A CHAIN pair with its flags and tag (R385); none where it has no number yet. -/
def State.chainPut (s : State) (flags : Nat) (tag : BitVec 128) : State :=
  let l := s.log
  let c := l.covered
  let first := (c.head?.map LogRec.seq).getD 0
  let lastN := (c.getLast?.map LogRec.last).getD 0
  let p := leBytes 6 first ++ leBytes 6 lastN ++ leBytes 2 (slotsOf c) ++ leBytes 1 flags ++ [0#8] ++
    bytesOf 16 tag ++ leBytes 8 l.chainIndex
  let r : LogRec := ⟨0, .note, .chain, s.glb.time, padTo 46 p, true, false⟩
  let q := l.nextSeq
  match s.writeRec r with
  | none => s
  | some t =>
    { t with log := { t.log with
      prevTag := l.chainTag, chainTag := tag, prevChainSeq := l.chainSeq, chainSeq := q
      chainIndex := l.chainIndex + 1, chainFrom := q + 2, chainCount := 0, chainAt := s.clock } }

/-- The keyed tag T_n over the records covered (R385). -/
def State.chainCmac (s : State) : BitVec 128 :=
  cmac (s.kce.key 0) (bytesOf 16 s.log.chainTag ++ (s.log.covered.map LogRec.bytes).flatten)

/-- The authorisation value of a clear under the tag of a CHAIN pair (R387). -/
def State.clearAuth (s : State) (bound : Nat) (tag : BitVec 128) : BitVec 128 :=
  cmac (s.kce.key 0) (leBytes 4 0x4C434C52 ++ leBytes 8 bound ++ bytesOf 16 tag)

end Sys2Proof.Machine
end

