-- ==== Sys2Proof/Machine/StatusOps.lean ====
section
/-! DEFINITION. Status registers that the register map and the Halyard commands both report, as words. -/

namespace Sys2Proof.Machine

open Sys2Proof

/-- GLB.SERVICE_STATE (R24). -/
def State.serviceWord (s : State) : Nat :=
  fieldAt 19 s.modulesOut + fieldAt 18 (b2n (popCount s.cache.stackOk == 1)) + fieldAt 16 s.cache.stackOk.toNat +
    fieldAt 14 (b2n s.port1.memEnabled) + fieldAt 13 (b2n s.port0.memEnabled) +
    fieldAt 12 (b2n s.pllSpare) + fieldAt 11 (b2n s.refclkSingle) + fieldAt 10 (b2n s.clk.onRc) +
    fieldAt 9 (b2n s.sliceSpareUsed) + fieldAt 8 (b2n s.sliceBypass) + fieldAt 7 (b2n s.coreSpareUsed) +
    fieldAt 6 (b2n s.mst.unchecked) + s.glb.level.code

/-- GLB.DUMP_STATUS. -/
def Glb.dumpStatusWord (g : Glb) : Nat :=
  fieldAt 16 (g.dumpEpoch % 2 ^ 16) + fieldAt 8 g.dumpOutcome + b2n g.replayDone

/-- WLV.SPARE: the present module with the fewest free spare swaths. -/
def State.spareWord (s : State) : Nat :=
  match s.worstModule with
  | none => fieldAt 27 0x1F
  | some k =>
    fieldAt 27 k + fieldAt 15 (s.moduleSpareFree k / 1024) + fieldAt 7 (s.moduleHeadFree k / 1024) +
      fieldAt 4 (s.wlv.adoptions.countP fun a => a.slot == k)

/-- MST.STATUS. -/
def Mst.statusWord (m : Mst) : Nat :=
  fieldAt 31 (b2n m.running) + fieldAt 30 (b2n m.takeover) + fieldAt 29 (b2n m.activating) +
    fieldAt 28 (b2n m.unchecked) + fieldAt 26 (m.lead.getD 0) + fieldAt 24 (m.checker.getD 3) +
    fieldAt 22 (m.spare.getD 3) + fieldAt 19 m.retired.toNat + fieldAt 16 (b2n m.slot) +
    fieldAt 8 m.takeovers + m.coreResets

/-- The device timestamp in ns. -/
def State.timeBytes (s : State) : List Byte := bytesOf 8 s.glb.time

end Sys2Proof.Machine
end

