-- ==== Sys2Proof/Machine/Mailbox.lean ====
section
/-! DEFINITION. The commands of the mailboxes themselves: doorbells and completions (R285, R286), the
retire-versus-abort arbiter (R288), and the MCTP sideband (R289). -/

namespace Sys2Proof.Machine

open Sys2Proof

/-! ## Taking a command (R286, R290) -/

/-- Whether the input length is the one given for the command (R290, step 4); the length of Set Trim Override
follows from its count. -/
def lengthOk (op : BitVec 16) (p : List Byte) : Bool :=
  if op = 0xC012#16 then decide (p.length = 4 + 8 * leField p 0 2)
  else
    match opLen op with
    | some n => decide (p.length = n)
    | none => true

/-- Firmware takes the command, or refuses it at checks 3 and 4 of R290; a refused class is recorded at WARN
(R267). An unsupported opcode is taken, and completed by its own row. -/
def State.firmwareTakes (s : State) (m : Mbox) (op : BitVec 16) (p : List Byte) : State :=
  let s := s.modMb m.val fun x => { x with st := .executing }
  let s := { s with mst := { s.mst with journal := s.mst.journal ++ [⟨m, op, false⟩] } }
  match opClass op with
  | none => s
  | some c =>
    if !s.classAllowed m.val c then (s.refuse m.val .permission).fire 1237 .warn (Detail.ofUnit m.val)
    else if !lengthOk op p then s.refuseRc m.val .invalidPayloadLength
    else s

/-- A doorbell on an IDLE mailbox: PENDING, then answered by hardware or taken by firmware (R285, R286). -/
def State.takeCommand (s : State) (m : Mbox) (op : BitVec 16) (p : List Byte) : State :=
  let s := s.modMb m.val fun x => { x with st := .pending, opcode := op, payload := p, output := .empty }
  if mailboxSize m < p.length then s.refuseRc m.val .invalidPayloadLength
  else if !s.mst.running then s.refuseRc m.val .busy
  else s.firmwareTakes m op p

/-- MAILBOX_DOORBELL: the host of a mailbox's port sets the doorbell of an IDLE mailbox (R285, R286). -/
def execMailboxDoorbell (m : Mbox) (opcode : BitVec 16) (payload : List Byte) (s : State) : Out :=
  .next (match mboxPort m.val with
    | some p => if (s.mb m.val).st = .idle ∧ (s.port p).linkUp then s.takeCommand m opcode payload else s
    | none => s)

/-- Whether a command's undo rule lets an abort reach it (Table HCMD-3, R296). -/
def abortableOp (op : Nat) : Bool :=
  !(op == 0x4400 || op == 0x4401 || op == 0xC050 || op == 0xC070)

/-- MB_DONE_GO: a write of HLY.MB_DONE_m.go in EXECUTING posts the completion that HLY.MB_RC_m and MB_DONE_m
hold; with `background` it starts the background command, or ends the one that runs (R285, R287). -/
def execMbDoneGo (path : Path) (m : Mbox) (s : State) : Out :=
  .next (
    let x := s.mb m.val
    if !s.pathOpen path ∨ x.st ≠ .executing then s
    else if !x.background then s.completeCode m.val false x.rcReg x.vendorReg x.output x.outLen
    else if x.bgActive then s.completeBgCode m.val x.rcReg x.vendorReg x.output
    else s.startBg m.val (abortableOp x.opcode.toNat) none)

/-! ## The arbiter (R288, Table MAST-5) -/

/-- A foreground command of a mailbox retired in the command journal. -/
def State.retireFg (s : State) (m : Mbox) : State :=
  let op := (s.mb m.val).opcode
  { s with mst := { s.mst with journal := s.mst.journal.map fun j =>
    if j.mbox = m ∧ j.opcode = op then { j with retired := true } else j } }

/-- HLY_RETIRE_REQUEST: firmware's retire of the command on a mailbox; an abort granted before it wins (R288). -/
def execHlyRetireRequest (m : Mbox) (s : State) : Out :=
  .next (if !s.mst.running then s
    else
      let x := s.mb m.val
      let lost := x.bgAborted && x.st != .executing
      let runs := x.bgActive || x.st == .executing
      let s := { s with hly := { s.hly with
        retireMbox := BitVec.ofNat 3 m.val, retireGranted := runs && !lost, retireLost := lost } }
      if lost || !runs then s
      else if x.bgActive then s.retireBg m.val
      else s.retireFg m)

/-- HLY_ABORT_REQUEST: firmware's abort of the background command on a mailbox (R288, Table MAST-5). -/
def execHlyAbortRequest (m : Mbox) (s : State) : Out :=
  .next (if !s.mst.running then s
    else
      let x := s.mb m.val
      let nothing := !x.bgActive || x.bgRetired
      let grant := !nothing && x.bgAbortable
      let s := { s with hly := { s.hly with
        abortMbox := BitVec.ofNat 3 m.val, abortGranted := grant, abortNothing := nothing } }
      if grant then s.undoBg m.val else s)

/-! ## The sideband (R289) -/

/-- The state with a response sent on the sideband. -/
def State.respond (s : State) (r : McTp) : State := { s with hly := { s.hly with mctpOut := some r } }

/-- SIDEBAND_REQUEST: a reassembled request is taken by mailbox 4, or answered Busy while it is not IDLE
(R289). -/
def execSidebandRequest (opcode : BitVec 16) (payload : List Byte) (s : State) : Out :=
  .next (if !s.hly.sidebandOn then s
    else if (s.mb 4).st = .idle then s.takeCommand 4 opcode payload
    else s.respond (.busy opcode))

/-- SIDEBAND_REASSEMBLY_TIMEOUT: the request is discarded and no response is written (R289). -/
def execSidebandReassemblyTimeout (s : State) : Out :=
  .next { s with hly := { s.hly with mctpOut := none } }

/-- SET_ENDPOINT_ID: the identifier is taken; 0x00 and 0xFF are no endpoint's (R289; log entry 34). -/
def execSetEndpointId (eid : Byte) (s : State) : Out :=
  .next (if !s.hly.sidebandOn then s
    else if eid = 0x00#8 ∨ eid = 0xFF#8 then s.respond (.setEid false s.hly.eid)
    else State.respond { s with hly := { s.hly with eid := eid } } (.setEid true eid))

/-- GET_ENDPOINT_ID (R289). -/
def execGetEndpointId (s : State) : Out :=
  .next (if s.hly.sidebandOn then s.respond (.getEid s.hly.eid) else s)

/-- GET_MCTP_VERSION_SUPPORT: the version of the base, of the control messages and of message type 0x08; the
number is a free value (R289; log entry 34). -/
def execGetMctpVersionSupport (msgType : Byte) (s : State) : Out :=
  .next (if !s.hly.sidebandOn then s
    else if msgType = 0x00#8 ∨ msgType = 0x08#8 ∨ msgType = 0xFF#8 then
      (s.respond (.version msgType true ((s.draw).setWidth 32))).drawn
    else s.respond (.version msgType false 0#32))

/-- GET_MESSAGE_TYPE_SUPPORT: message type 0x08, the CXL component command interface (R289). -/
def execGetMessageTypeSupport (s : State) : Out :=
  .next (if s.hly.sidebandOn then s.respond (.messageTypes [0x08#8]) else s)

/-! ## Unsupported commands (R290) -/

/-- UNSUPPORTED_COMMAND: an opcode that no table lists completes with Unsupported (R290, R293). -/
def execUnsupportedCommand (m : Mbox) (s : State) : Out :=
  .next (
    let x := s.mb m.val
    if x.st = .executing ∧ (opClass x.opcode).isNone then s.refuseRc m.val .unsupported else s)

end Sys2Proof.Machine
end

