-- ==== Sys2Proof/Machine/Standard.lean ====
section
/-! DEFINITION. The standard commands of Halyard (Table HCMD-2, R293 to R296). -/

namespace Sys2Proof.Machine

open Sys2Proof

/-! ## Identification, background status and abort -/

/-- IDENTIFY: the serial number of R28. -/
def execIdentify (m : Mbox) (s : State) : Out :=
  s.onCommand m 0x0001 fun s => s.succeed m.val (.identify Config.serial)

/-- BACKGROUND_OPERATION_STATUS, on mailboxes 0, 2 and 4 (R287, R293). -/
def execBackgroundOperationStatus (m : Mbox) (s : State) : Out :=
  s.onCommand m 0x0002 fun s =>
    let x := s.mb m.val
    if m.val % 2 = 1 then s.refuseRc m.val .unsupported
    else s.succeed m.val (.background x.bgOpcode x.bgPercent x.bgActive x.bgRc x.bgVendor)

/-- REQUEST_ABORT_BACKGROUND_OPERATION (R288, Table MAST-5). -/
def execRequestAbortBackgroundOperation (m : Mbox) (s : State) : Out :=
  s.onCommand m 0x0005 fun s =>
    let x := s.mb m.val
    if !x.bgActive || x.bgRetired then s.refuse m.val .nothingToAbort
    else if !x.bgAbortable then s.refuseRc m.val .unsupported
    else (s.undoBg m.val).succeed m.val .empty

/-! ## Event logs (R410 to R412) -/

/-- The event log that a mailbox reads. -/
def State.mboxLog (s : State) (m log : Nat) : EvLog :=
  Sparse.get EvLog.reset
    (match mboxPort m with
      | some p => (s.port p).logs
      | none => s.evt.logs) log

/-- `f` on one event log of a port. -/
def State.modPortLog (s : State) (p : Port) (log : Nat) (f : EvLog → EvLog) : State :=
  s.modPort p fun x => { x with logs := Sparse.modify EvLog.reset x.logs log f }

/-- `f` on that log. -/
def State.modMboxLog (s : State) (m log : Nat) (f : EvLog → EvLog) : State :=
  match mboxPort m with
  | some p => s.modPortLog p log f
  | none => { s with evt := { s.evt with logs := Sparse.modify EvLog.reset s.evt.logs log f } }

/-- Event records that an output payload holds, after the 32 B header and at 128 B each (log entry 21). -/
def recordsFit (m : Mbox) : Nat := (mailboxSize m - 32) / 128

/-- GET_EVENT_RECORDS: as many whole records as the output payload holds, oldest first (R293). -/
def execGetEventRecords (m : Mbox) (log : Fin 4) (s : State) : Out :=
  s.onCommand m 0x0100 fun s =>
    let l := s.mboxLog m.val log.val
    let out := l.recs.take (recordsFit m)
    s.succeed m.val (.events out (decide (out.length < l.recs.length)) l.overflow l.firstOverflow l.lastOverflow)

/-- DEV_ALERT_N released where no log above Informational holds a record and 10 ms have passed (R412). -/
def State.settleAlert (s : State) : State :=
  if s.evt.alert && !s.evt.alertHeld && s.elapsed s.evt.alertAt (ms 10) then
    { s with evt := { s.evt with alert := false } }
  else s

/-- CLEAR_EVENT_RECORDS: the records named are removed, or all of them where none is named (R293; log entry
35). -/
def execClearEventRecords (m : Mbox) (log : Fin 4) (handles : List Nat) (s : State) : Out :=
  s.onCommand m 0x0101 fun s =>
    let l := s.mboxLog m.val log.val
    if handles.any fun h => !(l.recs.any fun r => r.handle == h) then s.refuseRc m.val .invalidInput
    else
      let s := s.modMboxLog m.val log.val fun l =>
        { EvLog.reset with recs := if handles.isEmpty then [] else l.recs.filter fun r => !handles.contains r.handle }
      (s.settleAlert).succeed m.val .empty

/-- GET_EVENT_INTERRUPT_POLICY: the vector of each log, 255 for none; the sideband reports by polling only
(R293, R411). -/
def execGetEventInterruptPolicy (m : Mbox) (s : State) : Out :=
  s.onCommand m 0x0102 fun s =>
    s.succeed m.val (.policy (match mboxPort m.val with
      | some p => (List.range 4).map (s.port p).logVec
      | none => List.replicate 4 255))

/-- SET_EVENT_INTERRUPT_POLICY: the MSI-X vector of a log, or none (R411). -/
def execSetEventInterruptPolicy (m : Mbox) (log : Fin 4) (msix : Bool) (vector : Fin 32) (s : State) : Out :=
  s.onCommand m 0x0103 fun s =>
    match mboxPort m.val with
    | some p =>
      (s.modPort p fun x => { x with
        logVector := Sparse.set (log.val + 1) x.logVector log.val (if msix then vector.val else 255) }).succeed
        m.val .empty
    | none => s.refuseRc m.val .unsupported

/-! ## Firmware (R282, R283) -/

/-- Bytes of a firmware slot: sectors 8 to 19 and 20 to 31 of 32 KiB. -/
def fwSlotBytes : Nat := 393216

/-- The first byte of a firmware slot in the sea chest. -/
def fwBase (slot : Nat) : Nat := (8 + 12 * slot) * 32768

/-- The active firmware slot, 0 or 1. -/
def State.activeSlot (s : State) : Nat := b2n s.mst.slot

/-- GET_FW_INFO: the active slot, the staged slot and the image headers, which hold the revisions (R293). -/
def execGetFwInfo (m : Mbox) (s : State) : Out :=
  s.onCommand m 0x0200 fun s =>
    s.succeed m.val (.fwInfo (s.activeSlot + 1) (s.mst.staged.map fun b => b2n b + 1)
      [s.sea.readFlash (fwBase 0) 256, s.sea.readFlash (fwBase 1) 256])

/-- The slot of a transfer made ready: at its start the slot's sectors are erased. -/
def State.openSlot (s : State) (slot offset : Nat) : State :=
  if offset ≠ 0 then s
  else
    let x := (List.range 12).foldl (fun (x : Sea) i => x.eraseSector (8 + 12 * slot + i)) s.sea
    State.noteWear
      { s with
        sea := x
        mst := { s.mst with fw := Sparse.set FwSlot.empty s.mst.fw slot FwSlot.empty } } s.sea.maxErases.1

/-- TRANSFER_FW: image bytes at an offset in 128 B units go to the slot that is not active, in order (R282,
R293; log entry 36). -/
def execTransferFw (m : Mbox) (slot : Fin 2) (offset : Nat) (data : List Byte) (s : State) : Out :=
  s.onCommand m 0x0201 fun s =>
    let at_ := 128 * offset
    if slot.val = s.activeSlot then s.refuseRc m.val .invalidSlot
    else if fwSlotBytes < at_ + data.length then s.refuseRc m.val .invalidInput
    else if at_ ≠ 0 ∧ at_ ≠ (Sparse.get FwSlot.empty s.mst.fw slot.val).bytes then
      s.refuseRc m.val .fwOutOfOrder
    else
      let s := s.openSlot slot.val offset
      let s := { s with
        sea := s.sea.program (data.mapIdx fun i b => (fwBase slot.val + at_ + i, b))
        mst := { s.mst with
          fw := Sparse.set FwSlot.empty s.mst.fw slot.val ⟨false, at_ + data.length⟩
          staged := if s.mst.staged = some (slot.val == 1) then none else s.mst.staged } }
      s.succeed m.val .empty

/-- The image of a slot found valid. -/
def State.imageValid (s : State) (slot : Nat) : State :=
  { s with mst := { s.mst with
    fw := Sparse.modify FwSlot.empty s.mst.fw slot fun x => { x with valid := true } } }

/-- Activate FW taken by firmware: the image's digest and signature are checked; offline it is staged for the
next PON or SYS, online its activation starts (R282). -/
def State.startActivation (s : State) (m : Mbox) (slot : Fin 2) (online digestOk accepts : Bool) : State :=
  if slot.val = s.activeSlot then s.refuseRc m.val .invalidSlot
  else if online && s.anyBg then s.refuseRc m.val .busy
  else if !digestOk then s.refuseRc m.val .fwAuthFailed
  else
    let s := s.imageValid slot.val
    if !online then
      State.succeed { s with mst := { s.mst with staged := some (slot.val == 1) } } m.val .empty
    else if !accepts then s.refuseRc m.val .invalidInput
    else
      State.startBg { s with mst := { s.mst with activateMbox := some m } } m.val true (some slot.val)

/-- Steps 3 and 4 of R283: the new image takes over; the store of the active slot is the retire point. -/
def State.finishActivation (s : State) (m : Mbox) : State :=
  let slot := (s.mb m.val).bgSlot.getD 0
  let (s, ok) := s.seaStore [(0x0304, leBytes 1 slot)] true
  if !ok then s
  else
    let s := s.retireBg m.val
    let s := { s with mst := { s.mst with
      running := true, activating := false, activateMbox := none, slot := slot == 1, staged := none
      kickedAt := s.clock } }
    (s.completeBg m.val .success .none .empty).fire 1235 .note (Detail.ofUnit (slot + 1))

/-- ACTIVATE_FW: the command taken; or, where its activation has passed step 2, its steps 3 and 4 (R282, R283;
log entry 31). -/
def execActivateFw (m : Mbox) (slot : Fin 2) (online digestOk accepts : Bool) (s : State) : Out :=
  .next (
    let x := s.mb m.val
    if s.taken m.val 0x0202 then s.startActivation m slot online digestOk accepts
    else if x.bgActive && x.bgOpcode == 0x0202#16 && s.mst.activating && !s.mst.takeover then s.finishActivation m
    else s)

/-! ## Timestamp and logs -/

/-- GET_TIMESTAMP. -/
def execGetTimestamp (m : Mbox) (s : State) : Out :=
  s.onCommand m 0x0300 fun s => s.succeed m.val (.timestamp s.glb.time)

/-- SET_TIMESTAMP. -/
def execSetTimestamp (m : Mbox) (time : BitVec 64) (s : State) : Out :=
  s.onCommand m 0x0301 fun s =>
    State.succeed { s with glb := { s.glb with time := time, timeHalf := false } } m.val .empty

/-- GET_SUPPORTED_LOGS: the Command Effects Log only. -/
def execGetSupportedLogs (m : Mbox) (s : State) : Out :=
  s.onCommand m 0x0400 fun s => s.succeed m.val (.supportedLogs true)

/-- The opcodes that can run as background commands (Tables HCMD-2 and HCMD-3). -/
def bgOps : List Nat := [0x0202, 0x4400, 0x4401, 0xC020, 0xC021, 0xC050, 0xC051, 0xC070]

/-- GET_LOG: the Command Effects Log: each supported opcode, and whether it can run in the background. -/
def execGetLog (m : Mbox) (s : State) : Out :=
  s.onCommand m 0x0401 fun s =>
    s.succeed m.val (.log (commands.map fun e => (BitVec.ofNat 16 e.1, bgOps.contains e.1)))

/-! ## Memory device, health and settings -/

/-- The DPA size that a mailbox's path sees (R292). -/
def State.mboxSize (s : State) (m : Nat) : Nat :=
  match mboxPort m with
  | some p => s.portSize p
  | none => s.capacity

/-- IDENTIFY_MEMORY_DEVICE: capacities in 256 MiB units and the poison limits (R293). -/
def execIdentifyMemoryDevice (m : Mbox) (s : State) : Out :=
  s.onCommand m 0x4000 fun s =>
    let n := s.mboxSize m.val / 2 ^ 28
    s.succeed m.val (.memoryDevice n n 0 0 0 1048576 1024 true)

/-- GET_PARTITION_INFO: the active persistent capacity equals the total. -/
def execGetPartitionInfo (m : Mbox) (s : State) : Out :=
  s.onCommand m 0x4100 fun s => s.succeed m.val (.partition (s.mboxSize m.val / 2 ^ 28))

/-- Any slot FAILED, or an HBM stack, a slice share or a core failed (R294). -/
def State.replacementNeeded (s : State) : Bool :=
  ((List.range 18).any fun k => (s.slot k).state == .failed) || s.cache.stackFailed != 0#2 ||
    ((List.range 17).any fun n => (s.slice n).role == .failed) || s.cache.unserved != 0#16 ||
    s.mst.retired != 0#3

/-- The report of R294; the controller die temperature is a free value. -/
def State.health (s : State) : Health where
  maintenanceNeeded := decide (1 ≤ s.glb.level.code)
  performanceDegraded := decide (2 ≤ s.glb.level.code)
  replacementNeeded := s.replacementNeeded
  mediaNotReady := !s.glb.memoryActive || s.glb.level == .outOfService || s.glb.erasing || s.glb.formatting
  lifeUsed := s.lifeUsed
  temperature := ((s.draw).setWidth 8 : BitVec 8).toInt
  dirtyShutdowns := s.sea.counter 4
  correctedVolatile := ((List.range 17).map fun n => (s.slice n).corrected).sum
  correctedPersistent := s.stp.tier2AfterFail + s.stp.recovered

/-- GET_HEALTH_INFO (R294). -/
def execGetHealthInfo (m : Mbox) (s : State) : Out :=
  s.onCommand m 0x4200 fun s => (s.drawn).succeed m.val (.health s.health)

/-- GET_ALERT_CONFIGURATION. -/
def execGetAlertConfiguration (m : Mbox) (s : State) : Out :=
  s.onCommand m 0x4201 fun s => s.succeed m.val (.alerts s.hly.alertCfg)

/-- SET_ALERT_CONFIGURATION: volatile until a store of group 7 (R299). -/
def execSetAlertConfiguration (m : Mbox) (lifeUsed : Nat) (overC underC : Int)
    (volatileErrs persistentErrs : Nat) (s : State) : Out :=
  s.onCommand m 0x4202 fun s =>
    State.succeed { s with hly := { s.hly with
      alertCfg := ⟨lifeUsed, overC, underC, volatileErrs, persistentErrs⟩ } } m.val .empty

/-- GET_SHUTDOWN_STATE. -/
def execGetShutdownState (m : Mbox) (s : State) : Out :=
  s.onCommand m 0x4203 fun s => s.succeed m.val (.shutdown s.hly.shutdownClean)

/-- SET_SHUTDOWN_STATE: stored by the next store of group 10 (R293). -/
def execSetShutdownState (m : Mbox) (clean : Bool) (s : State) : Out :=
  s.onCommand m 0x4204 fun s =>
    State.succeed { s with hly := { s.hly with shutdownClean := clean } } m.val .empty

/-! ## Poison (R187, R188, R295) -/

/-- The DPA that a mailbox's path gives a device DPA (R292). -/
def State.fromDevice (s : State) (m a : Nat) : Nat :=
  match mboxPort m with
  | some p => if (s.port p).mode = 0b01#2 then a - (s.port p).partBase.toNat * 2 ^ 28 else a
  | none => a

/-- The poisoned lines of device DPA [a, b), rising, with their states. -/
def State.poisonLines (s : State) (a b : Nat) : List (Nat × PoisonState) :=
  s.wlv.poison.flatMap fun e =>
    (List.range 4).filterMap fun i =>
      let d := e.1 * 256 + 64 * i
      if bitOf e.2.lines i ∧ a ≤ d ∧ d < b then some (d, e.2.state) else none

/-- Lines that follow each other under one state, as runs. -/
def poisonRuns (l : List (Nat × PoisonState)) : List PoisonRun :=
  l.foldr
    (fun x rs =>
      match rs with
      | r :: t =>
        if x.1 + 64 = r.dpa ∧ x.2 = r.state then ⟨x.1, r.lines + 1, r.state⟩ :: t
        else ⟨x.1, 1, x.2⟩ :: rs
      | [] => [⟨x.1, 1, x.2⟩]) []

/-- Poison records that an output payload holds, after the 32 B header and at 16 B each (log entry 21). -/
def poisonFit (m : Mbox) : Nat := (mailboxSize m - 32) / 16

/-- GET_POISON_LIST: the runs of poisoned lines of the range asked (R187, R188, R292). -/
def execGetPoisonList (m : Mbox) (dpa : BitVec 48) (lines : Nat) (s : State) : Out :=
  s.onCommand m 0x4300 fun s =>
    match s.mboxDpa m.val dpa.toNat with
    | none => s.refuseRc m.val .invalidPhysicalAddress
    | some a =>
      if s.mboxSize m.val < dpa.toNat + 64 * lines then s.refuseRc m.val .invalidPhysicalAddress
      else
        let runs := (poisonRuns (s.poisonLines a (a + 64 * lines))).map fun r =>
          { r with dpa := s.fromDevice m.val r.dpa }
        let out := runs.take (poisonFit m)
        s.succeed m.val (.poison out (decide (out.length < runs.length)) s.wlv.overflow s.wlv.overflowAt)

/-- Lines of the poison list whose entries read INJECTED. -/
def State.injectedLines (s : State) : Nat :=
  (s.wlv.poison.map fun e => if e.2.state = .injected then popCount e.2.lines else 0).sum

/-- What refuses Inject Poison and Clear Poison at an address, or the device DPA of its line (R292, R295). The
memory must be active (log entry 37). -/
def State.poisonTarget (s : State) (m : Mbox) (dpa : Nat) (f : Nat → State) : State :=
  match s.mboxDpa m.val dpa with
  | none => s.refuseRc m.val .invalidPhysicalAddress
  | some a =>
    let a := a / 64 * 64
    if (s.sealedAt a).isSome then s.refuse m.val .sealedLine
    else if s.inVerifyBuffer a then s.refuse m.val .range
    else if !s.glb.memoryActive then s.refuseRc m.val .mediaDisabled
    else f a

/-- INJECT_POISON: the line is poisoned as a poisoned MemWr poisons it, state INJECTED; the data is a free
value (R32, R295). -/
def execInjectPoison (m : Mbox) (dpa : BitVec 48) (s : State) : Out :=
  s.onCommand m 0x4301 fun s =>
    s.poisonTarget m dpa.toNat fun a =>
      if 1024 ≤ s.injectedLines then s.refuseRc m.val .injectPoisonLimit
      else ((s.drawn).storeLine a s.draw (some .injected)).succeed m.val .empty

/-- CLEAR_POISON: the line is written as a non-poisoned full-line MemWr of the data writes it (R189, R295). -/
def execClearPoison (m : Mbox) (dpa : BitVec 48) (data : Line) (s : State) : Out :=
  s.onCommand m 0x4302 fun s =>
    s.poisonTarget m dpa.toNat fun a => (s.storeLine a data none).succeed m.val .empty

/-! ## Sanitize and Secure Erase (R296) -/

/-- A background command of the media set runs on a mailbox other than `m`: Sanitize, Secure Erase, Format
Media Set, a seal or a verify-read (R287). -/
def State.mediaSetBusy (s : State) (m : Nat) : Bool :=
  (List.range 5).any fun i => i != m && (s.mb i).bgActive &&
    [0x4400, 0x4401, 0xC070, 0xC020, 0xC021].contains (s.mb i).bgOpcode.toNat

/-- Whether R287 answers a background command Busy. -/
def State.bgBusy (s : State) (m : Nat) : Bool := (s.mb m).bgActive || s.mediaSetBusy m

/-- Sanitize or Secure Erase taken: ERASE in its in-place form and the poison list emptied (R239, R296). -/
def State.startErase (s : State) (m : Mbox) : State :=
  if !s.kce.extents.isEmpty then s.refuse m.val .sealedLine
  else if s.bgBusy m.val then s.refuseRc m.val .busy
  else
    let s := { s with glb := { s.glb with erasing := true } }
    ((s.erase false).clearPoisonList).startBg m.val false none

/-- The command taken, or its background work ended (log entry 31). -/
def State.eraseCommand (s : State) (m : Mbox) (op : Nat) (zero : Bool) : State :=
  let x := s.mb m.val
  if s.taken m.val op then s.startErase m
  else if x.bgActive && x.bgOpcode.toNat == op then
    ((s.endErase zero).retireBg m.val).completeBg m.val .success .none .empty
  else s

/-- SANITIZE (R296). -/
def execSanitize (m : Mbox) (s : State) : Out := .next (s.eraseCommand m 0x4400 true)

/-- SECURE_ERASE (R296). -/
def execSecureErase (m : Mbox) (s : State) : Out := .next (s.eraseCommand m 0x4401 false)

end Sys2Proof.Machine
end

