-- ==== Sys2Proof/Machine/Logbook.lean ====
section
/-! DEFINITION. The commands of the logbook: the writer, the archive, the chain, bring-up, snapshots and the
authorised clear (R374 to R388). -/

namespace Sys2Proof.Machine

open Sys2Proof

/-! ## The writer -/

/-- LOG_RECORD_WRITE: the writer takes a record from its queue into the ring and the ditty bag (R376, R379,
R381). -/
def execLogRecordWrite (s : State) : Out :=
  .next (if s.log.restored then s.writeHead else s)

/-- The payload written through LOG.WR_DATA_0 to LOG.WR_DATA_11. -/
def Logb.wrPayload (l : Logb) : List Byte :=
  ((List.range 12).map fun i => bytesOf 4 (Sparse.get 0#32 l.wrData i)).flatten

/-- LOG_WR_GO: a firmware record or pair queued (R376); types CHAIN and CLEAR are not defined here. -/
def execLogWrGo (path : Path) (s : State) : Out :=
  .next (
    let l := s.log
    if !s.pathOpen path ∨ l.wrType = 0x03#8 ∨ l.wrType = 0x04#8 then s
    else s.logPut (Severity.ofCode l.wrSev.toNat) (RecType.ofCode l.wrType) l.wrPair l.wrPayload)

/-- ARCHIVE_COPY: firmware copies every unarchived ring record to the archive (R378). -/
def execArchiveCopy (s : State) : Out :=
  .next (if s.mst.running && s.archiveReachable then { s with log := s.log.archiveAll } else s)

/-- BLOCK_COUNTER_ADVANCE: from n = 0xF_0000 the next block is counted ahead (R375). -/
def execBlockCounterAdvance (verified : Bool) (s : State) : Out :=
  .next (if !s.log.restored || s.log.saturated || s.log.nextBlock.isSome || decide (s.log.n < 0xF0000) then s
    else
      let (s, ok) := s.counterInc 1 verified
      if ok then { s with log := { s.log with nextBlock := some (s.sea.counter 1) } } else s)

/-! ## The chain -/

/-- CHAIN_WRITE: a CHAIN pair that is due, keyed, unkeyed or fenced; it waits while core L is stalled (R385,
R386). -/
def execChainWrite (s : State) : Out :=
  .next (if !s.log.restored || !s.chainDue then s
    else if s.kce.coreLFenced then s.chainPut 4 0#128
    else if !bitOf s.kce.loaded 0 then s.chainPut 1 0#128
    else if s.kce.stallL.isSome then s
    else s.chainPut 0 s.chainCmac)

/-- CHAIN_STALL_TIMEOUT: a pair that has waited 10 s on core L is written with the stalled flag (R386). -/
def execChainStallTimeout (s : State) : Out :=
  .next (match s.kce.stallL with
    | some t =>
      if !s.log.restored || !s.chainDue || s.kce.coreLFenced || !bitOf s.kce.loaded 0 ||
          !s.elapsed t (sec 10) then s
      else (s.chainPut 2 0#128).fire 1274 .warn Detail.none
    | none => s)

/-! ## Bring-up (R379) -/

/-- The highest archived sequence number. -/
def Logb.archiveTop (l : Logb) : Nat := (l.archive.map LogRec.last).foldl max 0

/-- Records in a list that stand behind the newest key change of register 0, which starts a new chain (R384). -/
def chainsOf (recs : List LogRec) : List LogRec :=
  let keys := recs.filter fun r => r.type == .key && r.payload.take 2 == [1#8, 0#8]
  let from_ := (keys.map LogRec.seq).foldl max 0
  recs.filter fun r => r.type == .chain && decide (from_ ≤ r.seq)

/-- What the archive and the restored ring say of the chain and of the clears (R385, R388). -/
def Logb.reload (l : Logb) (now : Nat) : Logb :=
  let recs := l.archive ++ l.unarchived
  let chains := (chainsOf recs).reverse
  let tagOf (r : LogRec) : BitVec 128 := BitVec.ofNat 128 (leField r.payload 16 16)
  let from_ := ((recs.filter fun r => r.type == .chain).getLast?.map fun r => r.seq + 2).getD 0
  let clears := l.archive.filter fun (r : LogRec) => r.type == RecType.clear
  let bound := (clears.map fun (r : LogRec) => leField r.payload 0 6).foldl max 0
  let l := { l with
    clearBound := bound
    chainTag := (chains.head?.map tagOf).getD 0#128
    prevTag := ((chains.drop 1).head?.map tagOf).getD 0#128
    chainSeq := (chains.head?.map LogRec.seq).getD 0
    prevChainSeq := ((chains.drop 1).head?.map LogRec.seq).getD 0
    chainIndex := (chains.head?.map fun (r : LogRec) => leField r.payload 32 8 + 1).getD 0
    chainFrom := from_, chainAt := now }
  { l with chainCount := slotsOf l.covered }

/-- Numbering that continues behind the ditty bag: its records above the archive go back into the ring, and the
numbers held nowhere are lost (R379). -/
def State.restoreRing (s : State) (top : Nat) : State × Nat :=
  let back := s.dty.recs.filter fun r => decide (top < r.seq)
  let high := (s.dty.recs.map LogRec.last).foldl max 0
  let low := (back.head?.map LogRec.seq).getD (high + 1)
  let missing := if back.isEmpty then 0
    else if low / 2 ^ 20 = top / 2 ^ 20 then low - top - 1 else low % 2 ^ 20
  let l := s.log
  let l := { l with
    ring := back, block := high / 2 ^ 20, n := high % 2 ^ 20 + 1, owedUnknown := missing
    nextBlock := if high / 2 ^ 20 < s.sea.counter 1 then some (s.sea.counter 1) else none
    lostAfter := top, lostTotal := satAdd 0xFFFFFFFF l.lostTotal missing
    saturated := s.sea.saturated 1 }
  ({ s with log := l }, slotsOf back)

/-- Numbering that starts at a new block: the counter is incremented, and the BOOT record's gap runs to the end
of the block that the counter named before (R375, R379). -/
def State.newBlock (s : State) (top : Nat) : State × Nat × Nat :=
  let old := s.sea.counter 1
  let s := (s.counterInc 1 true).1
  let s := { s with log := { s.log with
    block := s.sea.counter 1, n := 0, nextBlock := none, saturated := s.sea.saturated 1 } }
  (s, top + 1, old * 2 ^ 20 + 0xFFFFF)

/-- The BOOT pair (Table LOG-2). -/
def State.bootRecord (s : State) (first last restored : Nat) : State :=
  s.logPut .note .boot true
    (leBytes 1 s.rst.level.code ++ leBytes 1 s.rst.source.toNat ++ leBytes 6 first ++ leBytes 6 last ++
      leBytes 2 restored)

/-- LOGBOOK_RESTORE: continuity restored at a PON or SYS bring-up or a restart from DOWN, and the BOOT record
written (R379). -/
def execLogbookRestore (s : State) : Out :=
  .next (if s.log.restored || !s.rst.aon || !s.sea.settled then s
    else
      let top := s.log.archiveTop
      let fresh := s.rst.level = .pon || s.dty.recs.isEmpty
      let first := if fresh then (s.newBlock top).2.1 else 0
      let last := if fresh then (s.newBlock top).2.2 else 0
      let n := if fresh then 0 else (s.restoreRing top).2
      let s := if fresh then (s.newBlock top).1 else (s.restoreRing top).1
      let s := { s with log := { s.log.reload s.clock with restored := true } }
      s.bootRecord first last n)

/-! ## Snapshots (R382, R383) -/

/-- Slots that an output payload of Logbook Snapshot holds. -/
def slotsFit (m : Mbox) : Nat := (mailboxSize m - 16) / 32

/-- Records up to a number of slots; a pair is never split. -/
def takeSlots : Nat → List LogRec → List LogRec
  | _, [] => []
  | n, r :: l => if r.slots ≤ n then r :: takeSlots (n - r.slots) l else []

/-- The records that a read finds held, ascending: not those that a clear removed. -/
def Logb.readable (l : Logb) (source mode stop : Nat) : List LogRec :=
  let ring := l.ring
  let old := l.archive.filter fun r => !(ring.any fun x => x.seq == r.seq)
  let all := if source = 1 then l.archive else if mode = 1 then old ++ ring else ring
  all.filter fun r => decide (l.clearBound < r.last) && (mode == 0 || decide (r.last ≤ stop))

/-- The output of Logbook Snapshot. -/
def snapshotOutput (out : List LogRec) (more : Bool) (lost : Nat) : List Byte :=
  leBytes 8 ((out.head?.map LogRec.seq).getD 0) ++ leBytes 2 (slotsOf out) ++ leBytes 1 (b2n more) ++ [0#8] ++
    leBytes 4 lost ++ (out.map LogRec.bytes).flatten

/-- LOGBOOK_SNAPSHOT (R382, R383). -/
def execLogbookSnapshot (m : Mbox) (s : State) : Out :=
  s.onCommand m 0xC040 fun s =>
    let p := s.payload m.val
    let first := leField p 0 8
    let source := leField p 10 1
    let mode := leField p 11 1
    if 1 < source || decide (1 < mode) || !reservedZero p [12, 13, 14, 15] then s.refuse m.val .range
    else
      let stop := match Sparse.find s.log.snapshots m.val with
        | some e => e.1
        | none => s.log.nextSeq - 1
      let held := (s.log.readable source mode stop).filter fun r => decide (first ≤ r.last)
      let out := takeSlots (min (leField p 8 2) (slotsFit m)) held
      let more := decide (out.length < held.length)
      let snaps := if mode = 1 && more then Sparse.put s.log.snapshots m.val (stop, s.clock)
        else Sparse.erase s.log.snapshots m.val
      State.succeed { s with log := { s.log with snapshots := snaps } } m.val
        (.bytes (snapshotOutput out more s.log.lostTotal))

/-- SNAPSHOT_RELEASE_TIMEOUT: 60 s without a mode-1 read (R383). -/
def execSnapshotReleaseTimeout (m : Mbox) (s : State) : Out :=
  .next (match Sparse.find s.log.snapshots m.val with
    | some (_, t) =>
      if s.elapsed t (sec 60) then
        { s with log := { s.log with snapshots := Sparse.erase s.log.snapshots m.val } }
      else s
    | none => s)

/-! ## The authorised clear (R387, R388) -/

/-- The CHAIN pair whose tag authorises a clear: the newest, or the one before it. -/
def State.authPair (s : State) (bound : Nat) (auth : BitVec 128) : Option Nat :=
  if s.clearAuth bound s.log.chainTag = auth then some s.log.chainSeq
  else if s.clearAuth bound s.log.prevTag = auth then some s.log.prevChainSeq
  else none

/-- LOGBOOK_CLEAR: the authorisation is checked and the CLEAR pair written, behind every record queued (R387,
R388, step 1). -/
def execLogbookClear (m : Mbox) (s : State) : Out :=
  s.onCommand m 0xC041 fun s =>
    let p := s.payload m.val
    let bound := leField p 0 8
    let auth := BitVec.ofNat 128 (leField p 8 16)
    if s.log.clearPending.isSome then s
    else if bound = 0 ∨ s.log.nextSeq ≤ bound then s.refuse m.val .range
    else if !bitOf s.kce.loaded 0 || s.kce.coreLFenced then s.refuse m.val .authFail
    else
      match s.authPair bound auth with
      | none => s.refuse m.val .authFail
      | some c =>
        let t := s.drainLog s.log.queue.length
        let n := slotsOf (t.log.archive.filter fun r => decide (r.last ≤ bound))
        let r : LogRec := ⟨0, .warn, .clear, t.glb.time,
          padTo 46 (leBytes 6 bound ++ leBytes 6 c ++ leBytes 4 n ++ leBytes 1 m.val), true, false⟩
        let q := t.log.nextSeq
        match t.writeRec r with
        | some u => { u with log := { u.log with clearPending := some ⟨bound, q, m⟩ } }
        | none => s

/-- CLEAR_RETIRE: both archive copies of the CLEAR pair are confirmed: the clear takes effect and the command
completes (R388, steps 2 and 3). -/
def execClearRetire (s : State) : Out :=
  .next (match s.log.clearPending with
    | none => s
    | some c =>
      if !s.mst.running || !s.archiveReachable then s
      else
        let l := s.log.archiveAll
        let l := { l with
          clearBound := max l.clearBound c.bound, clearPending := none
          archive := l.archive.filter fun r => decide (c.bound < r.last) }
        let s := { s with log := l }
        if s.taken c.mbox.val 0xC041 then s.succeed c.mbox.val (.bytes (leBytes 8 c.seq)) else s)

end Sys2Proof.Machine
end

