-- ==== Sys2Proof/Machine/SeaChest.lean ====
section
/-! DEFINITION. The commands of the sea chest (chapter "Sea chest", R389 to R404): the record layer, the
background erase, raw operations through SEA.RAW_CTRL, the counter layer and the settling at power-up. -/

namespace Sys2Proof.Machine

open Sys2Proof

/-- The flash takes new pulses: not from a strike point on (R321, R400). -/
def State.flashUsable (s : State) : Bool := s.seq.state != .strike

/-- RECORD_STORE: one record stored as a transaction of its own (R392, R395, R396). -/
def execRecordStore (id : BitVec 15) (payload : List Byte) (verified : Bool) (s : State) : Out :=
  if !recordFits payload then .fault .illFormed
  else if !s.sea.settled || !s.flashUsable then .next s
  else .next (s.seaStore [(id.toNat, payload)] verified).1

/-- RECORD_WITHDRAW: the record of an identifier cleared in both copies (R394). -/
def execRecordWithdraw (id : BitVec 15) (s : State) : Out :=
  .next (if !s.sea.settled || !s.flashUsable then s else s.seaWithdraw id.toNat)

/-- BACKGROUND_ERASE: the erase of the retired log sector ends and the sector is marked ERASED (R395, R400). -/
def execBackgroundErase (s : State) : Out :=
  .next (if !s.sea.erasing || !s.flashUsable then s
    else State.noteWear { s with sea := s.sea.eraseOther } s.sea.maxErases.1)

/-! ## Raw operations (R390, R391) -/

/-- A refused raw operation. -/
def State.rawRefused (s : State) : State := { s with sea := { s.sea with rawError := true } }

/-- The sector of the page that SEA.RAW_CTRL names. -/
def Sea.rawSector (x : Sea) : Nat := x.rawPage.toNat / 64

/-- The bytes a raw program writes with their addresses: byte j of the buffer at page byte (offset + j) mod
512. -/
def Sea.rawBytes (x : Sea) : List (Nat × Byte) :=
  (List.range (x.rawLen.toNat + 1)).map fun j =>
    (x.rawPage.toNat * 512 + (x.rawOffset.toNat + j) % 512,
      BitVec.ofNat 8 ((Sparse.get 0#32 x.rawBuf (j / 4)).toNat >>> (8 * (j % 4))))

/-- A firmware slot whose sector was written raw holds no image known to be valid (R282). -/
def State.touchSector (s : State) (k : Nat) : State :=
  if k < 8 then s
  else
    let slot := (k - 8) / 12
    { s with mst := { s.mst with
      fw := Sparse.modify FwSlot.empty s.mst.fw slot fun x => { x with valid := false } } }

/-- A raw program (R391). -/
def State.rawProgram (s : State) : State :=
  let k := s.sea.rawSector
  let l := s.sea.rawBytes
  if k < 5 ∨ !s.sea.canProgram (l.map Prod.fst) then s.rawRefused
  else State.touchSector { s with sea := s.sea.program l } k

/-- A raw erase (R390). -/
def State.rawErase (s : State) : State :=
  let k := s.sea.rawSector
  if k < 5 then s.rawRefused
  else
    (State.touchSector { s with sea := s.sea.eraseSector k } k).noteWear s.sea.maxErases.1

/-- A go of SEA.RAW_CTRL: the operation of its op field; one that is not defined is refused. -/
def State.rawGo (s : State) : State :=
  if !s.flashUsable then s
  else
    match s.sea.rawOp.toNat with
    | 1 => s.rawProgram
    | 2 => s.rawErase
    | _ => s.rawRefused

/-- RAW_PROGRAM: SEA.RAW_CTRL with op 0b01 and go. -/
def execRawProgram (path : Path) (s : State) : Out :=
  .next (if !s.pathOpen path then s
    else State.rawGo { s with sea := { s.sea with rawOp := 0b01#2 } })

/-- RAW_ERASE: SEA.RAW_CTRL with op 0b10 and go. -/
def execRawErase (path : Path) (s : State) : Out :=
  .next (if !s.pathOpen path then s
    else State.rawGo { s with sea := { s.sea with rawOp := 0b10#2 } })

/-! ## Counters (R401 to R404) -/

/-- A counter of Table SEA-5 is incremented; the numbers 0, 6 and 7 name none. -/
def State.counterGo (s : State) (c : Nat) (verified : Bool) : State :=
  if c < 1 ∨ 5 < c ∨ !s.sea.settled ∨ !s.flashUsable then s else (s.counterInc c verified).1

/-- COUNTER_INCREMENT (R402, R403). -/
def execCounterIncrement (ctr : Fin 8) (verified : Bool) (s : State) : Out :=
  .next (s.counterGo ctr.val verified)

/-- COUNTER_REFILL: with fewer than 64 free slots the counter sector is refilled (R404). -/
def execCounterRefill (s : State) : Out :=
  .next (if s.sea.ctrSlots ≤ 960 ∨ !s.sea.settled ∨ !s.flashUsable then s else s.refillCounters)

/-! ## Power-up (R399) -/

/-- SEA_CHEST_SETTLE: an erase that a reset or a power loss cut short is finished; every other operation of
Table SEA-4 ends in the step it starts in. -/
def execSeaChestSettle (s : State) : Out :=
  .next (if !s.rst.aon || s.sea.settled then s
    else
      let was := s.sea.maxErases.1
      let x := if s.sea.otherErased then s.sea else s.sea.eraseOther
      State.noteWear { s with sea := { x with settled := true } } was)

end Sys2Proof.Machine
end

