-- ==== Sys2Proof/Machine/Vendor.lean ====
section
/-! DEFINITION. The vendor commands of Halyard but for the logbook's (Tables HCMD-3 and HCMD-4, R297 to
R307). Each meaning carries out checks 5 and 6 of R290 in order and then the command. -/

namespace Sys2Proof.Machine

open Sys2Proof

/-! ## Status (R298) -/

/-- The output of Get Device Status. -/
def State.deviceStatus (s : State) : List Byte :=
  leBytes 4 s.serviceWord ++ bytesOf 3 s.dbg.epoch ++
    leBytes 1 (b2n s.dbg.saturated + 2 * b2n s.dbg.granted) ++ leBytes 4 s.glb.dumpStatusWord ++
    leBytes 4 s.spareWord ++ leBytes 1 s.lifeUsed ++ leBytes 1 s.shr.rkState.code ++
    leBytes 2 s.kce.sealedCount ++ leBytes 5 s.shr.hemline ++ leBytes 1 (s.activeSlot + 1) ++
    leBytes 1 s.mst.takeovers ++ leBytes 1 0 ++ leBytes 4 s.wlv.poison.length

/-- GET_DEVICE_STATUS. -/
def execGetDeviceStatus (m : Mbox) (s : State) : Out :=
  s.onCommand m 0xC001 fun s => s.succeed m.val (.bytes s.deviceStatus)

/-- The output of Get Dirty Budget. -/
def State.dirtyBudget (s : State) : List Byte :=
  leBytes 2 s.glb.energyMj ++ leBytes 1 s.glb.budget ++ leBytes 1 s.glb.effBudget ++ leBytes 4 s.charged ++
    leBytes 2 s.glb.reserved ++ List.replicate 6 0#8 ++ bytesOf 8 s.tel.planTime

/-- GET_DIRTY_BUDGET. -/
def execGetDirtyBudget (m : Mbox) (s : State) : Out :=
  s.onCommand m 0xC002 fun s => s.succeed m.val (.bytes s.dirtyBudget)

/-- GET_SEAL_RECORD: the registry entry of a sealed extent (R250). -/
def execGetSealRecord (m : Mbox) (s : State) : Out :=
  s.onCommand m 0xC003 fun s =>
    let p := s.payload m.val
    let id := leField p 0 2
    let isSealed := (Sparse.find s.kce.extents id).any Extent.sealed
    if !reservedZero p [2, 3] || !isSealed then s.refuse m.val .range
    else
      match Sparse.find s.kce.registry id with
      | none => s.refuse m.val .registryLost
      | some r => s.succeed m.val (.bytes (registryImage id r))

/-! ## Settings (R299 to R301) -/

/-- The groups of a mask (Table HCMD-5). -/
def groupsOf (mask : Nat) : List Nat := (List.range 11).filter fun b => mask.testBit b

/-- SEA_CHEST_STORE: the groups named, committed together (R299). -/
def execSeaChestStore (m : Mbox) (stored : Bool) (s : State) : Out :=
  s.onCommand m 0xC010 fun s =>
    let mask := leField (s.payload m.val) 0 4
    if 2048 ≤ mask then s.refuse m.val .range
    else
      let new := (groupsOf mask).map fun b => (recGroup b, s.groupPayload b)
      let (s, ok) := s.seaStore new stored
      if ok then s.succeed m.val (.bytes (leBytes 4 mask ++ List.replicate 4 0#8 ++ s.timeBytes))
      else s.refuse m.val .storeFailed

/-- The entry of a margin in Get Trim Plan. -/
def State.trimEntry (s : State) (g : Margin) : List Byte :=
  leBytes 2 g.id ++ bytesOf 4 (BitVec.ofInt 32 (s.margin g.id)) ++ leBytes 1 (s.trm.sourceOf g.id) ++ [0#8]

/-- Entries that an output payload of Get Trim Plan holds. -/
def entriesFit (m : Mbox) : Nat := (mailboxSize m - 16) / 8

/-- GET_TRIM_PLAN: margins of the plan in force from an index (R298). -/
def execGetTrimPlan (m : Mbox) (s : State) : Out :=
  s.onCommand m 0xC011 fun s =>
    let p := s.payload m.val
    let first := leField p 0 2
    if !reservedZero p [2, 3] || decide (margins.length ≤ first) then s.refuse m.val .range
    else
      let out := (margins.drop first).take (entriesFit m)
      s.succeed m.val (.bytes (leBytes 4 s.trm.generation.toNat ++ bytesOf 8 s.trm.appliedT ++
        leBytes 2 margins.length ++ leBytes 2 out.length ++ (out.map s.trimEntry).flatten))

/-- One entry of Set Trim Override. -/
def overrideAt (p : List Byte) (i : Nat) : TrimEntry :=
  ⟨leField p (4 + 8 * i) 2, (BitVec.ofNat 32 (leField p (6 + 8 * i) 4)).toInt, leField p (10 + 8 * i) 1 == 1⟩

/-- Whether an entry is within its limits: a known margin, a defined action, a pinned value that the margin
allows (R301). -/
def overrideOk (p : List Byte) (i : Nat) : Bool :=
  let e := overrideAt p i
  decide (leField p (10 + 8 * i) 1 ≤ 1) && leField p (11 + 8 * i) 1 == 0 &&
    (marginOf e.margin).any fun g => e.release || (decide (g.lo ≤ e.value) && decide (e.value ≤ g.hi))

/-- One override placed or released. A released margin that no plan computes falls back to its default. -/
def State.override (s : State) (e : TrimEntry) : State :=
  if !e.release then { s with trm := { s.trm with overrides := Sparse.put s.trm.overrides e.margin e.value } }
  else
    let back := (marginOf e.margin).any fun g => !g.isComputed
    let d := (marginOf e.margin).elim 0 Margin.dflt
    { s with trm := { s.trm with
      overrides := Sparse.erase s.trm.overrides e.margin
      values := if back then Sparse.put s.trm.values e.margin d else s.trm.values } }

/-- SET_TRIM_OVERRIDE: refused whole on any bad entry; a plan follows (R301, R364). -/
def execSetTrimOverride (m : Mbox) (s : State) : Out :=
  s.onCommand m 0xC012 fun s =>
    let p := s.payload m.val
    let n := leField p 0 2
    if n = 0 || decide (511 < n) || !reservedZero p [2, 3] || !(List.range n).all (overrideOk p) then
      s.refuse m.val .range
    else
      let s := (List.range n).foldl (fun s i => s.override (overrideAt p i)) s
      State.succeed { s with trm := { s.trm with due := true } } m.val .empty

/-- The media power budget stored for the next PON: 180 W where group 2 was never stored. -/
def State.storedBudget (s : State) : Nat :=
  match s.sea.value (recGroup 2) with
  | some p => leField p 0 2
  | none => 180

/-- REEF_BUDGET (R300). -/
def execReefBudget (m : Mbox) (s : State) : Out :=
  s.onCommand m 0xC013 fun s =>
    let p := s.payload m.val
    let op := leField p 0 1
    let w := leField p 2 2
    if 1 < op || !reservedZero p [1] || (op == 1 && (decide (w < 100) || decide (280 < w))) then
      s.refuse m.val .range
    else
      let s := if op = 1 then { s with reef := { s.reef with budgetW := w } } else s
      s.succeed m.val (.bytes (leBytes 2 s.reef.budgetW ++ leBytes 2 s.storedBudget))

/-! ## Seals and verify-reads (R251, R252, R258, R259) -/

/-- The service level allows work on extents. -/
def State.sealLevel (s : State) : Bool := s.glb.level != .barePoles && s.glb.level != .outOfService

/-- Steps 1 and 2 of R252: the lock, the lowest free identifier, and the extent SEALING. -/
def State.startSeal (s : State) (m : Mbox) (id base len reg : Nat) : State :=
  let s := (s.startBg m.val true none).grantLock .seal
  { s with kce := { s.kce with
    extents := Sparse.put s.kce.extents id ⟨base / 2 ^ 20, len, false⟩
    sealing := some ⟨id, reg, base / 2 ^ 20, len, m, 0#64, s.glb.time, false, 0, false, 0#128⟩ } }

/-- SEAL_EXTENT: the refusals of R251, and the start of a seal (R252). -/
def execSealExtent (m : Mbox) (s : State) : Out :=
  s.onCommand m 0xC020 fun s =>
    let p := s.payload m.val
    let base := leField p 0 8
    let len := leField p 8 4
    let reg := leField p 12 1
    let size := len * 2 ^ 20
    let bad := reg = 0 || decide (7 < reg) || !reservedZero p [13, 14, 15] || base % 2 ^ 20 != 0 ||
      len = 0 || decide (1048575 < len) || decide (s.mboxSize m.val < base + size)
    match s.mboxDpa m.val base, s.kce.freeId with
    | none, _ => s.refuse m.val .range
    | some a, free =>
      if bad || decide (s.capacity < a + size) then s.refuse m.val .range
      else if s.kce.overlaps a size then s.refuse m.val .overlap
      else
        match free with
        | none => s.refuse m.val .registryFull
        | some id =>
          if !bitOf s.kce.loaded reg then s.refuse m.val .keyAbsent
          else if s.kce.owner ≠ .none then s.refuse m.val .lockBusy
          else if s.bgBusy m.val then s.refuseRc m.val .busy
          else if !s.sealLevel then s.refuse m.val .unavailable
          else if s.kce.coreGFenced then s.refuse m.val .engine
          else s.startSeal m id a len reg

/-- The verify record (R259). -/
def verifyRecord (id base len : Nat) : List Byte :=
  leBytes 2 id ++ List.replicate 6 0#8 ++ leBytes 8 base ++ leBytes 8 len

/-- The verify streamer started with its buffer, its record stored first (R259). -/
def State.startVerify (s : State) (m : Mbox) (id : Nat) (g : Registry) (buffer : Option Nat) (stored : Bool) :
    State :=
  let len := g.len * 2 ^ 20
  let kept := match buffer with
    | some a => s.seaStore [(0x0302, verifyRecord id a len)] stored
    | none => (s, true)
  let s := kept.1
  if !kept.2 then s.refuse m.val .storeFailed
  else
    let s := (s.startBg m.val true none).grantLock .verify
    let s := { s with kce := { s.kce with verify := some ⟨id, m, buffer, len, 0, 0, none⟩ } }
    s.startStream g.keyReg (64 + len) (sealHeader g.keyReg id g.base g.len g.seq g.time)

/-- The buffer of a Verify-Read as a device DPA: `some none` where none is named, none where it breaks R258. -/
def State.verifyBuffer (s : State) (m : Mbox) (p : List Byte) (len : Nat) : Option (Option Nat) :=
  if leField p 2 1 = 0 then some none
  else
    let b := leField p 8 8
    match s.mboxDpa m.val b with
    | some a =>
      if b % 64 = 0 ∧ b + len ≤ s.mboxSize m.val ∧ a + len ≤ s.capacity ∧ !s.kce.overlaps a len then some (some a)
      else none
    | none => none

/-- VERIFY_READ: the refusals of R258, and the start of the verify streamer (R259). -/
def execVerifyRead (m : Mbox) (stored : Bool) (s : State) : Out :=
  s.onCommand m 0xC021 fun s =>
    let p := s.payload m.val
    let id := leField p 0 2
    let bad := decide (1 < leField p 2 1) || !reservedZero p [3, 4, 5, 6, 7]
    match Sparse.find s.kce.extents id with
    | none => s.refuse m.val .range
    | some e =>
      match s.verifyBuffer m p (e.len * 2 ^ 20) with
      | none => s.refuse m.val .range
      | some buffer =>
        if bad || !e.sealed then s.refuse m.val .range
        else if s.kce.owner ≠ .none then s.refuse m.val .lockBusy
        else if s.bgBusy m.val then s.refuseRc m.val .busy
        else
          match Sparse.find s.kce.registry id with
          | none => s.refuse m.val .registryLost
          | some g =>
            if !bitOf s.kce.loaded g.keyReg then s.refuse m.val .keyAbsent
            else if !s.sealLevel then s.refuse m.val .unavailable
            else if s.kce.coreGFenced then s.refuse m.val .engine
            else s.startVerify m id g buffer stored

/-! ## Keys and rekey (R302, R303) -/

/-- Whether a payload names a key slot or register: target and index. -/
def targetOk (target index : Nat) : Bool :=
  (target == 0 && decide (index < 64)) || (target == 1 && decide (index < 8))

/-- The wrapped record of a target. -/
def recKey (target index : Nat) : Nat := if target = 0 then recShroudKey index else recKceKey index

/-- The lock taken by Mainmast for a key command; register 0 of KCE needs none (R302, R384). -/
def State.lockFor (s : State) (target index : Nat) : State :=
  if target = 1 ∧ index = 0 then s else s.grantLock .firmware

/-- The lock given back. -/
def State.unlockFor (s : State) (target index : Nat) : State :=
  if target = 1 ∧ index = 0 then s else s.dropLock

/-- LOAD of a Shroud slot (target 0) or of a KCE register (target 1); none where it is refused. -/
def State.loadTarget (s : State) (target index : Nat) (key : BitVec 512) : Option State :=
  if target = 0 then s.shrLoad index key else s.kceLoad index (key.setWidth 256)

/-- ZEROIZE of a Shroud slot or of a KCE register; no change where it is refused. -/
def State.zeroizeTarget (s : State) (target index : Nat) : State :=
  if target = 0 then (s.shrZeroize index).getD s else (s.kceZeroize index).getD s

/-- LOAD, the store of the wrapped record of a persistent key, and the undo where the store fails (R265,
R302). -/
def State.loadKey (s : State) (m : Mbox) (target index : Nat) (persist : Bool) (key : BitVec 512)
    (stored : Bool) : State :=
  match s.loadTarget target index key with
  | none => (s.unlockFor target index).refuse m.val .keyState
  | some t =>
    let wrapped := if target = 0 then wrapPayload 64 key else wrapPayload 32 (key.setWidth 256)
    let kept := if persist then t.seaStore [(recKey target index, wrapped)] stored else (t, true)
    let t := kept.1
    if kept.2 then ((t.unlockFor target index).succeed m.val .empty).pumpAll
    else ((t.zeroizeTarget target index).unlockFor target index).refuse m.val .storeFailed

/-- KEY_LOAD (R302). -/
def execKeyLoad (m : Mbox) (stored : Bool) (s : State) : Out :=
  s.onCommand m 0xC030 fun s =>
    let p := s.payload m.val
    let target := leField p 0 1
    let index := leField p 1 1
    let persist := leField p 2 1
    let key := BitVec.ofNat 512 (leField p 8 64)
    let upper := leField p 40 32
    if !targetOk target index || decide (1 < persist) || !reservedZero p [3, 4, 5, 6, 7] ||
        (target == 1 && upper != 0) then s.refuse m.val .range
    else if (target = 0 ∧ leField p 8 32 = upper) ∨ (target = 1 ∧ key = 0#512) then s.refuse m.val .keyValue
    else if s.kce.owner ≠ .none ∧ ¬(target = 1 ∧ index = 0) then s.refuse m.val .lockBusy
    else
      (s.lockFor target index).loadKey m target index (target == 0 || index == 0 || persist == 1) key stored

/-- KEY_ZEROIZE: the record erased, then ZEROIZE; an EMPTY target with no record succeeds (R302). -/
def execKeyZeroize (m : Mbox) (stored : Bool) (s : State) : Out :=
  s.onCommand m 0xC031 fun s =>
    let p := s.payload m.val
    let target := leField p 0 1
    let index := leField p 1 1
    let empty := if target = 0 then (s.keySlot index).state == .empty else !bitOf s.kce.loaded index
    let loaded := if target = 0 then (s.keySlot index).state == .loaded else bitOf s.kce.loaded index
    let recorded := (s.sea.value (recKey target index)).isSome
    let locks := target == 1 && index != 0
    if !targetOk target index || !reservedZero p [2, 3] then s.refuse m.val .range
    else if empty && !recorded then s.succeed m.val .empty
    else if !loaded then s.refuse m.val .keyState
    else if locks && s.kce.owner != .none then s.refuse m.val .lockBusy
    else if recorded && !stored then (s.storeFails).refuse m.val .storeFailed
    else
      let s := s.seaWithdraw (recKey target index)
      let s := s.zeroizeTarget target index
      s.succeed m.val .empty

/-- REKEY_START (R303): checks R230, stores the rekey record, writes SHR.REKEY_CTRL.go. -/
def execRekeyStart (m : Mbox) (stored : Bool) (s : State) : Out :=
  s.onCommand m 0xC032 fun s =>
    let p := s.payload m.val
    let a := leField p 0 1
    let b := leField p 1 1
    let rate := leField p 2 1
    let lo := leField p 4 4
    let hi := leField p 8 4
    if decide (63 < a) || decide (63 < b) || rate = 0 || decide (64 < rate) || !reservedZero p [3] ||
        decide (1048575 < lo) || decide (1048575 < hi) then s.refuse m.val .range
    else if s.rekeyRefused a b lo hi then s.refuse m.val .rekeyState
    else
      let (s, ok) := s.seaStore [(0x0301, rekeyRecord a b lo hi)] stored
      if ok then (s.rekeyBegin a b lo hi rate).succeed m.val .empty
      else s.refuse m.val .storeFailed

/-- REKEY_ABORT (R303): the hemline at the abort is the output. -/
def execRekeyAbort (m : Mbox) (s : State) : Out :=
  s.onCommand m 0xC033 fun s =>
    if s.shr.rkState = .idle ∨ s.shr.rkState = .finishing then s.refuse m.val .rekeyState
    else (s.rekeyAbortNow).succeed m.val (.bytes (leBytes 8 s.shr.hemline))

/-! ## Modules (R304) -/

/-- MODULE_RETIRE: the planned retirement of an IN_SERVICE slot (R213, R304). -/
def execModuleRetire (m : Mbox) (s : State) : Out :=
  s.onCommand m 0xC050 fun s =>
    let p := s.payload m.val
    let k := leField p 0 1
    if 17 < k || !reservedZero p [1, 2, 3] then s.refuse m.val .range
    else if (s.mb m.val).bgActive then s.refuseRc m.val .busy
    else if (s.slot k).state ≠ .inService then s.refuse m.val .moduleState
    else if s.retireRefused then s.refuse m.val .modulesOut
    else (s.startBg m.val false (some k)).beginRetire k (some m)

/-- The slot states that Module Admit takes (R304). -/
def State.admissible (s : State) (k : Nat) (overwrite : Bool) : Bool :=
  let x := s.slot k
  s.media.setId.isSome && ((x.state == .training && !s.seq.autoAdmit) ||
    (x.state == .failed && x.refusedSetId && overwrite))

/-- An accepted admission: a refused module is identified again with the flag; a trained one is admitted at
once, any other once it is trained (R215, R216, R304). -/
def State.startAdmit (s : State) (m : Mbox) (k : Nat) (overwrite : Bool) : State :=
  let s := s.startBg m.val true (some k)
  let s := s.modSlot k fun (x : ModState) => { x with admitMbox := some m }
  match (s.slot k).state, (s.slot k).ident with
  | .failed, some i => (s.modSlot k fun (x : ModState) => { x with state := .powering }).checkIdentity k i overwrite
  | _, _ => if s.moduleTrained k then s.admitModule k else s

/-- MODULE_ADMIT (R304). -/
def execModuleAdmit (m : Mbox) (s : State) : Out :=
  s.onCommand m 0xC051 fun s =>
    let p := s.payload m.val
    let k := leField p 0 1
    let flag := leField p 1 1
    if 17 < k || decide (1 < flag) || !reservedZero p [2, 3] then s.refuse m.val .range
    else if (s.mb m.val).bgActive then s.refuseRc m.val .busy
    else if !s.admissible k (flag == 1) then s.refuse m.val .moduleState
    else s.startAdmit m k (flag == 1)

/-! ## Self-tests and counters (R305, R306) -/

/-- Units of a test code (Table TRIM-2); none for a code the table does not list. -/
def testUnitOk (test unit : Nat) : Bool :=
  match test with
  | 1 => decide (unit ≤ 16)
  | 2 => decide (unit ≤ 63)
  | 3 => decide (unit ≤ 575)
  | 4 => decide (unit ≤ 19)
  | 5 => unit == 1
  | 7 => unit == 0
  | 8 => decide (unit ≤ 1)
  | _ => false

/-- Codes of ticket states (Table HCMD-4). -/
def TicketState.code : TicketState → Nat
  | .waiting => 0
  | .running => 1
  | .passed => 2
  | .failed => 3
  | .cancelled => 4

/-- The output of Self-Test for a ticket. -/
def Ticket.bytes (k : Ticket) : List Byte :=
  leBytes 4 k.id ++ leBytes 1 k.state.code ++ leBytes 1 k.detail ++ leBytes 2 0 ++ bytesOf 8 k.startT ++
    bytesOf 8 k.endT

/-- A ticket not ended. -/
def Ticket.isOpen (k : Ticket) : Bool := k.state == .waiting || k.state == .running

/-- A new ticket; a result goes once 64 later tickets have been issued (R305). -/
def State.schedule (s : State) (test unit notBefore : Nat) : State × Ticket :=
  let id := s.trm.nextTicket
  let k : Ticket := ⟨id, test, unit, notBefore, .waiting, 0, 0#64, 0#64, s.clock, false⟩
  let keep := s.trm.tickets.filter fun x => x.isOpen || decide (id < x.id + 64)
  ({ s with trm := { s.trm with tickets := keep ++ [k], nextTicket := id + 1 } }, k)

/-- A ticket cancelled: a waiting one ends, a running one at its slice boundary (R305). -/
def State.cancelTicket (s : State) (k : Ticket) : State :=
  match k.state with
  | .waiting => s.endTicket k.id .cancelled 4
  | .running => { s with trm := s.trm.setTicket k.id fun (x : Ticket) => { x with cancel := true } }
  | _ => s

/-- SELF_TEST: schedule, cancel or query a ticket (R305). -/
def execSelfTest (m : Mbox) (s : State) : Out :=
  s.onCommand m 0xC060 fun s =>
    let p := s.payload m.val
    let op := leField p 0 1
    let test := leField p 1 1
    let unit := leField p 2 2
    if op = 0 then
      if !testUnitOk test unit then s.refuse m.val .range
      else if 32 ≤ s.trm.tickets.countP Ticket.isOpen then s.refuse m.val .queueFull
      else
        let (s, k) := s.schedule test unit (leField p 8 8)
        s.succeed m.val (.bytes k.bytes)
    else
      match s.trm.tickets.find? fun k => k.id == leField p 4 4 with
      | none => s.refuse m.val .range
      | some k =>
        if 2 < op then s.refuse m.val .range
        else
          let s := if op = 1 then s.cancelTicket k else s
          s.succeed m.val (.bytes (((s.trm.tickets.find? fun x => x.id == k.id).getD k).bytes))

/-- PMU_GRANT (R306). -/
def execPmuGrant (m : Mbox) (s : State) : Out :=
  s.onCommand m 0xC061 fun s =>
    let p := s.payload m.val
    let port := leField p 0 1
    let op := leField p 1 1
    let mask := leField p 2 1
    let other := match mboxPort m.val with
      | some q => (s.port q).mode == 0b01#2 && portIdx q != port
      | none => false
    if 1 < port || decide (1 < op) || decide (15 < mask) || !reservedZero p [3] then s.refuse m.val .range
    else if other then s.refuse m.val .permission
    else
      let b := BitVec.ofNat 4 mask
      let f (g : BitVec 4) : BitVec 4 := if op = 1 then g ||| b else g &&& ~~~b
      let s := if port = 0 then { s with pmu := { s.pmu with grant0 := f s.pmu.grant0 } }
        else { s with pmu := { s.pmu with grant1 := f s.pmu.grant1 } }
      s.succeed m.val .empty

/-! ## Format (R307) -/

/-- Step 1 of R307: a new media-set identifier on every present module; each trained module is a member. -/
def State.newSet (s : State) : State :=
  let id := (s.draw).setWidth 128
  let s := s.drawn
  let s := { s with media := { s.media with setId := some id } }
  (List.range 18).foldl
    (fun s k =>
      if !(s.slot k).present then s
      else
        let s := s.modSlot k fun (x : ModState) => { x with ident := x.ident.map fun i => { i with setId := id } }
        let st := (s.slot k).state
        let joins := st == .training || st == .waiting || st == .rebuilding || st == .inService
        if joins && s.moduleTrained k then
          s.setMember k .inService |>.modSlot k fun (x : ModState) => { x with state := .inService }
        else s) s

/-- Step 2 of R307: a new wear key, every region at its format state. -/
def State.newWear (s : State) : State :=
  let k := (s.draw).setWidth 256
  let s := s.drawn
  { s with
    media := { s.media with wearKey := some k }
    wlv := { s.wlv with wearKey := some k, regions := [] }
    stp := { s.stp with gapMoves := [], rebuildModule := none, rebuildRow := 0 } }

/-- Format Media Set taken: steps 1 and 2, and ERASE in its format form; the retire point falls after step
1. -/
def State.startFormat (s : State) (m : Mbox) (stored : Bool) : State :=
  if !stored then (s.storeFails).refuse m.val .storeFailed
  else
    let s := (s.startBg m.val false none).retireBg m.val
    let s := State.settleLevel { s with glb := { s.glb with formatting := true } }
    ((s.newSet).newWear).erase true

/-- FORMAT_MEDIA_SET: the command taken, or its zero-write and step 4 ended (R307; log entry 31). -/
def execFormatMediaSet (m : Mbox) (stored : Bool) (s : State) : Out :=
  .next (
    let x := s.mb m.val
    if s.taken m.val 0xC070 then
      if leField (s.payload m.val) 0 4 ≠ 0x464F524D then s.refuse m.val .range
      else if s.bgBusy m.val then s.refuseRc m.val .busy
      else if s.glb.level = .outOfService ∧ !s.glb.memoryActive then s.refuse m.val .unavailable
      else s.startFormat m stored
    else if x.bgActive && x.bgOpcode == 0xC070#16 then (s.endFormat).completeBg m.val .success .none .empty
    else s)

end Sys2Proof.Machine
end

