-- ==== Sys2Proof/Machine/RegMap.lean ====
section
/-! DEFINITION. The firmware register space (R423 to R425, R429): where each register lies, whether its
domain is up (R426), and what a read of it returns. -/

namespace Sys2Proof.Machine

open Sys2Proof

/-! ## Places (Tables MAP-1 to MAP-3) -/

/-- A block of Table MAP-1. -/
inductive Block where
  | glb
  | hp (p : Port)
  | bly | vbf | stp | wlv | shr | kce | mst | hly | trm | log | sea | evt
  | cs (n : Nat)
  | pmu (u : Nat)
  | grant
  | dbg | seq | reef | clk | tel | dty
  | mch (n : Nat)
  deriving DecidableEq, Repr

/-- What lies at an address: the register of a block by its word offset, a factory register, a word of the
retained SRAM or of a mailbox payload, or nothing. -/
inductive RegLoc where
  | reg (b : Block) (i : Nat)
  | factory
  | sram (off : Nat)
  | payload (m off : Nat)
  | absent
  deriving DecidableEq, Repr

/-- Whether a block has a register at a word offset (Tables MAP-2 and MAP-3). -/
def Block.documented (b : Block) (i : Nat) : Bool :=
  match b with
  | .glb => decide (i < 17)
  | .hp _ => decide (i < 5)
  | .bly => decide (i < 5)
  | .vbf => decide (i < 3)
  | .stp => decide (i < 10)
  | .wlv => decide (i < 6)
  | .shr => decide (i < 27)
  | .kce => decide (i < 21)
  | .mst => decide (i < 2)
  | .hly => decide (i < 22)
  | .trm => decide (i < 2)
  | .log => decide (i < 20)
  | .sea => decide (i < 6 ∨ (128 ≤ i ∧ i < 256))
  | .evt => decide (i < 5)
  | .cs _ => decide (i < 9)
  | .pmu _ => decide (i < 36)
  | .grant => decide (i < 1)
  | .dbg => decide (i < 1)
  | .seq => decide (i < 25)
  | .reef => decide (i < 5)
  | .clk => decide (i < 3)
  | .tel => decide (i < 2)
  | .dty => decide (i < 32)
  | .mch _ => decide (i < 16 ∨ (64 ≤ i ∧ i < 128 ∧ i % 8 < 6))

/-- The blocks whose windows lie at 0x4000_0000 in order, 4 KiB each. -/
def firstBlocks : List Block :=
  [.glb, .hp .hp0, .hp .hp1, .bly, .vbf, .stp, .wlv, .shr, .kce, .mst, .hly, .trm, .log, .sea, .evt]

/-- The block of a 4 KiB window by its number from 0x4000_0000. -/
def windowBlock (w : Nat) : Option Block :=
  if w < 15 then firstBlocks[w]?
  else if 0x10 ≤ w ∧ w < 0x21 then some (.cs (w - 0x10))
  else if 0x30 ≤ w ∧ w < 0x34 then some (.pmu (w - 0x30))
  else if w = 0x34 then some .grant
  else if w = 0x38 then some .dbg
  else if w = 0x40 then some .seq
  else if w = 0x41 then some .reef
  else if w = 0x42 then some .clk
  else if w = 0x43 then some .tel
  else if w = 0x44 then some .dty
  else none

/-- What lies at an offset of a 4 KiB window (R424, R425). -/
def inWindow (b : Block) (off : Nat) : RegLoc :=
  if 0x800 ≤ off then .factory
  else if b.documented (off / 4) then .reg b (off / 4) else .absent

/-- What lies at an offset of a channel window (R425, R429). -/
def inChannel (n off : Nat) : RegLoc :=
  if 0x300 ≤ off ∧ off < 0x320 then .factory
  else if (Block.mch n).documented (off / 4) then .reg (.mch n) (off / 4) else .absent

/-- What lies at a word address of the firmware register space (R423). -/
def locate (addr : Nat) : RegLoc :=
  if addr < 0x40000000 then .absent
  else
    let o := addr - 0x40000000
    if o < 0x48000 then
      (match windowBlock (o / 0x1000) with
        | some b => inWindow b (o % 0x1000)
        | none => .absent)
    else if o < 0x4C000 then .sram (o - 0x48000)
    else if 0x100000 ≤ o ∧ o < 0x112000 then inChannel ((o - 0x100000) / 0x400) ((o - 0x100000) % 0x400)
    else if 0x200000 ≤ o ∧ o < 0x250000 then
      (if (o - 0x200000) % 0x10000 < mailboxSize (Fin.ofNat 5 ((o - 0x200000) / 0x10000)) then
        .payload ((o - 0x200000) / 0x10000) ((o - 0x200000) % 0x10000) else .absent)
    else .absent

/-! ## Domains (R426) -/

/-- Whether the domain of a block is out of reset and not failed: the always-on blocks with the always-on
domain, the others with the datapath; a channel also needs the PLL of its module. -/
def State.domainUp (s : State) (b : Block) (i : Nat) : Bool :=
  match b with
  | .seq | .reef | .clk | .tel | .dty => s.rst.aon
  | .glb => s.rst.aon && (s.rst.datapath || i == 8)
  | .mch n => s.rst.datapath && !bitOf s.clk.chiutFailed (moduleOf n)
  | _ => s.rst.datapath

/-- The sleep domain that an access to a block wakes (R426, Table BUD-5). -/
def Block.domain (b : Block) : Option Nat :=
  match b with
  | .bly | .vbf | .stp | .wlv | .shr => some (domainKey .core)
  | .cs n => some (domainKey (.slice (Fin.ofNat 17 n)))
  | .mch n => some (domainKey (.channel (Fin.ofNat 72 n)))
  | .kce | .pmu _ | .grant | .dbg => some (domainKey .aux)
  | _ => none

/-- The domain of a block awake (R426). -/
def State.wakeBlock (s : State) (b : Block) : State :=
  match b.domain with
  | some k => s.wake k
  | none => s

/-! ## Reads -/

/-- The low word of a 64-bit quantity. -/
def lowWord (n : Nat) : Nat := n % 2 ^ 32

/-- The high word of a 64-bit quantity. -/
def highWord (n : Nat) : Nat := n / 2 ^ 32 % 2 ^ 32

/-- The bits of a vector at a position of a register. -/
def vecAt {w : Nat} (lo : Nat) (b : BitVec w) : Nat := fieldAt lo b.toNat

/-- A flag at a position of a register. -/
def flagAt (lo : Nat) (b : Bool) : Nat := fieldAt lo (b2n b)

/-- The global registers. -/
def State.readGlb (s : State) (i : Nat) : Nat :=
  let g := s.glb
  match i with
  | 0 => 0x9256B000
  | 1 => lowWord Config.serial.toNat
  | 2 => highWord Config.serial.toNat
  | 3 => s.serviceWord
  | 4 => fieldAt 16 g.energyMj + fieldAt 8 g.effBudget + g.budget
  | 5 => s.charged
  | 6 => g.reserved
  | 7 => g.dumpStatusWord
  | 8 => s.rst.causeWord
  | 9 => 0
  | 10 => lowWord g.time.toNat
  | 11 => highWord g.time.toNat
  | 12 => flagAt 5 s.clk.lock + flagAt 4 s.seq.strikeLock + flagAt 3 s.mst.wdLock + flagAt 2 s.wlv.lock +
      flagAt 1 s.port1.lock + flagAt 0 s.port0.lock
  | _ => (Sparse.get 0#32 g.scratch (i - 13)).toNat

/-- HPn.LINK_STATUS. -/
def PortState.linkWord (x : PortState) : Nat :=
  fieldAt 16 x.recoveryCount + vecAt 12 x.devload + flagAt 11 x.viral + flagAt 10 x.memEnabled +
    flagAt 9 x.latoptInUse + vecAt 6 x.width + vecAt 3 x.rate + flagAt 0 x.linkUp

/-- The registers of a port. -/
def PortState.readReg (x : PortState) (i : Nat) : Nat :=
  match i with
  | 0 => flagAt 31 x.lock + vecAt 16 x.mode + vecAt 12 x.maxWidth + vecAt 10 x.maxRate +
      flagAt 9 x.flitLatopt + flagAt 8 x.l0pEn
  | 1 => x.partBase.toNat
  | 2 => x.partSize.toNat
  | 3 => x.linkWord
  | _ => vecAt 24 x.severe + vecAt 16 x.moderate + vecAt 8 x.optimal

/-- The belay table's registers. -/
def State.readBly (s : State) (i : Nat) : Nat :=
  match i with
  | 0 => fieldAt 8 (8192 - 1024 * popCount s.bly.fenced) + s.bly.fenced.toNat
  | 1 => fieldAt 16 (s.held .hp1) + s.held .hp0
  | 2 => fieldAt 16 (s.share .hp1) + s.share .hp0
  | 3 => vecAt 24 s.port1.admitSeen + vecAt 16 s.port0.admitSeen + vecAt 8 (s.admitNow .hp1) +
      vecAt 0 (s.admitNow .hp0)
  | _ => s.bly.lateCount

/-- The victim buffer's registers. -/
def State.readVbf (s : State) (i : Nat) : Nat :=
  match i with
  | 0 => vecAt 24 s.vbf.fenced + s.victimFree
  | 1 => fieldAt 16 s.vbf.entries.length + s.vbf.reserved
  | _ => fieldAt 16 s.vbf.recalls + s.vbf.cancels

/-- Dies that are late (R171). -/
def State.lateDies (s : State) : Nat :=
  (s.mch.map fun c => c.2.dies.countP fun d => d.2.late).sum

/-- STP.REBUILD_STATUS: rows rebuilt in percent and in millions over the last second. -/
def State.rebuildWord (s : State) : Nat :=
  let t := s.stp
  let recent := t.rebuildTimes.countP fun x => decide (s.clock < x + sec 1)
  flagAt 31 t.rebuildModule.isSome + fieldAt 22 (t.rebuildModule.getD 0x1F) +
    fieldAt 8 (if s.totalRows = 0 then 0 else min 100 (100 * t.rebuildRow / s.totalRows)) +
    min 0xFF (recent * 32 * s.wlv.dies / 1000000)

/-- The registers of stripe and parity. -/
def State.readStp (s : State) (i : Nat) : Nat :=
  let t := s.stp
  match i with
  | 0 => fieldAt 8 t.passLog2 + t.rewriteBucket
  | 1 => fieldAt 16 s.lateDies
  | 2 => flagAt 31 t.scrubEnable + t.passDays
  | 3 => fieldAt 16 t.scrubPasses + fieldAt 8 t.located + t.unlocated
  | 4 => fieldAt 25 t.tier3Active.length + fieldAt 12 (min 0x1FFF t.tier3Queue.length)
  | 5 => fieldAt 16 t.recovered + t.lost
  | 6 => t.rebuildRate
  | 7 => s.rebuildWord
  | 8 => lowWord t.rebuildRow
  | _ => highWord t.rebuildRow % 32

/-- The registers of wear and translation. -/
def State.readWlv (s : State) (i : Nat) : Nat :=
  let w := s.wlv
  match i with
  | 0 => flagAt 31 w.lock + fieldAt 12 w.sgShift + w.retireUnits
  | 1 => flagAt 31 w.loaded + fieldAt 24 s.lifeUsed + fieldAt 12 s.worstLeaf + s.meanLeaf
  | 2 => s.spareWord
  | 3 => fieldAt 8 w.retired + w.forced
  | 4 => flagAt 31 w.overflow + w.poison.length
  | _ => w.cam.length

/-- The Shroud's registers; the key words read 0. -/
def State.readShr (s : State) (i : Nat) : Nat :=
  let x := s.shr
  match i with
  | 16 => flagAt 30 x.cmdError + flagAt 29 x.fmt + vecAt 8 x.op + vecAt 0 x.slot
  | 17 => fieldAt 2 (x.entriesNaming x.slot.toNat) + (s.keySlot x.slot.toNat).state.code
  | 18 => x.mapIdx.toNat
  | 19 => s.keySlotOf x.mapIdx.toNat
  | 20 => flagAt 29 x.rkError + vecAt 14 x.rkNew + vecAt 8 x.rkOld + x.rkRate
  | 21 => x.rkFirst.toNat
  | 22 => x.rkLast.toNat
  | 23 => fieldAt 29 x.rkState.code + flagAt 28 x.rkDone + s.sweepSets
  | 24 => lowWord x.hemline
  | 25 => highWord x.hemline % 16
  | 26 => x.enginesFenced.toNat
  | _ => 0

/-- KCE.SEAL_STATUS. -/
def Kce.sealWord (k : Kce) : Nat :=
  let stream : Nat × Nat :=
    match k.sealing, k.verify with
    | some x, _ => (1, x.id)
    | none, some v => (if v.buffer.isNone then 3 else 2, v.id)
    | none, none => (0, 0)
  fieldAt 30 stream.1 + fieldAt 16 stream.2 + k.extents.countP fun e => e.2.sealed

/-- The registers of the keyed check engine on a path; the key words read 0, the tag reads 0 but to the owner
(R246). -/
def State.readKce (s : State) (path : Path) (i : Nat) : Nat :=
  let k := s.kce
  match i with
  | 0 => vecAt 16 k.gen + fieldAt 8 k.owner.code
  | 9 => flagAt 30 k.cmdError + vecAt 8 k.loaded + vecAt 4 k.op + vecAt 0 k.reg
  | 10 => k.keyReg.toNat
  | 11 => lowWord k.msgLen.toNat
  | 12 => highWord k.msgLen.toNat
  | 14 | 15 | 16 | 17 => if k.isOwner path then lowWord (k.tag.toNat / 2 ^ (32 * (i - 14))) else 0
  | 18 => flagAt 31 k.busy + flagAt 30 k.notOwner + flagAt 29 k.coreLFenced + flagAt 28 k.coreGFenced +
      flagAt 27 k.entropyOk + k.err.code
  | 19 => k.sealWord
  | 20 => k.drops
  | _ => 0

/-- The registers of Halyard. -/
def State.readHly (s : State) (i : Nat) : Nat :=
  let h := s.hly
  let x := s.mb (i / 4)
  if i = 20 then flagAt 30 h.retireGranted + flagAt 29 h.retireLost + vecAt 0 h.retireMbox
  else if i = 21 then flagAt 30 h.abortGranted + flagAt 29 h.abortNothing + vecAt 0 h.abortMbox
  else
    match i % 4 with
    | 0 => fieldAt 29 x.st.code + flagAt 28 x.bgActive + fieldAt 21 x.bgPercent +
        (if x.st = .idle ∧ x.bgActive then x.bgOpcode else x.opcode).toNat
    | 1 => min 65536 x.payload.length
    | 2 => flagAt 30 x.background + x.outLen
    | _ => vecAt 16 x.vendorReg + x.rcReg.toNat

/-- The trim plan's registers. -/
def State.readTrm (s : State) (i : Nat) : Nat :=
  match i with
  | 0 => vecAt 16 s.trm.generation + fieldAt 7 (min 511 s.trm.overrides.length) + flagAt 0 s.trm.stale
  | _ =>
    match s.trm.slice with
    | some r => flagAt 31 true + fieldAt 16 r.test + r.unit
    | none => 0

/-- The logbook's registers. -/
def State.readLog (s : State) (i : Nat) : Nat :=
  let l := s.log
  match i with
  | 0 => flagAt 31 l.ringFull + flagAt 30 (decide (archiveSlots ≤ slotsOf l.archive)) +
      flagAt 29 (bitOf s.kce.loaded 0 && !s.kce.coreLFenced) +
      flagAt 28 (s.chainDue && s.kce.stallL.isSome) + min 65536 (slotsOf l.unarchived)
  | 1 => lowWord l.nextSeq
  | 2 => highWord l.nextSeq
  | 3 => slotsOf l.archive
  | 4 => fieldAt 16 l.lostWarn + l.lostNote
  | 5 => fieldAt 16 l.lostCritical + l.lostFault
  | 6 => l.lostTotal
  | 7 => flagAt 10 l.wrPair + vecAt 8 l.wrSev + vecAt 0 l.wrType
  | _ => (Sparse.get 0#32 l.wrData (i - 8)).toNat

/-- The sea chest's registers. -/
def State.readSea (s : State) (i : Nat) : Nat :=
  let x := s.sea
  match i with
  | 0 => flagAt 30 x.erasing + flagAt 27 x.storeFailed + flagAt 26 x.rawError + flagAt 25 x.activeLog +
      fieldAt 20 (liveBytes x.recs / 1024)
  | 1 => vecAt 29 x.rawOp + vecAt 20 x.rawLen + vecAt 11 x.rawOffset + vecAt 0 x.rawPage
  | 2 => flagAt 29 (x.saturated x.ctr.toNat) + x.ctr.toNat
  | 3 => lowWord (x.counter x.ctr.toNat)
  | 4 => highWord (x.counter x.ctr.toNat)
  | 5 => fieldAt 15 (min 0x1FFFF x.maxErases.1) + fieldAt 10 x.maxErases.2
  | _ => (Sparse.get 0#32 x.rawBuf (i - 128)).toNat

/-- EVT.SRC_CFG of a source. -/
def State.srcWord (s : State) (i : Nat) : Nat :=
  let x := s.src i
  flagAt 31 x.pending + fieldAt 16 x.count + fieldAt 4 (x.sev.getD (srcSevs i).1).code +
    flagAt 3 (x.hostOn i) + flagAt 2 (x.alertOn i) + flagAt 1 x.mst

/-- EVT.MST_FIFO. -/
def Evt.fifoWord (e : Evt) : Nat :=
  flagAt 31 (!e.fifo.isEmpty) + flagAt 30 e.fifoOverflow + e.fifo.head?.getD 0

/-- The registers of the events. -/
def State.readEvt (s : State) (i : Nat) : Nat :=
  match i with
  | 0 => s.evt.sel.toNat
  | 1 => s.srcWord s.evt.sel.toNat
  | 2 => s.evt.fifoWord
  | 3 => vecAt 10 s.evt.bucketClass + s.evt.bucketUnit.toNat
  | _ =>
    let b := Sparse.get Bucket.reset s.evt.buckets
      (bucketKey s.evt.bucketClass.toNat s.evt.bucketUnit.toNat)
    fieldAt 16 b.fired + b.level

/-- The code of CSn.STATUS.role. -/
def SliceRole.code : SliceRole → Nat
  | .idle => 0
  | .active => 1
  | .bypassing => 2
  | .failed => 3

/-- The registers of a slice. -/
def State.readCs (s : State) (n i : Nat) : Nat :=
  let x := s.slice n
  let hand := match s.cache.handover with
    | some h => h.out == n || h.inc == n
    | none => false
  match i with
  | 0 => fieldAt 24 (x.serves.getD 0x1F) + fieldAt 16 (x.bypassFor.getD 0x1F) + fieldAt 8 x.role.code +
      flagAt 7 x.tagSramFenced + flagAt 6 hand
  | 1 => fieldAt 16 x.corrected + fieldAt 8 x.uncorrectable + x.tagParity
  | 2 => lowWord x.errLsn.toNat
  | 3 => flagAt 31 x.errValid + vecAt 8 x.errLine + highWord x.errLsn.toNat
  | 4 => flagAt 30 x.maintBusy + flagAt 29 x.maintDone + flagAt 28 x.maintError + flagAt 3 x.maintAll +
      x.maintOp.toNat
  | 5 => lowWord x.maintStart.toNat
  | 6 => highWord x.maintStart.toNat
  | 7 => x.maintCount.toNat
  | _ => x.maintSkip

/-- A performance-counter unit. -/
def State.pmuUnit (s : State) (u : Nat) : PmuUnit := Sparse.get PmuUnit.reset s.pmu.units u

/-- The registers of a performance-counter unit. -/
def PmuUnit.readReg (x : PmuUnit) (i : Nat) : Nat :=
  if i < 4 then
    (match i with
      | 0 => flagAt 31 x.freeze + flagAt 8 x.cycInt + x.int.toNat
      | 1 => x.ovf.toNat
      | 2 => lowWord x.cyc.toNat
      | _ => highWord x.cyc.toNat)
  else if i < 12 then
    flagAt 31 (bitOf x.en (i - 4)) + flagAt 30 (bitOf x.edge (i - 4)) +
      (Sparse.get 0#24 x.thresh (i - 4)).toNat
  else if i < 20 then (Sparse.get 1#12 x.event (i - 12)).toNat
  else
    let v := (Sparse.get 0#48 x.cnt ((i - 20) / 2)).toNat
    if i % 2 = 0 then lowWord v else highWord v

/-- DBG.STATUS. -/
def Dbg.statusWord (d : Dbg) : Nat :=
  flagAt 31 d.granted + flagAt 30 d.strap + flagAt 29 d.entering + flagAt 28 d.storeFailed +
    flagAt 27 d.saturated + d.epoch.toNat

/-- The sequencer's registers. -/
def State.readSeq (s : State) (i : Nat) : Nat :=
  let q := s.seq
  match i with
  | 0 => fieldAt 24 q.cause.code + vecAt 16 q.railsEn + q.state.code
  | 1 => flagAt 31 q.strikeLock + q.strikeDv.toNat
  | 2 => vecAt 16 q.vinMv + flagAt 6 q.stable + flagAt 5 q.atResume + flagAt 4 q.warn + flagAt 3 q.belowStrike +
      flagAt 2 q.overVolt + flagAt 1 q.shdn
  | 3 => vecAt 16 q.railFault + vecAt 8 q.railWarn + q.railIn.toNat
  | 4 => vecAt 24 q.brdStretch + vecAt 8 q.modStretch
  | 5 => flagAt 31 q.busFailed + fieldAt 18 q.busErrors + q.unresponsive.toNat
  | 6 => b2n q.autoAdmit
  | _ =>
    let x := s.slot (i - 7)
    vecAt 24 x.tempMax + vecAt 16 x.alertCause + vecAt 8 x.dies + flagAt 4 x.present + x.state.code

/-- The reef's registers. -/
def State.readReef (s : State) (i : Nat) : Nat :=
  let f := s.reef
  match i with
  | 0 => fieldAt 16 s.effWatts + f.budgetW
  | 1 => f.pkgTokens
  | 2 => f.prog
  | 3 => flagAt 31 f.failed +
      fieldAt 28 (f.waiting.foldl (fun m e => let l := e.2.level; if m = 0 ∨ l < m then l else m) 0) +
      s.heldTokens true
  | _ => fieldAt 16 f.refusals + s.heldTokens false

/-- The registers of the clocks. -/
def State.readClk (s : State) (i : Nat) : Nat :=
  let c := s.clk
  match i with
  | 0 =>
    let trimmed := match c.rcTrimAt with
      | some t => decide (s.clock < t + sec 1)
      | none => false
    flagAt 31 c.xtalOk + flagAt 30 c.onRc + flagAt 29 trimmed + flagAt 26 (bitOf c.refOk 0) +
      flagAt 25 (bitOf c.refOk 1) + flagAt 20 (bitOf c.dpllLock 0) + flagAt 19 (bitOf c.dpllLock 1) +
      flagAt 18 c.dpllActive + flagAt 17 c.mpllLock + fieldAt 8 c.refSwitches
  | 1 => flagAt 31 c.lock + flagAt 15 c.portL1En + vecAt 12 c.maxChiut + vecAt 9 c.maxSlice +
      vecAt 6 c.maxCore + vecAt 3 c.maxAux
  | _ => flagAt 28 c.mpllFailed + flagAt 27 (bitOf c.dpllFailed 1) + flagAt 26 (bitOf c.dpllFailed 0) +
      vecAt 24 c.portFailed + vecAt 22 c.hbmFailed + flagAt 21 c.fuseFailed + c.chiutFailed.toNat

/-- The tell-tales' registers. -/
def State.readTel (s : State) (i : Nat) : Nat :=
  let t := s.tel
  match i with
  | 0 => flagAt 30 t.busy + flagAt 29 t.valid + fieldAt 16 t.dropoutDv + fieldAt 8 t.strings + t.intervalH
  | _ => fieldAt 16 t.capMf + t.esr

/-- The ditty bag's registers (Table RST-6). -/
def State.readDty (s : State) (i : Nat) : Nat :=
  let d := s.dty
  match i with
  | 0 => flagAt 31 d.evValid + vecAt 28 d.evPhase + vecAt 24 d.evRail + vecAt 19 d.evSlot + d.evTime.toNat
  | 1 => vecAt 24 d.stage + vecAt 16 d.bootLevel + d.bootMs.toNat
  | 2 => d.dbgEpoch.toNat
  | 3 => lowWord d.dbgStart.toNat
  | 4 => highWord d.dbgStart.toNat
  | _ => (Sparse.get 0#32 d.fw i).toNat

/-- The die that MCH[n].DRIFT_SEL shows. -/
def Mch.shownDie (c : Mch) : DieState := c.die c.driftSel.toNat

/-- A temperature as a register byte. -/
def tempByte (t : Int) : Nat := (BitVec.ofInt 8 t).toNat

/-- The registers of a media channel (Table MAP-3); a die absent from the build counts nothing. -/
def State.readMch (s : State) (n i : Nat) : Nat :=
  let c := s.ch n
  let d := c.shownDie
  match i with
  | 0 => vecAt 24 c.diesReady + vecAt 16 c.diesFailed + fieldAt 8 c.retrains + vecAt 2 c.train +
      flagAt 1 c.failed + flagAt 0 c.linkUp
  | 1 => fieldAt 20 c.burstCrc + fieldAt 12 c.packetCrc + fieldAt 4 c.timeouts + c.progFail
  | 2 => vecAt 16 c.bgLanes + vecAt 12 c.pfLanes + vecAt 6 c.bgSlots + c.pfSlots.toNat
  | 3 => fieldAt 12 c.suspends + c.withdrawals
  | 4 => fieldAt 16 c.readArounds + c.dualReads
  | 5 => fieldAt 20 c.tier1Fail + c.heavy
  | 6 => c.driftSel.toNat
  | 7 => lowWord d.clk.toNat
  | 8 => highWord d.clk.toNat
  | 9 => flagAt 31 d.provisional + flagAt 30 d.late + fieldAt 27 d.bucket + flagAt 26 d.table +
      fieldAt 16 (tempByte d.tempC) + c.weak.length
  | 10 => c.errSector.toNat
  | 11 => flagAt 31 c.errValid + fieldAt 13 c.errOutcome + fieldAt 8 c.errDie
  | 12 => ((List.range 14).map fun k => flagAt k (s.src (14 * n + k)).pending).sum
  | 13 => fieldAt 24 c.ringHead + fieldAt 16 c.addrOverflow + vecAt 8 c.addrIdx + c.addrTab.length
  | 14 => (Sparse.get AddrEntry.empty c.addrTab c.addrIdx.toNat).sector.toNat
  | 15 =>
    let e := Sparse.get AddrEntry.empty c.addrTab c.addrIdx.toNat
    fieldAt 8 (e.timeMs % 2 ^ 24) + fieldAt 5 e.outcome + e.die
  | _ => if (i - 64) / 8 < s.wlv.dies / 4 then Sparse.get 0 c.dcnt ((i - 64) / 8 * 8 + (i - 64) % 8) else 0

/-- What a read of a register returns on a path, before the latches of R427. -/
def State.readReg (s : State) (path : Path) (b : Block) (i : Nat) : Word :=
  BitVec.ofNat 32 (match b with
    | .glb => s.readGlb i
    | .hp p => (s.port p).readReg i
    | .bly => s.readBly i
    | .vbf => s.readVbf i
    | .stp => s.readStp i
    | .wlv => s.readWlv i
    | .shr => s.readShr i
    | .kce => s.readKce path i
    | .mst =>
      if i = 0 then s.mst.statusWord
      else flagAt 30 s.mst.wdLock + fieldAt 24 s.mst.expiries + s.mst.timeoutMs
    | .hly => s.readHly i
    | .trm => s.readTrm i
    | .log => s.readLog i
    | .sea => s.readSea i
    | .evt => s.readEvt i
    | .cs n => s.readCs n i
    | .pmu u => (s.pmuUnit u).readReg i
    | .grant => vecAt 4 s.pmu.grant1 + s.pmu.grant0.toNat
    | .dbg => s.dbg.statusWord
    | .seq => s.readSeq i
    | .reef => s.readReef i
    | .clk => s.readClk i
    | .tel => s.readTel i
    | .dty => s.readDty i
    | .mch n => s.readMch n i)

/-! ## 64-bit quantities (R5) -/

/-- The word offsets at which a block's 64-bit quantities begin. -/
def Block.pairs : Block → List Nat
  | .glb => [1, 10]
  | .stp => [8]
  | .shr => [24]
  | .kce => [11]
  | .log => [1]
  | .sea => [3]
  | .cs _ => [2, 5]
  | .pmu _ => [2, 20, 22, 24, 26, 28, 30, 32, 34]
  | .dty => [3]
  | .mch _ => [7]
  | _ => []

/-- A register is the low word of a 64-bit quantity. -/
def Block.isLow (b : Block) (i : Nat) : Bool := b.pairs.contains i

/-- A register is the high word of a 64-bit quantity. -/
def Block.isHigh (b : Block) (i : Nat) : Bool := decide (0 < i) && b.pairs.contains (i - 1)

/-- The word of the retained SRAM at a byte offset, little-endian. -/
def Dty.sramWord (d : Dty) (off : Nat) : Nat :=
  leField ((List.range 4).map fun k => Memory.read 0#8 d.sram (off + k)) 0 4

/-- The bytes that firmware sees of a mailbox payload: the input, or the output it has written. -/
def Mb.window (x : Mb) : List Byte :=
  match x.output with
  | .bytes b => b
  | _ => x.payload

end Sys2Proof.Machine
end

