-- ==== Sys2Proof/Machine/RegWrite.lean ====
section
/-! DEFINITION. Writes of the firmware register space by field type (R6 to R8): an encoding that a field does
not define leaves the field, a locked field keeps its value (R430), a W1C bit is cleared by 1, and a WO bit
starts the operation that its own command stands for. -/

namespace Sys2Proof.Machine

open Sys2Proof

/-! ## Fields -/

/-- A W1C flag after a write of its bit. -/
def w1c (old : Bool) (d : Word) (bit : Nat) : Bool := old && !bitOf d bit

/-- A W1C vector after a write of its bits. -/
def w1cVec {w : Nat} (old : BitVec w) (d : Word) (lo : Nat) : BitVec w :=
  old &&& ~~~(BitVec.ofNat w (d.toNat >>> lo))

/-- The state that an outcome leaves; one that stops leaves the state it began with. -/
def nextOf (o : Out) (s : State) : State :=
  match o with
  | .next t => t
  | _ => s

/-- A register index as a bounded number. -/
def asMbox (n : Nat) : Mbox := Fin.ofNat 5 n

/-- The low or the high word of a 64-bit vector replaced. -/
def putWord {w : Nat} (high : Bool) (d : Word) (old : BitVec w) : BitVec w :=
  BitVec.ofNat w
    (if high then old.toNat % 2 ^ 32 + 2 ^ 32 * d.toNat else old.toNat / 2 ^ 32 * 2 ^ 32 + d.toNat)

/-! ## Global registers and ports -/

/-- GLB.RESET_CTRL: sys_req takes precedence (R349, R351). -/
def State.writeResetCtrl (s : State) (path : Path) (d : Word) : State :=
  let key := BitVec.ofNat 16 (bits d 31 16)
  if bitOf d 0 then nextOf (execSysResetRequest path key s) s
  else if bitOf d 1 then nextOf (execCoreResetRequest path key s) s
  else s

/-- GLB.TIME_HI: the staged low word of the path takes effect with it (R427). -/
def State.writeTimeHi (s : State) (path : Path) (d : Word) : State :=
  let lo := ((s.latch path).timeLo).getD (BitVec.ofNat 32 (lowWord s.glb.time.toNat))
  let s := s.modLatch path fun x => { x with timeLo := none }
  { s with glb := { s.glb with time := d ++ lo } }

/-- The global registers. -/
def State.writeGlb (s : State) (path : Path) (i : Nat) (d : Word) : State :=
  match i with
  | 4 =>
    let g := { s.glb with energyMj := bits d 31 16, budget := defined 0 32 (bits d 5 0) s.glb.budget }
    (State.settleBudget { s with glb := g }).settleLevel
  | 9 => s.writeResetCtrl path d
  | 10 => s.modLatch path fun x => { x with timeLo := some d }
  | 11 => s.writeTimeHi path d
  | 13 | 14 | 15 | 16 =>
    { s with glb := { s.glb with scratch := Sparse.set 0#32 s.glb.scratch (i - 13) d } }
  | _ => s

/-- HPn.PORT_CTRL. -/
def PortState.writeCtrl (x : PortState) (d : Word) : PortState :=
  if x.lock then x
  else { x with
    lock := bitOf d 31
    mode := definedVec 0 2 (bits d 17 16) x.mode
    maxWidth := definedVec 0 2 (bits d 13 12) x.maxWidth
    maxRate := definedVec 0 2 (bits d 11 10) x.maxRate
    flitLatopt := bitOf d 9
    l0pEn := bitOf d 8 }

/-- HPn.DEVLOAD_CFG: thresholds that do not rise leave all three as they are (R54). -/
def PortState.writeDevload (x : PortState) (d : Word) : PortState :=
  if bits d 15 8 < bits d 23 16 ∧ bits d 23 16 < bits d 31 24 then
    { x with
      severe := BitVec.ofNat 8 (bits d 31 24), moderate := BitVec.ofNat 8 (bits d 23 16)
      optimal := BitVec.ofNat 8 (bits d 15 8) }
  else x

/-- The registers of a port. -/
def PortState.writeReg (x : PortState) (i : Nat) (d : Word) : PortState :=
  match i with
  | 0 => x.writeCtrl d
  | 1 => if x.lock then x else { x with partBase := BitVec.ofNat 20 (bits d 19 0) }
  | 2 => if x.lock then x else { x with partSize := BitVec.ofNat 21 (bits d 20 0) }
  | 4 => x.writeDevload d
  | _ => x

/-- BLY.ADMIT_STATUS: the sticky bits of both ports. -/
def State.writeAdmit (s : State) (d : Word) : State :=
  (s.modPort .hp0 fun x => { x with admitSeen := w1cVec x.admitSeen d 16 }).modPort .hp1 fun x =>
    { x with admitSeen := w1cVec x.admitSeen d 24 }

/-! ## Stripe, wear, Shroud and keyed check engine -/

/-- The registers of stripe and parity. -/
def Stp.writeReg (t : Stp) (i : Nat) (d : Word) : Stp :=
  match i with
  | 0 => { t with
      passLog2 := defined 20 23 (bits d 12 8) t.passLog2
      rewriteBucket := defined 16 21 (bits d 4 0) t.rewriteBucket }
  | 2 => { t with scrubEnable := bitOf d 31, passDays := defined 1 60 (bits d 5 0) t.passDays }
  | 6 => { t with rebuildRate := defined 1 48 (bits d 5 0) t.rebuildRate }
  | _ => t

/-- WLV.CTRL. -/
def Wlv.writeCtrl (w : Wlv) (d : Word) : Wlv :=
  if w.lock then w
  else { w with
    lock := bitOf d 31
    sgShift := defined 8 14 (bits d 15 12) w.sgShift
    retireUnits := defined 1024 4094 (bits d 11 0) w.retireUnits }

/-- SHR.KEY_CMD: taken on the path of the cipher lock's owner alone; any other go sets error (R226). -/
def State.writeShrCmd (s : State) (path : Path) (d : Word) : State :=
  let s := { s with shr := { s.shr with cmdError := w1c s.shr.cmdError d 30 } }
  if !s.kce.isOwner path then (if bitOf d 31 then s.shrRefuse else s)
  else
    let op := bits d 9 8
    let s := { s with shr := { s.shr with
      fmt := bitOf d 29, slot := BitVec.ofNat 6 (bits d 5 0), op := definedVec 1 3 op s.shr.op } }
    if !bitOf d 31 then s
    else
      match op with
      | 1 => nextOf (execShrKeyLoad path s) s
      | 2 => nextOf (execShrKeyZeroize path s) s
      | 3 => nextOf (execShrKeyErase path s) s
      | _ => s.shrRefuse

/-- SHR.REKEY_CTRL. -/
def State.writeRekeyCtrl (s : State) (path : Path) (d : Word) : State :=
  let s := { s with shr := { s.shr with
    rkError := w1c s.shr.rkError d 29, rkNew := BitVec.ofNat 6 (bits d 19 14)
    rkOld := BitVec.ofNat 6 (bits d 13 8), rkRate := defined 1 64 (bits d 6 0) s.shr.rkRate } }
  let s := if bitOf d 31 then nextOf (execShrRekeyGo path s) s else s
  if bitOf d 30 then nextOf (execShrRekeyAbort path s) s else s

/-- The Shroud's registers. -/
def State.writeShr (s : State) (path : Path) (i : Nat) (d : Word) : State :=
  if i < 16 then { s with shr := { s.shr with keyData := Sparse.set 0#32 s.shr.keyData i d } }
  else
    match i with
    | 16 => s.writeShrCmd path d
    | 18 => { s with shr := { s.shr with mapIdx := BitVec.ofNat 20 (bits d 19 0) } }
    | 20 => s.writeRekeyCtrl path d
    | 21 => { s with shr := { s.shr with rkFirst := BitVec.ofNat 20 (bits d 19 0) } }
    | 22 => { s with shr := { s.shr with rkLast := BitVec.ofNat 20 (bits d 19 0) } }
    | 23 => { s with shr := { s.shr with rkDone := w1c s.shr.rkDone d 28 } }
    | _ => s

/-- KCE.LOCK: the owner's release, or a request (R245). -/
def State.writeLock (s : State) (path : Path) (d : Word) : State :=
  if bitOf d 4 then (if s.kce.isOwner path then s.dropLock else s)
  else nextOf (execLockRequest [Fin.ofNat 8 (bits d 2 0)] s) s

/-- KCE.KEY_CMD on a path that R246 admits; a go whose op is not defined is refused (R244). -/
def State.writeKceCmd (s : State) (path : Path) (d : Word) : State :=
  let s := { s with kce := { s.kce with cmdError := w1c s.kce.cmdError d 30 } }
  let reg := BitVec.ofNat 3 (bits d 2 0)
  let k := { s.kce with reg := reg }
  if !k.takesKeyCmd path then s.notOwner
  else
    let op := bits d 5 4
    let s := { s with kce := { k with op := definedVec 1 2 op k.op } }
    if !bitOf d 31 then s
    else
      match op with
      | 1 => nextOf (execKceKeyLoad path s) s
      | 2 => nextOf (execKceKeyZeroize path s) s
      | _ => { s with kce := { s.kce with cmdError := true, keyData := [] } }

/-- KCE.MSG_CTRL of the owner. -/
def State.writeMsgCtrl (s : State) (path : Path) (d : Word) : State :=
  if !s.kce.isOwner path then s.notOwner
  else
    let s := { s with kce := { s.kce with keyReg := definedVec 1 7 (bits d 2 0) s.kce.keyReg } }
    let s := if bitOf d 31 then nextOf (execMsgStart path s) s else s
    if bitOf d 30 then nextOf (execMsgFinish path s) s else s

/-- KCE.MSG_LEN_LO and KCE.MSG_LEN_HI of the owner. -/
def State.writeMsgLen (s : State) (path : Path) (high : Bool) (d : Word) : State :=
  if !s.kce.isOwner path then s.notOwner
  else { s with kce := { s.kce with msgLen := putWord high d s.kce.msgLen } }

/-- The registers of the keyed check engine. -/
def State.writeKce (s : State) (path : Path) (i : Nat) (d : Word) : State :=
  match i with
  | 0 => s.writeLock path d
  | 1 | 2 | 3 | 4 | 5 | 6 | 7 | 8 =>
    { s with kce := { s.kce with keyData := Sparse.set 0#32 s.kce.keyData (i - 1) d } }
  | 9 => s.writeKceCmd path d
  | 10 => s.writeMsgCtrl path d
  | 11 => s.writeMsgLen path false d
  | 12 => s.writeMsgLen path true d
  | 13 => nextOf (execDataInWrite path d s) s
  | 18 => { s with kce := { s.kce with notOwner := w1c s.kce.notOwner d 30 } }
  | _ => s

/-! ## Mainmast, Halyard, logbook, sea chest -/

/-- MST.WDOG. -/
def State.writeWdog (s : State) (path : Path) (d : Word) : State :=
  let m := s.mst
  let s := if m.wdLock then s
    else { s with mst := { m with
      wdLock := bitOf d 30, timeoutMs := defined 100 5000 (bits d 15 0) m.timeoutMs } }
  if bitOf d 31 then nextOf (execWdogKick path s) s else s

/-- The registers of one mailbox. -/
def State.writeMbox (s : State) (path : Path) (m k : Nat) (d : Word) : State :=
  match k with
  | 0 => s.modMb m fun x => { x with bgPercent := defined 0 100 (bits d 27 21) x.bgPercent }
  | 2 =>
    let s := s.modMb m fun x => { x with
      background := bitOf d 30
      outLen := defined 0 (mailboxSize (asMbox m)) (bits d 16 0) x.outLen }
    if bitOf d 31 then nextOf (execMbDoneGo path (asMbox m) s) s else s
  | 3 => s.modMb m fun x => { x with
      vendorReg := BitVec.ofNat 16 (bits d 31 16), rcReg := BitVec.ofNat 16 (bits d 15 0) }
  | _ => s

/-- HLY.RETIRE. -/
def State.writeRetire (s : State) (d : Word) : State :=
  let m := definedVec 0 4 (bits d 2 0) s.hly.retireMbox
  let s := { s with hly := { s.hly with retireMbox := m } }
  if bitOf d 31 then nextOf (execHlyRetireRequest (asMbox m.toNat) s) s else s

/-- HLY.ABORT. -/
def State.writeAbort (s : State) (d : Word) : State :=
  let m := definedVec 0 4 (bits d 2 0) s.hly.abortMbox
  let s := { s with hly := { s.hly with abortMbox := m } }
  if bitOf d 31 then nextOf (execHlyAbortRequest (asMbox m.toNat) s) s else s

/-- The registers of Halyard. -/
def State.writeHly (s : State) (path : Path) (i : Nat) (d : Word) : State :=
  if i = 20 then s.writeRetire d
  else if i = 21 then s.writeAbort d
  else s.writeMbox path (i / 4) (i % 4) d

/-- LOG.WR_CTRL; the types CHAIN and CLEAR are not defined here. -/
def State.writeLogCtrl (s : State) (path : Path) (d : Word) : State :=
  let t := bits d 7 0
  let s := { s with log := { s.log with
    wrPair := bitOf d 10, wrSev := BitVec.ofNat 2 (bits d 9 8)
    wrType := if t = 3 ∨ t = 4 then s.log.wrType else BitVec.ofNat 8 t } }
  if bitOf d 31 then nextOf (execLogWrGo path s) s else s

/-- The logbook's registers. -/
def State.writeLog (s : State) (path : Path) (i : Nat) (d : Word) : State :=
  if i = 7 then s.writeLogCtrl path d
  else if 8 ≤ i then { s with log := { s.log with wrData := Sparse.set 0#32 s.log.wrData (i - 8) d } }
  else s

/-- SEA.RAW_CTRL; a go whose op is not defined is refused. -/
def State.writeRawCtrl (s : State) (d : Word) : State :=
  let op := bits d 30 29
  let s := { s with sea := { s.sea with
    rawOp := definedVec 1 2 op s.sea.rawOp, rawLen := BitVec.ofNat 9 (bits d 28 20)
    rawOffset := BitVec.ofNat 9 (bits d 19 11), rawPage := BitVec.ofNat 11 (bits d 10 0) } }
  if !bitOf d 31 then s
  else if op = 1 ∨ op = 2 then s.rawGo else s.rawRefused

/-- The sea chest's registers. -/
def State.writeSea (s : State) (i : Nat) (d : Word) : State :=
  match i with
  | 0 => { s with sea := { s.sea with
      storeFailed := w1c s.sea.storeFailed d 27, rawError := w1c s.sea.rawError d 26 } }
  | 1 => s.writeRawCtrl d
  | 2 =>
    let c := definedVec 1 5 (bits d 2 0) s.sea.ctr
    let s := { s with sea := { s.sea with ctr := c } }
    if bitOf d 31 then s.counterGo c.toNat true else s
  | 3 | 4 | 5 => s
  | _ => { s with sea := { s.sea with rawBuf := Sparse.set 0#32 s.sea.rawBuf (i - 128) d } }

/-! ## Events, slices, counters -/

/-- EVT.SRC_CFG of the source selected. -/
def State.writeSrc (s : State) (d : Word) : State :=
  s.modSrc s.evt.sel.toNat fun x => { x with
    pending := w1c x.pending d 31, host := some (bitOf d 3), alert := some (bitOf d 2), mst := bitOf d 1 }

/-- EVT.BUCKET_SEL. -/
def Evt.writeBucketSel (e : Evt) (d : Word) : Evt :=
  let c := definedVec 0 5 (bits d 12 10) e.bucketClass
  { e with
    bucketClass := c
    bucketUnit := definedVec 0 (bucketUnits c.toNat - 1) (bits d 9 0) e.bucketUnit }

/-- The registers of the events. -/
def State.writeEvt (s : State) (i : Nat) (d : Word) : State :=
  match i with
  | 0 => { s with evt := { s.evt with sel := definedVec 0 1283 (bits d 10 0) s.evt.sel } }
  | 1 => s.writeSrc d
  | 2 => { s with evt := { s.evt with fifoOverflow := w1c s.evt.fifoOverflow d 30 } }
  | 3 => { s with evt := s.evt.writeBucketSel d }
  | _ => s

/-- CSn.MAINT_CTRL; a go with an operation that Table CACHE-9 does not define sets error. -/
def State.writeMaint (s : State) (n : Nat) (d : Word) : State :=
  let op := bits d 2 0
  let s := s.modSlice n fun x => { x with
    maintDone := w1c x.maintDone d 29, maintError := w1c x.maintError d 28, maintAll := bitOf d 3
    maintOp := definedVec 1 4 op x.maintOp }
  if !bitOf d 31 then s
  else if 1 ≤ op ∧ op ≤ 4 then s.maintGo n op
  else s.modSlice n fun x => { x with maintError := true }

/-- The registers of a slice. -/
def State.writeCs (s : State) (n i : Nat) (d : Word) : State :=
  match i with
  | 3 => s.modSlice n fun x => { x with errValid := w1c x.errValid d 31 }
  | 4 => s.writeMaint n d
  | 5 => s.modSlice n fun x => { x with maintStart := putWord false d x.maintStart }
  | 6 => s.modSlice n fun x => { x with maintStart := putWord true d x.maintStart }
  | 7 => s.modSlice n fun x => { x with maintCount := d }
  | _ => s

/-- The event codes of Table PMU-1. -/
def pmuCodes : List Nat :=
  [0x001, 0x002, 0x010, 0x011, 0x012, 0x013, 0x014, 0x015, 0x020, 0x021, 0x022, 0x030, 0x031, 0x032, 0x033,
    0x034, 0x040, 0x041, 0x050]

/-- A unit's counters and overflow bits zeroed (R421). -/
def PmuUnit.clear (x : PmuUnit) : PmuUnit := { x with cnt := [], cyc := 0#64, ovf := 0#9 }

/-- PMU.Uu_CTRL and the other registers of a unit (R417, R419). -/
def PmuUnit.writeReg (x : PmuUnit) (i : Nat) (d : Word) : PmuUnit :=
  if i = 0 then
    let x := { x with freeze := bitOf d 31, cycInt := bitOf d 8, int := BitVec.ofNat 8 (bits d 7 0) }
    if bitOf d 30 then x.clear else x
  else if i = 1 then { x with ovf := w1cVec x.ovf d 0 }
  else if i < 4 then { x with cyc := putWord (i == 3) d x.cyc }
  else if i < 12 then
    let c := i - 4
    { x with
      en := setBit x.en c (bitOf d 31), edge := setBit x.edge c (bitOf d 30)
      thresh := Sparse.set 0#24 x.thresh c
        (definedVec 0 8388608 (bits d 23 0) (Sparse.get 0#24 x.thresh c)) }
  else if i < 20 then
    let c := i - 12
    if pmuCodes.contains (bits d 11 0) then
      { x with event := Sparse.set 1#12 x.event c (BitVec.ofNat 12 (bits d 11 0)) } else x
  else
    let c := (i - 20) / 2
    { x with cnt := Sparse.set 0#48 x.cnt c (putWord (i % 2 == 1) d (Sparse.get 0#48 x.cnt c)) }

/-- `f` on a performance-counter unit. -/
def State.modUnit (s : State) (u : Nat) (f : PmuUnit → PmuUnit) : State :=
  { s with pmu := { s.pmu with units := Sparse.modify PmuUnit.reset s.pmu.units u f } }

/-! ## Sequencer, reef, clocks, tell-tales, ditty bag -/

/-- The sequencer's registers. -/
def Seq.writeReg (q : Seq) (i : Nat) (d : Word) : Seq :=
  match i with
  | 1 =>
    if q.strikeLock then q
    else { q with
      strikeLock := bitOf d 31, strikeDv := definedVec 86 100 (bits d 7 0) q.strikeDv }
  | 3 => { q with railFault := w1cVec q.railFault d 16, railWarn := w1cVec q.railWarn d 8 }
  | 4 => { q with
      brdStretch := definedVec 1 255 (bits d 31 24) q.brdStretch
      modStretch := definedVec 1 255 (bits d 15 8) q.modStretch }
  | 6 => { q with autoAdmit := bitOf d 0 }
  | _ => q

/-- The reef's registers. -/
def Reef.writeReg (f : Reef) (i : Nat) (d : Word) : Reef :=
  match i with
  | 0 => { f with budgetW := defined 100 280 (bits d 8 0) f.budgetW }
  | 1 => { f with pkgTokens := defined 5000 40000 (bits d 15 0) f.pkgTokens }
  | 2 => { f with prog := bits d 15 0 }
  | _ => f

/-- CLK.SLEEP_CTRL. -/
def Clk.writeSleep (c : Clk) (d : Word) : Clk :=
  if c.lock then c
  else { c with
    lock := bitOf d 31, portL1En := bitOf d 15
    maxChiut := definedVec 0 4 (bits d 14 12) c.maxChiut
    maxSlice := definedVec 0 4 (bits d 11 9) c.maxSlice
    maxCore := definedVec 0 4 (bits d 8 6) c.maxCore
    maxAux := definedVec 0 4 (bits d 5 3) c.maxAux }

/-- TEL.HOLDUP_CTRL. -/
def State.writeTel (s : State) (path : Path) (d : Word) : State :=
  let t := s.tel
  let s := { s with tel := { t with
    dropoutDv := defined 80 100 (bits d 23 16) t.dropoutDv
    strings := defined 1 8 (bits d 11 8) t.strings
    intervalH := defined 1 168 (bits d 7 0) t.intervalH } }
  if bitOf d 31 then nextOf (execHoldupGo path s) s else s

/-- The ditty bag's registers. -/
def Dty.writeReg (y : Dty) (i : Nat) (d : Word) : Dty :=
  if i = 0 then { y with evValid := w1c y.evValid d 31 }
  else if i = 1 then { y with stage := BitVec.ofNat 8 (bits d 31 24) }
  else if 5 ≤ i then { y with fw := Sparse.set 0#32 y.fw i d }
  else y

/-! ## Media channels -/

/-- MCH[n].ADDR_TAB_CTRL.clear: the table emptied (R415). -/
def Mch.clearTab (c : Mch) : Mch :=
  { c with addrTab := [], addrMade := 0, ringHead := 16, addrOverflow := 0 }

/-- The registers of a media channel, but for EVT_STATUS. -/
def Mch.writeReg (c : Mch) (i : Nat) (d : Word) : Mch :=
  let sel := c.driftSel.toNat
  match i with
  | 2 => { c with
      bgLanes := definedVec 0 8 (bits d 19 16) c.bgLanes
      pfLanes := definedVec 0 4 (bits d 15 12) c.pfLanes
      bgSlots := definedVec 0 24 (bits d 11 6) c.bgSlots
      pfSlots := definedVec 0 16 (bits d 5 0) c.pfSlots }
  | 6 => { c with driftSel := BitVec.ofNat 3 (bits d 2 0) }
  | 7 => c.setDie sel { c.die sel with clk := putWord false d (c.die sel).clk }
  | 8 => c.setDie sel { c.die sel with clk := putWord true d (c.die sel).clk }
  | 11 => { c with errValid := w1c c.errValid d 31 }
  | 13 =>
    let c := { c with addrIdx := BitVec.ofNat 6 (bits d 13 8) }
    if bitOf d 31 then c.clearTab else c
  | _ => c

/-- MCH[n].EVT_STATUS: the pending bits of the channel's sources. -/
def State.writeChanPending (s : State) (n : Nat) (d : Word) : State :=
  (List.range 14).foldl
    (fun s k => if bitOf d k then s.modSrc (14 * n + k) fun x => { x with pending := false } else s) s

/-! ## One write -/

/-- A write of a register on a path (R6 to R8, R428, R430). -/
def State.writeReg (s : State) (path : Path) (b : Block) (i : Nat) (d : Word) : State :=
  match b with
  | .glb => s.writeGlb path i d
  | .hp p => (s.modPort p fun x => x.writeReg i d).settleLevel
  | .bly => if i = 3 then s.writeAdmit d else s
  | .vbf => s
  | .stp => { s with stp := s.stp.writeReg i d }
  | .wlv => if i = 0 then { s with wlv := s.wlv.writeCtrl d } else s
  | .shr => s.writeShr path i d
  | .kce => s.writeKce path i d
  | .mst => if i = 1 then s.writeWdog path d else s
  | .hly => s.writeHly path i d
  | .trm => s
  | .log => s.writeLog path i d
  | .sea => s.writeSea i d
  | .evt => s.writeEvt i d
  | .cs n => s.writeCs n i d
  | .pmu u => s.modUnit u fun x => x.writeReg i d
  | .grant => s
  | .dbg => s
  | .seq => { s with seq := s.seq.writeReg i d }
  | .reef => { s with reef := s.reef.writeReg i d }
  | .clk => if i = 1 then { s with clk := s.clk.writeSleep d } else s
  | .tel => if i = 0 then s.writeTel path d else s
  | .dty => { s with dty := s.dty.writeReg i d }
  | .mch n => if i = 12 then s.writeChanPending n d else s.modCh n fun c => c.writeReg i d

/-- A word of the retained SRAM written (R358). -/
def Dty.writeSram (y : Dty) (off : Nat) (d : Word) : Dty :=
  { y with sram := Memory.writeBytes 0#8 y.sram off (bytesOf 4 d) }

/-- A word of a mailbox payload written by firmware, which owns it outside IDLE (R285). -/
def State.writePayload (s : State) (m off : Nat) (d : Word) : State :=
  s.modMb m fun x =>
    if x.st = .idle then x
    else
      let b := x.window
      let b := b ++ List.replicate (off + 4 - b.length) 0#8
      { x with output := .bytes (b.take off ++ bytesOf 4 d ++ b.drop (off + 4)) }

/-- A register whose lock bit a write sets (R430), and the bit. -/
def lockBit (b : Block) (i : Nat) : Option Nat :=
  match b, i with
  | .hp _, 0 => some 31
  | .wlv, 0 => some 31
  | .mst, 1 => some 30
  | .seq, 1 => some 31
  | .clk, 1 => some 31
  | _, _ => none

end Sys2Proof.Machine
end

