-- ==== Sys2Proof/Machine/Regs.lean ====
section
/-! DEFINITION. The commands of the register space: reads with their latches (R5, R427), writes (R428), locks
(R430), and a host's read of its window (R432). -/

namespace Sys2Proof.Machine

open Sys2Proof

/-! ## One access (R425, R426) -/

/-- The result of a software access. -/
def State.answerAccess (s : State) (v : BitVec 64) (err : Bool) : State :=
  { s with access := ⟨v, err⟩ }

/-- An access that R426 turns away: a bus error for Mainmast, 0 for the debug TAP. -/
def State.refuseAccess (s : State) (path : Path) : State := s.answerAccess 0#64 (path == .mainmast)

/-- `f` as an access to a register on a path: without effect where the path is closed, turned away where the
domain is down; otherwise the domain is woken. -/
def State.onReg (s : State) (path : Path) (b : Block) (i : Nat) (f : State → State) : State :=
  if !s.pathOpen path then s
  else if !s.domainUp b i then s.refuseAccess path
  else f ((s.wakeBlock b).answerAccess 0#64 false)

/-! ## Reads -/

/-- The number of a register's high-word latch. -/
def Block.key (b : Block) (i : Nat) : Nat :=
  let k := match b with
    | .glb => 0
    | .stp => 1
    | .shr => 2
    | .kce => 3
    | .log => 4
    | .sea => 5
    | .dty => 6
    | .cs n => 16 + n
    | .pmu u => 40 + u
    | .mch n => 64 + n
    | _ => 7
  k * 256 + i

/-- The word that a read returns: a high word comes from its latch where that holds one (R5, R427). -/
def State.wordRead (s : State) (path : Path) (b : Block) (i : Nat) : Word :=
  if b.isHigh i then
    (Sparse.find (s.latch path).high (b.key i)).getD (s.readReg path b i)
  else s.readReg path b i

/-- What a read does to the path's latches: a low word latches its high word, a high word empties its latch. -/
def State.latchRead (s : State) (path : Path) (b : Block) (i : Nat) : State :=
  if b.isLow i then
    s.modLatch path fun x => { x with high := Sparse.put x.high (b.key (i + 1)) (s.readReg path b (i + 1)) }
  else if b.isHigh i then s.modLatch path fun x => { x with high := Sparse.erase x.high (b.key i) }
  else s

/-- The oldest entry of EVT.MST_FIFO removed by its read (R409). -/
def State.popFifo (s : State) : State := { s with evt := { s.evt with fifo := s.evt.fifo.drop 1 } }

/-- The entry that MCH[n].ADDR_TAB_HI shows marked read (R415, R428). -/
def Mch.markRead (c : Mch) : Mch :=
  { c with addrTab := Sparse.adjust c.addrTab c.addrIdx.toNat fun e => { e with read := true } }

/-- The other side effects of reads (R428). -/
def State.sideRead (s : State) (b : Block) (i : Nat) : State :=
  match b, i with
  | .evt, 2 => s.popFifo
  | .mch n, 15 => s.modCh n Mch.markRead
  | _, _ => s

/-- One 32-bit read of a register on a path. -/
def State.readOne (s : State) (path : Path) (b : Block) (i : Nat) : State :=
  let v := s.wordRead path b i
  ((s.latchRead path b i).sideRead b i).answerAccess (v.setWidth 64) false

/-- MST_FIFO_READ: a read of EVT.MST_FIFO removes the oldest source index (R409). -/
def execMstFifoRead (path : Path) (s : State) : Out :=
  .next (s.onReg path .evt 2 fun s => s.readOne path .evt 2)

/-- ADDR_TAB_HI_READ: the entry selected is marked read (R428). -/
def execAddrTabHiRead (path : Path) (ch : Chan) (s : State) : Out :=
  .next (s.onReg path (.mch ch.val) 15 fun s => s.readOne path (.mch ch.val) 15)

/-- A read of a place that is no documented register: a factory register answers the debug TAP as
manufacturing test defines, every other place and path reads 0 (R425). -/
def State.readPlace (s : State) (path : Path) (addr : Nat) : State :=
  match locate addr with
  | .reg _ _ => s
  | .factory => s.answerAccess (if path = .debug then (Config.factoryValue addr).setWidth 64 else 0#64) false
  | .sram off => s.answerAccess (BitVec.ofNat 64 (s.dty.sramWord off)) false
  | .payload m off =>
    if s.rst.datapath then s.answerAccess (BitVec.ofNat 64 (leField (s.mb m).window off 4)) false
    else s.refuseAccess path
  | .absent => s.answerAccess 0#64 false

/-- LOW_WORD_READ: a 32-bit read of the firmware register space on the Mainmast or the debug path. The low word
of a 64-bit quantity latches the high word, whose next read returns it (R5, R427). -/
def execLowWordRead (path : Path) (addr : Word) (s : State) : Out :=
  .next (if !s.pathOpen path then s
    else if addr.toNat % 4 ≠ 0 then s.refuseAccess path
    else
      match locate addr.toNat with
      | .reg b i => s.onReg path b i fun s => s.readOne path b i
      | _ => s.readPlace path addr.toNat)

/-! ## Writes -/

/-- A write of a place that is no documented register; a write to a factory register on the debug path is
manufacturing test's (R425). -/
def State.writePlace (s : State) (path : Path) (addr : Nat) (d : Word) : Out :=
  match locate addr with
  | .reg _ _ => .next s
  | .factory => if path = .debug then .refused .factoryRegister else .next (s.answerAccess 0#64 false)
  | .sram off => .next (State.answerAccess { s with dty := s.dty.writeSram off d } 0#64 false)
  | .payload m off =>
    .next (if s.rst.datapath then (s.writePayload m off d).answerAccess 0#64 false else s.refuseAccess path)
  | .absent => .next (s.answerAccess 0#64 false)

/-- REGISTER_WRITE: a software write to the firmware register space (R6, R425, R426, R428). -/
def execRegisterWrite (path : Path) (addr data : Word) (s : State) : Out :=
  if !s.pathOpen path then .next s
  else if addr.toNat % 4 ≠ 0 then .next (s.refuseAccess path)
  else
    match locate addr.toNat with
    | .reg b i => .next (s.onReg path b i fun s => s.writeReg path b i data)
    | _ => s.writePlace path addr.toNat data

/-- TIME_HI_WRITE: GLB.TIME_HI takes effect with the staged GLB.TIME_LO of its path (R427). -/
def execTimeHiWrite (path : Path) (data : Word) (s : State) : Out :=
  .next (s.onReg path .glb 11 fun s => s.writeTimeHi path data)

/-- LOCK_SET: a write of 1 to a lock bit, with the other fields of its word (R430). -/
def execLockSet (path : Path) (addr data : Word) (s : State) : Out :=
  .next (match locate addr.toNat with
    | .reg b i =>
      match lockBit b i with
      | some k =>
        if addr.toNat % 4 = 0 ∧ bitOf data k then s.onReg path b i fun s => s.writeReg path b i data else s
      | none => s
    | _ => s)

/-- ADDR_TAB_CLEAR: the channel's address table emptied (R415). -/
def execAddrTabClear (path : Path) (ch : Chan) (s : State) : Out :=
  .next (s.onReg path (.mch ch.val) 13 fun s => s.modCh ch.val Mch.clearTab)

/-- PMU_FREEZE: the unit's counters stop (R421). -/
def execPmuFreeze (path : Path) (u : Fin 4) (s : State) : Out :=
  .next (s.onReg path (.pmu u.val) 0 fun s => s.modUnit u.val fun x => { x with freeze := true })

/-- PMU_CLEAR: the unit's nine counters and overflow bits are zeroed (R421). -/
def execPmuClear (path : Path) (u : Fin 4) (s : State) : Out :=
  .next (s.onReg path (.pmu u.val) 0 fun s => s.modUnit u.val PmuUnit.clear)

/-! ## The host's window (Table MAP-4) -/

/-- The register that a word of a port's vendor region shows: page 0, or a counter page the port has been
granted, which shows CTRL, OVF, EVSEL and the counters (R422, R432; log entry 38). -/
def State.hostReg (s : State) (p : Port) (off : Nat) : Option (Block × Nat) :=
  if off < 0x81000 then
    let i := (off - 0x80000) / 4
    if [0, 1, 2, 3, 10, 11].contains i then some (.glb, i) else none
  else
    let u := (off - 0x81000) / 0x1000
    let i := (off - 0x81000) % 0x1000 / 4
    let grant := match p with
      | .hp0 => s.pmu.grant0
      | .hp1 => s.pmu.grant1
    if u < 4 ∧ bitOf grant u ∧ (i < 12 ∨ (20 ≤ i ∧ i < 36)) then some (.pmu u, i) else none

/-- One 32-bit word of the vendor region read by a host. -/
def State.hostWord (s : State) (p : Port) (off : Nat) : State :=
  match s.hostReg p off with
  | some (b, i) => (s.wakeBlock b).readOne (.host p) b i
  | none => s.answerAccess 0#64 false

/-- An aligned 64-bit read: both words from one instant. -/
def State.hostPair (s : State) (p : Port) (off : Nat) : State :=
  let s := s.hostWord p off
  let lo := s.access.value
  let s := s.hostWord p (off + 4)
  s.answerAccess (lo + s.access.value <<< 32) false

/-- HOST_WINDOW_READ: a read of a port's BAR (R432). The CXL regions follow the CXL specification and read a
free value (log entry 39). -/
def execHostWindowRead (p : Port) (offset : BitVec 20) (size : Nat) (s : State) : Out :=
  let off := offset.toNat
  .next (if !(s.port p).linkUp then s
    else if off < 0x12000 ∨ (0x20000 ≤ off ∧ off < 0x42000) then
      (s.answerAccess ((s.draw).setWidth 64) false).drawn
    else if (size ≠ 4 ∧ size ≠ 8) ∨ off % size ≠ 0 ∨ off < 0x80000 then s.answerAccess 0#64 false
    else if size = 4 then s.hostWord p off
    else s.hostPair p off)

end Sys2Proof.Machine
end

