-- ==== Sys2Proof/Machine/Events.lean ====
section
/-! DEFINITION. The commands of the event sources and of the leaky buckets (R405 to R413), the release of
DEV_ALERT_N, the two temperature sources of R446, and the performance counters' cycle (R416 to R420). -/

namespace Sys2Proof.Machine

open Sys2Proof

/-! ## Sources -/

/-- A source fires with the record that is its own: an OUTCOME pair for source 1,228 (R451), none for source
1,273, whose LOST record the writer adds (R381), the port's own log for a path source (R44). -/
def State.fireAny (s : State) (i : Nat) (v : Severity) (d : Detail) : State :=
  if i = 1228 then s.fireOutcome v d.unit d.addr d.code d.value 0
  else if i = 1273 then (s.markFired i v).routeFiring i v d
  else if i = 1020 ∨ i = 1021 then s.firePath .hp0 i v d
  else if i = 1040 ∨ i = 1041 then s.firePath .hp1 i v d
  else s.fire i v d

/-- A severity that a source can take (Tables EVT-1 and EVT-2). -/
def sevOk (i : Nat) (v : Severity) : Bool :=
  decide ((srcSevs i).1.code ≤ v.code ∧ v.code ≤ (srcSevs i).2.code)

/-- EVENT_FIRE: a source fires at a severity that its table gives it (R406). -/
def execEventFire (source : Nat) (severity : Fin 4) (detail : Detail) (s : State) : Out :=
  let v := Severity.ofCode severity.val
  if !sourceOk source then .fault .illFormed
  else .next (if sevOk source v then s.fireAny source v detail else s)

/-- EVENT_COALESCE_FLUSH: the held firings of a source are recorded once their period has ended (R407). -/
def execEventCoalesceFlush (source : Nat) (s : State) : Out :=
  if !sourceOk source then .fault .illFormed
  else
    let keys := (s.evt.src.map Prod.fst).filter fun k => k % 2048 == source
    .next (keys.foldl State.flushKey s)

/-- BUCKET_LEAK: the end of a leak interval; the level falls by 1, never below 0 (R413). -/
def execBucketLeak (cls : Fin 6) (unit : Nat) (s : State) : Out :=
  if !bucketOk cls unit then .fault .illFormed
  else
    .next { s with evt := { s.evt with
      buckets := Sparse.modify Bucket.reset s.evt.buckets (bucketKey cls.val unit) fun b =>
        { b with level := b.level - 1 } } }

/-- ALERT_HOLD_EXPIRY: DEV_ALERT_N is released after its 10 ms once the alerting logs are clear (R412). -/
def execAlertHoldExpiry (s : State) : Out := .next s.settleAlert

/-! ## Temperatures (R446) -/

/-- CONTROLLER_TEMPERATURE_WARNING: a die sensor at 105 °C or above, at WARN at most once per minute. -/
def execControllerTemperatureWarning (sensor : Fin 16) (tempC : Nat) (s : State) : Out :=
  .next (if tempC < 105 ∨ !s.elapsedOpt s.seq.hotAt (sec 60) then s
    else State.fire { s with seq := { s.seq with hotAt := some s.clock } } 1011 .warn
      ⟨sensor.val, 0, 0, tempC⟩)

/-- HBM_STACK_TEMPERATURE: a stack at 95 °C or above, at FAULT once per minute. -/
def execHbmStackTemperature (stack : Stack) (tempC : Nat) (s : State) : Out :=
  let k := stack.val
  .next (if tempC < 95 ∨ !s.elapsedOpt (Sparse.find s.cache.stackHotAt k) (sec 60) then s
    else State.fire
      { s with cache := { s.cache with stackHotAt := Sparse.put s.cache.stackHotAt k s.clock } }
      (1132 + 32 * k) .fault ⟨32 * k, 0, 3, tempC⟩)

/-! ## Performance counters (R416 to R420) -/

/-- An event that reports an occupancy, with its level (Table PMU-1). -/
def State.occupancy (s : State) (code : Nat) : Option Nat :=
  match code with
  | 0x020 => some s.bly.entries.length
  | 0x021 => some s.charged
  | 0x022 => some s.vbf.entries.length
  | 0x040 => some s.slotsHeld
  | 0x041 => some s.reef.waiting.length
  | 0x050 => some (b2n (s.port0.pm == .l1 || s.port1.pm == .l1))
  | _ => none

/-- The value an event reports in the first and in each later cycle of a run of cycles: occurrences fall in the
first, an occupancy stands. -/
def State.eventValues (s : State) (code : Nat) : Nat × Nat :=
  match s.occupancy code with
  | some n => (n, n)
  | none => (Sparse.get 0 s.pmu.occ code, 0)

/-- What a counter adds in one cycle (R417): `n` now, `old` in the cycle before. -/
def countOf (edge : Bool) (t n old : Nat) : Nat :=
  if edge then b2n (decide (max t 1 ≤ n ∧ old < max t 1))
  else if t = 0 then n
  else b2n (decide (t ≤ n))

/-- The cycles, from 0, in which a counter of `size` values wraps that adds `a` in the first and `b` in each
later one of `n` cycles. -/
def wrapCycles (size v a b n : Nat) : List Nat :=
  let total := v + a + b * (n - 1)
  (List.range (total / size)).map fun j =>
    let goal := (j + 1) * size
    if goal ≤ v + a then 0 else (goal - v - a + (b - 1)) / b

/-- A programmable counter over a run of `n` cycles: its new value and the cycles in which it wraps. -/
def PmuUnit.runCounter (x : PmuUnit) (s : State) (n c : Nat) : BitVec 48 × List Nat :=
  let v := Sparse.get 0#48 x.cnt c
  if !bitOf x.en c then (v, [])
  else
    let code := (Sparse.get 1#12 x.event c).toNat
    let t := (Sparse.get 0#24 x.thresh c).toNat
    let edge := bitOf x.edge c
    let e := s.eventValues code
    let a := countOf edge t e.1 (Sparse.get 0 x.prev code)
    let b := countOf edge t e.2 e.2
    (BitVec.ofNat 48 (v.toNat + a + b * (n - 1)), wrapCycles (2 ^ 48) v.toNat a b n)

/-- A unit over a run of `n` cycles: its counters and overflow bits, and the cycles in which a counter that
interrupts wraps (R417, R420, R421). -/
def PmuUnit.run (x : PmuUnit) (s : State) (n : Nat) : PmuUnit × List Nat :=
  let prev := pmuCodes.foldl
    (fun m code => let e := s.eventValues code; Sparse.set 0 m code (if n = 1 then e.1 else e.2)) []
  if x.freeze then ({ x with prev := prev }, [])
  else
    let r := (List.range 8).map fun c => (c, x.runCounter s n c)
    let wraps := r.filter fun e => !e.2.2.isEmpty
    let cycWraps := wrapCycles (2 ^ 64) x.cyc.toNat 1 1 n
    let ints := (wraps.filter fun e => bitOf x.int e.1).flatMap fun e => e.2.2
    ({ x with
        cnt := r.foldl (fun m e => Sparse.set 0#48 m e.1 e.2.1) []
        cyc := BitVec.ofNat 64 (x.cyc.toNat + n)
        ovf := wraps.foldl (fun o e => setBit o e.1 true) (if cycWraps.isEmpty then x.ovf else setBit x.ovf 8 true)
        prev := prev },
      (ints ++ if x.cycInt then cycWraps else []).eraseDups)

/-- The interrupts of a unit's wraps: source 1,280 + u once for each cycle, and MSI-X vector 5 on each port
granted the unit (R420). -/
def State.unitInterrupts (s : State) (u : Nat) (cycles : List Nat) : State :=
  if cycles.isEmpty then s
  else
    let s := cycles.foldl (fun s _ => s.fire (1280 + u) .note Detail.none) s
    let send (s : State) (p : Port) (g : BitVec 4) : State :=
      if bitOf g u then s.sendMsix p 5 else s
    send (send s .hp0 s.pmu.grant0) .hp1 s.pmu.grant1

/-- Every unit over a run of cycles. -/
def State.runUnits (s : State) (n : Nat) : State :=
  let s' := (List.range 4).foldl
    (fun t u =>
      let r := (s.pmuUnit u).run s n
      (t.modUnit u fun _ => r.1).unitInterrupts u r.2) s
  { s' with pmu := { s'.pmu with occ := [] } }

/-- The datapath clock runs: the active PLL is locked and nothing stopped it. -/
def State.datapathClock (s : State) : Bool :=
  bitOf s.clk.dpllLock s.clk.active && !s.clk.dpStopped

/-- The timestamp advanced by a number of half nanoseconds. -/
def Glb.advance (g : Glb) (halves : Nat) : Glb :=
  let n := halves + b2n g.timeHalf
  { g with time := g.time + BitVec.ofNat 64 (n / 2), timeHalf := n % 2 == 1 }

/-- SEQ.VIN_STATUS.vin_mv taken anew every 100 µs, a free value; since when it has stood at 11.8 V (R360). -/
def State.sampleInput (s : State) : State :=
  let v := (s.draw).setWidth 16
  let high := decide (11800 ≤ v.toNat)
  let s := State.drawn { s with seq := { s.seq with vinMv := v } }
  { s with tel := { s.tel with
    inputHighAt := if high then some (s.tel.inputHighAt.getD s.clock) else none } }

/-- PMU_CYCLE_COUNT: `cycles` cycles of the datapath clock pass, of 0.5 ns each, or of the always-on clock, of
30,518 ns each, while the datapath clock is stopped; the timestamp advances and the counters count. -/
def execPmuCycleCount (cycles : Nat) (s : State) : Out :=
  .next (if cycles = 0 then s
    else
      let halves := if s.datapathClock then cycles else 61036 * cycles
      let s := if s.datapathClock ∧ s.rst.datapath then s.runUnits cycles else s
      let before := s.clock / us 100
      let s := { s with
        clock := s.clock + halves
        glb := if s.rst.aon then s.glb.advance halves else s.glb }
      if s.clock / us 100 = before ∨ !s.rst.aon then s else s.sampleInput)

end Sys2Proof.Machine
end

