-- ==== Sys2Proof/Machine/Layout.lean ====
section
/-! DEFINITION. The commands of layout and wear: gap moves, the wear tree, retirement, migration and adoption
(chapter "Media layout, striping and wear"). -/

namespace Sys2Proof.Machine

open Sys2Proof

/-! ## Gap moves (R128, R129) -/

/-- The 4 KiB row at a position of a region. -/
def State.rowAtPosition (s : State) (g q : Nat) : Option Nat := s.rowAt (g * 1048577 + q)

/-- Whether any program of a 4 KiB row is waiting or on its die. -/
def State.rowPrograms? (s : State) (row : Nat) : Bool :=
  s.stp.progs.any fun e => e.2.data.row == row

/-- The programs that copy a row to another global row: its members' ciphertext, P and Q computed afresh. -/
def State.copyRow (s : State) (row target : Nat) : State :=
  (List.range 18).foldl
    (fun s pos =>
      let p := s.memberPlace target pos
      if p.absent then s
      else
        let d : ProgData :=
          if 2 ≤ pos then .sector (row * 16 + (pos - 2)) (s.cell (row * 16 + (pos - 2)))
          else if pos = 0 then .parity row false (s.parityP [] row)
          else .parity row true (s.parityQ [] row)
        s.addProg (mkProg .unmapped none p d)) s

/-- GAP_MOVE_START: after 2^sg_shift data-member programs of a region its gap moves once, when the source row
has no program in flight (R125, R128). -/
def execGapMoveStart (region : BitVec 16) (s : State) : Out :=
  .next (
    let g := region.toNat
    let r := s.region g
    let source := if r.gap = 0 then 1048576 else r.gap - 1
    match s.rowAtPosition g source with
    | none => s
    | some row =>
      if s.regions ≤ g || r.programs < 2 ^ s.wlv.sgShift || (Sparse.find s.stp.gapMoves g).isSome ||
          s.rowBusy row || s.rowPrograms? row || s.glb.dumping || !s.glb.replayDone then s
      else
        let m : GapMove := ⟨source, r.gap, .reading⟩
        let s := { s with
          stp := { s.stp with gapMoves := Sparse.put s.stp.gapMoves g m }
          wlv := { s.wlv with regions := Sparse.modify Region.reset s.wlv.regions g fun x =>
            { x with programs := x.programs - 2 ^ s.wlv.sgShift } } }
        s.copyRow row (g * 1048577 + r.gap))

/-- GAP_MOVE_PROGRAMS_CONFIRMED: all programs of the target are confirmed; the gap record is programmed. -/
def execGapMoveProgramsConfirmed (region : BitVec 16) (s : State) : Out :=
  .next (
    let g := region.toNat
    match Sparse.find s.stp.gapMoves g, (Sparse.find s.stp.gapMoves g).bind fun m => s.rowAtPosition g m.source with
    | some m, some row =>
      if m.stage ≠ .reading || s.rowPrograms? row then s
      else { s with stp := { s.stp with
        gapMoves := Sparse.put s.stp.gapMoves g { m with stage := .recorded }
        gapSeq := s.stp.gapSeq + 1 } }
    | _, _ => s)

/-- The region after its gap move (R128, step 4). -/
def Region.moved (r : Region) : Region :=
  if r.gap = 0 then { r with gap := 1048576, start := (r.start + 1) % 1048576 }
  else { r with gap := r.gap - 1 }

/-- The members of a row with fresh stamps: what the programs of a copy wrote (R158). -/
def State.restamp (s : State) (row : Nat) : State :=
  (List.range 16).foldl
    (fun s j =>
      let lsn := row * 16 + j
      let p := s.place lsn
      s.setCell lsn { s.cell lsn with
        stamp := ((s.ch p.ch).die p.die).clk.extractLsb' 8 40 }) s

/-- GAP_SWITCH: both copies of the record are confirmed; the mapping switches in one step (R128, R129). -/
def execGapSwitch (region : BitVec 16) (s : State) : Out :=
  .next (
    let g := region.toNat
    match Sparse.find s.stp.gapMoves g, (Sparse.find s.stp.gapMoves g).bind fun m => s.rowAtPosition g m.source with
    | some m, some row =>
      if m.stage ≠ .recorded then s
      else
        let s := { s with
          stp := { s.stp with gapMoves := Sparse.erase s.stp.gapMoves g }
          wlv := { s.wlv with
            regions := Sparse.modify Region.reset s.wlv.regions g Region.moved } }
        (s.restamp row).retryWriters
    | _, _ => s)

/-! ## The wear tree (R138 to R143) -/

/-- The value of a leaf on media. -/
def State.mediaLeaf (s : State) (key : Nat) : Nat := Sparse.get 0 s.wlv.mediaLeaves key

/-- A leaf written to media: before the tree is loaded HBM holds the increments alone, and they are added
(R141). -/
def State.flushLeaf (s : State) (key : Nat) : State :=
  let v := Sparse.get 0 s.wlv.leaves key
  let m := if s.wlv.loaded then v else min 4095 (s.mediaLeaf key + v)
  { s with wlv := { s.wlv with
    mediaLeaves := Sparse.set 0 s.wlv.mediaLeaves key m
    leaves := if s.wlv.loaded then s.wlv.leaves else Sparse.erase s.wlv.leaves key
    leafDirty := s.wlv.leafDirty.filter (· != key) } }

/-- The next slot of a leaf sector taken. -/
def State.bumpLeafSeq (s : State) (slot die sector : Nat) : State :=
  { s with wlv := { s.wlv with
    leafSeq := Sparse.modify 0 s.wlv.leafSeq (dieKey slot die * 4096 + sector) (· + 1) } }

/-- LEAF_SECTOR_FLUSH: a leaf sector with unwritten increments is programmed to copy A, then to copy B
(R140). -/
def execLeafSectorFlush (k : Slot) (die : Fin 32) (sector : Nat) (s : State) : Out :=
  .next (
    let mine (key : Nat) : Bool :=
      key / 2 ^ 20 == dieKey k.val die.val && key % 2 ^ 20 / 160 == sector
    let keys := s.wlv.leafDirty.filter mine
    if keys.isEmpty ∨ s.presentSlots.isEmpty then s
    else (keys.foldl (fun s key => s.flushLeaf key) s).bumpLeafSeq k.val die.val sector)

/-- WEAR_TREE_LOAD: the tree is loaded after Memory_Active; increments made since are added (R141). -/
def execWearTreeLoad (s : State) : Out :=
  .next (if s.wlv.loaded || !s.glb.memoryActive then s
    else
      let sum := s.wlv.leaves.foldl
        (fun m e => Sparse.modify 0 m e.1 fun v => min 4095 (v + e.2)) s.wlv.mediaLeaves
      { s with wlv := { s.wlv with leaves := sum, loaded := true } })

/-- The largest leaf of a die, over a range of its swaths. -/
def State.maxLeaf (s : State) (slot die lo hi : Nat) : Nat :=
  (s.wlv.leaves.filter fun e =>
    e.1 / 2 ^ 20 == dieKey slot die && decide (lo ≤ e.1 % 2 ^ 20 ∧ e.1 % 2 ^ 20 < hi)).foldl
      (fun m e => max m e.2) 0

/-- The severity of a loss in the wear tree (Table LAYOUT-8). -/
def repairSeverity : WearLoss → Severity
  | .leafHbm => .warn
  | .oneMedia => .warn
  | .hbmAndOneMedia => .fault
  | .allCopies => .fault
  | .allAndGroup => .critical
  | .summary => .note

/-- The leaf taken from its media copies: before the load HBM holds increments alone, and none is left. -/
def State.leafFromMedia (s : State) (key : Nat) : State :=
  let v := if s.wlv.loaded then s.mediaLeaf key else 0
  { s with wlv := { s.wlv with
    leaves := Sparse.set 0 s.wlv.leaves key v, leafDirty := s.wlv.leafDirty.filter (· != key) } }

/-- WEAR_TREE_REPAIR: a loss in the wear tree is repaired (R142, Table LAYOUT-8). -/
def execWearTreeRepair (k : Slot) (die : Fin 32) (swath : Nat) (loss : WearLoss) (s : State) : Out :=
  if !(Instr.wearTreeRepair k die swath loss).wf then .fault .illFormed
  else .next (
    let key := swathKey k.val die.val swath
    let group := s.maxLeaf k.val die.val (swath / 1024 * 1024) (swath / 1024 * 1024 + 1024)
    let whole := s.maxLeaf k.val die.val 0 (2 ^ 20)
    let s := match loss with
      | .leafHbm => s.leafFromMedia key
      | .oneMedia => (s.flushLeaf key).bumpLeafSeq k.val die.val (swath / 160)
      | .hbmAndOneMedia => (s.leafFromMedia key).bumpLeafSeq k.val die.val (swath / 160)
      | .allCopies => s.setLeaf key group
      | .allAndGroup => s.setLeaf key whole
      | .summary => s
    s.fire 1219 (repairSeverity loss) (Detail.ofUnit k.val))

/-! ## Retirement (R144 to R148) -/

/-- SWATH_RETIRE: a swath at its limit, or ordered retired, takes a spare and starts its migration (R144,
R145, R148); decisions wait for the wear tree (R141). -/
def execSwathRetire (k : Slot) (die : Fin 32) (swath : Nat) (why : RetireWhy) (s : State) : Out :=
  if !(Instr.swathRetire k die swath why).wf then .fault .illFormed
  else .next (
    let key := swathKey k.val die.val swath
    let migrating := match Sparse.find s.wlv.remap key with
      | some e => e.migrating
      | none => false
    if !s.wlv.loaded || !s.retireDue key why || migrating || s.wlv.dies ≤ die.val || lastSwath < swath ||
        !(s.slot k.val).state.serving || (s.adoption k.val die.val).isSome then s
    else s.retireSwath k.val die.val swath why)

/-- FROZEN_SWATH_DAILY: a swath kept in service with its counter frozen is recorded once a day (R148). -/
def execFrozenSwathDaily (k : Slot) (die : Fin 32) (swath : Nat) (s : State) : Out :=
  if !(Instr.frozenSwathDaily k die swath).wf then .fault .illFormed
  else .next (
    let key := swathKey k.val die.val swath
    if s.wlv.frozen.contains key && !s.wlv.forcedOut.contains key then
      s.fire 1216 .critical (Detail.ofUnit k.val)
    else s)

/-- The programs that STP kept for a row a migration has passed are confirmed with its copy (R207). -/
def State.confirmKept (s : State) (ch die sector : Nat) : State :=
  (s.stp.progs.filter fun e =>
    e.2.fails == 2 && e.2.ch == ch && e.2.die == die && e.2.sector == sector).foldl
    (fun s e => s.confirmProgram e.1 e.2) s

/-- MIGRATION_ROW_CONFIRMED: the program of the row at the copy pointer is confirmed on the spare, and the
pointer advances; at 4,096 the entry is final (R145). The rebuild of an adopted die advances its pointer by
one swath (R147). -/
def execMigrationRowConfirmed (k : Slot) (die : Fin 32) (swath : Nat) (s : State) : Out :=
  if !(Instr.migrationRowConfirmed k die swath).wf then .fault .illFormed
  else .next (
    let key := swathKey k.val die.val swath
    match s.adoption k.val die.val with
    | some a =>
      if a.pointer ≠ swath ∨ lastSwath < swath then s
      else { s with wlv := { s.wlv with
        adoptions := s.wlv.adoptions.map fun x => if x = a then { x with pointer := swath + 1 } else x } }
    | none =>
      match Sparse.find s.wlv.remap key with
      | none => s
      | some e =>
        if !e.migrating then s
        else
          let n := e.pointer + 1
          let e' : Remap := { e with pointer := n, migrating := decide (n < 4096) }
          let s := { s with wlv := { s.wlv with remap := Sparse.put s.wlv.remap key e' } }
          let at_ := dieOfModule s.wlv.dies k.val e.oldDie
          let s := s.wearDraw key
          (s.confirmKept at_.1 at_.2 (e.oldSwath * 4096 + e.pointer)).retryWriters)

/-- DIE_RETIRE: a die declared failed, or with too many retirements, is retired whole (R146, R147, R198). -/
def execDieRetire (ch : Chan) (die : Die) (s : State) : Out :=
  .next (if s.wlv.dies / 4 ≤ die.val ∨ !(s.slot (moduleOf ch.val)).state.serving then s
    else s.retireDie (moduleOf ch.val) (moduleDie s.wlv.dies ch.val die.val))

end Sys2Proof.Machine
end

