-- ==== Sys2Proof/Machine/Dispatch.lean ====
section
/-! DEFINITION. The dispatch: one arm per command, each one direct call of its meaning. -/

namespace Sys2Proof.Machine

open Sys2Proof

def exec (i : Instr) (s : State) : Host.Outcome State Fault Refusal :=
  match i with
  | .memRd p op hpa err => Sys2Proof.Machine.execMemRd p op hpa err s
  | .memInv p nt hpa => Sys2Proof.Machine.execMemInv p nt hpa s
  | .memSpecRd p hpa => Sys2Proof.Machine.execMemSpecRd p hpa s
  | .memWr p hpa data poison => Sys2Proof.Machine.execMemWr p hpa data poison s
  | .memWrPtl p hpa data enables poison => Sys2Proof.Machine.execMemWrPtl p hpa data enables poison s
  | .unsupportedRequest p rwd header => Sys2Proof.Machine.execUnsupportedRequest p rwd header s
  | .responseSend p sel ndrReturned drsReturned => Sys2Proof.Machine.execResponseSend p sel ndrReturned drsReturned s
  | .viral p => Sys2Proof.Machine.execViral p s
  | .hdmDecoderCommit p d cfg => Sys2Proof.Machine.execHdmDecoderCommit p d cfg s
  | .devloadUpdate p => Sys2Proof.Machine.execDevloadUpdate p s
  | .portFail p how => Sys2Proof.Machine.execPortFail p how s
  | .pathRestored p => Sys2Proof.Machine.execPathRestored p s
  | .perstAssert p => Sys2Proof.Machine.execPerstAssert p s
  | .hotReset p => Sys2Proof.Machine.execHotReset p s
  | .cxlReset p => Sys2Proof.Machine.execCxlReset p s
  | .functionLevelReset p => Sys2Proof.Machine.execFunctionLevelReset p s
  | .linkTrainingStart p eqFails lanes => Sys2Proof.Machine.execLinkTrainingStart p eqFails lanes s
  | .recoveryEntry p => Sys2Proof.Machine.execRecoveryEntry p s
  | .laneMarginScan p timingStep voltageMv => Sys2Proof.Machine.execLaneMarginScan p timingStep voltageMv s
  | .hostMarginCommand p lane done => Sys2Proof.Machine.execHostMarginCommand p lane done s
  | .flitCrcFail p => Sys2Proof.Machine.execFlitCrcFail p s
  | .l0pNarrow p usePercent => Sys2Proof.Machine.execL0pNarrow p usePercent s
  | .aspmL1Request p => Sys2Proof.Machine.execAspmL1Request p s
  | .hostL1Entry p what => Sys2Proof.Machine.execHostL1Entry p what s
  | .l1Exit p => Sys2Proof.Machine.execL1Exit p s
  | .gpfPhase1 p => Sys2Proof.Machine.execGpfPhase1 p s
  | .gpfPhase2 p => Sys2Proof.Machine.execGpfPhase2 p s
  | .admitWindowExpiry p => Sys2Proof.Machine.execAdmitWindowExpiry p s
  | .belayBankFence b => Sys2Proof.Machine.execBelayBankFence b s
  | .belayReissue => Sys2Proof.Machine.execBelayReissue s
  | .parityEngineFail e => Sys2Proof.Machine.execParityEngineFail e s
  | .evictionCancel idx => Sys2Proof.Machine.execEvictionCancel idx s
  | .hbmPatrolStep n err corrected => Sys2Proof.Machine.execHbmPatrolStep n err corrected s
  | .pseudoChannelFail stack pc => Sys2Proof.Machine.execPseudoChannelFail stack pc s
  | .hbmStackFail stack => Sys2Proof.Machine.execHbmStackFail stack s
  | .vbfBankFence b => Sys2Proof.Machine.execVbfBankFence b s
  | .vbfRebuildComplete b => Sys2Proof.Machine.execVbfRebuildComplete b s
  | .maintClean n => Sys2Proof.Machine.execMaintClean n s
  | .maintFlush n => Sys2Proof.Machine.execMaintFlush n s
  | .maintDrop n => Sys2Proof.Machine.execMaintDrop n s
  | .maintPreload n => Sys2Proof.Machine.execMaintPreload n s
  | .maintDone n => Sys2Proof.Machine.execMaintDone n s
  | .sliceFail n => Sys2Proof.Machine.execSliceFail n s
  | .handoverCutover out inc => Sys2Proof.Machine.execHandoverCutover out inc s
  | .handoverEnd => Sys2Proof.Machine.execHandoverEnd s
  | .handoverAbandon => Sys2Proof.Machine.execHandoverAbandon s
  | .reservationGrant p => Sys2Proof.Machine.execReservationGrant p s
  | .dirtyBudgetReplan => Sys2Proof.Machine.execDirtyBudgetReplan s
  | .writeBackStart lsn => Sys2Proof.Machine.execWriteBackStart lsn s
  | .stripeGatherTimeout idx => Sys2Proof.Machine.execStripeGatherTimeout idx s
  | .mergeReadComplete idx ok => Sys2Proof.Machine.execMergeReadComplete idx ok s
  | .setConfirmed id => Sys2Proof.Machine.execSetConfirmed id s
  | .dumpComplete => Sys2Proof.Machine.execDumpComplete s
  | .replayStart bad => Sys2Proof.Machine.execReplayStart bad s
  | .replayComplete => Sys2Proof.Machine.execReplayComplete s
  | .gapMoveStart region => Sys2Proof.Machine.execGapMoveStart region s
  | .gapMoveProgramsConfirmed region => Sys2Proof.Machine.execGapMoveProgramsConfirmed region s
  | .gapSwitch region => Sys2Proof.Machine.execGapSwitch region s
  | .leafSectorFlush k die sector => Sys2Proof.Machine.execLeafSectorFlush k die sector s
  | .wearTreeLoad => Sys2Proof.Machine.execWearTreeLoad s
  | .wearTreeRepair k die swath loss => Sys2Proof.Machine.execWearTreeRepair k die swath loss s
  | .swathRetire k die swath why => Sys2Proof.Machine.execSwathRetire k die swath why s
  | .frozenSwathDaily k die swath => Sys2Proof.Machine.execFrozenSwathDaily k die swath s
  | .migrationRowConfirmed k die swath => Sys2Proof.Machine.execMigrationRowConfirmed k die swath s
  | .dieRetire ch die => Sys2Proof.Machine.execDieRetire ch die s
  | .mediaReadIssue id => Sys2Proof.Machine.execMediaReadIssue id s
  | .programResume ch die => Sys2Proof.Machine.execProgramResume ch die s
  | .programStart ch die => Sys2Proof.Machine.execProgramStart ch die s
  | .driftClockTick ch die tempC => Sys2Proof.Machine.execDriftClockTick ch die tempC s
  | .offsetTableReload ch die => Sys2Proof.Machine.execOffsetTableReload ch die s
  | .driftClockRestore ch die stamp age => Sys2Proof.Machine.execDriftClockRestore ch die stamp age s
  | .dualReadCompare id differ => Sys2Proof.Machine.execDualReadCompare id differ s
  | .prefetchDropTimeout id => Sys2Proof.Machine.execPrefetchDropTimeout id s
  | .prefetchDecode id r => Sys2Proof.Machine.execPrefetchDecode id r s
  | .refreshVisit ch die r => Sys2Proof.Machine.execRefreshVisit ch die r s
  | .sectorDecode id k r => Sys2Proof.Machine.execSectorDecode id k r s
  | .tier2Reconstruct id => Sys2Proof.Machine.execTier2Reconstruct id s
  | .tier3Start => Sys2Proof.Machine.execTier3Start s
  | .tier3Outcome lsn recovered => Sys2Proof.Machine.execTier3Outcome lsn recovered s
  | .poisonListCopy => Sys2Proof.Machine.execPoisonListCopy s
  | .poisonReconcile lsn => Sys2Proof.Machine.execPoisonReconcile lsn s
  | .scrubRowCheck sp sq => Sys2Proof.Machine.execScrubRowCheck sp sq s
  | .ack ch r => Sys2Proof.Machine.execAck ch r s
  | .nack ch r => Sys2Proof.Machine.execNack ch r s
  | .ready ch r => Sys2Proof.Machine.execReady ch r s
  | .readBurst ch tag crcOk => Sys2Proof.Machine.execReadBurst ch tag crcOk s
  | .done ch r => Sys2Proof.Machine.execDone ch r s
  | .fail ch r => Sys2Proof.Machine.execFail ch r s
  | .suspended ch r => Sys2Proof.Machine.execSuspended ch r s
  | .state ch r report => Sys2Proof.Machine.execState ch r report s
  | .ackTimeout ch die => Sys2Proof.Machine.execAckTimeout ch die s
  | .readBurstTimeout ch tag => Sys2Proof.Machine.execReadBurstTimeout ch tag s
  | .suspendTimeout ch die => Sys2Proof.Machine.execSuspendTimeout ch die s
  | .programTimeout ch die => Sys2Proof.Machine.execProgramTimeout ch die s
  | .channelTraining ch ok => Sys2Proof.Machine.execChannelTraining ch ok s
  | .quickRetrain ch why closingOk => Sys2Proof.Machine.execQuickRetrain ch why closingOk s
  | .recentring ch eyeMv inRange => Sys2Proof.Machine.execRecentring ch eyeMv inRange s
  | .moduleAlert k cause => Sys2Proof.Machine.execModuleAlert k cause s
  | .moduleProgramsEnded k => Sys2Proof.Machine.execModuleProgramsEnded k s
  | .moduleFailure k => Sys2Proof.Machine.execModuleFailure k s
  | .moduleRemoval k => Sys2Proof.Machine.execModuleRemoval k s
  | .moduleInsert k ident => Sys2Proof.Machine.execModuleInsert k ident s
  | .moduleAutoAdmit k => Sys2Proof.Machine.execModuleAutoAdmit k s
  | .rebuildStart k => Sys2Proof.Machine.execRebuildStart k s
  | .rebuildBatchConfirmed => Sys2Proof.Machine.execRebuildBatchConfirmed s
  | .shroudEngineFence e => Sys2Proof.Machine.execShroudEngineFence e s
  | .shrKeyLoad path => Sys2Proof.Machine.execShrKeyLoad path s
  | .shrKeyZeroize path => Sys2Proof.Machine.execShrKeyZeroize path s
  | .shrKeyErase path => Sys2Proof.Machine.execShrKeyErase path s
  | .shrRekeyGo path => Sys2Proof.Machine.execShrRekeyGo path s
  | .shrRekeyAbort path => Sys2Proof.Machine.execShrRekeyAbort path s
  | .rekeyClaimRow => Sys2Proof.Machine.execRekeyClaimRow s
  | .rekeyEnd => Sys2Proof.Machine.execRekeyEnd s
  | .rekeyCut => Sys2Proof.Machine.execRekeyCut s
  | .kceKeyLoad path => Sys2Proof.Machine.execKceKeyLoad path s
  | .kceKeyZeroize path => Sys2Proof.Machine.execKceKeyZeroize path s
  | .lockRequest codes => Sys2Proof.Machine.execLockRequest codes s
  | .lockRelease code => Sys2Proof.Machine.execLockRelease code s
  | .lockRevoke => Sys2Proof.Machine.execLockRevoke s
  | .msgStart path => Sys2Proof.Machine.execMsgStart path s
  | .dataInWrite path data => Sys2Proof.Machine.execDataInWrite path data s
  | .msgFinish path => Sys2Proof.Machine.execMsgFinish path s
  | .drbgReseed coreG ok => Sys2Proof.Machine.execDrbgReseed coreG ok s
  | .entropyStallTimeout => Sys2Proof.Machine.execEntropyStallTimeout s
  | .kceSelfTest coreG pass => Sys2Proof.Machine.execKceSelfTest coreG pass s
  | .sealDrainDone stored => Sys2Proof.Machine.execSealDrainDone stored s
  | .sealLineFeed => Sys2Proof.Machine.execSealLineFeed s
  | .sealRegistryConfirmed stored => Sys2Proof.Machine.execSealRegistryConfirmed stored s
  | .verifyLineFeed => Sys2Proof.Machine.execVerifyLineFeed s
  | .verifyRetire => Sys2Proof.Machine.execVerifyRetire s
  | .debugEntry stored => Sys2Proof.Machine.execDebugEntry stored s
  | .debugExit => Sys2Proof.Machine.execDebugExit s
  | .lockstepMismatch => Sys2Proof.Machine.execLockstepMismatch s
  | .configChosen leadPasses checkerPasses => Sys2Proof.Machine.execConfigChosen leadPasses checkerPasses s
  | .takeoverResume checkpointsValid => Sys2Proof.Machine.execTakeoverResume checkpointsValid s
  | .taskCheckpoint => Sys2Proof.Machine.execTaskCheckpoint s
  | .spareSelfTest pass => Sys2Proof.Machine.execSpareSelfTest pass s
  | .wdogKick path => Sys2Proof.Machine.execWdogKick path s
  | .wdogExpiry => Sys2Proof.Machine.execWdogExpiry s
  | .coreReset src => Sys2Proof.Machine.execCoreReset src s
  | .activationTimeout => Sys2Proof.Machine.execActivationTimeout s
  | .mailboxDoorbell m opcode payload => Sys2Proof.Machine.execMailboxDoorbell m opcode payload s
  | .mbDoneGo path m => Sys2Proof.Machine.execMbDoneGo path m s
  | .hlyRetireRequest m => Sys2Proof.Machine.execHlyRetireRequest m s
  | .hlyAbortRequest m => Sys2Proof.Machine.execHlyAbortRequest m s
  | .sidebandRequest opcode payload => Sys2Proof.Machine.execSidebandRequest opcode payload s
  | .sidebandReassemblyTimeout => Sys2Proof.Machine.execSidebandReassemblyTimeout s
  | .setEndpointId eid => Sys2Proof.Machine.execSetEndpointId eid s
  | .getEndpointId => Sys2Proof.Machine.execGetEndpointId s
  | .getMctpVersionSupport msgType => Sys2Proof.Machine.execGetMctpVersionSupport msgType s
  | .getMessageTypeSupport => Sys2Proof.Machine.execGetMessageTypeSupport s
  | .unsupportedCommand m => Sys2Proof.Machine.execUnsupportedCommand m s
  | .identify m => Sys2Proof.Machine.execIdentify m s
  | .backgroundOperationStatus m => Sys2Proof.Machine.execBackgroundOperationStatus m s
  | .requestAbortBackgroundOperation m => Sys2Proof.Machine.execRequestAbortBackgroundOperation m s
  | .getEventRecords m log => Sys2Proof.Machine.execGetEventRecords m log s
  | .clearEventRecords m log handles => Sys2Proof.Machine.execClearEventRecords m log handles s
  | .getEventInterruptPolicy m => Sys2Proof.Machine.execGetEventInterruptPolicy m s
  | .setEventInterruptPolicy m log msix vector => Sys2Proof.Machine.execSetEventInterruptPolicy m log msix vector s
  | .getFwInfo m => Sys2Proof.Machine.execGetFwInfo m s
  | .transferFw m slot offset data => Sys2Proof.Machine.execTransferFw m slot offset data s
  | .activateFw m slot online digestOk accepts => Sys2Proof.Machine.execActivateFw m slot online digestOk accepts s
  | .getTimestamp m => Sys2Proof.Machine.execGetTimestamp m s
  | .setTimestamp m time => Sys2Proof.Machine.execSetTimestamp m time s
  | .getSupportedLogs m => Sys2Proof.Machine.execGetSupportedLogs m s
  | .getLog m => Sys2Proof.Machine.execGetLog m s
  | .identifyMemoryDevice m => Sys2Proof.Machine.execIdentifyMemoryDevice m s
  | .getPartitionInfo m => Sys2Proof.Machine.execGetPartitionInfo m s
  | .getHealthInfo m => Sys2Proof.Machine.execGetHealthInfo m s
  | .getAlertConfiguration m => Sys2Proof.Machine.execGetAlertConfiguration m s
  | .setAlertConfiguration m lifeUsed overC underC volatileErrs persistentErrs => Sys2Proof.Machine.execSetAlertConfiguration m lifeUsed overC underC volatileErrs persistentErrs s
  | .getShutdownState m => Sys2Proof.Machine.execGetShutdownState m s
  | .setShutdownState m clean => Sys2Proof.Machine.execSetShutdownState m clean s
  | .getPoisonList m dpa lines => Sys2Proof.Machine.execGetPoisonList m dpa lines s
  | .injectPoison m dpa => Sys2Proof.Machine.execInjectPoison m dpa s
  | .clearPoison m dpa data => Sys2Proof.Machine.execClearPoison m dpa data s
  | .sanitize m => Sys2Proof.Machine.execSanitize m s
  | .secureErase m => Sys2Proof.Machine.execSecureErase m s
  | .getDeviceStatus m => Sys2Proof.Machine.execGetDeviceStatus m s
  | .getDirtyBudget m => Sys2Proof.Machine.execGetDirtyBudget m s
  | .getSealRecord m => Sys2Proof.Machine.execGetSealRecord m s
  | .seaChestStore m stored => Sys2Proof.Machine.execSeaChestStore m stored s
  | .getTrimPlan m => Sys2Proof.Machine.execGetTrimPlan m s
  | .setTrimOverride m => Sys2Proof.Machine.execSetTrimOverride m s
  | .reefBudget m => Sys2Proof.Machine.execReefBudget m s
  | .sealExtent m => Sys2Proof.Machine.execSealExtent m s
  | .verifyRead m stored => Sys2Proof.Machine.execVerifyRead m stored s
  | .keyLoad m stored => Sys2Proof.Machine.execKeyLoad m stored s
  | .keyZeroize m stored => Sys2Proof.Machine.execKeyZeroize m stored s
  | .rekeyStart m stored => Sys2Proof.Machine.execRekeyStart m stored s
  | .rekeyAbort m => Sys2Proof.Machine.execRekeyAbort m s
  | .logbookSnapshot m => Sys2Proof.Machine.execLogbookSnapshot m s
  | .logbookClear m => Sys2Proof.Machine.execLogbookClear m s
  | .moduleRetire m => Sys2Proof.Machine.execModuleRetire m s
  | .moduleAdmit m => Sys2Proof.Machine.execModuleAdmit m s
  | .selfTest m => Sys2Proof.Machine.execSelfTest m s
  | .pmuGrant m => Sys2Proof.Machine.execPmuGrant m s
  | .formatMediaSet m stored => Sys2Proof.Machine.execFormatMediaSet m stored s
  | .railWarning r => Sys2Proof.Machine.execRailWarning r s
  | .railFault r => Sys2Proof.Machine.execRailFault r s
  | .overVoltage => Sys2Proof.Machine.execOverVoltage s
  | .inputStable => Sys2Proof.Machine.execInputStable s
  | .powerFailWarning => Sys2Proof.Machine.execPowerFailWarning s
  | .shutdownRequest => Sys2Proof.Machine.execShutdownRequest s
  | .overTemperature sensor tempC => Sys2Proof.Machine.execOverTemperature sensor tempC s
  | .strikePoint belowStrike pages => Sys2Proof.Machine.execStrikePoint belowStrike pages s
  | .resumeQualified => Sys2Proof.Machine.execResumeQualified s
  | .abandonConfirmed => Sys2Proof.Machine.execAbandonConfirmed s
  | .railDisableStep => Sys2Proof.Machine.execRailDisableStep s
  | .railInWindow r => Sys2Proof.Machine.execRailInWindow r s
  | .rampRailFail r timeUs => Sys2Proof.Machine.execRampRailFail r timeUs s
  | .rampRetry => Sys2Proof.Machine.execRampRetry s
  | .powerdownRailFail what timeUs => Sys2Proof.Machine.execPowerdownRailFail what timeUs s
  | .busTransactionError k why stuckLow => Sys2Proof.Machine.execBusTransactionError k why stuckLow s
  | .busRetry k ok => Sys2Proof.Machine.execBusRetry k ok s
  | .unresponsiveRetry k answered => Sys2Proof.Machine.execUnresponsiveRetry k answered s
  | .busClearRetry recovered => Sys2Proof.Machine.execBusClearRetry recovered s
  | .moduleTempRead k tempC => Sys2Proof.Machine.execModuleTempRead k tempC s
  | .statusWordPoll k powerGood => Sys2Proof.Machine.execStatusWordPoll k powerGood s
  | .resetStretchEnd out => Sys2Proof.Machine.execResetStretchEnd out s
  | .reefRequest holder programs target => Sys2Proof.Machine.execReefRequest holder programs target s
  | .reefGrant => Sys2Proof.Machine.execReefGrant s
  | .permitRelease id => Sys2Proof.Machine.execPermitRelease id s
  | .reefLevelRaise id => Sys2Proof.Machine.execReefLevelRaise id s
  | .reefArbiterFail => Sys2Proof.Machine.execReefArbiterFail s
  | .moduleCapRestore k => Sys2Proof.Machine.execModuleCapRestore k s
  | .xtalLost => Sys2Proof.Machine.execXtalLost s
  | .xtalReturn => Sys2Proof.Machine.execXtalReturn s
  | .rcTrim => Sys2Proof.Machine.execRcTrim s
  | .refclkLost n => Sys2Proof.Machine.execRefclkLost n s
  | .refclkRecovered n => Sys2Proof.Machine.execRefclkRecovered n s
  | .holdoverExpiry => Sys2Proof.Machine.execHoldoverExpiry s
  | .dpllLockLoss => Sys2Proof.Machine.execDpllLockLoss s
  | .dpllRelock n => Sys2Proof.Machine.execDpllRelock n s
  | .mpllLockLoss => Sys2Proof.Machine.execMpllLockLoss s
  | .mpllRelock => Sys2Proof.Machine.execMpllRelock s
  | .sleepEvaluate d nextNs => Sys2Proof.Machine.execSleepEvaluate d nextNs s
  | .scheduledWake d => Sys2Proof.Machine.execScheduledWake d s
  | .wakeLate d => Sys2Proof.Machine.execWakeLate d s
  | .aonPowerOnDetect pages => Sys2Proof.Machine.execAonPowerOnDetect pages s
  | .porAssert => Sys2Proof.Machine.execPorAssert s
  | .sysResetRequest path key => Sys2Proof.Machine.execSysResetRequest path key s
  | .coreResetRequest path key => Sys2Proof.Machine.execCoreResetRequest path key s
  | .resetHoldOffDone => Sys2Proof.Machine.execResetHoldOffDone s
  | .domainRelease d fuseCrc => Sys2Proof.Machine.execDomainRelease d fuseCrc s
  | .clockWatchdogExpiry c => Sys2Proof.Machine.execClockWatchdogExpiry c s
  | .arrayFillDone bad => Sys2Proof.Machine.execArrayFillDone bad s
  | .firmwareBoot r => Sys2Proof.Machine.execFirmwareBoot r s
  | .holdupMeasureStart => Sys2Proof.Machine.execHoldupMeasureStart s
  | .holdupMeasureEnd r => Sys2Proof.Machine.execHoldupMeasureEnd r s
  | .holdupGo path => Sys2Proof.Machine.execHoldupGo path s
  | .trimPlanCompute => Sys2Proof.Machine.execTrimPlanCompute s
  | .planStale => Sys2Proof.Machine.execPlanStale s
  | .pathMonitorSample slackPs => Sys2Proof.Machine.execPathMonitorSample slackPs s
  | .selfTestSliceStart ticket => Sys2Proof.Machine.execSelfTestSliceStart ticket s
  | .selfTestSliceEnd pass => Sys2Proof.Machine.execSelfTestSliceEnd pass s
  | .sliceFaultEnd ownFault => Sys2Proof.Machine.execSliceFaultEnd ownFault s
  | .ticketCoverTimeout ticket => Sys2Proof.Machine.execTicketCoverTimeout ticket s
  | .hbmRecalibration stack pc eyePercent => Sys2Proof.Machine.execHbmRecalibration stack pc eyePercent s
  | .logRecordWrite => Sys2Proof.Machine.execLogRecordWrite s
  | .logWrGo path => Sys2Proof.Machine.execLogWrGo path s
  | .archiveCopy => Sys2Proof.Machine.execArchiveCopy s
  | .chainWrite => Sys2Proof.Machine.execChainWrite s
  | .chainStallTimeout => Sys2Proof.Machine.execChainStallTimeout s
  | .blockCounterAdvance verified => Sys2Proof.Machine.execBlockCounterAdvance verified s
  | .logbookRestore => Sys2Proof.Machine.execLogbookRestore s
  | .snapshotReleaseTimeout m => Sys2Proof.Machine.execSnapshotReleaseTimeout m s
  | .clearRetire => Sys2Proof.Machine.execClearRetire s
  | .recordStore id payload verified => Sys2Proof.Machine.execRecordStore id payload verified s
  | .recordWithdraw id => Sys2Proof.Machine.execRecordWithdraw id s
  | .backgroundErase => Sys2Proof.Machine.execBackgroundErase s
  | .rawProgram path => Sys2Proof.Machine.execRawProgram path s
  | .rawErase path => Sys2Proof.Machine.execRawErase path s
  | .counterIncrement ctr verified => Sys2Proof.Machine.execCounterIncrement ctr verified s
  | .counterRefill => Sys2Proof.Machine.execCounterRefill s
  | .seaChestSettle => Sys2Proof.Machine.execSeaChestSettle s
  | .eventFire source severity detail => Sys2Proof.Machine.execEventFire source severity detail s
  | .eventCoalesceFlush source => Sys2Proof.Machine.execEventCoalesceFlush source s
  | .bucketLeak cls unit => Sys2Proof.Machine.execBucketLeak cls unit s
  | .mstFifoRead path => Sys2Proof.Machine.execMstFifoRead path s
  | .addrTabClear path ch => Sys2Proof.Machine.execAddrTabClear path ch s
  | .addrTabHiRead path ch => Sys2Proof.Machine.execAddrTabHiRead path ch s
  | .alertHoldExpiry => Sys2Proof.Machine.execAlertHoldExpiry s
  | .pmuCycleCount cycles => Sys2Proof.Machine.execPmuCycleCount cycles s
  | .pmuFreeze path u => Sys2Proof.Machine.execPmuFreeze path u s
  | .pmuClear path u => Sys2Proof.Machine.execPmuClear path u s
  | .lowWordRead path addr => Sys2Proof.Machine.execLowWordRead path addr s
  | .timeHiWrite path data => Sys2Proof.Machine.execTimeHiWrite path data s
  | .lockSet path addr data => Sys2Proof.Machine.execLockSet path addr data s
  | .hostWindowRead p offset size => Sys2Proof.Machine.execHostWindowRead p offset size s
  | .registerWrite path addr data => Sys2Proof.Machine.execRegisterWrite path addr data s
  | .linkUp p rate width flit256 latopt ndrCredits drsCredits => Sys2Proof.Machine.execLinkUp p rate width flit256 latopt ndrCredits drsCredits s
  | .replayTimerTimeout p rollover => Sys2Proof.Machine.execReplayTimerTimeout p rollover s
  | .controllerTemperatureWarning sensor tempC => Sys2Proof.Machine.execControllerTemperatureWarning sensor tempC s
  | .hbmStackTemperature stack tempC => Sys2Proof.Machine.execHbmStackTemperature stack tempC s
  | .dailySummary => Sys2Proof.Machine.execDailySummary s
  | .holdupBootTimeout => Sys2Proof.Machine.execHoldupBootTimeout s

end Sys2Proof.Machine
end

