-- ==== Sys2Proof/Safety.lean ====
section
/-! DEFINITION. The terms in which claims about the block are stated: the parts of the state, what it means
that a change stays within some of them, and the invariants. -/

namespace Sys2Proof.Machine

open Sys2Proof

/-- The parts of the state: one for each field of `State`, but that the event logs of the host ports
(`hostLogs`) and the service level (`level`) are parts of their own. -/
inductive Part where
  | pending | clock | draws | access | latches | glb | level | port0 | port1 | hostLogs | bly | cache | vbf
  | stp | wlv | media | mch | shr | kce | mst | hly | seq | reef | clk | rst | tel | trm | log | sea | dty
  | evt | pmu | dbg
  deriving DecidableEq, Repr

/-- A port but for its event logs, the handle of its next record and its MSI-X messages. -/
def PortState.quiet (x : PortState) : PortState :=
  { x with logs := [], nextHandle := 0, msixSent := 0#32 }

/-- The event logs of a port, the handle of its next record and its MSI-X messages. -/
def PortState.posted (x : PortState) : Sparse EvLog × Nat × BitVec 32 :=
  (x.logs, x.nextHandle, x.msixSent)

/-- The global state but for the service level. -/
def Glb.settled (g : Glb) : Glb :=
  { g with level := .outOfService }

/-- Two states hold the same in a part. -/
def State.agree (s t : State) : Part → Prop
  | .pending => t.pending = s.pending
  | .clock => t.clock = s.clock
  | .draws => t.draws = s.draws
  | .access => t.access = s.access
  | .latches => t.latches = s.latches
  | .glb => t.glb.settled = s.glb.settled
  | .level => t.glb.level = s.glb.level
  | .port0 => t.port0.quiet = s.port0.quiet
  | .port1 => t.port1.quiet = s.port1.quiet
  | .hostLogs => (t.port0.posted, t.port1.posted) = (s.port0.posted, s.port1.posted)
  | .bly => t.bly = s.bly
  | .cache => t.cache = s.cache
  | .vbf => t.vbf = s.vbf
  | .stp => t.stp = s.stp
  | .wlv => t.wlv = s.wlv
  | .media => t.media = s.media
  | .mch => t.mch = s.mch
  | .shr => t.shr = s.shr
  | .kce => t.kce = s.kce
  | .mst => t.mst = s.mst
  | .hly => t.hly = s.hly
  | .seq => t.seq = s.seq
  | .reef => t.reef = s.reef
  | .clk => t.clk = s.clk
  | .rst => t.rst = s.rst
  | .tel => t.tel = s.tel
  | .trm => t.trm = s.trm
  | .log => t.log = s.log
  | .sea => t.sea = s.sea
  | .dty => t.dty = s.dty
  | .evt => t.evt = s.evt
  | .pmu => t.pmu = s.pmu
  | .dbg => t.dbg = s.dbg

/-- From `s` to `t` nothing changed outside the parts of `W`. -/
structure Within (W : List Part) (s t : State) : Prop where
  same : ∀ p : Part, p ∉ W → s.agree t p

/-- Source `i` has fired and its last firing was at severity `v` (R406). -/
def State.fired (s : State) (i : Nat) (v : Severity) : Prop :=
  (s.src i).pending = true ∧ (s.src i).sev = some v

/-- A request that port `p` receives now is accepted at once: nothing waits before it, the port does not
answer it itself, a belay entry is free and its admission conditions hold (R55, R57). -/
structure State.takes (s : State) (p : Port) (r : PortReq) : Prop where
  runs : s.clk.dpStopped = false
  req : (s.port p).ingressReq = []
  rwd : (s.port p).ingressRwd = []
  forward : s.answeredByPort r = false
  entry : s.freshBelay.isSome
  admitted : s.canAccept p r

/-- Command `c` on state `s` answers a next state, and `Q` holds of that state. -/
def Completes (c : Instr) (s : State) (Q : State → Prop) : Prop :=
  ∃ t, exec c s = .next t ∧ Q t

/-- Mailbox `m` has completed its command: it is IDLE with a return code and a vendor status of R291 and an
output. -/
def State.answered (t : State) (m : Mbox) (rc : RetCode) (v : Vendor) (out : Output) : Prop :=
  (t.mb m.val).st = .idle ∧ (t.mb m.val).rc = BitVec.ofNat 16 rc.code ∧
    (t.mb m.val).vendor = BitVec.ofNat 16 v.code ∧ (t.mb m.val).output = out

/-- Mailbox `m` has completed its command with Background Command Started, and the command goes on. -/
def State.inBackground (t : State) (m : Mbox) (op : Nat) : Prop :=
  t.answered m .backgroundStarted .none .empty ∧ (t.mb m.val).bgActive = true ∧
    (t.mb m.val).bgOpcode = BitVec.ofNat 16 op ∧ (t.mb m.val).bgPercent = 0

/-- The background command of mailbox `m` has ended with a return code and a vendor status. -/
def State.bgEnded (t : State) (m : Mbox) (rc : RetCode) (v : Vendor) : Prop :=
  (t.mb m.val).bgActive = false ∧ (t.mb m.val).bgRc = BitVec.ofNat 16 rc.code ∧
    (t.mb m.val).bgVendor = BitVec.ofNat 16 v.code

/-- Every part of the state but those listed. -/
def Part.allBut (l : List Part) : List Part :=
  [.pending, .clock, .draws, .access, .latches, .glb, .level, .port0, .port1, .hostLogs, .bly,
    .cache, .vbf, .stp, .wlv, .media, .mch, .shr, .kce, .mst, .hly, .seq, .reef, .clk, .rst, .tel,
    .trm, .log, .sea, .dty, .evt, .pmu, .dbg].filter
    fun p => !l.contains p

/-- The parts of the state that a command may change; no command changes a part that its entry leaves
out. -/
def footprint : Instr → List Part
  | .memRd .. | .memInv .. | .memSpecRd .. | .memWr .. | .memWrPtl .. =>
      [.draws, .glb, .level, .port0, .port1, .hostLogs, .bly, .cache, .vbf, .stp, .wlv, .kce, .hly,
        .log, .evt, .pmu]
  | .unsupportedRequest .. | .responseSend .. | .reservationGrant .. | .dirtyBudgetReplan .. =>
      [.glb, .level, .port0, .port1, .hostLogs, .bly, .cache, .vbf, .stp, .wlv, .kce, .hly, .log,
        .evt, .pmu]
  | .viral .. | .hdmDecoderCommit .. | .pathRestored .. | .linkTrainingStart .. | .recoveryEntry ..
  | .flitCrcFail .. | .admitWindowExpiry .. | .replayTimerTimeout .. =>
      [.port0, .port1, .hostLogs, .log, .evt]
  | .devloadUpdate .. | .hostMarginCommand .. | .l0pNarrow .. | .aspmL1Request .. | .hostL1Entry ..
  | .gpfPhase1 .. =>
      [.port0, .port1, .hostLogs]
  | .portFail .. =>
      [.level, .port0, .port1, .hostLogs, .bly, .hly, .log, .evt]
  | .perstAssert .. | .hotReset .. | .cxlReset .. =>
      [.level, .port0, .port1, .hostLogs, .bly, .cache, .vbf, .stp, .wlv, .media, .kce, .mst, .hly,
        .seq, .log, .sea, .evt]
  | .functionLevelReset .. =>
      [.port0, .port1, .hostLogs, .cache, .vbf, .stp, .wlv, .media, .kce, .mst, .hly, .seq, .log,
        .sea, .evt]
  | .laneMarginScan .. =>
      [.draws, .port0, .port1, .hostLogs, .log]
  | .l1Exit .. =>
      [.port0, .port1, .hostLogs, .clk]
  | .gpfPhase2 .. =>
      [.port0, .port1, .hostLogs, .hly]
  | .belayBankFence .. | .belayReissue .. | .vbfRebuildComplete .. | .sliceFail ..
  | .mergeReadComplete .. =>
      [.glb, .level, .port0, .port1, .hostLogs, .bly, .cache, .vbf, .stp, .wlv, .hly, .log, .evt,
        .pmu]
  | .parityEngineFail .. =>
      [.level, .hostLogs, .stp, .log, .evt]
  | .evictionCancel .. | .maintClean .. | .maintFlush .. | .maintDrop .. | .maintPreload .. =>
      [.cache, .vbf, .stp]
  | .hbmPatrolStep .. =>
      [.hostLogs, .cache, .wlv, .log, .evt]
  | .pseudoChannelFail .. | .hbmStackFail .. =>
      [.glb, .level, .hostLogs, .cache, .vbf, .stp, .trm, .log, .evt]
  | .vbfBankFence .. =>
      [.level, .hostLogs, .vbf, .log, .evt]
  | .maintDone .. | .writeBackStart .. =>
      [.cache, .vbf]
  | .handoverCutover .. =>
      [.cache]
  | .handoverEnd .. | .handoverAbandon .. =>
      [.level, .hostLogs, .cache, .log, .evt]
  | .stripeGatherTimeout .. =>
      [.hostLogs, .cache, .vbf, .stp, .mst, .hly]
  | .setConfirmed .. =>
      [.glb, .level, .port0, .port1, .hostLogs, .bly, .cache, .vbf, .stp, .wlv, .media, .kce, .hly,
        .log, .evt, .pmu]
  | .dumpComplete .. =>
      [.glb, .level, .hostLogs, .media, .mch, .seq, .log, .evt]
  | .replayStart .. =>
      [.glb, .level, .hostLogs, .wlv, .media, .log, .evt]
  | .replayComplete .. =>
      Part.allBut [.pending, .clock, .access, .latches, .mch, .shr, .mst, .seq, .reef, .clk, .rst,
        .tel, .trm, .dbg]
  | .gapMoveStart .. =>
      [.stp, .wlv]
  | .gapMoveProgramsConfirmed .. | .tier3Start .. =>
      [.stp]
  | .gapSwitch .. =>
      [.stp, .wlv, .media]
  | .leafSectorFlush .. | .wearTreeLoad .. =>
      [.wlv]
  | .wearTreeRepair .. | .poisonReconcile .. =>
      [.hostLogs, .wlv, .log, .evt]
  | .swathRetire .. | .dieRetire .. | .driftClockTick .. | .state .. | .ackTimeout ..
  | .readBurstTimeout .. | .programTimeout .. | .moduleProgramsEnded .. | .moduleFailure ..
  | .moduleRemoval .. =>
      Part.allBut [.pending, .clock, .draws, .access, .latches, .shr, .reef, .clk, .rst, .tel, .trm,
        .sea, .dty, .dbg]
  | .frozenSwathDaily .. | .eventFire .. =>
      [.hostLogs, .log, .evt]
  | .migrationRowConfirmed .. =>
      [.draws, .stp, .wlv, .media]
  | .mediaReadIssue .. =>
      [.port0, .port1, .hostLogs, .bly, .cache, .stp, .wlv, .mch, .hly, .clk, .log, .evt, .pmu]
  | .programResume .. =>
      [.stp, .mch, .pmu]
  | .programStart .. =>
      [.draws, .vbf, .stp, .wlv, .mch, .pmu]
  | .offsetTableReload .. =>
      [.mch, .pmu]
  | .driftClockRestore .. =>
      [.mch]
  | .dualReadCompare .. | .ready .. =>
      [.hostLogs, .stp, .mch, .log, .evt]
  | .prefetchDropTimeout .. =>
      [.port0, .port1, .hostLogs, .bly, .stp]
  | .prefetchDecode .. =>
      [.port0, .port1, .hostLogs, .bly, .cache, .vbf, .stp]
  | .refreshVisit .. =>
      [.draws, .hostLogs, .stp, .wlv, .media, .mch, .tel, .log, .evt, .pmu]
  | .sectorDecode .. =>
      [.draws, .port0, .port1, .hostLogs, .bly, .cache, .stp, .wlv, .mch, .hly, .tel, .log, .evt,
        .pmu]
  | .tier2Reconstruct .. | .readBurst .. =>
      [.port0, .port1, .hostLogs, .bly, .cache, .stp, .wlv, .mch, .hly, .log, .evt, .pmu]
  | .tier3Outcome .. =>
      [.hostLogs, .stp, .wlv, .media, .log, .evt]
  | .poisonListCopy .. =>
      [.wlv, .media]
  | .scrubRowCheck .. =>
      [.hostLogs, .stp, .wlv, .media, .mch, .log, .evt]
  | .ack .. | .quickRetrain .. =>
      [.hostLogs, .mch, .log, .evt]
  | .nack .. | .suspended .. =>
      [.hostLogs, .stp, .mch, .log, .evt, .pmu]
  | .done .. =>
      [.hostLogs, .stp, .media, .mch, .tel, .log, .evt, .pmu]
  | .fail .. =>
      [.hostLogs, .stp, .wlv, .mch, .log, .evt, .pmu]
  | .suspendTimeout .. | .clockWatchdogExpiry .. =>
      Part.allBut [.pending, .clock, .draws, .access, .latches, .shr, .reef, .rst, .tel, .trm, .sea,
        .dty, .dbg]
  | .channelTraining .. =>
      Part.allBut [.pending, .clock, .draws, .access, .latches, .shr, .reef, .clk, .tel, .trm, .sea,
        .dbg]
  | .recentring .. =>
      [.draws, .mch, .log]
  | .moduleAlert .. =>
      Part.allBut [.pending, .clock, .draws, .access, .latches, .shr, .clk, .rst, .tel, .trm, .sea,
        .dty, .dbg]
  | .moduleInsert .. =>
      [.hostLogs, .wlv, .seq, .log, .evt]
  | .moduleAutoAdmit .. =>
      [.hostLogs, .wlv, .media, .mst, .hly, .seq]
  | .rebuildStart .. =>
      [.hostLogs, .stp, .media, .seq, .log, .evt]
  | .rebuildBatchConfirmed .. =>
      [.draws, .glb, .level, .port0, .port1, .hostLogs, .bly, .cache, .vbf, .stp, .wlv, .media,
        .hly, .seq, .log, .evt, .pmu]
  | .shroudEngineFence .. =>
      [.level, .hostLogs, .bly, .shr, .log, .evt]
  | .shrKeyLoad .. =>
      [.glb, .level, .port0, .port1, .hostLogs, .bly, .cache, .vbf, .stp, .wlv, .shr, .kce, .hly,
        .log, .evt, .pmu]
  | .shrKeyZeroize .. =>
      [.shr, .log]
  | .shrKeyErase .. =>
      Part.allBut [.pending, .clock, .access, .latches, .mch, .mst, .seq, .reef, .clk, .rst, .tel,
        .trm, .dty, .dbg]
  | .shrRekeyGo .. | .rekeyEnd .. | .rekeyCut .. =>
      [.hostLogs, .media, .shr, .log, .sea, .evt]
  | .shrRekeyAbort .. =>
      [.shr]
  | .rekeyClaimRow .. =>
      [.hostLogs, .cache, .vbf, .stp, .media, .shr, .mst, .hly]
  | .kceKeyLoad .. | .kceKeyZeroize .. =>
      [.kce, .log]
  | .lockRequest .. | .lockRelease .. | .msgStart .. | .dataInWrite .. | .msgFinish .. | .drbgReseed .. =>
      [.kce]
  | .lockRevoke .. =>
      [.hostLogs, .kce, .log, .evt]
  | .entropyStallTimeout .. | .kceSelfTest .. | .verifyLineFeed .. | .verifyRetire .. =>
      [.hostLogs, .cache, .vbf, .stp, .wlv, .media, .kce, .mst, .hly, .log, .sea, .evt]
  | .sealDrainDone .. | .sealRegistryConfirmed .. =>
      [.hostLogs, .media, .kce, .mst, .hly, .log, .sea, .evt]
  | .sealLineFeed .. =>
      [.hostLogs, .media, .kce, .mst, .hly, .log, .evt]
  | .debugEntry .. =>
      [.hostLogs, .log, .sea, .dty, .evt, .dbg]
  | .debugExit .. =>
      [.hostLogs, .kce, .log, .evt, .dbg]
  | .lockstepMismatch .. =>
      [.hostLogs, .mst, .log, .evt]
  | .configChosen .. | .spareSelfTest .. =>
      [.level, .hostLogs, .mst, .log, .evt]
  | .takeoverResume .. =>
      [.level, .hostLogs, .mst, .hly, .log, .evt]
  | .taskCheckpoint .. | .wdogKick .. =>
      [.mst]
  | .wdogExpiry .. =>
      [.glb, .level, .port0, .port1, .hostLogs, .bly, .cache, .vbf, .stp, .wlv, .mch, .mst, .hly,
        .seq, .rst, .log, .evt, .pmu]
  | .coreReset .. =>
      Part.allBut [.pending, .clock, .draws, .access, .mch, .shr, .reef, .clk, .tel, .dbg]
  | .activationTimeout .. | .mailboxDoorbell .. | .sidebandRequest .. =>
      [.hostLogs, .mst, .hly, .log, .evt]
  | .mbDoneGo .. | .unsupportedCommand .. | .identify .. | .backgroundOperationStatus ..
  | .getEventRecords .. | .getEventInterruptPolicy .. | .getFwInfo .. | .getTimestamp ..
  | .getSupportedLogs .. | .getLog .. | .identifyMemoryDevice .. | .getPartitionInfo ..
  | .getAlertConfiguration .. | .setAlertConfiguration .. | .setShutdownState .. | .getPoisonList ..
  | .getDeviceStatus .. | .getDirtyBudget .. | .getSealRecord .. | .getTrimPlan .. =>
      [.hostLogs, .mst, .hly]
  | .hlyRetireRequest .. =>
      [.mst, .hly]
  | .hlyAbortRequest .. | .requestAbortBackgroundOperation .. =>
      [.hostLogs, .cache, .vbf, .stp, .wlv, .media, .kce, .mst, .hly, .seq, .log, .sea, .evt]
  | .sidebandReassemblyTimeout .. | .setEndpointId .. | .getEndpointId .. | .getMessageTypeSupport .. =>
      [.hly]
  | .getMctpVersionSupport .. =>
      [.draws, .hly]
  | .clearEventRecords .. =>
      [.hostLogs, .mst, .hly, .evt]
  | .setEventInterruptPolicy .. =>
      [.port0, .port1, .hostLogs, .mst, .hly]
  | .transferFw .. | .activateFw .. | .seaChestStore .. =>
      [.hostLogs, .mst, .hly, .log, .sea, .evt]
  | .setTimestamp .. =>
      [.glb, .level, .hostLogs, .mst, .hly]
  | .getHealthInfo .. =>
      [.draws, .hostLogs, .mst, .hly]
  | .getShutdownState .. =>
      [.glb, .level, .port0, .port1, .hostLogs, .bly, .cache, .vbf, .stp, .wlv, .mch, .mst, .hly,
        .seq, .tel, .log, .evt, .pmu]
  | .injectPoison .. =>
      [.draws, .hostLogs, .cache, .vbf, .stp, .wlv, .media, .mst, .hly, .log, .evt]
  | .clearPoison .. =>
      [.hostLogs, .cache, .vbf, .stp, .wlv, .media, .mst, .hly, .log, .evt]
  | .sanitize .. | .secureErase .. =>
      Part.allBut [.pending, .clock, .access, .latches, .mch, .seq, .reef, .clk, .rst, .tel, .trm,
        .dty, .dbg]
  | .setTrimOverride .. | .selfTest .. =>
      [.hostLogs, .mst, .hly, .trm]
  | .reefBudget .. =>
      [.hostLogs, .mst, .hly, .reef]
  | .sealExtent .. =>
      [.hostLogs, .kce, .mst, .hly]
  | .verifyRead .. =>
      [.hostLogs, .kce, .mst, .hly, .log, .sea, .evt]
  | .keyLoad .. =>
      [.glb, .level, .port0, .port1, .hostLogs, .bly, .cache, .vbf, .stp, .wlv, .shr, .kce, .mst,
        .hly, .log, .sea, .evt, .pmu]
  | .keyZeroize .. =>
      [.hostLogs, .shr, .kce, .mst, .hly, .log, .sea, .evt]
  | .rekeyStart .. =>
      [.hostLogs, .media, .shr, .mst, .hly, .log, .sea, .evt]
  | .rekeyAbort .. =>
      [.hostLogs, .shr, .mst, .hly]
  | .logbookSnapshot .. | .clearRetire .. =>
      [.hostLogs, .mst, .hly, .log]
  | .logbookClear .. =>
      [.hostLogs, .mst, .hly, .log, .dty, .evt]
  | .moduleRetire .. =>
      [.level, .hostLogs, .bly, .stp, .media, .mst, .hly, .seq, .log, .evt]
  | .moduleAdmit .. =>
      [.hostLogs, .wlv, .media, .mst, .hly, .seq, .log, .evt]
  | .pmuGrant .. =>
      [.hostLogs, .mst, .hly, .pmu]
  | .formatMediaSet .. =>
      Part.allBut [.pending, .clock, .access, .latches, .mch, .reef, .clk, .rst, .tel, .trm, .dty,
        .dbg]
  | .railWarning .. | .overVoltage .. | .unresponsiveRetry .. | .controllerTemperatureWarning .. =>
      [.hostLogs, .seq, .log, .evt]
  | .railFault .. | .shutdownRequest .. | .overTemperature .. =>
      [.glb, .level, .port0, .port1, .hostLogs, .bly, .cache, .vbf, .stp, .wlv, .mch, .hly, .seq,
        .tel, .log, .evt, .pmu]
  | .inputStable .. | .rampRetry .. | .resetHoldOffDone .. =>
      Part.allBut [.pending, .clock, .draws, .access, .media]
  | .powerFailWarning .. =>
      Part.allBut [.pending, .clock, .draws, .access, .latches, .media, .shr, .kce, .reef, .trm,
        .sea]
  | .strikePoint .. =>
      [.glb, .level, .media, .mch, .seq]
  | .resumeQualified .. | .statusWordPoll .. | .resetStretchEnd .. =>
      [.seq]
  | .abandonConfirmed .. =>
      Part.allBut [.pending, .clock, .draws, .access, .latches, .shr, .reef, .clk, .trm, .sea, .dty,
        .dbg]
  | .railDisableStep .. | .rampRailFail .. =>
      [.glb, .level, .port0, .port1, .hostLogs, .mch, .mst, .seq, .clk, .rst, .dty, .dbg]
  | .railInWindow .. =>
      Part.allBut [.pending, .clock, .draws, .access, .latches, .media, .shr, .mst, .reef, .clk,
        .trm, .sea, .dbg]
  | .powerdownRailFail .. =>
      [.mch, .seq, .dty]
  | .busTransactionError .. | .busRetry .. =>
      [.level, .hostLogs, .mst, .hly, .seq, .log, .evt]
  | .busClearRetry .. =>
      [.level, .hostLogs, .seq, .log, .evt]
  | .moduleTempRead .. =>
      [.glb, .level, .port0, .port1, .hostLogs, .bly, .cache, .vbf, .stp, .wlv, .kce, .hly, .seq,
        .log, .evt, .pmu]
  | .reefRequest .. | .reefArbiterFail .. =>
      [.hostLogs, .reef, .log, .evt]
  | .reefGrant .. | .permitRelease .. | .reefLevelRaise .. | .moduleCapRestore .. =>
      [.reef]
  | .xtalLost .. | .xtalReturn .. | .refclkLost .. | .refclkRecovered .. | .holdoverExpiry ..
  | .dpllLockLoss .. =>
      [.level, .hostLogs, .clk, .log, .evt]
  | .rcTrim .. | .sleepEvaluate .. | .scheduledWake .. =>
      [.clk]
  | .dpllRelock .. | .mpllRelock .. =>
      [.glb, .level, .port0, .port1, .hostLogs, .bly, .cache, .vbf, .stp, .wlv, .mch, .hly, .seq,
        .clk, .rst, .log, .evt, .pmu]
  | .mpllLockLoss .. =>
      [.level, .hostLogs, .mst, .clk, .log, .evt]
  | .wakeLate .. =>
      [.draws, .hostLogs, .clk, .log, .evt]
  | .aonPowerOnDetect .. =>
      Part.allBut [.pending, .clock, .draws, .access]
  | .porAssert .. | .sysResetRequest .. | .coreResetRequest .. =>
      [.glb, .level, .port0, .port1, .hostLogs, .bly, .cache, .vbf, .stp, .wlv, .mch, .hly, .seq,
        .rst, .log, .evt, .pmu]
  | .domainRelease .. =>
      [.port0, .port1, .hostLogs, .mst, .clk, .rst, .dty]
  | .arrayFillDone .. =>
      [.glb, .level, .hostLogs, .bly, .cache, .vbf, .stp, .rst, .trm, .log, .dty, .evt]
  | .firmwareBoot .. =>
      Part.allBut [.pending, .clock, .access, .latches, .mch, .clk]
  | .holdupMeasureStart .. | .holdupGo .. =>
      [.tel]
  | .holdupMeasureEnd .. =>
      [.glb, .level, .port0, .port1, .hostLogs, .bly, .cache, .vbf, .stp, .wlv, .kce, .hly, .tel,
        .trm, .log, .dty, .evt, .pmu]
  | .trimPlanCompute .. =>
      [.glb, .level, .port0, .port1, .hostLogs, .bly, .cache, .vbf, .stp, .wlv, .kce, .hly, .reef,
        .tel, .trm, .log, .evt, .pmu]
  | .planStale .. | .ticketCoverTimeout .. =>
      [.trm]
  | .pathMonitorSample .. =>
      [.draws, .tel, .log]
  | .selfTestSliceStart .. =>
      [.cache, .kce, .tel, .trm]
  | .selfTestSliceEnd .. =>
      Part.allBut [.pending, .clock, .draws, .access, .latches, .clk, .rst, .tel, .dty, .dbg]
  | .sliceFaultEnd .. =>
      Part.allBut [.pending, .clock, .draws, .access, .latches, .clk, .rst, .dty, .dbg]
  | .hbmRecalibration .. =>
      [.cache, .reef]
  | .logRecordWrite .. | .chainStallTimeout .. =>
      [.hostLogs, .log, .dty, .evt]
  | .logWrGo .. | .archiveCopy .. | .snapshotReleaseTimeout .. =>
      [.log]
  | .chainWrite .. =>
      [.log, .dty]
  | .blockCounterAdvance .. | .logbookRestore .. | .recordStore .. | .backgroundErase ..
  | .counterIncrement .. | .counterRefill .. | .seaChestSettle .. =>
      [.hostLogs, .log, .sea, .evt]
  | .recordWithdraw .. =>
      [.sea]
  | .rawProgram .. | .rawErase .. =>
      [.hostLogs, .mst, .log, .sea, .evt]
  | .eventCoalesceFlush .. =>
      [.log, .evt]
  | .bucketLeak .. | .alertHoldExpiry .. =>
      [.evt]
  | .mstFifoRead .. | .addrTabHiRead .. | .lowWordRead .. =>
      [.access, .latches, .mch, .clk, .evt]
  | .addrTabClear .. =>
      [.access, .mch, .clk]
  | .pmuCycleCount .. =>
      [.clock, .draws, .glb, .level, .hostLogs, .seq, .tel, .log, .evt, .pmu]
  | .pmuFreeze .. | .pmuClear .. =>
      [.access, .clk, .pmu]
  | .timeHiWrite .. =>
      [.access, .latches, .glb, .level, .clk]
  | .lockSet .. | .registerWrite .. =>
      Part.allBut [.pending, .clock, .trm, .dbg]
  | .hostWindowRead .. =>
      [.draws, .access, .latches, .mch, .clk, .evt]
  | .linkUp .. =>
      [.level, .port0, .port1, .hostLogs, .log, .evt]
  | .hbmStackTemperature .. =>
      [.hostLogs, .cache, .log, .evt]
  | .dailySummary .. =>
      [.hostLogs, .tel, .log, .evt]
  | .holdupBootTimeout .. =>
      [.glb, .level, .port0, .port1, .hostLogs, .bly, .cache, .vbf, .stp, .wlv, .kce, .hly, .tel,
        .log, .dty, .evt, .pmu]

end Sys2Proof.Machine
end

