-- ==== Sys2Proof/Certificates/Slice0/Obligations.lean ====
section
/-! DEFINITION. The statements about the block for the provers, one definition each: what a command does
from its rule of the specification, what it leaves alone, and the rules of the whole block. A clause that
begins with `Completes` says that the command answers a next state, and what that state holds. -/

open Sys2Proof Sys2Proof.Machine


/-- A step takes the command at the front of the queue and carries it out on the state with the queue's rest; the
block idles on an empty queue (log entry 1, the model's choice). -/
def Obligations.StepRunsTheFrontCommand : Prop :=
  (∀ (c : Instr) (s : State), step { s with pending := c :: s.pending } = exec c s) ∧
    ∀ s : State, s.pending = [] → step s = .next s

/-- What reset leaves where the specification gives the value: the level reads Out of service (R24), every belay entry
is FREE and all 8,192 are in service (BLY.STATUS), the victim buffer is empty, no Shroud slot and no KCE register
holds a key, no event is pending, the sequencer is in DOWN with every rail off, the reset cause is PON from the
power-on detector, and the thresholds of HPn.DEVLOAD_CFG are 0xD0, 0xA0 and 0x40. -/
def Obligations.ResetLeavesTheStatedValues : Prop :=
  State.reset.glb.level = .outOfService ∧ State.reset.bly.entries = [] ∧
    State.reset.bly.fenced = 0#8 ∧ State.reset.vbf.entries = [] ∧
    (∀ i, (State.reset.keySlot i).state = .empty) ∧ State.reset.kce.loaded = 0#8 ∧
    (∀ i, (State.reset.src i).pending = false) ∧ State.reset.evt.fifo = [] ∧
    State.reset.seq.state = .down ∧ State.reset.seq.railsEn = 0#7 ∧ State.reset.rst.level = .pon ∧
    State.reset.rst.source = 0x01#5 ∧
    (∀ p, (State.reset.port p).severe = 0xD0#8 ∧ (State.reset.port p).moderate = 0xA0#8 ∧
      (State.reset.port p).optimal = 0x40#8 ∧ (State.reset.port p).linkUp = false ∧
      (State.reset.port p).decoders = [])

/-- No command changes a part of the block outside its own parts (`footprint`): the queue of commands among them,
which no command touches. -/
def Obligations.CommandsChangeTheirPartsOnly : Prop :=
  ∀ (c : Instr) (s t : State), exec c s = .next t →
    (∀ p ∉ footprint c, s.agree t p) ∧ t.pending = s.pending

/-- Every well-formed command completes on every state, but for a register write of the debug path, which may meet a
factory register (R425); an ill-formed command either completes or stops as ill formed. -/
def Obligations.WellFormedCommandsComplete : Prop :=
  ∀ (c : Instr) (s : State),
    (c.wf = true → (∃ t, exec c s = .next t) ∨
      ∃ a d, c = .registerWrite .debug a d ∧ exec c s = .refused .factoryRegister) ∧
    (c.wf = false → (∃ t, exec c s = .next t) ∨ exec c s = .fault .illFormed)

/-- A request that the port takes, met by no request waiting before it, becomes a belay entry with the next place in
the acceptance order (R30, R55, R57), for each of the served M2S opcodes. A MemSpecRd that R33 does not carry in is
dropped: no belay entry, no message, its credit returned. -/
def Obligations.RequestsEnterTheBelayTableOrAreDropped : Prop :=
  (∀ (p : Port) (hpa : BitVec 52) (s : State),
    (∀ op err, s.canReceive p false → s.takes p (s.hostReq p .rd hpa.toNat 0#512 0#64 false err) →
      Completes (.memRd p op hpa err) s fun t => t.bly.nextOrder = s.bly.nextOrder + 1) ∧
    (∀ nt, s.canReceive p false → s.takes p (s.hostReq p .inv hpa.toNat 0#512 0#64 false .none) →
      Completes (.memInv p nt hpa) s fun t =>
        t.bly.nextOrder = s.bly.nextOrder + 1 ∧
          ((∀ e ∈ s.bly.entries, e.2.st ≠ .wait) → t.cache = s.cache ∧ t.vbf = s.vbf)) ∧
    (s.canReceive p false → s.takes p (s.hostReq p .spec hpa.toNat 0#512 0#64 false .none) →
      s.specAllowed p →
      Completes (.memSpecRd p hpa) s fun t => t.bly.nextOrder = s.bly.nextOrder + 1) ∧
    (∀ data poison, s.canReceive p true →
      s.takes p (s.hostReq p .wr hpa.toNat data allBytes poison .none) →
      Completes (.memWr p hpa data poison) s fun t => t.bly.nextOrder = s.bly.nextOrder + 1) ∧
    (∀ data en poison, s.canReceive p true →
      s.takes p (s.hostReq p .wrPtl hpa.toNat data en poison .none) →
      Completes (.memWrPtl p hpa data en poison) s fun t => t.bly.nextOrder = s.bly.nextOrder + 1)) ∧
  (∀ (p : Port) (hpa : BitVec 52) (s : State), s.canReceive p false → s.clk.dpStopped = false →
    (s.port p).ingressReq = [] → (s.port p).ingressRwd = [] → ((s.port p).dpa hpa.toNat).isSome →
    s.specAllowed p = false →
    Completes (.memSpecRd p hpa) s fun t =>
      t.bly = s.bly ∧ (t.port p).answers = (s.port p).answers ∧ (t.port p).reqUsed = (s.port p).reqUsed ∧
        t.stp = s.stp ∧ t.cache = s.cache)

/-- A read whose line is valid in a slice in service, met by no earlier write in flight and by no error, is answered
from the cache with the line's data and its poison (R30, R66). A write lands on the block that holds its line as Table
CACHE-5 states (R78): a full line leaves it Dirty-full with the written bytes, an enabled write merges its bytes; the
write is answered in the same step and its reservation returned (R99, R104). -/
def Obligations.CacheHitsReadAndWriteAsTheTableStates : Prop :=
  (∀ (p : Port) (op : RdOp) (hpa : BitVec 52) (s : State) (a k key : Nat),
    s.canReceive p false → s.takes p (s.hostReq p .rd hpa.toNat 0#512 0#64 false .none) →
    (s.port p).dpa hpa.toNat = some a → s.freshBelay = some k →
    (∀ e ∈ s.bly.entries, e.2.req.dpa / 64 ≠ a / 64) →
    s.cached (sliceHash (lsnOf a)) = true → s.bypassed (sliceHash (lsnOf a)) = false →
    s.findWay (lsnOf a) = some key → ((s.way key).lines.get (lineOf a)).valid = true →
    Completes (.memRd p op hpa .none) s fun t =>
      (∃ b, Sparse.find t.bly.entries k = some b ∧ b.st = .respond ∧
        b.data = (s.way key).data.get (lineOf a) ∧
        b.respPoison = bitOf (s.way key).poison (lineOf a)) ∧ t.cache.ways = s.cache.ways) ∧
  (∀ (p : Port) (hpa : BitVec 52) (data : Line) (en : Mask) (s : State) (a k key : Nat),
    s.canReceive p true → (s.port p).dpa hpa.toNat = some a → s.freshBelay = some k →
    (s.port p).viral = false → s.glb.level ≠ .barePoles → s.cached (sliceHash (lsnOf a)) = true →
    s.findWay (lsnOf a) = some key → s.wayServes (sliceOfKey key) (key % 16) = true →
    (∀ e ∈ s.bly.entries, e.2.st ≠ .wait) →
    (s.takes p (s.hostReq p .wr hpa.toNat data allBytes false .none) →
      Completes (.memWr p hpa data false) s fun t =>
        (t.way key).lines.get (lineOf a) = .dirtyFull ∧ (t.way key).data.get (lineOf a) = data ∧
          (∃ b, Sparse.find t.bly.entries k = some b ∧ b.st = .respond) ∧
          t.glb.reserved = s.glb.reserved) ∧
    (s.takes p (s.hostReq p .wrPtl hpa.toNat data en false .none) →
      Completes (.memWrPtl p hpa data en false) s fun t =>
        (let old := (s.way key).lines.get (lineOf a)
         (old = .invalid → (t.way key).lines.get (lineOf a) = .dirtyPartial ∧
            (t.way key).mask.get (lineOf a) = en) ∧
          (old.valid = true → (t.way key).lines.get (lineOf a) = .dirtyFull) ∧
          (old ≠ .invalid → (t.way key).data.get (lineOf a) =
            mergeBytes en data ((s.way key).data.get (lineOf a)))) ∧
          (∃ b, Sparse.find t.bly.entries k = some b ∧ b.st = .respond) ∧
          t.glb.reserved = s.glb.reserved))

/-- An unsupported opcode is answered by the port (R31): all ones with Poison for a read, Cmp for a write that is
discarded; the RAS status is set with the header of the first such flit; a WARN record is written; neither the belay
table nor the cache is touched. A response flit starts once its S2M credit is there (R34, R38, R59): the built
response of a belay entry goes out with the DevLoad in force and takes one credit; an answer of the port itself goes
out in its order; without a credit nothing is sent. -/
def Obligations.PortAnswersAndResponsesTakeTheirCredit : Prop :=
  (∀ (p : Port) (rwd : Bool) (header : BitVec 128) (s : State), s.canReceive p rwd →
    s.clk.dpStopped = false → (s.port p).ingressReq = [] → (s.port p).ingressRwd = [] →
    Completes (.unsupportedRequest p rwd header) s fun t =>
      (t.port p).answers = (s.port p).answers ++ [⟨!rwd, BitVec.allOnes 512, !rwd, 0#2, rwd⟩] ∧
        (t.port p).rasUncorrectable = true ∧
        ((s.port p).rasUncorrectable = false → (t.port p).rasHeader = header) ∧
        t.fired (1016 + 20 * portIdx p) .warn ∧ t.bly = s.bly ∧ t.cache = s.cache ∧ t.media = s.media) ∧
  (∀ (p : Port) (n d : Nat) (s : State), (s.port p).carriesMem →
    (∀ i b, Sparse.find s.bly.entries i = some b → b.st = .respond → b.port = p → b.req.op = .rd →
      0 < (s.port p).drsCredits + d →
      Completes (.responseSend p (.belay i) n d) s fun t =>
        (t.port p).lastSent = some ⟨true, b.data, b.respPoison, (s.port p).devload, false⟩ ∧
          (t.port p).drsCredits = (s.port p).drsCredits + d - 1 ∧
          (t.port p).ndrCredits = (s.port p).ndrCredits + n) ∧
    (∀ a rest, (s.port p).answers = a :: rest → a.isData = true → 0 < (s.port p).drsCredits + d →
      Completes (.responseSend p .answer n d) s fun t =>
        (t.port p).answers = rest ∧ t.bly = s.bly ∧
          (t.port p).lastSent = some ⟨true, a.data, a.poison, (s.port p).devload, a.rwd⟩ ∧
          (t.port p).drsCredits = (s.port p).drsCredits + d - 1) ∧
    (∀ a rest, (s.port p).answers = a :: rest → a.isData = false → (s.port p).ndrCredits + n = 0 →
      Completes (.responseSend p .answer n d) s fun t =>
        (t.port p).answers = (s.port p).answers ∧ (t.port p).lastSent = (s.port p).lastSent))

/-- A decoder commit (R36, R37): a locked decoder keeps its settings; otherwise the settings stand committed exactly
where R36 holds, and where it does not Error Not Committed is set and the source of commit errors fires; no other
decoder changes. Viral (R35): the port reads viral and its source fires at CRITICAL; in multipath mode the other port
enters the state in the same cycle, otherwise it is not affected; no memory content changes. A port that fails (R43,
R44): its link and CXL.mem are gone, its unaccepted requests are discarded, and its path is lost until it has CXL.mem
again; then, in multipath mode, the surviving port's path-restored source fires at NOTE. A surprise down fires its own
source at FAULT. -/
def Obligations.DecodersViralAndPortFailureKeepTheirReach : Prop :=
  (∀ (p : Port) (d : Fin 4) (c : HdmConfig) (s : State),
    Completes (.hdmDecoderCommit p d c) s fun t =>
      let old := Sparse.get Decoder.reset (s.port p).decoders d.val
      (old.committed = true → old.lockOnCommit = true → t = s) ∧
        ((old.committed && old.lockOnCommit) = false →
          Sparse.find (t.port p).decoders d.val =
              some ⟨s.commitOk p d.val c, c.lockOnCommit, !s.commitOk p d.val c, c.base, c.size, c.skip,
                c.ways, c.granularity⟩ ∧
            (s.commitOk p d.val c = false → t.fired (portSrc p 11) .warn)) ∧
        ∀ j, j ≠ d.val → Sparse.find (t.port p).decoders j = Sparse.find (s.port p).decoders j) ∧
  (∀ (p : Port) (s : State), (s.port p).linkUp = true →
    Completes (.viral p) s fun t =>
      (t.port p).viral = true ∧
        ((s.port p).viral = false → t.fired (portSrc p 3) .critical) ∧
        (t.port (portOther p)).viral = (s.multipath || (s.port (portOther p)).viral) ∧
        t.cache = s.cache ∧ t.media = s.media) ∧
  (∀ (p : Port) (s : State),
    (∀ how, (s.port p).linkUp = true →
      Completes (.portFail p how) s fun t =>
        (t.port p).linkUp = false ∧ (t.port p).memEnabled = false ∧ (t.port p).ingressReq = [] ∧
          (t.port p).ingressRwd = [] ∧
          t.fired (portSrc p (if how = .surpriseDown then 7 else 1)) .fault ∧
          ((s.port p).memEnabled = true → (t.port p).pathLost = true) ∧
          t.cache = s.cache ∧ t.media = s.media) ∧
    ((s.port p).pathLost = true → (s.port p).memEnabled = true → s.multipath = true →
      (s.port (portOther p)).memEnabled = true →
      Completes (.pathRestored p) s fun t =>
        (t.port p).pathLost = false ∧ t.fired (portSrc (portOther p) 9) .note))

/-- DevLoad (R40): Table PORT-4 chooses it from L and the three thresholds; the value rises as soon as L crosses its
threshold, and falls only after L has stayed at least 0x10 below the threshold of the value sent for 4 µs; outside the
admitted-load conditions it is Severe Overload whatever L is. A window's end clears the window's counts. -/
def Obligations.DevloadRisesAtOnceAndFallsLate : Prop :=
  (∀ (p : Port) (s : State) (x : PortState) (l cur c : Nat), x = s.port p → l = s.loadIndex p →
    cur = x.devload.toNat →
    c = (if x.severe.toNat ≤ l then 3 else if x.moderate.toNat ≤ l then 2
      else if x.optimal.toNat ≤ l then 1 else 0) →
    x.memEnabled = true →
    (s.admitNow p ≠ 0#5 → Completes (.devloadUpdate p) s fun t => (t.port p).devload = 3#2) ∧
    (s.admitNow p = 0#5 →
      (cur < c → Completes (.devloadUpdate p) s fun t => (t.port p).devload.toNat = c) ∧
      (c = cur → Completes (.devloadUpdate p) s fun t => (t.port p).devload = x.devload) ∧
      (c < cur →
        (x.threshold cur < l + 0x10 → Completes (.devloadUpdate p) s fun t =>
          (t.port p).devload = x.devload ∧ (t.port p).devloadBelow = none) ∧
        (l + 0x10 ≤ x.threshold cur →
          (x.devloadBelow = none → Completes (.devloadUpdate p) s fun t =>
            (t.port p).devload = x.devload ∧ (t.port p).devloadBelow = some s.clock) ∧
          ∀ t₀, x.devloadBelow = some t₀ →
            (s.clock < t₀ + us 4 → Completes (.devloadUpdate p) s fun t =>
              (t.port p).devload = x.devload ∧ (t.port p).devloadBelow = some t₀) ∧
            (t₀ + us 4 ≤ s.clock → Completes (.devloadUpdate p) s fun t =>
              (t.port p).devload.toNat = c))))) ∧
  ∀ (p : Port) (s : State), Completes (.admitWindowExpiry p) s fun t =>
    (t.port p).winReads = 0 ∧ (t.port p).winMisses = 0 ∧ (t.port p).winWrites = 0 ∧
      (t.port p).winSameLine = false

/-- PERST_N, hot reset and CXL Reset (R52): the port's link, decoders, event logs and viral state are cleared and its
mailboxes are idle; the other port keeps its link and its decoders; no stored line changes. A function level reset
clears the mailboxes alone and leaves CXL.mem as it is. Link training (R27, R47, R53): training starts 20 ms after
PERST_N and after the release from SYS, at the rate and width that failures leave (below 32 GT/s the model stops at
16, log entry 22); a link that comes up carries CXL.mem exactly at 32 GT/s or more, ×4 or wider, in 256 B flit mode
and with agreeing modes, and otherwise its CXL.mem-withheld source fires. Fewer than 256 S2M credits are noted at WARN
(R39). -/
def Obligations.PortResetsAndTrainingDecideCxlMem : Prop :=
  (∀ (p : Port) (s : State) (c : Instr),
    (c = .perstAssert p ∨ (s.port p).linkUp = true ∧ (c = .hotReset p ∨ c = .cxlReset p) →
      Completes c s fun t =>
        (t.port p).linkUp = false ∧ (t.port p).decoders = [] ∧ (t.port p).logs = [] ∧
          (t.port p).viral = false ∧ (t.mb (2 * portIdx p)).st = .idle ∧
          (t.mb (2 * portIdx p + 1)).st = .idle ∧
          (t.port (portOther p)).linkUp = (s.port (portOther p)).linkUp ∧
          (t.port (portOther p)).decoders = (s.port (portOther p)).decoders) ∧
    (c = .functionLevelReset p → (s.port p).linkUp = true →
      Completes c s fun t =>
        (t.mb (2 * portIdx p)).st = .idle ∧ (t.mb (2 * portIdx p + 1)).st = .idle ∧
          (t.port p).linkUp = true ∧ (t.port p).memEnabled = (s.port p).memEnabled ∧
          (t.port p).decoders = (s.port p).decoders)) ∧
  (∀ (p : Port) (s : State),
    (∀ fails lanes, (s.port p).linkUp = false → (s.port p).released = true → (s.port p).enabled = true →
      s.elapsed (s.port p).perstAt (ms 20) = true → s.elapsed (s.port p).releasedAt (ms 20) = true →
      Completes (.linkTrainingStart p fails lanes) s fun t =>
        (t.port p).training = true ∧
          (t.port p).rateCap.toNat = max 4 ((s.port p).rateLimit - fails) ∧
          (t.port p).widthCap.toNat = min (s.port p).widthLimit (LinkWidth.code lanes)) ∧
    (∀ rate width flit lat ndr drs, (s.port p).training = true →
      LinkRate.code rate ≤ (s.port p).rateCap.toNat → LinkWidth.code width ≤ (s.port p).widthCap.toNat →
      Completes (.linkUp p rate width flit lat ndr drs) s fun t =>
        (t.port p).linkUp = true ∧ (t.port p).training = false ∧
          (t.port p).memEnabled = (linkCarriesMem rate width flit && !s.modesConflict) ∧
          t.fired (portSrc p 0) .note ∧
          ((t.port p).memEnabled = false →
            t.fired (portSrc p 13) (if s.modesConflict then .critical else .fault)) ∧
          (ndr < 256 ∨ drs < 256 → t.fired (portSrc p 10) .warn)))

/-- Link errors and margining (R47, R49, R50): an entry to Recovery is counted, saturating at 0xFFFF; a flit CRC
failure and a replay timeout set their AER status and change no rate; margining is kept in L0 at 32 GT/s and above, a
host command on a lane standing in the way of the device's own scan. Link power and flush (R48, R101, R343): L0p
follows the flit-slot use of the last 10 µs; ASPM L1 is asked for only after 100 µs without a request and where
CLK.SLEEP_CTRL allows it; a host's own change is always accepted; L1 exit returns to L0. GPF phase 1 moves no data and
completes at once, phase 2 once every write accepted before it has been acknowledged. -/
def Obligations.LinkErrorsPowerAndFlushFollowTheirRules : Prop :=
  (∀ (p : Port) (s : State), (s.port p).linkUp = true →
    Completes (.recoveryEntry p) s (fun t =>
      (t.port p).recoveryCount = min 0xFFFF ((s.port p).recoveryCount + 1) ∧ (t.port p).linkUp = true) ∧
    Completes (.flitCrcFail p) s (fun t =>
      (t.port p).aerReceiver = true ∧ (t.port p).rate = (s.port p).rate) ∧
    (∀ rollover, Completes (.replayTimerTimeout p rollover) s fun t =>
      (t.port p).aerReplay = true ∧
        (t.port p).recoveryCount =
          if rollover then min 0xFFFF ((s.port p).recoveryCount + 1) else (s.port p).recoveryCount) ∧
    (∀ step mv, (s.port p).margins = true → (s.port p).hostMarginLane = none →
      Completes (.laneMarginScan p step mv) s fun t =>
        (t.port p).marginTiming = step ∧ (t.port p).marginVoltage = mv ∧
          (t.port p).pm = (s.port p).pm) ∧
    (∀ lane done, (s.port p).margins = true →
      Completes (.hostMarginCommand p lane done) s fun t =>
        (t.port p).hostMarginLane = if done then none else some lane)) ∧
  (∀ (p : Port) (s : State), (s.port p).linkUp = true →
    (∀ use, use ≤ 100 → (s.port p).l0pEn = true → (s.port p).pm ≠ .l1 →
      Completes (.l0pNarrow p use) s fun t =>
        (use < 20 → 3 ≤ (s.port p).width.toNat → (t.port p).pm = .l0p .x4) ∧
          (60 < use → (t.port p).pm = .l0) ∧ (40 ≤ use → use ≤ 60 → (t.port p).pm = (s.port p).pm)) ∧
    (s.clk.portL1En = true → s.portQuiet p = true →
      Completes (.aspmL1Request p) s fun t => (t.port p).pm = .l1) ∧
    (∀ w, Completes (.hostL1Entry p .l1) s (fun t => (t.port p).pm = .l1) ∧
      Completes (.hostL1Entry p (.l0p w)) s fun t => (t.port p).pm = pmOfWidth w) ∧
    ((s.port p).pm = .l1 →
      Completes (.l1Exit p) s fun t =>
        (t.port p).pm = .l0 ∧ ((s.port p).memEnabled = true → (t.dom 2).state = .trim)) ∧
    Completes (.gpfPhase1 p) s (fun t =>
      (t.port p).gpf1Done = true ∧ t.cache = s.cache ∧ t.vbf = s.vbf ∧ t.media = s.media) ∧
    ((s.port p).gpf2Order = none →
      (∃ e ∈ s.bly.entries, e.2.order < s.bly.nextOrder ∧ e.2.reserves ≠ 0 ∧ e.2.st ≠ .respond) →
      Completes (.gpfPhase2 p) s fun t => (t.port p).gpf2Done = (s.port p).gpf2Done) ∧
    ((∀ e ∈ s.bly.entries, e.2.reserves = 0 ∨ e.2.st = .respond) →
      Completes (.gpfPhase2 p) s fun t => (t.port p).gpf2Done = true))

/-- Byte enables and fills touch no byte they do not name (R61, R62, R78, R79): a merge takes the enabled bytes of the
new line and keeps the others; a fill leaves a Clean and a Dirty-full line untouched, keeps the masked bytes of a
Dirty-partial line, and never clears a poison bit. Merge reads and sets (R108, R109): the entry's tracker takes its
own bytes over the media bytes, and where the sector cannot be confirmed the lines that needed media are entered as
lost at CRITICAL; a set leaves STP once all its programs are confirmed. -/
def Obligations.MergesFillsAndSetsKeepTheirBytes : Prop :=
  ((∀ (m : Mask) (new old : Line) (i : Nat), i < 512 →
    (mergeBytes m new old).getLsbD i = if m.getLsbD (i / 8) then new.getLsbD i else old.getLsbD i) ∧
  ∀ (w : Way) (plain : Four Line) (poison : BitVec 4) (i : Nat), i < 4 →
    ((w.lines.get i).valid = true →
      (w.fill plain poison).lines.get i = w.lines.get i ∧
        (w.fill plain poison).data.get i = w.data.get i) ∧
    (w.lines.get i = .dirtyPartial → (w.fill plain poison).lines.get i = .dirtyFull ∧
      ∀ j < 512, (w.mask.get i).getLsbD (j / 8) = true →
        ((w.fill plain poison).data.get i).getLsbD j = (w.data.get i).getLsbD j) ∧
    (w.lines.get i = .invalid → (w.fill plain poison).lines.get i = .clean ∧
      (w.fill plain poison).data.get i = plain.get i) ∧
    (bitOf w.poison i = true → bitOf (w.fill plain poison).poison i = true)) ∧
  ((∀ (idx id : Nat) (ok : Bool) (v : Victim) (r : ReadOp) (s : State),
    Sparse.find s.vbf.entries idx = some v → v.merging = some id → Sparse.find s.stp.reads id = some r →
    r.belays = [] →
    Completes (.mergeReadComplete idx ok) s fun t =>
      Sparse.find t.vbf.entries idx =
          some (v.merged (s.decrypt v.lsn (s.cell v.lsn)) (s.cell v.lsn).poison ok) ∧
        (ok = false → t.fired 1212 .critical)) ∧
  ∀ (id : Nat) (x : StripeSet) (s : State), Sparse.find s.stp.sets id = some x → x.sent = true →
    x.outstanding = [] → id < s.stp.nextSet →
    Completes (.setConfirmed id) s fun t => Sparse.find t.stp.sets id = none)

/-- Fences (R16, R58, R89): a failing belay bank, parity engine or victim bank is fenced and its source fires at
FAULT; a fenced victim bank marks its HELD and QUEUED entries for rebuilding and leaves its ISSUED ones; the rebuild's
end fires its own source. A built response of the reissue queue takes the free entry first. HBM (R83 to R85, R21):
patrol takes one block after the other and counts what the code corrected; a failed pseudo-channel takes its stack
with it while both serve and is fenced by itself in a stack serving alone; a failed stack leaves service, at FAULT, or
at CRITICAL when it was the last one. Slices (R95 to R98): a failed slice serves nothing more, and the idle spare
serves its logical slice; at a planned cutover the logical slice passes to the incoming slice, the handover ends when
the outgoing one holds no entry, and is abandoned at NOTE after 100 µs, routing returning. -/
def Obligations.FencesAndFailuresKeepWhatIsInFlight : Prop :=
  ((∀ (b : Fin 8) (s : State), bitOf s.bly.fenced b.val = false →
    (∀ e ∈ s.bly.entries, e.2.st ≠ .lookup) →
    Completes (.belayBankFence b) s fun t =>
      t.bly.fenced = setBit s.bly.fenced b.val true ∧ t.fired (1052 + b.val) .fault) ∧
  (∀ (s : State) (b : Belay) (rest : List Belay) (k : Nat), s.bly.reissue = b :: rest →
    s.freshBelay = some k → b.st ≠ .lookup → (∀ e ∈ s.bly.entries, e.2.st ≠ .lookup) →
    Completes .belayReissue s fun t =>
      Sparse.find t.bly.entries k = some b ∧ t.bly.reissue = rest) ∧
  (∀ (e : Fin 2) (s : State), bitOf s.stp.parityFailed e.val = false →
    Completes (.parityEngineFail e) s fun t =>
      t.stp.parityFailed = setBit s.stp.parityFailed e.val true ∧ t.fired (1205 + e.val) .fault ∧
        t.stp.sets = s.stp.sets) ∧
  (∀ (b : Fin 8) (s : State), bitOf s.vbf.fenced b.val = false →
    Completes (.vbfBankFence b) s fun t =>
      t.vbf.fenced = setBit s.vbf.fenced b.val true ∧ t.fired (1196 + b.val) .fault ∧
        ∀ i v, Sparse.find s.vbf.entries i = some v → Sparse.find t.vbf.entries i =
          some (if i / 4096 = b.val ∧ v.st ≠ .issued then { v with rebuilding := true } else v)) ∧
  (∀ (b : Fin 8) (s : State), bitOf s.vbf.rebuilding b.val = true →
    (∀ e ∈ s.bly.entries, e.2.st ≠ .lookup) →
    Completes (.vbfRebuildComplete b) s fun t =>
      bitOf t.vbf.rebuilding b.val = false ∧ t.fired 1204 .note)) ∧
  ((∀ (n : Slice) (err : CacheErr) (corrected ls : Nat) (s : State),
    (s.slice n.val).serves = some ls →
    Completes (.hbmPatrolStep n err corrected) s fun t =>
      (t.slice n.val).patrolPtr = ((s.slice n.val).patrolPtr + 1) % 10485760 ∧
        (t.slice n.val).corrected = min 0xFFFF ((s.slice n.val).corrected + corrected)) ∧
  (∀ (k : Stack) (pc : Fin 32) (s : State), s.pcOk k.val pc.val = true →
    Completes (.pseudoChannelFail k pc) s fun t =>
      (s.cache.stackOk = 0b11#2 → bitOf t.cache.stackOk k.val = false ∧
          bitOf t.cache.stackFailed k.val = true) ∧
        (s.cache.stackOk ≠ 0b11#2 → t.cache.stackOk = s.cache.stackOk ∧
          bitOf t.cache.pcFenced (k.val * 32 + pc.val) = true ∧
          t.fired (1132 + 32 * k.val + pc.val) .fault)) ∧
  (∀ (k : Stack) (s : State), bitOf s.cache.stackOk k.val = true →
    Completes (.hbmStackFail k) s fun t =>
      t.cache.stackOk = setBit s.cache.stackOk k.val false ∧
        bitOf t.cache.stackFailed k.val = true ∧ t.trm.due = true ∧
        t.fired (1132 + 32 * k.val)
          (if setBit s.cache.stackOk k.val false = 0#2 then .critical else .fault))) ∧
  ((∀ (n : Slice) (ls : Nat) (s : State), (s.slice n.val).role ≠ .failed →
    (s.slice n.val).serves = some ls → n.val ≠ 16 → s.spareReady = true →
    (∀ e ∈ s.bly.entries, e.2.st ≠ .lookup) →
    Completes (.sliceFail n) s fun t =>
      (t.slice n.val).role = .failed ∧ (t.slice n.val).serves = none ∧
        (t.slice 16).serves = some ls ∧ t.fired (1064 + 4 * n.val + 1) .fault) ∧
  (∀ (out inc : Slice) (ls : Nat) (s : State), out ≠ inc → (s.slice out.val).serves = some ls →
    (s.slice out.val).role = .active → s.cache.handover = none → (s.slice inc.val).serves = none →
    (s.slice inc.val).role = .idle →
    Completes (.handoverCutover out inc) s fun t =>
      (t.slice out.val).serves = none ∧ (t.slice inc.val).serves = some ls ∧
        t.cache.handover = some ⟨out.val, inc.val, ls, s.clock⟩ ∧ t.cache.ways = s.cache.ways) ∧
  ∀ (h : Handover) (s : State), s.cache.handover = some h →
    (s.handoverHeld h = false →
      Completes .handoverEnd s fun t => t.cache.handover = none ∧ (t.slice h.out).role = .idle) ∧
    (s.handoverHeld h = true → s.elapsed h.start (us 100) = true → h.out ≠ h.inc →
      Completes .handoverAbandon s fun t =>
        t.cache.handover = none ∧ (t.slice h.out).serves = some h.lslice ∧
          (t.slice h.inc).serves = none ∧ t.fired (1064 + 4 * h.out + 2) .note))

/-- Maintenance (R92 to R94, Table CACHE-9): an operation on an idle engine becomes busy with its code, and on a busy
one sets maint_error and starts nothing. DROP and FLUSH invalidate a Clean block of the share, DROP leaves a dirty
block as it is, CLEAN leaves every way valid, PRELOAD leaves present blocks untouched; an operation with nothing left
to see is done. Write-back and its cancellation (R90, R91, R107, R108): write-back copies a dirty block to a HELD
victim entry and leaves its way valid; after 20 µs the entry's set is fixed and the entry is QUEUED; a cancellation
frees an entry whose block is still in its way, and is refused for an ISSUED entry. -/
def Obligations.MaintenanceAndWriteBackKeepTheBlock : Prop :=
  (∀ (n : Slice) (s : State),
    ((s.slice n.val).maintBusy = true → ∀ c ∈ [Instr.maintClean n, .maintFlush n, .maintDrop n,
        .maintPreload n], Completes c s fun t =>
      (t.slice n.val).maintError = true ∧ t.cache.ways = s.cache.ways ∧ t.vbf = s.vbf ∧ t.stp = s.stp) ∧
    ((s.slice n.val).maintBusy = false →
      ((s.slice n.val).maintAll = true ∨
        (s.slice n.val).maintStart.toNat + (s.slice n.val).maintCount.toNat ≤ s.capacity / 256) →
      Completes (.maintClean n) s (fun t =>
        (t.slice n.val).maintBusy = true ∧ (t.slice n.val).maintOp = 1#3 ∧
          ∀ key, s.wayServes (sliceOfKey key) (key % 16) = true →
            (t.way key).lines = (s.way key).lines ∧ (t.way key).data = (s.way key).data) ∧
      Completes (.maintFlush n) s (fun t =>
        (t.slice n.val).maintBusy = true ∧ (t.slice n.val).maintOp = 2#3 ∧
          ∀ key w, Sparse.find s.cache.ways key = some w → s.maintCovers n.val (w.lsn key) = true →
            w.held = false → anyDirty w.lines = false → Sparse.find t.cache.ways key = none) ∧
      Completes (.maintDrop n) s (fun t =>
        (t.slice n.val).maintBusy = true ∧ (t.slice n.val).maintOp = 3#3 ∧
          ∀ key w, Sparse.find s.cache.ways key = some w → s.maintCovers n.val (w.lsn key) = true →
            w.held = false → Sparse.find t.cache.ways key = if anyDirty w.lines then some w else none) ∧
      Completes (.maintPreload n) s fun t =>
        (t.slice n.val).maintBusy = true ∧ (t.slice n.val).maintOp = 4#3 ∧
          t.cache.ways = s.cache.ways) ∧
    ((s.slice n.val).maintBusy = true → (s.slice n.val).maintWaits = [] → s.maintPending n.val = false →
      Completes (.maintDone n) s fun t =>
        (t.slice n.val).maintBusy = false ∧ (t.slice n.val).maintDone = true)) ∧
  ((∀ (lsn : BitVec 40) (key i : Nat) (s : State), s.findWay lsn.toNat = some key →
    anyDirty (s.way key).lines = true → (s.way key).flushing = none → s.glb.dumping = false →
    s.freshVictim = some i → s.wayServes (sliceOfKey key) (key % 16) = true →
    Completes (.writeBackStart lsn) s fun t =>
      (t.way key).lines = (s.way key).lines ∧ (t.way key).flushing = some i ∧
        ∃ v, Sparse.find t.vbf.entries i = some v ∧ v.st = .held ∧ v.lsn = (s.way key).lsn key ∧
          v.data = (s.way key).data ∧ v.mslot = (s.way key).mslot) ∧
  (∀ (idx : Nat) (v : Victim) (s : State), Sparse.find s.vbf.entries idx = some v →
    s.gathers (rowOf v.lsn) (idx, v) = true → s.elapsed v.since (us 20) = true →
    s.rowBusy (rowOf v.lsn) = false → s.glb.dumping = false →
    (∀ e ∈ s.vbf.entries, e.2.order < s.vbf.nextOrder) →
    Completes (.stripeGatherTimeout idx) s fun t =>
      ∃ w, Sparse.find t.vbf.entries idx = some w ∧ w.st = .queued ∧ w.lsn = v.lsn) ∧
  (∀ (idx : Nat) (v : Victim) (s : State), Sparse.find s.vbf.entries idx = some v →
    (v.st = .issued → Completes (.evictionCancel idx) s fun t => t = s) ∧
    ∀ key, v.st ≠ .issued → v.merging = none → v.rebuilding = false → s.findWay v.lsn = some key →
      Completes (.evictionCancel idx) s fun t => Sparse.find t.vbf.entries idx = none))

/-- The dirty budget (R55, R104, R105): a write that waits for its reservation is accepted once it can be granted and
keeps waiting where it cannot; firmware's replan sets the budget from E_u by R105's formula (joules here in mJ), and
nothing is replanned while Mainmast does not run. The dump's end and replay (R110, R113, R114, R117, R119, Table
PWR-4): a complete dump seals the content of every charged slot under its epoch and moves SEQ to HOLD after a warning,
to STRIKE after another cause; replay takes the consumed epoch from the sea chest, sets the epoch counter above every
epoch, and tells the journal's outcome; its end stores the epoch consumed. -/
def Obligations.BudgetDumpAndReplayAgree : Prop :=
  ((∀ (p : Port) (r : PortReq) (s : State), s.clk.dpStopped = false → (s.port p).ingressReq = [] →
    (s.port p).ingressRwd = [r] → r.op = .wr → s.answeredByPort r = false → s.freshBelay.isSome →
    (s.canAccept p r = true → Completes (.reservationGrant p) s fun t =>
      t.bly.nextOrder = s.bly.nextOrder + 1 ∧ (t.port p).ingressRwd = []) ∧
    (s.canAccept p r = false → Completes (.reservationGrant p) s fun t => t = s)) ∧
  (∀ mj : Nat, (budgetFor mj : Int) = max 0 (min 32 ((80 * (mj : Int) - 50000) / 21875))) ∧
  ∀ s : State,
    (s.mst.running = true → Completes .dirtyBudgetReplan s fun t => t.glb.budget = s.plannedBudget) ∧
    (s.mst.running = false → Completes .dirtyBudgetReplan s fun t => t = s)) ∧
  ((∀ s : State, s.dumpMayEnd = true →
    Completes .dumpComplete s fun t =>
      t.media.journal = some ⟨s.seq.epochTaken, s.dumpRecs, s.glb.dumpInflight, true, false,
          pagesOf s.dumpRecs⟩ ∧
        t.glb.dumpOutcome = 4 ∧ t.fired 1009 .note ∧
        t.seq.state = (if s.seq.state = .dump then
          (if s.seq.cause = .warning then .hold else .strike) else s.seq.state)) ∧
  (∀ (bad : List Nat) (s : State), s.rst.booted = true → s.mediaUp = true →
    s.shr.keyMapLoaded = true → s.glb.replayDone = false → s.glb.replaying = false →
    Completes (.replayStart bad) s fun t =>
      t.glb.replaying = true ∧ t.glb.epochConsumed = s.consumedEpoch ∧
        t.glb.dumpOutcome = replayOutcome s.media.journal s.consumedEpoch ∧
        t.glb.epochCounter = min 0xFFFFFFFF
          ((match s.media.journal with
            | some e => max e.epoch s.consumedEpoch
            | none => s.consumedEpoch) + 1)) ∧
  ∀ (e : Epoch) (s : State), s.glb.replaying = true → s.diesQuiet = true → s.media.journal = some e →
    (s.seaStore [(0x0300, leBytes 4 (max e.epoch s.glb.epochConsumed))] true).2 = true →
    Completes .replayComplete s fun t =>
      t.glb.replayDone = true ∧ t.glb.replaying = false ∧
        t.glb.epochConsumed = max e.epoch s.glb.epochConsumed)

/-- The keyed permutation of R124 loses no row, and start-gap (R125) gives each row of a region a position of its own;
a gap move (R128) sends the source row to the old gap and leaves every other row where it is. -/
def Obligations.TranslationIsOneToOne : Prop :=
  (∀ (keys : List Nat) (x : Nat), x < 2 ^ 20 → feistelInv keys (feistel keys x) = x) ∧
  ∀ (r : Region) (y : Nat), r.gap ≤ 1048576 → y < 1048576 →
    r.unposition (r.position y) = some y ∧
      r.moved.position y =
        if r.position y = (if r.gap = 0 then 1048576 else r.gap - 1) then r.gap else r.position y

/-- Gap moves (R125, R128, R129): a move starts after its programs with the mapping unchanged, records its gap once
the target's programs are confirmed, and the mapping switches in one step when the record is. The wear tree (R140 to
R142, Table LAYOUT-8): a flushed leaf stands on media and is no longer dirty; the load takes the stored leaves and
adds what was counted since, up to 4,095; a lost leaf takes the maximum of its group, or of its die, at the table's
severity. -/
def Obligations.GapMovesSwitchAndWearCountsSurvive : Prop :=
  (∀ (g : BitVec 16) (s : State),
    (∀ row, s.rowAtPosition g.toNat
        (if (s.region g.toNat).gap = 0 then 1048576 else (s.region g.toNat).gap - 1) = some row →
      g.toNat < s.regions → 2 ^ s.wlv.sgShift ≤ (s.region g.toNat).programs →
      Sparse.find s.stp.gapMoves g.toNat = none → s.rowBusy row = false → s.rowPrograms? row = false →
      s.glb.dumping = false → s.glb.replayDone = true →
      Completes (.gapMoveStart g) s fun t =>
        Sparse.find t.stp.gapMoves g.toNat =
            some ⟨if (s.region g.toNat).gap = 0 then 1048576 else (s.region g.toNat).gap - 1,
              (s.region g.toNat).gap, .reading⟩ ∧
          (t.region g.toNat).gap = (s.region g.toNat).gap ∧
          (t.region g.toNat).start = (s.region g.toNat).start) ∧
    ∀ m row, Sparse.find s.stp.gapMoves g.toNat = some m → s.rowAtPosition g.toNat m.source = some row →
      (m.stage = .reading → s.rowPrograms? row = false →
        Completes (.gapMoveProgramsConfirmed g) s fun t =>
          Sparse.find t.stp.gapMoves g.toNat = some { m with stage := .recorded } ∧
            t.stp.gapSeq = s.stp.gapSeq + 1 ∧ t.wlv = s.wlv) ∧
      (m.stage = .recorded →
        Completes (.gapSwitch g) s fun t =>
          t.region g.toNat = (s.region g.toNat).moved ∧ Sparse.find t.stp.gapMoves g.toNat = none)) ∧
  ((∀ (k : Slot) (die : Fin 32) (sector key : Nat) (s : State), s.wlv.loaded = true →
    s.presentSlots ≠ [] → key ∈ s.wlv.leafDirty → key / 2 ^ 20 = dieKey k.val die.val →
    key % 2 ^ 20 / 160 = sector →
    Completes (.leafSectorFlush k die sector) s fun t =>
      t.mediaLeaf key = Sparse.get 0 s.wlv.leaves key ∧ key ∉ t.wlv.leafDirty ∧
        t.wlv.leaves = s.wlv.leaves) ∧
  (∀ s : State, s.wlv.loaded = false → s.glb.memoryActive = true → Sparse.rising s.wlv.leaves = true →
    Completes .wearTreeLoad s fun t =>
      t.wlv.loaded = true ∧ ∀ key, Sparse.get 0 t.wlv.leaves key =
        match Sparse.find s.wlv.leaves key with
        | some v => min 4095 (s.mediaLeaf key + v)
        | none => s.mediaLeaf key) ∧
  ∀ (k : Slot) (die : Fin 32) (swath : Nat) (loss : WearLoss) (s : State), swath < swathsPerDie →
    Completes (.wearTreeRepair k die swath loss) s fun t =>
      t.fired 1219 (repairSeverity loss) ∧
        (loss = .allCopies → Sparse.get 0 t.wlv.leaves (swathKey k.val die.val swath) =
          s.maxLeaf k.val die.val (swath / 1024 * 1024) (swath / 1024 * 1024 + 1024)) ∧
        (loss = .allAndGroup → Sparse.get 0 t.wlv.leaves (swathKey k.val die.val swath) =
          s.maxLeaf k.val die.val 0 (2 ^ 20)) ∧
        (loss = .leafHbm → s.wlv.loaded = true →
          Sparse.get 0 t.wlv.leaves (swathKey k.val die.val swath) =
            s.mediaLeaf (swathKey k.val die.val swath)))

/-- Retirement (R144 to R148): a swath at its limit takes its spare, its leaf starts from 0 and its migration from row
0; the copy pointer advances one row a confirmed program and the entry is final at 4,096; a swath kept in service with
a frozen counter is reported at CRITICAL; a retired die counts as failed. -/
def Obligations.RetirementMovesSwathsToSpares : Prop :=
  (∀ (k : Slot) (die : Fin 32) (swath td ts : Nat) (why : RetireWhy) (s u : State),
    s.wlv.loaded = true → s.retireDue (swathKey k.val die.val swath) why = true →
    Sparse.find s.wlv.remap (swathKey k.val die.val swath) = none →
    s.remapCount k.val die.val < 2048 → die.val < s.wlv.dies → swath ≤ lastSwath →
    (s.slot k.val).state = .inService → s.adoption k.val die.val = none → why ≠ .error →
    s.takeSpare k.val die.val why = some (td, ts, u) →
    Completes (.swathRetire k die swath why) s fun t =>
      (∃ e, Sparse.find t.wlv.remap (swathKey k.val die.val swath) = some e ∧ e.migrating = true ∧
        e.targetDie = td ∧ e.targetSwath = ts ∧ e.pointer = 0) ∧
        Sparse.get 0 t.wlv.leaves (swathKey k.val die.val swath) = 0 ∧ t.fired 1213 .note) ∧
  (∀ (k : Slot) (die : Fin 32) (swath : Nat) (e : Remap) (s : State), swath < swathsPerDie →
    s.adoption k.val die.val = none → Sparse.find s.wlv.remap (swathKey k.val die.val swath) = some e →
    e.migrating = true → (∀ x ∈ s.stp.progs, x.2.fails ≠ 2) →
    Completes (.migrationRowConfirmed k die swath) s fun t =>
      Sparse.find t.wlv.remap (swathKey k.val die.val swath) =
        some { e with pointer := e.pointer + 1, migrating := decide (e.pointer + 1 < 4096) }) ∧
  (∀ (k : Slot) (die : Fin 32) (swath : Nat) (s : State), swath < swathsPerDie →
    s.wlv.frozen.contains (swathKey k.val die.val swath) = true →
    s.wlv.forcedOut.contains (swathKey k.val die.val swath) = false →
    Completes (.frozenSwathDaily k die swath) s fun t => t.fired 1216 .critical ∧ t.wlv = s.wlv) ∧
  ∀ (ch : Chan) (die : Die) (s : State), die.val < s.wlv.dies / 4 →
    (s.slot (moduleOf ch.val)).state = .inService →
    s.adoption (moduleOf ch.val) (moduleDie s.wlv.dies ch.val die.val) = none →
    (s.wlv.adoptions.filter fun a => a.slot == moduleOf ch.val).length < 4 →
    Completes (.dieRetire ch die) s fun t =>
      bitOf (t.ch ch.val).diesFailed die.val = true ∧ t.fired (14 * ch.val + 4) .fault

/-- A host read at its issue (R153, R155, R156, R181): one whose sector is in the dead-sector CAM is not sent to media
and completes with all ones and Poison; one whose sector STP holds takes the held copy; an idle die senses it; where
the die's program has no suspend left and 16 members are ready, it is read around. A prefetch read (R167) is sent
exactly where its conditions hold. The decode tiers of a host read (R156, R157, R165, R177, R178, R228): a direct
sector that passes Tier 0 or Tier 1 answers its request with the decrypted line; one that fails is counted and read
around where 16 members are ready; a sector rebuilt from 16 confirmed members is answered, unless its slot check
fails, which queues it for Tier 3. -/
def Obligations.HostReadsTakeTheirRouteAndTiers : Prop :=
  (∀ (id : Nat) (r : ReadOp) (s : State), Sparse.find s.stp.reads id = some r → r.status = .queued →
    r.merges = false →
    (∀ i b, r.cls ≠ .prefetch → s.wlv.cam.contains r.lsn = true → r.belays = [i] → r.way = none →
      Sparse.find s.bly.entries i = some b → b.orphan = false →
      Completes (.mediaReadIssue id) s fun t =>
        Sparse.find t.stp.reads id = none ∧ t.mch = s.mch ∧
          ∃ b', Sparse.find t.bly.entries i = some b' ∧ b'.st = .respond ∧
            b'.data = BitVec.allOnes 512 ∧ b'.respPoison = true) ∧
    (∀ c, r.cls ≠ .prefetch → s.wlv.cam.contains r.lsn = false → s.heldCell r.lsn = some c →
      Completes (.mediaReadIssue id) s fun t => Sparse.find t.stp.reads id = none ∧ t.mch = s.mch) ∧
    (r.cls ≠ .prefetch → s.wlv.cam.contains r.lsn = false → s.heldCell r.lsn = none →
      (s.place r.lsn).absent = false → (s.ch (s.place r.lsn).ch).up = true →
      s.underTest 3 ((s.place r.lsn).ch * 8 + (s.place r.lsn).die) = false →
      (s.reach (rowOf r.lsn) (posOf r.lsn) = .free → s.atRisk (s.place r.lsn) = false →
        s.dieProg (s.place r.lsn).ch (s.place r.lsn).die = none →
        (s.freeTag (s.place r.lsn).ch).isSome →
        s.lanesUsed (s.place r.lsn).ch (s.place r.lsn).die none < 16 →
        Completes (.mediaReadIssue id) s fun t =>
          t.stp.progs = s.stp.progs ∧ ∃ r', Sparse.find t.stp.reads id = some r' ∧ r'.status = .sensing ∧
            r'.die = (s.place r.lsn).die ∧ r'.sector = (s.place r.lsn).sector) ∧
      (s.reach (rowOf r.lsn) (posOf r.lsn) = .withdraw → r.direct = false →
        16 ≤ (s.candidates (rowOf r.lsn) (posOf r.lsn) [] false).length →
        Completes (.mediaReadIssue id) s fun t =>
          ∃ r', Sparse.find t.stp.reads id = some r' ∧ r'.status = .around ∧ r'.members.length = 16)) ∧
    (r.cls = .prefetch →
      (s.prefetchOk r (s.place r.lsn) = false →
        Completes (.mediaReadIssue id) s fun t => t = s) ∧
      (s.prefetchOk r (s.place r.lsn) = true →
        Completes (.mediaReadIssue id) s fun t =>
          t.stp.progs = s.stp.progs ∧
            ∃ r', Sparse.find t.stp.reads id = some r' ∧ r'.status = .sensing))) ∧
  (∀ (id : Nat) (x : ReadOp) (s : State), Sparse.find s.stp.reads id = some x → x.dual = false →
    (∀ (k : Slot) (r : Sense), x.cls = .demand → x.direct = true → x.status = .transferred →
      s.posOnSlot (s.globalRow (rowOf x.lsn)) k.val = posOf x.lsn →
      (∀ i b, s.senseOk (rowOf x.lsn) (posOf x.lsn) r = true → x.belays = [i] → x.way = none →
        Sparse.find s.bly.entries i = some b → b.st = .fill → b.orphan = false →
        Completes (.sectorDecode id k r) s fun t =>
          Sparse.find t.stp.reads id = none ∧
            ∃ b', Sparse.find t.bly.entries i = some b' ∧ b'.st = .respond ∧
              b'.data = mergeBytes b.req.enables b.data
                ((s.decrypt x.lsn (s.cell x.lsn)).get (lineOf b.req.dpa)) ∧
              b'.respPoison = bitOf (s.cell x.lsn).poison (lineOf b.req.dpa)) ∧
      (s.senseOk (rowOf x.lsn) (posOf x.lsn) r = false → x.around = false →
        16 ≤ (s.candidates (rowOf x.lsn) (posOf x.lsn) [] true).length →
        Completes (.sectorDecode id k r) s fun t =>
          ∃ x', Sparse.find t.stp.reads id = some x' ∧ x'.status = .around ∧ x'.direct = false ∧
            x'.members.length = 16)) ∧
    (x.around = true → x.status ≠ .done → 16 ≤ x.confirmed.length → x.direct = false →
      (s.slotValid x.lsn (s.cell x.lsn).slot = true →
        Completes (.tier2Reconstruct id) s fun t =>
          Sparse.find t.stp.reads id = none ∧ t.stp.tier3Queue = s.stp.tier3Queue) ∧
      (s.slotValid x.lsn (s.cell x.lsn).slot = false → Sparse.find s.wlv.poison x.lsn = none →
        Completes (.tier2Reconstruct id) s fun t =>
          Sparse.find t.stp.reads id = none ∧ x.lsn ∈ t.stp.tier3Queue)))

/-- Programs on a die (R139, R150, R152): a suspended program goes on once no host read needs its die; the oldest
program of a die that takes one is sent with a free slot and a fresh allowance of suspends, and its leaf is counted
only by the draw. Drift clocks (R158, R160, R161): a tick adds the acceleration of the die's temperature bucket; a
reload names the other offset table in every later read; a restored die takes (S + age) × 256 and the base offsets of
its drift tables, and is provisional. -/
def Obligations.ProgramsStartAndDriftClocksTick : Prop :=
  (∀ (ch : Chan) (die : Die) (i : Nat) (g : Prog) (s : State), Sparse.find s.stp.progs i = some g →
    (s.dieProg ch.val die.val = some (i, g) → g.status = .suspended → (s.ch ch.val).up = true →
      s.hostReadOn ch.val die.val = false →
      Completes (.programResume ch die) s fun t =>
        Sparse.find t.stp.progs i = some { g with status := .running, started := s.clock } ∧
          t.wlv = s.wlv) ∧
    (s.dieProg ch.val die.val = some (i, g) → s.hostReadOn ch.val die.val = true →
      Completes (.programResume ch die) s fun t => t = s) ∧
    ∀ tag, s.dieTakes ch.val die.val = true →
      (s.stp.progs.find? fun e => s.startable ch.val die.val e.2) = some (i, g) →
      s.freeTag ch.val = some tag →
      Completes (.programStart ch die) s fun t =>
        (∃ g', Sparse.find t.stp.progs i = some g' ∧ g'.status = .running ∧ g'.tag = tag ∧
          g'.ch = ch.val ∧ g'.die = die.val ∧ g'.suspends = 0 ∧ g'.data = g.data) ∧
          t.draws = s.draws + 1 ∧
          (Config.leafDraw s.draws = false → t.wlv.leaves = s.wlv.leaves)) ∧
  (∀ (ch : Chan) (die : Die) (s : State),
    (∀ temp : Int, -128 ≤ temp → temp < 105 → (s.ch ch.val).up = true →
      bitOf (s.ch ch.val).diesFailed die.val = false →
      Completes (.driftClockTick ch die temp) s fun t =>
        ((t.ch ch.val).die die.val).bucket = nextBucket ((s.ch ch.val).die die.val).bucket temp ∧
          ((t.ch ch.val).die die.val).clk = ((s.ch ch.val).die die.val).clk +
            BitVec.ofNat 48 (32 * 2 ^ nextBucket ((s.ch ch.val).die die.val).bucket temp) ∧
          ((t.ch ch.val).die die.val).tempC = temp) ∧
    (((s.ch ch.val).die die.val).reload = true → (s.ch ch.val).up = true →
      Completes (.offsetTableReload ch die) s fun t =>
        ((t.ch ch.val).die die.val).table = !((s.ch ch.val).die die.val).table ∧
          ((t.ch ch.val).die die.val).reload = false) ∧
    ∀ stamp age : BitVec 40, (s.ch ch.val).up = true → s.glb.replayDone = false →
      s.glb.replaying = false →
      Completes (.driftClockRestore ch die stamp age) s fun t =>
        ((t.ch ch.val).die die.val).clk = BitVec.ofNat 48 ((stamp.toNat + age.toNat) * 256) ∧
          ((t.ch ch.val).die die.val).base = s.savedBase ch.val die.val ∧
          ((t.ch ch.val).die die.val).provisional = true)

/-- Dual reads (R164): equal results leave the answer alone; a difference is recorded at FAULT and its row placed at
the head of the patrol scrub queue. Prefetches (R167 to R169): one not issued within 2.0 µs is dropped, one issued
runs on; a failed check drops it with no change to the cache, the events, the logbook, the wear or the channel;
otherwise its block is filled Clean with the decrypted sector where a way is allocated. Drift refresh (R171, R172): a
visit at Out of service does nothing; a die row without a member moves the sweep pointer on; a data member that
confirms is rewritten in place exactly where its age bucket has reached rewrite_bucket. Patrol scrub (R194 to R196): a
row whose syndromes are zero changes no count and the scrub moves on; a located member is counted, recorded at FAULT
and rewritten; a check met by a program is discarded, its row requeued once. -/
def Obligations.BackgroundReadsCheckAndRewrite : Prop :=
  (∀ (id : Nat) (r : ReadOp) (s : State), Sparse.find s.stp.reads id = some r → r.status = .done →
    Completes (.dualReadCompare id false) s (fun t =>
      Sparse.find t.stp.reads id = none ∧ t.mch = s.mch ∧ t.evt = s.evt ∧ t.bly = s.bly) ∧
    Completes (.dualReadCompare id true) s fun t =>
      Sparse.find t.stp.reads id = none ∧ t.stp.scrubHead.head? = some (s.place r.lsn).row ∧
        t.fired (chanSrc (s.place r.lsn).ch 8) .fault ∧
        (t.ch (s.place r.lsn).ch).errOutcome = 3 ∧ t.bly = s.bly) ∧
  (∀ (id : Nat) (x : ReadOp) (s : State), Sparse.find s.stp.reads id = some x → x.cls = .prefetch →
    (x.status = .queued → s.elapsed x.accepted (us 2) = true →
      Completes (.prefetchDropTimeout id) s fun t =>
        Sparse.find t.stp.reads id = none ∧ t.cache = s.cache ∧ t.evt = s.evt) ∧
    (x.status ≠ .queued → Completes (.prefetchDropTimeout id) s fun t => t = s) ∧
    ∀ r : Sense, x.status = .transferred →
      (12 < r.errs ∨ r.miscorrected = true →
        Completes (.prefetchDecode id r) s fun t =>
          Sparse.find t.stp.reads id = none ∧ t.cache = s.cache ∧ t.vbf = s.vbf ∧ t.evt = s.evt ∧
            t.log = s.log ∧ t.wlv = s.wlv ∧ t.mch = s.mch) ∧
      ∀ u key, r.errs ≤ 12 → r.miscorrected = false →
        s.slotValid x.lsn (s.cell x.lsn).slot = true → s.findWay x.lsn = none →
        s.matchVictim x.lsn = none → s.cached (sliceHash x.lsn) = true →
        s.allocFill x.lsn = (u, some key) →
        Completes (.prefetchDecode id r) s fun t =>
          (t.way key).lines = Four.all .clean ∧
            (t.way key).data = u.decrypt x.lsn (s.cell x.lsn) ∧ t.evt = u.evt ∧ t.wlv = u.wlv ∧
            t.mch = u.mch) ∧
  (∀ (ch : Chan) (die : Die) (r : Sense) (s : State),
    (s.glb.level = .outOfService → Completes (.refreshVisit ch die r) s fun t => t = s) ∧
    (s.glb.level ≠ .outOfService → (s.ch ch.val).up = true → s.dieAway ch.val die.val = false →
      bitOf (s.ch ch.val).diesFailed die.val = false →
      (∀ n, s.memberAt ch.val die.val ((s.ch ch.val).die die.val).sweepRow = none →
        s.nextSweep (moduleOf ch.val) (moduleDie s.wlv.dies ch.val die.val)
          ((s.ch ch.val).die die.val).sweepRow = some n →
        Completes (.refreshVisit ch die r) s fun t =>
          ((t.ch ch.val).die die.val).sweepRow = n ∧ t.stp = s.stp) ∧
      ∀ row pos, s.memberAt ch.val die.val ((s.ch ch.val).die die.val).sweepRow = some (row, pos) →
        s.rowBusy row = false → 2 ≤ pos → s.senseOk row pos r = true →
        (s.stp.rewriteBucket ≤ (s.memberBucket (s.memberPlace (s.globalRow row) pos) row pos).2 →
          Completes (.refreshVisit ch die r) s fun t =>
            ∃ g, Sparse.find t.stp.progs s.stp.nextProg = some g ∧ g.kind = .inPlace ∧ g.set = none) ∧
        ((s.memberBucket (s.memberPlace (s.globalRow row) pos) row pos).2 < s.stp.rewriteBucket →
          Completes (.refreshVisit ch die r) s fun t => t.stp.progs = s.stp.progs))) ∧
  (∀ (sp sq : BitVec 2112) (s : State), s.stp.scrubEnable = true → s.glb.level ≠ .outOfService →
    (s.reef.held.any fun e => e.2.holder == .scrubPass) = true →
    (s.stp.rowTouched.contains s.scrubTarget = true → s.scrubTarget ∉ s.stp.scrubDiscarded →
      s.stp.scrubRow + 1 < s.totalRows →
      Completes (.scrubRowCheck sp sq) s fun t =>
        s.scrubTarget ∈ t.stp.scrubHead ∧ s.scrubTarget ∈ t.stp.scrubDiscarded ∧
          t.stp.rowTouched = [] ∧ t.stp.progs = s.stp.progs) ∧
    ∀ row, s.stp.rowTouched.contains s.scrubTarget = false → s.rowAt s.scrubTarget = some row →
      (∀ pos < 18, (s.memberPlace (s.globalRow row) pos).absent = false) →
      s.stp.scrubHead = [] → s.stp.scrubRow + 1 < s.totalRows →
      (Completes (.scrubRowCheck 0#2112 0#2112) s fun t =>
        t.stp.located = s.stp.located ∧ t.stp.unlocated = s.stp.unlocated ∧
          t.stp.scrubRow = s.stp.scrubRow + 1) ∧
      (∀ j, scrubCheck sp sq = .member j →
        Completes (.scrubRowCheck sp sq) s fun t =>
          t.stp.located = satAdd 0xFF s.stp.located 1 ∧ t.fired 1207 .fault ∧
            t.stp.scrubRow = s.stp.scrubRow + 1 ∧
            ∃ g, Sparse.find t.stp.progs s.stp.nextProg = some g ∧ g.kind = .inPlace) ∧
      (scrubCheck sp sq = .unlocated →
        Completes (.scrubRowCheck sp sq) s fun t =>
          t.stp.unlocated = satAdd 0xFF s.stp.unlocated 1 ∧ t.fired 1208 .fault))

/-- Deep recovery (R183 to R186): Mainmast takes the oldest waiting sector while fewer than 64 are in work; a
recovered sector leaves the CAM at WARN, a lost one is entered LOST at CRITICAL with every line poisoned, and each is
counted. While Mainmast does not run, Tier 3 waits. The poison list (R188, R189): a copy brings every changed entry to
media; a reconciled entry takes the bits of its sector's metadata, and goes where they are clear. -/
def Obligations.DeepRecoveryAndPoisonFollowTheMetadata : Prop :=
  ((∀ (lsn : Nat) (rest : List Nat) (s : State), s.stp.tier3Queue = lsn :: rest → s.mst.running = true →
    s.stp.tier3Active.length < 64 →
    Completes .tier3Start s fun t =>
      t.stp.tier3Queue = rest ∧ t.stp.tier3Active = s.stp.tier3Active ++ [⟨lsn, s.clock⟩]) ∧
  (∀ (lsn : BitVec 40) (b : Bool) (s : State), s.mst.running = false →
    Completes .tier3Start s (fun t => t = s) ∧ Completes (.tier3Outcome lsn b) s fun t => t = s) ∧
  ∀ (lsn : BitVec 40) (s : State), s.mst.running = true →
    (∃ x ∈ s.stp.tier3Active, x.lsn = lsn.toNat) →
    Completes (.tier3Outcome lsn true) s (fun t =>
      lsn.toNat ∉ t.wlv.cam ∧ t.stp.recovered = satAdd 0xFFFF s.stp.recovered 1 ∧
        t.fired 1211 .warn ∧ ∀ x ∈ t.stp.tier3Active, x.lsn ≠ lsn.toNat) ∧
    (s.wlv.poison.length < 1048576 →
      Completes (.tier3Outcome lsn false) s fun t =>
        lsn.toNat ∉ t.wlv.cam ∧ t.stp.lost = satAdd 0xFFFF s.stp.lost 1 ∧ t.fired 1212 .critical ∧
          (t.cell lsn.toNat).poison = 0xF#4 ∧
          ∃ e, Sparse.find t.wlv.poison lsn.toNat = some e ∧ e.state = .lost ∧ e.lines = 0xF#4)) ∧
  ((∀ s : State, s.presentSlots ≠ [] →
    Completes .poisonListCopy s fun t =>
      t.wlv.poisonDirty = [] ∧ t.wlv.poison = s.wlv.poison ∧
        ∀ lsn ∈ s.wlv.poisonDirty, Sparse.find t.media.poison lsn = Sparse.find s.wlv.poison lsn) ∧
  ∀ (lsn : BitVec 40) (e : Poison) (s : State), Sparse.find s.wlv.poison lsn.toNat = some e →
    s.glb.replayDone = true → s.wlv.loaded = true → e.state ≠ .pending → s.blockDirty lsn.toNat = false →
    Completes (.poisonReconcile lsn) s fun t =>
      (Sparse.find t.wlv.poison lsn.toNat).map Poison.lines =
        if (s.cell lsn.toNat).poison = 0#4 ∧ e.lines ≠ 0#4 then none
        else some (s.cell lsn.toNat).poison)

/-- Responses of a module (R202, R203, R206): one whose CRC fails is discarded and counted as a packet failure; ACK
takes the command, NACK 0x02 sends the program again, READY makes a read's data ready with its age bucket, and a whole
burst transfers it; the first burst that fails its CRC is requested again. The end of a program (R152, R154, R202,
R203, R207): DONE puts its content on media and frees it, or requeues a withdrawn one with a fresh allowance of
suspends; the first FAIL sends it once more, the second is recorded at FAULT and keeps its data; SUSPENDED keeps its
pulse time, and STATE gives the program's own report and the die's temperature. -/
def Obligations.ModuleResponsesEndReadsAndPrograms : Prop :=
  (∀ (ch : Chan) (s : State), (s.ch ch.val).linkUp = true →
    (∀ r : Resp, r.crcOk = false → ∀ c ∈ [Instr.ack ch r, .nack ch r, .ready ch r, .done ch r, .fail ch r,
        .suspended ch r, .state ch r ⟨0, 0, 0#16⟩],
      Completes c s fun t =>
        (t.ch ch.val).packetCrc = satAdd 0xFF (s.ch ch.val).packetCrc 1 ∧ t.stp = s.stp ∧
          t.seq = s.seq ∧ t.media = s.media) ∧
    (∀ r : Resp, r.crcOk = true →
      Completes (.ack ch r) s fun t =>
        ((t.ch ch.val).die r.die.val).ackResent = false ∧ t.stp = s.stp) ∧
    (∀ (r : Resp) (i : Nat) (g : Prog), r.crcOk = true → r.status = 0x02#8 →
      s.dieProg ch.val r.die.val = some (i, g) → Sparse.find s.stp.progs i = some g → g.tag = r.tag.val →
      Completes (.nack ch r) s fun t =>
        Sparse.find t.stp.progs i = some { g with started := s.clock, pulseRun := 0 } ∧
          (t.ch ch.val).burstCrc = satAdd 0xFFF (s.ch ch.val).burstCrc 1) ∧
    (∀ (r : Resp) (id : Nat) (x : ReadOp), r.crcOk = true →
      s.readOfTag ch.val r.tag.val = some (id, x) → Sparse.find s.stp.reads id = some x →
      x.status = .sensing →
      Completes (.ready ch r) s fun t =>
        Sparse.find t.stp.reads id = some { x with status := .ready, bucket := r.status.toNat }) ∧
    ∀ (tag : Fin 64) (id : Nat) (x : ReadOp), s.readOfTag ch.val tag.val = some (id, x) →
      Sparse.find s.stp.reads id = some x → x.status = .ready →
      Completes (.readBurst ch tag true) s (fun t =>
        Sparse.find t.stp.reads id = some { x with status := .transferred, resends := 0 }) ∧
      (x.resends = 0 →
        Completes (.readBurst ch tag false) s fun t =>
          Sparse.find t.stp.reads id = some { x with resends := 1 } ∧
            (t.ch ch.val).burstCrc = satAdd 0xFFF (s.ch ch.val).burstCrc 1)) ∧
  (∀ (ch : Chan) (r : Resp) (i : Nat) (g : Prog) (s : State), (s.ch ch.val).linkUp = true →
    r.crcOk = true → s.dieProg ch.val r.die.val = some (i, g) → Sparse.find s.stp.progs i = some g →
    i < s.stp.nextProg →
    (∀ l c, g.status = .running → g.data = .sector l c → g.kind ≠ .unmapped →
      Completes (.done ch r) s fun t => Sparse.find t.stp.progs i = none ∧ t.cell l = c) ∧
    (g.status = .withdrawn →
      Completes (.done ch r) s fun t =>
        Sparse.find t.stp.progs i = some { g with status := .queued, suspends := 0, pulseRun := 0 } ∧
          t.media = s.media) ∧
    (r.status = 0x10#8 → g.status = .running →
      Completes (.fail ch r) s fun t =>
        Sparse.find t.stp.progs i = some { g with
          status := .queued, suspends := 0, pulseRun := 0, fails := if g.fails = 0 then 1 else 2 } ∧
          t.media = s.media ∧
          (g.fails ≠ 0 → t.fired (chanSrc g.ch 9) .fault ∧
            (t.ch g.ch).progFail = satAdd 0xF (s.ch g.ch).progFail 1)) ∧
    (g.status = .suspending →
      Completes (.suspended ch r) s fun t =>
        Sparse.find t.stp.progs i = some { g with
          status := .suspended, pulseRun := g.pulseRun + (s.clock - g.started) / 2 }) ∧
    ∀ rep : DieReport, rep.prog.val = 1 → g.status ≠ .withdrawn → r.status.toInt < 105 →
      Completes (.state ch r rep) s fun t =>
        Sparse.find t.stp.progs i = some { g with
          status := .running, suspends := rep.suspends.val, started := s.clock
          pulseRun := 14000 - rep.remaining.toNat * 64 } ∧
          ((t.ch ch.val).die r.die.val).tempC = r.status.toInt ∧
          ((t.ch ch.val).die r.die.val).notReady = false)

/-- The time limits of the link (Table CHIUT-4, R205): every expiry is counted; the second ACK expiry starts a quick
retrain, a missing burst is requested again, a die that does not stop counts as not ready, a program past 28 µs of
pulse time fails its die, and so does the fourth expiry of a die within 1 s. -/
def Obligations.LinkExpiriesAreCountedAndActedOn : Prop :=
  ∀ (ch : Chan) (die : Die) (s : State),
    (((s.ch ch.val).die die.val).expiries.length < 3 →
      ((s.ch ch.val).up = true →
        Completes (.ackTimeout ch die) s fun t =>
          (t.ch ch.val).timeouts = satAdd 0xFF (s.ch ch.val).timeouts 1 ∧
            ((t.ch ch.val).die die.val).ackResent = !((s.ch ch.val).die die.val).ackResent ∧
            (t.ch ch.val).train =
              if ((s.ch ch.val).die die.val).ackResent then 0b10#2 else (s.ch ch.val).train) ∧
      (∀ (tag : Fin 64) (id : Nat) (x : ReadOp), s.readOfTag ch.val tag.val = some (id, x) →
        Sparse.find s.stp.reads id = some x → x.status = .ready → x.resends = 0 → x.die = die.val →
        Completes (.readBurstTimeout ch tag) s fun t =>
          (t.ch ch.val).timeouts = satAdd 0xFF (s.ch ch.val).timeouts 1 ∧
            Sparse.find t.stp.reads id = some { x with resends := 1 }) ∧
      ∀ i g, s.dieProg ch.val die.val = some (i, g) →
        (g.status = .suspending →
          Completes (.suspendTimeout ch die) s fun t =>
            (t.ch ch.val).timeouts = satAdd 0xFF (s.ch ch.val).timeouts 1 ∧
              ((t.ch ch.val).die die.val).notReady = true) ∧
        (g.status = .running → 16000 ≤ s.pulseTime g → s.pulseTime g < 28000 →
          Completes (.programTimeout ch die) s fun t =>
            (t.ch ch.val).timeouts = satAdd 0xFF (s.ch ch.val).timeouts 1 ∧
              t.stp.progs = s.stp.progs)) ∧
    (die.val < s.wlv.dies / 4 → s.adoption (moduleOf ch.val) (moduleDie s.wlv.dies ch.val die.val) = none →
      (s.wlv.adoptions.filter fun a => a.slot == moduleOf ch.val).length < 4 →
      (∀ i g, s.dieProg ch.val die.val = some (i, g) → g.status = .running → 28000 ≤ s.pulseTime g →
        Completes (.programTimeout ch die) s fun t => bitOf (t.ch ch.val).diesFailed die.val = true) ∧
      (3 ≤ (((s.ch ch.val).die die.val).expiries.filter fun t => decide (s.clock < t + sec 1)).length →
        (s.ch ch.val).up = true →
        Completes (.ackTimeout ch die) s fun t => bitOf (t.ch ch.val).diesFailed die.val = true))

/-- Training (R208, R209): a channel that trains is up; the second full training in a row that fails fails the
channel, which fires its source; a quick retrain is counted and recorded at NOTE, and passes to full training when its
closing run fails; a recentring is not counted, and starts a quick retrain only where its result is out of range.
Rebuild (R216 to R219): a WAITING module starts when no other rebuild runs and the stream holds its permit; the
pointer advances by 32 × D rows a batch; past the last row the slot enters IN_SERVICE with a record. -/
def Obligations.TrainingAndRebuildBringMembersBack : Prop :=
  (∀ (ch : Chan) (s : State),
    ((s.slot (moduleOf ch.val)).rst = false → (s.slot (moduleOf ch.val)).powerGood = true →
      (s.ch ch.val).failed = false → bitOf s.clk.chiutFailed (moduleOf ch.val) = false →
      (s.ch ch.val).train.toNat < 2 →
      Completes (.channelTraining ch true) s (fun t =>
        (t.ch ch.val).linkUp = true ∧ (t.ch ch.val).train = 0b11#2 ∧ (t.ch ch.val).trainFails = 0) ∧
      ((s.ch ch.val).trainFails = 0 →
        Completes (.channelTraining ch false) s fun t =>
          (t.ch ch.val).trainFails = 1 ∧ (t.ch ch.val).failed = false) ∧
      ((s.ch ch.val).trainFails ≠ 0 → (∀ n ∈ channelsOf (moduleOf ch.val), n ≠ ch.val →
          (s.ch n).failed = false) →
        Completes (.channelTraining ch false) s fun t =>
          (t.ch ch.val).failed = true ∧ (t.ch ch.val).linkUp = false ∧
            t.fired (chanSrc ch.val 0) .fault)) ∧
    (∀ why closingOk, (s.ch ch.val).linkUp = true → s.retrainDue ch.val why = true →
      Completes (.quickRetrain ch why closingOk) s fun t =>
        (t.ch ch.val).retrains = satAdd 0xFF (s.ch ch.val).retrains 1 ∧
          (t.ch ch.val).train = (if closingOk then 0b11#2 else 0b01#2) ∧
          t.fired (chanSrc ch.val 1) .note) ∧
    ∀ eye inRange, (s.ch ch.val).up = true →
      Completes (.recentring ch eye inRange) s fun t =>
        (t.ch ch.val).retrains = (s.ch ch.val).retrains ∧ (t.ch ch.val).eyeMv = eye ∧
          (t.ch ch.val).train = (if inRange then (s.ch ch.val).train else 0b10#2) ∧
          t.evt.src = s.evt.src) ∧
  (∀ (k : Slot) (s : State), s.rebuildPermit = true → 16 ≤ s.presentSlots.length →
    ((s.slot k.val).state = .waiting → s.stp.rebuildModule = none →
      Completes (.rebuildStart k) s fun t =>
        (t.slot k.val).state = .rebuilding ∧ t.stp.rebuildModule = some k.val ∧ t.stp.rebuildRow = 0 ∧
          t.fired 1209 .note) ∧
    (s.stp.rebuildModule ≠ none → Completes (.rebuildStart k) s fun t => t = s) ∧
    (s.stp.rebuildModule = some k.val → (s.slot k.val).state = .rebuilding →
      (∀ e ∈ s.bly.entries, e.2.st ≠ .lookup ∧ e.2.st ≠ .write) →
      (s.stp.rebuildRow + 32 * s.wlv.dies < s.totalRows →
        Completes .rebuildBatchConfirmed s fun t =>
          t.stp.rebuildRow = s.stp.rebuildRow + 32 * s.wlv.dies ∧
            (t.slot k.val).state = .rebuilding) ∧
      (s.totalRows ≤ s.stp.rebuildRow + 32 * s.wlv.dies →
        Completes .rebuildBatchConfirmed s fun t =>
          (t.slot k.val).state = .inService ∧ t.stp.rebuildModule = none ∧ t.fired 1210 .note ∧
            (Sparse.find t.media.members k.val).map MemberRec.standing = some .inService)))

/-- Module slots (R211 to R216, R221, R447, Table CHIUT-9): an alert acts by its cause; a module that fails goes to
FAILED with its rails off and is recorded out, one that is pulled ends EMPTY; a retirement whose programs have ended
ends in SAFE; an inserted module is refused at WARN or powered; a trained module is admitted without a command to
WAITING. -/
def Obligations.ModuleSlotsFollowTheirStates : Prop :=
  ∀ (k : Slot) (s : State),
    ((s.slot k.val).present = true → (s.slot k.val).state = .inService →
      (Completes (.moduleAlert k 1) s fun t =>
        bitOf t.reef.capHalved k.val = true ∧ t.fired (slotSrc k.val) .warn ∧
          (t.slot k.val).alertCause = 1#8) ∧
      (∀ c ∈ [Instr.moduleAlert k 3, .moduleAlert k 4, .moduleFailure k],
        Completes c s fun t =>
          (t.slot k.val).state = .failed ∧ (t.slot k.val).rst = true ∧ (t.slot k.val).railsOn = false ∧
            ∀ m, Sparse.find s.media.members k.val = some m →
              (Sparse.find t.media.members k.val).map MemberRec.standing = some .out) ∧
      (s.retireRefused = false →
        Completes (.moduleAlert k 5) s fun t => (t.slot k.val).state = .retiring) ∧
      Completes (.moduleAlert k 6) s (fun t =>
        t.fired (slotSrc k.val) .warn ∧ (t.slot k.val).state = .inService) ∧
      Completes (.moduleAlert k 2) s fun t => t = s) ∧
    ((s.slot k.val).present = true → (s.slot k.val).state ≠ .empty →
      Completes (.moduleRemoval k) s fun t =>
        (t.slot k.val).state = .empty ∧ (t.slot k.val).present = false ∧ t.fired (slotSrc k.val) .note) ∧
    ((s.slot k.val).present = true → s.moduleQuiet k.val = true →
      (s.seq.state ≠ .strike → (s.slot k.val).state = .retiring → (s.slot k.val).retireMbox = none →
        Completes (.moduleProgramsEnded k) s fun t =>
          (t.slot k.val).state = .safe ∧ (t.slot k.val).rst = true ∧ (t.slot k.val).railsOn = false ∧
            t.fired (slotSrc k.val) .note) ∧
      (s.seq.state = .strike →
        Completes (.moduleProgramsEnded k) s fun t => (t.slot k.val).rst = true)) ∧
    (∀ ident, (s.slot k.val).state = .empty → s.rst.datapath = true →
      ((s.identRefused ident = true ∨ s.foreignSet ident = true) →
        Completes (.moduleInsert k ident) s fun t =>
          (t.slot k.val).state = .failed ∧ (t.slot k.val).rst = true ∧ t.fired (slotSrc k.val) .warn) ∧
      (s.identRefused ident = false → s.foreignSet ident = false →
        Completes (.moduleInsert k ident) s fun t =>
          (t.slot k.val).state = .powering ∧ (t.slot k.val).present = true ∧
            (t.slot k.val).ident = some ident)) ∧
    ((s.slot k.val).state = .training → s.seq.autoAdmit = true → s.moduleTrained k.val = true →
      (s.standing k.val = none ∨ s.standing k.val = some .out) → s.media.setId.isSome →
      Completes (.moduleAutoAdmit k) s fun t =>
        (t.slot k.val).state = .waiting ∧ (t.slot k.val).ident.map Identity.setId =
          (s.slot k.val).ident.map fun _ => s.media.setId.getD 0#128)

/-- Shroud key commands (R226, R227, R239): a go on any other path than the cipher lock owner's sets error and changes
no slot; a LOAD takes the key written into an EMPTY slot and zeroes every KEY_DATA word, and is refused where its
halves are equal or the slot holds a key; a ZEROIZE empties a LOADED slot alone; the format form of ERASE leaves every
key-map entry on slot 0, ACTIVE, the in-place form leaves the key map and every slot's state, and both empty the
cache. -/
def Obligations.ShroudKeyCommandsObeyTheirSlots : Prop :=
  ∀ (path : Path) (s : State),
    (s.kce.isOwner path = false →
      ∀ c ∈ [Instr.shrKeyLoad path, .shrKeyZeroize path, .shrKeyErase path],
        Completes c s fun t =>
          t.shr.cmdError = true ∧ t.shr.slots = s.shr.slots ∧ t.shr.keyMap = s.shr.keyMap) ∧
    (s.kce.isOwner path = true →
      (Completes (.shrKeyLoad path) s fun t =>
        t.shr.keyData = [] ∧
          (if (s.keySlot s.shr.slot.toNat).state = .empty ∧
              (xtsKeys s.shr.keyInput).1 ≠ (xtsKeys s.shr.keyInput).2 then
            t.keySlot s.shr.slot.toNat = ⟨s.shr.heldState s.shr.slot.toNat, s.shr.keyInput⟩
          else t.shr.cmdError = true ∧ t.shr.slots = s.shr.slots)) ∧
      (Completes (.shrKeyZeroize path) s fun t =>
        t.shr.keyData = [] ∧
          (if (s.keySlot s.shr.slot.toNat).state = .loaded then
            t.keySlot s.shr.slot.toNat = KeySlot.empty
          else t.shr.cmdError = true ∧ t.shr.slots = s.shr.slots)) ∧
      (s.shr.rkState = .idle → s.port0.ingressReq = [] → s.port0.ingressRwd = [] →
        s.port1.ingressReq = [] → s.port1.ingressRwd = [] →
        Completes (.shrKeyErase path) s fun t =>
          t.cache.ways = [] ∧ t.cache.mirror = [] ∧
            (s.shr.fmt = true → t.shr.keyMap = [] ∧ t.shr.keyMapDefault = 0 ∧
              (t.keySlot 0).state = .active) ∧
            (s.shr.fmt = false → t.shr.keyMap = s.shr.keyMap ∧
              t.shr.keyMapDefault = s.shr.keyMapDefault ∧
              ∀ i, (t.keySlot i).state = (s.keySlot i).state)))

/-- The rekey (R224, R230, R231, R236, R238): a start is refused with error and no change, or makes A RETIRING and B
ACTIVE and is recorded; the row at the hemline is claimed as a full-stripe set and H moves on; at the end every entry
in range that names A names B; an abort forms no new set and is recorded at WARN once cut; a fenced engine is recorded
at FAULT and no key changes. -/
def Obligations.RekeyMovesItsRangeFromOneSlotToAnother : Prop :=
  (∀ (e : Fin 20) (s : State), bitOf s.shr.enginesFenced e.val = false →
    Completes (.shroudEngineFence e) s fun t =>
      bitOf t.shr.enginesFenced e.val = true ∧ t.fired 1221 .fault ∧ t.shr.slots = s.shr.slots) ∧
  (∀ (path : Path) (s : State), s.pathOpen path = true →
    (s.rekeyRefused s.shr.rkOld.toNat s.shr.rkNew.toNat s.shr.rkFirst.toNat s.shr.rkLast.toNat = true →
      Completes (.shrRekeyGo path) s fun t =>
        t.shr.rkError = true ∧ t.shr.slots = s.shr.slots ∧ t.shr.rkState = s.shr.rkState) ∧
    (s.rekeyRefused s.shr.rkOld.toNat s.shr.rkNew.toNat s.shr.rkFirst.toNat s.shr.rkLast.toNat = false →
      s.sea.fits [(0x0301, rekeyRecord s.shr.rkOld.toNat s.shr.rkNew.toNat s.shr.rkFirst.toNat
        s.shr.rkLast.toNat)] = true →
      Completes (.shrRekeyGo path) s fun t =>
        t.shr.rkState = .running ∧ (t.keySlot s.shr.rkOld.toNat).state = .retiring ∧
          (t.keySlot s.shr.rkNew.toNat).state = .active ∧ t.fired 1222 .note) ∧
    (s.shr.abortable = true →
      Completes (.shrRekeyAbort path) s fun t =>
        t.shr.rkState = .aborting ∧ t.shr.keyMap = s.shr.keyMap ∧ t.stp = s.stp)) ∧
  ∀ s : State,
    (s.sweepMayClaim = true →
      Completes .rekeyClaimRow s fun t =>
        t.shr.hemline = s.shr.nextRow (s.shr.hemline + 1) ∧
          ∃ id x, Sparse.find t.stp.sets id = some x ∧ x.row = s.shr.hemline ∧ x.sweep = true ∧
            x.form = .full) ∧
    (s.sweepMayClaim = false → Completes .rekeyClaimRow s fun t => t = s) ∧
    (s.shr.rkState = .running → s.shr.sweepDone = true → s.sweepSets = 0 →
      (s.mst.running = false →
        Completes .rekeyEnd s fun t => t.shr.rkState = .finishing ∧ t.shr.keyMap = s.shr.keyMap) ∧
      (s.mst.running = true → Sparse.rising s.shr.keyMap = true →
        Completes .rekeyEnd s fun t =>
          t.shr.rkState = .idle ∧ t.shr.rkDone = true ∧ t.fired 1222 .note ∧
            ∀ e < 1048576, s.shr.rkLo ≤ e → e ≤ s.shr.rkHi →
              Sparse.get s.shr.keyMapDefault s.shr.keyMap e = s.shr.rkA →
              Sparse.get t.shr.keyMapDefault t.shr.keyMap e = s.shr.rkB)) ∧
    (s.shr.rkState = .aborting → s.sweepSets = 0 →
      Completes .rekeyCut s fun t =>
        t.shr.rkState = .idle ∧ t.shr.rkDone = true ∧ t.fired 1223 .warn)

/-- KCE key registers and the cipher lock (R244 to R247, Table KCE-2): a KEY_CMD of a non-owner sets not_owner and
loads nothing; a LOAD takes the key written into a register that holds none, a ZEROIZE empties a loaded one, and each
zeroes KEY_DATA; the lowest code that may request wins a free lock with a new generation; a release or a revocation
frees it, and ends a message in progress with ABORTED. -/
def Obligations.CipherLockHasOneOwner : Prop :=
  (∀ (path : Path) (s : State),
    (s.kce.takesKeyCmd path = false → ∀ c ∈ [Instr.kceKeyLoad path, .kceKeyZeroize path],
      Completes c s fun t => t = s.notOwner) ∧
    (s.kce.takesKeyCmd path = true → s.kce.keyCmdAllowed = true →
      (Completes (.kceKeyLoad path) s fun t =>
        t.kce.keyData = [] ∧
          (if bitOf s.kce.loaded s.kce.reg.toNat = false ∧ s.kce.keyInput ≠ 0#256 then
            bitOf t.kce.loaded s.kce.reg.toNat = true ∧ t.kce.key s.kce.reg.toNat = s.kce.keyInput ∧
              (s.kce.reg = 0#3 → t.log.chainIndex = 0)
          else t.kce.cmdError = true ∧ t.kce.keys = s.kce.keys ∧ t.kce.loaded = s.kce.loaded)) ∧
      Completes (.kceKeyZeroize path) s fun t =>
        t.kce.keyData = [] ∧
          (if bitOf s.kce.loaded s.kce.reg.toNat = true then
            bitOf t.kce.loaded s.kce.reg.toNat = false ∧ t.kce.key s.kce.reg.toNat = 0#256
          else t.kce.cmdError = true ∧ t.kce.keys = s.kce.keys))) ∧
  (∀ (codes : List (Fin 8)) (c : Fin 8) (s : State), s.kce.owner = .none → c ∈ codes →
    s.mayRequest c.val = true → (∀ d ∈ codes, s.mayRequest d.val = true → c.val ≤ d.val) →
    Completes (.lockRequest codes) s fun t =>
      t.kce.owner = ownerOf c.val ∧ t.kce.gen = s.kce.gen + 1#16) ∧
  (∀ (codes : List (Fin 8)) (s : State), s.kce.owner ≠ .none →
    Completes (.lockRequest codes) s fun t => t = s) ∧
  (∀ (code : Fin 8) (s : State), s.kce.owner ≠ .none → s.kce.owner.code = code.val →
    Completes (.lockRelease code) s fun t =>
      t.kce.owner = .none ∧ t.kce.busy = false ∧ (s.kce.busy = true → t.kce.err = .aborted)) ∧
  (∀ (code : Fin 8) (s : State), s.kce.owner.code ≠ code.val →
    Completes (.lockRelease code) s fun t => t = s) ∧
  ∀ s : State,
    (s.lockOverdue = true →
      Completes .lockRevoke s fun t =>
        t.kce.owner = .none ∧ t.kce.busy = false ∧ t.fired 1229 .warn) ∧
    (s.lockOverdue = false → Completes .lockRevoke s fun t => t = s)

/-- Core G messages (R241 to R243, Table KCE-1): a start with a bad length, a fenced core or an absent key ends at
once with its code; otherwise the bytes written are absorbed, and the finish gives the tag of exactly the declared
length, UNDERRUN below it, OVERRUN above it. A stall of 1 ms ends the message with ENTROPY at WARN; a core that fails
its self-test is fenced at FAULT. -/
def Obligations.CoreGMessagesEndWithOneOutcome : Prop :=
  (∀ (path : Path) (s : State), s.kce.isOwner path = false → ∀ data,
    ∀ c ∈ [Instr.msgStart path, .dataInWrite path data, .msgFinish path],
      Completes c s fun t => t = s.notOwner) ∧
  (∀ (path : Path) (s : State), s.kce.isOwner path = true →
    (∀ e, s.kce.busy = false → s.kce.startError = some e →
      Completes (.msgStart path) s fun t => t.kce.busy = false ∧ t.kce.err = e ∧ t.kce.tag = 0#128) ∧
    (s.kce.busy = false → s.kce.startError = none →
      Completes (.msgStart path) s fun t =>
        t.kce.busy = true ∧ t.kce.tag = 0#128 ∧
          t.kce.cmac = cmacStart (s.kce.key s.kce.keyReg.toNat)) ∧
    (s.kce.busy = true → s.kce.stallG = false →
      (s.kce.remaining = 0 →
        (∀ data, Completes (.dataInWrite path data) s fun t =>
          t.kce.busy = false ∧ t.kce.err = .overrun) ∧
        Completes (.msgFinish path) s fun t =>
          t.kce.busy = false ∧ t.kce.err = .ok ∧ t.kce.tag = cmacTag s.kce.cmac) ∧
      (s.kce.remaining ≠ 0 →
        (∀ data, Completes (.dataInWrite path data) s fun t =>
          t.kce.busy = true ∧
            t.kce.cmac = cmacFeed s.kce.cmac (bytesOf (min 4 s.kce.remaining) data)) ∧
        Completes (.msgFinish path) s fun t =>
          t.kce.busy = false ∧ t.kce.err = .underrun ∧ t.kce.tag = s.kce.tag))) ∧
  (∀ (ok : Bool) (s : State),
    Completes (.drbgReseed true ok) s (fun t =>
      t.kce.entropyOk = ok ∧ t.kce.stallG = !ok ∧ t.kce.stallL = s.kce.stallL) ∧
    Completes (.drbgReseed false ok) s fun t =>
      t.kce.entropyOk = ok ∧ t.kce.stallG = s.kce.stallG ∧ t.kce.stallL.isSome = !ok) ∧
  ∀ s : State, s.kce.sealing = none → s.kce.verify = none →
    (s.kce.stallG = true → s.kce.busy = true →
      Completes .entropyStallTimeout s fun t =>
        t.kce.busy = false ∧ t.kce.err = .entropy ∧ t.fired 1226 .warn) ∧
    (∀ coreG, Completes (.kceSelfTest coreG true) s fun t => t = s) ∧
    Completes (.kceSelfTest true false) s (fun t =>
      t.kce.coreGFenced = true ∧ t.kce.busy = false ∧ t.fired 1225 .fault ∧
        (s.kce.busy = true → t.kce.err = .engine)) ∧
    Completes (.kceSelfTest false false) s fun t => t.kce.coreLFenced = true ∧ t.fired 1224 .fault

/-- Seals and verify-reads (R252, R253, R259 to R261, R263): once no write to the extent is left the seal sequence is
stored and core G started; each line is fed in order, the last one gives the tag, and Poison ends the seal with no
extent left; the confirmed registry and the stored extent list commit it. A verify-read retires at NOTE where the tags
are equal, and otherwise ends at FAULT; each end frees the lock. -/
def Obligations.SealsCommitOrLeaveNoExtent : Prop :=
  (∀ (r : SealRun) (s : State), s.kce.sealing = some r →
    (∀ u stored, r.started = false → s.writesTo r.base r.len = false →
      (s.counterInc 3 stored = (u, true) →
        Completes (.sealDrainDone stored) s fun t =>
          t.kce.sealing = some { r with started := true, seq := BitVec.ofNat 64 (u.sea.counter 3) } ∧
            t.kce.busy = true ∧ t.kce.msgLen = BitVec.ofNat 41 (64 + r.len * 2 ^ 20)) ∧
      (s.counterInc 3 stored = (u, false) →
        Completes (.sealDrainDone stored) s fun t =>
          t.kce.sealing = none ∧ Sparse.find t.kce.extents r.id = none ∧ t.kce.owner = .none ∧
            t.fired 1228 .fault)) ∧
    (∀ d, r.started = true → r.tagDone = false → s.kce.stallG = false →
      (s.streamLine (r.base * 2 ^ 20 + 64 * r.nextLine) = some none →
        Completes .sealLineFeed s fun t =>
          t.kce.sealing = none ∧ Sparse.find t.kce.extents r.id = none ∧ t.kce.owner = .none ∧
            t.fired 1228 .fault) ∧
      (s.streamLine (r.base * 2 ^ 20 + 64 * r.nextLine) = some (some d) →
        (r.nextLine + 1 ≠ r.len * 16384 →
          Completes .sealLineFeed s fun t =>
            t.kce.sealing = some { r with nextLine := r.nextLine + 1 } ∧
              t.kce.cmac = cmacFeed s.kce.cmac (bytesOf 64 d)) ∧
        (r.nextLine + 1 = r.len * 16384 →
          Completes .sealLineFeed s fun t =>
            t.kce.sealing = some { r with
              nextLine := r.nextLine + 1, tagDone := true
              tag := cmacTag (cmacFeed s.kce.cmac (bytesOf 64 d)) }))) ∧
    (r.tagDone = true → (s.mb r.mbox.val).bgAborted = false →
      Completes (.sealRegistryConfirmed true) s fun t =>
        t.kce.sealing = none ∧ Sparse.find t.kce.extents r.id = some ⟨r.base, r.len, true⟩ ∧
          Sparse.find t.kce.registry r.id =
            some ⟨r.keyReg, r.base * 2 ^ 20, r.len, r.seq, r.time, r.tag, 1⟩ ∧
          Sparse.find t.sea.extents r.id = some ⟨r.base, r.len, true⟩ ∧ t.kce.owner = .none)) ∧
  ∀ (r : VerifyRun) (g : Registry) (s : State), s.kce.verify = some r →
    Sparse.find s.kce.registry r.id = some g →
    (r.tag = none → s.kce.stallG = false →
      (s.streamLine (g.base + 64 * r.nextLine) = some none →
        Completes .verifyLineFeed s fun t =>
          t.kce.verify = none ∧ t.kce.owner = .none ∧ t.fired 1228 .fault) ∧
      ∀ d, s.streamLine (g.base + 64 * r.nextLine) = some (some d) →
        r.nextLine + 1 ≠ g.len * 16384 →
        Completes .verifyLineFeed s fun t =>
          (∃ v, t.kce.verify = some v ∧ v.nextLine = r.nextLine + 1 ∧ v.tag = none) ∧
            t.kce.cmac = cmacFeed s.kce.cmac (bytesOf 64 d)) ∧
    ∀ tag, r.tag = some tag →
      Completes .verifyRetire s fun t =>
        t.kce.verify = none ∧ t.kce.owner = .none ∧
          t.fired 1228 (if tag = g.tag then .note else .fault)

/-- Debug access (R271, R272, R247): an entry raises the debug epoch by one and grants access at WARN, or grants it at
CRITICAL with the epoch as it was where the store fails, and copies the epoch to the ditty bag; an exit withdraws
access and revokes the cipher lock where debug holds it. The watchdog, CORE reset and the roll-back of an activation
(R279 to R283, R351): a kick restarts the count; an expiry is counted, recorded at FAULT and requests a CORE reset;
the CORE reset loses the checkpoints, not the cores out of service, frees a lock that firmware held, undoes every
command in execution, and touches neither the cache nor the media; an activation not done after 100 ms returns to the
old image at WARN. -/
def Obligations.DebugWatchdogAndCoreResetSpareTheDatapath : Prop :=
  (∀ s : State,
    (s.rst.aon = true → s.seq.state ≠ .down → s.dbg.granted = false → s.dbg.strap = false →
      s.sea.settled = true → s.sea.saturated 2 = false →
      Completes (.debugEntry true) s (fun t =>
        t.dbg.granted = true ∧ t.dbg.epoch = BitVec.ofNat 24 (s.sea.counter 2 + 1) ∧
          t.dty.dbgEpoch = t.dbg.epoch ∧ t.dty.dbgStart = s.glb.time ∧ t.dbg.storeFailed = false ∧
          t.fired 1278 .warn) ∧
      Completes (.debugEntry false) s fun t =>
        t.dbg.granted = true ∧ t.dbg.epoch = BitVec.ofNat 24 (s.sea.counter 2) ∧
          t.dty.dbgEpoch = t.dbg.epoch ∧ t.dbg.storeFailed = true ∧ t.fired 1278 .critical) ∧
    (s.dbg.granted = true →
      Completes .debugExit s fun t =>
        t.dbg.granted = false ∧ t.dbg.strap = false ∧ t.fired 1279 .note ∧
          (s.kce.owner = .debug → t.kce.owner = .none ∧ t.fired 1229 .warn) ∧
          (s.kce.owner ≠ .debug → t.kce = s.kce)) ∧
    (s.dbg.granted = false →
      Completes .debugExit s fun t => t.dbg.entering = false ∧ t.log = s.log ∧ t.evt = s.evt)) ∧
  ((∀ (path : Path) (s : State), (s.resetPath path).isSome →
    Completes (.wdogKick path) s fun t => t.mst.kickedAt = s.clock ∧ t.mst.expiries = s.mst.expiries) ∧
  (∀ s : State,
    (s.mst.running = true → s.mst.wdPaused = false → s.elapsed s.mst.kickedAt (ms s.mst.timeoutMs) = true →
      s.rst.request = none →
      Completes .wdogExpiry s fun t =>
        t.mst.expiries = satAdd 0x3F s.mst.expiries 1 ∧ t.mst.wdPaused = true ∧ t.fired 1233 .fault ∧
          t.rst.request.map ResetReq.level = some .core ∧
          t.rst.request.map ResetReq.source = some 0x08) ∧
    (s.mst.activating = true → s.mst.takeover = false → s.elapsed s.mst.activateAt (ms 100) = true →
      Completes .activationTimeout s fun t =>
        t.mst.activating = false ∧ t.mst.running = true ∧ t.mst.slot = s.mst.slot ∧
          t.mst.activateMbox = none ∧ t.fired 1236 .warn)) ∧
  ∀ (src : CoreSource) (w : Bool) (s : State), s.rst.request = some ⟨.core, coreCode src, w⟩ →
    s.configSettled = true → s.mst.lead.isSome → s.mst.released = true →
    Completes (.coreReset src) s fun t =>
      t.rst.request = none ∧ t.rst.level = .core ∧ t.rst.source = BitVec.ofNat 5 (coreCode src) ∧
        t.rst.prevLevel = s.rst.level ∧ t.rst.prevSource = s.rst.source ∧
        t.mst.running = true ∧ t.mst.coreResets = satAdd 0xFF s.mst.coreResets 1 ∧ t.mst.banks = [] ∧
        t.mst.retired = s.mst.retired ∧
        (s.kce.owner = .firmware → t.kce.owner = .none) ∧
        (∀ m < 5, (s.mb m).st = .executing → (t.mb m).st = .idle ∧ (t.mb m).rc = 0x5#16) ∧
        ((∀ m < 5, (s.mb m).bgActive = false) → t.cache = s.cache ∧ t.media = s.media ∧ t.vbf = s.vbf))

/-- Lockstep and takeover (R274 to R278, Table MAST-1): a task's checkpoint goes to the other bank; a mismatch halts
the pair, pauses the watchdog and is recorded at FAULT; the configuration is the spare with the lowest passing core,
the spare alone, one passing core alone, or none, which is Out of service; it resumes at the newest valid checkpoint;
a spare that fails its self-test is retired at FAULT. -/
def Obligations.TakeoverChoosesTheTableConfiguration : Prop :=
  ∀ s : State,
    (s.mst.running = true →
      Completes .taskCheckpoint s fun t =>
        t.mst.bank = !s.mst.bank ∧ t.mst.tasks = s.mst.tasks + 1 ∧
          Sparse.find t.mst.banks (b2n (!s.mst.bank)) = some (s.mst.tasks + 1) ∧
          (s.mst.activateMbox = none → t.mst.running = true) ∧
          (s.mst.activateMbox ≠ none → t.mst.running = false ∧ t.mst.activating = true)) ∧
    (s.mst.running = true → s.mst.takeover = false → s.mst.checker.isSome →
      Completes .lockstepMismatch s fun t =>
        t.mst.running = false ∧ t.mst.takeover = true ∧ t.mst.wdPaused = true ∧ t.fired 1230 .fault) ∧
    (s.mst.checker = none → Completes .lockstepMismatch s fun t => t = s) ∧
    (∀ l c (lp cp : Bool), s.mst.lead = some l → s.mst.checker = some c → s.mst.takeover = true →
      s.mst.row = 0 →
      (∀ x, s.mst.spare = some x → (lp || cp) = true →
        Completes (.configChosen lp cp) s fun t =>
          t.mst.lead = some (min (if lp then l else c) x) ∧
            t.mst.checker = some (max (if lp then l else c) x) ∧ t.mst.spare = none) ∧
      (∀ x, s.mst.spare = some x → (lp || cp) = false →
        Completes (.configChosen lp cp) s fun t =>
          t.mst.lead = some x ∧ t.mst.checker = none ∧ t.mst.spare = none ∧ t.mst.unchecked = true) ∧
      (s.mst.spare = none → (lp || cp) = true →
        Completes (.configChosen lp cp) s fun t =>
          t.mst.lead = some (if lp then l else c) ∧ t.mst.checker = none ∧ t.mst.unchecked = true) ∧
      (s.mst.spare = none → (lp || cp) = false →
        Completes (.configChosen lp cp) s fun t =>
          t.mst.lead = none ∧ t.mst.checker = none ∧ t.glb.level = .outOfService ∧
            t.fired 1231 .critical)) ∧
    (∀ valid b n, s.mst.takeover = true → s.mst.row ≠ 0 → s.mst.newest valid = some (b, n) →
      Completes (.takeoverResume valid) s fun t =>
        t.mst.takeover = false ∧ t.mst.running = !s.mst.activating ∧ t.mst.tasks = n ∧
          t.mst.takeovers = satAdd 0xFF s.mst.takeovers 1 ∧ t.mst.wdPaused = false ∧
          t.mst.kickedAt = s.clock) ∧
    (∀ c, s.mst.spare = some c → s.mst.takeover = false → s.mst.released = true →
      Completes (.spareSelfTest true) s (fun t => t = s) ∧
      Completes (.spareSelfTest false) s fun t =>
        t.mst.spare = none ∧ t.mst.lead = s.mst.lead ∧ t.fired 1232 .fault)

/-- The mailboxes (R267, R285, R286, R290): a doorbell outside IDLE is ignored; hardware answers an over-long payload
with Invalid Payload Length and a command without firmware with Busy; a class that Table SEC-2 does not allow
completes refused, at WARN; every other command is taken to EXECUTING and journalled. The completion that firmware
posts leaves the mailbox IDLE. An opcode of no table is Unsupported. -/
def Obligations.DoorbellsAreTakenOrAnswered : Prop :=
  (∀ (m : Mbox) (port : Port) (op : BitVec 16) (p : List Byte) (s : State), mboxPort m.val = some port →
    (s.port port).linkUp = true →
    ((s.mb m.val).st ≠ .idle → Completes (.mailboxDoorbell m op p) s fun t => t = s) ∧
    ((s.mb m.val).st = .idle →
      (mailboxSize m < p.length →
        Completes (.mailboxDoorbell m op p) s fun t =>
          (t.mb m.val).st = .idle ∧ (t.mb m.val).rc = 0x16#16) ∧
      (p.length ≤ mailboxSize m → s.mst.running = false →
        Completes (.mailboxDoorbell m op p) s fun t =>
          (t.mb m.val).st = .idle ∧ (t.mb m.val).rc = 0x6#16) ∧
      ∀ c, p.length ≤ mailboxSize m → s.mst.running = true → opClass op = some c →
        (s.classAllowed m.val c = false →
          Completes (.mailboxDoorbell m op p) s fun t =>
            (t.mb m.val).st = .idle ∧ (t.mb m.val).vendor = 0x0102#16 ∧ t.fired 1237 .warn) ∧
        (s.classAllowed m.val c = true → lengthOk op p = true →
          Completes (.mailboxDoorbell m op p) s fun t =>
            (t.mb m.val).st = .executing ∧ (t.mb m.val).opcode = op ∧ (t.mb m.val).payload = p ∧
              t.mst.journal = s.mst.journal ++ [⟨m, op, false⟩]))) ∧
  ∀ (m : Mbox) (s : State),
    (∀ path, (s.mb m.val).st ≠ .executing → Completes (.mbDoneGo path m) s fun t => t = s) ∧
    (∀ path, s.pathOpen path = true → (s.mb m.val).st = .executing →
      ((s.mb m.val).background = false →
        Completes (.mbDoneGo path m) s fun t =>
          (t.mb m.val).st = .idle ∧ (t.mb m.val).rc = (s.mb m.val).rcReg ∧
            (t.mb m.val).vendor = (s.mb m.val).vendorReg ∧
            (t.mb m.val).outLen = (s.mb m.val).outLen) ∧
      ((s.mb m.val).background = true → (s.mb m.val).bgActive = false →
        Completes (.mbDoneGo path m) s fun t =>
          (t.mb m.val).st = .idle ∧ (t.mb m.val).rc = 0x1#16 ∧ (t.mb m.val).bgActive = true ∧
            (t.mb m.val).bgOpcode = (s.mb m.val).opcode)) ∧
    ((s.mb m.val).st = .executing → opClass (s.mb m.val).opcode = none →
      Completes (.unsupportedCommand m) s fun t =>
        (t.mb m.val).st = .idle ∧ (t.mb m.val).rc = 0x3#16)

/-- Retire and abort (R288, Table MAST-5): the first of the two wins; an abort of a retired command, or of none,
answers that there is nothing to abort, one that may not be aborted continues, and one aborted ends with Aborted. The
sideband (R289): a request meets an IDLE mailbox 4 or is answered Busy unexecuted, an incomplete one writes no
response, and the control messages are answered. -/
def Obligations.RetireExcludesAbortAndSidebandAnswers : Prop :=
  (∀ (m : Mbox) (s : State), s.mst.running = true →
    ((s.mb m.val).bgActive = true → (s.mb m.val).bgAborted = false →
      Completes (.hlyRetireRequest m) s fun t =>
        t.hly.retireGranted = true ∧ t.hly.retireLost = false ∧ (t.mb m.val).bgRetired = true) ∧
    ((s.mb m.val).bgAborted = true → (s.mb m.val).st ≠ .executing →
      Completes (.hlyRetireRequest m) s fun t =>
        t.hly.retireGranted = false ∧ t.hly.retireLost = true ∧ t.hly.mb = s.hly.mb) ∧
    ((s.mb m.val).bgActive = false ∨ (s.mb m.val).bgRetired = true →
      Completes (.hlyAbortRequest m) s fun t =>
        t.hly.abortGranted = false ∧ t.hly.abortNothing = true ∧ t.hly.mb = s.hly.mb) ∧
    ((s.mb m.val).bgActive = true → (s.mb m.val).bgRetired = false →
      ((s.mb m.val).bgAbortable = false →
        Completes (.hlyAbortRequest m) s fun t =>
          t.hly.abortGranted = false ∧ t.hly.abortNothing = false ∧ t.hly.mb = s.hly.mb) ∧
      ((s.mb m.val).bgAbortable = true →
        (s.mb m.val).bgOpcode.toNat ∉ [0x0202, 0xC020, 0xC021, 0xC051] →
        Completes (.hlyAbortRequest m) s fun t =>
          t.hly.abortGranted = true ∧ (t.mb m.val).bgActive = false ∧
            (t.mb m.val).bgRc = 0x12#16))) ∧
  ∀ s : State,
    Completes .sidebandReassemblyTimeout s (fun t => t.hly.mctpOut = none ∧ t.hly.mb = s.hly.mb) ∧
    (s.hly.sidebandOn = true →
      (∀ op p, (s.mb 4).st ≠ .idle →
        Completes (.sidebandRequest op p) s fun t =>
          t.hly.mctpOut = some (.busy op) ∧ t.hly.mb = s.hly.mb) ∧
      (∀ op p, (s.mb 4).st = .idle → s.mst.running = true → p.length ≤ mailboxSize 4 →
        (opClass op).isSome → lengthOk op p = true →
        Completes (.sidebandRequest op p) s fun t =>
          (t.mb 4).st = .executing ∧ (t.mb 4).opcode = op ∧ (t.mb 4).payload = p) ∧
      (∀ eid, eid ≠ 0x00#8 → eid ≠ 0xFF#8 →
        Completes (.setEndpointId eid) s fun t =>
          t.hly.eid = eid ∧ t.hly.mctpOut = some (.setEid true eid)) ∧
      Completes .getEndpointId s (fun t =>
        t.hly.mctpOut = some (.getEid s.hly.eid) ∧ t.hly.eid = s.hly.eid) ∧
      Completes (.getMctpVersionSupport 0x08#8) s (fun t =>
        (∃ v, t.hly.mctpOut = some (.version 0x08#8 true v)) ∧ t.draws = s.draws + 1) ∧
      Completes .getMessageTypeSupport s fun t => t.hly.mctpOut = some (.messageTypes [0x08#8]))

/-- The commands that report (R292 to R294, R298, R299): a command that firmware does not hold in EXECUTING changes
nothing; one that it holds completes with Success and the state asked for, and changes no state that it reports. Get
Health Info reads the controller temperature, a free value, once. Get Poison List beyond the memory is refused with
Invalid Physical Address; Get Trim Plan beyond the margins and Get Seal Record of an extent not SEALED are refused
with range. -/
def Obligations.QueryCommandsReportState : Prop :=
  (∀ (m : Mbox) (log : Fin 4) (s : State),
    ∀ q ∈ [(0x0001, Instr.identify m, Output.identify Config.serial),
      (0x0100, .getEventRecords m log,
        .events ((s.mboxLog m.val log.val).recs.take (recordsFit m))
          (decide (recordsFit m < (s.mboxLog m.val log.val).recs.length))
          (s.mboxLog m.val log.val).overflow (s.mboxLog m.val log.val).firstOverflow
          (s.mboxLog m.val log.val).lastOverflow),
      (0x0102, .getEventInterruptPolicy m,
        .policy (match mboxPort m.val with
          | some p => [(s.port p).logVec 0, (s.port p).logVec 1, (s.port p).logVec 2, (s.port p).logVec 3]
          | none => [255, 255, 255, 255])),
      (0x0200, .getFwInfo m,
        .fwInfo (s.activeSlot + 1) (s.mst.staged.map fun b => b2n b + 1)
          [s.sea.readFlash 262144 256, s.sea.readFlash 655360 256]),
      (0x0300, .getTimestamp m, .timestamp s.glb.time),
      (0x0400, .getSupportedLogs m, .supportedLogs true),
      (0x0401, .getLog m,
        .log (commands.map fun e => (BitVec.ofNat 16 e.1,
          [0x0202, 0x4400, 0x4401, 0xC020, 0xC021, 0xC050, 0xC051, 0xC070].contains e.1))),
      (0x4000, .identifyMemoryDevice m,
        .memoryDevice (s.mboxSize m.val / 268435456) (s.mboxSize m.val / 268435456) 0 0 0 1048576 1024 true),
      (0x4100, .getPartitionInfo m, .partition (s.mboxSize m.val / 268435456)),
      (0x4201, .getAlertConfiguration m, .alerts s.hly.alertCfg),
      (0x4203, .getShutdownState m, .shutdown s.hly.shutdownClean),
      (0xC001, .getDeviceStatus m, .bytes s.deviceStatus),
      (0xC002, .getDirtyBudget m, .bytes s.dirtyBudget)],
      (s.taken m.val q.1 = true → Completes q.2.1 s fun t =>
        t.answered m .success .none q.2.2 ∧ t.glb = s.glb ∧ t.mst.slot = s.mst.slot ∧ t.evt = s.evt ∧
          t.hly.alertCfg = s.hly.alertCfg ∧ t.hly.shutdownClean = s.hly.shutdownClean) ∧
      (s.taken m.val q.1 = false → Completes q.2.1 s fun t => t = s)) ∧
  (∀ (m : Mbox) (s : State), s.taken m.val 0x0002 = true →
    (m.val % 2 = 0 → Completes (.backgroundOperationStatus m) s fun t =>
      t.answered m .success .none (.background (s.mb m.val).bgOpcode (s.mb m.val).bgPercent
        (s.mb m.val).bgActive (s.mb m.val).bgRc (s.mb m.val).bgVendor)) ∧
    (m.val % 2 = 1 → Completes (.backgroundOperationStatus m) s fun t =>
      t.answered m .unsupported .none .empty)) ∧
  (∀ (m : Mbox) (s : State), s.taken m.val 0x4200 = true →
    Completes (.getHealthInfo m) s fun t =>
      t.draws = s.draws + 1 ∧ ∃ h, t.answered m .success .none (.health h) ∧
        (h.maintenanceNeeded = true ↔ s.glb.level ≠ .full) ∧
        (h.performanceDegraded = true ↔ 2 ≤ s.glb.level.code) ∧
        h.replacementNeeded = s.replacementNeeded ∧ h.lifeUsed = s.lifeUsed ∧
        h.dirtyShutdowns = s.sea.counter 4) ∧
  (∀ (m : Mbox) (dpa : BitVec 48) (lines : Nat) (s : State), s.taken m.val 0x4300 = true →
    (s.mboxSize m.val < dpa.toNat + 64 * lines →
      Completes (.getPoisonList m dpa lines) s fun t => t.answered m .invalidPhysicalAddress .none .empty) ∧
    ∀ a, s.mboxDpa m.val dpa.toNat = some a → dpa.toNat + 64 * lines ≤ s.mboxSize m.val →
      Completes (.getPoisonList m dpa lines) s fun t =>
        t.wlv = s.wlv ∧ ∃ runs more, t.answered m .success .none
          (.poison runs more s.wlv.overflow s.wlv.overflowAt) ∧ (∀ r ∈ runs, 1 ≤ r.lines) ∧
          runs = ((poisonRuns (s.poisonLines a (a + 64 * lines))).map fun r =>
            { r with dpa := s.fromDevice m.val r.dpa }).take (poisonFit m)) ∧
  ∀ (m : Mbox) (s : State),
    (s.taken m.val 0xC003 = true →
      (∀ e g, reservedZero (s.payload m.val) [2, 3] = true →
        Sparse.find s.kce.extents (leField (s.payload m.val) 0 2) = some e → e.sealed = true →
        Sparse.find s.kce.registry (leField (s.payload m.val) 0 2) = some g →
        Completes (.getSealRecord m) s fun t =>
          t.kce = s.kce ∧
            t.answered m .success .none (.bytes (registryImage (leField (s.payload m.val) 0 2) g))) ∧
      (Sparse.find s.kce.extents (leField (s.payload m.val) 0 2) = none →
        Completes (.getSealRecord m) s fun t => t.kce = s.kce ∧ t.answered m .invalidInput .range .empty)) ∧
    (s.taken m.val 0xC011 = true →
      (margins.length ≤ leField (s.payload m.val) 0 2 →
        Completes (.getTrimPlan m) s fun t => t.answered m .invalidInput .range .empty) ∧
      (leField (s.payload m.val) 0 2 < margins.length → reservedZero (s.payload m.val) [2, 3] = true →
        Completes (.getTrimPlan m) s fun t =>
          t.trm = s.trm ∧ t.answered m .success .none
            (.bytes (leBytes 4 s.trm.generation.toNat ++ bytesOf 8 s.trm.appliedT ++
              leBytes 2 margins.length ++
              leBytes 2 (min (entriesFit m) (margins.length - leField (s.payload m.val) 0 2)) ++
              (((margins.drop (leField (s.payload m.val) 0 2)).take (entriesFit m)).map
                s.trimEntry).flatten))))

/-- The commands that set a volatile value or a record (R293, R295, R299 to R301, R305, R306, R364): each takes the
value of its payload, or is refused with no change: a bad override entry refuses the whole command, a store that fails
leaves every record, a ticket beyond 32 open ones is refused with queue_full, a record handle that is not held is
Invalid Input. -/
def Obligations.SettingCommandsChangeWhatTheyName : Prop :=
  (∀ (m : Mbox) (log : Fin 4) (hs : List Nat) (s : State), s.taken m.val 0x0101 = true →
    ((∀ h ∈ hs, ∃ r ∈ (s.mboxLog m.val log.val).recs, r.handle = h) →
      Completes (.clearEventRecords m log hs) s fun t =>
        t.answered m .success .none .empty ∧
          (t.mboxLog m.val log.val).recs =
            (if hs = [] then [] else (s.mboxLog m.val log.val).recs.filter fun r => !hs.contains r.handle) ∧
          (t.mboxLog m.val log.val).overflow = 0) ∧
    ((∃ h ∈ hs, ∀ r ∈ (s.mboxLog m.val log.val).recs, r.handle ≠ h) →
      Completes (.clearEventRecords m log hs) s fun t =>
        t.answered m .invalidInput .none .empty ∧ t.mboxLog m.val log.val = s.mboxLog m.val log.val)) ∧
  (∀ (m : Mbox) (log : Fin 4) (msix : Bool) (v : Fin 32) (s : State), s.taken m.val 0x0103 = true →
    (∀ p, mboxPort m.val = some p → Completes (.setEventInterruptPolicy m log msix v) s fun t =>
      t.answered m .success .none .empty ∧ (t.port p).logVec log.val = if msix then v.val else 255) ∧
    (mboxPort m.val = none → Completes (.setEventInterruptPolicy m log msix v) s fun t =>
      t.answered m .unsupported .none .empty ∧ t.port0 = s.port0 ∧ t.port1 = s.port1)) ∧
  (∀ (m : Mbox) (time : BitVec 64) (l : Nat) (o u : Int) (ve pe : Nat) (c : Bool) (s : State),
    (s.taken m.val 0x0301 = true → Completes (.setTimestamp m time) s fun t =>
      t.glb.time = time ∧ t.answered m .success .none .empty) ∧
    (s.taken m.val 0x4202 = true → Completes (.setAlertConfiguration m l o u ve pe) s fun t =>
      t.hly.alertCfg = ⟨l, o, u, ve, pe⟩ ∧ t.answered m .success .none .empty) ∧
    (s.taken m.val 0x4204 = true → Completes (.setShutdownState m c) s fun t =>
      t.hly.shutdownClean = c ∧ t.answered m .success .none .empty)) ∧
  (∀ (m : Mbox) (stored : Bool) (s : State), s.taken m.val 0xC010 = true →
    (2048 ≤ leField (s.payload m.val) 0 4 → Completes (.seaChestStore m stored) s fun t =>
      t.sea = s.sea ∧ t.answered m .invalidInput .range .empty) ∧
    (leField (s.payload m.val) 0 4 < 2048 →
      (stored = false → Completes (.seaChestStore m stored) s fun t =>
        t.sea.recs = s.sea.recs ∧ t.fired 1275 .fault ∧ t.answered m .internalError .storeFailed .empty) ∧
      (stored = true → s.sea.fits ((groupsOf (leField (s.payload m.val) 0 4)).map fun b =>
          (recGroup b, s.groupPayload b)) = true →
        Completes (.seaChestStore m stored) s fun t =>
          ∃ out, t.answered m .success .none (.bytes out) ∧
            ∀ b < 11, (leField (s.payload m.val) 0 4).testBit b = true →
              t.sea.value (recGroup b) = some (s.groupPayload b)))) ∧
  ∀ (m : Mbox) (s : State),
    (s.taken m.val 0xC012 = true →
      ((List.range (leField (s.payload m.val) 0 2)).all (overrideOk (s.payload m.val)) = false →
        Completes (.setTrimOverride m) s fun t =>
          t.trm = s.trm ∧ t.answered m .invalidInput .range .empty) ∧
      (leField (s.payload m.val) 0 2 = 1 → reservedZero (s.payload m.val) [2, 3] = true →
        overrideOk (s.payload m.val) 0 = true → Completes (.setTrimOverride m) s fun t =>
          t.trm.due = true ∧ t.answered m .success .none .empty ∧
            Sparse.find t.trm.overrides (overrideAt (s.payload m.val) 0).margin =
              if (overrideAt (s.payload m.val) 0).release then none
              else some (overrideAt (s.payload m.val) 0).value)) ∧
    (s.taken m.val 0xC013 = true → reservedZero (s.payload m.val) [1] = true →
      (leField (s.payload m.val) 0 1 = 0 → Completes (.reefBudget m) s fun t =>
        t.reef = s.reef ∧ t.answered m .success .none
          (.bytes (leBytes 2 s.reef.budgetW ++ leBytes 2 s.storedBudget))) ∧
      (leField (s.payload m.val) 0 1 = 1 → 100 ≤ leField (s.payload m.val) 2 2 →
        leField (s.payload m.val) 2 2 ≤ 280 → Completes (.reefBudget m) s fun t =>
          t.reef.budgetW = leField (s.payload m.val) 2 2 ∧ t.answered m .success .none
            (.bytes (leBytes 2 (leField (s.payload m.val) 2 2) ++ leBytes 2 s.storedBudget))) ∧
      (leField (s.payload m.val) 0 1 = 1 →
        (leField (s.payload m.val) 2 2 < 100 ∨ 280 < leField (s.payload m.val) 2 2) →
        Completes (.reefBudget m) s fun t => t.reef = s.reef ∧ t.answered m .invalidInput .range .empty)) ∧
    (s.taken m.val 0xC060 = true → leField (s.payload m.val) 0 1 = 0 →
      testUnitOk (leField (s.payload m.val) 1 1) (leField (s.payload m.val) 2 2) = true →
      (32 ≤ s.trm.tickets.countP Ticket.isOpen → Completes (.selfTest m) s fun t =>
        t.trm = s.trm ∧ t.answered m .busy .queueFull .empty) ∧
      (s.trm.tickets.countP Ticket.isOpen < 32 → Completes (.selfTest m) s fun t =>
        t.trm.nextTicket = s.trm.nextTicket + 1 ∧ (∃ out, t.answered m .success .none (.bytes out)) ∧
          ∃ k ∈ t.trm.tickets, k.id = s.trm.nextTicket ∧ k.state = .waiting ∧
            k.test = leField (s.payload m.val) 1 1 ∧ k.unit = leField (s.payload m.val) 2 2)) ∧
    (s.taken m.val 0xC061 = true → reservedZero (s.payload m.val) [3] = true →
      leField (s.payload m.val) 2 1 ≤ 15 → leField (s.payload m.val) 1 1 = 1 →
      (∀ q, mboxPort m.val = some q → (s.port q).mode ≠ 0b01#2) →
      (leField (s.payload m.val) 0 1 = 0 → Completes (.pmuGrant m) s fun t =>
        t.pmu.grant0 = s.pmu.grant0 ||| BitVec.ofNat 4 (leField (s.payload m.val) 2 1) ∧
          t.pmu.grant1 = s.pmu.grant1 ∧ t.answered m .success .none .empty) ∧
      (leField (s.payload m.val) 0 1 = 1 → Completes (.pmuGrant m) s fun t =>
        t.pmu.grant1 = s.pmu.grant1 ||| BitVec.ofNat 4 (leField (s.payload m.val) 2 1) ∧
          t.pmu.grant0 = s.pmu.grant0 ∧ t.answered m .success .none .empty))

/-- Firmware images and aborts (R282, R283, R287, R288, Table MAST-5): a transfer goes to the slot that is not active
and in order; an activation of a bad image is FW Authentication Failed, an offline one is staged for the next reset,
an online one runs in the background, and once its steps are done the image's slot is the active one. An abort of a
command past its retire point, or of none, answers that there is nothing to abort; one that may not be aborted is
Unsupported. -/
def Obligations.FirmwareImagesActivateAndAbortsAnswer : Prop :=
  (∀ (m : Mbox) (slot : Fin 2) (off : Nat) (data : List Byte) (s : State), s.taken m.val 0x0201 = true →
    (slot.val = s.activeSlot → Completes (.transferFw m slot off data) s fun t =>
      t.mst.fw = s.mst.fw ∧ t.sea = s.sea ∧ t.answered m .invalidSlot .none .empty) ∧
    (slot.val ≠ s.activeSlot → 128 * off + data.length ≤ fwSlotBytes →
      (off ≠ 0 → 128 * off ≠ (Sparse.get FwSlot.empty s.mst.fw slot.val).bytes →
        Completes (.transferFw m slot off data) s fun t =>
          t.mst.fw = s.mst.fw ∧ t.sea = s.sea ∧ t.answered m .fwOutOfOrder .none .empty) ∧
      (off = 0 ∨ 128 * off = (Sparse.get FwSlot.empty s.mst.fw slot.val).bytes →
        Completes (.transferFw m slot off data) s fun t =>
          t.answered m .success .none .empty ∧
            (Sparse.get FwSlot.empty t.mst.fw slot.val).bytes = 128 * off + data.length))) ∧
  (∀ (m : Mbox) (slot : Fin 2) (s : State), s.taken m.val 0x0202 = true → slot.val ≠ s.activeSlot →
    (∀ acc, Completes (.activateFw m slot false false acc) s fun t =>
      t.mst.staged = s.mst.staged ∧ t.mst.slot = s.mst.slot ∧ t.answered m .fwAuthFailed .none .empty) ∧
    (∀ acc, Completes (.activateFw m slot false true acc) s fun t =>
      t.mst.staged = some (slot.val == 1) ∧ t.mst.slot = s.mst.slot ∧ t.answered m .success .none .empty) ∧
    (s.anyBg = false → Completes (.activateFw m slot true true true) s fun t =>
      t.mst.activateMbox = some m ∧ t.mst.slot = s.mst.slot ∧ t.inBackground m 0x0202)) ∧
  (∀ (m : Mbox) (slot k : Fin 2) (x y z : Bool) (s : State), s.taken m.val 0x0202 = false →
    (s.mb m.val).bgActive = true → (s.mb m.val).bgOpcode = 0x0202#16 → s.mst.activating = true →
    s.mst.takeover = false → (s.mb m.val).bgSlot = some k.val →
    s.sea.fits [(0x0304, leBytes 1 k.val)] = true →
    Completes (.activateFw m slot x y z) s fun t =>
      t.activeSlot = k.val ∧ t.mst.running = true ∧ t.mst.activating = false ∧ t.mst.staged = none ∧
        t.sea.value 0x0304 = some (leBytes 1 k.val) ∧ t.bgEnded m .success .none ∧ t.fired 1235 .note) ∧
  ∀ (m : Mbox) (s : State), s.taken m.val 0x0005 = true →
    ((s.mb m.val).bgActive = false ∨ (s.mb m.val).bgRetired = true →
      Completes (.requestAbortBackgroundOperation m) s fun t =>
        t.answered m .success .nothingToAbort .empty ∧ (t.mb m.val).bgActive = (s.mb m.val).bgActive) ∧
    ((s.mb m.val).bgActive = true → (s.mb m.val).bgRetired = false →
      ((s.mb m.val).bgAbortable = false → Completes (.requestAbortBackgroundOperation m) s fun t =>
        t.answered m .unsupported .none .empty ∧ (t.mb m.val).bgActive = true) ∧
      ((s.mb m.val).bgAbortable = true →
        (s.mb m.val).bgOpcode.toNat ∉ [0x0202, 0xC020, 0xC021, 0xC051] →
        Completes (.requestAbortBackgroundOperation m) s fun t =>
          t.answered m .success .none .empty ∧ t.bgEnded m .aborted .aborted))

/-- The commands on data (R292, R295, R296, R239, R307): poison is refused on a sealed line, injected up to 1,024
lines, and cleared by a write; Sanitize, Secure Erase and Format Media Set are refused while an extent is sealed or
another command of the media set runs, empty the cache and the poison list, run in the background and end with
Success; the format gives the set a new identity. -/
def Obligations.DataCommandsErasePoisonAndFormat : Prop :=
  (∀ (m : Mbox) (dpa : BitVec 48) (data : Line) (s : State),
    ∀ q ∈ [(0x4301, Instr.injectPoison m dpa), (0x4302, .clearPoison m dpa data)],
      s.taken m.val q.1 = true →
      (s.mboxDpa m.val dpa.toNat = none → Completes q.2 s fun t =>
        t.wlv = s.wlv ∧ t.cache = s.cache ∧ t.answered m .invalidPhysicalAddress .none .empty) ∧
      ∀ a, s.mboxDpa m.val dpa.toNat = some a →
        ((s.sealedAt (a / 64 * 64)).isSome → Completes q.2 s fun t =>
          t.wlv = s.wlv ∧ t.cache = s.cache ∧ t.answered m .invalidInput .sealedLine .empty) ∧
        (s.sealedAt (a / 64 * 64) = none → s.inVerifyBuffer (a / 64 * 64) = false →
          s.glb.memoryActive = true → (q.1 = 0x4301 → s.injectedLines < 1024) → Completes q.2 s fun t =>
            t.answered m .success .none .empty)) ∧
  (∀ (m : Mbox) (dpa : BitVec 48) (a : Nat) (s : State), s.taken m.val 0x4301 = true →
    s.mboxDpa m.val dpa.toNat = some a → s.sealedAt (a / 64 * 64) = none →
    s.inVerifyBuffer (a / 64 * 64) = false → s.glb.memoryActive = true → 1024 ≤ s.injectedLines →
    Completes (.injectPoison m dpa) s fun t =>
      t.wlv = s.wlv ∧ t.draws = s.draws ∧ t.answered m .injectPoisonLimit .none .empty) ∧
  (∀ (m : Mbox) (s : State), ∀ q ∈ [(0x4400, Instr.sanitize m), (0x4401, .secureErase m)],
    (s.taken m.val q.1 = true →
      (s.kce.extents ≠ [] → Completes q.2 s fun t =>
        t.cache = s.cache ∧ t.media = s.media ∧ t.answered m .invalidInput .sealedLine .empty) ∧
      (s.kce.extents = [] → s.bgBusy m.val = true → Completes q.2 s fun t =>
        t.cache = s.cache ∧ t.media = s.media ∧ t.answered m .busy .none .empty) ∧
      (s.kce.extents = [] → s.bgBusy m.val = false → s.shr.rkState = .idle →
        s.port0.ingressReq = [] → s.port0.ingressRwd = [] → s.port1.ingressReq = [] →
        s.port1.ingressRwd = [] → Completes q.2 s fun t =>
          t.glb.erasing = true ∧ t.cache.ways = [] ∧ t.wlv.poison = [] ∧ t.wlv.cam = [] ∧
            t.inBackground m q.1)) ∧
    (s.taken m.val q.1 = false → (s.mb m.val).bgActive = true → (s.mb m.val).bgOpcode.toNat = q.1 →
      (s.mb m.val).bgAborted = false → Completes q.2 s fun t =>
        t.glb.erasing = false ∧ t.bgEnded m .success .none ∧ (t.mb m.val).bgRetired = true ∧
          (q.1 = 0x4400 → t.media.cells = [] ∧ t.media.base.plain = Four.zero))) ∧
  (∀ (m : Mbox) (s : State),
    (s.taken m.val 0xC070 = true → leField (s.payload m.val) 0 4 ≠ 0x464F524D → ∀ stored,
      Completes (.formatMediaSet m stored) s fun t =>
        t.media = s.media ∧ t.answered m .invalidInput .range .empty) ∧
    (s.taken m.val 0xC070 = true → leField (s.payload m.val) 0 4 = 0x464F524D → s.bgBusy m.val = false →
      s.glb.memoryActive = true →
      (Completes (.formatMediaSet m false) s fun t =>
        t.media = s.media ∧ t.fired 1275 .fault ∧ t.answered m .internalError .storeFailed .empty) ∧
      (s.shr.rkState = .idle → s.port0.ingressReq = [] → s.port0.ingressRwd = [] →
        s.port1.ingressReq = [] → s.port1.ingressRwd = [] →
        Completes (.formatMediaSet m true) s fun t =>
          t.glb.formatting = true ∧ t.media.setId = some (s.draw.setWidth 128) ∧ t.cache.ways = [] ∧
            t.shr.keyMap = [] ∧ t.wlv.regions = [] ∧ (t.mb m.val).bgActive = true ∧
            (t.mb m.val).bgRetired = true)) ∧
    (s.taken m.val 0xC070 = false → (s.mb m.val).bgActive = true → (s.mb m.val).bgOpcode = 0xC070#16 →
      s.port0.ingressReq = [] → s.port0.ingressRwd = [] → s.port1.ingressReq = [] →
      s.port1.ingressRwd = [] → ∀ stored, Completes (.formatMediaSet m stored) s fun t =>
        t.glb.formatting = false ∧ t.glb.epochCounter = 1 ∧ t.media.cells = [] ∧ t.wlv.poison = [] ∧
          t.kce.extents = [] ∧ t.bgEnded m .success .none))

/-- The commands on extents, keys and modules (R213, R216, R230, R238, R251, R252, R258, R259, R302 to R304): each is
refused with the status of its rule and no change, or starts its work: a seal takes the lock for the lowest free
identifier, a verify-read takes it with its streamer, a key is loaded or zeroized, a rekey runs or is aborted, a
module retires or is admitted. -/
def Obligations.ExtentKeyAndModuleCommandsStartTheirWork : Prop :=
  (∀ (m : Mbox) (a id : Nat) (s : State), s.taken m.val 0xC020 = true →
    s.mboxDpa m.val (leField (s.payload m.val) 0 8) = some a →
    1 ≤ leField (s.payload m.val) 12 1 → leField (s.payload m.val) 12 1 ≤ 7 →
    reservedZero (s.payload m.val) [13, 14, 15] = true →
    leField (s.payload m.val) 0 8 % 2 ^ 20 = 0 → 1 ≤ leField (s.payload m.val) 8 4 →
    leField (s.payload m.val) 8 4 ≤ 1048575 →
    leField (s.payload m.val) 0 8 + leField (s.payload m.val) 8 4 * 2 ^ 20 ≤ s.mboxSize m.val →
    a + leField (s.payload m.val) 8 4 * 2 ^ 20 ≤ s.capacity →
    (s.kce.overlaps a (leField (s.payload m.val) 8 4 * 2 ^ 20) = true →
      Completes (.sealExtent m) s fun t => t.kce = s.kce ∧ t.answered m .invalidInput .overlap .empty) ∧
    (s.kce.overlaps a (leField (s.payload m.val) 8 4 * 2 ^ 20) = false → s.kce.freeId = some id →
      (bitOf s.kce.loaded (leField (s.payload m.val) 12 1) = false →
        Completes (.sealExtent m) s fun t =>
          t.kce = s.kce ∧ t.answered m .invalidInput .keyAbsent .empty) ∧
      (bitOf s.kce.loaded (leField (s.payload m.val) 12 1) = true →
        (s.kce.owner ≠ .none → Completes (.sealExtent m) s fun t =>
          t.kce = s.kce ∧ t.answered m .busy .lockBusy .empty) ∧
        (s.kce.owner = .none → s.bgBusy m.val = false → s.sealLevel = true → s.kce.coreGFenced = false →
          Completes (.sealExtent m) s fun t =>
            t.kce.owner = .seal ∧ t.kce.gen = s.kce.gen + 1#16 ∧
              Sparse.find t.kce.extents id = some ⟨a / 2 ^ 20, leField (s.payload m.val) 8 4, false⟩ ∧
              t.inBackground m 0xC020)))) ∧
  (∀ (m : Mbox) (stored : Bool) (s : State), s.taken m.val 0xC021 = true →
    (Sparse.find s.kce.extents (leField (s.payload m.val) 0 2) = none →
      Completes (.verifyRead m stored) s fun t =>
        t.kce = s.kce ∧ t.answered m .invalidInput .range .empty) ∧
    ∀ e g, Sparse.find s.kce.extents (leField (s.payload m.val) 0 2) = some e → e.sealed = true →
      reservedZero (s.payload m.val) [3, 4, 5, 6, 7] = true → leField (s.payload m.val) 2 1 = 0 →
      Sparse.find s.kce.registry (leField (s.payload m.val) 0 2) = some g →
      bitOf s.kce.loaded g.keyReg = true → s.kce.owner = .none → s.bgBusy m.val = false →
      s.sealLevel = true → s.kce.coreGFenced = false → Completes (.verifyRead m stored) s fun t =>
        t.kce.owner = .verify ∧ t.kce.busy = true ∧ t.kce.extents = s.kce.extents ∧
          t.inBackground m 0xC021) ∧
  (∀ (m : Mbox) (stored : Bool) (r : Nat) (s : State), s.taken m.val 0xC030 = true →
    leField (s.payload m.val) 0 1 = 1 → leField (s.payload m.val) 1 1 = r → 1 ≤ r → r ≤ 7 →
    leField (s.payload m.val) 2 1 = 0 → reservedZero (s.payload m.val) [3, 4, 5, 6, 7] = true →
    leField (s.payload m.val) 40 32 = 0 →
    (leField (s.payload m.val) 8 64 = 0 → Completes (.keyLoad m stored) s fun t =>
      t.kce = s.kce ∧ t.answered m .invalidInput .keyValue .empty) ∧
    (BitVec.ofNat 256 (leField (s.payload m.val) 8 64) ≠ 0#256 → s.kce.owner = .none →
      s.port0.ingressReq = [] → s.port0.ingressRwd = [] → s.port1.ingressReq = [] →
      s.port1.ingressRwd = [] →
      (bitOf s.kce.loaded r = true → Completes (.keyLoad m stored) s fun t =>
        t.kce.keys = s.kce.keys ∧ t.answered m .invalidInput .keyState .empty) ∧
      (bitOf s.kce.loaded r = false → Completes (.keyLoad m stored) s fun t =>
        bitOf t.kce.loaded r = true ∧
          t.kce.key r = BitVec.ofNat 256 (leField (s.payload m.val) 8 64) ∧ t.kce.owner = .none ∧
          t.answered m .success .none .empty))) ∧
  (∀ (m : Mbox) (stored : Bool) (i : Nat) (s : State), s.taken m.val 0xC031 = true →
    leField (s.payload m.val) 0 1 = 0 → leField (s.payload m.val) 1 1 = i → i < 64 →
    reservedZero (s.payload m.val) [2, 3] = true → s.sea.value (recShroudKey i) = none →
    ((s.keySlot i).state = .empty → Completes (.keyZeroize m stored) s fun t =>
      t.shr = s.shr ∧ t.answered m .success .none .empty) ∧
    ((s.keySlot i).state = .loaded → Completes (.keyZeroize m stored) s fun t =>
      t.keySlot i = KeySlot.empty ∧ t.answered m .success .none .empty) ∧
    ((s.keySlot i).state = .active → Completes (.keyZeroize m stored) s fun t =>
      t.shr = s.shr ∧ t.answered m .invalidInput .keyState .empty)) ∧
  (∀ (m : Mbox) (a b rate lo hi : Nat) (s : State),
    (s.taken m.val 0xC032 = true →
      leField (s.payload m.val) 0 1 = a → leField (s.payload m.val) 1 1 = b →
      leField (s.payload m.val) 2 1 = rate → leField (s.payload m.val) 4 4 = lo →
      leField (s.payload m.val) 8 4 = hi → a < 64 → b < 64 → 1 ≤ rate → rate ≤ 64 →
      reservedZero (s.payload m.val) [3] = true → lo < 1048576 → hi < 1048576 →
      (s.rekeyRefused a b lo hi = true → ∀ stored, Completes (.rekeyStart m stored) s fun t =>
        t.shr = s.shr ∧ t.answered m .invalidInput .rekeyState .empty) ∧
      (s.rekeyRefused a b lo hi = false → s.sea.fits [(0x0301, rekeyRecord a b lo hi)] = true →
        Completes (.rekeyStart m true) s fun t =>
          t.shr.rkState = .running ∧ (t.keySlot a).state = .retiring ∧ (t.keySlot b).state = .active ∧
            t.fired 1222 .note ∧ t.answered m .success .none .empty)) ∧
    (s.taken m.val 0xC033 = true →
      (s.shr.rkState = .idle → Completes (.rekeyAbort m) s fun t =>
        t.shr = s.shr ∧ t.answered m .invalidInput .rekeyState .empty) ∧
      (s.shr.rkState = .running → s.shr.abortable = true → Completes (.rekeyAbort m) s fun t =>
        t.shr.rkState = .aborting ∧ t.answered m .success .none (.bytes (leBytes 8 s.shr.hemline))))) ∧
  ∀ (m : Mbox) (k : Nat) (s : State), leField (s.payload m.val) 0 1 = k → k ≤ 17 →
    (s.mb m.val).bgActive = false →
    (s.taken m.val 0xC050 = true → reservedZero (s.payload m.val) [1, 2, 3] = true →
      ((s.slot k).state ≠ .inService → Completes (.moduleRetire m) s fun t =>
        t.seq = s.seq ∧ t.answered m .invalidInput .moduleState .empty) ∧
      ((s.slot k).state = .inService → 2 ≤ s.modulesOut → Completes (.moduleRetire m) s fun t =>
        t.seq = s.seq ∧ t.answered m .invalidInput .modulesOut .empty) ∧
      ((s.slot k).state = .inService → s.modulesOut < 2 → Completes (.moduleRetire m) s fun t =>
        (t.slot k).state = .retiring ∧ (t.slot k).retireMbox = some m ∧ t.inBackground m 0xC050)) ∧
    (s.taken m.val 0xC051 = true → leField (s.payload m.val) 1 1 = 0 →
      reservedZero (s.payload m.val) [2, 3] = true →
      (s.admissible k false = false → Completes (.moduleAdmit m) s fun t =>
        t.seq = s.seq ∧ t.answered m .invalidInput .moduleState .empty) ∧
      (s.admissible k false = true → s.moduleTrained k = true → Completes (.moduleAdmit m) s fun t =>
        (t.slot k).state = .waiting ∧ (t.slot k).admitMbox = none ∧ t.bgEnded m .success .none))

/-- The input and the rails (R308, R309, R311, R312, R314, R315, R322, R324, R446): a stable input starts RAMP from
DOWN, each rail that comes into window enables the next, and the last enters RUN; a warning, SHDN_REQ_N, a rail fault
or an over-temperature in RUN starts the dump with the next epoch and is recorded under its cause, but before replay
is done a warning goes straight to STRIKE and takes no epoch; a warning in RAMP, or a rail that misses its window
there, drops every rail. -/
def Obligations.InputAndRailsDriveTheSequencer : Prop :=
  (∀ s : State,
    (s.seq.state = .down → s.rst.aon = true → s.seq.rampBlocked = false → s.seq.rampFails = 0 →
      s.rst.request = none →
      Completes .inputStable s fun t =>
        t.seq.state = .ramp ∧ t.seq.railsEn = 0b1#7 ∧ t.seq.rampNext = 0 ∧ t.seq.stable = true ∧
          (s.seq.started = true → t.rst.level = .sys ∧ t.rst.source = 0x03#5)) ∧
    (s.seq.state ≠ .down → Completes .inputStable s fun t =>
      t.seq.state = s.seq.state ∧ t.seq.stable = true ∧ t.seq.railsEn = s.seq.railsEn) ∧
    (s.seq.state = .down → s.rst.aon = true → s.seq.stable = true → s.seq.rampBlocked = false →
      0 < s.seq.rampFails → s.rst.request = none →
      (s.elapsed s.seq.downAt (sec 1) = true →
        Completes .rampRetry s fun t => t.seq.state = .ramp ∧ t.seq.railsEn = 0b1#7) ∧
      (s.elapsed s.seq.downAt (sec 1) = false → Completes .rampRetry s fun t => t = s)) ∧
    (s.elapsedOpt s.seq.overAt (hours 1) = true → Completes .overVoltage s fun t =>
      t.seq.overVolt = true ∧ t.fired 1260 .warn ∧ t.seq.state = s.seq.state) ∧
    (s.elapsedOpt s.seq.overAt (hours 1) = false → Completes .overVoltage s fun t =>
      t.seq.overVolt = true ∧ t.evt = s.evt)) ∧
  (∀ (r : Fin 7) (s : State), bitOf s.seq.railsEn r.val = true →
    (bitOf s.seq.railIn r.val = true →
      (Completes (.railWarning r) s fun t =>
        bitOf t.seq.railWarn r.val = true ∧ t.fired 1256 .warn ∧ t.seq.state = s.seq.state) ∧
      (s.seq.state = .ramp ∨ s.seq.state = .strike → Completes (.railFault r) s fun t =>
        bitOf t.seq.railFault r.val = true ∧ t.seq.state = s.seq.state ∧ t.evt = s.evt)) ∧
    (s.seq.state = .ramp →
      (s.seq.rampNext = r.val →
        (r.val < 6 → Completes (.railInWindow r) s fun t =>
          t.seq.state = .ramp ∧ bitOf t.seq.railIn r.val = true ∧
            bitOf t.seq.railsEn (r.val + 1) = true ∧ t.seq.rampNext = r.val + 1) ∧
        (r.val = 6 → s.rst.request = none → s.seq.shdn = false → Completes (.railInWindow r) s fun t =>
          t.seq.state = .run ∧ t.seq.rampFails = 0 ∧ t.dty.stage = 0x02#8)) ∧
      (∀ us, Completes (.rampRailFail r us) s fun t =>
        t.seq.state = .down ∧ t.seq.railsEn = 0#7 ∧ t.seq.rampFails = s.seq.rampFails + 1 ∧
          (2 ≤ s.seq.rampFails → t.seq.rampBlocked = true) ∧ t.dty.evValid = true ∧
          (s.dty.evValid = false → t.dty.evPhase = 0b001#3 ∧ t.dty.evRail = BitVec.ofNat 4 r.val ∧
            t.dty.evTime = BitVec.ofNat 16 (min 0xFFFF us))))) ∧
  (∀ (s : State), s.seq.state = .run → s.glb.replayDone = true → s.glb.dumping = false →
    (∀ e, s.media.journal = some e → e.epoch ≠ s.glb.epochCounter) →
    ∀ q ∈ [(Instr.powerFailWarning, Cause.warning, Severity.warn), (.shutdownRequest, .shdn, .note),
        (.overTemperature 0 115, .overTemp, .critical)],
      Completes q.1 s fun t =>
        t.seq.state = .dump ∧ t.seq.cause = q.2.1 ∧ t.seq.shutAt = s.clock ∧ t.glb.admitOpen = false ∧
          t.glb.dumping = true ∧ t.seq.epochTaken = s.glb.epochCounter ∧
          t.glb.epochCounter = satAdd 0xFFFFFFFF s.glb.epochCounter 1 ∧ t.fired 1261 q.2.2) ∧
  (∀ (r : Fin 7) (s : State), s.seq.state = .run → s.glb.replayDone = true → s.glb.dumping = false →
    bitOf s.seq.railsEn r.val = true → bitOf s.seq.railIn r.val = true →
    (∀ e, s.media.journal = some e → e.epoch ≠ s.glb.epochCounter) →
    Completes (.railFault r) s fun t =>
      t.seq.state = .dump ∧ t.seq.cause = .railFault ∧ t.seq.epochTaken = s.glb.epochCounter ∧
        bitOf t.seq.railFault r.val = true ∧ t.fired 1257 .fault ∧ t.fired 1261 .fault) ∧
  ∀ s : State,
    (s.seq.state = .run → s.glb.replayDone = false → Completes .powerFailWarning s fun t =>
      t.seq.state = .strike ∧ t.seq.cause = .warnBeforeReplay ∧ t.media = s.media ∧
        t.glb.epochCounter = s.glb.epochCounter ∧ t.seq.brdRst = true ∧ t.fired 1261 .warn) ∧
    (s.seq.state = .ramp → Completes .powerFailWarning s fun t =>
      t.seq.state = .down ∧ t.seq.railsEn = 0#7 ∧ t.mst.running = false) ∧
    (s.seq.state = .down → Completes .powerFailWarning s fun t =>
      t.seq.rampFails = 0 ∧ t.seq.rampBlocked = false ∧ t.seq.state = .down) ∧
    (s.seq.state = .resume → Completes .powerFailWarning s fun t =>
      t.seq.state = .dump ∧ t.seq.cause = .warning ∧ t.glb.dumping = true ∧
        t.seq.epochTaken = s.glb.epochCounter) ∧
    (∀ (sensor : Fin 16) (temp : Nat), temp < 115 ∨ s.seq.state ≠ .run →
      Completes (.overTemperature sensor temp) s fun t => t = s)

/-- Strike point, resume and power-down (R115, R316, R319 to R321, R323, R328): before the strike point a warning's
shutdown resumes, and once the ABANDON pages stand SEQ is in RUN and admission open again; at the strike point SEQ
enters STRIKE whatever the input does; the rails go off from the last to the first, then DOWN; a rail that fails there
drops the others at once and is noted; a reset output ends with its stretch. -/
def Obligations.ShutdownsRunToStrikeOrResume : Prop :=
  (∀ (below : Bool) (pages : Nat) (s : State), s.seq.state = .dump ∨ s.seq.state = .hold →
    (s.strikeReached below = true → Completes (.strikePoint below pages) s fun t =>
      t.seq.state = .strike ∧ t.seq.brdRst = true ∧ t.glb.admitOpen = false ∧
        t.seq.cause = s.seq.cause ∧
        (s.dumpSealed = true → t.media = s.media) ∧
        (s.glb.dumping = true → s.dumpSealed = false → pages ≠ 0 →
          ∃ e, t.media.journal = some e ∧ e.epoch = s.seq.epochTaken ∧ e.sealed = false ∧
            e.abandoned = false)) ∧
    (s.strikeReached below = false → Completes (.strikePoint below pages) s fun t =>
      t.seq.state = s.seq.state ∧ t.media = s.media)) ∧
  (∀ s : State,
    (s.seq.state = .dump ∨ s.seq.state = .hold → s.seq.cause = .warning →
      s.seq.epochTaken ≠ 0xFFFFFFFF → s.strikeReached false = false →
      Completes .resumeQualified s fun t =>
        t.seq.state = .resume ∧ t.cache = s.cache ∧ t.mst = s.mst ∧ t.port0 = s.port0 ∧ t.port1 = s.port1) ∧
    (s.seq.cause ≠ .warning ∨ s.seq.epochTaken = 0xFFFFFFFF ∨ s.strikeReached false = true ∨
        (s.seq.state ≠ .dump ∧ s.seq.state ≠ .hold) →
      Completes .resumeQualified s fun t => t = s) ∧
    (s.seq.state = .resume → s.diesQuiet = true → s.seq.shdn = false → s.rst.request = none →
      Completes .abandonConfirmed s fun t =>
        t.seq.state = .run ∧ t.glb.dumping = false ∧ t.glb.admitOpen = true ∧ t.fired 1261 .warn ∧
          ∃ e, t.media.journal = some e ∧ e.epoch = s.seq.epochTaken ∧ e.abandoned = true) ∧
    (s.seq.state = .resume → s.diesQuiet = false → Completes .abandonConfirmed s fun t => t = s)) ∧
  (∀ s : State, s.seq.state = .strike →
    (s.allModReset = false → Completes .railDisableStep s fun t => t = s) ∧
    (s.allModReset = true →
      (∀ r, s.seq.topRail = some r →
        (setBit s.seq.railsEn r false ≠ 0#7 → Completes .railDisableStep s fun t =>
          t.seq.state = .strike ∧ t.seq.railsEn = setBit s.seq.railsEn r false) ∧
        (setBit s.seq.railsEn r false = 0#7 → Completes .railDisableStep s fun t =>
          t.seq.state = .down ∧ t.seq.railsEn = 0#7 ∧ t.seq.downAt = s.clock ∧
            t.glb.memoryActive = false ∧ t.mst.running = false ∧ t.dbg.granted = false ∧
            (s.dbg.granted = true → t.dty.dbgOwed = true))) ∧
      (s.seq.busFailed = false → s.seq.topRail = none → Completes .railDisableStep s fun t =>
        t.seq.state = .down ∧ ∀ k < 18, (t.slot k).railsOn = false))) ∧
  (∀ (us : Nat) (s : State), s.seq.state = .strike → s.dty.evValid = false →
    (∀ r : Fin 7, bitOf s.seq.railsEn r.val = true → bitOf s.seq.railIn r.val = true →
      Completes (.powerdownRailFail (.device r) us) s fun t =>
        t.seq.railsEn = 0#7 ∧ t.dty.evValid = true ∧ t.dty.evPhase = 0b010#3 ∧
          t.dty.evRail = BitVec.ofNat 4 r.val ∧ t.dty.evSlot = 0x1F#5) ∧
    (∀ k : Slot, (s.slot k.val).railsOn = true →
      Completes (.powerdownRailFail (.module k) us) s fun t =>
        t.seq.railsEn = 0#7 ∧ (t.slot k.val).railsOn = false ∧ t.dty.evValid = true ∧
          t.dty.evRail = 0x8#4 ∧ t.dty.evSlot = BitVec.ofNat 5 k.val)) ∧
  ∀ s : State, s.seq.state = .run →
    Completes (.resetStretchEnd .board) s (fun t => t.seq.brdRst = false) ∧
    ∀ k : Slot,
      ((s.slot k.val).state = .powering → (s.slot k.val).powerGood = true → s.rst.datapath = true →
        Completes (.resetStretchEnd (.module k)) s fun t =>
          (t.slot k.val).state = .training ∧ (t.slot k.val).rst = false) ∧
      ((s.slot k.val).powerGood = false → Completes (.resetStretchEnd (.module k)) s fun t => t = s)

/-- The sequencer bus (R325, R327, Table PWR-7): a failed transaction is counted and retried up to three times; the
third retry that fails marks the slot unresponsive at FAULT, ends a module command that waits for it and leaves its
state; three marks within 100 ms, or a line stuck low, fail the bus at FAULT; an answer clears the mark and a bus
clear that works clears the failure, each at NOTE. A temperature or a status word of a slot that answers is taken. -/
def Obligations.BusErrorsMarkSlotsAndFailTheBus : Prop :=
  ∀ (k : Slot) (s : State),
    (s.seq.busFailed = false → (s.slot k.val).retries = 0 → ∀ why,
      (Completes (.busTransactionError k why false) s fun t =>
        t.seq.busErrors = satAdd 0x1FFF s.seq.busErrors 1 ∧ (t.slot k.val).retries = 1 ∧
          t.seq.unresponsive = s.seq.unresponsive ∧ (t.slot k.val).state = (s.slot k.val).state) ∧
      Completes (.busTransactionError k why true) s fun t =>
        t.seq.busFailed = true ∧ t.fired 1259 .fault) ∧
    (s.seq.busFailed = false → 0 < (s.slot k.val).retries →
      (Completes (.busRetry k true) s fun t =>
        (t.slot k.val).retries = 0 ∧ t.seq.busErrors = s.seq.busErrors) ∧
      ((s.slot k.val).retries < 3 → Completes (.busRetry k false) s fun t =>
        (t.slot k.val).retries = (s.slot k.val).retries + 1 ∧
          t.seq.busErrors = satAdd 0x1FFF s.seq.busErrors 1 ∧ t.seq.unresponsive = s.seq.unresponsive) ∧
      ((s.slot k.val).retries = 3 → bitOf s.seq.unresponsive k.val = false →
        Completes (.busRetry k false) s fun t =>
          bitOf t.seq.unresponsive k.val = true ∧ t.fired 1258 .fault ∧
            (t.slot k.val).state = (s.slot k.val).state ∧ (t.slot k.val).retireMbox = none ∧
            (t.slot k.val).admitMbox = none ∧
            (t.seq.busFailed = true ↔
              2 ≤ (s.seq.unrespTimes.filter fun x => decide (s.clock < x + ms 100)).length))) ∧
    (bitOf s.seq.unresponsive k.val = true →
      (Completes (.unresponsiveRetry k true) s fun t =>
        bitOf t.seq.unresponsive k.val = false ∧ t.fired 1258 .note) ∧
      Completes (.unresponsiveRetry k false) s fun t =>
        t.seq.unresponsive = s.seq.unresponsive ∧ t.seq.busErrors = satAdd 0x1FFF s.seq.busErrors 1) ∧
    (s.seq.busFailed = true →
      (Completes (.busClearRetry true) s fun t => t.seq.busFailed = false ∧ t.fired 1259 .note) ∧
      Completes (.busClearRetry false) s fun t => t = s) ∧
    (s.seq.busFailed = false → bitOf s.seq.unresponsive k.val = false → (s.slot k.val).present = true →
      ∀ c, Completes (.moduleTempRead k c) s fun t => (t.slot k.val).tempMax = c ∧
        ((t.slot k.val).coolSince = none ↔ 80 ≤ c.toInt)) ∧
    (s.seq.busFailed = false → (s.slot k.val).state = .powering → (s.slot k.val).railsOn = true →
      ∀ g, Completes (.statusWordPoll k g) s fun t => (t.slot k.val).powerGood = g)

/-- The reef (R329 to R334, Tables BUD-1 and BUD-2): a request that costs more than its pool, meets a dump, or meets a
failed arbiter is refused and counted at NOTE, any other is queued; a grant goes to a waiting request whose tokens and
module cap allow it, never past a head that waits on its pool, and moves the held tokens by its cost alone; a release
gives the tokens of one program back; a wait of 10 ms raises a request one level, never above 2; a failed arbiter is
recorded at CRITICAL and grants dump permits only. -/
def Obligations.ReefGrantsByLevelPoolAndCap : Prop :=
  (∀ (h : Holder) (n : Nat) (k : Option Slot) (s : State),
    (s.reefRefuses (s.permitFor h n (k.map fun x => x.val)) = true →
      Completes (.reefRequest h n k) s fun t =>
        t.reef.refusals = satAdd 0xFFFF s.reef.refusals 1 ∧ t.reef.waiting = s.reef.waiting ∧
          t.reef.held = s.reef.held ∧ t.fired 1263 .note) ∧
    (s.reefRefuses (s.permitFor h n (k.map fun x => x.val)) = false →
      Completes (.reefRequest h n k) s fun t =>
        Sparse.find t.reef.waiting s.reef.nextId = some (s.permitFor h n (k.map fun x => x.val)) ∧
          t.reef.nextId = s.reef.nextId + 1 ∧ t.reef.refusals = s.reef.refusals) ∧
    (s.reef.failed = true ∨ s.inDump = true → h ≠ .dump →
      s.reefRefuses (s.permitFor h n (k.map fun x => x.val)) = true)) ∧
  (∀ s : State,
    (Completes .reefGrant s fun t =>
      t = s ∨ ∃ id p, (id, p) ∈ s.reef.waiting ∧
        (s.reef.failed = true ∨ s.inDump = true → p.holder = .dump) ∧
        s.heldTokens p.media + p.cost ≤ s.poolSize p.media ∧ s.capAllows p = true ∧
        Sparse.find t.reef.held id = some p ∧ Sparse.find t.reef.waiting id = none ∧
        (Sparse.find s.reef.held id = none →
          t.heldTokens p.media = s.heldTokens p.media + p.cost ∧
            t.heldTokens (!p.media) = s.heldTokens (!p.media))) ∧
    ∀ id p rest, s.reefOrder = (id, p) :: rest → s.reef.failed = false → s.inDump = false →
      (s.heldTokens p.media + p.cost ≤ s.poolSize p.media → s.capAllows p = true →
        Completes .reefGrant s fun t => Sparse.find t.reef.held id = some p) ∧
      (s.poolSize p.media < s.heldTokens p.media + p.cost → Completes .reefGrant s fun t => t = s)) ∧
  (∀ (id : Nat) (p : Permit) (s : State),
    (Sparse.find s.reef.held id = some p →
      (p.programs = 0 → (∀ c, p.holder ≠ .selfTest c) → Completes (.permitRelease id) s fun t =>
        Sparse.find t.reef.held id = none) ∧
      (p.holder = .dump → p.programs = 1 → Completes (.permitRelease id) s fun t =>
        Sparse.find t.reef.held id = none) ∧
      (1 < p.programs → p.holder = .dump ∨ s.coveredPrograms < s.permitPrograms →
        Completes (.permitRelease id) s fun t =>
          Sparse.find t.reef.held id =
            some { p with programs := p.programs - 1, cost := p.cost - p.each }) ∧
      (1 ≤ p.programs → p.holder ≠ .dump → s.permitPrograms ≤ s.coveredPrograms →
        Completes (.permitRelease id) s fun t => t = s)) ∧
    (Sparse.find s.reef.waiting id = some p →
      (2 < p.level → s.elapsed p.since (ms 10) = true → Completes (.reefLevelRaise id) s fun t =>
        Sparse.find t.reef.waiting id = some { p with level := p.level - 1, since := s.clock }) ∧
      (p.level ≤ 2 ∨ s.elapsed p.since (ms 10) = false →
        Completes (.reefLevelRaise id) s fun t => t = s))) ∧
  ∀ s : State,
    (s.reef.failed = false → Completes .reefArbiterFail s fun t =>
      t.reef.failed = true ∧ t.reef.held = s.reef.held ∧ t.fired 1262 .critical) ∧
    (∀ (k : Slot) (c : Nat), (s.slot k.val).coolSince = some c →
      (bitOf s.reef.capHalved k.val = true → s.elapsed c (sec 10) = true →
        Completes (.moduleCapRestore k) s fun t => bitOf t.reef.capHalved k.val = false) ∧
      (s.elapsed c (sec 10) = false → Completes (.moduleCapRestore k) s fun t => t = s))

/-- The clocks (R336 to R339, Tables BUD-3 and ARCH-5): a lost crystal moves the always-on clock to the RC at FAULT
and its return moves it back at NOTE; no PLL stays on a lost reference while the other is usable, each move is
counted, and 1 ms after both are lost the PLLs run free and the device is Out of service; the datapath moves to the
other DPLL, or stops at CRITICAL and restarts through a SYS; MPLL halts Mainmast and its relock requests a CORE reset.
Sleep (R340 to R342, Tables BUD-4 and BUD-5): a domain that holds work is in Trim; an idle one takes the deepest state
that its table and its class limit permit and that fits before the next known event, with its wake scheduled for that
event; a scheduled wake brings Trim; a late wake is recorded at WARN and makes the limit one state shallower. -/
def Obligations.ClocksFallBackAndSleepFits : Prop :=
  ((∀ s : State, s.rst.aon = true →
    (s.clk.onRc = false → s.clk.xtalOk = true → Completes .xtalLost s fun t =>
      t.clk.onRc = true ∧ t.clk.xtalOk = false ∧ t.fired 1264 .fault) ∧
    (s.clk.xtalOk = false → s.clk.onRc = true → Completes .xtalReturn s fun t =>
      t.clk.onRc = false ∧ t.clk.xtalOk = true ∧ t.fired 1264 .note) ∧
    (s.clk.refOk ≠ 0#2 → s.elapsedOpt s.clk.rcTrimAt (sec 1) = true → Completes .rcTrim s fun t =>
      t.clk.rcTrimAt = some s.clock) ∧
    (s.clk.refOk = 0#2 → Completes .rcTrim s fun t => t = s)) ∧
  (∀ (n : Fin 2) (s : State),
    (bitOf s.clk.refOk n.val = true →
      (bitOf s.clk.refOk (1 - n.val) = true → Completes (.refclkLost n) s fun t =>
        bitOf t.clk.refOk n.val = false ∧ bitOf t.clk.refOk (1 - n.val) = true ∧
          (∀ i < 23, t.clk.pllRef i ≠ n.val) ∧
          t.clk.refSwitches = satAdd 0xFF s.clk.refSwitches
            ((List.range 23).countP fun i => s.clk.pllRef i == n.val) ∧
          t.fired (1265 + n.val) .fault) ∧
      (bitOf s.clk.refOk (1 - n.val) = false → Completes (.refclkLost n) s fun t =>
        t.clk.refOk = 0#2 ∧ t.clk.holdover = some s.clock ∧ t.clk.plls = s.clk.plls ∧
          t.fired (1265 + n.val) .critical)) ∧
    (bitOf s.clk.refOk n.val = false → Completes (.refclkRecovered n) s fun t =>
      bitOf t.clk.refOk n.val = true ∧ t.clk.holdover = none ∧ t.clk.freeRun = false ∧
        (bitOf s.clk.refOk (1 - n.val) = true → t.clk.plls = s.clk.plls))) ∧
  (∀ (c : Nat) (s : State), s.clk.holdover = some c →
    (s.elapsed c (ms 1) = true → Completes .holdoverExpiry s fun t =>
      t.clk.freeRun = true ∧ t.clk.holdover = none ∧ t.glb.level = .outOfService) ∧
    (s.elapsed c (ms 1) = false → Completes .holdoverExpiry s fun t => t = s)) ∧
  (∀ s : State, s.rst.datapath = true →
    (bitOf s.clk.dpllLock s.clk.active = true →
      (bitOf s.clk.dpllLock (1 - s.clk.active) = true → Completes .dpllLockLoss s fun t =>
        t.clk.active = 1 - s.clk.active ∧ bitOf t.clk.dpllLock s.clk.active = false ∧
          t.clk.dpStopped = s.clk.dpStopped ∧ t.clk.dpllSpareLost = true ∧ t.fired 1267 .fault) ∧
      (bitOf s.clk.dpllLock (1 - s.clk.active) = false → Completes .dpllLockLoss s fun t =>
        t.clk.dpStopped = true ∧ t.fired 1267 .critical)) ∧
    (∀ n : Fin 2, bitOf s.clk.dpllLock n.val = false → bitOf s.clk.dpllFailed n.val = false →
      s.clk.refOk ≠ 0#2 →
      (s.clk.dpStopped = false → Completes (.dpllRelock n) s fun t =>
        bitOf t.clk.dpllLock n.val = true ∧ t.clk.dpllSpareLost = false ∧
          t.clk.active = s.clk.active) ∧
      (s.clk.dpStopped = true → s.rst.request = none → Completes (.dpllRelock n) s fun t =>
        t.clk.dpStopped = false ∧ t.clk.active = n.val ∧ t.rst.request.map ResetReq.level = some .sys ∧
          t.rst.request.map ResetReq.source = some 0x06)) ∧
    (s.clk.mpllLock = false → s.clk.mpllFailed = false → s.clk.refOk ≠ 0#2 → s.rst.request = none →
      Completes .mpllRelock s fun t =>
        t.clk.mpllLock = true ∧ t.rst.request.map ResetReq.level = some .core ∧
          t.rst.request.map ResetReq.source = some 0x09)) ∧
  ∀ s : State, s.clk.mpllLock = true → Completes .mpllLockLoss s fun t =>
    t.clk.mpllLock = false ∧ t.mst.running = false ∧ t.mst.wdPaused = true ∧ t.cache = s.cache ∧
      t.bly = s.bly ∧ t.fired 1268 .fault) ∧
  (∀ (d : Domain) (s : State),
    (s.domBusy d = true → ∀ next, Completes (.sleepEvaluate d next) s fun t =>
      (t.dom (domainKey d)).state = .trim) ∧
    (s.domBusy d = false →
      (∀ n, Completes (.sleepEvaluate d (some n)) s fun t =>
        (t.dom (domainKey d)).state.code ≤ s.deepest d ∧
          ((t.dom (domainKey d)).state ≠ .trim → ∃ w,
            wakeNs d (t.dom (domainKey d)).state.code = some w ∧
              stayNs (t.dom (domainKey d)).state.code + w ≤ n ∧
              (t.dom (domainKey d)).wakeAt = some (s.clock + ns (n - w))) ∧
          ∀ st, (t.dom (domainKey d)).state.code < st → st ≤ s.deepest d → st ≤ 4 →
            ∀ w, wakeNs d st = some w → n < stayNs st + w) ∧
      Completes (.sleepEvaluate d none) s fun t =>
        (t.dom (domainKey d)).wakeAt = none ∧ (t.dom (domainKey d)).state.code ≤ s.deepest d ∧
          ∀ st, (t.dom (domainKey d)).state.code < st → st ≤ s.deepest d → st ≤ 4 →
            wakeNs d st = none) ∧
    (∀ c, (s.dom (domainKey d)).wakeAt = some c →
      (c ≤ s.clock → Completes (.scheduledWake d) s fun t =>
        (t.dom (domainKey d)).state = .trim ∧ (t.dom (domainKey d)).wakeAt = none) ∧
      (s.clock < c → Completes (.scheduledWake d) s fun t => t = s)) ∧
    ((s.dom (domainKey d)).state = .trim → Completes (.wakeLate d) s fun t => t = s) ∧
    ((s.dom (domainKey d)).state ≠ .trim → Completes (.wakeLate d) s fun t =>
      (t.dom (domainKey d)).state = .trim ∧
        (t.dom (domainKey d)).limit.code ≤ (s.dom (domainKey d)).state.code - 1 ∧
        (∀ p, d = .port p → t.fired (portSrc p 12) .warn)))

/-- Reset requests (R102, R344, R345, R349 to R351): a request needs its key and an open path, takes its source code
from the path, overrides a lower one and never a higher; in RUN a SYS or PON closes admission and dumps what is
charged, and takes effect once its steps are done; media and the sea chest's records outlive both, a SYS also keeps
the ditty bag, the retired cores and the fenced banks; a power-on detection is never held off. -/
def Obligations.ResetRequestsAreHeldOffAndTakeEffect : Prop :=
  (∀ s : State, s.rst.request = none →
    ∀ q ∈ [(Instr.porAssert, ResetLevel.pon, 0x02), (.sysResetRequest .mainmast 0xB007#16, .sys, 0x04),
        (.sysResetRequest .debug 0xB007#16, .sys, 0x05), (.coreResetRequest .mainmast 0xB007#16, .core, 0x0A),
        (.coreResetRequest .debug 0xB007#16, .core, 0x0B)],
      s.mst.running = true → s.dbg.granted = true →
      Completes q.1 s fun t =>
        t.rst.request.map ResetReq.level = some q.2.1 ∧ t.rst.request.map ResetReq.source = some q.2.2 ∧
          t.rst.level = s.rst.level ∧
          (q.2.1 ≠ .core → s.seq.state = .run → t.glb.admitOpen = false ∧
            (0 < s.charged → t.glb.dumping = true)) ∧
          (q.2.1 = .core ∨ s.seq.state ≠ .run → t.glb = s.glb)) ∧
  (∀ (path : Path) (key : BitVec 16) (s : State), s.resetPath path = none ∨ key ≠ 0xB007#16 →
    ∀ c ∈ [Instr.sysResetRequest path key, .coreResetRequest path key], Completes c s fun t => t = s) ∧
  (∀ (src : Nat) (w : Bool) (s : State),
    (s.rst.request = some ⟨.sys, src, w⟩ ∨ s.rst.request = some ⟨.pon, src, w⟩ →
      ∀ path key, Completes (.coreResetRequest path key) s fun t => t = s) ∧
    (s.rst.request = some ⟨.core, src, w⟩ → s.resetPath .mainmast = some false →
      Completes (.sysResetRequest .mainmast 0xB007#16) s fun t =>
        t.rst.request.map ResetReq.level = some .sys) ∧
    (s.rst.request = some ⟨.sys, src, false⟩ → s.holdOffDone = true → src ≠ 0x03 →
      Completes .resetHoldOffDone s fun t =>
        t.rst.level = .sys ∧ t.rst.source = BitVec.ofNat 5 src ∧ t.rst.prevLevel = s.rst.level ∧
          t.rst.prevSource = s.rst.source ∧ t.rst.sysCount = satAdd 0xFF s.rst.sysCount 1 ∧
          t.rst.request = none ∧ t.rst.datapath = false ∧ t.media = s.media ∧ t.sea.recs = s.sea.recs ∧
          t.sea.counters = s.sea.counters ∧ t.dty.fw = s.dty.fw ∧ t.dty.recs = s.dty.recs ∧
          t.dbg = s.dbg ∧ t.mst.retired = s.mst.retired ∧ t.bly.fenced = s.bly.fenced ∧
          t.cache.ways = [] ∧ t.bly.entries = [] ∧ t.kce.loaded = 0#8 ∧ (∀ m, (t.mb m).st = .idle) ∧
          t.glb.time = s.glb.time ∧ t.seq.state = s.seq.state ∧ t.seq.railsEn = s.seq.railsEn) ∧
    (s.rst.request = some ⟨.pon, src, false⟩ → s.holdOffDone = true →
      Completes .resetHoldOffDone s fun t =>
        t.rst.level = .pon ∧ t.rst.source = BitVec.ofNat 5 src ∧ t.rst.sysCount = 0 ∧
          t.media = s.media ∧ t.sea.recs = s.sea.recs ∧ t.dbg.granted = false ∧ t.mst.retired = 0#3 ∧
          t.bly.fenced = 0#8 ∧ t.seq.state = .down ∧ t.seq.railsEn = 0#7) ∧
    (s.rst.request = none ∨ s.rst.request = some ⟨.sys, src, true⟩ ∨ s.holdOffDone = false →
      Completes .resetHoldOffDone s fun t => t = s)) ∧
  ∀ (pages : Nat) (s : State), Completes (.aonPowerOnDetect pages) s fun t =>
    t.rst.level = .pon ∧ t.rst.source = 0x01#5 ∧ t.seq.state = .down ∧ t.cache.ways = [] ∧
      t.sea.recs = s.sea.recs ∧ t.media.cells = s.media.cells ∧
      (s.glb.dumping = false → t.media.journal = s.media.journal) ∧
      (∀ l ∈ s.media.torn, l ∈ t.media.torn)

/-- The clock watchdog, the release of the domains and the boot (R42, R266, R272, R323, R347, R348, R354 to R356,
Tables RST-3 and RST-5): a clock not stable is failed and recorded, at CRITICAL where nothing replaces it; each domain
waits for the one before it; a fill that passes leaves every good stack usable; an image that verifies runs firmware,
which locks the ports, reloads the wrapped keys and settles what a shutdown owed. -/
def Obligations.BringUpReleasesDomainsInOrder : Prop :=
  (∀ s : State, s.rst.aon = true → s.seq.state = .run ∨ s.seq.state = .ramp →
    (∀ n : Fin 2, bitOf s.clk.dpllFailed n.val = false → bitOf s.clk.dpllLock n.val = false →
      Completes (.clockWatchdogExpiry (.dpll n)) s fun t =>
        bitOf t.clk.dpllFailed n.val = true ∧
          t.fired 1267 (if bitOf s.clk.dpllFailed (1 - n.val) then .critical else .fault)) ∧
    (s.clk.mpllFailed = false → s.clk.mpllLock = false →
      Completes (.clockWatchdogExpiry .mpll) s fun t => t.clk.mpllFailed = true ∧ t.fired 1268 .critical) ∧
    (∀ p, bitOf s.clk.portFailed (portIdx p) = false → (s.port p).released = false →
      Completes (.clockWatchdogExpiry (.port p)) s fun t =>
        bitOf t.clk.portFailed (portIdx p) = true ∧ t.fired (portSrc p 1) .fault) ∧
    (∀ n : Stack, bitOf s.clk.hbmFailed n.val = false → s.rst.filled = false →
      Completes (.clockWatchdogExpiry (.hbm n)) s fun t =>
        bitOf t.clk.hbmFailed n.val = true ∧ bitOf t.cache.stackFailed n.val = true)) ∧
  (∀ (crc : BitVec 2) (s : State),
    (s.rst.aon = false → Completes (.domainRelease .aon crc) s fun t =>
      t.rst.aon = true ∧ t.dty.stage = 0x01#8 ∧ t.rst.bootAt = s.clock) ∧
    (s.seq.state = .run → s.rst.datapath = false → s.clk.refOk ≠ 0#2 → s.clk.dpllFailed ≠ 0b11#2 →
      Completes (.domainRelease .datapath crc) s fun t =>
        t.rst.datapath = true ∧ t.rst.darn = true ∧ t.clk.dpllLock ≠ 0#2 ∧ t.dty.stage = 0x04#8 ∧
          (crc = 0#2 → t.clk.fuseFailed = true)) ∧
    (s.seq.state ≠ .run ∨ s.clk.refOk = 0#2 ∨ s.clk.dpllFailed = 0b11#2 →
      Completes (.domainRelease .datapath crc) s fun t => t = s) ∧
    (s.rst.filled = true → s.mst.released = false → s.clk.mpllLock = true → s.mst.lead.isSome →
      Completes (.domainRelease .mainmast crc) s fun t => t.mst.released = true ∧ t.dty.stage = 0x06#8) ∧
    (s.rst.filled = false ∨ s.clk.mpllLock = false →
      Completes (.domainRelease .mainmast crc) s fun t => t = s) ∧
    (∀ p, s.rst.booted = true → (s.port p).released = false → (s.port p).lock = true →
      bitOf s.clk.portFailed (portIdx p) = false →
      Completes (.domainRelease (.port p) crc) s fun t =>
        (t.port p).released = true ∧ (t.port p).releasedAt = s.clock ∧ t.dty.stage = 0x08#8 ∧
          t.port (portOther p) = s.port (portOther p)) ∧
    (∀ p, s.rst.booted = false ∨ (s.port p).lock = false ∨ bitOf s.clk.portFailed (portIdx p) = true →
      Completes (.domainRelease (.port p) crc) s fun t => t = s)) ∧
  (∀ s : State, s.rst.datapath = true → s.rst.filled = false → s.clk.fuseFailed = false →
    (Completes (.arrayFillDone []) s fun t =>
      t.rst.filled = true ∧ t.dty.stage = 0x05#8 ∧ t.bly.fenced = s.bly.fenced ∧
        (∀ n < 2, bitOf t.cache.stackOk n =
          (!bitOf s.cache.stackFailed n && !bitOf s.clk.hbmFailed n))) ∧
    (∀ b : Fin 8, Completes (.arrayFillDone [.belayBank b]) s fun t =>
      t.rst.filled = true ∧ bitOf t.bly.fenced b.val = true ∧ t.fired (1052 + b.val) .fault) ∧
    ∀ b : Fin 8, Completes (.arrayFillDone [.vbfBank b]) s fun t =>
      t.rst.filled = true ∧ bitOf t.vbf.fenced b.val = true ∧ t.fired (1196 + b.val) .fault) ∧
  ∀ (r : BootResult) (s : State), s.mst.released = true → s.rst.booted = false → s.sea.settled = true →
    (r.imageOk = false → Completes (.firmwareBoot r) s fun t => t = s) ∧
    (r.imageOk = true → Completes (.firmwareBoot r) s fun t =>
      t.mst.running = true ∧ t.rst.booted = true ∧ t.port0.lock = true ∧ t.port1.lock = true ∧
        t.hly.sidebandOn = true ∧ t.dbg.epoch = BitVec.ofNat 24 (s.sea.counter 2) ∧
        t.shr.keyMapLoaded = true ∧ t.dty.dbgOwed = false ∧ t.dty.evValid = false ∧
        (s.dty.evValid = true → t.fired 1257 .fault) ∧
        (s.dty.dbgOwed = true → t.fired 1279 .note) ∧
        (∀ n < 64, ∀ p, s.sea.value (recShroudKey n) = some p → bitOf r.badSlots n = false →
          (t.keySlot n).key = BitVec.ofNat 512 (leNat (p.take 64))) ∧
        (∀ n < 8, ∀ p, s.sea.value (recKceKey n) = some p → bitOf r.badRegs n = false →
          bitOf t.kce.loaded n = true ∧ t.kce.key n = BitVec.ofNat 256 (leNat (p.take 32))))

/-- Measurements and the trim plan (R105, R106, R359 to R368, Tables TEL-1 and TRIM-1): a measurement starts only
where R360 allows; a valid one gives E_u by R361 and the budget by R105 and is recorded; an invalid one leaves E_u, at
WARN, and the third in a row plans nine tenths of it, at FAULT; a device without history that could not measure within
15 s becomes active with a budget of 0; a plan pins an overridden margin at its value and never plans a budget above
R105's; monitors keep the worst slack; the daily summary is recorded. -/
def Obligations.MeasurementsSetTheBudgetAndThePlan : Prop :=
  (∀ (path : Path) (s : State),
    (s.mayMeasure = true →
      (s.resetPath path ≠ none → Completes (.holdupGo path) s fun t =>
        t.tel.busy = true ∧ t.tel.measuredAt = some s.clock) ∧
      (s.mst.running = true → s.measureDue = true → Completes .holdupMeasureStart s fun t =>
        t.tel.busy = true ∧ t.tel.measuredAt = some s.clock)) ∧
    (s.mayMeasure = false → ∀ c ∈ [Instr.holdupGo path, .holdupMeasureStart],
      Completes c s fun t => t = s) ∧
    (s.seq.state ≠ .run ∨ s.elapsedOpt s.tel.measuredAt (sec 600) = false → s.mayMeasure = false)) ∧
  (∀ (r : HoldupRead) (s : State),
    (s.tel.busy = false → Completes (.holdupMeasureEnd r) s fun t => t = s) ∧
    (s.tel.busy = true →
      (s.tel.invalid r = true → s.tel.invalidRun ≠ 2 → Completes (.holdupMeasureEnd r) s fun t =>
        t.tel.busy = false ∧ t.tel.valid = false ∧ t.tel.invalidRun = s.tel.invalidRun + 1 ∧
          t.tel.euMj = s.tel.euMj ∧ t.glb.budget = s.glb.budget ∧ t.fired 1269 .warn) ∧
      (s.tel.invalid r = true → s.tel.invalidRun = 2 → Completes (.holdupMeasureEnd r) s fun t =>
        t.tel.invalidRun = 3 ∧ t.tel.euMj = s.tel.euMj * 9 / 10 ∧ t.fired 1269 .fault ∧
          t.trm.due = true) ∧
      (s.tel.invalid r = false → Completes (.holdupMeasureEnd r) s fun t =>
        t.tel.valid = true ∧ t.tel.invalidRun = 0 ∧ t.tel.capMf = r.capMf ∧ t.tel.esr = r.esr ∧
          t.tel.euMj = usableEnergy r.capMf r.esr s.tel.dropoutDv s.tel.strings ∧
          t.glb.energyMj = min 0xFFFF t.tel.euMj ∧
          (Sparse.find s.trm.overrides 0x0001 = none → t.glb.budget = budgetFor t.tel.euMj) ∧
          (s.tel.strings = 1 → t.tel.euMj = 0) ∧ t.fired 1269 .note))) ∧
  (∀ (c : Nat) (s : State), s.rst.mediaUpAt = some c → s.glb.replayDone = true →
    s.glb.memoryActive = false → s.tel.history = [] → s.tel.valid = false → s.tel.busy = false →
    (s.elapsed c (sec 15) = true → Completes .holdupBootTimeout s fun t =>
      t.glb.memoryActive = true ∧ t.glb.budget = 0 ∧ t.dty.stage = 0x0C#8) ∧
    (s.elapsed c (sec 15) = false → Completes .holdupBootTimeout s fun t => t = s)) ∧
  ∀ s : State,
    (s.mst.running = true → s.rst.booted = true →
      s.trm.due = true ∨ s.elapsed s.trm.computedAt (hours 1) = true →
      Completes .trimPlanCompute s fun t =>
        t.trm.stale = false ∧ t.trm.due = false ∧ t.trm.computedAt = s.clock ∧
          t.trm.overrides = s.trm.overrides ∧ t.glb.budget ≤ budgetFor t.tel.euMj ∧
          (∀ m ∈ margins, ∀ v, m.id ≠ 0x0001 → Sparse.find s.trm.overrides m.id = some v →
            t.margin m.id = v) ∧
          ((∀ m ∈ margins, t.margin m.id = s.margin m.id) → t.trm.generation = s.trm.generation) ∧
          ((∃ m ∈ margins, t.margin m.id ≠ s.margin m.id) →
            t.trm.generation = s.trm.generation + 1)) ∧
    (s.mst.running = false → Completes .trimPlanCompute s fun t => t = s) ∧
    (s.elapsed s.trm.computedAt (hours 2) = true → Completes .planStale s fun t => t.trm.stale = true) ∧
    (s.elapsed s.trm.computedAt (hours 2) = false → Completes .planStale s fun t => t = s) ∧
    (∀ ps, Completes (.pathMonitorSample ps) s fun t =>
      t.tel.slack = some (match s.tel.slack with
        | some w => min w ps
        | none => ps) ∧
      ((ps : Int) < s.margin 0x0300 → s.elapsedOpt s.tel.slackAt (hours 24) = true →
        t.tel.slackAt = some s.clock ∧ t.draws = s.draws + 1) ∧
      (s.margin 0x0300 ≤ (ps : Int) → t.draws = s.draws ∧ t.log = s.log)) ∧
    (s.mst.running = true → s.elapsedOpt s.tel.summaryAt (hours 24) = true →
      Completes .dailySummary s fun t =>
        t.tel.summaryAt = some s.clock ∧ t.tel.slack = none ∧ t.fired 1269 .note ∧
          t.tel.history.length = min 1024 (s.tel.history.length + 1) ∧
          ∃ h, t.tel.history.getLast? = some h ∧ h.summary = true ∧ h.time = s.glb.time)

/-- Self-test slices (R305, R359, R370 to R373, Table TRIM-2): a waiting ticket starts only with no other unit out,
its cover and permit available and no recalibration due; a unit that is gone ends it with detail 3; the end of a slice
returns the unit and its permit and settles the ticket; a fault that takes the cover ends the slice at FAULT and the
ticket waits again; 24 h without a cover end it with detail 2; a due recalibration drops the clean blocks of its
pseudo-channel and keeps the eye measured. -/
def Obligations.SelfTestSlicesTakeOneUnitOut : Prop :=
  (∀ (id : Nat) (k : Ticket) (s : State),
    (s.trm.tickets.find? fun k => k.id == id && k.state == .waiting) = some k → k.notBefore ≤ s.glb.time.toNat →
    (s.mst.running = true → s.trm.slice = none →
      (s.unitGone k.test k.unit = true → Completes (.selfTestSliceStart id) s fun t =>
        t.trm.slice = none ∧ ∀ x ∈ t.trm.tickets, x.id = id → x.state = .failed ∧ x.detail = 3) ∧
      (s.unitGone k.test k.unit = false → s.levelForSlices = true → s.coverOk k.test k.unit = true →
        s.testPermit ((testCost k.test).getD 0) = true → (∀ u < 64, s.recalDue u = false) →
        Completes (.selfTestSliceStart id) s fun t =>
          t.trm.slice = some ⟨k.test, k.unit, some id⟩ ∧
            (∀ x ∈ t.trm.tickets, x.id = id → x.state = .running) ∧
            (k.test = 5 → t.kce.owner = .selfTest) ∧ (k.test = 7 → t.tel.busy = true)) ∧
      (s.unitGone k.test k.unit = false →
        s.levelForSlices = false ∨ s.coverOk k.test k.unit = false ∨
          s.testPermit ((testCost k.test).getD 0) = false →
        Completes (.selfTestSliceStart id) s fun t => t = s)) ∧
    (s.trm.slice.isSome → Completes (.selfTestSliceStart id) s fun t => t = s) ∧
    (s.coverOk k.test k.unit = false → s.elapsed k.since (hours 24) = true →
      Completes (.ticketCoverTimeout id) s fun t =>
        ∀ x ∈ t.trm.tickets, x.id = id → x.state = .failed ∧ x.detail = 2) ∧
    (s.coverOk k.test k.unit = true → Completes (.ticketCoverTimeout id) s fun t => t = s)) ∧
  (∀ (x : SliceRun) (id : Nat) (s : State), s.trm.slice = some x → x.ticket = some id →
    (x.test ≠ 7 ∨ s.tel.busy = false →
      (Completes (.selfTestSliceEnd true) s fun t =>
        t.trm.slice = none ∧ (x.test = 5 → t.kce.owner ≠ .selfTest) ∧
          (∀ y ∈ t.trm.tickets, y.id = id →
            if s.trm.tickets.any (fun k => k.id == id && k.cancel) then
              y.state = .cancelled ∧ y.detail = 4
            else y.state = .passed ∧ y.detail = 0)) ∧
      (x.test = 5 → (s.trm.tickets.any fun k => k.id == id && k.cancel) = false →
        Completes (.selfTestSliceEnd false) s fun t =>
          t.trm.slice = none ∧ t.kce.coreGFenced = true ∧
            ∀ y ∈ t.trm.tickets, y.id = id → y.state = .failed ∧ y.detail = 1)) ∧
    (Completes (.sliceFaultEnd false) s fun t =>
      t.trm.slice = none ∧ t.fired 1272 .fault ∧
        ∀ y ∈ t.trm.tickets, y.id = id → y.state = .waiting)) ∧
  (∀ (pass own : Bool) (s : State), s.trm.slice = none →
    ∀ c ∈ [Instr.selfTestSliceEnd pass, .sliceFaultEnd own], Completes c s fun t => t = s) ∧
  ∀ (stack : Stack) (pc : Fin 32) (eye : Nat) (s : State), eye ≤ 100 →
    (s.recalDue (stack.val * 32 + pc.val) = true → s.trm.slice = none → s.levelForSlices = true →
      s.cache.stackOk = 0b11#2 → s.pcEmptied stack.val pc.val = true →
      (s.reef.held.any fun e => e.2.holder == .hbmRecal) = true →
      Completes (.hbmRecalibration stack pc eye) s fun t =>
        Sparse.find t.cache.eyes (stack.val * 32 + pc.val) = some eye ∧
          Sparse.find t.cache.recalAt (stack.val * 32 + pc.val) = some s.clock ∧
          (∀ e ∈ t.cache.ways, inPc stack.val pc.val e = false) ∧
          t.reef.held.length < s.reef.held.length) ∧
    (s.recalDue (stack.val * 32 + pc.val) = false → Completes (.hbmRecalibration stack pc eye) s fun t => t = s)

/-- The logbook (R375 to R379, R384 to R386): a record enters the ring and the ditty bag with the next number, or
waits where no number is confirmed; firmware queues records of every type but CHAIN and CLEAR; an archive copy leaves
no unarchived record; a due CHAIN pair takes core L's tag, or a zero tag where register 0 is EMPTY, core L fenced, or
stalled for 10 s, at WARN; a PON starts a new block, a SYS goes on behind the ditty bag, and each writes a BOOT
record. -/
def Obligations.LogbookNumbersChainsAndArchives : Prop :=
  (∀ (r : LogRec) (q : List LogRec) (s : State), s.log.queue = r :: q → s.log.owes = false →
    (s.log.restored = true → s.log.canNumber r.slots = true → slotsOf s.log.ring + r.slots ≤ 65536 →
      Completes .logRecordWrite s fun t =>
        t.log.queue = q ∧ t.log.ring = s.log.ring ++ [{ r with seq := s.log.nextSeq }] ∧
          t.dty.recs.getLast? = some { r with seq := s.log.nextSeq } ∧
          (s.log.saturated = false → s.log.n + r.slots ≤ 2 ^ 20 →
            t.log.nextSeq = s.log.nextSeq + r.slots) ∧
          t.log.lostTotal = s.log.lostTotal) ∧
    (s.log.restored = false ∨ s.log.canNumber r.slots = false →
      Completes .logRecordWrite s fun t => t = s)) ∧
  (∀ (path : Path) (s : State),
    (s.pathOpen path = true → s.log.wrType ≠ 0x03#8 → s.log.wrType ≠ 0x04#8 →
      slotsOf s.log.queue + (if s.log.wrPair then 2 else 1) ≤ 512 →
      Completes (.logWrGo path) s fun t =>
        t.log.queue = s.log.queue ++ [⟨0, Severity.ofCode s.log.wrSev.toNat, RecType.ofCode s.log.wrType,
          s.glb.time, s.log.wrPayload.take (if s.log.wrPair then 46 else 16), s.log.wrPair, false⟩]) ∧
    (s.pathOpen path = false ∨ s.log.wrType = 0x03#8 ∨ s.log.wrType = 0x04#8 →
      Completes (.logWrGo path) s fun t => t = s)) ∧
  (∀ s : State,
    (s.mst.running = true → s.archiveReachable = true → Completes .archiveCopy s fun t =>
      (∀ r ∈ t.log.ring, r.archived = true) ∧ t.log.ring.length = s.log.ring.length ∧
        (slotsOf s.log.archive + slotsOf s.log.unarchived ≤ archiveSlots →
          ∀ r ∈ s.log.ring, r.archived = false → s.log.clearBound < r.last →
            { r with archived := true } ∈ t.log.archive)) ∧
    (s.mst.running = false ∨ s.archiveReachable = false → Completes .archiveCopy s fun t => t = s) ∧
    (s.log.restored = true → s.log.saturated = false → s.log.nextBlock = none → 0xF0000 ≤ s.log.n →
      s.sea.saturated 1 = false →
      (Completes (.blockCounterAdvance true) s fun t =>
        t.log.nextBlock = some (s.sea.counter 1 + 1) ∧ t.sea.counter 1 = s.sea.counter 1 + 1) ∧
      Completes (.blockCounterAdvance false) s fun t =>
        t.log.nextBlock = none ∧ t.sea.counter 1 = s.sea.counter 1 ∧ t.fired 1275 .fault) ∧
    (s.log.n < 0xF0000 → ∀ ok, Completes (.blockCounterAdvance ok) s fun t => t = s) ∧
    (s.log.restored = true → s.chainDue = true → s.log.canNumber 2 = true →
      (s.kce.coreLFenced = true ∨ bitOf s.kce.loaded 0 = false → Completes .chainWrite s fun t =>
        t.log.chainTag = 0#128 ∧ t.log.prevTag = s.log.chainTag ∧ t.log.chainSeq = s.log.nextSeq ∧
          t.log.chainIndex = s.log.chainIndex + 1 ∧ t.log.chainCount = 0) ∧
      (s.kce.coreLFenced = false → bitOf s.kce.loaded 0 = true →
        (s.kce.stallL = none → Completes .chainWrite s fun t =>
          t.log.chainTag = s.chainCmac ∧ t.log.prevTag = s.log.chainTag ∧
            t.log.chainSeq = s.log.nextSeq ∧ t.log.chainIndex = s.log.chainIndex + 1 ∧
            t.log.chainFrom = s.log.nextSeq + 2 ∧ t.log.chainCount = 0) ∧
        (∀ c, s.kce.stallL = some c →
          (Completes .chainWrite s fun t => t = s) ∧
          (s.elapsed c (sec 10) = true → Completes .chainStallTimeout s fun t =>
            t.log.chainTag = 0#128 ∧ t.log.chainSeq = s.log.nextSeq ∧ t.fired 1274 .warn) ∧
          (s.elapsed c (sec 10) = false → Completes .chainStallTimeout s fun t => t = s)))) ∧
    (s.chainDue = false → Completes .chainWrite s fun t => t = s)) ∧
  ∀ s : State,
    (s.log.restored = true → Completes .logbookRestore s fun t => t = s) ∧
    (s.log.restored = false → s.rst.aon = true → s.sea.settled = true → slotsOf s.log.queue ≤ 510 →
      (s.rst.level = .pon → s.sea.saturated 1 = false → s.sea.ctrSlots < 1024 →
        Completes .logbookRestore s fun t =>
          t.log.restored = true ∧ t.log.block = s.sea.counter 1 + 1 ∧ t.log.n = 0 ∧
            t.sea.counter 1 = s.sea.counter 1 + 1 ∧ ∃ r ∈ t.log.queue, r.type = .boot ∧ r.pair = true) ∧
      (s.rst.level ≠ .pon → s.dty.recs ≠ [] → Completes .logbookRestore s fun t =>
        t.log.restored = true ∧
          (∀ r ∈ s.dty.recs, s.log.archiveTop < r.seq → r ∈ t.log.ring) ∧
          t.log.block = (s.dty.recs.map LogRec.last).foldl max 0 / 2 ^ 20 ∧
          t.log.n = (s.dty.recs.map LogRec.last).foldl max 0 % 2 ^ 20 + 1 ∧ t.sea = s.sea ∧
          ∃ r ∈ t.log.queue, r.type = .boot ∧ r.pair = true))

/-- Reading and clearing the logbook (R382, R383, R387, R388, Table LOG-2): a snapshot read answers held records above
the last clear in the order held, up to the count and the payload, keeps its end while more remain and is released
otherwise, or after 60 s; a clear needs the CMAC of register 0 over one of the two newest CHAIN tags, writes its CLEAR
pair first, and takes effect once that pair is archived: then no record at or below the bound is left. -/
def Obligations.LogbookReadsAndClears : Prop :=
  (∀ (m : Mbox) (s : State), s.taken m.val 0xC040 = true →
    (1 < leField (s.payload m.val) 10 1 ∨ 1 < leField (s.payload m.val) 11 1 →
      Completes (.logbookSnapshot m) s fun t =>
        t.log = s.log ∧ t.answered m .invalidInput .range .empty) ∧
    (leField (s.payload m.val) 10 1 ≤ 1 → leField (s.payload m.val) 11 1 ≤ 1 →
      reservedZero (s.payload m.val) [12, 13, 14, 15] = true →
      ∀ stop, stop = ((Sparse.find s.log.snapshots m.val).map Prod.fst).getD (s.log.nextSeq - 1) →
      Completes (.logbookSnapshot m) s fun t => ∃ out more,
        t.answered m .success .none (.bytes (snapshotOutput out more s.log.lostTotal)) ∧
        out = takeSlots (min (leField (s.payload m.val) 8 2) (slotsFit m))
          ((s.log.readable (leField (s.payload m.val) 10 1) (leField (s.payload m.val) 11 1) stop).filter
            fun r => decide (leField (s.payload m.val) 0 8 ≤ r.last)) ∧
        (∀ r ∈ out, s.log.clearBound < r.last ∧ leField (s.payload m.val) 0 8 ≤ r.last ∧
          (leField (s.payload m.val) 11 1 = 1 → r.last ≤ stop)) ∧
        slotsOf out ≤ min (leField (s.payload m.val) 8 2) (slotsFit m) ∧
        (leField (s.payload m.val) 11 1 = 1 → more = true →
          Sparse.find t.log.snapshots m.val = some (stop, s.clock)) ∧
        (leField (s.payload m.val) 11 1 = 0 ∨ more = false →
          Sparse.find t.log.snapshots m.val = none))) ∧
  (∀ (m : Mbox) (e c : Nat) (s : State), Sparse.find s.log.snapshots m.val = some (e, c) →
    (s.elapsed c (sec 60) = true → Completes (.snapshotReleaseTimeout m) s fun t =>
      Sparse.find t.log.snapshots m.val = none) ∧
    (s.elapsed c (sec 60) = false → Completes (.snapshotReleaseTimeout m) s fun t => t = s)) ∧
  (∀ (m : Mbox) (bound : Nat) (auth : BitVec 128) (s : State), s.taken m.val 0xC041 = true →
    s.log.clearPending = none → leField (s.payload m.val) 0 8 = bound →
    BitVec.ofNat 128 (leField (s.payload m.val) 8 16) = auth →
    (bound = 0 ∨ s.log.nextSeq ≤ bound → Completes (.logbookClear m) s fun t =>
      t.log = s.log ∧ t.answered m .invalidInput .range .empty) ∧
    (bound ≠ 0 → bound < s.log.nextSeq →
      (bitOf s.kce.loaded 0 = false ∨ s.kce.coreLFenced = true ∨
          (s.clearAuth bound s.log.chainTag ≠ auth ∧ s.clearAuth bound s.log.prevTag ≠ auth) →
        Completes (.logbookClear m) s fun t =>
          t.log = s.log ∧ t.answered m .invalidInput .authFail .empty) ∧
      (bitOf s.kce.loaded 0 = true → s.kce.coreLFenced = false →
        s.clearAuth bound s.log.chainTag = auth ∨ s.clearAuth bound s.log.prevTag = auth →
        s.log.queue = [] → s.log.owes = false → s.log.canNumber 2 = true →
        slotsOf s.log.ring + 2 ≤ 65536 → Completes (.logbookClear m) s fun t =>
          t.log.clearPending = some ⟨bound, s.log.nextSeq, m⟩ ∧ (t.mb m.val).st = .executing ∧
            t.log.archive = s.log.archive ∧ t.log.clearBound = s.log.clearBound ∧
            ∃ r ∈ t.log.ring, r.type = .clear ∧ r.seq = s.log.nextSeq ∧ r.sev = .warn ∧
              r.payload.take 6 = leBytes 6 bound))) ∧
  ∀ (x : ClearRun) (s : State), s.log.clearPending = some x →
    (s.mst.running = true → s.archiveReachable = true → Completes .clearRetire s fun t =>
      t.log.clearPending = none ∧ t.log.clearBound = max s.log.clearBound x.bound ∧
        (∀ r ∈ t.log.archive, x.bound < r.last) ∧
        (s.taken x.mbox.val 0xC041 = true →
          t.answered x.mbox .success .none (.bytes (leBytes 8 x.seq)))) ∧
    (s.mst.running = false ∨ s.archiveReachable = false → Completes .clearRetire s fun t => t = s)

/-- The sea chest (R390 to R396, R399, R401 to R404): a record is stored whole or not at all, and no other
identifier's value changes; a withdrawn one reads as absent; raw operations clear bits of their page, or erase their
sector, outside sectors 0 to 4 only; a counter rises by one, stays at its largest value at CRITICAL, or stays at FAULT
where its program fails, and a refill changes no value. -/
def Obligations.SeaChestStoresWholeOrNotAtAll : Prop :=
  (∀ (id : BitVec 15) (p : List Byte) (s : State), p.length ≤ 480 →
    (s.sea.settled = true → s.seq.state ≠ .strike →
      (s.sea.fits [(id.toNat, p)] = true → Completes (.recordStore id p true) s fun t =>
        t.sea.value id.toNat = some p ∧ t.sea.txn = s.sea.txn + 1 ∧
          ∀ j ≠ id.toNat, t.sea.value j = s.sea.value j) ∧
      (s.sea.fits [(id.toNat, p)] = false → Completes (.recordStore id p true) s fun t =>
        t.sea.recs = s.sea.recs ∧ t.sea.storeFailed = true ∧ t.fired 1275 .fault) ∧
      (Completes (.recordStore id p false) s fun t =>
        t.sea.recs = s.sea.recs ∧ t.sea.storeFailed = true ∧ t.fired 1275 .fault) ∧
      (Completes (.recordWithdraw id) s fun t =>
        t.sea.value id.toNat = none ∧ ∀ j ≠ id.toNat, t.sea.value j = s.sea.value j)) ∧
    (s.sea.settled = false ∨ s.seq.state = .strike →
      (∀ v, Completes (.recordStore id p v) s fun t => t = s) ∧
      Completes (.recordWithdraw id) s fun t => t = s)) ∧
  (∀ (path : Path) (s : State), s.seq.state ≠ .strike →
    (s.pathOpen path = true →
      (5 ≤ s.sea.rawSector → s.sea.canProgram (s.sea.rawBytes.map Prod.fst) = true →
        Completes (.rawProgram path) s fun t =>
          t.sea.rawError = s.sea.rawError ∧
          (∀ e ∈ s.sea.rawBytes, Memory.read 0xFF#8 t.sea.flash e.1 =
            Memory.read 0xFF#8 s.sea.flash e.1 &&& e.2) ∧
          ∀ a, (∀ e ∈ s.sea.rawBytes, e.1 ≠ a) →
            Memory.read 0xFF#8 t.sea.flash a = Memory.read 0xFF#8 s.sea.flash a) ∧
      (s.sea.rawSector < 5 ∨ s.sea.canProgram (s.sea.rawBytes.map Prod.fst) = false →
        Completes (.rawProgram path) s fun t =>
          t.sea.rawError = true ∧ t.sea.flash = s.sea.flash) ∧
      (5 ≤ s.sea.rawSector → Completes (.rawErase path) s fun t =>
        (∀ a, Memory.read 0xFF#8 t.sea.flash a =
          if a / 32768 = s.sea.rawSector then 0xFF#8 else Memory.read 0xFF#8 s.sea.flash a) ∧
          Sparse.get 0 t.sea.erases s.sea.rawSector = Sparse.get 0 s.sea.erases s.sea.rawSector + 1) ∧
      (s.sea.rawSector < 5 → Completes (.rawErase path) s fun t =>
        t.sea.rawError = true ∧ t.sea.flash = s.sea.flash)) ∧
    (s.pathOpen path = false → ∀ c ∈ [Instr.rawProgram path, .rawErase path],
      Completes c s fun t => t = s)) ∧
  (∀ (c : Fin 8) (s : State),
    (1 ≤ c.val → c.val ≤ 5 → s.sea.settled = true → s.seq.state ≠ .strike →
      (s.sea.saturated c.val = false →
        (Completes (.counterIncrement c true) s fun t =>
          t.sea.counter c.val = s.sea.counter c.val + 1 ∧
            ∀ j ≠ c.val, t.sea.counter j = s.sea.counter j) ∧
        Completes (.counterIncrement c false) s fun t =>
          t.sea.counters = s.sea.counters ∧ t.sea.storeFailed = true ∧ t.fired 1275 .fault) ∧
      (s.sea.saturated c.val = true → ∀ v, Completes (.counterIncrement c v) s fun t =>
        t.sea = s.sea ∧ t.fired 1277 .critical)) ∧
    (c.val = 0 ∨ 5 < c.val → ∀ v, Completes (.counterIncrement c v) s fun t => t = s)) ∧
  ∀ s : State,
    (960 < s.sea.ctrSlots → s.sea.settled = true → s.seq.state ≠ .strike →
      Completes .counterRefill s fun t =>
        t.sea.counters = s.sea.counters ∧
          (s.sea.fits [(0x0303, ((List.range 5).map fun i => leBytes 8 (s.sea.counter (i + 1))).flatten)] =
            true → t.sea.ctrSlots = 5 ∧ (t.sea.value 0x0303).isSome)) ∧
    (s.sea.ctrSlots ≤ 960 → Completes .counterRefill s fun t => t = s) ∧
    (s.sea.erasing = true → s.seq.state ≠ .strike → Completes .backgroundErase s fun t =>
      t.sea.erasing = false ∧ t.sea.otherErased = true ∧ t.sea.recs = s.sea.recs) ∧
    (s.sea.erasing = false → Completes .backgroundErase s fun t => t = s) ∧
    (s.rst.aon = true → s.sea.settled = false → Completes .seaChestSettle s fun t =>
      t.sea.settled = true ∧ t.sea.otherErased = true ∧ t.sea.recs = s.sea.recs ∧
        t.sea.counters = s.sea.counters) ∧
    (s.sea.settled = true → Completes .seaChestSettle s fun t => t = s)

/-- The event sources (R405 to R407, R409, R412, R413, R446): a firing sets its own pending bit, count and severity
and no other source's; its index reaches the Mainmast FIFO or the overflow bit; a FAULT or CRITICAL firing writes its
record at once, a NOTE or WARN firing within 1 ms of the last is held and carried later; a bucket falls by one and
never below 0; DEV_ALERT_N is released once its logs are clear; a hot controller or stack is recorded once a minute.
-/
def Obligations.EventsFireHoldAndLeak : Prop :=
  (∀ (i : Nat) (v : Fin 4) (d : Detail) (s : State), i ≤ 1283 →
    (sevOk i (Severity.ofCode v.val) = false → Completes (.eventFire i v d) s fun t => t = s) ∧
    (sevOk i (Severity.ofCode v.val) = true →
      (Completes (.eventFire i v d) s fun t =>
        t.fired i (Severity.ofCode v.val) ∧ (t.src i).count = satAdd 0xFFF (s.src i).count 1 ∧
          (∀ j ≠ i, (t.src j).pending = (s.src j).pending ∧ (t.src j).count = (s.src j).count) ∧
          ((s.src i).mst = false → t.evt.fifo = s.evt.fifo) ∧
          ((s.src i).mst = true → s.evt.fifo.length < 256 → t.evt.fifo = s.evt.fifo ++ [i]) ∧
          ((s.src i).mst = true → 256 ≤ s.evt.fifo.length →
            t.evt.fifo = s.evt.fifo ∧ t.evt.fifoOverflow = true)) ∧
      (i ∉ [1026, 1046, 1227, 1228, 1256, 1273] → slotsOf s.log.queue ≤ 510 →
        (2 ≤ v.val → (∀ c, (s.src i).lastRec = some c → c ≤ s.clock) →
          Completes (.eventFire i v d) s fun t =>
            ∃ r ∈ t.log.queue, r.type = .event ∧ r.sev = Severity.ofCode v.val ∧
              r.payload.take 2 = leBytes 2 i) ∧
        (∀ c, v.val ≤ 1 → (s.src i).lastRec = some c → s.clock < c + ms 1 →
          (s.src i).heldSev.code ≤ 1 → Completes (.eventFire i v d) s fun t =>
            t.log.queue = s.log.queue ∧ (t.src i).heldCount = (s.src i).heldCount + 1)))) ∧
  (∀ (i : Nat) (s : State), i ≤ 1283 →
    ((∀ k, (s.src k).heldCount = 0) → Completes (.eventCoalesceFlush i) s fun t => t = s) ∧
    (∀ c, (s.src i).lastRec = some c → c + holdPeriod i (s.src i).heldSev ≤ s.clock →
      Completes (.eventCoalesceFlush i) s fun t => (t.src i).heldCount = 0)) ∧
  (∀ (cls : Fin 6) (u : Nat) (s : State), bucketOk cls u = true →
    Completes (.bucketLeak cls u) s fun t =>
      (Sparse.get Bucket.reset t.evt.buckets (bucketKey cls.val u)).level =
          (Sparse.get Bucket.reset s.evt.buckets (bucketKey cls.val u)).level - 1 ∧
        (Sparse.get Bucket.reset t.evt.buckets (bucketKey cls.val u)).fired =
          (Sparse.get Bucket.reset s.evt.buckets (bucketKey cls.val u)).fired ∧
        ∀ k ≠ bucketKey cls.val u,
          Sparse.get Bucket.reset t.evt.buckets k = Sparse.get Bucket.reset s.evt.buckets k) ∧
  ∀ s : State,
    (s.evt.alert = true → s.evt.alertHeld = false → s.elapsed s.evt.alertAt (ms 10) = true →
      Completes .alertHoldExpiry s fun t => t.evt.alert = false) ∧
    (s.evt.alertHeld = true ∨ s.elapsed s.evt.alertAt (ms 10) = false →
      Completes .alertHoldExpiry s fun t => t = s) ∧
    (∀ (sensor : Fin 16) (c : Nat),
      (105 ≤ c → s.elapsedOpt s.seq.hotAt (sec 60) = true →
        Completes (.controllerTemperatureWarning sensor c) s fun t =>
          t.seq.hotAt = some s.clock ∧ t.fired 1011 .warn) ∧
      (c < 105 ∨ s.elapsedOpt s.seq.hotAt (sec 60) = false →
        Completes (.controllerTemperatureWarning sensor c) s fun t => t = s)) ∧
    ∀ (k : Stack) (c : Nat),
      (95 ≤ c → s.elapsedOpt (Sparse.find s.cache.stackHotAt k.val) (sec 60) = true →
        Completes (.hbmStackTemperature k c) s fun t =>
          Sparse.find t.cache.stackHotAt k.val = some s.clock ∧ t.fired (1132 + 32 * k.val) .fault) ∧
      (c < 95 → Completes (.hbmStackTemperature k c) s fun t => t = s)

/-- Register accesses and their paths (R409, R415, R425 to R428, R432): a closed path changes nothing; an unaligned
access, or one to a domain that is down, is turned away; a read answers the register, a high word whose latch is empty
the current one; the FIFO's read removes its oldest entry and the address table's marks the entry shown; a factory
register reads a free value on the debug TAP (log entry 39) and 0 elsewhere, an undocumented place 0; a host reads its
vendor region, the CXL regions answering a free value (log entry 39). -/
def Obligations.RegisterAccessFollowsItsPath : Prop :=
  (∀ (path : Path) (c : Instr) (s : State), s.pathOpen path = false →
    c ∈ [.mstFifoRead path, .pmuFreeze path 0, .pmuFreeze path 1, .pmuFreeze path 2, .pmuFreeze path 3,
        .pmuClear path 0, .pmuClear path 1, .pmuClear path 2, .pmuClear path 3] ∨
      (∃ ch, c = .addrTabHiRead path ch ∨ c = .addrTabClear path ch) ∨
      (∃ a, c = .lowWordRead path a) ∨
      (∃ a d, c = .registerWrite path a d ∨ c = .lockSet path a d ∨ c = .timeHiWrite path d) →
    Completes c s fun t => t = s) ∧
  (∀ (path : Path) (addr d : Word) (s : State), s.pathOpen path = true →
    (addr.toNat % 4 ≠ 0 ∨
        ∃ b i, locate addr.toNat = .reg b i ∧ s.domainUp b i = false →
      Completes (.lowWordRead path addr) s fun t =>
        t = { s with access := ⟨0#64, decide (path = .mainmast)⟩ }) ∧
    (addr.toNat % 4 ≠ 0 ∨
        ∃ b i, locate addr.toNat = .reg b i ∧ s.domainUp b i = false →
      Completes (.registerWrite path addr d) s fun t =>
        t = { s with access := ⟨0#64, decide (path = .mainmast)⟩ }) ∧
    (addr.toNat % 4 = 0 →
      (locate addr.toNat = .factory ∨ locate addr.toNat = .absent →
        (path = .debug → locate addr.toNat = .factory → Completes (.lowWordRead path addr) s fun t =>
          t = { s with access := ⟨(Config.factoryValue addr.toNat).setWidth 64, false⟩ }) ∧
        (path = .mainmast ∨ locate addr.toNat = .absent →
          (Completes (.lowWordRead path addr) s fun t => t = { s with access := ⟨0#64, false⟩ }) ∧
          Completes (.registerWrite path addr d) s fun t => t = { s with access := ⟨0#64, false⟩ })) ∧
      (path = .debug → locate addr.toNat = .factory →
        exec (.registerWrite path addr d) s = .refused .factoryRegister) ∧
      (∀ b i u, locate addr.toNat = .reg b i → s.domainUp b i = true →
        u = { s.wakeBlock b with access := ⟨0#64, false⟩ } →
        (b.isHigh i = false → Completes (.lowWordRead path addr) s fun t =>
          t.access = ⟨(u.readReg path b i).setWidth 64, false⟩) ∧
        (b.isHigh i = true → Sparse.find (s.latch path).high (b.key i) = none →
          Completes (.lowWordRead path addr) s fun t =>
            t.access = ⟨(u.readReg path b i).setWidth 64, false⟩)))) ∧
  (∀ (path : Path) (s : State), s.pathOpen path = true →
    (s.rst.datapath = true → Completes (.mstFifoRead path) s fun t =>
      t.evt = { s.evt with fifo := s.evt.fifo.drop 1 } ∧
        t.access = ⟨(BitVec.ofNat 32 s.evt.fifoWord).setWidth 64, false⟩) ∧
    (s.rst.datapath = false → Completes (.mstFifoRead path) s fun t =>
      t = { s with access := ⟨0#64, decide (path = .mainmast)⟩ }) ∧
    ∀ ch : Chan, s.rst.datapath = true → bitOf s.clk.chiutFailed (moduleOf ch.val) = false →
      (Completes (.addrTabHiRead path ch) s fun t =>
        (∀ e, Sparse.find (s.ch ch.val).addrTab (s.ch ch.val).addrIdx.toNat = some e →
          Sparse.find (t.ch ch.val).addrTab (s.ch ch.val).addrIdx.toNat = some { e with read := true }) ∧
        ∀ k ≠ (s.ch ch.val).addrIdx.toNat,
          Sparse.find (t.ch ch.val).addrTab k = Sparse.find (s.ch ch.val).addrTab k) ∧
      Completes (.addrTabClear path ch) s fun t =>
        (t.ch ch.val).addrTab = [] ∧ (t.ch ch.val).addrMade = 0 ∧ (t.ch ch.val).addrOverflow = 0) ∧
  ∀ (p : Port) (offset : BitVec 20) (size : Nat) (s : State),
    ((s.port p).linkUp = false → Completes (.hostWindowRead p offset size) s fun t => t = s) ∧
    ((s.port p).linkUp = true →
      (offset.toNat < 0x12000 ∨ (0x20000 ≤ offset.toNat ∧ offset.toNat < 0x42000) →
        Completes (.hostWindowRead p offset size) s fun t =>
          t = { s with access := ⟨(Config.entropy s.draws).setWidth 64, false⟩, draws := s.draws + 1 }) ∧
      (0x80000 ≤ offset.toNat →
        ((size ≠ 4 ∧ size ≠ 8) ∨ offset.toNat % size ≠ 0 →
          Completes (.hostWindowRead p offset size) s fun t => t = { s with access := ⟨0#64, false⟩ }) ∧
        (size = 4 → offset.toNat % 4 = 0 →
          (s.hostReg p offset.toNat = none → Completes (.hostWindowRead p offset size) s fun t =>
            t = { s with access := ⟨0#64, false⟩ }) ∧
          ∀ b i, s.hostReg p offset.toNat = some (b, i) → b.isHigh i = false →
            Completes (.hostWindowRead p offset size) s fun t =>
              t.access = ⟨((s.wakeBlock b).readReg (.host p) b i).setWidth 64, false⟩)))

/-- The two words of a 64-bit quantity (R5): the low word lies at the lower of two consecutive registers; its read
answers it and latches the high word, and the next read of the high word answers what is latched and empties the
latch. -/
def Obligations.LowWordReadsLatchTheHighWord : Prop :=
  ∀ (path : Path) (addr : Word) (b : Block) (i : Nat) (u s : State), s.pathOpen path = true →
    addr.toNat % 4 = 0 → locate addr.toNat = .reg b i → s.domainUp b i = true →
    u = { s.wakeBlock b with access := ⟨0#64, false⟩ } →
    (b.isLow i = true →
      locate (addr.toNat + 4) = .reg b (i + 1) ∧ b.isHigh (i + 1) = true ∧
        Completes (.lowWordRead path addr) s fun t =>
          t.access = ⟨(u.readReg path b i).setWidth 64, false⟩ ∧
            Sparse.find (t.latch path).high (b.key (i + 1)) = some (u.readReg path b (i + 1))) ∧
    ∀ w, b.isHigh i = true → Sparse.find (s.latch path).high (b.key i) = some w →
      Completes (.lowWordRead path addr) s fun t =>
        t.access = ⟨w.setWidth 64, false⟩ ∧ Sparse.find (t.latch path).high (b.key i) = none

/-- A write of HPn.DEVLOAD_CFG (R54): thresholds that do not rise from optimal to severe leave all three as they were.
-/
def Obligations.DevloadThresholdsRiseOrStand : Prop :=
  ∀ (path : Path) (p : Port) (addr d : Word) (s : State), locate addr.toNat = .reg (.hp p) 4 →
    ¬ (bits d 15 8 < bits d 23 16 ∧ bits d 23 16 < bits d 31 24) →
    Completes (.registerWrite path addr d) s fun t =>
      (t.port p).optimal = (s.port p).optimal ∧ (t.port p).moderate = (s.port p).moderate ∧
        (t.port p).severe = (s.port p).severe

/-- The freeze and the clear of a counter unit (R421): from a write of 1 to freeze on, no cycle changes one of the
unit's nine counters, the cycle counter among them; a write of 1 to clear zeroes all nine and the overflow bits. -/
def Obligations.FreezeStopsAndClearZeroes : Prop :=
  (∀ (path : Path) (u : Fin 4) (addr d : Word) (s : State), s.pathOpen path = true →
    addr.toNat % 4 = 0 → locate addr.toNat = .reg (.pmu u.val) 0 → s.rst.datapath = true →
    (bitOf d 31 = true → Completes (.registerWrite path addr d) s fun t =>
      (t.pmuUnit u.val).freeze = true ∧
        (bitOf d 30 = false → (t.pmuUnit u.val).cyc = (s.pmuUnit u.val).cyc ∧
          (t.pmuUnit u.val).cnt = (s.pmuUnit u.val).cnt)) ∧
    (bitOf d 30 = true → Completes (.registerWrite path addr d) s fun t =>
      (t.pmuUnit u.val).cyc = 0#64 ∧ (t.pmuUnit u.val).ovf = 0#9 ∧
        ∀ c : Fin 8, Sparse.get 0#48 (t.pmuUnit u.val).cnt c.val = 0#48)) ∧
  (∀ (path : Path) (u : Fin 4) (s : State), s.pathOpen path = true → s.rst.datapath = true →
    (Completes (.pmuFreeze path u) s fun t =>
      t.pmuUnit u.val = { s.pmuUnit u.val with freeze := true }) ∧
    Completes (.pmuClear path u) s fun t =>
      t.pmuUnit u.val = { s.pmuUnit u.val with cnt := [], cyc := 0#64, ovf := 0#9 }) ∧
  ∀ (cycles : Nat) (u : Fin 4) (s : State), (s.pmuUnit u.val).freeze = true →
    Completes (.pmuCycleCount cycles) s fun t =>
      (t.pmuUnit u.val).freeze = true ∧ (t.pmuUnit u.val).cyc = (s.pmuUnit u.val).cyc ∧
        (t.pmuUnit u.val).cnt = (s.pmuUnit u.val).cnt ∧ (t.pmuUnit u.val).ovf = (s.pmuUnit u.val).ovf

/-- Register writes, locks, counters and time (R6, R8, R416, R417, R427, R430): an undefined encoding leaves its field
and the others take effect; a locked register keeps its fields; GLB.TIME_LO waits for GLB.TIME_HI; a lock bit is set
by 1; and counted cycles advance the model's clock and, with the always-on domain, the timestamp and a running unit's
cycle counter (the clock's advance is the model's, log entry 7). -/
def Obligations.WritesLocksAndCyclesFollowTheirRules : Prop :=
  (∀ (path : Path) (addr d : Word) (s : State), s.pathOpen path = true → addr.toNat % 4 = 0 →
    (∀ p, locate addr.toNat = .reg (.hp p) 4 → s.rst.datapath = true →
      Completes (.registerWrite path addr d) s fun t =>
        (bits d 15 8 < bits d 23 16 ∧ bits d 23 16 < bits d 31 24 →
          (t.port p).severe.toNat = bits d 31 24 ∧ (t.port p).moderate.toNat = bits d 23 16 ∧
            (t.port p).optimal.toNat = bits d 15 8)) ∧
    (∀ p, locate addr.toNat = .reg (.hp p) 0 → s.rst.datapath = true →
      ((s.port p).lock = true → Completes (.registerWrite path addr d) s fun t =>
        (t.port p).quiet = (s.port p).quiet) ∧
      ((s.port p).lock = false →
        Completes (.registerWrite path addr d) s fun t =>
          (t.port p).lock = bitOf d 31 ∧ (t.port p).l0pEn = bitOf d 8 ∧
            (bits d 17 16 = 3 → (t.port p).mode = (s.port p).mode) ∧
            (bits d 17 16 ≤ 2 → (t.port p).mode.toNat = bits d 17 16))) ∧
    (locate addr.toNat = .reg .glb 10 → s.rst.aon = true → s.rst.datapath = true →
      Completes (.registerWrite path addr d) s fun t =>
        (t.latch path).timeLo = some d ∧ t.glb.time = s.glb.time) ∧
    (∀ i, locate addr.toNat = .reg .stp i → s.rst.datapath = true →
      Completes (.registerWrite path addr d) s fun t =>
        (i = 6 → t.stp.rebuildRate =
          if 1 ≤ bits d 5 0 ∧ bits d 5 0 ≤ 48 then bits d 5 0 else s.stp.rebuildRate) ∧
        (i = 2 → t.stp.scrubEnable = bitOf d 31 ∧ t.stp.passDays =
          if 1 ≤ bits d 5 0 ∧ bits d 5 0 ≤ 60 then bits d 5 0 else s.stp.passDays)) ∧
    ∀ off, locate addr.toNat = .sram off → Completes (.registerWrite path addr d) s fun t =>
      (∀ k < 4, Memory.read 0#8 t.dty.sram (off + k) = BitVec.ofNat 8 (d.toNat / 256 ^ k)) ∧
        ∀ a, a < off ∨ off + 4 ≤ a → Memory.read 0#8 t.dty.sram a = Memory.read 0#8 s.dty.sram a) ∧
  (∀ (path : Path) (d : Word) (s : State), s.pathOpen path = true → s.rst.aon = true →
    s.rst.datapath = true → Completes (.timeHiWrite path d) s fun t =>
      (∀ lo, (s.latch path).timeLo = some lo → t.glb.time = d ++ lo) ∧
        ((s.latch path).timeLo = none → t.glb.time = d ++ s.glb.time.setWidth 32) ∧
        (t.latch path).timeLo = none ∧ t.glb.timeHalf = s.glb.timeHalf) ∧
  (∀ (path : Path) (addr d : Word) (b : Block) (i k : Nat) (s : State), s.pathOpen path = true →
    addr.toNat % 4 = 0 → locate addr.toNat = .reg b i → s.domainUp b i = true →
    (lockBit b i = none → Completes (.lockSet path addr d) s fun t => t = s) ∧
    (lockBit b i = some k →
      (bitOf d k = false → Completes (.lockSet path addr d) s fun t => t = s) ∧
      (bitOf d k = true → Completes (.lockSet path addr d) s fun t =>
        (∀ p, b = .hp p → (t.port p).lock = true ∧
          ((s.port p).lock = true → (t.port p).quiet = (s.port p).quiet)) ∧
        (b = .wlv → t.wlv.lock = true ∧ (s.wlv.lock = true → t.wlv = s.wlv)) ∧
        (b = .mst → t.mst.wdLock = true ∧ (s.mst.wdLock = true → t.mst.timeoutMs = s.mst.timeoutMs)) ∧
        (b = .seq → t.seq.strikeLock = true ∧ (s.seq.strikeLock = true → t.seq = s.seq)) ∧
        (b = .clk → t.clk.lock = true ∧ (s.clk.lock = true → t.clk = s.clk))))) ∧
  ∀ (cycles : Nat) (s : State),
    (cycles = 0 → Completes (.pmuCycleCount cycles) s fun t => t = s) ∧
    (0 < cycles →
      (s.datapathClock = true → s.rst.datapath = true → Completes (.pmuCycleCount cycles) s fun t =>
        t.clock = s.clock + cycles ∧
          (∀ u : Fin 4, (s.pmuUnit u.val).freeze = false →
            (t.pmuUnit u.val).cyc = (s.pmuUnit u.val).cyc + BitVec.ofNat 64 cycles) ∧
          (s.rst.aon = true → t.glb.time =
            s.glb.time + BitVec.ofNat 64 ((cycles + if s.glb.timeHalf then 1 else 0) / 2))) ∧
      (s.datapathClock = false → Completes (.pmuCycleCount cycles) s fun t =>
        t.clock = s.clock + 61036 * cycles ∧ t.pmu = s.pmu))

/-- Every step keeps the addressed memories of the block, the retained SRAM and the sea chest's flash, in their
canonical form: addresses strictly rising, no entry equal to what an unlisted address reads. -/
def Obligations.StepsKeepMemoriesCanonical : Prop :=
  ∀ s t : State, step s = .next t →
    Memory.wf 0#8 s.dty.sram = true → Memory.wf 0xFF#8 s.sea.flash = true →
    Memory.wf 0#8 t.dty.sram = true ∧ Memory.wf 0xFF#8 t.sea.flash = true

/-- At reset both addressed memories are in canonical form. -/
def Obligations.MemoriesAreCanonicalAtReset : Prop :=
  Memory.wf 0#8 State.reset.dty.sram = true ∧ Memory.wf 0xFF#8 State.reset.sea.flash = true
end

