-- ==== Sys2Proof/Laws/Sparse.lean ====
section
/-! SUPPORT. The laws of sparse tables: a read after a write, other keys untouched, and the canonical
form kept by every operation. -/

namespace Sys2Proof.Machine

variable {α : Type}

@[simp] theorem Sparse.find_put_same (m : Sparse α) (k : Nat) (v : α) :
    Sparse.find (Sparse.put m k v) k = some v := by
  induction m with
  | nil => simp [Sparse.put, Sparse.find]
  | cons e r ih =>
    unfold Sparse.put
    split
    · simp [Sparse.find]
    · split
      · simp [Sparse.find]
      · simp only [Sparse.find]
        rw [if_neg (by omega), ih]

theorem Sparse.find_put_other (m : Sparse α) {k j : Nat} (v : α) (h : j ≠ k) :
    Sparse.find (Sparse.put m k v) j = Sparse.find m j := by
  induction m with
  | nil => simp [Sparse.put, Sparse.find, Ne.symm h]
  | cons e r ih =>
    unfold Sparse.put
    split
    · simp [Sparse.find, Ne.symm h]
    · split
      · rename_i h1
        simp [Sparse.find, h1, h1 ▸ Ne.symm h]
      · simp only [Sparse.find, ih]

@[simp] theorem Sparse.find_erase_same (m : Sparse α) (k : Nat) :
    Sparse.find (Sparse.erase m k) k = none := by
  induction m with
  | nil => rfl
  | cons e r ih =>
    by_cases h : e.1 = k
    · simpa [Sparse.erase, List.filter_cons, h] using ih
    · simpa [Sparse.erase, List.filter_cons, h, Sparse.find] using ih

theorem Sparse.find_erase_other (m : Sparse α) {k j : Nat} (h : j ≠ k) :
    Sparse.find (Sparse.erase m k) j = Sparse.find m j := by
  induction m with
  | nil => rfl
  | cons e r ih =>
    by_cases h1 : e.1 = k
    · have : e.1 ≠ j := fun h2 => h (h2.symm.trans h1)
      simpa [Sparse.erase, List.filter_cons, h1, Sparse.find, this, Ne.symm h] using ih
    · simp only [Sparse.erase, List.filter_cons, bne_iff_ne, ne_eq, h1, not_false_eq_true, ite_true,
        Sparse.find] at *
      rw [ih]

@[simp] theorem Sparse.get_set_same [DecidableEq α] (d : α) (m : Sparse α) (k : Nat) (v : α) :
    Sparse.get d (Sparse.set d m k v) k = v := by
  unfold Sparse.set Sparse.get
  split
  · simp [*]
  · simp

theorem Sparse.get_set_other [DecidableEq α] (d : α) (m : Sparse α) {k j : Nat} (v : α) (h : j ≠ k) :
    Sparse.get d (Sparse.set d m k v) j = Sparse.get d m j := by
  unfold Sparse.set Sparse.get
  split
  · rw [Sparse.find_erase_other m h]
  · rw [Sparse.find_put_other m v h]

theorem Sparse.risingFrom_mono (m : Sparse α) {a b : Nat} (h : a ≤ b)
    (hm : Sparse.risingFrom b m = true) : Sparse.risingFrom a m = true := by
  cases m with
  | nil => rfl
  | cons e r =>
    simp only [Sparse.risingFrom, Bool.and_eq_true, decide_eq_true_eq] at *
    exact ⟨by omega, hm.2⟩

theorem Sparse.risingFrom_put (m : Sparse α) {lo k : Nat} (v : α) (h : lo ≤ k)
    (hm : Sparse.risingFrom lo m = true) : Sparse.risingFrom lo (Sparse.put m k v) = true := by
  induction m generalizing lo with
  | nil => simp [Sparse.put, Sparse.risingFrom, h]
  | cons e r ih =>
    simp only [Sparse.risingFrom, Bool.and_eq_true, decide_eq_true_eq] at hm
    unfold Sparse.put
    split
    · simp only [Sparse.risingFrom, Bool.and_eq_true, decide_eq_true_eq]
      exact ⟨h, by omega, hm.2⟩
    · split
      · rename_i h2
        simp only [Sparse.risingFrom, Bool.and_eq_true, decide_eq_true_eq]
        exact ⟨h, h2 ▸ hm.2⟩
      · simp only [Sparse.risingFrom, Bool.and_eq_true, decide_eq_true_eq]
        exact ⟨hm.1, ih (by omega) hm.2⟩

theorem Sparse.risingFrom_filter (m : Sparse α) {lo : Nat} (p : Nat × α → Bool)
    (hm : Sparse.risingFrom lo m = true) : Sparse.risingFrom lo (m.filter p) = true := by
  induction m generalizing lo with
  | nil => rfl
  | cons e r ih =>
    simp only [Sparse.risingFrom, Bool.and_eq_true, decide_eq_true_eq] at hm
    rw [List.filter_cons]
    split
    · simp only [Sparse.risingFrom, Bool.and_eq_true, decide_eq_true_eq]
      exact ⟨hm.1, ih hm.2⟩
    · exact Sparse.risingFrom_mono _ (by omega) (ih hm.2)

theorem Sparse.rising_put (m : Sparse α) (k : Nat) (v : α) (hm : Sparse.rising m = true) :
    Sparse.rising (Sparse.put m k v) = true :=
  Sparse.risingFrom_put m v (Nat.zero_le k) hm

theorem Sparse.rising_erase (m : Sparse α) (k : Nat) (hm : Sparse.rising m = true) :
    Sparse.rising (Sparse.erase m k) = true :=
  Sparse.risingFrom_filter m _ hm

theorem Sparse.mem_put {m : Sparse α} {k : Nat} {v : α} {e : Nat × α}
    (h : e ∈ Sparse.put m k v) : e = (k, v) ∨ e ∈ m := by
  induction m with
  | nil => simpa [Sparse.put] using h
  | cons f r ih =>
    unfold Sparse.put at h
    split at h
    · rcases List.mem_cons.1 h with h | h
      · exact .inl h
      · exact .inr h
    · split at h
      · rcases List.mem_cons.1 h with h | h
        · exact .inl h
        · exact .inr (List.mem_cons_of_mem _ h)
      · rcases List.mem_cons.1 h with h | h
        · exact .inr (h ▸ List.mem_cons_self)
        · rcases ih h with h | h
          · exact .inl h
          · exact .inr (List.mem_cons_of_mem _ h)

/-- Every write keeps the canonical form. -/
theorem Sparse.wf_set [DecidableEq α] (d : α) (m : Sparse α) (k : Nat) (v : α)
    (hm : Sparse.wf d m = true) : Sparse.wf d (Sparse.set d m k v) = true := by
  simp only [Sparse.wf, Bool.and_eq_true, List.all_eq_true, bne_iff_ne] at *
  unfold Sparse.set
  split
  · exact ⟨Sparse.rising_erase m k hm.1, fun e he => hm.2 e (List.mem_filter.1 he).1⟩
  · rename_i hv
    refine ⟨Sparse.rising_put m k v hm.1, fun e he => ?_⟩
    rcases Sparse.mem_put he with rfl | he
    · exact hv
    · exact hm.2 e he

/-- A byte read back after a write. -/
@[simp] theorem Memory.read_write_same (d : Byte) (m : List Host.Cell) (a : Nat) (b : Byte) :
    Memory.read d (Memory.write d m a b) a = b :=
  Sparse.get_set_same d m a b

/-- A write leaves every other byte alone. -/
theorem Memory.read_write_other (d : Byte) (m : List Host.Cell) {a c : Nat} (b : Byte) (h : c ≠ a) :
    Memory.read d (Memory.write d m a b) c = Memory.read d m c :=
  Sparse.get_set_other d m b h

/-- A byte write keeps the canonical form. -/
theorem Memory.wf_write (d : Byte) (m : List Host.Cell) (a : Nat) (b : Byte)
    (h : Memory.wf d m = true) : Memory.wf d (Memory.write d m a b) = true :=
  Sparse.wf_set d m a b h

/-- A write of many bytes keeps the canonical form. -/
theorem Memory.wf_writeBytes (d : Byte) (bs : List Byte) (m : List Host.Cell) (a : Nat)
    (h : Memory.wf d m = true) : Memory.wf d (Memory.writeBytes d m a bs) = true := by
  induction bs generalizing m a with
  | nil => exact h
  | cons b r ih => exact ih _ _ (Memory.wf_write d m a b h)

end Sys2Proof.Machine
end

