-- ==== Sys2Proof/Laws/State.lean ====
section
/-! SUPPORT. The laws of State: what each named update leaves alone, one field a lemma, and what the
accessors read after it. -/

namespace Sys2Proof.Machine

open Sys2Proof

/-! ## Ports -/

@[simp] theorem State.port_setPort (s : State) (p : Port) (x : PortState) : (s.setPort p x).port p = x := by
  cases p <;> rfl

@[simp] theorem State.port_setPort_other (s : State) (p : Port) (x : PortState) :
    (s.setPort p x).port (portOther p) = s.port (portOther p) := by
  cases p <;> rfl

@[simp] theorem State.port_modPort (s : State) (p : Port) (f : PortState → PortState) :
    (s.modPort p f).port p = f (s.port p) :=
  State.port_setPort s p _

@[simp] theorem State.port_modPort_other (s : State) (p : Port) (f : PortState → PortState) :
    (s.modPort p f).port (portOther p) = s.port (portOther p) :=
  State.port_setPort_other s p _

@[simp] theorem portOther_other (p : Port) : portOther (portOther p) = p := by
  cases p <;> rfl

@[simp] theorem State.setPort_pending (s : State) (p : Port) (x : PortState) :
    (s.setPort p x).pending = s.pending := by
  cases p <;> rfl

@[simp] theorem State.modPort_pending (s : State) (p : Port) (f : PortState → PortState) :
    (s.modPort p f).pending = s.pending :=
  State.setPort_pending s p _

@[simp] theorem State.setPort_clock (s : State) (p : Port) (x : PortState) :
    (s.setPort p x).clock = s.clock := by
  cases p <;> rfl

@[simp] theorem State.modPort_clock (s : State) (p : Port) (f : PortState → PortState) :
    (s.modPort p f).clock = s.clock :=
  State.setPort_clock s p _

@[simp] theorem State.setPort_draws (s : State) (p : Port) (x : PortState) :
    (s.setPort p x).draws = s.draws := by
  cases p <;> rfl

@[simp] theorem State.modPort_draws (s : State) (p : Port) (f : PortState → PortState) :
    (s.modPort p f).draws = s.draws :=
  State.setPort_draws s p _

@[simp] theorem State.setPort_access (s : State) (p : Port) (x : PortState) :
    (s.setPort p x).access = s.access := by
  cases p <;> rfl

@[simp] theorem State.modPort_access (s : State) (p : Port) (f : PortState → PortState) :
    (s.modPort p f).access = s.access :=
  State.setPort_access s p _

@[simp] theorem State.setPort_latches (s : State) (p : Port) (x : PortState) :
    (s.setPort p x).latches = s.latches := by
  cases p <;> rfl

@[simp] theorem State.modPort_latches (s : State) (p : Port) (f : PortState → PortState) :
    (s.modPort p f).latches = s.latches :=
  State.setPort_latches s p _

@[simp] theorem State.setPort_glb (s : State) (p : Port) (x : PortState) :
    (s.setPort p x).glb = s.glb := by
  cases p <;> rfl

@[simp] theorem State.modPort_glb (s : State) (p : Port) (f : PortState → PortState) :
    (s.modPort p f).glb = s.glb :=
  State.setPort_glb s p _

@[simp] theorem State.setPort_bly (s : State) (p : Port) (x : PortState) :
    (s.setPort p x).bly = s.bly := by
  cases p <;> rfl

@[simp] theorem State.modPort_bly (s : State) (p : Port) (f : PortState → PortState) :
    (s.modPort p f).bly = s.bly :=
  State.setPort_bly s p _

@[simp] theorem State.setPort_cache (s : State) (p : Port) (x : PortState) :
    (s.setPort p x).cache = s.cache := by
  cases p <;> rfl

@[simp] theorem State.modPort_cache (s : State) (p : Port) (f : PortState → PortState) :
    (s.modPort p f).cache = s.cache :=
  State.setPort_cache s p _

@[simp] theorem State.setPort_vbf (s : State) (p : Port) (x : PortState) :
    (s.setPort p x).vbf = s.vbf := by
  cases p <;> rfl

@[simp] theorem State.modPort_vbf (s : State) (p : Port) (f : PortState → PortState) :
    (s.modPort p f).vbf = s.vbf :=
  State.setPort_vbf s p _

@[simp] theorem State.setPort_stp (s : State) (p : Port) (x : PortState) :
    (s.setPort p x).stp = s.stp := by
  cases p <;> rfl

@[simp] theorem State.modPort_stp (s : State) (p : Port) (f : PortState → PortState) :
    (s.modPort p f).stp = s.stp :=
  State.setPort_stp s p _

@[simp] theorem State.setPort_wlv (s : State) (p : Port) (x : PortState) :
    (s.setPort p x).wlv = s.wlv := by
  cases p <;> rfl

@[simp] theorem State.modPort_wlv (s : State) (p : Port) (f : PortState → PortState) :
    (s.modPort p f).wlv = s.wlv :=
  State.setPort_wlv s p _

@[simp] theorem State.setPort_media (s : State) (p : Port) (x : PortState) :
    (s.setPort p x).media = s.media := by
  cases p <;> rfl

@[simp] theorem State.modPort_media (s : State) (p : Port) (f : PortState → PortState) :
    (s.modPort p f).media = s.media :=
  State.setPort_media s p _

@[simp] theorem State.setPort_mch (s : State) (p : Port) (x : PortState) :
    (s.setPort p x).mch = s.mch := by
  cases p <;> rfl

@[simp] theorem State.modPort_mch (s : State) (p : Port) (f : PortState → PortState) :
    (s.modPort p f).mch = s.mch :=
  State.setPort_mch s p _

@[simp] theorem State.setPort_shr (s : State) (p : Port) (x : PortState) :
    (s.setPort p x).shr = s.shr := by
  cases p <;> rfl

@[simp] theorem State.modPort_shr (s : State) (p : Port) (f : PortState → PortState) :
    (s.modPort p f).shr = s.shr :=
  State.setPort_shr s p _

@[simp] theorem State.setPort_kce (s : State) (p : Port) (x : PortState) :
    (s.setPort p x).kce = s.kce := by
  cases p <;> rfl

@[simp] theorem State.modPort_kce (s : State) (p : Port) (f : PortState → PortState) :
    (s.modPort p f).kce = s.kce :=
  State.setPort_kce s p _

@[simp] theorem State.setPort_mst (s : State) (p : Port) (x : PortState) :
    (s.setPort p x).mst = s.mst := by
  cases p <;> rfl

@[simp] theorem State.modPort_mst (s : State) (p : Port) (f : PortState → PortState) :
    (s.modPort p f).mst = s.mst :=
  State.setPort_mst s p _

@[simp] theorem State.setPort_hly (s : State) (p : Port) (x : PortState) :
    (s.setPort p x).hly = s.hly := by
  cases p <;> rfl

@[simp] theorem State.modPort_hly (s : State) (p : Port) (f : PortState → PortState) :
    (s.modPort p f).hly = s.hly :=
  State.setPort_hly s p _

@[simp] theorem State.setPort_seq (s : State) (p : Port) (x : PortState) :
    (s.setPort p x).seq = s.seq := by
  cases p <;> rfl

@[simp] theorem State.modPort_seq (s : State) (p : Port) (f : PortState → PortState) :
    (s.modPort p f).seq = s.seq :=
  State.setPort_seq s p _

@[simp] theorem State.setPort_reef (s : State) (p : Port) (x : PortState) :
    (s.setPort p x).reef = s.reef := by
  cases p <;> rfl

@[simp] theorem State.modPort_reef (s : State) (p : Port) (f : PortState → PortState) :
    (s.modPort p f).reef = s.reef :=
  State.setPort_reef s p _

@[simp] theorem State.setPort_clk (s : State) (p : Port) (x : PortState) :
    (s.setPort p x).clk = s.clk := by
  cases p <;> rfl

@[simp] theorem State.modPort_clk (s : State) (p : Port) (f : PortState → PortState) :
    (s.modPort p f).clk = s.clk :=
  State.setPort_clk s p _

@[simp] theorem State.setPort_rst (s : State) (p : Port) (x : PortState) :
    (s.setPort p x).rst = s.rst := by
  cases p <;> rfl

@[simp] theorem State.modPort_rst (s : State) (p : Port) (f : PortState → PortState) :
    (s.modPort p f).rst = s.rst :=
  State.setPort_rst s p _

@[simp] theorem State.setPort_tel (s : State) (p : Port) (x : PortState) :
    (s.setPort p x).tel = s.tel := by
  cases p <;> rfl

@[simp] theorem State.modPort_tel (s : State) (p : Port) (f : PortState → PortState) :
    (s.modPort p f).tel = s.tel :=
  State.setPort_tel s p _

@[simp] theorem State.setPort_trm (s : State) (p : Port) (x : PortState) :
    (s.setPort p x).trm = s.trm := by
  cases p <;> rfl

@[simp] theorem State.modPort_trm (s : State) (p : Port) (f : PortState → PortState) :
    (s.modPort p f).trm = s.trm :=
  State.setPort_trm s p _

@[simp] theorem State.setPort_log (s : State) (p : Port) (x : PortState) :
    (s.setPort p x).log = s.log := by
  cases p <;> rfl

@[simp] theorem State.modPort_log (s : State) (p : Port) (f : PortState → PortState) :
    (s.modPort p f).log = s.log :=
  State.setPort_log s p _

@[simp] theorem State.setPort_sea (s : State) (p : Port) (x : PortState) :
    (s.setPort p x).sea = s.sea := by
  cases p <;> rfl

@[simp] theorem State.modPort_sea (s : State) (p : Port) (f : PortState → PortState) :
    (s.modPort p f).sea = s.sea :=
  State.setPort_sea s p _

@[simp] theorem State.setPort_dty (s : State) (p : Port) (x : PortState) :
    (s.setPort p x).dty = s.dty := by
  cases p <;> rfl

@[simp] theorem State.modPort_dty (s : State) (p : Port) (f : PortState → PortState) :
    (s.modPort p f).dty = s.dty :=
  State.setPort_dty s p _

@[simp] theorem State.setPort_evt (s : State) (p : Port) (x : PortState) :
    (s.setPort p x).evt = s.evt := by
  cases p <;> rfl

@[simp] theorem State.modPort_evt (s : State) (p : Port) (f : PortState → PortState) :
    (s.modPort p f).evt = s.evt :=
  State.setPort_evt s p _

@[simp] theorem State.setPort_pmu (s : State) (p : Port) (x : PortState) :
    (s.setPort p x).pmu = s.pmu := by
  cases p <;> rfl

@[simp] theorem State.modPort_pmu (s : State) (p : Port) (f : PortState → PortState) :
    (s.modPort p f).pmu = s.pmu :=
  State.setPort_pmu s p _

@[simp] theorem State.setPort_dbg (s : State) (p : Port) (x : PortState) :
    (s.setPort p x).dbg = s.dbg := by
  cases p <;> rfl

@[simp] theorem State.modPort_dbg (s : State) (p : Port) (f : PortState → PortState) :
    (s.modPort p f).dbg = s.dbg :=
  State.setPort_dbg s p _

/-! ## Entries of tables -/

@[simp] theorem State.ch_modCh (s : State) (n : Nat) (f : Mch → Mch) :
    (s.modCh n f).ch n = f (s.ch n) := by
  simp [State.ch, State.modCh, State.setCh]

theorem State.ch_modCh_other (s : State) {n j : Nat} (f : Mch → Mch) (h : j ≠ n) :
    (s.modCh n f).ch j = s.ch j :=
  Sparse.get_set_other _ _ _ h

@[simp] theorem State.slot_modSlot (s : State) (k : Nat) (f : ModState → ModState) :
    (s.modSlot k f).slot k = f (s.slot k) := by
  simp [State.slot, State.modSlot, Sparse.modify]

theorem State.slot_modSlot_other (s : State) {k j : Nat} (f : ModState → ModState) (h : j ≠ k) :
    (s.modSlot k f).slot j = s.slot j :=
  Sparse.get_set_other _ _ _ h

@[simp] theorem State.slice_modSlice (s : State) (n : Nat) (f : SliceState → SliceState) :
    (s.modSlice n f).slice n = f (s.slice n) := by
  simp [State.slice, State.modSlice, Sparse.modify]

theorem State.slice_modSlice_other (s : State) {n j : Nat} (f : SliceState → SliceState) (h : j ≠ n) :
    (s.modSlice n f).slice j = s.slice j :=
  Sparse.get_set_other _ _ _ h

@[simp] theorem State.src_modSrc (s : State) (i : Nat) (f : Src → Src) :
    (s.modSrc i f).src i = f (s.src i) := by
  simp [State.src, State.modSrc, Sparse.modify]

theorem State.src_modSrc_other (s : State) {i j : Nat} (f : Src → Src) (h : j ≠ i) :
    (s.modSrc i f).src j = s.src j :=
  Sparse.get_set_other _ _ _ h

@[simp] theorem State.mb_modMb (s : State) (m : Nat) (f : Mb → Mb) :
    (s.modMb m f).mb m = f (s.mb m) := by
  simp [State.mb, State.modMb, Sparse.modify]

theorem State.mb_modMb_other (s : State) {m j : Nat} (f : Mb → Mb) (h : j ≠ m) :
    (s.modMb m f).mb j = s.mb j :=
  Sparse.get_set_other _ _ _ h

@[simp] theorem State.keySlot_modKeySlot (s : State) (i : Nat) (f : KeySlot → KeySlot) :
    (s.modKeySlot i f).keySlot i = f (s.keySlot i) := by
  simp [State.keySlot, State.modKeySlot, Sparse.modify]

theorem State.keySlot_modKeySlot_other (s : State) {i j : Nat} (f : KeySlot → KeySlot) (h : j ≠ i) :
    (s.modKeySlot i f).keySlot j = s.keySlot j :=
  Sparse.get_set_other _ _ _ h

@[simp] theorem State.dom_modDom (s : State) (i : Nat) (f : DomSleep → DomSleep) :
    (s.modDom i f).dom i = f (s.dom i) := by
  simp [State.dom, State.modDom, Sparse.modify]

theorem State.dom_modDom_other (s : State) {i j : Nat} (f : DomSleep → DomSleep) (h : j ≠ i) :
    (s.modDom i f).dom j = s.dom j :=
  Sparse.get_set_other _ _ _ h

@[simp] theorem State.ch_setCh (s : State) (n : Nat) (c : Mch) : (s.setCh n c).ch n = c :=
  Sparse.get_set_same _ _ _ _

@[simp] theorem Mch.die_setDie (c : Mch) (d : Nat) (x : DieState) : (c.setDie d x).die d = x :=
  Sparse.get_set_same _ _ _ _

theorem Mch.die_setDie_other (c : Mch) {d j : Nat} (x : DieState) (h : j ≠ d) :
    (c.setDie d x).die j = c.die j :=
  Sparse.get_set_other _ _ _ h

/-- An event source as another record of the state leaves it. -/
theorem State.src_congr {s t : State} (h : t.evt = s.evt) (i : Nat) : t.src i = s.src i := by
  unfold State.src
  rw [h]

/-! ## Fields that an update leaves alone -/

@[simp] theorem State.setCh_pending (s : State) (n : Nat) (c : Mch) :
    (s.setCh n c).pending = s.pending := rfl

@[simp] theorem State.setCh_clock (s : State) (n : Nat) (c : Mch) :
    (s.setCh n c).clock = s.clock := rfl

@[simp] theorem State.setCh_draws (s : State) (n : Nat) (c : Mch) :
    (s.setCh n c).draws = s.draws := rfl

@[simp] theorem State.setCh_access (s : State) (n : Nat) (c : Mch) :
    (s.setCh n c).access = s.access := rfl

@[simp] theorem State.setCh_latches (s : State) (n : Nat) (c : Mch) :
    (s.setCh n c).latches = s.latches := rfl

@[simp] theorem State.setCh_glb (s : State) (n : Nat) (c : Mch) :
    (s.setCh n c).glb = s.glb := rfl

@[simp] theorem State.setCh_port0 (s : State) (n : Nat) (c : Mch) :
    (s.setCh n c).port0 = s.port0 := rfl

@[simp] theorem State.setCh_port1 (s : State) (n : Nat) (c : Mch) :
    (s.setCh n c).port1 = s.port1 := rfl

@[simp] theorem State.setCh_bly (s : State) (n : Nat) (c : Mch) :
    (s.setCh n c).bly = s.bly := rfl

@[simp] theorem State.setCh_cache (s : State) (n : Nat) (c : Mch) :
    (s.setCh n c).cache = s.cache := rfl

@[simp] theorem State.setCh_vbf (s : State) (n : Nat) (c : Mch) :
    (s.setCh n c).vbf = s.vbf := rfl

@[simp] theorem State.setCh_stp (s : State) (n : Nat) (c : Mch) :
    (s.setCh n c).stp = s.stp := rfl

@[simp] theorem State.setCh_wlv (s : State) (n : Nat) (c : Mch) :
    (s.setCh n c).wlv = s.wlv := rfl

@[simp] theorem State.setCh_media (s : State) (n : Nat) (c : Mch) :
    (s.setCh n c).media = s.media := rfl

@[simp] theorem State.setCh_shr (s : State) (n : Nat) (c : Mch) :
    (s.setCh n c).shr = s.shr := rfl

@[simp] theorem State.setCh_kce (s : State) (n : Nat) (c : Mch) :
    (s.setCh n c).kce = s.kce := rfl

@[simp] theorem State.setCh_mst (s : State) (n : Nat) (c : Mch) :
    (s.setCh n c).mst = s.mst := rfl

@[simp] theorem State.setCh_hly (s : State) (n : Nat) (c : Mch) :
    (s.setCh n c).hly = s.hly := rfl

@[simp] theorem State.setCh_seq (s : State) (n : Nat) (c : Mch) :
    (s.setCh n c).seq = s.seq := rfl

@[simp] theorem State.setCh_reef (s : State) (n : Nat) (c : Mch) :
    (s.setCh n c).reef = s.reef := rfl

@[simp] theorem State.setCh_clk (s : State) (n : Nat) (c : Mch) :
    (s.setCh n c).clk = s.clk := rfl

@[simp] theorem State.setCh_rst (s : State) (n : Nat) (c : Mch) :
    (s.setCh n c).rst = s.rst := rfl

@[simp] theorem State.setCh_tel (s : State) (n : Nat) (c : Mch) :
    (s.setCh n c).tel = s.tel := rfl

@[simp] theorem State.setCh_trm (s : State) (n : Nat) (c : Mch) :
    (s.setCh n c).trm = s.trm := rfl

@[simp] theorem State.setCh_log (s : State) (n : Nat) (c : Mch) :
    (s.setCh n c).log = s.log := rfl

@[simp] theorem State.setCh_sea (s : State) (n : Nat) (c : Mch) :
    (s.setCh n c).sea = s.sea := rfl

@[simp] theorem State.setCh_dty (s : State) (n : Nat) (c : Mch) :
    (s.setCh n c).dty = s.dty := rfl

@[simp] theorem State.setCh_evt (s : State) (n : Nat) (c : Mch) :
    (s.setCh n c).evt = s.evt := rfl

@[simp] theorem State.setCh_pmu (s : State) (n : Nat) (c : Mch) :
    (s.setCh n c).pmu = s.pmu := rfl

@[simp] theorem State.setCh_dbg (s : State) (n : Nat) (c : Mch) :
    (s.setCh n c).dbg = s.dbg := rfl

@[simp] theorem State.setCh_port (s : State) (n : Nat) (c : Mch) (q : Port) :
    (s.setCh n c).port q = s.port q := by
  cases q <;> rfl

@[simp] theorem State.modCh_pending (s : State) (n : Nat) (f : Mch → Mch) :
    (s.modCh n f).pending = s.pending := rfl

@[simp] theorem State.modCh_clock (s : State) (n : Nat) (f : Mch → Mch) :
    (s.modCh n f).clock = s.clock := rfl

@[simp] theorem State.modCh_draws (s : State) (n : Nat) (f : Mch → Mch) :
    (s.modCh n f).draws = s.draws := rfl

@[simp] theorem State.modCh_access (s : State) (n : Nat) (f : Mch → Mch) :
    (s.modCh n f).access = s.access := rfl

@[simp] theorem State.modCh_latches (s : State) (n : Nat) (f : Mch → Mch) :
    (s.modCh n f).latches = s.latches := rfl

@[simp] theorem State.modCh_glb (s : State) (n : Nat) (f : Mch → Mch) :
    (s.modCh n f).glb = s.glb := rfl

@[simp] theorem State.modCh_port0 (s : State) (n : Nat) (f : Mch → Mch) :
    (s.modCh n f).port0 = s.port0 := rfl

@[simp] theorem State.modCh_port1 (s : State) (n : Nat) (f : Mch → Mch) :
    (s.modCh n f).port1 = s.port1 := rfl

@[simp] theorem State.modCh_bly (s : State) (n : Nat) (f : Mch → Mch) :
    (s.modCh n f).bly = s.bly := rfl

@[simp] theorem State.modCh_cache (s : State) (n : Nat) (f : Mch → Mch) :
    (s.modCh n f).cache = s.cache := rfl

@[simp] theorem State.modCh_vbf (s : State) (n : Nat) (f : Mch → Mch) :
    (s.modCh n f).vbf = s.vbf := rfl

@[simp] theorem State.modCh_stp (s : State) (n : Nat) (f : Mch → Mch) :
    (s.modCh n f).stp = s.stp := rfl

@[simp] theorem State.modCh_wlv (s : State) (n : Nat) (f : Mch → Mch) :
    (s.modCh n f).wlv = s.wlv := rfl

@[simp] theorem State.modCh_media (s : State) (n : Nat) (f : Mch → Mch) :
    (s.modCh n f).media = s.media := rfl

@[simp] theorem State.modCh_shr (s : State) (n : Nat) (f : Mch → Mch) :
    (s.modCh n f).shr = s.shr := rfl

@[simp] theorem State.modCh_kce (s : State) (n : Nat) (f : Mch → Mch) :
    (s.modCh n f).kce = s.kce := rfl

@[simp] theorem State.modCh_mst (s : State) (n : Nat) (f : Mch → Mch) :
    (s.modCh n f).mst = s.mst := rfl

@[simp] theorem State.modCh_hly (s : State) (n : Nat) (f : Mch → Mch) :
    (s.modCh n f).hly = s.hly := rfl

@[simp] theorem State.modCh_seq (s : State) (n : Nat) (f : Mch → Mch) :
    (s.modCh n f).seq = s.seq := rfl

@[simp] theorem State.modCh_reef (s : State) (n : Nat) (f : Mch → Mch) :
    (s.modCh n f).reef = s.reef := rfl

@[simp] theorem State.modCh_clk (s : State) (n : Nat) (f : Mch → Mch) :
    (s.modCh n f).clk = s.clk := rfl

@[simp] theorem State.modCh_rst (s : State) (n : Nat) (f : Mch → Mch) :
    (s.modCh n f).rst = s.rst := rfl

@[simp] theorem State.modCh_tel (s : State) (n : Nat) (f : Mch → Mch) :
    (s.modCh n f).tel = s.tel := rfl

@[simp] theorem State.modCh_trm (s : State) (n : Nat) (f : Mch → Mch) :
    (s.modCh n f).trm = s.trm := rfl

@[simp] theorem State.modCh_log (s : State) (n : Nat) (f : Mch → Mch) :
    (s.modCh n f).log = s.log := rfl

@[simp] theorem State.modCh_sea (s : State) (n : Nat) (f : Mch → Mch) :
    (s.modCh n f).sea = s.sea := rfl

@[simp] theorem State.modCh_dty (s : State) (n : Nat) (f : Mch → Mch) :
    (s.modCh n f).dty = s.dty := rfl

@[simp] theorem State.modCh_evt (s : State) (n : Nat) (f : Mch → Mch) :
    (s.modCh n f).evt = s.evt := rfl

@[simp] theorem State.modCh_pmu (s : State) (n : Nat) (f : Mch → Mch) :
    (s.modCh n f).pmu = s.pmu := rfl

@[simp] theorem State.modCh_dbg (s : State) (n : Nat) (f : Mch → Mch) :
    (s.modCh n f).dbg = s.dbg := rfl

@[simp] theorem State.modCh_port (s : State) (n : Nat) (f : Mch → Mch) (q : Port) :
    (s.modCh n f).port q = s.port q := by
  cases q <;> rfl

@[simp] theorem State.modDie_pending (s : State) (n d : Nat) (f : DieState → DieState) :
    (s.modDie n d f).pending = s.pending := rfl

@[simp] theorem State.modDie_clock (s : State) (n d : Nat) (f : DieState → DieState) :
    (s.modDie n d f).clock = s.clock := rfl

@[simp] theorem State.modDie_draws (s : State) (n d : Nat) (f : DieState → DieState) :
    (s.modDie n d f).draws = s.draws := rfl

@[simp] theorem State.modDie_access (s : State) (n d : Nat) (f : DieState → DieState) :
    (s.modDie n d f).access = s.access := rfl

@[simp] theorem State.modDie_latches (s : State) (n d : Nat) (f : DieState → DieState) :
    (s.modDie n d f).latches = s.latches := rfl

@[simp] theorem State.modDie_glb (s : State) (n d : Nat) (f : DieState → DieState) :
    (s.modDie n d f).glb = s.glb := rfl

@[simp] theorem State.modDie_port0 (s : State) (n d : Nat) (f : DieState → DieState) :
    (s.modDie n d f).port0 = s.port0 := rfl

@[simp] theorem State.modDie_port1 (s : State) (n d : Nat) (f : DieState → DieState) :
    (s.modDie n d f).port1 = s.port1 := rfl

@[simp] theorem State.modDie_bly (s : State) (n d : Nat) (f : DieState → DieState) :
    (s.modDie n d f).bly = s.bly := rfl

@[simp] theorem State.modDie_cache (s : State) (n d : Nat) (f : DieState → DieState) :
    (s.modDie n d f).cache = s.cache := rfl

@[simp] theorem State.modDie_vbf (s : State) (n d : Nat) (f : DieState → DieState) :
    (s.modDie n d f).vbf = s.vbf := rfl

@[simp] theorem State.modDie_stp (s : State) (n d : Nat) (f : DieState → DieState) :
    (s.modDie n d f).stp = s.stp := rfl

@[simp] theorem State.modDie_wlv (s : State) (n d : Nat) (f : DieState → DieState) :
    (s.modDie n d f).wlv = s.wlv := rfl

@[simp] theorem State.modDie_media (s : State) (n d : Nat) (f : DieState → DieState) :
    (s.modDie n d f).media = s.media := rfl

@[simp] theorem State.modDie_shr (s : State) (n d : Nat) (f : DieState → DieState) :
    (s.modDie n d f).shr = s.shr := rfl

@[simp] theorem State.modDie_kce (s : State) (n d : Nat) (f : DieState → DieState) :
    (s.modDie n d f).kce = s.kce := rfl

@[simp] theorem State.modDie_mst (s : State) (n d : Nat) (f : DieState → DieState) :
    (s.modDie n d f).mst = s.mst := rfl

@[simp] theorem State.modDie_hly (s : State) (n d : Nat) (f : DieState → DieState) :
    (s.modDie n d f).hly = s.hly := rfl

@[simp] theorem State.modDie_seq (s : State) (n d : Nat) (f : DieState → DieState) :
    (s.modDie n d f).seq = s.seq := rfl

@[simp] theorem State.modDie_reef (s : State) (n d : Nat) (f : DieState → DieState) :
    (s.modDie n d f).reef = s.reef := rfl

@[simp] theorem State.modDie_clk (s : State) (n d : Nat) (f : DieState → DieState) :
    (s.modDie n d f).clk = s.clk := rfl

@[simp] theorem State.modDie_rst (s : State) (n d : Nat) (f : DieState → DieState) :
    (s.modDie n d f).rst = s.rst := rfl

@[simp] theorem State.modDie_tel (s : State) (n d : Nat) (f : DieState → DieState) :
    (s.modDie n d f).tel = s.tel := rfl

@[simp] theorem State.modDie_trm (s : State) (n d : Nat) (f : DieState → DieState) :
    (s.modDie n d f).trm = s.trm := rfl

@[simp] theorem State.modDie_log (s : State) (n d : Nat) (f : DieState → DieState) :
    (s.modDie n d f).log = s.log := rfl

@[simp] theorem State.modDie_sea (s : State) (n d : Nat) (f : DieState → DieState) :
    (s.modDie n d f).sea = s.sea := rfl

@[simp] theorem State.modDie_dty (s : State) (n d : Nat) (f : DieState → DieState) :
    (s.modDie n d f).dty = s.dty := rfl

@[simp] theorem State.modDie_evt (s : State) (n d : Nat) (f : DieState → DieState) :
    (s.modDie n d f).evt = s.evt := rfl

@[simp] theorem State.modDie_pmu (s : State) (n d : Nat) (f : DieState → DieState) :
    (s.modDie n d f).pmu = s.pmu := rfl

@[simp] theorem State.modDie_dbg (s : State) (n d : Nat) (f : DieState → DieState) :
    (s.modDie n d f).dbg = s.dbg := rfl

@[simp] theorem State.modDie_port (s : State) (n d : Nat) (f : DieState → DieState) (q : Port) :
    (s.modDie n d f).port q = s.port q := by
  cases q <;> rfl

@[simp] theorem State.modSlot_pending (s : State) (k : Nat) (f : ModState → ModState) :
    (s.modSlot k f).pending = s.pending := rfl

@[simp] theorem State.modSlot_clock (s : State) (k : Nat) (f : ModState → ModState) :
    (s.modSlot k f).clock = s.clock := rfl

@[simp] theorem State.modSlot_draws (s : State) (k : Nat) (f : ModState → ModState) :
    (s.modSlot k f).draws = s.draws := rfl

@[simp] theorem State.modSlot_access (s : State) (k : Nat) (f : ModState → ModState) :
    (s.modSlot k f).access = s.access := rfl

@[simp] theorem State.modSlot_latches (s : State) (k : Nat) (f : ModState → ModState) :
    (s.modSlot k f).latches = s.latches := rfl

@[simp] theorem State.modSlot_glb (s : State) (k : Nat) (f : ModState → ModState) :
    (s.modSlot k f).glb = s.glb := rfl

@[simp] theorem State.modSlot_port0 (s : State) (k : Nat) (f : ModState → ModState) :
    (s.modSlot k f).port0 = s.port0 := rfl

@[simp] theorem State.modSlot_port1 (s : State) (k : Nat) (f : ModState → ModState) :
    (s.modSlot k f).port1 = s.port1 := rfl

@[simp] theorem State.modSlot_bly (s : State) (k : Nat) (f : ModState → ModState) :
    (s.modSlot k f).bly = s.bly := rfl

@[simp] theorem State.modSlot_cache (s : State) (k : Nat) (f : ModState → ModState) :
    (s.modSlot k f).cache = s.cache := rfl

@[simp] theorem State.modSlot_vbf (s : State) (k : Nat) (f : ModState → ModState) :
    (s.modSlot k f).vbf = s.vbf := rfl

@[simp] theorem State.modSlot_stp (s : State) (k : Nat) (f : ModState → ModState) :
    (s.modSlot k f).stp = s.stp := rfl

@[simp] theorem State.modSlot_wlv (s : State) (k : Nat) (f : ModState → ModState) :
    (s.modSlot k f).wlv = s.wlv := rfl

@[simp] theorem State.modSlot_media (s : State) (k : Nat) (f : ModState → ModState) :
    (s.modSlot k f).media = s.media := rfl

@[simp] theorem State.modSlot_mch (s : State) (k : Nat) (f : ModState → ModState) :
    (s.modSlot k f).mch = s.mch := rfl

@[simp] theorem State.modSlot_shr (s : State) (k : Nat) (f : ModState → ModState) :
    (s.modSlot k f).shr = s.shr := rfl

@[simp] theorem State.modSlot_kce (s : State) (k : Nat) (f : ModState → ModState) :
    (s.modSlot k f).kce = s.kce := rfl

@[simp] theorem State.modSlot_mst (s : State) (k : Nat) (f : ModState → ModState) :
    (s.modSlot k f).mst = s.mst := rfl

@[simp] theorem State.modSlot_hly (s : State) (k : Nat) (f : ModState → ModState) :
    (s.modSlot k f).hly = s.hly := rfl

@[simp] theorem State.modSlot_reef (s : State) (k : Nat) (f : ModState → ModState) :
    (s.modSlot k f).reef = s.reef := rfl

@[simp] theorem State.modSlot_clk (s : State) (k : Nat) (f : ModState → ModState) :
    (s.modSlot k f).clk = s.clk := rfl

@[simp] theorem State.modSlot_rst (s : State) (k : Nat) (f : ModState → ModState) :
    (s.modSlot k f).rst = s.rst := rfl

@[simp] theorem State.modSlot_tel (s : State) (k : Nat) (f : ModState → ModState) :
    (s.modSlot k f).tel = s.tel := rfl

@[simp] theorem State.modSlot_trm (s : State) (k : Nat) (f : ModState → ModState) :
    (s.modSlot k f).trm = s.trm := rfl

@[simp] theorem State.modSlot_log (s : State) (k : Nat) (f : ModState → ModState) :
    (s.modSlot k f).log = s.log := rfl

@[simp] theorem State.modSlot_sea (s : State) (k : Nat) (f : ModState → ModState) :
    (s.modSlot k f).sea = s.sea := rfl

@[simp] theorem State.modSlot_dty (s : State) (k : Nat) (f : ModState → ModState) :
    (s.modSlot k f).dty = s.dty := rfl

@[simp] theorem State.modSlot_evt (s : State) (k : Nat) (f : ModState → ModState) :
    (s.modSlot k f).evt = s.evt := rfl

@[simp] theorem State.modSlot_pmu (s : State) (k : Nat) (f : ModState → ModState) :
    (s.modSlot k f).pmu = s.pmu := rfl

@[simp] theorem State.modSlot_dbg (s : State) (k : Nat) (f : ModState → ModState) :
    (s.modSlot k f).dbg = s.dbg := rfl

@[simp] theorem State.modSlot_port (s : State) (k : Nat) (f : ModState → ModState) (q : Port) :
    (s.modSlot k f).port q = s.port q := by
  cases q <;> rfl

@[simp] theorem State.modSlice_pending (s : State) (n : Nat) (f : SliceState → SliceState) :
    (s.modSlice n f).pending = s.pending := rfl

@[simp] theorem State.modSlice_clock (s : State) (n : Nat) (f : SliceState → SliceState) :
    (s.modSlice n f).clock = s.clock := rfl

@[simp] theorem State.modSlice_draws (s : State) (n : Nat) (f : SliceState → SliceState) :
    (s.modSlice n f).draws = s.draws := rfl

@[simp] theorem State.modSlice_access (s : State) (n : Nat) (f : SliceState → SliceState) :
    (s.modSlice n f).access = s.access := rfl

@[simp] theorem State.modSlice_latches (s : State) (n : Nat) (f : SliceState → SliceState) :
    (s.modSlice n f).latches = s.latches := rfl

@[simp] theorem State.modSlice_glb (s : State) (n : Nat) (f : SliceState → SliceState) :
    (s.modSlice n f).glb = s.glb := rfl

@[simp] theorem State.modSlice_port0 (s : State) (n : Nat) (f : SliceState → SliceState) :
    (s.modSlice n f).port0 = s.port0 := rfl

@[simp] theorem State.modSlice_port1 (s : State) (n : Nat) (f : SliceState → SliceState) :
    (s.modSlice n f).port1 = s.port1 := rfl

@[simp] theorem State.modSlice_bly (s : State) (n : Nat) (f : SliceState → SliceState) :
    (s.modSlice n f).bly = s.bly := rfl

@[simp] theorem State.modSlice_vbf (s : State) (n : Nat) (f : SliceState → SliceState) :
    (s.modSlice n f).vbf = s.vbf := rfl

@[simp] theorem State.modSlice_stp (s : State) (n : Nat) (f : SliceState → SliceState) :
    (s.modSlice n f).stp = s.stp := rfl

@[simp] theorem State.modSlice_wlv (s : State) (n : Nat) (f : SliceState → SliceState) :
    (s.modSlice n f).wlv = s.wlv := rfl

@[simp] theorem State.modSlice_media (s : State) (n : Nat) (f : SliceState → SliceState) :
    (s.modSlice n f).media = s.media := rfl

@[simp] theorem State.modSlice_mch (s : State) (n : Nat) (f : SliceState → SliceState) :
    (s.modSlice n f).mch = s.mch := rfl

@[simp] theorem State.modSlice_shr (s : State) (n : Nat) (f : SliceState → SliceState) :
    (s.modSlice n f).shr = s.shr := rfl

@[simp] theorem State.modSlice_kce (s : State) (n : Nat) (f : SliceState → SliceState) :
    (s.modSlice n f).kce = s.kce := rfl

@[simp] theorem State.modSlice_mst (s : State) (n : Nat) (f : SliceState → SliceState) :
    (s.modSlice n f).mst = s.mst := rfl

@[simp] theorem State.modSlice_hly (s : State) (n : Nat) (f : SliceState → SliceState) :
    (s.modSlice n f).hly = s.hly := rfl

@[simp] theorem State.modSlice_seq (s : State) (n : Nat) (f : SliceState → SliceState) :
    (s.modSlice n f).seq = s.seq := rfl

@[simp] theorem State.modSlice_reef (s : State) (n : Nat) (f : SliceState → SliceState) :
    (s.modSlice n f).reef = s.reef := rfl

@[simp] theorem State.modSlice_clk (s : State) (n : Nat) (f : SliceState → SliceState) :
    (s.modSlice n f).clk = s.clk := rfl

@[simp] theorem State.modSlice_rst (s : State) (n : Nat) (f : SliceState → SliceState) :
    (s.modSlice n f).rst = s.rst := rfl

@[simp] theorem State.modSlice_tel (s : State) (n : Nat) (f : SliceState → SliceState) :
    (s.modSlice n f).tel = s.tel := rfl

@[simp] theorem State.modSlice_trm (s : State) (n : Nat) (f : SliceState → SliceState) :
    (s.modSlice n f).trm = s.trm := rfl

@[simp] theorem State.modSlice_log (s : State) (n : Nat) (f : SliceState → SliceState) :
    (s.modSlice n f).log = s.log := rfl

@[simp] theorem State.modSlice_sea (s : State) (n : Nat) (f : SliceState → SliceState) :
    (s.modSlice n f).sea = s.sea := rfl

@[simp] theorem State.modSlice_dty (s : State) (n : Nat) (f : SliceState → SliceState) :
    (s.modSlice n f).dty = s.dty := rfl

@[simp] theorem State.modSlice_evt (s : State) (n : Nat) (f : SliceState → SliceState) :
    (s.modSlice n f).evt = s.evt := rfl

@[simp] theorem State.modSlice_pmu (s : State) (n : Nat) (f : SliceState → SliceState) :
    (s.modSlice n f).pmu = s.pmu := rfl

@[simp] theorem State.modSlice_dbg (s : State) (n : Nat) (f : SliceState → SliceState) :
    (s.modSlice n f).dbg = s.dbg := rfl

@[simp] theorem State.modSlice_port (s : State) (n : Nat) (f : SliceState → SliceState) (q : Port) :
    (s.modSlice n f).port q = s.port q := by
  cases q <;> rfl

@[simp] theorem State.modSrc_pending (s : State) (i : Nat) (f : Src → Src) :
    (s.modSrc i f).pending = s.pending := rfl

@[simp] theorem State.modSrc_clock (s : State) (i : Nat) (f : Src → Src) :
    (s.modSrc i f).clock = s.clock := rfl

@[simp] theorem State.modSrc_draws (s : State) (i : Nat) (f : Src → Src) :
    (s.modSrc i f).draws = s.draws := rfl

@[simp] theorem State.modSrc_access (s : State) (i : Nat) (f : Src → Src) :
    (s.modSrc i f).access = s.access := rfl

@[simp] theorem State.modSrc_latches (s : State) (i : Nat) (f : Src → Src) :
    (s.modSrc i f).latches = s.latches := rfl

@[simp] theorem State.modSrc_glb (s : State) (i : Nat) (f : Src → Src) :
    (s.modSrc i f).glb = s.glb := rfl

@[simp] theorem State.modSrc_port0 (s : State) (i : Nat) (f : Src → Src) :
    (s.modSrc i f).port0 = s.port0 := rfl

@[simp] theorem State.modSrc_port1 (s : State) (i : Nat) (f : Src → Src) :
    (s.modSrc i f).port1 = s.port1 := rfl

@[simp] theorem State.modSrc_bly (s : State) (i : Nat) (f : Src → Src) :
    (s.modSrc i f).bly = s.bly := rfl

@[simp] theorem State.modSrc_cache (s : State) (i : Nat) (f : Src → Src) :
    (s.modSrc i f).cache = s.cache := rfl

@[simp] theorem State.modSrc_vbf (s : State) (i : Nat) (f : Src → Src) :
    (s.modSrc i f).vbf = s.vbf := rfl

@[simp] theorem State.modSrc_stp (s : State) (i : Nat) (f : Src → Src) :
    (s.modSrc i f).stp = s.stp := rfl

@[simp] theorem State.modSrc_wlv (s : State) (i : Nat) (f : Src → Src) :
    (s.modSrc i f).wlv = s.wlv := rfl

@[simp] theorem State.modSrc_media (s : State) (i : Nat) (f : Src → Src) :
    (s.modSrc i f).media = s.media := rfl

@[simp] theorem State.modSrc_mch (s : State) (i : Nat) (f : Src → Src) :
    (s.modSrc i f).mch = s.mch := rfl

@[simp] theorem State.modSrc_shr (s : State) (i : Nat) (f : Src → Src) :
    (s.modSrc i f).shr = s.shr := rfl

@[simp] theorem State.modSrc_kce (s : State) (i : Nat) (f : Src → Src) :
    (s.modSrc i f).kce = s.kce := rfl

@[simp] theorem State.modSrc_mst (s : State) (i : Nat) (f : Src → Src) :
    (s.modSrc i f).mst = s.mst := rfl

@[simp] theorem State.modSrc_hly (s : State) (i : Nat) (f : Src → Src) :
    (s.modSrc i f).hly = s.hly := rfl

@[simp] theorem State.modSrc_seq (s : State) (i : Nat) (f : Src → Src) :
    (s.modSrc i f).seq = s.seq := rfl

@[simp] theorem State.modSrc_reef (s : State) (i : Nat) (f : Src → Src) :
    (s.modSrc i f).reef = s.reef := rfl

@[simp] theorem State.modSrc_clk (s : State) (i : Nat) (f : Src → Src) :
    (s.modSrc i f).clk = s.clk := rfl

@[simp] theorem State.modSrc_rst (s : State) (i : Nat) (f : Src → Src) :
    (s.modSrc i f).rst = s.rst := rfl

@[simp] theorem State.modSrc_tel (s : State) (i : Nat) (f : Src → Src) :
    (s.modSrc i f).tel = s.tel := rfl

@[simp] theorem State.modSrc_trm (s : State) (i : Nat) (f : Src → Src) :
    (s.modSrc i f).trm = s.trm := rfl

@[simp] theorem State.modSrc_log (s : State) (i : Nat) (f : Src → Src) :
    (s.modSrc i f).log = s.log := rfl

@[simp] theorem State.modSrc_sea (s : State) (i : Nat) (f : Src → Src) :
    (s.modSrc i f).sea = s.sea := rfl

@[simp] theorem State.modSrc_dty (s : State) (i : Nat) (f : Src → Src) :
    (s.modSrc i f).dty = s.dty := rfl

@[simp] theorem State.modSrc_pmu (s : State) (i : Nat) (f : Src → Src) :
    (s.modSrc i f).pmu = s.pmu := rfl

@[simp] theorem State.modSrc_dbg (s : State) (i : Nat) (f : Src → Src) :
    (s.modSrc i f).dbg = s.dbg := rfl

@[simp] theorem State.modSrc_port (s : State) (i : Nat) (f : Src → Src) (q : Port) :
    (s.modSrc i f).port q = s.port q := by
  cases q <;> rfl

@[simp] theorem State.modMb_pending (s : State) (m : Nat) (f : Mb → Mb) :
    (s.modMb m f).pending = s.pending := rfl

@[simp] theorem State.modMb_clock (s : State) (m : Nat) (f : Mb → Mb) :
    (s.modMb m f).clock = s.clock := rfl

@[simp] theorem State.modMb_draws (s : State) (m : Nat) (f : Mb → Mb) :
    (s.modMb m f).draws = s.draws := rfl

@[simp] theorem State.modMb_access (s : State) (m : Nat) (f : Mb → Mb) :
    (s.modMb m f).access = s.access := rfl

@[simp] theorem State.modMb_latches (s : State) (m : Nat) (f : Mb → Mb) :
    (s.modMb m f).latches = s.latches := rfl

@[simp] theorem State.modMb_glb (s : State) (m : Nat) (f : Mb → Mb) :
    (s.modMb m f).glb = s.glb := rfl

@[simp] theorem State.modMb_port0 (s : State) (m : Nat) (f : Mb → Mb) :
    (s.modMb m f).port0 = s.port0 := rfl

@[simp] theorem State.modMb_port1 (s : State) (m : Nat) (f : Mb → Mb) :
    (s.modMb m f).port1 = s.port1 := rfl

@[simp] theorem State.modMb_bly (s : State) (m : Nat) (f : Mb → Mb) :
    (s.modMb m f).bly = s.bly := rfl

@[simp] theorem State.modMb_cache (s : State) (m : Nat) (f : Mb → Mb) :
    (s.modMb m f).cache = s.cache := rfl

@[simp] theorem State.modMb_vbf (s : State) (m : Nat) (f : Mb → Mb) :
    (s.modMb m f).vbf = s.vbf := rfl

@[simp] theorem State.modMb_stp (s : State) (m : Nat) (f : Mb → Mb) :
    (s.modMb m f).stp = s.stp := rfl

@[simp] theorem State.modMb_wlv (s : State) (m : Nat) (f : Mb → Mb) :
    (s.modMb m f).wlv = s.wlv := rfl

@[simp] theorem State.modMb_media (s : State) (m : Nat) (f : Mb → Mb) :
    (s.modMb m f).media = s.media := rfl

@[simp] theorem State.modMb_mch (s : State) (m : Nat) (f : Mb → Mb) :
    (s.modMb m f).mch = s.mch := rfl

@[simp] theorem State.modMb_shr (s : State) (m : Nat) (f : Mb → Mb) :
    (s.modMb m f).shr = s.shr := rfl

@[simp] theorem State.modMb_kce (s : State) (m : Nat) (f : Mb → Mb) :
    (s.modMb m f).kce = s.kce := rfl

@[simp] theorem State.modMb_mst (s : State) (m : Nat) (f : Mb → Mb) :
    (s.modMb m f).mst = s.mst := rfl

@[simp] theorem State.modMb_seq (s : State) (m : Nat) (f : Mb → Mb) :
    (s.modMb m f).seq = s.seq := rfl

@[simp] theorem State.modMb_reef (s : State) (m : Nat) (f : Mb → Mb) :
    (s.modMb m f).reef = s.reef := rfl

@[simp] theorem State.modMb_clk (s : State) (m : Nat) (f : Mb → Mb) :
    (s.modMb m f).clk = s.clk := rfl

@[simp] theorem State.modMb_rst (s : State) (m : Nat) (f : Mb → Mb) :
    (s.modMb m f).rst = s.rst := rfl

@[simp] theorem State.modMb_tel (s : State) (m : Nat) (f : Mb → Mb) :
    (s.modMb m f).tel = s.tel := rfl

@[simp] theorem State.modMb_trm (s : State) (m : Nat) (f : Mb → Mb) :
    (s.modMb m f).trm = s.trm := rfl

@[simp] theorem State.modMb_log (s : State) (m : Nat) (f : Mb → Mb) :
    (s.modMb m f).log = s.log := rfl

@[simp] theorem State.modMb_sea (s : State) (m : Nat) (f : Mb → Mb) :
    (s.modMb m f).sea = s.sea := rfl

@[simp] theorem State.modMb_dty (s : State) (m : Nat) (f : Mb → Mb) :
    (s.modMb m f).dty = s.dty := rfl

@[simp] theorem State.modMb_evt (s : State) (m : Nat) (f : Mb → Mb) :
    (s.modMb m f).evt = s.evt := rfl

@[simp] theorem State.modMb_pmu (s : State) (m : Nat) (f : Mb → Mb) :
    (s.modMb m f).pmu = s.pmu := rfl

@[simp] theorem State.modMb_dbg (s : State) (m : Nat) (f : Mb → Mb) :
    (s.modMb m f).dbg = s.dbg := rfl

@[simp] theorem State.modMb_port (s : State) (m : Nat) (f : Mb → Mb) (q : Port) :
    (s.modMb m f).port q = s.port q := by
  cases q <;> rfl

@[simp] theorem State.modKeySlot_pending (s : State) (i : Nat) (f : KeySlot → KeySlot) :
    (s.modKeySlot i f).pending = s.pending := rfl

@[simp] theorem State.modKeySlot_clock (s : State) (i : Nat) (f : KeySlot → KeySlot) :
    (s.modKeySlot i f).clock = s.clock := rfl

@[simp] theorem State.modKeySlot_draws (s : State) (i : Nat) (f : KeySlot → KeySlot) :
    (s.modKeySlot i f).draws = s.draws := rfl

@[simp] theorem State.modKeySlot_access (s : State) (i : Nat) (f : KeySlot → KeySlot) :
    (s.modKeySlot i f).access = s.access := rfl

@[simp] theorem State.modKeySlot_latches (s : State) (i : Nat) (f : KeySlot → KeySlot) :
    (s.modKeySlot i f).latches = s.latches := rfl

@[simp] theorem State.modKeySlot_glb (s : State) (i : Nat) (f : KeySlot → KeySlot) :
    (s.modKeySlot i f).glb = s.glb := rfl

@[simp] theorem State.modKeySlot_port0 (s : State) (i : Nat) (f : KeySlot → KeySlot) :
    (s.modKeySlot i f).port0 = s.port0 := rfl

@[simp] theorem State.modKeySlot_port1 (s : State) (i : Nat) (f : KeySlot → KeySlot) :
    (s.modKeySlot i f).port1 = s.port1 := rfl

@[simp] theorem State.modKeySlot_bly (s : State) (i : Nat) (f : KeySlot → KeySlot) :
    (s.modKeySlot i f).bly = s.bly := rfl

@[simp] theorem State.modKeySlot_cache (s : State) (i : Nat) (f : KeySlot → KeySlot) :
    (s.modKeySlot i f).cache = s.cache := rfl

@[simp] theorem State.modKeySlot_vbf (s : State) (i : Nat) (f : KeySlot → KeySlot) :
    (s.modKeySlot i f).vbf = s.vbf := rfl

@[simp] theorem State.modKeySlot_stp (s : State) (i : Nat) (f : KeySlot → KeySlot) :
    (s.modKeySlot i f).stp = s.stp := rfl

@[simp] theorem State.modKeySlot_wlv (s : State) (i : Nat) (f : KeySlot → KeySlot) :
    (s.modKeySlot i f).wlv = s.wlv := rfl

@[simp] theorem State.modKeySlot_media (s : State) (i : Nat) (f : KeySlot → KeySlot) :
    (s.modKeySlot i f).media = s.media := rfl

@[simp] theorem State.modKeySlot_mch (s : State) (i : Nat) (f : KeySlot → KeySlot) :
    (s.modKeySlot i f).mch = s.mch := rfl

@[simp] theorem State.modKeySlot_kce (s : State) (i : Nat) (f : KeySlot → KeySlot) :
    (s.modKeySlot i f).kce = s.kce := rfl

@[simp] theorem State.modKeySlot_mst (s : State) (i : Nat) (f : KeySlot → KeySlot) :
    (s.modKeySlot i f).mst = s.mst := rfl

@[simp] theorem State.modKeySlot_hly (s : State) (i : Nat) (f : KeySlot → KeySlot) :
    (s.modKeySlot i f).hly = s.hly := rfl

@[simp] theorem State.modKeySlot_seq (s : State) (i : Nat) (f : KeySlot → KeySlot) :
    (s.modKeySlot i f).seq = s.seq := rfl

@[simp] theorem State.modKeySlot_reef (s : State) (i : Nat) (f : KeySlot → KeySlot) :
    (s.modKeySlot i f).reef = s.reef := rfl

@[simp] theorem State.modKeySlot_clk (s : State) (i : Nat) (f : KeySlot → KeySlot) :
    (s.modKeySlot i f).clk = s.clk := rfl

@[simp] theorem State.modKeySlot_rst (s : State) (i : Nat) (f : KeySlot → KeySlot) :
    (s.modKeySlot i f).rst = s.rst := rfl

@[simp] theorem State.modKeySlot_tel (s : State) (i : Nat) (f : KeySlot → KeySlot) :
    (s.modKeySlot i f).tel = s.tel := rfl

@[simp] theorem State.modKeySlot_trm (s : State) (i : Nat) (f : KeySlot → KeySlot) :
    (s.modKeySlot i f).trm = s.trm := rfl

@[simp] theorem State.modKeySlot_log (s : State) (i : Nat) (f : KeySlot → KeySlot) :
    (s.modKeySlot i f).log = s.log := rfl

@[simp] theorem State.modKeySlot_sea (s : State) (i : Nat) (f : KeySlot → KeySlot) :
    (s.modKeySlot i f).sea = s.sea := rfl

@[simp] theorem State.modKeySlot_dty (s : State) (i : Nat) (f : KeySlot → KeySlot) :
    (s.modKeySlot i f).dty = s.dty := rfl

@[simp] theorem State.modKeySlot_evt (s : State) (i : Nat) (f : KeySlot → KeySlot) :
    (s.modKeySlot i f).evt = s.evt := rfl

@[simp] theorem State.modKeySlot_pmu (s : State) (i : Nat) (f : KeySlot → KeySlot) :
    (s.modKeySlot i f).pmu = s.pmu := rfl

@[simp] theorem State.modKeySlot_dbg (s : State) (i : Nat) (f : KeySlot → KeySlot) :
    (s.modKeySlot i f).dbg = s.dbg := rfl

@[simp] theorem State.modKeySlot_port (s : State) (i : Nat) (f : KeySlot → KeySlot) (q : Port) :
    (s.modKeySlot i f).port q = s.port q := by
  cases q <;> rfl

@[simp] theorem State.modDom_pending (s : State) (i : Nat) (f : DomSleep → DomSleep) :
    (s.modDom i f).pending = s.pending := rfl

@[simp] theorem State.modDom_clock (s : State) (i : Nat) (f : DomSleep → DomSleep) :
    (s.modDom i f).clock = s.clock := rfl

@[simp] theorem State.modDom_draws (s : State) (i : Nat) (f : DomSleep → DomSleep) :
    (s.modDom i f).draws = s.draws := rfl

@[simp] theorem State.modDom_access (s : State) (i : Nat) (f : DomSleep → DomSleep) :
    (s.modDom i f).access = s.access := rfl

@[simp] theorem State.modDom_latches (s : State) (i : Nat) (f : DomSleep → DomSleep) :
    (s.modDom i f).latches = s.latches := rfl

@[simp] theorem State.modDom_glb (s : State) (i : Nat) (f : DomSleep → DomSleep) :
    (s.modDom i f).glb = s.glb := rfl

@[simp] theorem State.modDom_port0 (s : State) (i : Nat) (f : DomSleep → DomSleep) :
    (s.modDom i f).port0 = s.port0 := rfl

@[simp] theorem State.modDom_port1 (s : State) (i : Nat) (f : DomSleep → DomSleep) :
    (s.modDom i f).port1 = s.port1 := rfl

@[simp] theorem State.modDom_bly (s : State) (i : Nat) (f : DomSleep → DomSleep) :
    (s.modDom i f).bly = s.bly := rfl

@[simp] theorem State.modDom_cache (s : State) (i : Nat) (f : DomSleep → DomSleep) :
    (s.modDom i f).cache = s.cache := rfl

@[simp] theorem State.modDom_vbf (s : State) (i : Nat) (f : DomSleep → DomSleep) :
    (s.modDom i f).vbf = s.vbf := rfl

@[simp] theorem State.modDom_stp (s : State) (i : Nat) (f : DomSleep → DomSleep) :
    (s.modDom i f).stp = s.stp := rfl

@[simp] theorem State.modDom_wlv (s : State) (i : Nat) (f : DomSleep → DomSleep) :
    (s.modDom i f).wlv = s.wlv := rfl

@[simp] theorem State.modDom_media (s : State) (i : Nat) (f : DomSleep → DomSleep) :
    (s.modDom i f).media = s.media := rfl

@[simp] theorem State.modDom_mch (s : State) (i : Nat) (f : DomSleep → DomSleep) :
    (s.modDom i f).mch = s.mch := rfl

@[simp] theorem State.modDom_shr (s : State) (i : Nat) (f : DomSleep → DomSleep) :
    (s.modDom i f).shr = s.shr := rfl

@[simp] theorem State.modDom_kce (s : State) (i : Nat) (f : DomSleep → DomSleep) :
    (s.modDom i f).kce = s.kce := rfl

@[simp] theorem State.modDom_mst (s : State) (i : Nat) (f : DomSleep → DomSleep) :
    (s.modDom i f).mst = s.mst := rfl

@[simp] theorem State.modDom_hly (s : State) (i : Nat) (f : DomSleep → DomSleep) :
    (s.modDom i f).hly = s.hly := rfl

@[simp] theorem State.modDom_seq (s : State) (i : Nat) (f : DomSleep → DomSleep) :
    (s.modDom i f).seq = s.seq := rfl

@[simp] theorem State.modDom_reef (s : State) (i : Nat) (f : DomSleep → DomSleep) :
    (s.modDom i f).reef = s.reef := rfl

@[simp] theorem State.modDom_rst (s : State) (i : Nat) (f : DomSleep → DomSleep) :
    (s.modDom i f).rst = s.rst := rfl

@[simp] theorem State.modDom_tel (s : State) (i : Nat) (f : DomSleep → DomSleep) :
    (s.modDom i f).tel = s.tel := rfl

@[simp] theorem State.modDom_trm (s : State) (i : Nat) (f : DomSleep → DomSleep) :
    (s.modDom i f).trm = s.trm := rfl

@[simp] theorem State.modDom_log (s : State) (i : Nat) (f : DomSleep → DomSleep) :
    (s.modDom i f).log = s.log := rfl

@[simp] theorem State.modDom_sea (s : State) (i : Nat) (f : DomSleep → DomSleep) :
    (s.modDom i f).sea = s.sea := rfl

@[simp] theorem State.modDom_dty (s : State) (i : Nat) (f : DomSleep → DomSleep) :
    (s.modDom i f).dty = s.dty := rfl

@[simp] theorem State.modDom_evt (s : State) (i : Nat) (f : DomSleep → DomSleep) :
    (s.modDom i f).evt = s.evt := rfl

@[simp] theorem State.modDom_pmu (s : State) (i : Nat) (f : DomSleep → DomSleep) :
    (s.modDom i f).pmu = s.pmu := rfl

@[simp] theorem State.modDom_dbg (s : State) (i : Nat) (f : DomSleep → DomSleep) :
    (s.modDom i f).dbg = s.dbg := rfl

@[simp] theorem State.modDom_port (s : State) (i : Nat) (f : DomSleep → DomSleep) (q : Port) :
    (s.modDom i f).port q = s.port q := by
  cases q <;> rfl

@[simp] theorem State.drawn_pending (s : State) :
    (s.drawn).pending = s.pending := rfl

@[simp] theorem State.drawn_clock (s : State) :
    (s.drawn).clock = s.clock := rfl

@[simp] theorem State.drawn_access (s : State) :
    (s.drawn).access = s.access := rfl

@[simp] theorem State.drawn_latches (s : State) :
    (s.drawn).latches = s.latches := rfl

@[simp] theorem State.drawn_glb (s : State) :
    (s.drawn).glb = s.glb := rfl

@[simp] theorem State.drawn_port0 (s : State) :
    (s.drawn).port0 = s.port0 := rfl

@[simp] theorem State.drawn_port1 (s : State) :
    (s.drawn).port1 = s.port1 := rfl

@[simp] theorem State.drawn_bly (s : State) :
    (s.drawn).bly = s.bly := rfl

@[simp] theorem State.drawn_cache (s : State) :
    (s.drawn).cache = s.cache := rfl

@[simp] theorem State.drawn_vbf (s : State) :
    (s.drawn).vbf = s.vbf := rfl

@[simp] theorem State.drawn_stp (s : State) :
    (s.drawn).stp = s.stp := rfl

@[simp] theorem State.drawn_wlv (s : State) :
    (s.drawn).wlv = s.wlv := rfl

@[simp] theorem State.drawn_media (s : State) :
    (s.drawn).media = s.media := rfl

@[simp] theorem State.drawn_mch (s : State) :
    (s.drawn).mch = s.mch := rfl

@[simp] theorem State.drawn_shr (s : State) :
    (s.drawn).shr = s.shr := rfl

@[simp] theorem State.drawn_kce (s : State) :
    (s.drawn).kce = s.kce := rfl

@[simp] theorem State.drawn_mst (s : State) :
    (s.drawn).mst = s.mst := rfl

@[simp] theorem State.drawn_hly (s : State) :
    (s.drawn).hly = s.hly := rfl

@[simp] theorem State.drawn_seq (s : State) :
    (s.drawn).seq = s.seq := rfl

@[simp] theorem State.drawn_reef (s : State) :
    (s.drawn).reef = s.reef := rfl

@[simp] theorem State.drawn_clk (s : State) :
    (s.drawn).clk = s.clk := rfl

@[simp] theorem State.drawn_rst (s : State) :
    (s.drawn).rst = s.rst := rfl

@[simp] theorem State.drawn_tel (s : State) :
    (s.drawn).tel = s.tel := rfl

@[simp] theorem State.drawn_trm (s : State) :
    (s.drawn).trm = s.trm := rfl

@[simp] theorem State.drawn_log (s : State) :
    (s.drawn).log = s.log := rfl

@[simp] theorem State.drawn_sea (s : State) :
    (s.drawn).sea = s.sea := rfl

@[simp] theorem State.drawn_dty (s : State) :
    (s.drawn).dty = s.dty := rfl

@[simp] theorem State.drawn_evt (s : State) :
    (s.drawn).evt = s.evt := rfl

@[simp] theorem State.drawn_pmu (s : State) :
    (s.drawn).pmu = s.pmu := rfl

@[simp] theorem State.drawn_dbg (s : State) :
    (s.drawn).dbg = s.dbg := rfl

@[simp] theorem State.drawn_port (s : State) (q : Port) :
    (s.drawn).port q = s.port q := by
  cases q <;> rfl

@[simp] theorem State.enterLevel_pending (s : State) (l : Level) :
    (s.enterLevel l).pending = s.pending := rfl

@[simp] theorem State.enterLevel_clock (s : State) (l : Level) :
    (s.enterLevel l).clock = s.clock := rfl

@[simp] theorem State.enterLevel_draws (s : State) (l : Level) :
    (s.enterLevel l).draws = s.draws := rfl

@[simp] theorem State.enterLevel_access (s : State) (l : Level) :
    (s.enterLevel l).access = s.access := rfl

@[simp] theorem State.enterLevel_latches (s : State) (l : Level) :
    (s.enterLevel l).latches = s.latches := rfl

@[simp] theorem State.enterLevel_port0 (s : State) (l : Level) :
    (s.enterLevel l).port0 = s.port0 := rfl

@[simp] theorem State.enterLevel_port1 (s : State) (l : Level) :
    (s.enterLevel l).port1 = s.port1 := rfl

@[simp] theorem State.enterLevel_bly (s : State) (l : Level) :
    (s.enterLevel l).bly = s.bly := rfl

@[simp] theorem State.enterLevel_cache (s : State) (l : Level) :
    (s.enterLevel l).cache = s.cache := rfl

@[simp] theorem State.enterLevel_vbf (s : State) (l : Level) :
    (s.enterLevel l).vbf = s.vbf := rfl

@[simp] theorem State.enterLevel_stp (s : State) (l : Level) :
    (s.enterLevel l).stp = s.stp := rfl

@[simp] theorem State.enterLevel_wlv (s : State) (l : Level) :
    (s.enterLevel l).wlv = s.wlv := rfl

@[simp] theorem State.enterLevel_media (s : State) (l : Level) :
    (s.enterLevel l).media = s.media := rfl

@[simp] theorem State.enterLevel_mch (s : State) (l : Level) :
    (s.enterLevel l).mch = s.mch := rfl

@[simp] theorem State.enterLevel_shr (s : State) (l : Level) :
    (s.enterLevel l).shr = s.shr := rfl

@[simp] theorem State.enterLevel_kce (s : State) (l : Level) :
    (s.enterLevel l).kce = s.kce := rfl

@[simp] theorem State.enterLevel_mst (s : State) (l : Level) :
    (s.enterLevel l).mst = s.mst := rfl

@[simp] theorem State.enterLevel_hly (s : State) (l : Level) :
    (s.enterLevel l).hly = s.hly := rfl

@[simp] theorem State.enterLevel_seq (s : State) (l : Level) :
    (s.enterLevel l).seq = s.seq := rfl

@[simp] theorem State.enterLevel_reef (s : State) (l : Level) :
    (s.enterLevel l).reef = s.reef := rfl

@[simp] theorem State.enterLevel_clk (s : State) (l : Level) :
    (s.enterLevel l).clk = s.clk := rfl

@[simp] theorem State.enterLevel_rst (s : State) (l : Level) :
    (s.enterLevel l).rst = s.rst := rfl

@[simp] theorem State.enterLevel_tel (s : State) (l : Level) :
    (s.enterLevel l).tel = s.tel := rfl

@[simp] theorem State.enterLevel_trm (s : State) (l : Level) :
    (s.enterLevel l).trm = s.trm := rfl

@[simp] theorem State.enterLevel_log (s : State) (l : Level) :
    (s.enterLevel l).log = s.log := rfl

@[simp] theorem State.enterLevel_sea (s : State) (l : Level) :
    (s.enterLevel l).sea = s.sea := rfl

@[simp] theorem State.enterLevel_dty (s : State) (l : Level) :
    (s.enterLevel l).dty = s.dty := rfl

@[simp] theorem State.enterLevel_evt (s : State) (l : Level) :
    (s.enterLevel l).evt = s.evt := rfl

@[simp] theorem State.enterLevel_pmu (s : State) (l : Level) :
    (s.enterLevel l).pmu = s.pmu := rfl

@[simp] theorem State.enterLevel_dbg (s : State) (l : Level) :
    (s.enterLevel l).dbg = s.dbg := rfl

@[simp] theorem State.enterLevel_port (s : State) (l : Level) (q : Port) :
    (s.enterLevel l).port q = s.port q := by
  cases q <;> rfl

@[simp] theorem State.logPut_pending (s : State) (v : Severity) (r : RecType) (pair : Bool) (p : List Byte) :
    (s.logPut v r pair p).pending = s.pending := rfl

@[simp] theorem State.logPut_clock (s : State) (v : Severity) (r : RecType) (pair : Bool) (p : List Byte) :
    (s.logPut v r pair p).clock = s.clock := rfl

@[simp] theorem State.logPut_draws (s : State) (v : Severity) (r : RecType) (pair : Bool) (p : List Byte) :
    (s.logPut v r pair p).draws = s.draws := rfl

@[simp] theorem State.logPut_access (s : State) (v : Severity) (r : RecType) (pair : Bool) (p : List Byte) :
    (s.logPut v r pair p).access = s.access := rfl

@[simp] theorem State.logPut_latches (s : State) (v : Severity) (r : RecType) (pair : Bool) (p : List Byte) :
    (s.logPut v r pair p).latches = s.latches := rfl

@[simp] theorem State.logPut_glb (s : State) (v : Severity) (r : RecType) (pair : Bool) (p : List Byte) :
    (s.logPut v r pair p).glb = s.glb := rfl

@[simp] theorem State.logPut_port0 (s : State) (v : Severity) (r : RecType) (pair : Bool) (p : List Byte) :
    (s.logPut v r pair p).port0 = s.port0 := rfl

@[simp] theorem State.logPut_port1 (s : State) (v : Severity) (r : RecType) (pair : Bool) (p : List Byte) :
    (s.logPut v r pair p).port1 = s.port1 := rfl

@[simp] theorem State.logPut_bly (s : State) (v : Severity) (r : RecType) (pair : Bool) (p : List Byte) :
    (s.logPut v r pair p).bly = s.bly := rfl

@[simp] theorem State.logPut_cache (s : State) (v : Severity) (r : RecType) (pair : Bool) (p : List Byte) :
    (s.logPut v r pair p).cache = s.cache := rfl

@[simp] theorem State.logPut_vbf (s : State) (v : Severity) (r : RecType) (pair : Bool) (p : List Byte) :
    (s.logPut v r pair p).vbf = s.vbf := rfl

@[simp] theorem State.logPut_stp (s : State) (v : Severity) (r : RecType) (pair : Bool) (p : List Byte) :
    (s.logPut v r pair p).stp = s.stp := rfl

@[simp] theorem State.logPut_wlv (s : State) (v : Severity) (r : RecType) (pair : Bool) (p : List Byte) :
    (s.logPut v r pair p).wlv = s.wlv := rfl

@[simp] theorem State.logPut_media (s : State) (v : Severity) (r : RecType) (pair : Bool) (p : List Byte) :
    (s.logPut v r pair p).media = s.media := rfl

@[simp] theorem State.logPut_mch (s : State) (v : Severity) (r : RecType) (pair : Bool) (p : List Byte) :
    (s.logPut v r pair p).mch = s.mch := rfl

@[simp] theorem State.logPut_shr (s : State) (v : Severity) (r : RecType) (pair : Bool) (p : List Byte) :
    (s.logPut v r pair p).shr = s.shr := rfl

@[simp] theorem State.logPut_kce (s : State) (v : Severity) (r : RecType) (pair : Bool) (p : List Byte) :
    (s.logPut v r pair p).kce = s.kce := rfl

@[simp] theorem State.logPut_mst (s : State) (v : Severity) (r : RecType) (pair : Bool) (p : List Byte) :
    (s.logPut v r pair p).mst = s.mst := rfl

@[simp] theorem State.logPut_hly (s : State) (v : Severity) (r : RecType) (pair : Bool) (p : List Byte) :
    (s.logPut v r pair p).hly = s.hly := rfl

@[simp] theorem State.logPut_seq (s : State) (v : Severity) (r : RecType) (pair : Bool) (p : List Byte) :
    (s.logPut v r pair p).seq = s.seq := rfl

@[simp] theorem State.logPut_reef (s : State) (v : Severity) (r : RecType) (pair : Bool) (p : List Byte) :
    (s.logPut v r pair p).reef = s.reef := rfl

@[simp] theorem State.logPut_clk (s : State) (v : Severity) (r : RecType) (pair : Bool) (p : List Byte) :
    (s.logPut v r pair p).clk = s.clk := rfl

@[simp] theorem State.logPut_rst (s : State) (v : Severity) (r : RecType) (pair : Bool) (p : List Byte) :
    (s.logPut v r pair p).rst = s.rst := rfl

@[simp] theorem State.logPut_tel (s : State) (v : Severity) (r : RecType) (pair : Bool) (p : List Byte) :
    (s.logPut v r pair p).tel = s.tel := rfl

@[simp] theorem State.logPut_trm (s : State) (v : Severity) (r : RecType) (pair : Bool) (p : List Byte) :
    (s.logPut v r pair p).trm = s.trm := rfl

@[simp] theorem State.logPut_sea (s : State) (v : Severity) (r : RecType) (pair : Bool) (p : List Byte) :
    (s.logPut v r pair p).sea = s.sea := rfl

@[simp] theorem State.logPut_dty (s : State) (v : Severity) (r : RecType) (pair : Bool) (p : List Byte) :
    (s.logPut v r pair p).dty = s.dty := rfl

@[simp] theorem State.logPut_evt (s : State) (v : Severity) (r : RecType) (pair : Bool) (p : List Byte) :
    (s.logPut v r pair p).evt = s.evt := rfl

@[simp] theorem State.logPut_pmu (s : State) (v : Severity) (r : RecType) (pair : Bool) (p : List Byte) :
    (s.logPut v r pair p).pmu = s.pmu := rfl

@[simp] theorem State.logPut_dbg (s : State) (v : Severity) (r : RecType) (pair : Bool) (p : List Byte) :
    (s.logPut v r pair p).dbg = s.dbg := rfl

@[simp] theorem State.logPut_port (s : State) (v : Severity) (r : RecType) (pair : Bool) (p : List Byte) (q : Port) :
    (s.logPut v r pair p).port q = s.port q := by
  cases q <;> rfl

@[simp] theorem State.modBelay_pending (s : State) (i : Nat) (f : Belay → Belay) :
    (s.modBelay i f).pending = s.pending := rfl

@[simp] theorem State.modBelay_clock (s : State) (i : Nat) (f : Belay → Belay) :
    (s.modBelay i f).clock = s.clock := rfl

@[simp] theorem State.modBelay_draws (s : State) (i : Nat) (f : Belay → Belay) :
    (s.modBelay i f).draws = s.draws := rfl

@[simp] theorem State.modBelay_access (s : State) (i : Nat) (f : Belay → Belay) :
    (s.modBelay i f).access = s.access := rfl

@[simp] theorem State.modBelay_latches (s : State) (i : Nat) (f : Belay → Belay) :
    (s.modBelay i f).latches = s.latches := rfl

@[simp] theorem State.modBelay_glb (s : State) (i : Nat) (f : Belay → Belay) :
    (s.modBelay i f).glb = s.glb := rfl

@[simp] theorem State.modBelay_port0 (s : State) (i : Nat) (f : Belay → Belay) :
    (s.modBelay i f).port0 = s.port0 := rfl

@[simp] theorem State.modBelay_port1 (s : State) (i : Nat) (f : Belay → Belay) :
    (s.modBelay i f).port1 = s.port1 := rfl

@[simp] theorem State.modBelay_cache (s : State) (i : Nat) (f : Belay → Belay) :
    (s.modBelay i f).cache = s.cache := rfl

@[simp] theorem State.modBelay_vbf (s : State) (i : Nat) (f : Belay → Belay) :
    (s.modBelay i f).vbf = s.vbf := rfl

@[simp] theorem State.modBelay_stp (s : State) (i : Nat) (f : Belay → Belay) :
    (s.modBelay i f).stp = s.stp := rfl

@[simp] theorem State.modBelay_wlv (s : State) (i : Nat) (f : Belay → Belay) :
    (s.modBelay i f).wlv = s.wlv := rfl

@[simp] theorem State.modBelay_media (s : State) (i : Nat) (f : Belay → Belay) :
    (s.modBelay i f).media = s.media := rfl

@[simp] theorem State.modBelay_mch (s : State) (i : Nat) (f : Belay → Belay) :
    (s.modBelay i f).mch = s.mch := rfl

@[simp] theorem State.modBelay_shr (s : State) (i : Nat) (f : Belay → Belay) :
    (s.modBelay i f).shr = s.shr := rfl

@[simp] theorem State.modBelay_kce (s : State) (i : Nat) (f : Belay → Belay) :
    (s.modBelay i f).kce = s.kce := rfl

@[simp] theorem State.modBelay_mst (s : State) (i : Nat) (f : Belay → Belay) :
    (s.modBelay i f).mst = s.mst := rfl

@[simp] theorem State.modBelay_hly (s : State) (i : Nat) (f : Belay → Belay) :
    (s.modBelay i f).hly = s.hly := rfl

@[simp] theorem State.modBelay_seq (s : State) (i : Nat) (f : Belay → Belay) :
    (s.modBelay i f).seq = s.seq := rfl

@[simp] theorem State.modBelay_reef (s : State) (i : Nat) (f : Belay → Belay) :
    (s.modBelay i f).reef = s.reef := rfl

@[simp] theorem State.modBelay_clk (s : State) (i : Nat) (f : Belay → Belay) :
    (s.modBelay i f).clk = s.clk := rfl

@[simp] theorem State.modBelay_rst (s : State) (i : Nat) (f : Belay → Belay) :
    (s.modBelay i f).rst = s.rst := rfl

@[simp] theorem State.modBelay_tel (s : State) (i : Nat) (f : Belay → Belay) :
    (s.modBelay i f).tel = s.tel := rfl

@[simp] theorem State.modBelay_trm (s : State) (i : Nat) (f : Belay → Belay) :
    (s.modBelay i f).trm = s.trm := rfl

@[simp] theorem State.modBelay_log (s : State) (i : Nat) (f : Belay → Belay) :
    (s.modBelay i f).log = s.log := rfl

@[simp] theorem State.modBelay_sea (s : State) (i : Nat) (f : Belay → Belay) :
    (s.modBelay i f).sea = s.sea := rfl

@[simp] theorem State.modBelay_dty (s : State) (i : Nat) (f : Belay → Belay) :
    (s.modBelay i f).dty = s.dty := rfl

@[simp] theorem State.modBelay_evt (s : State) (i : Nat) (f : Belay → Belay) :
    (s.modBelay i f).evt = s.evt := rfl

@[simp] theorem State.modBelay_pmu (s : State) (i : Nat) (f : Belay → Belay) :
    (s.modBelay i f).pmu = s.pmu := rfl

@[simp] theorem State.modBelay_dbg (s : State) (i : Nat) (f : Belay → Belay) :
    (s.modBelay i f).dbg = s.dbg := rfl

@[simp] theorem State.modBelay_port (s : State) (i : Nat) (f : Belay → Belay) (q : Port) :
    (s.modBelay i f).port q = s.port q := by
  cases q <;> rfl

@[simp] theorem State.modRead_pending (s : State) (i : Nat) (f : ReadOp → ReadOp) :
    (s.modRead i f).pending = s.pending := rfl

@[simp] theorem State.modRead_clock (s : State) (i : Nat) (f : ReadOp → ReadOp) :
    (s.modRead i f).clock = s.clock := rfl

@[simp] theorem State.modRead_draws (s : State) (i : Nat) (f : ReadOp → ReadOp) :
    (s.modRead i f).draws = s.draws := rfl

@[simp] theorem State.modRead_access (s : State) (i : Nat) (f : ReadOp → ReadOp) :
    (s.modRead i f).access = s.access := rfl

@[simp] theorem State.modRead_latches (s : State) (i : Nat) (f : ReadOp → ReadOp) :
    (s.modRead i f).latches = s.latches := rfl

@[simp] theorem State.modRead_glb (s : State) (i : Nat) (f : ReadOp → ReadOp) :
    (s.modRead i f).glb = s.glb := rfl

@[simp] theorem State.modRead_port0 (s : State) (i : Nat) (f : ReadOp → ReadOp) :
    (s.modRead i f).port0 = s.port0 := rfl

@[simp] theorem State.modRead_port1 (s : State) (i : Nat) (f : ReadOp → ReadOp) :
    (s.modRead i f).port1 = s.port1 := rfl

@[simp] theorem State.modRead_bly (s : State) (i : Nat) (f : ReadOp → ReadOp) :
    (s.modRead i f).bly = s.bly := rfl

@[simp] theorem State.modRead_cache (s : State) (i : Nat) (f : ReadOp → ReadOp) :
    (s.modRead i f).cache = s.cache := rfl

@[simp] theorem State.modRead_vbf (s : State) (i : Nat) (f : ReadOp → ReadOp) :
    (s.modRead i f).vbf = s.vbf := rfl

@[simp] theorem State.modRead_wlv (s : State) (i : Nat) (f : ReadOp → ReadOp) :
    (s.modRead i f).wlv = s.wlv := rfl

@[simp] theorem State.modRead_media (s : State) (i : Nat) (f : ReadOp → ReadOp) :
    (s.modRead i f).media = s.media := rfl

@[simp] theorem State.modRead_mch (s : State) (i : Nat) (f : ReadOp → ReadOp) :
    (s.modRead i f).mch = s.mch := rfl

@[simp] theorem State.modRead_shr (s : State) (i : Nat) (f : ReadOp → ReadOp) :
    (s.modRead i f).shr = s.shr := rfl

@[simp] theorem State.modRead_kce (s : State) (i : Nat) (f : ReadOp → ReadOp) :
    (s.modRead i f).kce = s.kce := rfl

@[simp] theorem State.modRead_mst (s : State) (i : Nat) (f : ReadOp → ReadOp) :
    (s.modRead i f).mst = s.mst := rfl

@[simp] theorem State.modRead_hly (s : State) (i : Nat) (f : ReadOp → ReadOp) :
    (s.modRead i f).hly = s.hly := rfl

@[simp] theorem State.modRead_seq (s : State) (i : Nat) (f : ReadOp → ReadOp) :
    (s.modRead i f).seq = s.seq := rfl

@[simp] theorem State.modRead_reef (s : State) (i : Nat) (f : ReadOp → ReadOp) :
    (s.modRead i f).reef = s.reef := rfl

@[simp] theorem State.modRead_clk (s : State) (i : Nat) (f : ReadOp → ReadOp) :
    (s.modRead i f).clk = s.clk := rfl

@[simp] theorem State.modRead_rst (s : State) (i : Nat) (f : ReadOp → ReadOp) :
    (s.modRead i f).rst = s.rst := rfl

@[simp] theorem State.modRead_tel (s : State) (i : Nat) (f : ReadOp → ReadOp) :
    (s.modRead i f).tel = s.tel := rfl

@[simp] theorem State.modRead_trm (s : State) (i : Nat) (f : ReadOp → ReadOp) :
    (s.modRead i f).trm = s.trm := rfl

@[simp] theorem State.modRead_log (s : State) (i : Nat) (f : ReadOp → ReadOp) :
    (s.modRead i f).log = s.log := rfl

@[simp] theorem State.modRead_sea (s : State) (i : Nat) (f : ReadOp → ReadOp) :
    (s.modRead i f).sea = s.sea := rfl

@[simp] theorem State.modRead_dty (s : State) (i : Nat) (f : ReadOp → ReadOp) :
    (s.modRead i f).dty = s.dty := rfl

@[simp] theorem State.modRead_evt (s : State) (i : Nat) (f : ReadOp → ReadOp) :
    (s.modRead i f).evt = s.evt := rfl

@[simp] theorem State.modRead_pmu (s : State) (i : Nat) (f : ReadOp → ReadOp) :
    (s.modRead i f).pmu = s.pmu := rfl

@[simp] theorem State.modRead_dbg (s : State) (i : Nat) (f : ReadOp → ReadOp) :
    (s.modRead i f).dbg = s.dbg := rfl

@[simp] theorem State.modRead_port (s : State) (i : Nat) (f : ReadOp → ReadOp) (q : Port) :
    (s.modRead i f).port q = s.port q := by
  cases q <;> rfl

end Sys2Proof.Machine
end

