-- ==== Sys2Proof/Laws/Fire.lean ====
section
/-! SUPPORT. What firing an event source does to the pending bits, the counts and the severities of the
sources (R406): its own are set, every other source keeps its own. -/

namespace Sys2Proof.Machine

open Sys2Proof

/-- The pending bit, the count and the severity of a source. -/
def Src.tally (x : Src) : Bool × Nat × Option Severity :=
  (x.pending, x.count, x.sev)

/-- What one firing makes of them. -/
def Src.tallied (x : Src) (v : Severity) : Bool × Nat × Option Severity :=
  (true, satAdd 0xFFF x.count 1, some v)

/-- A change of a source that keeps its tally keeps every tally. -/
theorem State.tally_modSrc (s : State) (k j : Nat) (f : Src → Src) (h : ∀ x, (f x).tally = x.tally) :
    ((s.modSrc k f).src j).tally = (s.src j).tally := by
  by_cases e : j = k
  · subst e
    rw [State.src_modSrc]
    exact h _
  · rw [State.src_modSrc_other s f e]

theorem State.tally_logPut (s : State) (j : Nat) (v : Severity) (r : RecType) (pair : Bool)
    (p : List Byte) : ((s.logPut v r pair p).src j).tally = (s.src j).tally := rfl

theorem State.tally_flushKey (s : State) (k j : Nat) :
    ((s.flushKey k).src j).tally = (s.src j).tally := by
  unfold State.flushKey
  dsimp only
  split
  · rfl
  · split
    · rfl
    · rw [State.tally_modSrc]
      · exact State.tally_logPut _ _ _ _ _ _
      · exact fun _ => rfl

theorem State.tally_recordFiring (s : State) (i k j : Nat) (v : Severity) (d : Detail) :
    ((s.recordFiring i k v d).src j).tally = (s.src j).tally := by
  unfold State.recordFiring
  lift_lets
  intro u x held
  have hu : (u.src j).tally = (s.src j).tally := State.tally_flushKey s k j
  split
  · rw [State.tally_modSrc]
    · exact hu
    · exact fun _ => rfl
  · rw [State.tally_modSrc]
    · exact (State.tally_logPut _ _ _ _ _ _).trans hu
    · exact fun _ => rfl

theorem State.src_pushFifo (s : State) (i j : Nat) : (s.pushFifo i).src j = s.src j := by
  unfold State.pushFifo State.src
  split
  · split <;> rfl
  · rfl

theorem State.src_postPort (s : State) (p : Port) (kind : HostKind) (i j : Nat) (v : Severity)
    (d : Detail) : (s.postPort p kind i v d).src j = s.src j := by
  cases p <;> rfl

theorem State.src_postHost (s : State) (kind : HostKind) (i j : Nat) (v : Severity) (d : Detail) :
    (s.postHost kind i v d).src j = s.src j := by
  unfold State.postHost
  lift_lets
  intro post one
  have hp : ∀ s p d, (post s p d).src j = s.src j := by
    intro s p d
    simp only [post]
    split
    · exact State.src_postPort _ _ _ _ _ _ _
    · rfl
  have ho : ∀ s p, (one s p).src j = s.src j := by
    intro s p
    simp only [one]
    split
    · split
      · exact hp _ _ _
      · rfl
    · exact hp _ _ _
  split
  · exact hp _ _ _
  · split
    · exact hp _ _ _
    · exact (ho _ _).trans (ho _ _)

theorem State.src_postAlert (s : State) (i j : Nat) (v : Severity) (d : Detail) :
    (s.postAlert i v d).src j = s.src j := rfl

theorem State.src_routeFiring (s : State) (i j : Nat) (v : Severity) (d : Detail) :
    (s.routeFiring i v d).src j = s.src j := by
  unfold State.routeFiring
  dsimp only
  split <;> split <;> simp only [State.src_postAlert, State.src_postHost, State.src_pushFifo]

theorem State.tally_markFired (s : State) (i j : Nat) (v : Severity) :
    ((s.markFired i v).src j).tally =
      if j = i then (s.src j).tallied v else (s.src j).tally := by
  unfold State.markFired
  split
  · subst j
    rw [State.src_modSrc]
    rfl
  · rw [State.src_modSrc_other s _ ‹_›]

/-- A firing tallies its own source and no other. -/
theorem State.tally_fireSub (s : State) (i sub j : Nat) (v : Severity) (d : Detail) :
    ((s.fireSub i sub v d).src j).tally =
      if j = i then (s.src j).tallied v else (s.src j).tally := by
  unfold State.fireSub
  rw [State.src_routeFiring, State.tally_recordFiring, State.tally_markFired]

theorem State.tally_fire (s : State) (i j : Nat) (v : Severity) (d : Detail) :
    ((s.fire i v d).src j).tally = if j = i then (s.src j).tallied v else (s.src j).tally :=
  State.tally_fireSub s i 0 j v d

theorem State.tally_firePath (s : State) (on : Port) (i j : Nat) (v : Severity) (d : Detail) :
    ((s.firePath on i v d).src j).tally =
      if j = i then (s.src j).tallied v else (s.src j).tally := by
  unfold State.firePath
  dsimp only
  split <;> split <;>
    simp only [State.src_postAlert, State.src_postPort, State.src_pushFifo, State.tally_recordFiring,
      State.tally_markFired]

theorem State.tally_fireOutcome (s : State) (v : Severity) (kind id outcome delivered seq j : Nat) :
    ((s.fireOutcome v kind id outcome delivered seq).src j).tally =
      if j = 1228 then (s.src j).tallied v else (s.src j).tally := by
  unfold State.fireOutcome
  dsimp only
  rw [State.src_routeFiring, State.tally_logPut, State.tally_markFired]

/-- A source has fired where its tally says so. -/
theorem State.fired_of_tally {s : State} {i n : Nat} {v : Severity}
    (h : (s.src i).tally = (true, n, some v)) : s.fired i v := by
  simp only [Src.tally, Prod.mk.injEq] at h
  exact ⟨h.1, h.2.2⟩

theorem State.fired_congr {s t : State} {i : Nat} {v : Severity}
    (h : (t.src i).tally = (s.src i).tally) : t.fired i v ↔ s.fired i v := by
  simp only [Src.tally, Prod.mk.injEq] at h
  unfold State.fired
  rw [h.1, h.2.2]

@[simp] theorem State.fired_fireSub (s : State) (i sub j : Nat) (v w : Severity) (d : Detail) :
    (s.fireSub i sub v d).fired j w ↔ if j = i then v = w else s.fired j w := by
  have h := State.tally_fireSub s i sub j v d
  split
  · rw [if_pos ‹_›] at h
    simp only [Src.tally, Src.tallied, Prod.mk.injEq] at h
    unfold State.fired
    rw [h.1, h.2.2]
    simp
  · rw [if_neg ‹_›] at h
    exact State.fired_congr h

@[simp] theorem State.fired_fire (s : State) (i j : Nat) (v w : Severity) (d : Detail) :
    (s.fire i v d).fired j w ↔ if j = i then v = w else s.fired j w :=
  State.fired_fireSub s i 0 j v w d

@[simp] theorem State.fired_firePath (s : State) (on : Port) (i j : Nat) (v w : Severity)
    (d : Detail) : (s.firePath on i v d).fired j w ↔ if j = i then v = w else s.fired j w := by
  have h := State.tally_firePath s on i j v d
  split
  · rw [if_pos ‹_›] at h
    simp only [Src.tally, Src.tallied, Prod.mk.injEq] at h
    unfold State.fired
    rw [h.1, h.2.2]
    simp
  · rw [if_neg ‹_›] at h
    exact State.fired_congr h

@[simp] theorem State.fired_fireOutcome (s : State) (v w : Severity)
    (kind id outcome delivered seq j : Nat) :
    (s.fireOutcome v kind id outcome delivered seq).fired j w ↔
      if j = 1228 then v = w else s.fired j w := by
  have h := State.tally_fireOutcome s v kind id outcome delivered seq j
  split
  · rw [if_pos ‹_›] at h
    simp only [Src.tally, Src.tallied, Prod.mk.injEq] at h
    unfold State.fired
    rw [h.1, h.2.2]
    simp
  · rw [if_neg ‹_›] at h
    exact State.fired_congr h

/-- What a state's sources say does not depend on the rest of the state. -/
theorem State.fired_of_evt {s t : State} (h : t.evt = s.evt) (i : Nat) (v : Severity) :
    t.fired i v ↔ s.fired i v := by
  unfold State.fired
  rw [State.src_congr h]

@[simp] theorem State.fired_setPort (s : State) (p : Port) (x : PortState) (i : Nat) (v : Severity) :
    (s.setPort p x).fired i v ↔ s.fired i v :=
  State.fired_of_evt (by simp) i v

@[simp] theorem State.fired_modPort (s : State) (p : Port) (f : PortState → PortState) (i : Nat) (v : Severity) :
    (s.modPort p f).fired i v ↔ s.fired i v :=
  State.fired_of_evt (by simp) i v

@[simp] theorem State.fired_setCh (s : State) (n : Nat) (c : Mch) (i : Nat) (v : Severity) :
    (s.setCh n c).fired i v ↔ s.fired i v :=
  State.fired_of_evt (by simp) i v

@[simp] theorem State.fired_modCh (s : State) (n : Nat) (f : Mch → Mch) (i : Nat) (v : Severity) :
    (s.modCh n f).fired i v ↔ s.fired i v :=
  State.fired_of_evt (by simp) i v

@[simp] theorem State.fired_modDie (s : State) (n d : Nat) (f : DieState → DieState) (i : Nat) (v : Severity) :
    (s.modDie n d f).fired i v ↔ s.fired i v :=
  State.fired_of_evt (by simp) i v

@[simp] theorem State.fired_modSlot (s : State) (k : Nat) (f : ModState → ModState) (i : Nat) (v : Severity) :
    (s.modSlot k f).fired i v ↔ s.fired i v :=
  State.fired_of_evt (by simp) i v

@[simp] theorem State.fired_modSlice (s : State) (n : Nat) (f : SliceState → SliceState) (i : Nat) (v : Severity) :
    (s.modSlice n f).fired i v ↔ s.fired i v :=
  State.fired_of_evt (by simp) i v

@[simp] theorem State.fired_modMb (s : State) (m : Nat) (f : Mb → Mb) (i : Nat) (v : Severity) :
    (s.modMb m f).fired i v ↔ s.fired i v :=
  State.fired_of_evt (by simp) i v

@[simp] theorem State.fired_modKeySlot (s : State) (k : Nat) (f : KeySlot → KeySlot) (i : Nat) (v : Severity) :
    (s.modKeySlot k f).fired i v ↔ s.fired i v :=
  State.fired_of_evt (by simp) i v

@[simp] theorem State.fired_modDom (s : State) (k : Nat) (f : DomSleep → DomSleep) (i : Nat) (v : Severity) :
    (s.modDom k f).fired i v ↔ s.fired i v :=
  State.fired_of_evt (by simp) i v

@[simp] theorem State.fired_drawn (s : State) (i : Nat) (v : Severity) :
    (s.drawn).fired i v ↔ s.fired i v :=
  State.fired_of_evt (by simp) i v

@[simp] theorem State.fired_enterLevel (s : State) (l : Level) (i : Nat) (v : Severity) :
    (s.enterLevel l).fired i v ↔ s.fired i v :=
  State.fired_of_evt (by simp) i v

@[simp] theorem State.fired_logPut (s : State) (w : Severity) (r : RecType) (pair : Bool) (b : List Byte) (i : Nat) (v : Severity) :
    (s.logPut w r pair b).fired i v ↔ s.fired i v :=
  State.fired_of_evt (by simp) i v

@[simp] theorem State.fired_modBelay (s : State) (k : Nat) (f : Belay → Belay) (i : Nat) (v : Severity) :
    (s.modBelay k f).fired i v ↔ s.fired i v :=
  State.fired_of_evt (by simp) i v

@[simp] theorem State.fired_modRead (s : State) (k : Nat) (f : ReadOp → ReadOp) (i : Nat) (v : Severity) :
    (s.modRead k f).fired i v ↔ s.fired i v :=
  State.fired_of_evt (by simp) i v

/-- Settling the service level fires no source but 1,008. -/
@[simp] theorem State.fired_settleLevel (s : State) (i : Nat) (v : Severity) (h : i ≠ 1008) :
    s.settleLevel.fired i v ↔ s.fired i v := by
  unfold State.settleLevel
  dsimp only
  split
  · rfl
  · rw [State.fired_fire, if_neg h]
    exact State.fired_of_evt rfl i v

/-- Noting the admitted load fires no source but the port's own. -/
@[simp] theorem State.fired_noteAdmit (s : State) (p : Port) (i : Nat) (v : Severity)
    (h : i ≠ 1061 + portIdx p) : (s.noteAdmit p).fired i v ↔ s.fired i v := by
  unfold State.noteAdmit
  dsimp only
  split
  · rfl
  · rw [State.fired_fire, if_neg h]
    exact State.fired_of_evt (State.modPort_evt s p _) i v

end Sys2Proof.Machine
end

