-- ==== Sys2Proof/Laws/Within.lean ====
section
/-! SUPPORT. Changes that stay within some parts of the state: how they compose. -/

namespace Sys2Proof.Machine

open Sys2Proof

theorem Within.refl (W : List Part) (s : State) : Within W s s :=
  ⟨fun p _ => by cases p <;> rfl⟩

theorem State.agree_trans {s u t : State} {p : Part} (h : s.agree u p) (h' : u.agree t p) :
    s.agree t p := by
  cases p <;> exact Eq.trans h' h

/-- A change within `V` after a change within `W`, `V` a part of `W`. -/
theorem Within.step {W V : List Part} {s u t : State} (h : Within V u t) (hv : ∀ p ∈ V, p ∈ W)
    (h' : Within W s u) : Within W s t :=
  ⟨fun p hp => State.agree_trans (h'.same p hp) (h.same p fun hm => hp (hv p hm))⟩

theorem Within.foldl {α : Type} {W : List Part} {s u : State} {l : List α} {f : State → α → State}
    (hf : ∀ u a, Within W s u → Within W s (f u a)) (h : Within W s u) : Within W s (l.foldl f u) := by
  induction l generalizing u with
  | nil => exact h
  | cons a l ih => exact ih (hf u a h)

theorem Within.foldl_fst {α β : Type} {W : List Part} {s : State} {l : List α}
    {f : State × β → α → State × β} {u : State × β}
    (hf : ∀ u a, Within W s u.1 → Within W s (f u a).1) (h : Within W s u.1) :
    Within W s (l.foldl f u).1 := by
  induction l generalizing u with
  | nil => exact h
  | cons a l ih => exact ih (hf u a h)

theorem Within.getD {W : List Part} {s u : State} {o : Option State}
    (h : ∀ t, o = some t → Within W s t) (h' : Within W s u) : Within W s (o.getD u) := by
  cases o with
  | none => exact h'
  | some t => exact h t rfl

theorem Within.of_fst {α : Type} {W : List Part} {s a : State} {b : α} {p : State × α}
    (h : Within W s p.1) (e : p = (a, b)) : Within W s a := by
  rw [e] at h
  exact h

/-- The same for what a meaning answers. -/
def WithinOut (W : List Part) (s : State) (o : Out) : Prop :=
  ∀ t, o = .next t → Within W s t

theorem WithinOut.next {W : List Part} {s t : State} (h : Within W s t) : WithinOut W s (.next t) := by
  intro u hu
  cases hu
  exact h

theorem WithinOut.fault (W : List Part) (s : State) (f : Fault) : WithinOut W s (.fault f) := by
  intro u hu
  cases hu

theorem WithinOut.refused (W : List Part) (s : State) (f : Refusal) : WithinOut W s (.refused f) := by
  intro u hu
  cases hu

theorem WithinOut.mono {W V : List Part} {s : State} {o : Out} (h : WithinOut V s o)
    (hv : ∀ p ∈ V, p ∈ W) : WithinOut W s o :=
  fun t ht => Within.step (h t ht) hv (Within.refl W s)

theorem State.agree_symm {s t : State} {p : Part} (h : s.agree t p) : t.agree s p := by
  cases p <;> exact Eq.symm h

/-- A change outside the parts of `W` alone does not matter to `Within W`. -/
theorem Within.set_of {W : List Part} {s u v : State} (h : ∀ p, p ∉ W → u.agree v p) :
    Within W s v = Within W s u :=
  propext ⟨fun k => ⟨fun p hp => State.agree_trans (k.same p hp) (State.agree_symm (h p hp))⟩,
    fun k => ⟨fun p hp => State.agree_trans (k.same p hp) (h p hp)⟩⟩

/-! Writing a field, where its part is among those that may change. -/

theorem Within.set_draws {W : List Part} {s u : State} {x0 : _}
    (h0 : Part.draws ∈ W) :
    Within W s { u with draws := x0 } = Within W s u :=
  Within.set_of fun p hp => by
    cases p <;> first | exact rfl | exact absurd (by assumption) hp

theorem Within.set_access {W : List Part} {s u : State} {x0 : _}
    (h0 : Part.access ∈ W) :
    Within W s { u with access := x0 } = Within W s u :=
  Within.set_of fun p hp => by
    cases p <;> first | exact rfl | exact absurd (by assumption) hp

theorem Within.set_latches {W : List Part} {s u : State} {x0 : _}
    (h0 : Part.latches ∈ W) :
    Within W s { u with latches := x0 } = Within W s u :=
  Within.set_of fun p hp => by
    cases p <;> first | exact rfl | exact absurd (by assumption) hp

theorem Within.set_glb {W : List Part} {s u : State} {x0 : _}
    (h0 : Part.glb ∈ W) (h1 : Part.level ∈ W) :
    Within W s { u with glb := x0 } = Within W s u :=
  Within.set_of fun p hp => by
    cases p <;> first | exact rfl | exact absurd (by assumption) hp

theorem Within.set_port0 {W : List Part} {s u : State} {x0 : _}
    (h0 : Part.port0 ∈ W) (h1 : Part.hostLogs ∈ W) :
    Within W s { u with port0 := x0 } = Within W s u :=
  Within.set_of fun p hp => by
    cases p <;> first | exact rfl | exact absurd (by assumption) hp

theorem Within.set_port1 {W : List Part} {s u : State} {x0 : _}
    (h0 : Part.port1 ∈ W) (h1 : Part.hostLogs ∈ W) :
    Within W s { u with port1 := x0 } = Within W s u :=
  Within.set_of fun p hp => by
    cases p <;> first | exact rfl | exact absurd (by assumption) hp

theorem Within.set_bly {W : List Part} {s u : State} {x0 : _}
    (h0 : Part.bly ∈ W) :
    Within W s { u with bly := x0 } = Within W s u :=
  Within.set_of fun p hp => by
    cases p <;> first | exact rfl | exact absurd (by assumption) hp

theorem Within.set_cache {W : List Part} {s u : State} {x0 : _}
    (h0 : Part.cache ∈ W) :
    Within W s { u with cache := x0 } = Within W s u :=
  Within.set_of fun p hp => by
    cases p <;> first | exact rfl | exact absurd (by assumption) hp

theorem Within.set_vbf {W : List Part} {s u : State} {x0 : _}
    (h0 : Part.vbf ∈ W) :
    Within W s { u with vbf := x0 } = Within W s u :=
  Within.set_of fun p hp => by
    cases p <;> first | exact rfl | exact absurd (by assumption) hp

theorem Within.set_stp {W : List Part} {s u : State} {x0 : _}
    (h0 : Part.stp ∈ W) :
    Within W s { u with stp := x0 } = Within W s u :=
  Within.set_of fun p hp => by
    cases p <;> first | exact rfl | exact absurd (by assumption) hp

theorem Within.set_wlv {W : List Part} {s u : State} {x0 : _}
    (h0 : Part.wlv ∈ W) :
    Within W s { u with wlv := x0 } = Within W s u :=
  Within.set_of fun p hp => by
    cases p <;> first | exact rfl | exact absurd (by assumption) hp

theorem Within.set_media {W : List Part} {s u : State} {x0 : _}
    (h0 : Part.media ∈ W) :
    Within W s { u with media := x0 } = Within W s u :=
  Within.set_of fun p hp => by
    cases p <;> first | exact rfl | exact absurd (by assumption) hp

theorem Within.set_mch {W : List Part} {s u : State} {x0 : _}
    (h0 : Part.mch ∈ W) :
    Within W s { u with mch := x0 } = Within W s u :=
  Within.set_of fun p hp => by
    cases p <;> first | exact rfl | exact absurd (by assumption) hp

theorem Within.set_shr {W : List Part} {s u : State} {x0 : _}
    (h0 : Part.shr ∈ W) :
    Within W s { u with shr := x0 } = Within W s u :=
  Within.set_of fun p hp => by
    cases p <;> first | exact rfl | exact absurd (by assumption) hp

theorem Within.set_kce {W : List Part} {s u : State} {x0 : _}
    (h0 : Part.kce ∈ W) :
    Within W s { u with kce := x0 } = Within W s u :=
  Within.set_of fun p hp => by
    cases p <;> first | exact rfl | exact absurd (by assumption) hp

theorem Within.set_mst {W : List Part} {s u : State} {x0 : _}
    (h0 : Part.mst ∈ W) :
    Within W s { u with mst := x0 } = Within W s u :=
  Within.set_of fun p hp => by
    cases p <;> first | exact rfl | exact absurd (by assumption) hp

theorem Within.set_hly {W : List Part} {s u : State} {x0 : _}
    (h0 : Part.hly ∈ W) :
    Within W s { u with hly := x0 } = Within W s u :=
  Within.set_of fun p hp => by
    cases p <;> first | exact rfl | exact absurd (by assumption) hp

theorem Within.set_seq {W : List Part} {s u : State} {x0 : _}
    (h0 : Part.seq ∈ W) :
    Within W s { u with seq := x0 } = Within W s u :=
  Within.set_of fun p hp => by
    cases p <;> first | exact rfl | exact absurd (by assumption) hp

theorem Within.set_reef {W : List Part} {s u : State} {x0 : _}
    (h0 : Part.reef ∈ W) :
    Within W s { u with reef := x0 } = Within W s u :=
  Within.set_of fun p hp => by
    cases p <;> first | exact rfl | exact absurd (by assumption) hp

theorem Within.set_clk {W : List Part} {s u : State} {x0 : _}
    (h0 : Part.clk ∈ W) :
    Within W s { u with clk := x0 } = Within W s u :=
  Within.set_of fun p hp => by
    cases p <;> first | exact rfl | exact absurd (by assumption) hp

theorem Within.set_rst {W : List Part} {s u : State} {x0 : _}
    (h0 : Part.rst ∈ W) :
    Within W s { u with rst := x0 } = Within W s u :=
  Within.set_of fun p hp => by
    cases p <;> first | exact rfl | exact absurd (by assumption) hp

theorem Within.set_tel {W : List Part} {s u : State} {x0 : _}
    (h0 : Part.tel ∈ W) :
    Within W s { u with tel := x0 } = Within W s u :=
  Within.set_of fun p hp => by
    cases p <;> first | exact rfl | exact absurd (by assumption) hp

theorem Within.set_trm {W : List Part} {s u : State} {x0 : _}
    (h0 : Part.trm ∈ W) :
    Within W s { u with trm := x0 } = Within W s u :=
  Within.set_of fun p hp => by
    cases p <;> first | exact rfl | exact absurd (by assumption) hp

theorem Within.set_log {W : List Part} {s u : State} {x0 : _}
    (h0 : Part.log ∈ W) :
    Within W s { u with log := x0 } = Within W s u :=
  Within.set_of fun p hp => by
    cases p <;> first | exact rfl | exact absurd (by assumption) hp

theorem Within.set_sea {W : List Part} {s u : State} {x0 : _}
    (h0 : Part.sea ∈ W) :
    Within W s { u with sea := x0 } = Within W s u :=
  Within.set_of fun p hp => by
    cases p <;> first | exact rfl | exact absurd (by assumption) hp

theorem Within.set_dty {W : List Part} {s u : State} {x0 : _}
    (h0 : Part.dty ∈ W) :
    Within W s { u with dty := x0 } = Within W s u :=
  Within.set_of fun p hp => by
    cases p <;> first | exact rfl | exact absurd (by assumption) hp

theorem Within.set_evt {W : List Part} {s u : State} {x0 : _}
    (h0 : Part.evt ∈ W) :
    Within W s { u with evt := x0 } = Within W s u :=
  Within.set_of fun p hp => by
    cases p <;> first | exact rfl | exact absurd (by assumption) hp

theorem Within.set_pmu {W : List Part} {s u : State} {x0 : _}
    (h0 : Part.pmu ∈ W) :
    Within W s { u with pmu := x0 } = Within W s u :=
  Within.set_of fun p hp => by
    cases p <;> first | exact rfl | exact absurd (by assumption) hp

theorem Within.set_dbg {W : List Part} {s u : State} {x0 : _}
    (h0 : Part.dbg ∈ W) :
    Within W s { u with dbg := x0 } = Within W s u :=
  Within.set_of fun p hp => by
    cases p <;> first | exact rfl | exact absurd (by assumption) hp

theorem Within.set_clock_glb {W : List Part} {s u : State} {x0 : _} {x1 : _}
    (h0 : Part.clock ∈ W) (h1 : Part.glb ∈ W) (h2 : Part.level ∈ W) :
    Within W s { u with clock := x0, glb := x1 } = Within W s u :=
  Within.set_of fun p hp => by
    cases p <;> first | exact rfl | exact absurd (by assumption) hp

theorem Within.set_glb_vbf {W : List Part} {s u : State} {x0 : _} {x1 : _}
    (h0 : Part.glb ∈ W) (h1 : Part.vbf ∈ W) (h2 : Part.level ∈ W) :
    Within W s { u with glb := x0, vbf := x1 } = Within W s u :=
  Within.set_of fun p hp => by
    cases p <;> first | exact rfl | exact absurd (by assumption) hp

theorem Within.set_glb_media {W : List Part} {s u : State} {x0 : _} {x1 : _}
    (h0 : Part.glb ∈ W) (h1 : Part.media ∈ W) (h2 : Part.level ∈ W) :
    Within W s { u with glb := x0, media := x1 } = Within W s u :=
  Within.set_of fun p hp => by
    cases p <;> first | exact rfl | exact absurd (by assumption) hp

theorem Within.set_glb_seq {W : List Part} {s u : State} {x0 : _} {x1 : _}
    (h0 : Part.glb ∈ W) (h1 : Part.seq ∈ W) (h2 : Part.level ∈ W) :
    Within W s { u with glb := x0, seq := x1 } = Within W s u :=
  Within.set_of fun p hp => by
    cases p <;> first | exact rfl | exact absurd (by assumption) hp

theorem Within.set_glb_rst {W : List Part} {s u : State} {x0 : _} {x1 : _}
    (h0 : Part.glb ∈ W) (h1 : Part.rst ∈ W) (h2 : Part.level ∈ W) :
    Within W s { u with glb := x0, rst := x1 } = Within W s u :=
  Within.set_of fun p hp => by
    cases p <;> first | exact rfl | exact absurd (by assumption) hp

theorem Within.set_port0_port1 {W : List Part} {s u : State} {x0 : _} {x1 : _}
    (h0 : Part.port0 ∈ W) (h1 : Part.port1 ∈ W) (h2 : Part.hostLogs ∈ W) :
    Within W s { u with port0 := x0, port1 := x1 } = Within W s u :=
  Within.set_of fun p hp => by
    cases p <;> first | exact rfl | exact absurd (by assumption) hp

theorem Within.set_bly_stp {W : List Part} {s u : State} {x0 : _} {x1 : _}
    (h0 : Part.bly ∈ W) (h1 : Part.stp ∈ W) :
    Within W s { u with bly := x0, stp := x1 } = Within W s u :=
  Within.set_of fun p hp => by
    cases p <;> first | exact rfl | exact absurd (by assumption) hp

theorem Within.set_cache_vbf {W : List Part} {s u : State} {x0 : _} {x1 : _}
    (h0 : Part.cache ∈ W) (h1 : Part.vbf ∈ W) :
    Within W s { u with cache := x0, vbf := x1 } = Within W s u :=
  Within.set_of fun p hp => by
    cases p <;> first | exact rfl | exact absurd (by assumption) hp

theorem Within.set_cache_clk {W : List Part} {s u : State} {x0 : _} {x1 : _}
    (h0 : Part.cache ∈ W) (h1 : Part.clk ∈ W) :
    Within W s { u with cache := x0, clk := x1 } = Within W s u :=
  Within.set_of fun p hp => by
    cases p <;> first | exact rfl | exact absurd (by assumption) hp

theorem Within.set_cache_rst {W : List Part} {s u : State} {x0 : _} {x1 : _}
    (h0 : Part.cache ∈ W) (h1 : Part.rst ∈ W) :
    Within W s { u with cache := x0, rst := x1 } = Within W s u :=
  Within.set_of fun p hp => by
    cases p <;> first | exact rfl | exact absurd (by assumption) hp

theorem Within.set_vbf_stp {W : List Part} {s u : State} {x0 : _} {x1 : _}
    (h0 : Part.vbf ∈ W) (h1 : Part.stp ∈ W) :
    Within W s { u with vbf := x0, stp := x1 } = Within W s u :=
  Within.set_of fun p hp => by
    cases p <;> first | exact rfl | exact absurd (by assumption) hp

theorem Within.set_stp_wlv {W : List Part} {s u : State} {x0 : _} {x1 : _}
    (h0 : Part.stp ∈ W) (h1 : Part.wlv ∈ W) :
    Within W s { u with stp := x0, wlv := x1 } = Within W s u :=
  Within.set_of fun p hp => by
    cases p <;> first | exact rfl | exact absurd (by assumption) hp

theorem Within.set_stp_media {W : List Part} {s u : State} {x0 : _} {x1 : _}
    (h0 : Part.stp ∈ W) (h1 : Part.media ∈ W) :
    Within W s { u with stp := x0, media := x1 } = Within W s u :=
  Within.set_of fun p hp => by
    cases p <;> first | exact rfl | exact absurd (by assumption) hp

theorem Within.set_wlv_media {W : List Part} {s u : State} {x0 : _} {x1 : _}
    (h0 : Part.wlv ∈ W) (h1 : Part.media ∈ W) :
    Within W s { u with wlv := x0, media := x1 } = Within W s u :=
  Within.set_of fun p hp => by
    cases p <;> first | exact rfl | exact absurd (by assumption) hp

theorem Within.set_media_shr {W : List Part} {s u : State} {x0 : _} {x1 : _}
    (h0 : Part.media ∈ W) (h1 : Part.shr ∈ W) :
    Within W s { u with media := x0, shr := x1 } = Within W s u :=
  Within.set_of fun p hp => by
    cases p <;> first | exact rfl | exact absurd (by assumption) hp

theorem Within.set_media_kce {W : List Part} {s u : State} {x0 : _} {x1 : _}
    (h0 : Part.media ∈ W) (h1 : Part.kce ∈ W) :
    Within W s { u with media := x0, kce := x1 } = Within W s u :=
  Within.set_of fun p hp => by
    cases p <;> first | exact rfl | exact absurd (by assumption) hp

theorem Within.set_media_seq {W : List Part} {s u : State} {x0 : _} {x1 : _}
    (h0 : Part.media ∈ W) (h1 : Part.seq ∈ W) :
    Within W s { u with media := x0, seq := x1 } = Within W s u :=
  Within.set_of fun p hp => by
    cases p <;> first | exact rfl | exact absurd (by assumption) hp

theorem Within.set_kce_sea {W : List Part} {s u : State} {x0 : _} {x1 : _}
    (h0 : Part.kce ∈ W) (h1 : Part.sea ∈ W) :
    Within W s { u with kce := x0, sea := x1 } = Within W s u :=
  Within.set_of fun p hp => by
    cases p <;> first | exact rfl | exact absurd (by assumption) hp

theorem Within.set_mst_clk {W : List Part} {s u : State} {x0 : _} {x1 : _}
    (h0 : Part.mst ∈ W) (h1 : Part.clk ∈ W) :
    Within W s { u with mst := x0, clk := x1 } = Within W s u :=
  Within.set_of fun p hp => by
    cases p <;> first | exact rfl | exact absurd (by assumption) hp

theorem Within.set_mst_rst {W : List Part} {s u : State} {x0 : _} {x1 : _}
    (h0 : Part.mst ∈ W) (h1 : Part.rst ∈ W) :
    Within W s { u with mst := x0, rst := x1 } = Within W s u :=
  Within.set_of fun p hp => by
    cases p <;> first | exact rfl | exact absurd (by assumption) hp

theorem Within.set_mst_sea {W : List Part} {s u : State} {x0 : _} {x1 : _}
    (h0 : Part.mst ∈ W) (h1 : Part.sea ∈ W) :
    Within W s { u with mst := x0, sea := x1 } = Within W s u :=
  Within.set_of fun p hp => by
    cases p <;> first | exact rfl | exact absurd (by assumption) hp

theorem Within.set_hly_dbg {W : List Part} {s u : State} {x0 : _} {x1 : _}
    (h0 : Part.hly ∈ W) (h1 : Part.dbg ∈ W) :
    Within W s { u with hly := x0, dbg := x1 } = Within W s u :=
  Within.set_of fun p hp => by
    cases p <;> first | exact rfl | exact absurd (by assumption) hp

theorem Within.set_seq_tel {W : List Part} {s u : State} {x0 : _} {x1 : _}
    (h0 : Part.seq ∈ W) (h1 : Part.tel ∈ W) :
    Within W s { u with seq := x0, tel := x1 } = Within W s u :=
  Within.set_of fun p hp => by
    cases p <;> first | exact rfl | exact absurd (by assumption) hp

theorem Within.set_clk_rst {W : List Part} {s u : State} {x0 : _} {x1 : _}
    (h0 : Part.clk ∈ W) (h1 : Part.rst ∈ W) :
    Within W s { u with clk := x0, rst := x1 } = Within W s u :=
  Within.set_of fun p hp => by
    cases p <;> first | exact rfl | exact absurd (by assumption) hp

theorem Within.set_tel_trm {W : List Part} {s u : State} {x0 : _} {x1 : _}
    (h0 : Part.tel ∈ W) (h1 : Part.trm ∈ W) :
    Within W s { u with tel := x0, trm := x1 } = Within W s u :=
  Within.set_of fun p hp => by
    cases p <;> first | exact rfl | exact absurd (by assumption) hp

theorem Within.set_log_dty {W : List Part} {s u : State} {x0 : _} {x1 : _}
    (h0 : Part.log ∈ W) (h1 : Part.dty ∈ W) :
    Within W s { u with log := x0, dty := x1 } = Within W s u :=
  Within.set_of fun p hp => by
    cases p <;> first | exact rfl | exact absurd (by assumption) hp

theorem Within.set_dty_dbg {W : List Part} {s u : State} {x0 : _} {x1 : _}
    (h0 : Part.dty ∈ W) (h1 : Part.dbg ∈ W) :
    Within W s { u with dty := x0, dbg := x1 } = Within W s u :=
  Within.set_of fun p hp => by
    cases p <;> first | exact rfl | exact absurd (by assumption) hp

theorem Within.set_latches_mst_rst {W : List Part} {s u : State} {x0 : _} {x1 : _} {x2 : _}
    (h0 : Part.latches ∈ W) (h1 : Part.mst ∈ W) (h2 : Part.rst ∈ W) :
    Within W s { u with latches := x0, mst := x1, rst := x2 } = Within W s u :=
  Within.set_of fun p hp => by
    cases p <;> first | exact rfl | exact absurd (by assumption) hp

theorem Within.set_cache_vbf_stp {W : List Part} {s u : State} {x0 : _} {x1 : _} {x2 : _}
    (h0 : Part.cache ∈ W) (h1 : Part.vbf ∈ W) (h2 : Part.stp ∈ W) :
    Within W s { u with cache := x0, vbf := x1, stp := x2 } = Within W s u :=
  Within.set_of fun p hp => by
    cases p <;> first | exact rfl | exact absurd (by assumption) hp

theorem Within.set_stp_wlv_media {W : List Part} {s u : State} {x0 : _} {x1 : _} {x2 : _}
    (h0 : Part.stp ∈ W) (h1 : Part.wlv ∈ W) (h2 : Part.media ∈ W) :
    Within W s { u with stp := x0, wlv := x1, media := x2 } = Within W s u :=
  Within.set_of fun p hp => by
    cases p <;> first | exact rfl | exact absurd (by assumption) hp

theorem Within.set_glb_media_kce_sea {W : List Part} {s u : State} {x0 : _} {x1 : _} {x2 : _} {x3 : _}
    (h0 : Part.glb ∈ W) (h1 : Part.media ∈ W) (h2 : Part.kce ∈ W) (h3 : Part.sea ∈ W) (h4 : Part.level ∈ W)
        :
    Within W s { u with glb := x0, media := x1, kce := x2, sea := x3 } = Within W s u :=
  Within.set_of fun p hp => by
    cases p <;> first | exact rfl | exact absurd (by assumption) hp

theorem Within.set_stp_reef_tel_trm {W : List Part} {s u : State} {x0 : _} {x1 : _} {x2 : _} {x3 : _}
    (h0 : Part.stp ∈ W) (h1 : Part.reef ∈ W) (h2 : Part.tel ∈ W) (h3 : Part.trm ∈ W) :
    Within W s { u with stp := x0, reef := x1, tel := x2, trm := x3 } = Within W s u :=
  Within.set_of fun p hp => by
    cases p <;> first | exact rfl | exact absurd (by assumption) hp

theorem Within.set_glb_bly_cache_vbf_stp {W : List Part} {s u : State} {x0 : _} {x1 : _} {x2 : _} {x3 : _}
    {x4 : _}
    (h0 : Part.glb ∈ W) (h1 : Part.bly ∈ W) (h2 : Part.cache ∈ W) (h3 : Part.vbf ∈ W) (h4 : Part.stp ∈ W)
        (h5 : Part.level ∈ W) :
    Within W s { u with glb := x0, bly := x1, cache := x2, vbf := x3, stp := x4 } = Within W s u :=
  Within.set_of fun p hp => by
    cases p <;> first | exact rfl | exact absurd (by assumption) hp

theorem Within.set_glb_port0_port1_mch_mst_seq_clk_rst_dty_dbg {W : List Part} {s u : State} {x0 : _} {x1 :
    _} {x2 : _} {x3 : _} {x4 : _} {x5 : _} {x6 : _} {x7 : _} {x8 : _} {x9 : _}
    (h0 : Part.glb ∈ W) (h1 : Part.port0 ∈ W) (h2 : Part.port1 ∈ W) (h3 : Part.mch ∈ W) (h4 : Part.mst ∈ W)
        (h5 : Part.seq ∈ W) (h6 : Part.clk ∈ W) (h7 : Part.rst ∈ W) (h8 : Part.dty ∈ W) (h9 : Part.dbg ∈ W)
        (h10 : Part.hostLogs ∈ W) (h11 : Part.level ∈ W) :
    Within W s { u with
        glb := x0, port0 := x1, port1 := x2, mch := x3, mst := x4, seq := x5, clk := x6, rst := x7,
        dty := x8, dbg := x9 } = Within W s u :=
  Within.set_of fun p hp => by
    cases p <;> first | exact rfl | exact absurd (by assumption) hp

end Sys2Proof.Machine
end

