-- ==== Sys2Proof/Laws/FrameShared.lean ====
section
/-! SUPPORT. Frames: which parts of the state each operation and each meaning may change (the operations every part shares).
A later frame cites the frames of the operations it calls and unfolds none of them. -/

namespace Sys2Proof.Machine

open Sys2Proof

theorem State.setPort_within (s : State) (p : Port) (x : PortState) :
    Within [.port0, .port1, .hostLogs] s (State.setPort s p x) := by
  unfold State.setPort
  split
  · refine (Within.set_port0 (by decide) (by decide)).mpr ?_
    exact Within.refl _ _
  · refine (Within.set_port1 (by decide) (by decide)).mpr ?_
    exact Within.refl _ _

theorem State.modPort_within (s : State) (p : Port) (f : PortState → PortState) :
    Within [.port0, .port1, .hostLogs] s (State.modPort s p f) := by
  unfold State.modPort
  refine Within.step (State.setPort_within _ _ _) (by decide) ?_
  exact Within.refl _ _

theorem State.setCh_within (s : State) (n : Nat) (c : Mch) :
    Within [.mch] s (State.setCh s n c) := by
  unfold State.setCh
  refine (Within.set_mch (by decide)).mpr ?_
  exact Within.refl _ _

theorem State.modCh_within (s : State) (n : Nat) (f : Mch → Mch) :
    Within [.mch] s (State.modCh s n f) := by
  unfold State.modCh
  refine Within.step (State.setCh_within _ _ _) (by decide) ?_
  exact Within.refl _ _

theorem State.modDie_within (s : State) (n d : Nat) (f : DieState → DieState) :
    Within [.mch] s (State.modDie s n d f) := by
  unfold State.modDie
  refine Within.step (State.modCh_within _ _ _) (by decide) ?_
  exact Within.refl _ _

theorem State.modSlot_within (s : State) (k : Nat) (f : ModState → ModState) :
    Within [.seq] s (State.modSlot s k f) := by
  unfold State.modSlot
  refine (Within.set_seq (by decide)).mpr ?_
  exact Within.refl _ _

theorem State.modSlice_within (s : State) (n : Nat) (f : SliceState → SliceState) :
    Within [.cache] s (State.modSlice s n f) := by
  unfold State.modSlice
  refine (Within.set_cache (by decide)).mpr ?_
  exact Within.refl _ _

theorem State.modSrc_within (s : State) (i : Nat) (f : Src → Src) :
    Within [.evt] s (State.modSrc s i f) := by
  unfold State.modSrc
  refine (Within.set_evt (by decide)).mpr ?_
  exact Within.refl _ _

theorem State.modMb_within (s : State) (m : Nat) (f : Mb → Mb) :
    Within [.hly] s (State.modMb s m f) := by
  unfold State.modMb
  refine (Within.set_hly (by decide)).mpr ?_
  exact Within.refl _ _

theorem State.modKeySlot_within (s : State) (i : Nat) (f : KeySlot → KeySlot) :
    Within [.shr] s (State.modKeySlot s i f) := by
  unfold State.modKeySlot
  refine (Within.set_shr (by decide)).mpr ?_
  exact Within.refl _ _

theorem State.modDom_within (s : State) (i : Nat) (f : DomSleep → DomSleep) :
    Within [.clk] s (State.modDom s i f) := by
  unfold State.modDom
  refine (Within.set_clk (by decide)).mpr ?_
  exact Within.refl _ _

theorem State.drawn_within (s : State) :
    Within [.draws] s (State.drawn s) := by
  unfold State.drawn
  refine (Within.set_draws (by decide)).mpr ?_
  exact Within.refl _ _

theorem State.logPut_within (s : State) (sev : Severity) (t : RecType) (pair : Bool) (payload : List Byte) :
    Within [.log] s (State.logPut s sev t pair payload) := by
  unfold State.logPut
  lift_lets -underBinder
  intro u1
  clear_value u1
  refine (Within.set_log (by decide)).mpr ?_
  exact Within.refl _ _

theorem State.modPort_hostLogs (s : State) (p : Port) (f : PortState → PortState)
    (hf : ∀ x, (f x).quiet = x.quiet) : Within [.hostLogs] s (s.modPort p f) := by
  unfold State.modPort
  refine ⟨fun q hq => ?_⟩
  cases p <;> cases q <;>
    first | exact rfl | exact absurd (by decide) hq | exact hf _

theorem State.postPort_within (s : State) (p : Port) (kind : HostKind) (i : Nat) (v : Severity)
    (d : Detail) : Within [.hostLogs] s (s.postPort p kind i v d) :=
  State.modPort_hostLogs s p _ fun _ => rfl

theorem State.sendMsix_within (s : State) (p : Port) (vector : Nat) :
    Within [.hostLogs] s (s.sendMsix p vector) :=
  State.modPort_hostLogs s p _ fun _ => rfl

theorem State.postHost_within (s : State) (kind : HostKind) (i : Nat) (v : Severity) (d : Detail) :
    Within [.hostLogs] s (State.postHost s kind i v d) := by
  unfold State.postHost
  lift_lets -underBinder
  intro u1
  subst u1
  intro u2
  subst u2
  split
  · beta_reduce
    split
    · refine Within.step (State.postPort_within _ _ _ _ _ _) (by decide) ?_
      exact Within.refl _ _
    · exact Within.refl _ _
  · split
    · beta_reduce
      split
      · refine Within.step (State.postPort_within _ _ _ _ _ _) (by decide) ?_
        exact Within.refl _ _
      · exact Within.refl _ _
    · beta_reduce
      lift_lets -underBinder
      intro u3 u4
      clear_value u4
      split
      · split
        · split
          · split
            · split
              · split
                · refine Within.step (State.postPort_within _ _ _ _ _ _) (by decide) ?_
                  refine Within.step (State.postPort_within _ _ _ _ _ _) (by decide) ?_
                  exact Within.refl _ _
                · refine Within.step (State.postPort_within _ _ _ _ _ _) (by decide) ?_
                  exact Within.refl _ _
              · split
                · refine Within.step (State.postPort_within _ _ _ _ _ _) (by decide) ?_
                  exact Within.refl _ _
                · exact Within.refl _ _
            · split
              · refine Within.step (State.postPort_within _ _ _ _ _ _) (by decide) ?_
                exact Within.refl _ _
              · exact Within.refl _ _
          · split
            · split
              · refine Within.step (State.postPort_within _ _ _ _ _ _) (by decide) ?_
                refine Within.step (State.postPort_within _ _ _ _ _ _) (by decide) ?_
                exact Within.refl _ _
              · refine Within.step (State.postPort_within _ _ _ _ _ _) (by decide) ?_
                exact Within.refl _ _
            · split
              · refine Within.step (State.postPort_within _ _ _ _ _ _) (by decide) ?_
                exact Within.refl _ _
              · exact Within.refl _ _
        · split
          · split
            · split
              · refine Within.step (State.postPort_within _ _ _ _ _ _) (by decide) ?_
                exact Within.refl _ _
              · exact Within.refl _ _
            · exact Within.refl _ _
          · split
            · refine Within.step (State.postPort_within _ _ _ _ _ _) (by decide) ?_
              exact Within.refl _ _
            · exact Within.refl _ _
      · split
        · split
          · split
            · split
              · refine Within.step (State.postPort_within _ _ _ _ _ _) (by decide) ?_
                refine Within.step (State.postPort_within _ _ _ _ _ _) (by decide) ?_
                exact Within.refl _ _
              · refine Within.step (State.postPort_within _ _ _ _ _ _) (by decide) ?_
                exact Within.refl _ _
            · split
              · refine Within.step (State.postPort_within _ _ _ _ _ _) (by decide) ?_
                exact Within.refl _ _
              · exact Within.refl _ _
          · split
            · refine Within.step (State.postPort_within _ _ _ _ _ _) (by decide) ?_
              exact Within.refl _ _
            · exact Within.refl _ _
        · split
          · split
            · refine Within.step (State.postPort_within _ _ _ _ _ _) (by decide) ?_
              refine Within.step (State.postPort_within _ _ _ _ _ _) (by decide) ?_
              exact Within.refl _ _
            · refine Within.step (State.postPort_within _ _ _ _ _ _) (by decide) ?_
              exact Within.refl _ _
          · split
            · refine Within.step (State.postPort_within _ _ _ _ _ _) (by decide) ?_
              exact Within.refl _ _
            · exact Within.refl _ _

theorem State.postAlert_within (s : State) (i : Nat) (v : Severity) (d : Detail) :
    Within [.evt] s (State.postAlert s i v d) := by
  unfold State.postAlert
  lift_lets -underBinder
  intro u1
  clear_value u1
  intro u2
  clear_value u2
  refine (Within.set_evt (by decide)).mpr ?_
  exact Within.refl _ _

theorem State.flushKey_within (s : State) (k : Nat) :
    Within [.log, .evt] s (State.flushKey s k) := by
  unfold State.flushKey
  lift_lets -underBinder
  intro u1
  clear_value u1
  intro u2
  clear_value u2
  split
  · exact Within.refl _ _
  · split
    · exact Within.refl _ _
    · lift_lets -underBinder
      intro u3
      clear_value u3
      intro u4
      clear_value u4
      intro u5
      have h5 : Within [.log, .evt] s u5 := by
        subst u5
        refine Within.step (State.logPut_within _ _ _ _ _) (by decide) ?_
        exact Within.refl _ _
      clear_value u5
      refine Within.step (State.modSrc_within _ _ _) (by decide) ?_
      assumption

theorem State.recordFiring_within (s : State) (i k : Nat) (v : Severity) (d : Detail) :
    Within [.log, .evt] s (State.recordFiring s i k v d) := by
  unfold State.recordFiring
  lift_lets -underBinder
  intro u1
  have h1 : Within [.log, .evt] s u1 := by
    subst u1
    refine Within.step (State.flushKey_within _ _) (by decide) ?_
    exact Within.refl _ _
  clear_value u1
  intro u2
  clear_value u2
  intro u3
  clear_value u3
  split
  · refine Within.step (State.modSrc_within _ _ _) (by decide) ?_
    assumption
  · refine Within.step (State.modSrc_within _ _ _) (by decide) ?_
    refine Within.step (State.logPut_within _ _ _ _ _) (by decide) ?_
    assumption

theorem State.markFired_within (s : State) (i : Nat) (v : Severity) :
    Within [.evt] s (State.markFired s i v) := by
  unfold State.markFired
  refine Within.step (State.modSrc_within _ _ _) (by decide) ?_
  exact Within.refl _ _

theorem State.pushFifo_within (s : State) (i : Nat) :
    Within [.evt] s (State.pushFifo s i) := by
  unfold State.pushFifo
  split
  · refine (Within.set_evt (by decide)).mpr ?_
    exact Within.refl _ _
  · exact Within.refl _ _

theorem State.routeFiring_within (s : State) (i : Nat) (v : Severity) (d : Detail) :
    Within [.hostLogs, .evt] s (State.routeFiring s i v d) := by
  unfold State.routeFiring
  lift_lets -underBinder
  intro u1
  have h1 : Within [.hostLogs, .evt] s u1 := by
    subst u1
    refine Within.step (State.pushFifo_within _ _) (by decide) ?_
    exact Within.refl _ _
  clear_value u1
  intro u2
  have h2 : Within [.hostLogs, .evt] s u2 := by
    subst u2
    split
    · refine Within.step (State.postHost_within _ _ _ _ _) (by decide) ?_
      assumption
    · assumption
  clear_value u2
  split
  · refine Within.step (State.postAlert_within _ _ _ _) (by decide) ?_
    assumption
  · assumption

theorem State.fireSub_within (s : State) (i sub : Nat) (v : Severity) (d : Detail) :
    Within [.hostLogs, .log, .evt] s (State.fireSub s i sub v d) := by
  unfold State.fireSub
  refine Within.step (State.routeFiring_within _ _ _ _) (by decide) ?_
  refine Within.step (State.recordFiring_within _ _ _ _ _) (by decide) ?_
  refine Within.step (State.markFired_within _ _ _) (by decide) ?_
  exact Within.refl _ _

theorem State.fire_within (s : State) (i : Nat) (v : Severity) (d : Detail) :
    Within [.hostLogs, .log, .evt] s (State.fire s i v d) := by
  unfold State.fire
  refine Within.step (State.fireSub_within _ _ _ _ _) (by decide) ?_
  exact Within.refl _ _

theorem State.firePath_within (s : State) (on : Port) (i : Nat) (v : Severity) (d : Detail) :
    Within [.hostLogs, .log, .evt] s (State.firePath s on i v d) := by
  unfold State.firePath
  lift_lets -underBinder
  intro u1
  have h1 : Within [.hostLogs, .log, .evt] s u1 := by
    subst u1
    refine Within.step (State.pushFifo_within _ _) (by decide) ?_
    refine Within.step (State.recordFiring_within _ _ _ _ _) (by decide) ?_
    refine Within.step (State.markFired_within _ _ _) (by decide) ?_
    exact Within.refl _ _
  clear_value u1
  intro u2
  have h2 : Within [.hostLogs, .log, .evt] s u2 := by
    subst u2
    split
    · refine Within.step (State.postPort_within _ _ _ _ _ _) (by decide) ?_
      assumption
    · assumption
  clear_value u2
  split
  · refine Within.step (State.postAlert_within _ _ _ _) (by decide) ?_
    assumption
  · assumption

theorem State.fireOutcome_within (s : State) (v : Severity) (kind id outcome delivered seq : Nat) :
    Within [.hostLogs, .log, .evt] s (State.fireOutcome s v kind id outcome delivered seq) := by
  unfold State.fireOutcome
  lift_lets -underBinder
  intro u1
  have h1 : Within [.hostLogs, .log, .evt] s u1 := by
    subst u1
    refine Within.step (State.markFired_within _ _ _) (by decide) ?_
    exact Within.refl _ _
  clear_value u1
  intro u2
  have h2 : Within [.hostLogs, .log, .evt] s u2 := by
    subst u2
    refine Within.step (State.logPut_within _ _ _ _ _) (by decide) ?_
    assumption
  clear_value u2
  refine Within.step (State.routeFiring_within _ _ _ _) (by decide) ?_
  assumption

theorem State.bucketAdd_within (s : State) (c unit : Nat) :
    Within [.hostLogs, .log, .evt] s (State.bucketAdd s c unit) := by
  unfold State.bucketAdd
  lift_lets -underBinder
  intro u1
  clear_value u1
  intro u2
  clear_value u2
  intro u3
  clear_value u3
  intro u4
  clear_value u4
  intro u5
  have h5 : Within [.hostLogs, .log, .evt] s u5 := by
    subst u5
    refine (Within.set_evt (by decide)).mpr ?_
    exact Within.refl _ _
  clear_value u5
  split
  · refine Within.step (State.fire_within _ _ _ _) (by decide) ?_
    assumption
  · assumption

theorem State.bucketAddN_within (s : State) (c unit : Nat) (k : Nat) :
    Within [.hostLogs, .log, .evt] s (State.bucketAddN s c unit k) := by
  induction k generalizing s with
  | zero => exact Within.refl _ _
  | succ k ih =>
    unfold State.bucketAddN
    refine Within.step (ih _) (by decide) ?_
    refine Within.step (State.bucketAdd_within _ _ _) (by decide) ?_
    exact Within.refl _ _

theorem State.occ_within (s : State) (code n : Nat) :
    Within [.pmu] s (State.occ s code n) := by
  unfold State.occ
  refine (Within.set_pmu (by decide)).mpr ?_
  exact Within.refl _ _

theorem State.setWay_within (s : State) (key : Nat) (w : Way) :
    Within [.cache] s (State.setWay s key w) := by
  unfold State.setWay
  lift_lets -underBinder
  intro u1
  clear_value u1
  intro u2
  clear_value u2
  intro u3
  clear_value u3
  refine (Within.set_cache (by decide)).mpr ?_
  exact Within.refl _ _

theorem State.touchTagSram_within (s : State) (lsn : Nat) :
    Within [.cache] s (State.touchTagSram s lsn) := by
  unfold State.touchTagSram
  refine (Within.set_cache (by decide)).mpr ?_
  exact Within.refl _ _

theorem State.touchWay_within (s : State) (key : Nat) :
    Within [.cache] s (State.touchWay s key) := by
  unfold State.touchWay
  refine (Within.set_cache (by decide)).mpr ?_
  exact Within.refl _ _

theorem State.settleSlot_within (s : State) (m : Nat) :
    Within [.cache] s (State.settleSlot s m) := by
  unfold State.settleSlot
  lift_lets -underBinder
  intro u1
  clear_value u1
  intro u2
  clear_value u2
  split
  · refine (Within.set_cache (by decide)).mpr ?_
    exact Within.refl _ _
  · refine (Within.set_cache (by decide)).mpr ?_
    exact Within.refl _ _

theorem State.settleSlotOpt_within (s : State) (k : Option Nat) :
    Within [.cache] s (State.settleSlotOpt s k) := by
  unfold State.settleSlotOpt
  split
  · refine Within.step (State.settleSlot_within _ _) (by decide) ?_
    exact Within.refl _ _
  · exact Within.refl _ _

theorem State.mirrorWay_within (s : State) (key : Nat) :
    Within [.cache] s (State.mirrorWay s key) := by
  unfold State.mirrorWay
  lift_lets -underBinder
  intro u1
  clear_value u1
  intro u2
  clear_value u2
  split
  · exact Within.refl _ _
  · lift_lets -underBinder
    intro u3
    clear_value u3
    intro u4
    clear_value u4
    intro u5
    have h5 : Within [.cache] s u5 := by
      subst u5
      refine (Within.set_cache (by decide)).mpr ?_
      exact Within.refl _ _
    clear_value u5
    refine Within.step (State.settleSlot_within _ _) (by decide) ?_
    refine Within.step (State.setWay_within _ _ _) (by decide) ?_
    assumption

theorem State.modVictim_within (s : State) (i : Nat) (f : Victim → Victim) :
    Within [.vbf] s (State.modVictim s i f) := by
  unfold State.modVictim
  refine (Within.set_vbf (by decide)).mpr ?_
  exact Within.refl _ _

theorem State.freeVictim_within (s : State) (i : Nat) :
    Within [.cache, .vbf] s (State.freeVictim s i) := by
  unfold State.freeVictim
  lift_lets -underBinder
  intro u1
  clear_value u1
  intro u2
  clear_value u2
  refine Within.step (State.settleSlotOpt_within _ _) (by decide) ?_
  refine (Within.set_vbf (by decide)).mpr ?_
  exact Within.refl _ _

theorem State.victimise_within (s : State) (key : Nat) (copyOnly : Bool) (maint : Option Nat) (flush : Bool)
    :
    Within [.cache, .vbf] s (State.victimise s key copyOnly maint flush) := by
  unfold State.victimise
  split
  · exact Within.refl _ _
  · lift_lets -underBinder
    intro u1
    clear_value u1
    intro u2
    clear_value u2
    intro u3
    clear_value u3
    intro u4
    have h4 : Within [.cache, .vbf] s u4 := by
      subst u4
      refine (Within.set_vbf (by decide)).mpr ?_
      exact Within.refl _ _
    clear_value u4
    split
    · refine Within.step (State.setWay_within _ _ _) (by decide) ?_
      assumption
    · refine Within.step (State.settleSlotOpt_within _ _) (by decide) ?_
      refine Within.step (State.setWay_within _ _ _) (by decide) ?_
      assumption

theorem State.vacate_within (s : State) (key : Nat) :
    Within [.cache, .vbf] s (State.vacate s key) := by
  unfold State.vacate
  split
  · refine Within.step (State.victimise_within _ _ _ _ _) (by decide) ?_
    exact Within.refl _ _
  · refine Within.step (State.setWay_within _ _ _) (by decide) ?_
    exact Within.refl _ _

theorem State.allocFill_within (s : State) (lsn : Nat) :
    Within [.cache, .vbf] s (State.allocFill s lsn).1 := by
  unfold State.allocFill
  lift_lets -underBinder
  intro u1
  clear_value u1
  intro u2
  clear_value u2
  split
  · dsimp only
    exact Within.refl _ _
  · split
    · lift_lets -underBinder
      intro u3
      clear_value u3
      intro u4
      have h4 : Within [.cache, .vbf] s u4 := by
        subst u4
        refine Within.step (State.vacate_within _ _) (by decide) ?_
        exact Within.refl _ _
      clear_value u4
      intro u5
      clear_value u5
      dsimp only
      refine Within.step (State.setWay_within _ _ _) (by decide) ?_
      assumption
    · dsimp only
      exact Within.refl _ _

theorem State.allocWrite_within (s : State) (lsn : Nat) (allowed : Nat → Bool) :
    Within [.cache, .vbf] s (State.allocWrite s lsn allowed).1 := by
  unfold State.allocWrite
  lift_lets -underBinder
  intro u1
  clear_value u1
  intro u2
  clear_value u2
  split
  · dsimp only
    exact Within.refl _ _
  · lift_lets -underBinder
    intro u3
    clear_value u3
    intro u4
    have h4 : Within [.cache, .vbf] s u4 := by
      subst u4
      refine Within.step (State.vacate_within _ _) (by decide) ?_
      exact Within.refl _ _
    clear_value u4
    dsimp only
    assumption

theorem State.poisonAdd_within (s : State) (lsn : Nat) (lines : BitVec 4) (st : PoisonState) :
    Within [.hostLogs, .wlv, .log, .evt] s (State.poisonAdd s lsn lines st) := by
  unfold State.poisonAdd
  split
  · lift_lets -underBinder
    intro u1
    clear_value u1
    intro u2
    clear_value u2
    refine (Within.set_wlv (by decide)).mpr ?_
    exact Within.refl _ _
  · split
    · refine (Within.set_wlv (by decide)).mpr ?_
      exact Within.refl _ _
    · split
      · exact Within.refl _ _
      · refine Within.step (State.fire_within _ _ _ _) (by decide) ?_
        refine (Within.set_wlv (by decide)).mpr ?_
        exact Within.refl _ _

theorem State.poisonDrop_within (s : State) (lsn : Nat) :
    Within [.wlv] s (State.poisonDrop s lsn) := by
  unfold State.poisonDrop
  lift_lets -underBinder
  intro u1
  clear_value u1
  intro u2
  clear_value u2
  refine (Within.set_wlv (by decide)).mpr ?_
  exact Within.refl _ _

theorem State.poisonClear_within (s : State) (lsn line : Nat) :
    Within [.wlv] s (State.poisonClear s lsn line) := by
  unfold State.poisonClear
  split
  · exact Within.refl _ _
  · split
    · exact Within.refl _ _
    · lift_lets -underBinder
      intro u1
      clear_value u1
      intro u2
      clear_value u2
      intro u3
      clear_value u3
      split
      · refine Within.step (State.poisonDrop_within _ _) (by decide) ?_
        exact Within.refl _ _
      · refine (Within.set_wlv (by decide)).mpr ?_
        exact Within.refl _ _

theorem State.setCell_within (s : State) (lsn : Nat) (c : Stored) :
    Within [.media] s (State.setCell s lsn c) := by
  unfold State.setCell
  refine (Within.set_media (by decide)).mpr ?_
  exact Within.refl _ _

theorem State.addProg_within (s : State) (p : Prog) :
    Within [.stp] s (State.addProg s p) := by
  unfold State.addProg
  refine (Within.set_stp (by decide)).mpr ?_
  exact Within.refl _ _

theorem State.queuePrograms_within (s : State) (id : Nat) (row : Nat) (news : List (Nat × Stored)) :
    Within [.stp] s (State.queuePrograms s id row news) := by
  unfold State.queuePrograms
  lift_lets -underBinder
  intro u1
  clear_value u1
  intro u2
  clear_value u2
  intro u3
  have h3 : Within [.stp] s u3 := by
    subst u3
    refine Within.foldl (fun u a h => ?_) ?_
    · refine Within.step (State.addProg_within _ _) (by decide) ?_
      assumption
    · exact Within.refl _ _
  clear_value u3
  intro u4
  clear_value u4
  refine (Within.set_stp (by decide)).mpr ?_
  assumption

theorem State.formPrograms_within (s : State) (id : Nat) :
    Within [.stp] s (State.formPrograms s id) := by
  unfold State.formPrograms
  split
  · exact Within.refl _ _
  · split
    · lift_lets -underBinder
      intro u1
      clear_value u1
      intro u2
      have h2 : Within [.stp] s u2 := by
        subst u2
        refine (Within.set_stp (by decide)).mpr ?_
        exact Within.refl _ _
      clear_value u2
      refine Within.step (State.queuePrograms_within _ _ _ _) (by decide) ?_
      assumption
    · exact Within.refl _ _

theorem State.dropFromSet_within (s : State) (i : Nat) :
    Within [.stp] s (State.dropFromSet s i) := by
  unfold State.dropFromSet
  split
  · exact Within.refl _ _
  · split
    · exact Within.refl _ _
    · lift_lets -underBinder
      intro u1
      clear_value u1
      intro u2
      subst u2
      intro u3
      clear_value u3
      intro u4
      clear_value u4
      split
      · beta_reduce
        refine (Within.set_stp (by decide)).mpr ?_
        refine (Within.set_stp (by decide)).mpr ?_
        exact Within.refl _ _
      · refine Within.step (State.formPrograms_within _ _) (by decide) ?_
        beta_reduce
        refine (Within.set_stp (by decide)).mpr ?_
        refine (Within.set_stp (by decide)).mpr ?_
        exact Within.refl _ _

theorem State.cancelEviction_within (s : State) (i : Nat) :
    Within [.vbf, .stp] s (State.cancelEviction s i) := by
  unfold State.cancelEviction
  lift_lets -underBinder
  intro u1
  have h1 : Within [.vbf, .stp] s u1 := by
    subst u1
    refine Within.step (State.dropFromSet_within _ _) (by decide) ?_
    exact Within.refl _ _
  clear_value u1
  intro u2
  have h2 : Within [.vbf, .stp] s u2 := by
    subst u2
    refine Within.step (State.modVictim_within _ _ _) (by decide) ?_
    assumption
  clear_value u2
  intro u3
  clear_value u3
  refine (Within.set_vbf (by decide)).mpr ?_
  assumption

theorem State.recallInto_within (s : State) (i key : Nat) (fromTracker : Bool) :
    Within [.cache, .vbf] s (State.recallInto s i key fromTracker) := by
  unfold State.recallInto
  split
  · exact Within.refl _ _
  · lift_lets -underBinder
    intro u1
    clear_value u1
    intro u2
    clear_value u2
    intro u3
    have h3 : Within [.cache, .vbf] s u3 := by
      subst u3
      refine Within.step (State.touchWay_within _ _) (by decide) ?_
      refine Within.step (State.setWay_within _ _ _) (by decide) ?_
      exact Within.refl _ _
    clear_value u3
    intro u4
    clear_value u4
    refine (Within.set_vbf (by decide)).mpr ?_
    assumption

theorem State.cleanWay_within (s : State) (i : Nat) :
    Within [.cache] s (State.cleanWay s i) := by
  unfold State.cleanWay
  split
  · exact Within.refl _ _
  · lift_lets -underBinder
    intro u1
    clear_value u1
    intro u2
    clear_value u2
    split
    · refine Within.step (State.setWay_within _ _ _) (by decide) ?_
      exact Within.refl _ _
    · refine Within.step (State.setWay_within _ _ _) (by decide) ?_
      exact Within.refl _ _

theorem State.confirmVictim_within (s : State) (i : Nat) :
    Within [.cache, .vbf] s (State.confirmVictim s i) := by
  unfold State.confirmVictim
  refine Within.step (State.freeVictim_within _ _) (by decide) ?_
  refine Within.step (State.cleanWay_within _ _) (by decide) ?_
  exact Within.refl _ _

theorem State.settleAbsent_within (s : State) (news : List (Nat × Stored)) :
    Within [.media] s (State.settleAbsent s news) := by
  unfold State.settleAbsent
  refine Within.foldl (fun u a h => ?_) ?_
  · split
    · refine Within.step (State.setCell_within _ _ _) (by decide) ?_
      assumption
    · assumption
  · exact Within.refl _ _

theorem State.modBelay_within (s : State) (i : Nat) (f : Belay → Belay) :
    Within [.bly] s (State.modBelay s i f) := by
  unfold State.modBelay
  refine (Within.set_bly (by decide)).mpr ?_
  exact Within.refl _ _

theorem State.freeBelay_within (s : State) (i : Nat) :
    Within [.bly] s (State.freeBelay s i) := by
  unfold State.freeBelay
  lift_lets -underBinder
  intro u1
  clear_value u1
  intro u2
  have h2 : Within [.bly] s u2 := by
    subst u2
    refine (Within.set_bly (by decide)).mpr ?_
    exact Within.refl _ _
  clear_value u2
  split
  · assumption
  · split
    · assumption
    · refine (Within.set_bly (by decide)).mpr ?_
      assumption

theorem State.returnReservation_within (s : State) (b : Belay) :
    Within [.glb, .level, .vbf] s (State.returnReservation s b) := by
  unfold State.returnReservation
  split
  · exact Within.refl _ _
  · refine (Within.set_glb_vbf (by decide) (by decide) (by decide)).mpr ?_
    exact Within.refl _ _

theorem State.toRespond_within (s : State) (i : Nat) (data : Line) (poison : Bool) :
    Within [.hostLogs, .bly, .hly, .log, .evt, .pmu] s (State.toRespond s i data poison) := by
  unfold State.toRespond
  split
  · exact Within.refl _ _
  · lift_lets -underBinder
    intro u1
    have h1 : Within [.hostLogs, .bly, .hly, .log, .evt, .pmu] s u1 := by
      subst u1
      split
      · refine Within.step (State.occ_within _ _ _) (by decide) ?_
        exact Within.refl _ _
      · exact Within.refl _ _
    clear_value u1
    intro u2
    clear_value u2
    split
    · refine Within.step (State.fire_within _ _ _ _) (by decide) ?_
      refine Within.step (State.freeBelay_within _ _) (by decide) ?_
      assumption
    · refine Within.step (State.modBelay_within _ _ _) (by decide) ?_
      assumption

theorem State.retirePrefetch_within (s : State) (i : Nat) :
    Within [.port0, .port1, .hostLogs, .bly] s (State.retirePrefetch s i) := by
  unfold State.retirePrefetch
  split
  · exact Within.refl _ _
  · lift_lets -underBinder
    intro u1
    have h1 : Within [.port0, .port1, .hostLogs, .bly] s u1 := by
      subst u1
      split
      · exact Within.refl _ _
      · refine Within.step (State.modPort_within _ _ _) (by decide) ?_
        exact Within.refl _ _
    clear_value u1
    refine Within.step (State.freeBelay_within _ _) (by decide) ?_
    assumption

theorem State.dropCleanOfSet_within (s : State) (key : Nat) :
    Within [.cache] s (State.dropCleanOfSet s key) := by
  unfold State.dropCleanOfSet
  refine Within.foldl (fun u a h => ?_) ?_
  · lift_lets -underBinder
    intro u1
    clear_value u1
    intro u2
    clear_value u2
    refine Within.step (State.setWay_within _ _ _) (by decide) ?_
    assumption
  · exact Within.refl _ _

theorem State.cacheError_within (s : State) (key line : Nat) (err : CacheErr) :
    Within [.hostLogs, .cache, .wlv, .log, .evt] s (State.cacheError s key line err) := by
  unfold State.cacheError
  lift_lets -underBinder
  intro u1
  clear_value u1
  intro u2
  clear_value u2
  split
  · exact Within.refl _ _
  · split
    · exact Within.refl _ _
    · split
      · refine Within.step (State.fire_within _ _ _ _) (by decide) ?_
        refine Within.step (State.modSlice_within _ _ _) (by decide) ?_
        exact Within.refl _ _
      · lift_lets -underBinder
        intro u3
        clear_value u3
        intro u4
        have h4 : Within [.hostLogs, .cache, .wlv, .log, .evt] s u4 := by
          subst u4
          refine Within.step (State.modSlice_within _ _ _) (by decide) ?_
          exact Within.refl _ _
        clear_value u4
        intro u5
        have h5 : Within [.hostLogs, .cache, .wlv, .log, .evt] s u5 := by
          subst u5
          split
          · refine Within.step (State.dropCleanOfSet_within _ _) (by decide) ?_
            assumption
          · refine Within.step (State.setWay_within _ _ _) (by decide) ?_
            assumption
          · lift_lets -underBinder
            intro u6
            clear_value u6
            refine Within.step (State.poisonAdd_within _ _ _ _) (by decide) ?_
            refine Within.step (State.mirrorWay_within _ _) (by decide) ?_
            refine Within.step (State.setWay_within _ _ _) (by decide) ?_
            assumption
          · assumption
        clear_value u5
        refine Within.step (State.fire_within _ _ _ _) (by decide) ?_
        assumption

theorem State.modRead_within (s : State) (id : Nat) (f : ReadOp → ReadOp) :
    Within [.stp] s (State.modRead s id f) := by
  unfold State.modRead
  refine (Within.set_stp (by decide)).mpr ?_
  exact Within.refl _ _

theorem State.newRead_within (s : State) (cls : ReadClass) (lsn : Nat) (belays : List Nat) (way victim :
    Option Nat) :
    Within [.stp] s (State.newRead s cls lsn belays way victim) := by
  unfold State.newRead
  lift_lets -underBinder
  intro u1
  clear_value u1
  intro u2
  clear_value u2
  intro u3
  clear_value u3
  refine (Within.set_stp (by decide)).mpr ?_
  exact Within.refl _ _

theorem State.snapshot_within (s : State) (i line : Nat) (lines : Four LineState) (data : Four Line) (mask :
    Four Mask) :
    Within [.bly] s (State.snapshot s i line lines data mask) := by
  unfold State.snapshot
  refine Within.step (State.modBelay_within _ _ _) (by decide) ?_
  exact Within.refl _ _

theorem State.readMiss_within (s : State) (i lsn : Nat) (way : Option Nat) :
    Within [.port0, .port1, .hostLogs, .bly, .cache, .stp, .hly, .log, .evt, .pmu] s (State.readMiss s i lsn
        way) := by
  unfold State.readMiss
  lift_lets -underBinder
  intro u1
  have h1 : Within [.port0, .port1, .hostLogs, .bly, .cache, .stp, .hly, .log, .evt, .pmu] s u1 := by
    subst u1
    refine Within.step (State.occ_within _ _ _) (by decide) ?_
    exact Within.refl _ _
  clear_value u1
  intro u2
  clear_value u2
  intro u3
  have h3 : Within [.port0, .port1, .hostLogs, .bly, .cache, .stp, .hly, .log, .evt, .pmu] s u3 := by
    subst u3
    refine Within.step (State.modPort_within _ _ _) (by decide) ?_
    assumption
  clear_value u3
  intro u4
  have h4 : Within [.port0, .port1, .hostLogs, .bly, .cache, .stp, .hly, .log, .evt, .pmu] s u4 := by
    subst u4
    refine Within.step (State.modBelay_within _ _ _) (by decide) ?_
    assumption
  clear_value u4
  split
  · lift_lets -underBinder
    intro u5
    clear_value u5
    intro u6
    have h6 : Within [.port0, .port1, .hostLogs, .bly, .cache, .stp, .hly, .log, .evt, .pmu] s u6 := by
      subst u6
      split
      · split
        · refine Within.step (State.setWay_within _ _ _) (by decide) ?_
          assumption
        · assumption
      · assumption
    clear_value u6
    refine Within.step (State.modRead_within _ _ _) (by decide) ?_
    assumption
  · split
    · refine Within.step (State.toRespond_within _ _ _ _) (by decide) ?_
      assumption
    · lift_lets -underBinder
      intro u7
      have h7 : Within [.port0, .port1, .hostLogs, .bly, .cache, .stp, .hly, .log, .evt, .pmu] s u7 := by
        subst u7
        split
        · refine Within.step (State.setWay_within _ _ _) (by decide) ?_
          assumption
        · assumption
      clear_value u7
      refine Within.step (State.newRead_within _ _ _ _ _ _) (by decide) ?_
      assumption

theorem State.readVictim_within (s : State) (i lsn line k : Nat) (v : Victim) :
    Within [.port0, .port1, .hostLogs, .bly, .cache, .vbf, .stp, .hly, .log, .evt, .pmu] s (State.readVictim
        s i lsn line k v) := by
  unfold State.readVictim
  split
  · exact Within.refl _ _
  · split
    · refine Within.step (State.toRespond_within _ _ _ _) (by decide) ?_
      refine Within.step (State.occ_within _ _ _) (by decide) ?_
      exact Within.refl _ _
    · split
      · refine Within.step (State.readMiss_within _ _ _ _) (by decide) ?_
        exact Within.refl _ _
      · split
        · lift_lets -underBinder
          intro u1
          have h1 : Within [.port0, .port1, .hostLogs, .bly, .cache, .vbf, .stp, .hly, .log, .evt,   .pmu] s
              u1 := by
            subst u1
            refine Within.step (State.cancelEviction_within _ _) (by decide) ?_
            exact Within.refl _ _
          clear_value u1
          split
          split
          · refine Within.step (Within.of_fst (State.allocWrite_within _ _ _) (by assumption)) (by decide)
              ?_
            assumption
          · lift_lets -underBinder
            intro u2
            have h2 : Within [.port0, .port1, .hostLogs, .bly, .cache, .vbf, .stp, .hly, .log, .evt,   .pmu]
                s u2 := by
              subst u2
              refine Within.step (State.freeVictim_within _ _) (by decide) ?_
              refine Within.step (State.recallInto_within _ _ _ _) (by decide) ?_
              refine Within.step (Within.of_fst (State.allocWrite_within _ _ _) (by assumption)) (by decide)
                  ?_
              assumption
            clear_value u2
            intro u3
            clear_value u3
            split
            · refine Within.step (State.toRespond_within _ _ _ _) (by decide) ?_
              refine Within.step (State.occ_within _ _ _) (by decide) ?_
              assumption
            · refine Within.step (State.readMiss_within _ _ _ _) (by decide) ?_
              refine Within.step (State.snapshot_within _ _ _ _ _ _) (by decide) ?_
              assumption
        · split
          · refine Within.step (State.toRespond_within _ _ _ _) (by decide) ?_
            refine Within.step (State.occ_within _ _ _) (by decide) ?_
            exact Within.refl _ _
          · refine Within.step (State.readMiss_within _ _ _ _) (by decide) ?_
            refine Within.step (State.snapshot_within _ _ _ _ _ _) (by decide) ?_
            exact Within.refl _ _

theorem State.startRead_within (s : State) (i : Nat) :
    Within [.port0, .port1, .hostLogs, .bly, .cache, .vbf, .stp, .wlv, .hly, .log, .evt, .pmu] s
        (State.startRead s i) := by
  unfold State.startRead
  split
  · exact Within.refl _ _
  · lift_lets -underBinder
    intro u1
    clear_value u1
    intro u2
    clear_value u2
    intro u3
    clear_value u3
    intro u4
    have h4 : Within [.port0, .port1, .hostLogs, .bly, .cache, .vbf, .stp, .wlv, .hly, .log,   .evt, .pmu] s
        u4 := by
      subst u4
      refine Within.step (State.modBelay_within _ _ _) (by decide) ?_
      exact Within.refl _ _
    clear_value u4
    intro u5
    have h5 : Within [.port0, .port1, .hostLogs, .bly, .cache, .vbf, .stp, .wlv, .hly, .log,   .evt, .pmu] s
        u5 := by
      subst u5
      refine Within.step (State.touchTagSram_within _ _) (by decide) ?_
      assumption
    clear_value u5
    intro u6
    have h6 : Within [.port0, .port1, .hostLogs, .bly, .cache, .vbf, .stp, .wlv, .hly, .log,   .evt, .pmu] s
        u6 := by
      subst u6
      split
      · split
        · refine Within.step (State.modBelay_within _ _ _) (by decide) ?_
          refine Within.step (State.cacheError_within _ _ _ _) (by decide) ?_
          assumption
        · assumption
      · assumption
    clear_value u6
    split
    · refine Within.step (State.modBelay_within _ _ _) (by decide) ?_
      exact Within.refl _ _
    · split
      · split
        · refine Within.step (State.readVictim_within _ _ _ _ _ _) (by decide) ?_
          assumption
        · refine Within.step (State.readMiss_within _ _ _ _) (by decide) ?_
          assumption
      · split
        · lift_lets -underBinder
          intro u7
          clear_value u7
          intro u8
          clear_value u8
          intro u9
          clear_value u9
          intro u10
          have h10 : Within [.port0, .port1, .hostLogs, .bly, .cache, .vbf, .stp, .wlv, .hly, .log,   .evt,
              .pmu] s u10 := by
            subst u10
            refine Within.step (State.occ_within _ _ _) (by decide) ?_
            refine Within.step (State.touchWay_within _ _) (by decide) ?_
            assumption
          clear_value u10
          split
          · split
            · refine Within.step (State.toRespond_within _ _ _ _) (by decide) ?_
              refine Within.step (State.modBelay_within _ _ _) (by decide) ?_
              assumption
            · refine Within.step (State.readMiss_within _ _ _ _) (by decide) ?_
              refine Within.step (State.snapshot_within _ _ _ _ _ _) (by decide) ?_
              assumption
          · split
            · refine Within.step (State.toRespond_within _ _ _ _) (by decide) ?_
              refine Within.step (State.modBelay_within _ _ _) (by decide) ?_
              assumption
            · refine Within.step (State.readMiss_within _ _ _ _) (by decide) ?_
              refine Within.step (State.snapshot_within _ _ _ _ _ _) (by decide) ?_
              assumption
        · split
          · refine Within.step (State.readVictim_within _ _ _ _ _ _) (by decide) ?_
            assumption
          · lift_lets -underBinder
            intro u11
            clear_value u11
            split
            · refine Within.step (State.readMiss_within _ _ _ _) (by decide) ?_
              assumption
            · split
              refine Within.step (State.readMiss_within _ _ _ _) (by decide) ?_
              refine Within.step (Within.of_fst (State.allocFill_within _ _) (by assumption)) (by decide) ?_
              assumption

theorem State.releaseWaiters_within (s : State) (dpa : Nat) :
    Within [.port0, .port1, .hostLogs, .bly, .cache, .vbf, .stp, .wlv, .hly, .log, .evt, .pmu] s
        (State.releaseWaiters s dpa) := by
  unfold State.releaseWaiters
  lift_lets -underBinder
  intro u1
  clear_value u1
  refine Within.foldl (fun u a h => ?_) ?_
  · refine Within.step (State.startRead_within _ _) (by decide) ?_
    assumption
  · exact Within.refl _ _

theorem State.completeWrite_within (s : State) (i : Nat) :
    Within [.glb, .level, .port0, .port1, .hostLogs, .bly, .cache, .vbf, .stp, .wlv, .hly, .log, .evt, .pmu]
        s (State.completeWrite s i) := by
  unfold State.completeWrite
  split
  · exact Within.refl _ _
  · lift_lets -underBinder
    intro u1
    have h1 : Within [.glb, .level, .port0, .port1, .hostLogs, .bly, .cache, .vbf, .stp, .wlv,   .hly, .log,
        .evt, .pmu] s u1 := by
      subst u1
      refine Within.step (State.occ_within _ _ _) (by decide) ?_
      refine Within.step (State.returnReservation_within _ _) (by decide) ?_
      exact Within.refl _ _
    clear_value u1
    intro u2
    have h2 : Within [.glb, .level, .port0, .port1, .hostLogs, .bly, .cache, .vbf, .stp, .wlv,   .hly, .log,
        .evt, .pmu] s u2 := by
      subst u2
      refine Within.step (State.modBelay_within _ _ _) (by decide) ?_
      assumption
    clear_value u2
    refine Within.step (State.releaseWaiters_within _ _) (by decide) ?_
    refine Within.step (State.toRespond_within _ _ _ _) (by decide) ?_
    assumption

theorem State.poisonOfWrite_within (s : State) (b : Belay) :
    Within [.hostLogs, .wlv, .log, .evt] s (State.poisonOfWrite s b) := by
  unfold State.poisonOfWrite
  lift_lets -underBinder
  intro u1
  clear_value u1
  intro u2
  clear_value u2
  intro u3
  clear_value u3
  split
  · refine Within.step (State.fire_within _ _ _ _) (by decide) ?_
    refine Within.step (State.poisonAdd_within _ _ _ _) (by decide) ?_
    exact Within.refl _ _
  · split
    · refine Within.step (State.poisonClear_within _ _ _) (by decide) ?_
      exact Within.refl _ _
    · exact Within.refl _ _

theorem State.landWrite_within (s : State) (i key : Nat) (fresh : Bool) (b : Belay) :
    Within [.glb, .level, .port0, .port1, .hostLogs, .bly, .cache, .vbf, .stp, .wlv, .hly, .log, .evt, .pmu]
        s (State.landWrite s i key fresh b) := by
  unfold State.landWrite
  lift_lets -underBinder
  intro u1
  clear_value u1
  intro u2
  clear_value u2
  intro u3
  clear_value u3
  intro u4
  have h4 : Within [.glb, .level, .port0, .port1, .hostLogs, .bly, .cache, .vbf, .stp, .wlv,   .hly, .log,
      .evt, .pmu] s u4 := by
    subst u4
    refine Within.step (State.touchWay_within _ _) (by decide) ?_
    refine Within.step (State.mirrorWay_within _ _) (by decide) ?_
    refine Within.step (State.setWay_within _ _ _) (by decide) ?_
    exact Within.refl _ _
  clear_value u4
  refine Within.step (State.completeWrite_within _ _) (by decide) ?_
  refine Within.step (State.poisonOfWrite_within _ _) (by decide) ?_
  assumption

theorem State.formWriteThrough_within (s : State) (i : Nat) :
    Within [.stp] s (State.formWriteThrough s i) := by
  unfold State.formWriteThrough
  split
  · exact Within.refl _ _
  · lift_lets -underBinder
    intro u1
    clear_value u1
    intro u2
    clear_value u2
    intro u3
    clear_value u3
    intro u4
    clear_value u4
    intro u5
    clear_value u5
    intro u6
    clear_value u6
    intro u7
    clear_value u7
    intro u8
    have h8 : Within [.stp] s u8 := by
      subst u8
      refine (Within.set_stp (by decide)).mpr ?_
      exact Within.refl _ _
    clear_value u8
    split
    · exact Within.refl _ _
    · refine Within.step (State.queuePrograms_within _ _ _ _) (by decide) ?_
      assumption

theorem State.retryWriters_within (s : State) :
    Within [.stp] s (State.retryWriters s) := by
  unfold State.retryWriters
  lift_lets -underBinder
  intro u1
  clear_value u1
  refine Within.foldl (fun u a h => ?_) ?_
  · refine Within.step (State.formWriteThrough_within _ _) (by decide) ?_
    assumption
  · exact Within.refl _ _

theorem State.writeThrough_within (s : State) (i lsn : Nat) :
    Within [.bly, .cache, .vbf, .stp] s (State.writeThrough s i lsn) := by
  unfold State.writeThrough
  lift_lets -underBinder
  intro u1
  have h1 : Within [.bly, .cache, .vbf, .stp] s u1 := by
    subst u1
    split
    · split
      · lift_lets -underBinder
        intro u2
        have h2 : Within [.bly, .cache, .vbf, .stp] s u2 := by
          subst u2
          refine Within.step (State.cancelEviction_within _ _) (by decide) ?_
          exact Within.refl _ _
        clear_value u2
        split
        · split
          split
          · refine Within.step (State.freeVictim_within _ _) (by decide) ?_
            refine Within.step (State.recallInto_within _ _ _ _) (by decide) ?_
            refine Within.step (Within.of_fst (State.allocWrite_within _ _ _) (by assumption)) (by decide)
                ?_
            assumption
          · refine Within.step (Within.of_fst (State.allocWrite_within _ _ _) (by assumption)) (by decide)
              ?_
            assumption
        · assumption
      · exact Within.refl _ _
    · exact Within.refl _ _
  clear_value u1
  refine Within.step (State.formWriteThrough_within _ _) (by decide) ?_
  refine Within.step (State.modBelay_within _ _ _) (by decide) ?_
  assumption

theorem State.writeVictim_within (s : State) (i lsn k : Nat) (v : Victim) (b : Belay) :
    Within [.glb, .level, .port0, .port1, .hostLogs, .bly, .cache, .vbf, .stp, .wlv, .hly, .log, .evt, .pmu]
        s (State.writeVictim s i lsn k v b) := by
  unfold State.writeVictim
  split
  · exact Within.refl _ _
  · split
    · split
      split
      · refine Within.step (Within.of_fst (State.allocWrite_within _ _ _) (by assumption)) (by decide) ?_
        exact Within.refl _ _
      · refine Within.step (State.landWrite_within _ _ _ _ _) (by decide) ?_
        refine Within.step (State.recallInto_within _ _ _ _) (by decide) ?_
        refine Within.step (Within.of_fst (State.allocWrite_within _ _ _) (by assumption)) (by decide) ?_
        exact Within.refl _ _
    · split
      · refine Within.step (State.modRead_within _ _ _) (by decide) ?_
        exact Within.refl _ _
      · lift_lets -underBinder
        intro u1
        have h1 : Within [.glb, .level, .port0, .port1, .hostLogs, .bly, .cache, .vbf, .stp, .wlv,   .hly,
            .log, .evt, .pmu] s u1 := by
          subst u1
          refine Within.step (State.cancelEviction_within _ _) (by decide) ?_
          exact Within.refl _ _
        clear_value u1
        split
        split
        · refine Within.step (Within.of_fst (State.allocWrite_within _ _ _) (by assumption)) (by decide) ?_
          assumption
        · refine Within.step (State.landWrite_within _ _ _ _ _) (by decide) ?_
          refine Within.step (State.freeVictim_within _ _) (by decide) ?_
          refine Within.step (State.recallInto_within _ _ _ _) (by decide) ?_
          refine Within.step (Within.of_fst (State.allocWrite_within _ _ _) (by assumption)) (by decide) ?_
          assumption

theorem State.startWrite_within (s : State) (i : Nat) :
    Within [.glb, .level, .port0, .port1, .hostLogs, .bly, .cache, .vbf, .stp, .wlv, .hly, .log, .evt, .pmu]
        s (State.startWrite s i) := by
  unfold State.startWrite
  split
  · exact Within.refl _ _
  · lift_lets -underBinder
    intro u1
    clear_value u1
    intro u2
    clear_value u2
    intro u3
    have h3 : Within [.glb, .level, .port0, .port1, .hostLogs, .bly, .cache, .vbf, .stp, .wlv,   .hly, .log,
        .evt, .pmu] s u3 := by
      subst u3
      refine Within.step (State.touchTagSram_within _ _) (by decide) ?_
      exact Within.refl _ _
    clear_value u3
    split
    · refine Within.step (State.completeWrite_within _ _) (by decide) ?_
      exact Within.refl _ _
    · split
      · refine Within.step (State.writeThrough_within _ _ _) (by decide) ?_
        exact Within.refl _ _
      · split
        · refine Within.step (State.landWrite_within _ _ _ _ _) (by decide) ?_
          assumption
        · split
          · refine Within.step (State.writeVictim_within _ _ _ _ _ _) (by decide) ?_
            assumption
          · split
            split
            · refine Within.step (Within.of_fst (State.allocWrite_within _ _ _) (by assumption)) (by decide)
                ?_
              assumption
            · refine Within.step (State.landWrite_within _ _ _ _ _) (by decide) ?_
              refine Within.step (State.setWay_within _ _ _) (by decide) ?_
              refine Within.step (Within.of_fst (State.allocWrite_within _ _ _) (by assumption)) (by decide)
                  ?_
              assumption

theorem State.startPrefetch_within (s : State) (i : Nat) :
    Within [.port0, .port1, .hostLogs, .bly, .stp] s (State.startPrefetch s i) := by
  unfold State.startPrefetch
  split
  · exact Within.refl _ _
  · lift_lets -underBinder
    intro u1
    clear_value u1
    intro u2
    clear_value u2
    intro u3
    have h3 : Within [.port0, .port1, .hostLogs, .bly, .stp] s u3 := by
      subst u3
      refine Within.step (State.modPort_within _ _ _) (by decide) ?_
      exact Within.refl _ _
    clear_value u3
    split
    · refine Within.step (State.retirePrefetch_within _ _) (by decide) ?_
      exact Within.refl _ _
    · refine Within.step (State.newRead_within _ _ _ _ _ _) (by decide) ?_
      assumption

theorem State.restart_within (s : State) (i : Nat) :
    Within [.glb, .level, .port0, .port1, .hostLogs, .bly, .cache, .vbf, .stp, .wlv, .hly, .log, .evt, .pmu]
        s (State.restart s i) := by
  unfold State.restart
  split
  · exact Within.refl _ _
  · split
    · split
      · refine Within.step (State.startRead_within _ _) (by decide) ?_
        exact Within.refl _ _
      · refine Within.step (State.startWrite_within _ _) (by decide) ?_
        exact Within.refl _ _
    · exact Within.refl _ _

theorem State.retryLookups_within (s : State) :
    Within [.glb, .level, .port0, .port1, .hostLogs, .bly, .cache, .vbf, .stp, .wlv, .hly, .log, .evt, .pmu]
        s (State.retryLookups s) := by
  unfold State.retryLookups
  refine Within.foldl (fun u a h => ?_) ?_
  · refine Within.step (State.restart_within _ _) (by decide) ?_
    assumption
  · exact Within.refl _ _

theorem State.answer_within (s : State) (p : Port) (isData rwd : Bool) :
    Within [.port0, .port1, .hostLogs] s (State.answer s p isData rwd) := by
  unfold State.answer
  lift_lets -underBinder
  intro u1
  clear_value u1
  refine Within.step (State.modPort_within _ _ _) (by decide) ?_
  exact Within.refl _ _

theorem State.discardWrite_within (s : State) (p : Port) (dpa cause : Nat) :
    Within [.hostLogs, .log, .evt] s (State.discardWrite s p dpa cause) := by
  unfold State.discardWrite
  refine Within.step (State.fire_within _ _ _ _) (by decide) ?_
  exact Within.refl _ _

theorem State.portAnswer_within (s : State) (p : Port) (r : PortReq) :
    Within [.port0, .port1, .hostLogs, .kce, .log, .evt, .pmu] s (State.portAnswer s p r) := by
  unfold State.portAnswer
  lift_lets -underBinder
  intro u1
  clear_value u1
  intro u2
  clear_value u2
  intro u3
  have h3 : Within [.port0, .port1, .hostLogs, .kce, .log, .evt, .pmu] s u3 := by
    subst u3
    refine Within.step (State.answer_within _ _ _ _) (by decide) ?_
    exact Within.refl _ _
  clear_value u3
  intro u4
  have h4 : Within [.port0, .port1, .hostLogs, .kce, .log, .evt, .pmu] s u4 := by
    subst u4
    refine Within.step (State.modPort_within _ _ _) (by decide) ?_
    assumption
  clear_value u4
  split
  · refine Within.step (State.modPort_within _ _ _) (by decide) ?_
    refine Within.step (State.occ_within _ _ _) (by decide) ?_
    exact Within.refl _ _
  · split
    · refine Within.step (State.fire_within _ _ _ _) (by decide) ?_
      assumption
    · split
      · split
        · refine Within.step (State.discardWrite_within _ _ _ _) (by decide) ?_
          assumption
        · assumption
      · split
        · split
          · refine Within.step (State.discardWrite_within _ _ _ _) (by decide) ?_
            assumption
          · assumption
        · split
          · refine Within.step (State.fireSub_within _ _ _ _ _) (by decide) ?_
            refine (Within.set_kce (by decide)).mpr ?_
            assumption
          · assumption

theorem State.accept_within (s : State) (p : Port) (r : PortReq) (k : Nat) :
    Within [.glb, .level, .port0, .port1, .hostLogs, .bly, .cache, .vbf, .stp, .wlv, .hly, .log, .evt, .pmu]
        s (State.accept s p r k) := by
  unfold State.accept
  lift_lets -underBinder
  intro u1
  clear_value u1
  intro u2
  clear_value u2
  intro u3
  clear_value u3
  intro u4
  clear_value u4
  intro u5
  clear_value u5
  intro u6
  have h6 : Within [.glb, .level, .port0, .port1, .hostLogs, .bly, .cache, .vbf, .stp, .wlv,   .hly, .log,
      .evt, .pmu] s u6 := by
    subst u6
    refine (Within.set_bly (by decide)).mpr ?_
    exact Within.refl _ _
  clear_value u6
  intro u7
  clear_value u7
  intro u8
  clear_value u8
  intro u9
  have h9 : Within [.glb, .level, .port0, .port1, .hostLogs, .bly, .cache, .vbf, .stp, .wlv,   .hly, .log,
      .evt, .pmu] s u9 := by
    subst u9
    split
    · refine (Within.set_glb_vbf (by decide) (by decide) (by decide)).mpr ?_
      assumption
    · assumption
  clear_value u9
  intro u10
  have h10 : Within [.glb, .level, .port0, .port1, .hostLogs, .bly, .cache, .vbf, .stp, .wlv,   .hly, .log,
      .evt, .pmu] s u10 := by
    subst u10
    refine Within.step (State.occ_within _ _ _) (by decide) ?_
    assumption
  clear_value u10
  intro u11
  have h11 : Within [.glb, .level, .port0, .port1, .hostLogs, .bly, .cache, .vbf, .stp, .wlv,   .hly, .log,
      .evt, .pmu] s u11 := by
    subst u11
    refine Within.step (State.modPort_within _ _ _) (by decide) ?_
    assumption
  clear_value u11
  split
  · refine Within.step (State.startRead_within _ _) (by decide) ?_
    assumption
  · refine Within.step (State.startPrefetch_within _ _) (by decide) ?_
    assumption
  · refine Within.step (State.startWrite_within _ _) (by decide) ?_
    assumption

theorem State.present_within (s : State) (p : Port) (r : PortReq) :
    Within [.glb, .level, .port0, .port1, .hostLogs, .bly, .cache, .vbf, .stp, .wlv, .kce, .hly, .log, .evt,
        .pmu] s (State.present s p r).1 := by
  unfold State.present
  split
  · dsimp only
    refine Within.step (State.portAnswer_within _ _ _) (by decide) ?_
    exact Within.refl _ _
  · split
    · dsimp only
      refine Within.step (State.modPort_within _ _ _) (by decide) ?_
      refine Within.step (State.occ_within _ _ _) (by decide) ?_
      exact Within.refl _ _
    · split
      · dsimp only
        exact Within.refl _ _
      · split
        · dsimp only
          refine Within.step (State.accept_within _ _ _ _) (by decide) ?_
          exact Within.refl _ _
        · dsimp only
          exact Within.refl _ _

theorem State.pumpReq_within (s : State) (p : Port) (k : Nat) :
    Within [.glb, .level, .port0, .port1, .hostLogs, .bly, .cache, .vbf, .stp, .wlv, .kce, .hly, .log, .evt,
        .pmu] s (State.pumpReq s p k) := by
  induction k generalizing s with
  | zero => exact Within.refl _ _
  | succ k ih =>
    unfold State.pumpReq
    split
    · exact Within.refl _ _
    · split
      split
      · refine Within.step (ih _) (by decide) ?_
        refine Within.step (State.modPort_within _ _ _) (by decide) ?_
        refine Within.step (Within.of_fst (State.present_within _ _ _) (by assumption)) (by decide) ?_
        exact Within.refl _ _
      · exact Within.refl _ _

theorem State.pumpRwd_within (s : State) (p : Port) (k : Nat) :
    Within [.glb, .level, .port0, .port1, .hostLogs, .bly, .cache, .vbf, .stp, .wlv, .kce, .hly, .log, .evt,
        .pmu] s (State.pumpRwd s p k) := by
  induction k generalizing s with
  | zero => exact Within.refl _ _
  | succ k ih =>
    unfold State.pumpRwd
    split
    · exact Within.refl _ _
    · split
      split
      · refine Within.step (ih _) (by decide) ?_
        refine Within.step (State.modPort_within _ _ _) (by decide) ?_
        refine Within.step (Within.of_fst (State.present_within _ _ _) (by assumption)) (by decide) ?_
        exact Within.refl _ _
      · exact Within.refl _ _

theorem State.pump_within (s : State) (p : Port) :
    Within [.glb, .level, .port0, .port1, .hostLogs, .bly, .cache, .vbf, .stp, .wlv, .kce, .hly, .log, .evt,
        .pmu] s (State.pump s p) := by
  unfold State.pump
  split
  · exact Within.refl _ _
  · lift_lets -underBinder
    intro u1
    have h1 : Within [.glb, .level, .port0, .port1, .hostLogs, .bly, .cache, .vbf, .stp, .wlv,   .kce, .hly,
        .log, .evt, .pmu] s u1 := by
      subst u1
      refine Within.step (State.pumpReq_within _ _ _) (by decide) ?_
      exact Within.refl _ _
    clear_value u1
    refine Within.step (State.pumpRwd_within _ _ _) (by decide) ?_
    assumption

theorem State.pumpAll_within (s : State) :
    Within [.glb, .level, .port0, .port1, .hostLogs, .bly, .cache, .vbf, .stp, .wlv, .kce, .hly, .log, .evt,
        .pmu] s (State.pumpAll s) := by
  unfold State.pumpAll
  refine Within.step (State.pump_within _ _) (by decide) ?_
  refine Within.step (State.pump_within _ _) (by decide) ?_
  exact Within.refl _ _

theorem State.answerReads_within (s : State) (belays : List Nat) (plain : Four Line) (poison : BitVec 4) :
    Within [.port0, .port1, .hostLogs, .bly, .hly, .log, .evt, .pmu] s (State.answerReads s belays plain
        poison) := by
  unfold State.answerReads
  refine Within.foldl (fun u a h => ?_) ?_
  · split
    · assumption
    · split
      · refine Within.step (State.retirePrefetch_within _ _) (by decide) ?_
        assumption
      · split
        · lift_lets -underBinder
          intro u1
          clear_value u1
          refine Within.step (State.toRespond_within _ _ _ _) (by decide) ?_
          assumption
        · assumption
  · exact Within.refl _ _

theorem State.mirrorIfDirty_within (s : State) (key : Nat) :
    Within [.cache] s (State.mirrorIfDirty s key) := by
  unfold State.mirrorIfDirty
  split
  · refine Within.step (State.mirrorWay_within _ _) (by decide) ?_
    exact Within.refl _ _
  · exact Within.refl _ _

theorem State.fillWay_within (s : State) (way : Option Nat) (plain : Four Line) (poison : BitVec 4) :
    Within [.cache] s (State.fillWay s way plain poison) := by
  unfold State.fillWay
  split
  · exact Within.refl _ _
  · lift_lets -underBinder
    intro u1
    clear_value u1
    refine Within.step (State.mirrorIfDirty_within _ _) (by decide) ?_
    refine Within.step (State.touchWay_within _ _) (by decide) ?_
    refine Within.step (State.setWay_within _ _ _) (by decide) ?_
    exact Within.refl _ _

theorem State.finishRead_within (s : State) (id : Nat) (c : Stored) :
    Within [.port0, .port1, .hostLogs, .bly, .cache, .stp, .hly, .log, .evt, .pmu] s (State.finishRead s id
        c) := by
  unfold State.finishRead
  split
  · exact Within.refl _ _
  · lift_lets -underBinder
    intro u1
    clear_value u1
    intro u2
    clear_value u2
    intro u3
    have h3 : Within [.port0, .port1, .hostLogs, .bly, .cache, .stp, .hly, .log, .evt, .pmu] s u3 := by
      subst u3
      refine Within.step (State.answerReads_within _ _ _ _) (by decide) ?_
      exact Within.refl _ _
    clear_value u3
    intro u4
    have h4 : Within [.port0, .port1, .hostLogs, .bly, .cache, .stp, .hly, .log, .evt, .pmu] s u4 := by
      subst u4
      refine Within.step (State.fillWay_within _ _ _ _) (by decide) ?_
      assumption
    clear_value u4
    intro u5
    have h5 : Within [.port0, .port1, .hostLogs, .bly, .cache, .stp, .hly, .log, .evt, .pmu] s u5 := by
      subst u5
      split
      · refine Within.step (State.occ_within _ _ _) (by decide) ?_
        assumption
      · assumption
    clear_value u5
    intro u6
    clear_value u6
    refine (Within.set_stp (by decide)).mpr ?_
    assumption

theorem State.failRead_within (s : State) (id : Nat) :
    Within [.hostLogs, .bly, .cache, .stp, .hly, .log, .evt, .pmu] s (State.failRead s id) := by
  unfold State.failRead
  split
  · exact Within.refl _ _
  · lift_lets -underBinder
    intro u1
    have h1 : Within [.hostLogs, .bly, .cache, .stp, .hly, .log, .evt, .pmu] s u1 := by
      subst u1
      refine Within.foldl (fun u a h => ?_) ?_
      · refine Within.step (State.toRespond_within _ _ _ _) (by decide) ?_
        refine Within.step (State.modBelay_within _ _ _) (by decide) ?_
        assumption
      · exact Within.refl _ _
    clear_value u1
    intro u2
    have h2 : Within [.hostLogs, .bly, .cache, .stp, .hly, .log, .evt, .pmu] s u2 := by
      subst u2
      split
      · refine Within.step (State.setWay_within _ _ _) (by decide) ?_
        assumption
      · assumption
    clear_value u2
    intro u3
    clear_value u3
    refine (Within.set_stp (by decide)).mpr ?_
    assumption

theorem State.enterLevel_within (s : State) (l : Level) : Within [.level] s (s.enterLevel l) :=
  ⟨fun q hq => by cases q <;> first | exact rfl | exact absurd (by decide) hq⟩

theorem State.settleLevel_within (s : State) :
    Within [.level, .hostLogs, .log, .evt] s (State.settleLevel s) := by
  unfold State.settleLevel
  lift_lets -underBinder
  intro u1
  clear_value u1
  intro u2
  clear_value u2
  intro u3
  clear_value u3
  split
  · exact Within.refl _ _
  · refine Within.step (State.fire_within _ _ _ _) (by decide) ?_
    refine Within.step (State.enterLevel_within _ _) (by decide) ?_
    exact Within.refl _ _

theorem State.settleBudget_within (s : State) :
    Within [.glb, .level, .hostLogs, .log, .evt] s (State.settleBudget s) := by
  unfold State.settleBudget
  lift_lets -underBinder
  intro u1
  clear_value u1
  intro u2
  clear_value u2
  intro u3
  clear_value u3
  intro u4
  have h4 : Within [.glb, .level, .hostLogs, .log, .evt] s u4 := by
    subst u4
    refine (Within.set_glb (by decide) (by decide)).mpr ?_
    exact Within.refl _ _
  clear_value u4
  intro u5
  clear_value u5
  split
  · refine Within.step (State.fire_within _ _ _ _) (by decide) ?_
    assumption
  · assumption

theorem State.noteAdmit_within (s : State) (p : Port) :
    Within [.port0, .port1, .hostLogs, .log, .evt] s (State.noteAdmit s p) := by
  unfold State.noteAdmit
  lift_lets -underBinder
  intro u1
  clear_value u1
  intro u2
  clear_value u2
  split
  · exact Within.refl _ _
  · refine Within.step (State.fire_within _ _ _ _) (by decide) ?_
    refine Within.step (State.modPort_within _ _ _) (by decide) ?_
    exact Within.refl _ _

theorem State.noteWear_within (s : State) (was : Nat) :
    Within [.hostLogs, .log, .evt] s (State.noteWear s was) := by
  unfold State.noteWear
  lift_lets -underBinder
  intro u1
  clear_value u1
  split
  · refine Within.step (State.fire_within _ _ _ _) (by decide) ?_
    exact Within.refl _ _
  · exact Within.refl _ _

theorem State.storeFails_within (s : State) :
    Within [.hostLogs, .log, .sea, .evt] s (State.storeFails s) := by
  unfold State.storeFails
  refine Within.step (State.fire_within _ _ _ _) (by decide) ?_
  refine (Within.set_sea (by decide)).mpr ?_
  exact Within.refl _ _

theorem State.seaStore_within (s : State) (new : List (Nat × List Byte)) (verified : Bool) :
    Within [.hostLogs, .log, .sea, .evt] s (State.seaStore s new verified).1 := by
  unfold State.seaStore
  split
  · lift_lets -underBinder
    intro u1
    clear_value u1
    intro u2
    clear_value u2
    dsimp only
    refine Within.step (State.noteWear_within _ _) (by decide) ?_
    refine (Within.set_sea (by decide)).mpr ?_
    exact Within.refl _ _
  · dsimp only
    refine Within.step (State.storeFails_within _) (by decide) ?_
    exact Within.refl _ _

theorem State.seaWithdraw_within (s : State) (id : Nat) :
    Within [.sea] s (State.seaWithdraw s id) := by
  unfold State.seaWithdraw
  refine (Within.set_sea (by decide)).mpr ?_
  exact Within.refl _ _

theorem State.refillCounters_within (s : State) :
    Within [.hostLogs, .log, .sea, .evt] s (State.refillCounters s) := by
  unfold State.refillCounters
  lift_lets -underBinder
  intro u1
  clear_value u1
  intro u2
  subst u2
  intro u3
  have h3 : Within [.hostLogs, .log, .sea, .evt] s u3 := by
    subst u3
    refine Within.step (State.seaStore_within _ _ _) (by decide) ?_
    exact Within.refl _ _
  clear_value u3
  intro u4
  clear_value u4
  split
  · refine Within.step (State.noteWear_within _ _) (by decide) ?_
    refine (Within.set_sea (by decide)).mpr ?_
    assumption
  · refine Within.step (State.seaStore_within _ _ _) (by decide) ?_
    exact Within.refl _ _

theorem State.counterInc_within (s : State) (c : Nat) (verified : Bool) :
    Within [.hostLogs, .log, .sea, .evt] s (State.counterInc s c verified).1 := by
  unfold State.counterInc
  split
  · dsimp only
    refine Within.step (State.fire_within _ _ _ _) (by decide) ?_
    exact Within.refl _ _
  · split
    · lift_lets -underBinder
      intro u1
      have h1 : Within [.hostLogs, .log, .sea, .evt] s u1 := by
        subst u1
        split
        · refine Within.step (State.refillCounters_within _) (by decide) ?_
          exact Within.refl _ _
        · exact Within.refl _ _
      clear_value u1
      intro u2
      clear_value u2
      intro u3
      clear_value u3
      dsimp only
      refine (Within.set_sea (by decide)).mpr ?_
      assumption
    · dsimp only
      refine Within.step (State.storeFails_within _) (by decide) ?_
      exact Within.refl _ _

theorem State.mbInterrupt_within (s : State) (m : Nat) :
    Within [.hostLogs, .hly] s (State.mbInterrupt s m) := by
  unfold State.mbInterrupt
  lift_lets -underBinder
  intro u1
  have h1 : Within [.hostLogs, .hly] s u1 := by
    subst u1
    refine Within.step (State.modMb_within _ _ _) (by decide) ?_
    exact Within.refl _ _
  clear_value u1
  split
  · refine Within.step (State.sendMsix_within _ _ _) (by decide) ?_
    assumption
  · assumption

theorem State.journalDrop_within (s : State) (m : Nat) (op : BitVec 16) :
    Within [.mst] s (State.journalDrop s m op) := by
  unfold State.journalDrop
  refine (Within.set_mst (by decide)).mpr ?_
  exact Within.refl _ _

theorem State.completeCode_within (s : State) (m : Nat) (keep : Bool) (rc v : BitVec 16) (out : Output) (len
    : Nat) :
    Within [.hostLogs, .mst, .hly] s (State.completeCode s m keep rc v out len) := by
  unfold State.completeCode
  lift_lets -underBinder
  intro u1
  clear_value u1
  intro u2
  have h2 : Within [.hostLogs, .mst, .hly] s u2 := by
    subst u2
    split
    · exact Within.refl _ _
    · refine Within.step (State.journalDrop_within _ _ _) (by decide) ?_
      exact Within.refl _ _
  clear_value u2
  refine Within.step (State.mbInterrupt_within _ _) (by decide) ?_
  refine Within.step (State.modMb_within _ _ _) (by decide) ?_
  assumption

theorem State.complete_within (s : State) (m : Nat) (rc : RetCode) (v : Vendor) (out : Output) (len : Nat) :
    Within [.hostLogs, .mst, .hly] s (State.complete s m rc v out len) := by
  unfold State.complete
  refine Within.step (State.completeCode_within _ _ _ _ _ _ _) (by decide) ?_
  exact Within.refl _ _

theorem State.succeed_within (s : State) (m : Nat) (out : Output) :
    Within [.hostLogs, .mst, .hly] s (State.succeed s m out) := by
  unfold State.succeed
  lift_lets -underBinder
  intro u1
  clear_value u1
  refine Within.step (State.complete_within _ _ _ _ _ _) (by decide) ?_
  exact Within.refl _ _

theorem State.refuse_within (s : State) (m : Nat) (v : Vendor) :
    Within [.hostLogs, .mst, .hly] s (State.refuse s m v) := by
  unfold State.refuse
  refine Within.step (State.complete_within _ _ _ _ _ _) (by decide) ?_
  exact Within.refl _ _

theorem State.refuseRc_within (s : State) (m : Nat) (rc : RetCode) :
    Within [.hostLogs, .mst, .hly] s (State.refuseRc s m rc) := by
  unfold State.refuseRc
  refine Within.step (State.complete_within _ _ _ _ _ _) (by decide) ?_
  exact Within.refl _ _

theorem State.startBg_within (s : State) (m : Nat) (abortable : Bool) (slot : Option Nat) :
    Within [.hostLogs, .mst, .hly] s (State.startBg s m abortable slot) := by
  unfold State.startBg
  lift_lets -underBinder
  intro u1
  clear_value u1
  intro u2
  have h2 : Within [.hostLogs, .mst, .hly] s u2 := by
    subst u2
    refine Within.step (State.complete_within _ _ _ _ _ _) (by decide) ?_
    exact Within.refl _ _
  clear_value u2
  refine Within.step (State.modMb_within _ _ _) (by decide) ?_
  assumption

theorem State.completeBgCode_within (s : State) (m : Nat) (rc v : BitVec 16) (out : Output) :
    Within [.hostLogs, .mst, .hly] s (State.completeBgCode s m rc v out) := by
  unfold State.completeBgCode
  split
  · lift_lets -underBinder
    intro u1
    have h1 : Within [.hostLogs, .mst, .hly] s u1 := by
      subst u1
      refine Within.step (State.journalDrop_within _ _ _) (by decide) ?_
      exact Within.refl _ _
    clear_value u1
    refine Within.step (State.mbInterrupt_within _ _) (by decide) ?_
    refine Within.step (State.modMb_within _ _ _) (by decide) ?_
    assumption
  · exact Within.refl _ _

theorem State.completeBg_within (s : State) (m : Nat) (rc : RetCode) (v : Vendor) (out : Output) :
    Within [.hostLogs, .mst, .hly] s (State.completeBg s m rc v out) := by
  unfold State.completeBg
  refine Within.step (State.completeBgCode_within _ _ _ _ _) (by decide) ?_
  exact Within.refl _ _

theorem State.bgProgress_within (s : State) (m percent : Nat) :
    Within [.hly] s (State.bgProgress s m percent) := by
  unfold State.bgProgress
  refine Within.step (State.modMb_within _ _ _) (by decide) ?_
  exact Within.refl _ _

theorem State.retireBg_within (s : State) (m : Nat) :
    Within [.mst, .hly] s (State.retireBg s m) := by
  unfold State.retireBg
  split
  · exact Within.refl _ _
  · lift_lets -underBinder
    intro u1
    have h1 : Within [.mst, .hly] s u1 := by
      subst u1
      refine Within.step (State.modMb_within _ _ _) (by decide) ?_
      exact Within.refl _ _
    clear_value u1
    intro u2
    clear_value u2
    refine (Within.set_mst (by decide)).mpr ?_
    assumption

theorem State.wayForWrite_within (s : State) (lsn : Nat) :
    Within [.cache, .vbf, .stp] s (State.wayForWrite s lsn).1 := by
  unfold State.wayForWrite
  split
  · dsimp only
    exact Within.refl _ _
  · split
    · split
      split
      · dsimp only
        refine Within.step (State.setWay_within _ _ _) (by decide) ?_
        refine Within.step (Within.of_fst (State.allocWrite_within _ _ _) (by assumption)) (by decide) ?_
        exact Within.refl _ _
      · dsimp only
        refine Within.step (Within.of_fst (State.allocWrite_within _ _ _) (by assumption)) (by decide) ?_
        exact Within.refl _ _
    · split
      · dsimp only
        exact Within.refl _ _
      · split
        · split
          split
          · dsimp only
            refine Within.step (State.recallInto_within _ _ _ _) (by decide) ?_
            refine Within.step (Within.of_fst (State.allocWrite_within _ _ _) (by assumption)) (by decide)
                ?_
            exact Within.refl _ _
          · dsimp only
            refine Within.step (Within.of_fst (State.allocWrite_within _ _ _) (by assumption)) (by decide)
                ?_
            exact Within.refl _ _
        · lift_lets -underBinder
          intro u1
          have h1 : Within [.cache, .vbf, .stp] s u1 := by
            subst u1
            refine Within.step (State.cancelEviction_within _ _) (by decide) ?_
            exact Within.refl _ _
          clear_value u1
          split
          split
          · dsimp only
            refine Within.step (State.freeVictim_within _ _) (by decide) ?_
            refine Within.step (State.recallInto_within _ _ _ _) (by decide) ?_
            refine Within.step (Within.of_fst (State.allocWrite_within _ _ _) (by assumption)) (by decide)
                ?_
            assumption
          · dsimp only
            refine Within.step (Within.of_fst (State.allocWrite_within _ _ _) (by assumption)) (by decide)
                ?_
            assumption

theorem State.storeLine_within (s : State) (dpa : Nat) (data : Line) (poison : Option PoisonState) :
    Within [.hostLogs, .cache, .vbf, .stp, .wlv, .media, .log, .evt] s (State.storeLine s dpa data poison)
        := by
  unfold State.storeLine
  lift_lets -underBinder
  intro u1
  clear_value u1
  intro u2
  clear_value u2
  intro u3
  clear_value u3
  intro u4
  clear_value u4
  intro u5
  subst u5
  intro u6
  have h6 : Within [.hostLogs, .cache, .vbf, .stp, .wlv, .media, .log, .evt] s u6 := by
    subst u6
    split
    · refine Within.step (State.wayForWrite_within _ _) (by decide) ?_
      exact Within.refl _ _
    · dsimp only
      exact Within.refl _ _
  clear_value u6
  intro u7
  have h7 : Within [.hostLogs, .cache, .vbf, .stp, .wlv, .media, .log, .evt] s u7 := by
    subst u7
    split
    · lift_lets -underBinder
      intro u8
      clear_value u8
      refine Within.step (State.touchWay_within _ _) (by decide) ?_
      refine Within.step (State.mirrorWay_within _ _) (by decide) ?_
      refine Within.step (State.setWay_within _ _ _) (by decide) ?_
      assumption
    · lift_lets -underBinder
      intro u9
      clear_value u9
      intro u10
      clear_value u10
      intro u11
      clear_value u11
      intro u12
      have h12 : Within [.hostLogs, .cache, .vbf, .stp, .wlv, .media, .log, .evt] s u12 := by
        subst u12
        refine Within.step (State.setCell_within _ _ _) (by decide) ?_
        assumption
      clear_value u12
      split
      · assumption
      · lift_lets -underBinder
        intro u13
        clear_value u13
        intro u14
        clear_value u14
        refine Within.step (State.settleSlotOpt_within _ _) (by decide) ?_
        refine Within.step (State.setWay_within _ _ _) (by decide) ?_
        assumption
  clear_value u7
  split
  · refine Within.step (State.poisonAdd_within _ _ _ _) (by decide) ?_
    assumption
  · refine Within.step (State.poisonClear_within _ _ _) (by decide) ?_
    assumption

theorem State.fillLines_within (s : State) (dpa : Nat) (data : Line) (k : Nat) :
    Within [.hostLogs, .cache, .vbf, .stp, .wlv, .media, .log, .evt] s (State.fillLines s dpa data k) := by
  induction k generalizing s dpa with
  | zero => exact Within.refl _ _
  | succ k ih =>
    unfold State.fillLines
    exact Within.step (ih _ _) (by decide)
      (Within.step (State.storeLine_within _ _ _ _) (by decide) (Within.refl _ _))

theorem State.grantLock_within (s : State) (o : LockOwner) :
    Within [.kce] s (State.grantLock s o) := by
  unfold State.grantLock
  refine (Within.set_kce (by decide)).mpr ?_
  exact Within.refl _ _

theorem State.dropLock_within (s : State) :
    Within [.kce] s (State.dropLock s) := by
  unfold State.dropLock
  lift_lets -underBinder
  intro u1
  clear_value u1
  refine (Within.set_kce (by decide)).mpr ?_
  exact Within.refl _ _

theorem State.keyRecord_within (s : State) (sev : Severity) (target index op : Nat) :
    Within [.log] s (State.keyRecord s sev target index op) := by
  unfold State.keyRecord
  refine Within.step (State.logPut_within _ _ _ _ _) (by decide) ?_
  exact Within.refl _ _

theorem State.kceKeyChanged_within (s : State) (r op : Nat) :
    Within [.log] s (State.kceKeyChanged s r op) := by
  unfold State.kceKeyChanged
  lift_lets -underBinder
  intro u1
  have h1 : Within [.log] s u1 := by
    subst u1
    refine Within.step (State.keyRecord_within _ _ _ _ _) (by decide) ?_
    exact Within.refl _ _
  clear_value u1
  split
  · refine (Within.set_log (by decide)).mpr ?_
    assumption
  · assumption

theorem State.kceLoad_within (s : State) (r : Nat) (key : BitVec 256) (t : State)
    (h : State.kceLoad s r key = some t) : Within [.kce, .log] s t := by
  unfold State.kceLoad at h
  split at h
  · cases h
  · cases h
    refine Within.step (State.kceKeyChanged_within _ _ _) (by decide) ?_
    exact (Within.set_kce (by decide)).mpr (Within.refl _ _)

theorem State.kceZeroize_within (s : State) (r : Nat) (t : State)
    (h : State.kceZeroize s r = some t) : Within [.kce, .log] s t := by
  unfold State.kceZeroize at h
  split at h
  · cases h
  · cases h
    refine Within.step (State.kceKeyChanged_within _ _ _) (by decide) ?_
    exact (Within.set_kce (by decide)).mpr (Within.refl _ _)

theorem State.startStream_within (s : State) (r len : Nat) (header : List Byte) :
    Within [.kce] s (State.startStream s r len header) := by
  unfold State.startStream
  refine (Within.set_kce (by decide)).mpr ?_
  exact Within.refl _ _

theorem State.feedLine_within (s : State) (l : Line) :
    Within [.kce] s (State.feedLine s l) := by
  unfold State.feedLine
  refine (Within.set_kce (by decide)).mpr ?_
  exact Within.refl _ _

theorem State.finishStream_within (s : State) :
    Within [.kce] s (State.finishStream s).1 := by
  unfold State.finishStream
  lift_lets -underBinder
  intro u1
  clear_value u1
  intro u2
  clear_value u2
  dsimp only
  refine (Within.set_kce (by decide)).mpr ?_
  exact Within.refl _ _

theorem State.sealFails_within (s : State) (v : Vendor) :
    Within [.hostLogs, .media, .kce, .mst, .hly, .log, .evt] s (State.sealFails s v) := by
  unfold State.sealFails
  split
  · exact Within.refl _ _
  · lift_lets -underBinder
    intro u1
    clear_value u1
    intro u2
    clear_value u2
    intro u3
    have h3 : Within [.hostLogs, .media, .kce, .mst, .hly, .log, .evt] s u3 := by
      subst u3
      refine (Within.set_media_kce (by decide) (by decide)).mpr ?_
      exact Within.refl _ _
    clear_value u3
    intro u4
    have h4 : Within [.hostLogs, .media, .kce, .mst, .hly, .log, .evt] s u4 := by
      subst u4
      refine Within.step (State.dropLock_within _) (by decide) ?_
      assumption
    clear_value u4
    intro u5
    have h5 : Within [.hostLogs, .media, .kce, .mst, .hly, .log, .evt] s u5 := by
      subst u5
      refine Within.step (State.completeBg_within _ _ _ _ _) (by decide) ?_
      assumption
    clear_value u5
    refine Within.step (State.fireOutcome_within _ _ _ _ _ _ _) (by decide) ?_
    assumption

theorem State.verifyFails_within (s : State) (v : Vendor) :
    Within [.hostLogs, .cache, .vbf, .stp, .wlv, .media, .kce, .mst, .hly, .log, .sea, .evt] s
        (State.verifyFails s v) := by
  unfold State.verifyFails
  split
  · exact Within.refl _ _
  · lift_lets -underBinder
    intro u1
    clear_value u1
    intro u2
    have h2 : Within [.hostLogs, .cache, .vbf, .stp, .wlv, .media, .kce, .mst, .hly, .log, .sea,   .evt] s
        u2 := by
      subst u2
      split
      · refine Within.step (State.fillLines_within _ _ _ _) (by decide) ?_
        exact Within.refl _ _
      · exact Within.refl _ _
    clear_value u2
    intro u3
    clear_value u3
    intro u4
    have h4 : Within [.hostLogs, .cache, .vbf, .stp, .wlv, .media, .kce, .mst, .hly, .log, .sea,   .evt] s
        u4 := by
      subst u4
      refine (Within.set_kce (by decide)).mpr ?_
      assumption
    clear_value u4
    intro u5
    have h5 : Within [.hostLogs, .cache, .vbf, .stp, .wlv, .media, .kce, .mst, .hly, .log, .sea,   .evt] s
        u5 := by
      subst u5
      refine Within.step (State.seaWithdraw_within _ _) (by decide) ?_
      refine Within.step (State.dropLock_within _) (by decide) ?_
      assumption
    clear_value u5
    intro u6
    have h6 : Within [.hostLogs, .cache, .vbf, .stp, .wlv, .media, .kce, .mst, .hly, .log, .sea,   .evt] s
        u6 := by
      subst u6
      refine Within.step (State.completeBg_within _ _ _ _ _) (by decide) ?_
      assumption
    clear_value u6
    refine Within.step (State.fireOutcome_within _ _ _ _ _ _ _) (by decide) ?_
    assumption

theorem State.streamFails_within (s : State) (v : Vendor) :
    Within [.hostLogs, .cache, .vbf, .stp, .wlv, .media, .kce, .mst, .hly, .log, .sea, .evt] s
        (State.streamFails s v) := by
  unfold State.streamFails
  refine Within.step (State.verifyFails_within _ _) (by decide) ?_
  refine Within.step (State.sealFails_within _ _) (by decide) ?_
  exact Within.refl _ _

theorem State.rollBack_within (s : State) :
    Within [.hostLogs, .mst, .log, .evt] s (State.rollBack s) := by
  unfold State.rollBack
  lift_lets -underBinder
  intro u1
  clear_value u1
  intro u2
  clear_value u2
  intro u3
  have h3 : Within [.hostLogs, .mst, .log, .evt] s u3 := by
    subst u3
    refine (Within.set_mst (by decide)).mpr ?_
    exact Within.refl _ _
  clear_value u3
  split
  · refine Within.step (State.fire_within _ _ _ _) (by decide) ?_
    assumption
  · assumption

theorem State.undoBg_within (s : State) (m : Nat) :
    Within [.hostLogs, .cache, .vbf, .stp, .wlv, .media, .kce, .mst, .hly, .seq, .log, .sea, .evt] s
        (State.undoBg s m) := by
  unfold State.undoBg
  lift_lets -underBinder
  intro u1
  clear_value u1
  intro u2
  have h2 : Within [.hostLogs, .cache, .vbf, .stp, .wlv, .media, .kce, .mst, .hly, .seq, .log,   .sea, .evt]
      s u2 := by
    subst u2
    refine Within.step (State.modMb_within _ _ _) (by decide) ?_
    exact Within.refl _ _
  clear_value u2
  split
  · refine Within.step (State.completeBg_within _ _ _ _ _) (by decide) ?_
    refine Within.step (State.rollBack_within _) (by decide) ?_
    assumption
  · refine Within.step (State.sealFails_within _ _) (by decide) ?_
    assumption
  · refine Within.step (State.verifyFails_within _ _) (by decide) ?_
    assumption
  · lift_lets -underBinder
    intro u3
    have h3 : Within [.hostLogs, .cache, .vbf, .stp, .wlv, .media, .kce, .mst, .hly, .seq, .log,   .sea,
        .evt] s u3 := by
      subst u3
      split
      · refine Within.step (State.modSlot_within _ _ _) (by decide) ?_
        assumption
      · assumption
    clear_value u3
    refine Within.step (State.completeBg_within _ _ _ _ _) (by decide) ?_
    assumption
  · refine Within.step (State.completeBg_within _ _ _ _ _) (by decide) ?_
    assumption

end Sys2Proof.Machine
end

