-- ==== Sys2Proof/Laws/FrameKeys.lean ====
section
/-! SUPPORT. Frames: which parts of the state each operation and each meaning may change (key slots, the seal engine, dumps, trim operations and the kept tables).
A later frame cites the frames of the operations it calls and unfolds none of them. -/

namespace Sys2Proof.Machine

open Sys2Proof

theorem State.kceCommand_within {W : List Part} (s : State) (op : BitVec 2) (r : Option State)
    (hw : Part.kce ∈ W) (hr : ∀ t, r = some t → Within W s t) :
    Within W s (State.kceCommand s op r) := by
  unfold State.kceCommand
  refine (Within.set_kce hw).mpr ?_
  split
  · exact hr _ rfl
  · exact (Within.set_kce hw).mpr (Within.refl _ _)

theorem State.notOwner_within (s : State) :
    Within [.kce] s (State.notOwner s) := by
  unfold State.notOwner
  refine (Within.set_kce (by decide)).mpr ?_
  exact Within.refl _ _

theorem State.kceKeyCmd_within (s : State) (path : Path) (op : BitVec 2) :
    Within [.kce, .log] s (State.kceKeyCmd s path op) := by
  unfold State.kceKeyCmd
  split
  · exact Within.step (State.notOwner_within _) (by decide) (Within.refl _ _)
  · refine State.kceCommand_within _ _ _ (by decide) ?_
    intro t ht
    split at ht
    · cases ht
    · split at ht
      · exact State.kceLoad_within _ _ _ _ ht
      · split at ht
        · exact State.kceZeroize_within _ _ _ ht
        · cases ht

theorem execKceKeyLoad_within (path : Path) (s : State) :
    WithinOut [.kce, .log] s (execKceKeyLoad path s) := by
  unfold execKceKeyLoad
  refine WithinOut.next ?_
  refine Within.step (State.kceKeyCmd_within _ _ _) (by decide) ?_
  exact Within.refl _ _

theorem execKceKeyZeroize_within (path : Path) (s : State) :
    WithinOut [.kce, .log] s (execKceKeyZeroize path s) := by
  unfold execKceKeyZeroize
  refine WithinOut.next ?_
  refine Within.step (State.kceKeyCmd_within _ _ _) (by decide) ?_
  exact Within.refl _ _

theorem execLockRequest_within (codes : List (Fin 8)) (s : State) :
    WithinOut [.kce] s (execLockRequest codes s) := by
  unfold execLockRequest
  lift_lets -underBinder
  intro u1
  clear_value u1
  refine WithinOut.next ?_
  split
  · exact Within.refl _ _
  · split
    · refine Within.step (State.grantLock_within _ _) (by decide) ?_
      exact Within.refl _ _
    · exact Within.refl _ _

theorem execLockRelease_within (code : Fin 8) (s : State) :
    WithinOut [.kce] s (execLockRelease code s) := by
  unfold execLockRelease
  refine WithinOut.next ?_
  split
  · refine Within.step (State.dropLock_within _) (by decide) ?_
    exact Within.refl _ _
  · exact Within.refl _ _

theorem execLockRevoke_within (s : State) :
    WithinOut [.hostLogs, .kce, .log, .evt] s (execLockRevoke s) := by
  unfold execLockRevoke
  refine WithinOut.next ?_
  split
  · refine Within.step (State.fire_within _ _ _ _) (by decide) ?_
    refine Within.step (State.dropLock_within _) (by decide) ?_
    exact Within.refl _ _
  · exact Within.refl _ _

theorem execMsgStart_within (path : Path) (s : State) :
    WithinOut [.kce] s (execMsgStart path s) := by
  unfold execMsgStart
  refine WithinOut.next ?_
  split
  · refine Within.step (State.notOwner_within _) (by decide) ?_
    exact Within.refl _ _
  · split
    · exact Within.refl _ _
    · lift_lets -underBinder
      intro u1
      clear_value u1
      intro u2
      clear_value u2
      split
      · refine (Within.set_kce (by decide)).mpr ?_
        exact Within.refl _ _
      · refine (Within.set_kce (by decide)).mpr ?_
        exact Within.refl _ _

theorem execDataInWrite_within (path : Path) (data : Word) (s : State) :
    WithinOut [.kce] s (execDataInWrite path data s) := by
  unfold execDataInWrite
  refine WithinOut.next ?_
  split
  · refine Within.step (State.notOwner_within _) (by decide) ?_
    exact Within.refl _ _
  · split
    · exact Within.refl _ _
    · split
      · refine (Within.set_kce (by decide)).mpr ?_
        exact Within.refl _ _
      · refine (Within.set_kce (by decide)).mpr ?_
        exact Within.refl _ _

theorem execMsgFinish_within (path : Path) (s : State) :
    WithinOut [.kce] s (execMsgFinish path s) := by
  unfold execMsgFinish
  refine WithinOut.next ?_
  split
  · refine Within.step (State.notOwner_within _) (by decide) ?_
    exact Within.refl _ _
  · split
    · exact Within.refl _ _
    · split
      · refine (Within.set_kce (by decide)).mpr ?_
        exact Within.refl _ _
      · refine (Within.set_kce (by decide)).mpr ?_
        exact Within.refl _ _

theorem execDrbgReseed_within (coreG : Bool) (ok : Bool) (s : State) :
    WithinOut [.kce] s (execDrbgReseed coreG ok s) := by
  unfold execDrbgReseed
  lift_lets -underBinder
  intro u1
  clear_value u1
  intro u2
  clear_value u2
  refine WithinOut.next ?_
  refine (Within.set_kce (by decide)).mpr ?_
  exact Within.refl _ _

theorem execEntropyStallTimeout_within (s : State) :
    WithinOut [.hostLogs, .cache, .vbf, .stp, .wlv, .media, .kce, .mst, .hly, .log, .sea, .evt] s
        (execEntropyStallTimeout s) := by
  unfold execEntropyStallTimeout
  refine WithinOut.next ?_
  split
  · lift_lets -underBinder
    intro u1
    have h1 : Within [.hostLogs, .cache, .vbf, .stp, .wlv, .media, .kce, .mst, .hly, .log, .sea,   .evt] s
        u1 := by
      subst u1
      refine Within.step (State.fire_within _ _ _ _) (by decide) ?_
      exact Within.refl _ _
    clear_value u1
    intro u2
    have h2 : Within [.hostLogs, .cache, .vbf, .stp, .wlv, .media, .kce, .mst, .hly, .log, .sea,   .evt] s
        u2 := by
      subst u2
      refine (Within.set_kce (by decide)).mpr ?_
      assumption
    clear_value u2
    refine Within.step (State.streamFails_within _ _) (by decide) ?_
    assumption
  · exact Within.refl _ _

theorem State.failCoreG_within (s : State) :
    Within [.hostLogs, .cache, .vbf, .stp, .wlv, .media, .kce, .mst, .hly, .log, .sea, .evt] s
        (State.failCoreG s) := by
  unfold State.failCoreG
  lift_lets -underBinder
  intro u1
  clear_value u1
  intro u2
  have h2 : Within [.hostLogs, .cache, .vbf, .stp, .wlv, .media, .kce, .mst, .hly, .log, .sea,   .evt] s u2
      := by
    subst u2
    refine Within.step (State.fire_within _ _ _ _) (by decide) ?_
    refine (Within.set_kce (by decide)).mpr ?_
    exact Within.refl _ _
  clear_value u2
  intro u3
  have h3 : Within [.hostLogs, .cache, .vbf, .stp, .wlv, .media, .kce, .mst, .hly, .log, .sea,   .evt] s u3
      := by
    subst u3
    split
    · refine (Within.set_kce (by decide)).mpr ?_
      assumption
    · assumption
  clear_value u3
  refine Within.step (State.streamFails_within _ _) (by decide) ?_
  assumption

theorem execKceSelfTest_within (coreG : Bool) (pass : Bool) (s : State) :
    WithinOut [.hostLogs, .cache, .vbf, .stp, .wlv, .media, .kce, .mst, .hly, .log, .sea, .evt] s
        (execKceSelfTest coreG pass s) := by
  unfold execKceSelfTest
  refine WithinOut.next ?_
  split
  · exact Within.refl _ _
  · split
    · refine Within.step (State.failCoreG_within _) (by decide) ?_
      exact Within.refl _ _
    · refine Within.step (State.fire_within _ _ _ _) (by decide) ?_
      refine (Within.set_kce (by decide)).mpr ?_
      exact Within.refl _ _

theorem execSealDrainDone_within (stored : Bool) (s : State) :
    WithinOut [.hostLogs, .media, .kce, .mst, .hly, .log, .sea, .evt] s (execSealDrainDone stored s) := by
  unfold execSealDrainDone
  refine WithinOut.next ?_
  split
  · exact Within.refl _ _
  · split
    · exact Within.refl _ _
    · split
      split
      · refine Within.step (State.sealFails_within _ _) (by decide) ?_
        refine Within.step (Within.of_fst (State.counterInc_within _ _ _) (by assumption)) (by decide) ?_
        exact Within.refl _ _
      · lift_lets -underBinder
        intro u1
        clear_value u1
        intro u2
        clear_value u2
        intro u3
        clear_value u3
        intro u4
        have h4 : Within [.hostLogs, .media, .kce, .mst, .hly, .log, .sea, .evt] s u4 := by
          subst u4
          refine (Within.set_kce (by decide)).mpr ?_
          refine Within.step (Within.of_fst (State.counterInc_within _ _ _) (by assumption)) (by decide) ?_
          exact Within.refl _ _
        clear_value u4
        refine Within.step (State.startStream_within _ _ _ _) (by decide) ?_
        assumption

theorem execSealLineFeed_within (s : State) :
    WithinOut [.hostLogs, .media, .kce, .mst, .hly, .log, .evt] s (execSealLineFeed s) := by
  unfold execSealLineFeed
  refine WithinOut.next ?_
  split
  · exact Within.refl _ _
  · split
    · exact Within.refl _ _
    · split
      · exact Within.refl _ _
      · refine Within.step (State.sealFails_within _ _) (by decide) ?_
        exact Within.refl _ _
      · lift_lets -underBinder
        intro u1
        clear_value u1
        intro u2
        have h2 : Within [.hostLogs, .media, .kce, .mst, .hly, .log, .evt] s u2 := by
          subst u2
          refine Within.step (State.feedLine_within _ _) (by decide) ?_
          exact Within.refl _ _
        clear_value u2
        intro u3
        have h3 : Within [.hostLogs, .media, .kce, .mst, .hly, .log, .evt] s u3 := by
          subst u3
          refine Within.step (State.bgProgress_within _ _ _) (by decide) ?_
          assumption
        clear_value u3
        intro u4
        clear_value u4
        split
        · split
          refine (Within.set_kce (by decide)).mpr ?_
          refine Within.step (Within.of_fst (State.finishStream_within _) (by assumption)) (by decide) ?_
          assumption
        · refine (Within.set_kce (by decide)).mpr ?_
          assumption

theorem execSealRegistryConfirmed_within (stored : Bool) (s : State) :
    WithinOut [.hostLogs, .media, .kce, .mst, .hly, .log, .sea, .evt] s (execSealRegistryConfirmed stored s)
        := by
  unfold execSealRegistryConfirmed
  refine WithinOut.next ?_
  split
  · exact Within.refl _ _
  · split
    · exact Within.refl _ _
    · lift_lets -underBinder
      intro u1
      clear_value u1
      intro u2
      clear_value u2
      intro u3
      clear_value u3
      intro u4
      have h4 : Within [.hostLogs, .media, .kce, .mst, .hly, .log, .sea, .evt] s u4 := by
        subst u4
        refine (Within.set_media_kce (by decide) (by decide)).mpr ?_
        exact Within.refl _ _
      clear_value u4
      intro u5
      have h5 : Within [.hostLogs, .media, .kce, .mst, .hly, .log, .sea, .evt] s u5 := by
        subst u5
        refine Within.step (State.logPut_within _ _ _ _ _) (by decide) ?_
        assumption
      clear_value u5
      intro u6
      clear_value u6
      intro u7
      clear_value u7
      intro u8
      clear_value u8
      intro u9
      have h9 : Within [.hostLogs, .media, .kce, .mst, .hly, .log, .sea, .evt] s u9 := by
        subst u9
        refine (Within.set_kce_sea (by decide) (by decide)).mpr ?_
        assumption
      clear_value u9
      intro u10
      have h10 : Within [.hostLogs, .media, .kce, .mst, .hly, .log, .sea, .evt] s u10 := by
        subst u10
        refine Within.step (State.dropLock_within _) (by decide) ?_
        refine Within.step (State.retireBg_within _ _) (by decide) ?_
        assumption
      clear_value u10
      split
      · refine Within.step (State.sealFails_within _ _) (by decide) ?_
        refine Within.step (State.storeFails_within _) (by decide) ?_
        assumption
      · refine Within.step (State.completeBg_within _ _ _ _ _) (by decide) ?_
        assumption

theorem execVerifyLineFeed_within (s : State) :
    WithinOut [.hostLogs, .cache, .vbf, .stp, .wlv, .media, .kce, .mst, .hly, .log, .sea, .evt] s
        (execVerifyLineFeed s) := by
  unfold execVerifyLineFeed
  refine WithinOut.next ?_
  split
  · split
    · exact Within.refl _ _
    · split
      · exact Within.refl _ _
      · refine Within.step (State.verifyFails_within _ _) (by decide) ?_
        exact Within.refl _ _
      · lift_lets -underBinder
        intro u1
        clear_value u1
        intro u2
        have h2 : Within [.hostLogs, .cache, .vbf, .stp, .wlv, .media, .kce, .mst, .hly, .log, .sea,   .evt]
            s u2 := by
          subst u2
          refine Within.step (State.feedLine_within _ _) (by decide) ?_
          exact Within.refl _ _
        clear_value u2
        intro u3
        have h3 : Within [.hostLogs, .cache, .vbf, .stp, .wlv, .media, .kce, .mst, .hly, .log, .sea,   .evt]
            s u3 := by
          subst u3
          split
          · refine Within.step (State.storeLine_within _ _ _ _) (by decide) ?_
            assumption
          · assumption
        clear_value u3
        intro u4
        clear_value u4
        intro u5
        have h5 : Within [.hostLogs, .cache, .vbf, .stp, .wlv, .media, .kce, .mst, .hly, .log, .sea,   .evt]
            s u5 := by
          subst u5
          refine Within.step (State.bgProgress_within _ _ _) (by decide) ?_
          assumption
        clear_value u5
        intro u6
        clear_value u6
        intro u7
        clear_value u7
        split
        · split
          refine (Within.set_kce (by decide)).mpr ?_
          refine Within.step (Within.of_fst (State.finishStream_within _) (by assumption)) (by decide) ?_
          assumption
        · refine (Within.set_kce (by decide)).mpr ?_
          assumption
  · exact Within.refl _ _

theorem execVerifyRetire_within (s : State) :
    WithinOut [.hostLogs, .cache, .vbf, .stp, .wlv, .media, .kce, .mst, .hly, .log, .sea, .evt] s
        (execVerifyRetire s) := by
  unfold execVerifyRetire
  refine WithinOut.next ?_
  split
  · split
    · exact Within.refl _ _
    · lift_lets -underBinder
      intro u1
      have h1 : Within [.hostLogs, .cache, .vbf, .stp, .wlv, .media, .kce, .mst, .hly, .log, .sea,   .evt] s
          u1 := by
        subst u1
        refine Within.step (State.retireBg_within _ _) (by decide) ?_
        exact Within.refl _ _
      clear_value u1
      intro u2
      clear_value u2
      intro u3
      have h3 : Within [.hostLogs, .cache, .vbf, .stp, .wlv, .media, .kce, .mst, .hly, .log, .sea,   .evt] s
          u3 := by
        subst u3
        refine (Within.set_kce (by decide)).mpr ?_
        assumption
      clear_value u3
      intro u4
      have h4 : Within [.hostLogs, .cache, .vbf, .stp, .wlv, .media, .kce, .mst, .hly, .log, .sea,   .evt] s
          u4 := by
        subst u4
        refine Within.step (State.seaWithdraw_within _ _) (by decide) ?_
        refine Within.step (State.dropLock_within _) (by decide) ?_
        assumption
      clear_value u4
      intro u5
      clear_value u5
      intro u6
      have h6 : Within [.hostLogs, .cache, .vbf, .stp, .wlv, .media, .kce, .mst, .hly, .log, .sea,   .evt] s
          u6 := by
        subst u6
        refine Within.step (State.completeBg_within _ _ _ _ _) (by decide) ?_
        assumption
      clear_value u6
      split
      · refine Within.step (State.fireOutcome_within _ _ _ _ _ _ _) (by decide) ?_
        assumption
      · refine Within.step (State.verifyFails_within _ _) (by decide) ?_
        assumption
  · exact Within.refl _ _

theorem State.shrLoad_within (s : State) (slot : Nat) (key : BitVec 512) (t : State)
    (h : State.shrLoad s slot key = some t) : Within [.shr, .log] s t := by
  unfold State.shrLoad at h
  split at h
  · cases h
  · cases h
    refine Within.step (State.keyRecord_within _ _ _ _ _) (by decide) ?_
    exact Within.step (State.modKeySlot_within _ _ _) (by decide) (Within.refl _ _)

theorem State.shrZeroize_within (s : State) (slot : Nat) (t : State)
    (h : State.shrZeroize s slot = some t) : Within [.shr, .log] s t := by
  unfold State.shrZeroize at h
  split at h
  · cases h
  · cases h
    refine Within.step (State.keyRecord_within _ _ _ _ _) (by decide) ?_
    exact Within.step (State.modKeySlot_within _ _ _) (by decide) (Within.refl _ _)

theorem State.saveKeyMap_within (s : State) :
    Within [.media] s (State.saveKeyMap s) := by
  unfold State.saveKeyMap
  refine (Within.set_media (by decide)).mpr ?_
  exact Within.refl _ _

theorem State.settleKeySlot_within (s : State) (slot : Nat) :
    Within [.shr] s (State.settleKeySlot s slot) := by
  unfold State.settleKeySlot
  refine Within.step (State.modKeySlot_within _ _ _) (by decide) ?_
  exact Within.refl _ _

theorem State.checkpointSweep_within (s : State) :
    Within [.media] s (State.checkpointSweep s) := by
  unfold State.checkpointSweep
  split
  · exact Within.refl _ _
  · refine (Within.set_media (by decide)).mpr ?_
    exact Within.refl _ _

theorem State.rekeyBegin_within (s : State) (a b lo hi rate : Nat) :
    Within [.hostLogs, .media, .shr, .log, .evt] s (State.rekeyBegin s a b lo hi rate) := by
  unfold State.rekeyBegin
  lift_lets -underBinder
  intro u1
  have h1 : Within [.hostLogs, .media, .shr, .log, .evt] s u1 := by
    subst u1
    refine Within.step (State.modKeySlot_within _ _ _) (by decide) ?_
    exact Within.refl _ _
  clear_value u1
  intro u2
  have h2 : Within [.hostLogs, .media, .shr, .log, .evt] s u2 := by
    subst u2
    refine Within.step (State.modKeySlot_within _ _ _) (by decide) ?_
    assumption
  clear_value u2
  intro u3
  clear_value u3
  intro u4
  clear_value u4
  intro u5
  clear_value u5
  intro u6
  have h6 : Within [.hostLogs, .media, .shr, .log, .evt] s u6 := by
    subst u6
    refine (Within.set_media_shr (by decide) (by decide)).mpr ?_
    assumption
  clear_value u6
  refine Within.step (State.fire_within _ _ _ _) (by decide) ?_
  assumption

theorem State.rekeyFinish_within (s : State) (hi : Option Nat) :
    Within [.media, .shr, .sea] s (State.rekeyFinish s hi) := by
  unfold State.rekeyFinish
  lift_lets -underBinder
  intro u1
  clear_value u1
  intro u2
  have h2 : Within [.media, .shr, .sea] s u2 := by
    subst u2
    split
    · refine (Within.set_shr (by decide)).mpr ?_
      exact Within.refl _ _
    · exact Within.refl _ _
  clear_value u2
  intro u3
  have h3 : Within [.media, .shr, .sea] s u3 := by
    subst u3
    refine Within.step (State.seaWithdraw_within _ _) (by decide) ?_
    refine Within.step (State.saveKeyMap_within _) (by decide) ?_
    assumption
  clear_value u3
  intro u4
  clear_value u4
  intro u5
  have h5 : Within [.media, .shr, .sea] s u5 := by
    subst u5
    refine (Within.set_shr (by decide)).mpr ?_
    assumption
  clear_value u5
  refine Within.step (State.settleKeySlot_within _ _) (by decide) ?_
  refine Within.step (State.settleKeySlot_within _ _) (by decide) ?_
  assumption

theorem State.rekeyCutNow_within (s : State) :
    Within [.hostLogs, .media, .shr, .log, .sea, .evt] s (State.rekeyCutNow s) := by
  unfold State.rekeyCutNow
  refine Within.step (State.fire_within _ _ _ _) (by decide) ?_
  refine Within.step (State.rekeyFinish_within _ _) (by decide) ?_
  exact Within.refl _ _

theorem State.drainReads_within (s : State) :
    Within [.port0, .port1, .hostLogs, .bly, .cache, .stp, .hly, .log, .evt, .pmu] s (State.drainReads s) :=
        by
  unfold State.drainReads
  refine Within.foldl (fun u a h => ?_) ?_
  · refine Within.step (State.finishRead_within _ _ _) (by decide) ?_
    assumption
  · exact Within.refl _ _

theorem State.emptyCache_within (s : State) :
    Within [.glb, .level, .bly, .cache, .vbf, .stp] s (State.emptyCache s) := by
  unfold State.emptyCache
  lift_lets -underBinder
  intro u1
  clear_value u1
  intro u2
  clear_value u2
  intro u3
  clear_value u3
  intro u4
  clear_value u4
  intro u5
  clear_value u5
  intro u6
  clear_value u6
  intro u7
  clear_value u7
  intro u8
  clear_value u8
  refine (Within.set_glb_bly_cache_vbf_stp (by decide) (by decide) (by decide) (by decide) (by decide) (by
      decide)).mpr ?_
  exact Within.refl _ _

theorem State.freshKeys_within (s : State) :
    Within [.draws, .shr] s (State.freshKeys s) := by
  unfold State.freshKeys
  refine Within.foldl (fun u a h => ?_) ?_
  · split
    · assumption
    · refine Within.step (State.drawn_within _) (by decide) ?_
      refine Within.step (State.modKeySlot_within _ _ _) (by decide) ?_
      assumption
  · exact Within.refl _ _

theorem State.formatKeys_within (s : State) :
    Within [.draws, .media, .shr] s (State.formatKeys s) := by
  unfold State.formatKeys
  lift_lets -underBinder
  intro u1
  clear_value u1
  intro u2
  have h2 : Within [.draws, .media, .shr] s u2 := by
    subst u2
    refine (Within.set_shr (by decide)).mpr ?_
    exact Within.refl _ _
  clear_value u2
  refine Within.step (State.saveKeyMap_within _) (by decide) ?_
  refine Within.step (State.drawn_within _) (by decide) ?_
  assumption

theorem State.erase_within (s : State) (fmt : Bool) :
    Within [.draws, .glb, .level, .port0, .port1, .hostLogs, .bly, .cache, .vbf, .stp, .wlv, .media, .shr,
        .kce, .hly, .log, .sea, .evt, .pmu] s (State.erase s fmt) := by
  unfold State.erase
  lift_lets -underBinder
  intro u1
  have h1 : Within [.draws, .glb, .level, .port0, .port1, .hostLogs, .bly, .cache, .vbf, .stp,   .wlv,
      .media, .shr, .kce, .hly, .log, .sea, .evt, .pmu] s u1 := by
    subst u1
    split
    · exact Within.refl _ _
    · refine Within.step (State.rekeyCutNow_within _) (by decide) ?_
      exact Within.refl _ _
  clear_value u1
  intro u2
  have h2 : Within [.draws, .glb, .level, .port0, .port1, .hostLogs, .bly, .cache, .vbf, .stp,   .wlv,
      .media, .shr, .kce, .hly, .log, .sea, .evt, .pmu] s u2 := by
    subst u2
    refine Within.step (State.emptyCache_within _) (by decide) ?_
    refine Within.step (State.drainReads_within _) (by decide) ?_
    assumption
  clear_value u2
  intro u3
  have h3 : Within [.draws, .glb, .level, .port0, .port1, .hostLogs, .bly, .cache, .vbf, .stp,   .wlv,
      .media, .shr, .kce, .hly, .log, .sea, .evt, .pmu] s u3 := by
    subst u3
    split
    · refine Within.step (State.formatKeys_within _) (by decide) ?_
      assumption
    · refine Within.step (State.freshKeys_within _) (by decide) ?_
      assumption
  clear_value u3
  intro u4
  have h4 : Within [.draws, .glb, .level, .port0, .port1, .hostLogs, .bly, .cache, .vbf, .stp,   .wlv,
      .media, .shr, .kce, .hly, .log, .sea, .evt, .pmu] s u4 := by
    subst u4
    refine Within.foldl (fun u a h => ?_) ?_
    · split
      · refine Within.step (State.seaWithdraw_within _ _) (by decide) ?_
        assumption
      · assumption
    · assumption
  clear_value u4
  intro u5
  have h5 : Within [.draws, .glb, .level, .port0, .port1, .hostLogs, .bly, .cache, .vbf, .stp,   .wlv,
      .media, .shr, .kce, .hly, .log, .sea, .evt, .pmu] s u5 := by
    subst u5
    refine Within.step (State.seaStore_within _ _ _) (by decide) ?_
    assumption
  clear_value u5
  refine Within.step (State.pumpAll_within _) (by decide) ?_
  refine Within.step (State.keyRecord_within _ _ _ _ _) (by decide) ?_
  assumption

theorem State.clearPoisonList_within (s : State) :
    Within [.stp, .wlv, .media] s (State.clearPoisonList s) := by
  unfold State.clearPoisonList
  refine (Within.set_stp_wlv_media (by decide) (by decide) (by decide)).mpr ?_
  exact Within.refl _ _

theorem State.zeroMedia_within (s : State) :
    Within [.media] s (State.zeroMedia s) := by
  unfold State.zeroMedia
  lift_lets -underBinder
  intro u1
  clear_value u1
  intro u2
  clear_value u2
  refine (Within.set_media (by decide)).mpr ?_
  exact Within.refl _ _

theorem State.endErase_within (s : State) (zero : Bool) :
    Within [.glb, .level, .media] s (State.endErase s zero) := by
  unfold State.endErase
  lift_lets -underBinder
  intro u1
  have h1 : Within [.glb, .level, .media] s u1 := by
    subst u1
    split
    · refine Within.step (State.zeroMedia_within _) (by decide) ?_
      exact Within.refl _ _
    · exact Within.refl _ _
  clear_value u1
  intro u2
  clear_value u2
  refine (Within.set_glb (by decide) (by decide)).mpr ?_
  assumption

theorem State.endFormat_within (s : State) :
    Within [.glb, .level, .port0, .port1, .hostLogs, .bly, .cache, .vbf, .stp, .wlv, .media, .kce, .hly,
        .log, .sea, .evt, .pmu] s (State.endFormat s) := by
  unfold State.endFormat
  lift_lets -underBinder
  intro u1
  have h1 : Within [.glb, .level, .port0, .port1, .hostLogs, .bly, .cache, .vbf, .stp, .wlv,   .media, .kce,
      .hly, .log, .sea, .evt, .pmu] s u1 := by
    subst u1
    refine Within.step (State.clearPoisonList_within _) (by decide) ?_
    refine Within.step (State.zeroMedia_within _) (by decide) ?_
    exact Within.refl _ _
  clear_value u1
  intro u2
  have h2 : Within [.glb, .level, .port0, .port1, .hostLogs, .bly, .cache, .vbf, .stp, .wlv,   .media, .kce,
      .hly, .log, .sea, .evt, .pmu] s u2 := by
    subst u2
    refine Within.step (State.seaStore_within _ _ _) (by decide) ?_
    assumption
  clear_value u2
  intro u3
  clear_value u3
  intro u4
  clear_value u4
  intro u5
  clear_value u5
  intro u6
  clear_value u6
  intro u7
  have h7 : Within [.glb, .level, .port0, .port1, .hostLogs, .bly, .cache, .vbf, .stp, .wlv,   .media, .kce,
      .hly, .log, .sea, .evt, .pmu] s u7 := by
    subst u7
    refine (Within.set_glb_media_kce_sea (by decide) (by decide) (by decide) (by decide) (by decide)).mpr ?_
    assumption
  clear_value u7
  refine Within.step (State.pumpAll_within _) (by decide) ?_
  refine Within.step (State.settleLevel_within _) (by decide) ?_
  refine Within.step (State.settleBudget_within _) (by decide) ?_
  assumption

theorem State.startMerge_within (s : State) (i : Nat) :
    Within [.hostLogs, .vbf, .stp, .mst, .hly] s (State.startMerge s i) := by
  unfold State.startMerge
  split
  · exact Within.refl _ _
  · split
    · exact Within.refl _ _
    · lift_lets -underBinder
      intro u1
      have h1 : Within [.hostLogs, .vbf, .stp, .mst, .hly] s u1 := by
        subst u1
        refine Within.step (State.modVictim_within _ _ _) (by decide) ?_
        exact Within.refl _ _
      clear_value u1
      refine Within.step (State.newRead_within _ _ _ _ _ _) (by decide) ?_
      assumption

theorem State.cancelMerges_within (s : State) :
    Within [.vbf, .stp] s (State.cancelMerges s) := by
  unfold State.cancelMerges
  lift_lets -underBinder
  intro u1
  clear_value u1
  intro u2
  clear_value u2
  intro u3
  clear_value u3
  refine (Within.set_vbf_stp (by decide) (by decide)).mpr ?_
  exact Within.refl _ _

theorem State.cancelUnsent_within (s : State) :
    Within [.stp] s (State.cancelUnsent s) := by
  unfold State.cancelUnsent
  refine (Within.set_stp (by decide)).mpr ?_
  exact Within.refl _ _

theorem State.reformSet_within (s : State) (id : Nat) :
    Within [.hostLogs, .vbf, .stp, .mst, .hly] s (State.reformSet s id) := by
  unfold State.reformSet
  split
  · exact Within.refl _ _
  · split
    · exact Within.refl _ _
    · lift_lets -underBinder
      intro u1
      clear_value u1
      intro u2
      have h2 : Within [.hostLogs, .vbf, .stp, .mst, .hly] s u2 := by
        subst u2
        refine (Within.set_stp (by decide)).mpr ?_
        exact Within.refl _ _
      clear_value u2
      intro u3
      have h3 : Within [.hostLogs, .vbf, .stp, .mst, .hly] s u3 := by
        subst u3
        refine Within.foldl (fun u a h => ?_) ?_
        · refine Within.step (State.startMerge_within _ _) (by decide) ?_
          refine Within.step (State.modVictim_within _ _ _) (by decide) ?_
          assumption
        · assumption
      clear_value u3
      refine Within.step (State.formPrograms_within _ _) (by decide) ?_
      assumption

theorem State.dumpStart_within (s : State) :
    Within [.glb, .level, .port0, .port1, .hostLogs, .bly, .cache, .vbf, .stp, .wlv, .hly, .seq, .log, .evt,
        .pmu] s (State.dumpStart s) := by
  unfold State.dumpStart
  split
  · exact Within.refl _ _
  · lift_lets -underBinder
    intro u1
    clear_value u1
    intro u2
    clear_value u2
    intro u3
    clear_value u3
    intro u4
    have h4 : Within [.glb, .level, .port0, .port1, .hostLogs, .bly, .cache, .vbf, .stp, .wlv,   .hly, .seq,
        .log, .evt, .pmu] s u4 := by
      subst u4
      refine (Within.set_glb_seq (by decide) (by decide) (by decide)).mpr ?_
      exact Within.refl _ _
    clear_value u4
    refine Within.step (State.retryLookups_within _) (by decide) ?_
    refine Within.step (State.cancelMerges_within _) (by decide) ?_
    refine Within.step (State.cancelUnsent_within _) (by decide) ?_
    assumption

theorem State.holdupAbort_within (s : State) :
    Within [.tel] s (State.holdupAbort s) := by
  unfold State.holdupAbort
  refine (Within.set_tel (by decide)).mpr ?_
  exact Within.refl _ _

theorem State.dumpStops_within (s : State) (pages : Nat) :
    Within [.media] s (State.dumpStops s pages) := by
  unfold State.dumpStops
  split
  · exact Within.refl _ _
  · lift_lets -underBinder
    intro u1
    clear_value u1
    intro u2
    clear_value u2
    refine (Within.set_media (by decide)).mpr ?_
    exact Within.refl _ _

theorem State.enterStrike_within (s : State) :
    Within [.glb, .level, .mch, .seq] s (State.enterStrike s) := by
  unfold State.enterStrike
  refine (Within.set_glb_seq (by decide) (by decide) (by decide)).mpr ?_
  exact Within.refl _ _

theorem State.afterDump_within (s : State) :
    Within [.glb, .level, .mch, .seq] s (State.afterDump s) := by
  unfold State.afterDump
  split
  · exact Within.refl _ _
  · split
    · refine (Within.set_seq (by decide)).mpr ?_
      exact Within.refl _ _
    · refine Within.step (State.enterStrike_within _) (by decide) ?_
      exact Within.refl _ _

theorem State.shutdown_within (s : State) (c : Cause) :
    Within [.glb, .level, .port0, .port1, .hostLogs, .bly, .cache, .vbf, .stp, .wlv, .mch, .hly, .seq, .tel,
        .log, .evt, .pmu] s (State.shutdown s c) := by
  unfold State.shutdown
  split
  · exact Within.refl _ _
  · lift_lets -underBinder
    intro u1
    have h1 : Within [.glb, .level, .port0, .port1, .hostLogs, .bly, .cache, .vbf, .stp, .wlv,   .mch, .hly,
        .seq, .tel, .log, .evt, .pmu] s u1 := by
      subst u1
      split
      · refine Within.step (State.holdupAbort_within _) (by decide) ?_
        exact Within.refl _ _
      · exact Within.refl _ _
    clear_value u1
    intro u2
    clear_value u2
    intro u3
    clear_value u3
    intro u4
    have h4 : Within [.glb, .level, .port0, .port1, .hostLogs, .bly, .cache, .vbf, .stp, .wlv,   .mch, .hly,
        .seq, .tel, .log, .evt, .pmu] s u4 := by
      subst u4
      refine (Within.set_seq (by decide)).mpr ?_
      assumption
    clear_value u4
    intro u5
    clear_value u5
    intro u6
    have h6 : Within [.glb, .level, .port0, .port1, .hostLogs, .bly, .cache, .vbf, .stp, .wlv,   .mch, .hly,
        .seq, .tel, .log, .evt, .pmu] s u6 := by
      subst u6
      refine (Within.set_seq (by decide)).mpr ?_
      assumption
    clear_value u6
    intro u7
    have h7 : Within [.glb, .level, .port0, .port1, .hostLogs, .bly, .cache, .vbf, .stp, .wlv,   .mch, .hly,
        .seq, .tel, .log, .evt, .pmu] s u7 := by
      subst u7
      refine Within.step (State.dumpStart_within _) (by decide) ?_
      assumption
    clear_value u7
    intro u8
    have h8 : Within [.glb, .level, .port0, .port1, .hostLogs, .bly, .cache, .vbf, .stp, .wlv,   .mch, .hly,
        .seq, .tel, .log, .evt, .pmu] s u8 := by
      subst u8
      refine Within.step (State.fire_within _ _ _ _) (by decide) ?_
      assumption
    clear_value u8
    split
    · refine Within.step (State.fire_within _ _ _ _) (by decide) ?_
      refine Within.step (State.enterStrike_within _) (by decide) ?_
      assumption
    · split
      · refine Within.step (State.afterDump_within _) (by decide) ?_
        assumption
      · assumption

theorem State.reopen_within (s : State) :
    Within [.glb, .level, .port0, .port1, .hostLogs, .bly, .cache, .vbf, .stp, .wlv, .kce, .mst, .hly, .log,
        .evt, .pmu] s (State.reopen s) := by
  unfold State.reopen
  lift_lets -underBinder
  intro u1
  clear_value u1
  intro u2
  have h2 : Within [.glb, .level, .port0, .port1, .hostLogs, .bly, .cache, .vbf, .stp, .wlv,   .kce, .mst,
      .hly, .log, .evt, .pmu] s u2 := by
    subst u2
    refine (Within.set_glb (by decide) (by decide)).mpr ?_
    exact Within.refl _ _
  clear_value u2
  refine Within.step (State.pumpAll_within _) (by decide) ?_
  refine Within.foldl (fun u a h => ?_) ?_
  · refine Within.step (State.reformSet_within _ _) (by decide) ?_
    assumption
  · assumption

theorem State.replan_within (s : State) :
    Within [.glb, .level, .port0, .port1, .hostLogs, .bly, .cache, .vbf, .stp, .wlv, .kce, .hly, .log, .evt,
        .pmu] s (State.replan s) := by
  unfold State.replan
  lift_lets -underBinder
  intro u1
  clear_value u1
  intro u2
  have h2 : Within [.glb, .level, .port0, .port1, .hostLogs, .bly, .cache, .vbf, .stp, .wlv,   .kce, .hly,
      .log, .evt, .pmu] s u2 := by
    subst u2
    refine (Within.set_glb (by decide) (by decide)).mpr ?_
    exact Within.refl _ _
  clear_value u2
  refine Within.step (State.pumpAll_within _) (by decide) ?_
  refine Within.step (State.settleLevel_within _) (by decide) ?_
  refine Within.step (State.settleBudget_within _) (by decide) ?_
  assumption

theorem State.bootStage_within (s : State) (n : Nat) :
    Within [.dty] s (State.bootStage s n) := by
  unfold State.bootStage
  refine (Within.set_dty (by decide)).mpr ?_
  exact Within.refl _ _

theorem State.activateMemory_within (s : State) :
    Within [.glb, .level, .port0, .port1, .hostLogs, .bly, .cache, .vbf, .stp, .wlv, .kce, .hly, .log, .dty,
        .evt, .pmu] s (State.activateMemory s) := by
  unfold State.activateMemory
  lift_lets -underBinder
  intro u1
  clear_value u1
  intro u2
  have h2 : Within [.glb, .level, .port0, .port1, .hostLogs, .bly, .cache, .vbf, .stp, .wlv,   .kce, .hly,
      .log, .dty, .evt, .pmu] s u2 := by
    subst u2
    refine (Within.set_glb (by decide) (by decide)).mpr ?_
    exact Within.refl _ _
  clear_value u2
  refine Within.step (State.pumpAll_within _) (by decide) ?_
  refine Within.step (State.settleLevel_within _) (by decide) ?_
  refine Within.step (State.bootStage_within _ _) (by decide) ?_
  assumption

theorem State.tryActivate_within (s : State) :
    Within [.glb, .level, .port0, .port1, .hostLogs, .bly, .cache, .vbf, .stp, .wlv, .kce, .hly, .log, .dty,
        .evt, .pmu] s (State.tryActivate s) := by
  unfold State.tryActivate
  split
  · refine Within.step (State.activateMemory_within _) (by decide) ?_
    exact Within.refl _ _
  · exact Within.refl _ _

theorem State.poisonSet_within (s : State) (lsn : Nat) (lines : BitVec 4) (st : PoisonState) :
    Within [.hostLogs, .wlv, .log, .evt] s (State.poisonSet s lsn lines st) := by
  unfold State.poisonSet
  split
  · refine Within.step (State.poisonAdd_within _ _ _ _) (by decide) ?_
    exact Within.refl _ _
  · lift_lets -underBinder
    intro u1
    clear_value u1
    intro u2
    clear_value u2
    refine (Within.set_wlv (by decide)).mpr ?_
    exact Within.refl _ _

theorem State.poisonRestore_within (s : State) (lsn : Nat) (lines : BitVec 4) :
    Within [.hostLogs, .wlv, .log, .evt] s (State.poisonRestore s lsn lines) := by
  unfold State.poisonRestore
  split
  · exact Within.refl _ _
  · split
    · refine Within.step (State.poisonAdd_within _ _ _ _) (by decide) ?_
      exact Within.refl _ _
    · refine Within.step (State.poisonAdd_within _ _ _ _) (by decide) ?_
      exact Within.refl _ _

theorem State.writeLost_within (s : State) (lsn : Nat) :
    Within [.hostLogs, .wlv, .media, .log, .evt] s (State.writeLost s lsn) := by
  unfold State.writeLost
  lift_lets -underBinder
  intro u1
  have h1 : Within [.hostLogs, .wlv, .media, .log, .evt] s u1 := by
    subst u1
    refine Within.step (State.poisonSet_within _ _ _ _) (by decide) ?_
    refine Within.step (State.setCell_within _ _ _) (by decide) ?_
    exact Within.refl _ _
  clear_value u1
  intro u2
  clear_value u2
  refine Within.step (State.fire_within _ _ _ _) (by decide) ?_
  assumption

theorem State.warnRecord_within (s : State) (unit value : Nat) :
    Within [.draws, .log] s (State.warnRecord s unit value) := by
  unfold State.warnRecord
  refine Within.step (State.drawn_within _) (by decide) ?_
  refine Within.step (State.logPut_within _ _ _ _ _) (by decide) ?_
  exact Within.refl _ _

theorem State.refreshEnergy_within (s : State) :
    Within [.glb, .level, .port0, .port1, .hostLogs, .bly, .cache, .vbf, .stp, .wlv, .kce, .hly, .tel, .log,
        .evt, .pmu] s (State.refreshEnergy s) := by
  unfold State.refreshEnergy
  split
  · exact Within.refl _ _
  · refine Within.step (State.replan_within _) (by decide) ?_
    refine (Within.set_tel (by decide)).mpr ?_
    exact Within.refl _ _

theorem State.history_within (s : State) (summary : Bool) :
    Within [.hostLogs, .tel, .log, .evt] s (State.history s summary) := by
  unfold State.history
  lift_lets -underBinder
  intro u1
  clear_value u1
  intro u2
  clear_value u2
  intro u3
  clear_value u3
  intro u4
  clear_value u4
  intro u5
  clear_value u5
  intro u6
  have h6 : Within [.hostLogs, .tel, .log, .evt] s u6 := by
    subst u6
    refine (Within.set_tel (by decide)).mpr ?_
    exact Within.refl _ _
  clear_value u6
  refine Within.step (State.fire_within _ _ _ _) (by decide) ?_
  assumption

theorem State.project_within (s : State) :
    Within [.hostLogs, .tel, .log, .evt] s (State.project s) := by
  unfold State.project
  split
  · exact Within.refl _ _
  · split
    · exact Within.refl _ _
    · refine Within.step (State.fire_within _ _ _ _) (by decide) ?_
      refine (Within.set_tel (by decide)).mpr ?_
      exact Within.refl _ _

theorem State.startMeasure_within (s : State) :
    Within [.tel] s (State.startMeasure s) := by
  unfold State.startMeasure
  refine (Within.set_tel (by decide)).mpr ?_
  exact Within.refl _ _

theorem State.computeMargins_within (s : State) :
    Within [.tel, .trm] s (State.computeMargins s) := by
  unfold State.computeMargins
  lift_lets -underBinder
  intro u1
  clear_value u1
  intro u2
  clear_value u2
  intro u3
  clear_value u3
  intro u4
  clear_value u4
  intro u5
  clear_value u5
  intro u6
  clear_value u6
  refine (Within.set_tel_trm (by decide) (by decide)).mpr ?_
  exact Within.refl _ _

theorem State.applyMargins_within (s : State) :
    Within [.stp, .reef, .tel, .trm] s (State.applyMargins s) := by
  unfold State.applyMargins
  lift_lets -underBinder
  intro u1
  clear_value u1
  intro u2
  subst u2
  intro u3
  clear_value u3
  intro u4
  clear_value u4
  intro u5
  clear_value u5
  refine (Within.set_stp_reef_tel_trm (by decide) (by decide) (by decide) (by decide)).mpr ?_
  exact Within.refl _ _

theorem State.computePlan_within (s : State) :
    Within [.glb, .level, .port0, .port1, .hostLogs, .bly, .cache, .vbf, .stp, .wlv, .kce, .hly, .reef,
        .tel, .trm, .log, .evt, .pmu] s (State.computePlan s) := by
  unfold State.computePlan
  lift_lets -underBinder
  intro u1
  have h1 : Within [.glb, .level, .port0, .port1, .hostLogs, .bly, .cache, .vbf, .stp, .wlv,   .kce, .hly,
      .reef, .tel, .trm, .log, .evt, .pmu] s u1 := by
    subst u1
    refine Within.step (State.computeMargins_within _) (by decide) ?_
    exact Within.refl _ _
  clear_value u1
  intro u2
  clear_value u2
  intro u3
  clear_value u3
  intro u4
  clear_value u4
  intro u5
  clear_value u5
  intro u6
  clear_value u6
  intro u7
  have h7 : Within [.glb, .level, .port0, .port1, .hostLogs, .bly, .cache, .vbf, .stp, .wlv,   .kce, .hly,
      .reef, .tel, .trm, .log, .evt, .pmu] s u7 := by
    subst u7
    refine (Within.set_trm (by decide)).mpr ?_
    assumption
  clear_value u7
  intro u8
  have h8 : Within [.glb, .level, .port0, .port1, .hostLogs, .bly, .cache, .vbf, .stp, .wlv,   .kce, .hly,
      .reef, .tel, .trm, .log, .evt, .pmu] s u8 := by
    subst u8
    refine Within.step (State.applyMargins_within _) (by decide) ?_
    assumption
  clear_value u8
  intro u9
  have h9 : Within [.glb, .level, .port0, .port1, .hostLogs, .bly, .cache, .vbf, .stp, .wlv,   .kce, .hly,
      .reef, .tel, .trm, .log, .evt, .pmu] s u9 := by
    subst u9
    split
    · assumption
    · refine Within.step (State.refreshEnergy_within _) (by decide) ?_
      assumption
  clear_value u9
  refine Within.step (State.replan_within _) (by decide) ?_
  assumption

theorem State.fenceEngine_within (s : State) (e : Nat) :
    Within [.level, .hostLogs, .bly, .shr, .log, .evt] s (State.fenceEngine s e) := by
  unfold State.fenceEngine
  split
  · exact Within.refl _ _
  · lift_lets -underBinder
    intro u1
    clear_value u1
    intro u2
    have h2 : Within [.level, .hostLogs, .bly, .shr, .log, .evt] s u2 := by
      subst u2
      refine Within.foldl (fun u a h => ?_) ?_
      · refine Within.step (State.modBelay_within _ _ _) (by decide) ?_
        assumption
      · exact Within.refl _ _
    clear_value u2
    intro u3
    clear_value u3
    intro u4
    have h4 : Within [.level, .hostLogs, .bly, .shr, .log, .evt] s u4 := by
      subst u4
      refine (Within.set_shr (by decide)).mpr ?_
      assumption
    clear_value u4
    refine Within.step (State.settleLevel_within _) (by decide) ?_
    refine Within.step (State.fire_within _ _ _ _) (by decide) ?_
    assumption

theorem execShroudEngineFence_within (e : Fin 20) (s : State) :
    WithinOut [.level, .hostLogs, .bly, .shr, .log, .evt] s (execShroudEngineFence e s) := by
  unfold execShroudEngineFence
  refine WithinOut.next ?_
  refine Within.step (State.fenceEngine_within _ _) (by decide) ?_
  exact Within.refl _ _

theorem State.shrRefuse_within (s : State) : Within [.shr] s (State.shrRefuse s) := by
  unfold State.shrRefuse
  exact (Within.set_shr (by decide)).mpr (Within.refl _ _)

theorem State.shrKeyCmd_within {W : List Part} (s : State) (path : Path) (op : BitVec 2)
    (f : State → Option State) (hw : Part.shr ∈ W) (hf : ∀ t, f s = some t → Within W s t) :
    Within W s (State.shrKeyCmd s path op f) := by
  have hr : Within W s s.shrRefuse := by
    unfold State.shrRefuse
    exact (Within.set_shr hw).mpr (Within.refl _ _)
  unfold State.shrKeyCmd
  split
  · exact hr
  · refine (Within.set_shr hw).mpr ?_
    split
    · rename_i t ht
      exact hf _ ht
    · exact hr

theorem execShrKeyLoad_within (path : Path) (s : State) :
    WithinOut [.glb, .level, .port0, .port1, .hostLogs, .bly, .cache, .vbf, .stp, .wlv, .shr, .kce, .hly,
        .log, .evt, .pmu] s (execShrKeyLoad path s) := by
  unfold execShrKeyLoad
  refine WithinOut.next ?_
  refine Within.step (State.pumpAll_within _) (by decide) ?_
  exact State.shrKeyCmd_within _ _ _ _ (by decide) fun t ht =>
    Within.step (State.shrLoad_within _ _ _ _ ht) (by decide) (Within.refl _ _)

theorem execShrKeyZeroize_within (path : Path) (s : State) :
    WithinOut [.shr, .log] s (execShrKeyZeroize path s) := by
  unfold execShrKeyZeroize
  refine WithinOut.next ?_
  exact State.shrKeyCmd_within _ _ _ _ (by decide) fun t ht => State.shrZeroize_within _ _ _ ht

theorem execShrKeyErase_within (path : Path) (s : State) :
    WithinOut [.draws, .glb, .level, .port0, .port1, .hostLogs, .bly, .cache, .vbf, .stp, .wlv, .media,
        .shr, .kce, .hly, .log, .sea, .evt, .pmu] s (execShrKeyErase path s) := by
  unfold execShrKeyErase
  refine WithinOut.next ?_
  refine State.shrKeyCmd_within _ _ _ _ (by decide) fun t ht => ?_
  obtain rfl := Option.some.inj ht
  exact Within.step (State.erase_within _ _) (by decide) (Within.refl _ _)

theorem execShrRekeyGo_within (path : Path) (s : State) :
    WithinOut [.hostLogs, .media, .shr, .log, .sea, .evt] s (execShrRekeyGo path s) := by
  unfold execShrRekeyGo
  refine WithinOut.next ?_
  split
  · exact Within.refl _ _
  · lift_lets -underBinder
    intro u1
    clear_value u1
    intro u2
    clear_value u2
    intro u3
    clear_value u3
    intro u4
    clear_value u4
    intro u5
    clear_value u5
    split
    · refine (Within.set_shr (by decide)).mpr ?_
      exact Within.refl _ _
    · split
      split
      · refine Within.step (State.rekeyBegin_within _ _ _ _ _ _) (by decide) ?_
        refine Within.step (Within.of_fst (State.seaStore_within _ _ _) (by assumption)) (by decide) ?_
        exact Within.refl _ _
      · refine (Within.set_shr (by decide)).mpr ?_
        refine Within.step (Within.of_fst (State.seaStore_within _ _ _) (by assumption)) (by decide) ?_
        exact Within.refl _ _

theorem State.rekeyAbortNow_within (s : State) :
    Within [.shr] s (State.rekeyAbortNow s) := by
  unfold State.rekeyAbortNow
  split
  · refine (Within.set_shr (by decide)).mpr ?_
    exact Within.refl _ _
  · exact Within.refl _ _

theorem execShrRekeyAbort_within (path : Path) (s : State) :
    WithinOut [.shr] s (execShrRekeyAbort path s) := by
  unfold execShrRekeyAbort
  refine WithinOut.next ?_
  split
  · refine Within.step (State.rekeyAbortNow_within _) (by decide) ?_
    exact Within.refl _ _
  · exact Within.refl _ _

theorem State.sweepEntry_within (s : State) (i lsn : Nat) (slot : Option Nat) :
    Within [.vbf] s (State.sweepEntry s i lsn slot) := by
  unfold State.sweepEntry
  lift_lets -underBinder
  intro u1
  clear_value u1
  intro u2
  clear_value u2
  refine (Within.set_vbf (by decide)).mpr ?_
  exact Within.refl _ _

theorem State.sweepSlot_within (s : State) (lsn : Nat) (slot : Option Nat) :
    Within [.cache] s (State.sweepSlot s lsn slot) := by
  unfold State.sweepSlot
  split
  · refine (Within.set_cache (by decide)).mpr ?_
    exact Within.refl _ _
  · exact Within.refl _ _

theorem State.sweepMember_within (s : State) (lsn : Nat) :
    Within [.cache, .vbf, .stp] s (State.sweepMember s lsn) := by
  unfold State.sweepMember
  split
  · exact Within.refl _ _
  · lift_lets -underBinder
    intro u1
    clear_value u1
    intro u2
    clear_value u2
    intro u3
    have h3 : Within [.cache, .vbf, .stp] s u3 := by
      subst u3
      refine Within.step (State.sweepSlot_within _ _ _) (by decide) ?_
      refine Within.step (State.sweepEntry_within _ _ _ _) (by decide) ?_
      exact Within.refl _ _
    clear_value u3
    refine Within.step (State.newRead_within _ _ _ _ _ _) (by decide) ?_
    assumption

theorem State.joinMember_within (s : State) (key : Nat) :
    Within [.hostLogs, .cache, .vbf, .stp, .mst, .hly] s (State.joinMember s key) := by
  unfold State.joinMember
  lift_lets -underBinder
  intro u1
  clear_value u1
  intro u2
  have h2 : Within [.hostLogs, .cache, .vbf, .stp, .mst, .hly] s u2 := by
    subst u2
    refine Within.step (State.victimise_within _ _ _ _ _) (by decide) ?_
    exact Within.refl _ _
  clear_value u2
  split
  · assumption
  · refine Within.step (State.startMerge_within _ _) (by decide) ?_
    assumption

theorem State.claimMember_within (s : State) (lsn : Nat) :
    Within [.hostLogs, .cache, .vbf, .stp, .mst, .hly] s (State.claimMember s lsn) := by
  unfold State.claimMember
  split
  · split
    · refine Within.step (State.joinMember_within _ _) (by decide) ?_
      exact Within.refl _ _
    · refine Within.step (State.sweepMember_within _ _) (by decide) ?_
      exact Within.refl _ _
  · split
    · exact Within.refl _ _
    · refine Within.step (State.sweepMember_within _ _) (by decide) ?_
      exact Within.refl _ _

theorem State.claimRow_within (s : State) :
    Within [.hostLogs, .cache, .vbf, .stp, .media, .shr, .mst, .hly] s (State.claimRow s) := by
  unfold State.claimRow
  lift_lets -underBinder
  intro u1
  clear_value u1
  intro u2
  clear_value u2
  intro u3
  have h3 : Within [.hostLogs, .cache, .vbf, .stp, .media, .shr, .mst, .hly] s u3 := by
    subst u3
    refine (Within.set_shr (by decide)).mpr ?_
    exact Within.refl _ _
  clear_value u3
  intro u4
  have h4 : Within [.hostLogs, .cache, .vbf, .stp, .media, .shr, .mst, .hly] s u4 := by
    subst u4
    refine Within.foldl (fun u a h => ?_) ?_
    · refine Within.step (State.claimMember_within _ _) (by decide) ?_
      assumption
    · assumption
  clear_value u4
  intro u5
  clear_value u5
  intro u6
  clear_value u6
  intro u7
  clear_value u7
  intro u8
  clear_value u8
  intro u9
  clear_value u9
  intro u10
  have h10 : Within [.hostLogs, .cache, .vbf, .stp, .media, .shr, .mst, .hly] s u10 := by
    subst u10
    refine (Within.set_vbf_stp (by decide) (by decide)).mpr ?_
    assumption
  clear_value u10
  refine Within.step (State.checkpointSweep_within _) (by decide) ?_
  refine Within.step (State.formPrograms_within _ _) (by decide) ?_
  assumption

theorem execRekeyClaimRow_within (s : State) :
    WithinOut [.hostLogs, .cache, .vbf, .stp, .media, .shr, .mst, .hly] s (execRekeyClaimRow s) := by
  unfold execRekeyClaimRow
  refine WithinOut.next ?_
  split
  · refine Within.step (State.claimRow_within _) (by decide) ?_
    exact Within.refl _ _
  · exact Within.refl _ _

theorem execRekeyEnd_within (s : State) :
    WithinOut [.hostLogs, .media, .shr, .log, .sea, .evt] s (execRekeyEnd s) := by
  unfold execRekeyEnd
  refine WithinOut.next ?_
  split
  · split
    · refine Within.step (State.fire_within _ _ _ _) (by decide) ?_
      refine Within.step (State.rekeyFinish_within _ _) (by decide) ?_
      exact Within.refl _ _
    · refine (Within.set_shr (by decide)).mpr ?_
      exact Within.refl _ _
  · exact Within.refl _ _

theorem execRekeyCut_within (s : State) :
    WithinOut [.hostLogs, .media, .shr, .log, .sea, .evt] s (execRekeyCut s) := by
  unfold execRekeyCut
  refine WithinOut.next ?_
  split
  · refine Within.step (State.rekeyCutNow_within _) (by decide) ?_
    exact Within.refl _ _
  · exact Within.refl _ _

theorem execReservationGrant_within (p : Port) (s : State) :
    WithinOut [.glb, .level, .port0, .port1, .hostLogs, .bly, .cache, .vbf, .stp, .wlv, .kce, .hly, .log,
        .evt, .pmu] s (execReservationGrant p s) := by
  unfold execReservationGrant
  refine WithinOut.next ?_
  refine Within.step (State.pump_within _ _) (by decide) ?_
  exact Within.refl _ _

theorem execDirtyBudgetReplan_within (s : State) :
    WithinOut [.glb, .level, .port0, .port1, .hostLogs, .bly, .cache, .vbf, .stp, .wlv, .kce, .hly, .log,
        .evt, .pmu] s (execDirtyBudgetReplan s) := by
  unfold execDirtyBudgetReplan
  refine WithinOut.next ?_
  split
  · refine Within.step (State.replan_within _) (by decide) ?_
    exact Within.refl _ _
  · exact Within.refl _ _

theorem execWriteBackStart_within (lsn : BitVec 40) (s : State) :
    WithinOut [.cache, .vbf] s (execWriteBackStart lsn s) := by
  unfold execWriteBackStart
  refine WithinOut.next ?_
  split
  · exact Within.refl _ _
  · lift_lets -underBinder
    intro u1
    clear_value u1
    split
    · refine Within.step (State.victimise_within _ _ _ _ _) (by decide) ?_
      exact Within.refl _ _
    · exact Within.refl _ _

theorem State.gatherBlock_within (s : State) (key : Nat) :
    Within [.hostLogs, .cache, .vbf, .stp, .mst, .hly] s (State.gatherBlock s key) := by
  unfold State.gatherBlock
  lift_lets -underBinder
  intro u1
  clear_value u1
  intro u2
  have h2 : Within [.hostLogs, .cache, .vbf, .stp, .mst, .hly] s u2 := by
    subst u2
    refine Within.step (State.victimise_within _ _ _ _ _) (by decide) ?_
    exact Within.refl _ _
  clear_value u2
  split
  · refine Within.step (State.startMerge_within _ _) (by decide) ?_
    assumption
  · assumption

theorem State.fixSet_within (s : State) (row : Nat) :
    Within [.hostLogs, .vbf, .stp, .mst, .hly] s (State.fixSet s row) := by
  unfold State.fixSet
  lift_lets -underBinder
  intro u1
  clear_value u1
  intro u2
  clear_value u2
  intro u3
  clear_value u3
  intro u4
  clear_value u4
  intro u5
  have h5 : Within [.hostLogs, .vbf, .stp, .mst, .hly] s u5 := by
    subst u5
    refine (Within.set_stp (by decide)).mpr ?_
    exact Within.refl _ _
  clear_value u5
  intro u6
  have h6 : Within [.hostLogs, .vbf, .stp, .mst, .hly] s u6 := by
    subst u6
    refine Within.foldl (fun u a h => ?_) ?_
    · refine Within.step (State.startMerge_within _ _) (by decide) ?_
      refine Within.step (State.modVictim_within _ _ _) (by decide) ?_
      assumption
    · assumption
  clear_value u6
  refine Within.step (State.formPrograms_within _ _) (by decide) ?_
  assumption

theorem execStripeGatherTimeout_within (idx : Nat) (s : State) :
    WithinOut [.hostLogs, .cache, .vbf, .stp, .mst, .hly] s (execStripeGatherTimeout idx s) := by
  unfold execStripeGatherTimeout
  refine WithinOut.next ?_
  split
  · exact Within.refl _ _
  · lift_lets -underBinder
    intro u1
    clear_value u1
    split
    · exact Within.refl _ _
    · refine Within.step (State.fixSet_within _ _) (by decide) ?_
      refine Within.foldl (fun u a h => ?_) ?_
      · refine Within.step (State.gatherBlock_within _ _) (by decide) ?_
        assumption
      · exact Within.refl _ _

theorem State.mergeWay_within (s : State) (i : Nat) (plain : Four Line) (poison : BitVec 4) :
    Within [.cache] s (State.mergeWay s i plain poison) := by
  unfold State.mergeWay
  split
  · exact Within.refl _ _
  · refine Within.step (State.mirrorIfDirty_within _ _) (by decide) ?_
    refine Within.step (State.setWay_within _ _ _) (by decide) ?_
    exact Within.refl _ _

theorem State.answerJoined_within (s : State) (belays : List Nat) (plain : Four Line) (poison : BitVec 4)
    (ok : Bool) :
    Within [.glb, .level, .port0, .port1, .hostLogs, .bly, .cache, .vbf, .stp, .wlv, .hly, .log, .evt, .pmu]
        s (State.answerJoined s belays plain poison ok) := by
  unfold State.answerJoined
  lift_lets -underBinder
  intro u1
  have h1 : Within [.glb, .level, .port0, .port1, .hostLogs, .bly, .cache, .vbf, .stp, .wlv,   .hly, .log,
      .evt, .pmu] s u1 := by
    subst u1
    split
    · refine Within.step (State.answerReads_within _ _ _ _) (by decide) ?_
      exact Within.refl _ _
    · refine Within.foldl (fun u a h => ?_) ?_
      · split
        · refine Within.step (State.toRespond_within _ _ _ _) (by decide) ?_
          assumption
        · assumption
      · exact Within.refl _ _
  clear_value u1
  refine Within.foldl (fun u a h => ?_) ?_
  · refine Within.step (State.restart_within _ _) (by decide) ?_
    assumption
  · assumption

theorem State.endMerge_within (s : State) (idx id : Nat) (v : Victim) (r : ReadOp) (ok : Bool) :
    Within [.glb, .level, .port0, .port1, .hostLogs, .bly, .cache, .vbf, .stp, .wlv, .hly, .log, .evt, .pmu]
        s (State.endMerge s idx id v r ok) := by
  unfold State.endMerge
  lift_lets -underBinder
  intro u1
  clear_value u1
  intro u2
  clear_value u2
  intro u3
  clear_value u3
  intro u4
  have h4 : Within [.glb, .level, .port0, .port1, .hostLogs, .bly, .cache, .vbf, .stp, .wlv,   .hly, .log,
      .evt, .pmu] s u4 := by
    subst u4
    refine Within.step (State.modVictim_within _ _ _) (by decide) ?_
    exact Within.refl _ _
  clear_value u4
  intro u5
  have h5 : Within [.glb, .level, .port0, .port1, .hostLogs, .bly, .cache, .vbf, .stp, .wlv,   .hly, .log,
      .evt, .pmu] s u5 := by
    subst u5
    split
    · refine Within.step (State.mergeWay_within _ _ _ _) (by decide) ?_
      assumption
    · assumption
  clear_value u5
  intro u6
  clear_value u6
  intro u7
  have h7 : Within [.glb, .level, .port0, .port1, .hostLogs, .bly, .cache, .vbf, .stp, .wlv,   .hly, .log,
      .evt, .pmu] s u7 := by
    subst u7
    split
    · assumption
    · refine Within.step (State.fire_within _ _ _ _) (by decide) ?_
      refine Within.step (State.poisonAdd_within _ _ _ _) (by decide) ?_
      assumption
  clear_value u7
  intro u8
  clear_value u8
  intro u9
  have h9 : Within [.glb, .level, .port0, .port1, .hostLogs, .bly, .cache, .vbf, .stp, .wlv,   .hly, .log,
      .evt, .pmu] s u9 := by
    subst u9
    refine (Within.set_stp (by decide)).mpr ?_
    assumption
  clear_value u9
  intro u10
  have h10 : Within [.glb, .level, .port0, .port1, .hostLogs, .bly, .cache, .vbf, .stp, .wlv,   .hly, .log,
      .evt, .pmu] s u10 := by
    subst u10
    refine Within.step (State.settleSlotOpt_within _ _) (by decide) ?_
    assumption
  clear_value u10
  intro u11
  have h11 : Within [.glb, .level, .port0, .port1, .hostLogs, .bly, .cache, .vbf, .stp, .wlv,   .hly, .log,
      .evt, .pmu] s u11 := by
    subst u11
    refine Within.step (State.answerJoined_within _ _ _ _ _) (by decide) ?_
    assumption
  clear_value u11
  split
  · refine Within.step (State.formPrograms_within _ _) (by decide) ?_
    assumption
  · assumption

theorem execMergeReadComplete_within (idx : Nat) (ok : Bool) (s : State) :
    WithinOut [.glb, .level, .port0, .port1, .hostLogs, .bly, .cache, .vbf, .stp, .wlv, .hly, .log, .evt,
        .pmu] s (execMergeReadComplete idx ok s) := by
  unfold execMergeReadComplete
  refine WithinOut.next ?_
  split
  · exact Within.refl _ _
  · split
    · exact Within.refl _ _
    · split
      · exact Within.refl _ _
      · refine Within.step (State.endMerge_within _ _ _ _ _ _) (by decide) ?_
        exact Within.refl _ _

theorem State.cleanThrough_within (s : State) (news : List (Nat × Stored)) :
    Within [.cache] s (State.cleanThrough s news) := by
  unfold State.cleanThrough
  refine Within.foldl (fun u a h => ?_) ?_
  · split
    · assumption
    · lift_lets -underBinder
      intro u1
      clear_value u1
      intro u2
      clear_value u2
      intro u3
      clear_value u3
      refine Within.step (State.settleSlotOpt_within _ _) (by decide) ?_
      refine Within.step (State.setWay_within _ _ _) (by decide) ?_
      assumption
  · exact Within.refl _ _

theorem State.endWriter_within (s : State) (i : Nat) (news : List (Nat × Stored)) :
    Within [.glb, .level, .port0, .port1, .hostLogs, .bly, .cache, .vbf, .stp, .wlv, .hly, .log, .evt, .pmu]
        s (State.endWriter s i news) := by
  unfold State.endWriter
  split
  · exact Within.refl _ _
  · refine Within.step (State.completeWrite_within _ _) (by decide) ?_
    refine Within.step (State.poisonOfWrite_within _ _) (by decide) ?_
    refine Within.step (State.cleanThrough_within _ _) (by decide) ?_
    exact Within.refl _ _

theorem State.confirmSet_within (s : State) (id : Nat) (t : StripeSet) :
    Within [.glb, .level, .port0, .port1, .hostLogs, .bly, .cache, .vbf, .stp, .wlv, .media, .kce, .hly,
        .log, .evt, .pmu] s (State.confirmSet s id t) := by
  unfold State.confirmSet
  lift_lets -underBinder
  intro u1
  clear_value u1
  intro u2
  have h2 : Within [.glb, .level, .port0, .port1, .hostLogs, .bly, .cache, .vbf, .stp, .wlv,   .media, .kce,
      .hly, .log, .evt, .pmu] s u2 := by
    subst u2
    refine Within.step (State.settleAbsent_within _ _) (by decide) ?_
    exact Within.refl _ _
  clear_value u2
  intro u3
  have h3 : Within [.glb, .level, .port0, .port1, .hostLogs, .bly, .cache, .vbf, .stp, .wlv,   .media, .kce,
      .hly, .log, .evt, .pmu] s u3 := by
    subst u3
    refine Within.foldl (fun u a h => ?_) ?_
    · refine Within.step (State.confirmVictim_within _ _) (by decide) ?_
      assumption
    · assumption
  clear_value u3
  intro u4
  clear_value u4
  intro u5
  have h5 : Within [.glb, .level, .port0, .port1, .hostLogs, .bly, .cache, .vbf, .stp, .wlv,   .media, .kce,
      .hly, .log, .evt, .pmu] s u5 := by
    subst u5
    refine (Within.set_stp (by decide)).mpr ?_
    assumption
  clear_value u5
  intro u6
  have h6 : Within [.glb, .level, .port0, .port1, .hostLogs, .bly, .cache, .vbf, .stp, .wlv,   .media, .kce,
      .hly, .log, .evt, .pmu] s u6 := by
    subst u6
    split
    · refine Within.step (State.endWriter_within _ _ _) (by decide) ?_
      assumption
    · assumption
  clear_value u6
  intro u7
  have h7 : Within [.glb, .level, .port0, .port1, .hostLogs, .bly, .cache, .vbf, .stp, .wlv,   .media, .kce,
      .hly, .log, .evt, .pmu] s u7 := by
    subst u7
    split
    · refine Within.step (State.formWriteThrough_within _ _) (by decide) ?_
      assumption
    · assumption
  clear_value u7
  refine Within.step (State.pumpAll_within _) (by decide) ?_
  refine Within.step (State.retryLookups_within _) (by decide) ?_
  split
  · refine Within.step (State.checkpointSweep_within _) (by decide) ?_
    assumption
  · assumption

theorem execSetConfirmed_within (id : Nat) (s : State) :
    WithinOut [.glb, .level, .port0, .port1, .hostLogs, .bly, .cache, .vbf, .stp, .wlv, .media, .kce, .hly,
        .log, .evt, .pmu] s (execSetConfirmed id s) := by
  unfold execSetConfirmed
  refine WithinOut.next ?_
  split
  · exact Within.refl _ _
  · split
    · refine Within.step (State.confirmSet_within _ _ _) (by decide) ?_
      exact Within.refl _ _
    · exact Within.refl _ _

theorem execDumpComplete_within (s : State) :
    WithinOut [.glb, .level, .hostLogs, .media, .mch, .seq, .log, .evt] s (execDumpComplete s) := by
  unfold execDumpComplete
  refine WithinOut.next ?_
  split
  · exact Within.refl _ _
  · lift_lets -underBinder
    intro u1
    clear_value u1
    intro u2
    clear_value u2
    intro u3
    clear_value u3
    intro u4
    have h4 : Within [.glb, .level, .hostLogs, .media, .mch, .seq, .log, .evt] s u4 := by
      subst u4
      refine (Within.set_glb_media (by decide) (by decide) (by decide)).mpr ?_
      exact Within.refl _ _
    clear_value u4
    intro u5
    clear_value u5
    refine Within.step (State.afterDump_within _) (by decide) ?_
    refine Within.step (State.fire_within _ _ _ _) (by decide) ?_
    assumption

theorem State.applyRecord_within (s : State) (bad : List Nat) (r : JRec) :
    Within [.hostLogs, .wlv, .media, .log, .evt] s (State.applyRecord s bad r) := by
  unfold State.applyRecord
  lift_lets -underBinder
  intro u1
  clear_value u1
  intro u2
  clear_value u2
  intro u3
  have h3 : Within [.hostLogs, .wlv, .media, .log, .evt] s u3 := by
    subst u3
    refine Within.step (State.setCell_within _ _ _) (by decide) ?_
    exact Within.refl _ _
  clear_value u3
  intro u4
  clear_value u4
  intro u5
  clear_value u5
  intro u6
  have h6 : Within [.hostLogs, .wlv, .media, .log, .evt] s u6 := by
    subst u6
    refine Within.step (State.setCell_within _ _ _) (by decide) ?_
    exact Within.refl _ _
  clear_value u6
  split
  · refine Within.step (State.writeLost_within _ _) (by decide) ?_
    exact Within.refl _ _
  · split
    · refine Within.step (State.fire_within _ _ _ _) (by decide) ?_
      refine Within.step (State.poisonAdd_within _ _ _ _) (by decide) ?_
      assumption
    · refine Within.step (State.poisonRestore_within _ _ _) (by decide) ?_
      assumption

theorem State.applyInflight_within (s : State) (f : InFlight) :
    Within [.media] s (State.applyInflight s f) := by
  unfold State.applyInflight
  split
  · refine (Within.set_media (by decide)).mpr ?_
    exact Within.refl _ _
  · exact Within.refl _ _

theorem State.applyEpoch_within (s : State) (e : Epoch) (bad : List Nat) :
    Within [.hostLogs, .wlv, .media, .log, .evt] s (State.applyEpoch s e bad) := by
  unfold State.applyEpoch
  refine Within.foldl (fun u a h => ?_) ?_
  · refine Within.step (State.applyInflight_within _ _) (by decide) ?_
    assumption
  · refine Within.foldl (fun u a h => ?_) ?_
    · refine Within.step (State.applyRecord_within _ _ _) (by decide) ?_
      assumption
    · exact Within.refl _ _

theorem execReplayStart_within (bad : List Nat) (s : State) :
    WithinOut [.glb, .level, .hostLogs, .wlv, .media, .log, .evt] s (execReplayStart bad s) := by
  unfold execReplayStart
  refine WithinOut.next ?_
  split
  · exact Within.refl _ _
  · lift_lets -underBinder
    intro u1 u2 u3
    clear_value u3
    intro u4
    clear_value u4
    intro u5
    have h5 : Within [.glb, .level, .hostLogs, .wlv, .media, .log, .evt] s u5 := by
      subst u5
      refine (Within.set_glb (by decide) (by decide)).mpr ?_
      exact Within.refl _ _
    intro u6
    clear_value u6
    intro u7
    have h7 : Within [.glb, .level, .hostLogs, .wlv, .media, .log, .evt] s u7 := by
      subst u7
      split
      · refine Within.step (State.fire_within _ _ _ _) (by decide) ?_
        assumption
      · assumption
    clear_value u7
    split
    · assumption
    · lift_lets -underBinder
      intro u8
      clear_value u8
      intro u9
      have h9 : Within [.glb, .level, .hostLogs, .wlv, .media, .log, .evt] s u9 := by
        subst u9
        split
        · assumption
        · refine (Within.set_glb (by decide) (by decide)).mpr ?_
          assumption
      clear_value u9
      split
      · refine Within.step (State.applyEpoch_within _ _ _) (by decide) ?_
        assumption
      · assumption

theorem State.recordReplay_within (s : State) :
    Within [.hostLogs, .log, .sea, .evt] s (State.recordReplay s) := by
  unfold State.recordReplay
  lift_lets -underBinder
  intro u1
  clear_value u1
  intro u2
  clear_value u2
  intro u3
  clear_value u3
  intro u4
  clear_value u4
  split
  · refine Within.step (State.fire_within _ _ _ _) (by decide) ?_
    exact Within.refl _ _
  · split
    · refine Within.step (State.fire_within _ _ _ _) (by decide) ?_
      refine Within.step (State.counterInc_within _ _ _) (by decide) ?_
      exact Within.refl _ _
    · exact Within.refl _ _

theorem State.fillInterrupted_within (s : State) :
    Within [.draws, .hostLogs, .cache, .vbf, .stp, .wlv, .media, .log, .sea, .evt] s (State.fillInterrupted
        s) := by
  unfold State.fillInterrupted
  split
  · exact Within.refl _ _
  · lift_lets -underBinder
    intro u1
    clear_value u1
    intro u2
    clear_value u2
    intro u3
    clear_value u3
    intro u4
    have h4 : Within [.draws, .hostLogs, .cache, .vbf, .stp, .wlv, .media, .log, .sea, .evt] s u4 := by
      subst u4
      refine Within.step (State.seaWithdraw_within _ _) (by decide) ?_
      refine Within.step (State.fillLines_within _ _ _ _) (by decide) ?_
      exact Within.refl _ _
    clear_value u4
    refine Within.step (State.fireOutcome_within _ _ _ _ _ _ _) (by decide) ?_
    refine Within.step (State.drawn_within _) (by decide) ?_
    assumption

theorem execReplayComplete_within (s : State) :
    WithinOut [.draws, .glb, .level, .port0, .port1, .hostLogs, .bly, .cache, .vbf, .stp, .wlv, .media,
        .kce, .hly, .log, .sea, .dty, .evt, .pmu] s (execReplayComplete s) := by
  unfold execReplayComplete
  refine WithinOut.next ?_
  split
  · exact Within.refl _ _
  · lift_lets -underBinder
    intro u1
    clear_value u1
    split
    split
    · refine Within.step (Within.of_fst (State.seaStore_within _ _ _) (by assumption)) (by decide) ?_
      exact Within.refl _ _
    · lift_lets -underBinder
      intro u2
      clear_value u2
      intro u3
      have h3 : Within [.draws, .glb, .level, .port0, .port1, .hostLogs, .bly, .cache, .vbf, .stp,   .wlv,
          .media, .kce, .hly, .log, .sea, .dty, .evt, .pmu] s u3 := by
        subst u3
        refine (Within.set_glb (by decide) (by decide)).mpr ?_
        refine Within.step (Within.of_fst (State.seaStore_within _ _ _) (by assumption)) (by decide) ?_
        exact Within.refl _ _
      clear_value u3
      intro u4
      have h4 : Within [.draws, .glb, .level, .port0, .port1, .hostLogs, .bly, .cache, .vbf, .stp,   .wlv,
          .media, .kce, .hly, .log, .sea, .dty, .evt, .pmu] s u4 := by
        subst u4
        refine Within.step (State.recordReplay_within _) (by decide) ?_
        refine Within.step (State.bootStage_within _ _) (by decide) ?_
        assumption
      clear_value u4
      intro u5
      have h5 : Within [.draws, .glb, .level, .port0, .port1, .hostLogs, .bly, .cache, .vbf, .stp,   .wlv,
          .media, .kce, .hly, .log, .sea, .dty, .evt, .pmu] s u5 := by
        subst u5
        refine Within.step (State.fillInterrupted_within _) (by decide) ?_
        refine Within.step (State.settleBudget_within _) (by decide) ?_
        assumption
      clear_value u5
      refine Within.step (State.tryActivate_within _) (by decide) ?_
      assumption

end Sys2Proof.Machine
end

