-- ==== Sys2Proof/Laws/FramePorts.lean ====
section
/-! SUPPORT. Frames: which parts of the state each operation and each meaning may change (the host ports, the cache slices and the vector buffer).
A later frame cites the frames of the operations it calls and unfolds none of them. -/

namespace Sys2Proof.Machine

open Sys2Proof

theorem State.receive_within (s : State) (p : Port) (rwd : Bool) (r : PortReq) :
    Within [.draws, .glb, .level, .port0, .port1, .hostLogs, .bly, .cache, .vbf, .stp, .wlv, .kce, .hly,
        .log, .evt, .pmu] s (State.receive s p rwd r) := by
  unfold State.receive
  lift_lets -underBinder
  intro u1
  have h1 : Within [.draws, .glb, .level, .port0, .port1, .hostLogs, .bly, .cache, .vbf, .stp,   .wlv, .kce,
      .hly, .log, .evt, .pmu] s u1 := by
    subst u1
    split
    · refine Within.step (State.drawn_within _) (by decide) ?_
      exact Within.refl _ _
    · exact Within.refl _ _
  clear_value u1
  intro u2
  have h2 : Within [.draws, .glb, .level, .port0, .port1, .hostLogs, .bly, .cache, .vbf, .stp,   .wlv, .kce,
      .hly, .log, .evt, .pmu] s u2 := by
    subst u2
    split
    · refine Within.step (State.modPort_within _ _ _) (by decide) ?_
      assumption
    · refine Within.step (State.modPort_within _ _ _) (by decide) ?_
      assumption
  clear_value u2
  refine Within.step (State.noteAdmit_within _ _) (by decide) ?_
  refine Within.step (State.pump_within _ _) (by decide) ?_
  assumption

theorem State.hostRequest_within (s : State) (p : Port) (rwd : Bool) (op : MemOp) (hpa : Nat) (data : Line)
    (en : Mask) (poison : Bool) (err : CacheErr) :
    Within [.draws, .glb, .level, .port0, .port1, .hostLogs, .bly, .cache, .vbf, .stp, .wlv, .kce, .hly,
        .log, .evt, .pmu] s (State.hostRequest s p rwd op hpa data en poison err) := by
  unfold State.hostRequest
  split
  · refine Within.step (State.receive_within _ _ _ _) (by decide) ?_
    exact Within.refl _ _
  · exact Within.refl _ _

theorem State.orphanPort_within (s : State) (p : Port) :
    Within [.hostLogs, .bly, .hly, .log, .evt] s (State.orphanPort s p) := by
  unfold State.orphanPort
  refine Within.foldl (fun u a h => ?_) ?_
  · split
    · assumption
    · split
      · refine Within.step (State.fire_within _ _ _ _) (by decide) ?_
        refine Within.step (State.freeBelay_within _ _) (by decide) ?_
        assumption
      · refine Within.step (State.modBelay_within _ _ _) (by decide) ?_
        assumption
  · exact Within.refl _ _

theorem State.failPort_within (s : State) (p : Port) :
    Within [.level, .port0, .port1, .hostLogs, .bly, .hly, .log, .evt] s (State.failPort s p) := by
  unfold State.failPort
  lift_lets -underBinder
  intro u1
  clear_value u1
  intro u2
  have h2 : Within [.level, .port0, .port1, .hostLogs, .bly, .hly, .log, .evt] s u2 := by
    subst u2
    refine Within.step (State.orphanPort_within _ _) (by decide) ?_
    exact Within.refl _ _
  clear_value u2
  intro u3
  have h3 : Within [.level, .port0, .port1, .hostLogs, .bly, .hly, .log, .evt] s u3 := by
    subst u3
    refine Within.step (State.modPort_within _ _ _) (by decide) ?_
    assumption
  clear_value u3
  intro u4
  clear_value u4
  intro u5
  have h5 : Within [.level, .port0, .port1, .hostLogs, .bly, .hly, .log, .evt] s u5 := by
    subst u5
    split
    · refine Within.step (State.firePath_within _ _ _ _ _) (by decide) ?_
      assumption
    · assumption
  clear_value u5
  refine Within.step (State.settleLevel_within _) (by decide) ?_
  assumption

theorem State.abortPortMail_within (s : State) (p : Port) :
    Within [.hostLogs, .cache, .vbf, .stp, .wlv, .media, .kce, .mst, .hly, .seq, .log, .sea, .evt] s
        (State.abortPortMail s p) := by
  unfold State.abortPortMail
  refine Within.foldl (fun u a h => ?_) ?_
  · lift_lets -underBinder
    intro u1
    clear_value u1
    intro u2
    have h2 : Within [.hostLogs, .cache, .vbf, .stp, .wlv, .media, .kce, .mst, .hly, .seq, .log,   .sea,
        .evt] s u2 := by
      subst u2
      split
      · refine Within.step (State.undoBg_within _ _) (by decide) ?_
        assumption
      · assumption
    clear_value u2
    intro u3
    have h3 : Within [.hostLogs, .cache, .vbf, .stp, .wlv, .media, .kce, .mst, .hly, .seq, .log,   .sea,
        .evt] s u3 := by
      subst u3
      split
      · refine Within.step (State.journalDrop_within _ _ _) (by decide) ?_
        assumption
      · assumption
    clear_value u3
    refine Within.step (State.modMb_within _ _ _) (by decide) ?_
    assumption
  · exact Within.refl _ _

theorem State.portReset_within (s : State) (p : Port) :
    Within [.level, .port0, .port1, .hostLogs, .bly, .cache, .vbf, .stp, .wlv, .media, .kce, .mst, .hly,
        .seq, .log, .sea, .evt] s (State.portReset s p) := by
  unfold State.portReset
  lift_lets -underBinder
  intro u1
  clear_value u1
  intro u2
  have h2 : Within [.level, .port0, .port1, .hostLogs, .bly, .cache, .vbf, .stp, .wlv, .media,   .kce, .mst,
      .hly, .seq, .log, .sea, .evt] s u2 := by
    subst u2
    split
    · refine Within.step (State.failPort_within _ _) (by decide) ?_
      exact Within.refl _ _
    · exact Within.refl _ _
  clear_value u2
  intro u3
  have h3 : Within [.level, .port0, .port1, .hostLogs, .bly, .cache, .vbf, .stp, .wlv, .media,   .kce, .mst,
      .hly, .seq, .log, .sea, .evt] s u3 := by
    subst u3
    split
    · refine Within.step (State.fire_within _ _ _ _) (by decide) ?_
      assumption
    · assumption
  clear_value u3
  intro u4
  have h4 : Within [.level, .port0, .port1, .hostLogs, .bly, .cache, .vbf, .stp, .wlv, .media,   .kce, .mst,
      .hly, .seq, .log, .sea, .evt] s u4 := by
    subst u4
    refine Within.step (State.abortPortMail_within _ _) (by decide) ?_
    assumption
  clear_value u4
  refine Within.step (State.settleLevel_within _) (by decide) ?_
  refine Within.step (State.modPort_within _ _ _) (by decide) ?_
  assumption

theorem State.wake_within (s : State) (k : Nat) :
    Within [.clk] s (State.wake s k) := by
  unfold State.wake
  refine Within.step (State.modDom_within _ _ _) (by decide) ?_
  exact Within.refl _ _

theorem State.wakeHint_within (s : State) :
    Within [.clk] s (State.wakeHint s) := by
  unfold State.wakeHint
  refine Within.foldl (fun u a h => ?_) ?_
  · refine Within.step (State.wake_within _ _) (by decide) ?_
    assumption
  · exact Within.refl _ _

theorem execMemRd_within (p : Port) (_op : RdOp) (hpa : BitVec 52) (err : CacheErr) (s : State) :
    WithinOut [.draws, .glb, .level, .port0, .port1, .hostLogs, .bly, .cache, .vbf, .stp, .wlv, .kce, .hly,
        .log, .evt, .pmu] s (execMemRd p _op hpa err s) := by
  unfold execMemRd
  refine WithinOut.next ?_
  refine Within.step (State.hostRequest_within _ _ _ _ _ _ _ _ _) (by decide) ?_
  exact Within.refl _ _

theorem execMemInv_within (p : Port) (_nt : Bool) (hpa : BitVec 52) (s : State) :
    WithinOut [.draws, .glb, .level, .port0, .port1, .hostLogs, .bly, .cache, .vbf, .stp, .wlv, .kce, .hly,
        .log, .evt, .pmu] s (execMemInv p _nt hpa s) := by
  unfold execMemInv
  refine WithinOut.next ?_
  refine Within.step (State.hostRequest_within _ _ _ _ _ _ _ _ _) (by decide) ?_
  exact Within.refl _ _

theorem execMemSpecRd_within (p : Port) (hpa : BitVec 52) (s : State) :
    WithinOut [.draws, .glb, .level, .port0, .port1, .hostLogs, .bly, .cache, .vbf, .stp, .wlv, .kce, .hly,
        .log, .evt, .pmu] s (execMemSpecRd p hpa s) := by
  unfold execMemSpecRd
  refine WithinOut.next ?_
  refine Within.step (State.hostRequest_within _ _ _ _ _ _ _ _ _) (by decide) ?_
  exact Within.refl _ _

theorem execMemWr_within (p : Port) (hpa : BitVec 52) (data : Line) (poison : Bool) (s : State) :
    WithinOut [.draws, .glb, .level, .port0, .port1, .hostLogs, .bly, .cache, .vbf, .stp, .wlv, .kce, .hly,
        .log, .evt, .pmu] s (execMemWr p hpa data poison s) := by
  unfold execMemWr
  refine WithinOut.next ?_
  refine Within.step (State.hostRequest_within _ _ _ _ _ _ _ _ _) (by decide) ?_
  exact Within.refl _ _

theorem execMemWrPtl_within (p : Port) (hpa : BitVec 52) (data : Line) (enables : Mask) (poison : Bool) (s :
    State) :
    WithinOut [.draws, .glb, .level, .port0, .port1, .hostLogs, .bly, .cache, .vbf, .stp, .wlv, .kce, .hly,
        .log, .evt, .pmu] s (execMemWrPtl p hpa data enables poison s) := by
  unfold execMemWrPtl
  refine WithinOut.next ?_
  refine Within.step (State.hostRequest_within _ _ _ _ _ _ _ _ _) (by decide) ?_
  exact Within.refl _ _

theorem execUnsupportedRequest_within (p : Port) (rwd : Bool) (header : BitVec 128) (s : State) :
    WithinOut [.glb, .level, .port0, .port1, .hostLogs, .bly, .cache, .vbf, .stp, .wlv, .kce, .hly, .log,
        .evt, .pmu] s (execUnsupportedRequest p rwd header s) := by
  unfold execUnsupportedRequest
  lift_lets -underBinder
  intro u1
  clear_value u1
  intro u2
  have h2 : Within [.glb, .level, .port0, .port1, .hostLogs, .bly, .cache, .vbf, .stp, .wlv,   .kce, .hly,
      .log, .evt, .pmu] s u2 := by
    subst u2
    split
    · refine Within.step (State.modPort_within _ _ _) (by decide) ?_
      exact Within.refl _ _
    · refine Within.step (State.modPort_within _ _ _) (by decide) ?_
      exact Within.refl _ _
  clear_value u2
  refine WithinOut.next ?_
  split
  · refine Within.step (State.pump_within _ _) (by decide) ?_
    assumption
  · exact Within.refl _ _

theorem State.noteLate_within (s : State) (b : Belay) :
    Within [.hostLogs, .bly, .log, .evt] s (State.noteLate s b) := by
  unfold State.noteLate
  lift_lets -underBinder
  intro u1
  clear_value u1
  intro u2
  clear_value u2
  intro u3
  clear_value u3
  split
  · exact Within.refl _ _
  · refine Within.step (State.fire_within _ _ _ _) (by decide) ?_
    refine (Within.set_bly (by decide)).mpr ?_
    exact Within.refl _ _

theorem State.sendMessage_within (s : State) (p : Port) (isData rwd : Bool) (data : Line) (poison : Bool) :
    Within [.port0, .port1, .hostLogs] s (State.sendMessage s p isData rwd data poison) := by
  unfold State.sendMessage
  refine Within.step (State.modPort_within _ _ _) (by decide) ?_
  exact Within.refl _ _

theorem State.sendBelay_within (s : State) (p : Port) (i : Nat) :
    Within [.glb, .level, .port0, .port1, .hostLogs, .bly, .cache, .vbf, .stp, .wlv, .kce, .hly, .log, .evt,
        .pmu] s (State.sendBelay s p i) := by
  unfold State.sendBelay
  split
  · exact Within.refl _ _
  · split
    · exact Within.refl _ _
    · lift_lets -underBinder
      intro u1
      clear_value u1
      intro u2
      have h2 : Within [.glb, .level, .port0, .port1, .hostLogs, .bly, .cache, .vbf, .stp, .wlv,   .kce,
          .hly, .log, .evt, .pmu] s u2 := by
        subst u2
        refine Within.step (State.sendMessage_within _ _ _ _ _ _) (by decide) ?_
        refine Within.step (State.noteLate_within _ _) (by decide) ?_
        exact Within.refl _ _
      clear_value u2
      split
      · refine Within.step (State.modBelay_within _ _ _) (by decide) ?_
        exact Within.refl _ _
      · refine Within.step (State.pumpAll_within _) (by decide) ?_
        refine Within.step (State.freeBelay_within _ _) (by decide) ?_
        assumption

theorem State.sendAnswer_within (s : State) (p : Port) :
    Within [.port0, .port1, .hostLogs] s (State.sendAnswer s p) := by
  unfold State.sendAnswer
  split
  · exact Within.refl _ _
  · split
    · exact Within.refl _ _
    · refine Within.step (State.sendMessage_within _ _ _ _ _ _) (by decide) ?_
      refine Within.step (State.modPort_within _ _ _) (by decide) ?_
      exact Within.refl _ _

theorem execResponseSend_within (p : Port) (sel : RespSel) (ndrReturned drsReturned : Nat) (s : State) :
    WithinOut [.glb, .level, .port0, .port1, .hostLogs, .bly, .cache, .vbf, .stp, .wlv, .kce, .hly, .log,
        .evt, .pmu] s (execResponseSend p sel ndrReturned drsReturned s) := by
  unfold execResponseSend
  lift_lets -underBinder
  intro u1
  have h1 : Within [.glb, .level, .port0, .port1, .hostLogs, .bly, .cache, .vbf, .stp, .wlv,   .kce, .hly,
      .log, .evt, .pmu] s u1 := by
    subst u1
    split
    · refine Within.step (State.modPort_within _ _ _) (by decide) ?_
      exact Within.refl _ _
    · exact Within.refl _ _
  clear_value u1
  refine WithinOut.next ?_
  split
  · refine Within.step (State.sendBelay_within _ _ _) (by decide) ?_
    assumption
  · refine Within.step (State.sendAnswer_within _ _) (by decide) ?_
    assumption

theorem State.goViral_within (s : State) (p : Port) :
    Within [.port0, .port1, .hostLogs, .log, .evt] s (State.goViral s p) := by
  unfold State.goViral
  split
  · exact Within.refl _ _
  · refine Within.step (State.firePath_within _ _ _ _ _) (by decide) ?_
    refine Within.step (State.modPort_within _ _ _) (by decide) ?_
    exact Within.refl _ _

theorem execViral_within (p : Port) (s : State) :
    WithinOut [.port0, .port1, .hostLogs, .log, .evt] s (execViral p s) := by
  unfold execViral
  refine WithinOut.next ?_
  split
  · exact Within.refl _ _
  · split
    · refine Within.step (State.goViral_within _ _) (by decide) ?_
      refine Within.step (State.goViral_within _ _) (by decide) ?_
      exact Within.refl _ _
    · refine Within.step (State.goViral_within _ _) (by decide) ?_
      exact Within.refl _ _

theorem execHdmDecoderCommit_within (p : Port) (d : Fin 4) (cfg : HdmConfig) (s : State) :
    WithinOut [.port0, .port1, .hostLogs, .log, .evt] s (execHdmDecoderCommit p d cfg s) := by
  unfold execHdmDecoderCommit
  lift_lets -underBinder
  intro u1
  clear_value u1
  intro u2
  clear_value u2
  intro u3
  clear_value u3
  intro u4
  have h4 : Within [.port0, .port1, .hostLogs, .log, .evt] s u4 := by
    subst u4
    refine Within.step (State.modPort_within _ _ _) (by decide) ?_
    exact Within.refl _ _
  clear_value u4
  refine WithinOut.next ?_
  split
  · exact Within.refl _ _
  · split
    · assumption
    · refine Within.step (State.fire_within _ _ _ _) (by decide) ?_
      assumption

theorem execDevloadUpdate_within (p : Port) (s : State) :
    WithinOut [.port0, .port1, .hostLogs] s (execDevloadUpdate p s) := by
  unfold execDevloadUpdate
  refine WithinOut.next ?_
  split
  · exact Within.refl _ _
  · lift_lets -underBinder
    intro u1
    clear_value u1
    intro u2
    clear_value u2
    intro u3
    clear_value u3
    refine Within.step (State.modPort_within _ _ _) (by decide) ?_
    exact Within.refl _ _

theorem execAdmitWindowExpiry_within (p : Port) (s : State) :
    WithinOut [.port0, .port1, .hostLogs, .log, .evt] s (execAdmitWindowExpiry p s) := by
  unfold execAdmitWindowExpiry
  refine WithinOut.next ?_
  refine Within.step (State.modPort_within _ _ _) (by decide) ?_
  refine Within.step (State.noteAdmit_within _ _) (by decide) ?_
  exact Within.refl _ _

theorem execPortFail_within (p : Port) (how : PortDown) (s : State) :
    WithinOut [.level, .port0, .port1, .hostLogs, .bly, .hly, .log, .evt] s (execPortFail p how s) := by
  unfold execPortFail
  refine WithinOut.next ?_
  split
  · exact Within.refl _ _
  · lift_lets -underBinder
    intro u1
    have h1 : Within [.level, .port0, .port1, .hostLogs, .bly, .hly, .log, .evt] s u1 := by
      subst u1
      refine Within.step (State.modPort_within _ _ _) (by decide) ?_
      exact Within.refl _ _
    clear_value u1
    intro u2
    have h2 : Within [.level, .port0, .port1, .hostLogs, .bly, .hly, .log, .evt] s u2 := by
      subst u2
      refine Within.step (State.failPort_within _ _) (by decide) ?_
      assumption
    clear_value u2
    refine Within.step (State.fire_within _ _ _ _) (by decide) ?_
    assumption

theorem execPathRestored_within (p : Port) (s : State) :
    WithinOut [.port0, .port1, .hostLogs, .log, .evt] s (execPathRestored p s) := by
  unfold execPathRestored
  lift_lets -underBinder
  intro u1
  clear_value u1
  intro u2
  have h2 : Within [.port0, .port1, .hostLogs, .log, .evt] s u2 := by
    subst u2
    refine Within.step (State.modPort_within _ _ _) (by decide) ?_
    exact Within.refl _ _
  clear_value u2
  refine WithinOut.next ?_
  split
  · split
    · refine Within.step (State.firePath_within _ _ _ _ _) (by decide) ?_
      assumption
    · assumption
  · exact Within.refl _ _

theorem execPerstAssert_within (p : Port) (s : State) :
    WithinOut [.level, .port0, .port1, .hostLogs, .bly, .cache, .vbf, .stp, .wlv, .media, .kce, .mst, .hly,
        .seq, .log, .sea, .evt] s (execPerstAssert p s) := by
  unfold execPerstAssert
  refine WithinOut.next ?_
  refine Within.step (State.modPort_within _ _ _) (by decide) ?_
  refine Within.step (State.portReset_within _ _) (by decide) ?_
  exact Within.refl _ _

theorem execHotReset_within (p : Port) (s : State) :
    WithinOut [.level, .port0, .port1, .hostLogs, .bly, .cache, .vbf, .stp, .wlv, .media, .kce, .mst, .hly,
        .seq, .log, .sea, .evt] s (execHotReset p s) := by
  unfold execHotReset
  refine WithinOut.next ?_
  split
  · refine Within.step (State.portReset_within _ _) (by decide) ?_
    exact Within.refl _ _
  · exact Within.refl _ _

theorem execCxlReset_within (p : Port) (s : State) :
    WithinOut [.level, .port0, .port1, .hostLogs, .bly, .cache, .vbf, .stp, .wlv, .media, .kce, .mst, .hly,
        .seq, .log, .sea, .evt] s (execCxlReset p s) := by
  unfold execCxlReset
  refine WithinOut.next ?_
  split
  · refine Within.step (State.portReset_within _ _) (by decide) ?_
    exact Within.refl _ _
  · exact Within.refl _ _

theorem execFunctionLevelReset_within (p : Port) (s : State) :
    WithinOut [.port0, .port1, .hostLogs, .cache, .vbf, .stp, .wlv, .media, .kce, .mst, .hly, .seq, .log,
        .sea, .evt] s (execFunctionLevelReset p s) := by
  unfold execFunctionLevelReset
  refine WithinOut.next ?_
  split
  · refine Within.step (State.modPort_within _ _ _) (by decide) ?_
    refine Within.step (State.abortPortMail_within _ _) (by decide) ?_
    exact Within.refl _ _
  · exact Within.refl _ _

theorem State.noteDownshifts_within (s : State) (p : Port) (k : Nat) :
    Within [.hostLogs, .log, .evt] s (State.noteDownshifts s p k) := by
  induction k generalizing s with
  | zero => exact Within.refl _ _
  | succ k ih =>
    unfold State.noteDownshifts
    refine Within.step (ih _) (by decide) ?_
    refine Within.step (State.fire_within _ _ _ _) (by decide) ?_
    exact Within.refl _ _

theorem execLinkTrainingStart_within (p : Port) (eqFails : Nat) (lanes : LinkWidth) (s : State) :
    WithinOut [.port0, .port1, .hostLogs, .log, .evt] s (execLinkTrainingStart p eqFails lanes s) := by
  unfold execLinkTrainingStart
  lift_lets -underBinder
  intro u1
  clear_value u1
  intro u2
  clear_value u2
  intro u3
  clear_value u3
  intro u4
  have h4 : Within [.port0, .port1, .hostLogs, .log, .evt] s u4 := by
    subst u4
    refine Within.step (State.modPort_within _ _ _) (by decide) ?_
    exact Within.refl _ _
  clear_value u4
  refine WithinOut.next ?_
  split
  · exact Within.refl _ _
  · refine Within.step (State.noteDownshifts_within _ _ _) (by decide) ?_
    assumption

theorem State.noteWithheld_within (s : State) (p : Port) (conflict : Bool) :
    Within [.hostLogs, .log, .evt] s (State.noteWithheld s p conflict) := by
  unfold State.noteWithheld
  refine Within.step (State.fire_within _ _ _ _) (by decide) ?_
  exact Within.refl _ _

theorem State.noteCredits_within (s : State) (p : Port) (ndr drs : Nat) :
    Within [.port0, .port1, .hostLogs, .log, .evt] s (State.noteCredits s p ndr drs) := by
  unfold State.noteCredits
  split
  · refine Within.step (State.fire_within _ _ _ _) (by decide) ?_
    refine Within.step (State.modPort_within _ _ _) (by decide) ?_
    exact Within.refl _ _
  · exact Within.refl _ _

theorem execLinkUp_within (p : Port) (rate : LinkRate) (width : LinkWidth) (flit256 latopt : Bool)
    (ndrCredits drsCredits : Nat) (s : State) :
    WithinOut [.level, .port0, .port1, .hostLogs, .log, .evt] s (execLinkUp p rate width flit256 latopt
        ndrCredits drsCredits s) := by
  unfold execLinkUp
  lift_lets -underBinder
  intro u1
  clear_value u1
  intro u2
  clear_value u2
  intro u3
  clear_value u3
  intro u4
  have h4 : Within [.level, .port0, .port1, .hostLogs, .log, .evt] s u4 := by
    subst u4
    refine Within.step (State.modPort_within _ _ _) (by decide) ?_
    exact Within.refl _ _
  clear_value u4
  intro u5
  have h5 : Within [.level, .port0, .port1, .hostLogs, .log, .evt] s u5 := by
    subst u5
    refine Within.step (State.fire_within _ _ _ _) (by decide) ?_
    assumption
  clear_value u5
  intro u6
  have h6 : Within [.level, .port0, .port1, .hostLogs, .log, .evt] s u6 := by
    subst u6
    split
    · assumption
    · refine Within.step (State.noteWithheld_within _ _ _) (by decide) ?_
      assumption
  clear_value u6
  refine WithinOut.next ?_
  split
  · exact Within.refl _ _
  · refine Within.step (State.settleLevel_within _) (by decide) ?_
    refine Within.step (State.noteCredits_within _ _ _ _) (by decide) ?_
    assumption

theorem State.enterRecovery_within (s : State) (p : Port) :
    Within [.port0, .port1, .hostLogs, .log, .evt] s (State.enterRecovery s p) := by
  unfold State.enterRecovery
  lift_lets -underBinder
  intro u1
  have h1 : Within [.port0, .port1, .hostLogs, .log, .evt] s u1 := by
    subst u1
    refine Within.step (State.bucketAdd_within _ _ _) (by decide) ?_
    exact Within.refl _ _
  clear_value u1
  intro u2
  clear_value u2
  intro u3
  have h3 : Within [.port0, .port1, .hostLogs, .log, .evt] s u3 := by
    subst u3
    refine Within.step (State.modPort_within _ _ _) (by decide) ?_
    assumption
  clear_value u3
  intro u4
  clear_value u4
  intro u5
  have h5 : Within [.port0, .port1, .hostLogs, .log, .evt] s u5 := by
    subst u5
    refine Within.step (State.modPort_within _ _ _) (by decide) ?_
    assumption
  clear_value u5
  intro u6
  have h6 : Within [.port0, .port1, .hostLogs, .log, .evt] s u6 := by
    subst u6
    refine Within.step (State.modPort_within _ _ _) (by decide) ?_
    assumption
  clear_value u6
  split
  · assumption
  · split
    · assumption
    · refine Within.step (State.noteDownshifts_within _ _ _) (by decide) ?_
      assumption

theorem execRecoveryEntry_within (p : Port) (s : State) :
    WithinOut [.port0, .port1, .hostLogs, .log, .evt] s (execRecoveryEntry p s) := by
  unfold execRecoveryEntry
  refine WithinOut.next ?_
  split
  · refine Within.step (State.enterRecovery_within _ _) (by decide) ?_
    exact Within.refl _ _
  · exact Within.refl _ _

theorem execFlitCrcFail_within (p : Port) (s : State) :
    WithinOut [.port0, .port1, .hostLogs, .log, .evt] s (execFlitCrcFail p s) := by
  unfold execFlitCrcFail
  refine WithinOut.next ?_
  split
  · refine Within.step (State.bucketAdd_within _ _ _) (by decide) ?_
    refine Within.step (State.modPort_within _ _ _) (by decide) ?_
    exact Within.refl _ _
  · exact Within.refl _ _

theorem execReplayTimerTimeout_within (p : Port) (rollover : Bool) (s : State) :
    WithinOut [.port0, .port1, .hostLogs, .log, .evt] s (execReplayTimerTimeout p rollover s) := by
  unfold execReplayTimerTimeout
  refine WithinOut.next ?_
  split
  · lift_lets -underBinder
    intro u1
    have h1 : Within [.port0, .port1, .hostLogs, .log, .evt] s u1 := by
      subst u1
      refine Within.step (State.bucketAdd_within _ _ _) (by decide) ?_
      refine Within.step (State.modPort_within _ _ _) (by decide) ?_
      exact Within.refl _ _
    clear_value u1
    split
    · refine Within.step (State.enterRecovery_within _ _) (by decide) ?_
      assumption
    · assumption
  · exact Within.refl _ _

theorem execLaneMarginScan_within (p : Port) (timingStep voltageMv : Nat) (s : State) :
    WithinOut [.draws, .port0, .port1, .hostLogs, .log] s (execLaneMarginScan p timingStep voltageMv s) :=
        by
  unfold execLaneMarginScan
  refine WithinOut.next ?_
  split
  · lift_lets -underBinder
    intro u1
    have h1 : Within [.draws, .port0, .port1, .hostLogs, .log] s u1 := by
      subst u1
      refine Within.step (State.modPort_within _ _ _) (by decide) ?_
      exact Within.refl _ _
    clear_value u1
    split
    · refine Within.step (State.warnRecord_within _ _ _) (by decide) ?_
      assumption
    · assumption
  · exact Within.refl _ _

theorem execHostMarginCommand_within (p : Port) (lane : Fin 16) (done : Bool) (s : State) :
    WithinOut [.port0, .port1, .hostLogs] s (execHostMarginCommand p lane done s) := by
  unfold execHostMarginCommand
  refine WithinOut.next ?_
  split
  · refine Within.step (State.modPort_within _ _ _) (by decide) ?_
    exact Within.refl _ _
  · exact Within.refl _ _

theorem execL0pNarrow_within (p : Port) (usePercent : Nat) (s : State) :
    WithinOut [.port0, .port1, .hostLogs] s (execL0pNarrow p usePercent s) := by
  unfold execL0pNarrow
  lift_lets -underBinder
  intro u1
  clear_value u1
  split
  · refine WithinOut.next ?_
    split
    · exact Within.refl _ _
    · split
      · refine Within.step (State.modPort_within _ _ _) (by decide) ?_
        exact Within.refl _ _
      · split
        · refine Within.step (State.modPort_within _ _ _) (by decide) ?_
          exact Within.refl _ _
        · split
          · refine Within.step (State.modPort_within _ _ _) (by decide) ?_
            exact Within.refl _ _
          · exact Within.refl _ _
  · exact WithinOut.fault _ _ _

theorem execAspmL1Request_within (p : Port) (s : State) :
    WithinOut [.port0, .port1, .hostLogs] s (execAspmL1Request p s) := by
  unfold execAspmL1Request
  refine WithinOut.next ?_
  split
  · refine Within.step (State.modPort_within _ _ _) (by decide) ?_
    exact Within.refl _ _
  · exact Within.refl _ _

theorem execHostL1Entry_within (p : Port) (what : HostPm) (s : State) :
    WithinOut [.port0, .port1, .hostLogs] s (execHostL1Entry p what s) := by
  unfold execHostL1Entry
  refine WithinOut.next ?_
  split
  · refine Within.step (State.modPort_within _ _ _) (by decide) ?_
    exact Within.refl _ _
  · exact Within.refl _ _

theorem execL1Exit_within (p : Port) (s : State) :
    WithinOut [.port0, .port1, .hostLogs, .clk] s (execL1Exit p s) := by
  unfold execL1Exit
  refine WithinOut.next ?_
  split
  · lift_lets -underBinder
    intro u1
    have h1 : Within [.port0, .port1, .hostLogs, .clk] s u1 := by
      subst u1
      refine Within.step (State.modPort_within _ _ _) (by decide) ?_
      exact Within.refl _ _
    clear_value u1
    split
    · refine Within.step (State.wakeHint_within _) (by decide) ?_
      assumption
    · assumption
  · exact Within.refl _ _

theorem execGpfPhase1_within (p : Port) (s : State) :
    WithinOut [.port0, .port1, .hostLogs] s (execGpfPhase1 p s) := by
  unfold execGpfPhase1
  refine WithinOut.next ?_
  split
  · refine Within.step (State.modPort_within _ _ _) (by decide) ?_
    exact Within.refl _ _
  · exact Within.refl _ _

theorem execGpfPhase2_within (p : Port) (s : State) :
    WithinOut [.port0, .port1, .hostLogs, .hly] s (execGpfPhase2 p s) := by
  unfold execGpfPhase2
  refine WithinOut.next ?_
  split
  · lift_lets -underBinder
    intro u1
    clear_value u1
    intro u2
    clear_value u2
    split
    · refine Within.step (State.modPort_within _ _ _) (by decide) ?_
      exact Within.refl _ _
    · refine Within.step (State.modPort_within _ _ _) (by decide) ?_
      exact Within.refl _ _
  · exact Within.refl _ _

theorem State.renameBelay_within (s : State) (i k : Nat) :
    Within [.stp] s (State.renameBelay s i k) := by
  unfold State.renameBelay
  lift_lets -underBinder
  intro u1
  subst u1
  intro u2
  clear_value u2
  refine (Within.set_stp (by decide)).mpr ?_
  exact Within.refl _ _

theorem State.moveBelay_within (s : State) (i : Nat) :
    Within [.bly, .stp, .hly] s (State.moveBelay s i) := by
  unfold State.moveBelay
  split
  · exact Within.refl _ _
  · lift_lets -underBinder
    intro u1
    clear_value u1
    intro u2
    have h2 : Within [.bly, .stp, .hly] s u2 := by
      subst u2
      refine (Within.set_bly (by decide)).mpr ?_
      exact Within.refl _ _
    clear_value u2
    intro u3
    clear_value u3
    split
    · refine Within.step (State.renameBelay_within _ _ _) (by decide) ?_
      refine (Within.set_bly (by decide)).mpr ?_
      assumption
    · lift_lets -underBinder
      intro u4
      clear_value u4
      intro u5
      clear_value u5
      intro u6
      clear_value u6
      refine (Within.set_bly_stp (by decide) (by decide)).mpr ?_
      assumption

theorem State.moveSlot_within (s : State) (m k : Nat) :
    Within [.cache, .vbf] s (State.moveSlot s m k) := by
  unfold State.moveSlot
  split
  · exact Within.refl _ _
  · lift_lets -underBinder
    intro u1
    subst u1
    intro u2
    clear_value u2
    intro u3
    clear_value u3
    refine (Within.set_cache_vbf (by decide) (by decide)).mpr ?_
    exact Within.refl _ _

theorem State.remirror_within (s : State) :
    Within [.cache, .vbf] s (State.remirror s) := by
  unfold State.remirror
  refine Within.foldl (fun u a h => ?_) ?_
  · split
    · assumption
    · lift_lets -underBinder
      intro u1
      clear_value u1
      split
      · refine Within.step (State.moveSlot_within _ _ _) (by decide) ?_
        assumption
      · assumption
  · exact Within.refl _ _

theorem State.dropFenced_within (s : State) :
    Within [.cache] s (State.dropFenced s) := by
  unfold State.dropFenced
  refine Within.foldl (fun u a h => ?_) ?_
  · refine Within.step (State.setWay_within _ _ _) (by decide) ?_
    assumption
  · exact Within.refl _ _

theorem State.fireHbm_within (s : State) (stack pc : Nat) (v : Severity) (code value : Nat) :
    Within [.hostLogs, .log, .evt] s (State.fireHbm s stack pc v code value) := by
  unfold State.fireHbm
  refine Within.step (State.fire_within _ _ _ _) (by decide) ?_
  exact Within.refl _ _

theorem State.dropFills_within (s : State) :
    Within [.stp] s (State.dropFills s) := by
  unfold State.dropFills
  refine (Within.set_stp (by decide)).mpr ?_
  exact Within.refl _ _

theorem State.loseCache_within (s : State) :
    Within [.cache, .vbf, .stp] s (State.loseCache s) := by
  unfold State.loseCache
  refine Within.step (State.dropFills_within _) (by decide) ?_
  refine (Within.set_cache_vbf (by decide) (by decide)).mpr ?_
  exact Within.refl _ _

theorem State.stackFail_within (s : State) (stack : Nat) :
    Within [.glb, .level, .hostLogs, .cache, .vbf, .stp, .trm, .log, .evt] s (State.stackFail s stack) := by
  unfold State.stackFail
  split
  · exact Within.refl _ _
  · lift_lets -underBinder
    intro u1
    clear_value u1
    intro u2
    clear_value u2
    intro u3
    have h3 : Within [.glb, .level, .hostLogs, .cache, .vbf, .stp, .trm, .log, .evt] s u3 := by
      subst u3
      refine (Within.set_cache (by decide)).mpr ?_
      exact Within.refl _ _
    clear_value u3
    intro u4
    have h4 : Within [.glb, .level, .hostLogs, .cache, .vbf, .stp, .trm, .log, .evt] s u4 := by
      subst u4
      split
      · refine Within.step (State.fireHbm_within _ _ _ _ _ _) (by decide) ?_
        refine Within.step (State.loseCache_within _) (by decide) ?_
        assumption
      · refine Within.step (State.fireHbm_within _ _ _ _ _ _) (by decide) ?_
        refine Within.step (State.remirror_within _) (by decide) ?_
        refine Within.step (State.dropFenced_within _) (by decide) ?_
        assumption
    clear_value u4
    intro u5
    clear_value u5
    intro u6
    have h6 : Within [.glb, .level, .hostLogs, .cache, .vbf, .stp, .trm, .log, .evt] s u6 := by
      subst u6
      refine (Within.set_trm (by decide)).mpr ?_
      assumption
    clear_value u6
    refine Within.step (State.settleLevel_within _) (by decide) ?_
    refine Within.step (State.settleBudget_within _) (by decide) ?_
    assumption

theorem State.fencePc_within (s : State) (stack pc : Nat) :
    Within [.hostLogs, .cache, .vbf, .log, .evt] s (State.fencePc s stack pc) := by
  unfold State.fencePc
  lift_lets -underBinder
  intro u1
  clear_value u1
  intro u2
  have h2 : Within [.hostLogs, .cache, .vbf, .log, .evt] s u2 := by
    subst u2
    refine (Within.set_cache (by decide)).mpr ?_
    exact Within.refl _ _
  clear_value u2
  refine Within.step (State.fireHbm_within _ _ _ _ _ _) (by decide) ?_
  refine Within.step (State.remirror_within _) (by decide) ?_
  refine Within.step (State.dropFenced_within _) (by decide) ?_
  assumption

theorem State.pcFails_within (s : State) (stack pc : Nat) :
    Within [.glb, .level, .hostLogs, .cache, .vbf, .stp, .trm, .log, .evt] s (State.pcFails s stack pc) :=
        by
  unfold State.pcFails
  split
  · exact Within.refl _ _
  · split
    · refine Within.step (State.stackFail_within _ _) (by decide) ?_
      exact Within.refl _ _
    · refine Within.step (State.fencePc_within _ _ _) (by decide) ?_
      exact Within.refl _ _

theorem State.moveVictim_within (s : State) (i : Nat) :
    Within [.cache, .vbf, .stp] s (State.moveVictim s i) := by
  unfold State.moveVictim
  split
  · lift_lets -underBinder
    intro u1
    subst u1
    intro u2
    clear_value u2
    intro u3
    clear_value u3
    intro u4
    clear_value u4
    intro u5
    clear_value u5
    refine (Within.set_cache_vbf_stp (by decide) (by decide) (by decide)).mpr ?_
    exact Within.refl _ _
  · exact Within.refl _ _

theorem State.dropTagSram_within (s : State) (ls : Nat) :
    Within [.cache] s (State.dropTagSram s ls) := by
  unfold State.dropTagSram
  refine (Within.set_cache (by decide)).mpr ?_
  exact Within.refl _ _

theorem State.dropCleanOfSlice_within (s : State) (ls : Nat) :
    Within [.cache] s (State.dropCleanOfSlice s ls) := by
  unfold State.dropCleanOfSlice
  refine Within.foldl (fun u a h => ?_) ?_
  · split
    · refine Within.step (State.setWay_within _ _ _) (by decide) ?_
      assumption
    · assumption
  · exact Within.refl _ _

theorem State.assignBypass_within (s : State) (ls : Nat) :
    Within [.cache] s (State.assignBypass s ls) := by
  unfold State.assignBypass
  split
  · refine Within.step (State.dropCleanOfSlice_within _ _) (by decide) ?_
    refine Within.step (State.modSlice_within _ _ _) (by decide) ?_
    exact Within.refl _ _
  · refine (Within.set_cache (by decide)).mpr ?_
    exact Within.refl _ _

theorem State.coverSlice_within (s : State) (ls : Nat) :
    Within [.cache] s (State.coverSlice s ls) := by
  unfold State.coverSlice
  split
  · refine Within.step (State.dropTagSram_within _ _) (by decide) ?_
    refine Within.step (State.modSlice_within _ _ _) (by decide) ?_
    exact Within.refl _ _
  · refine Within.step (State.assignBypass_within _ _) (by decide) ?_
    exact Within.refl _ _

theorem State.sliceFails_within (s : State) (n : Nat) :
    Within [.glb, .level, .port0, .port1, .hostLogs, .bly, .cache, .vbf, .stp, .wlv, .hly, .log, .evt, .pmu]
        s (State.sliceFails s n) := by
  unfold State.sliceFails
  lift_lets -underBinder
  intro u1
  clear_value u1
  intro u2
  have h2 : Within [.glb, .level, .port0, .port1, .hostLogs, .bly, .cache, .vbf, .stp, .wlv,   .hly, .log,
      .evt, .pmu] s u2 := by
    subst u2
    refine Within.step (State.modSlice_within _ _ _) (by decide) ?_
    exact Within.refl _ _
  clear_value u2
  intro u3
  have h3 : Within [.glb, .level, .port0, .port1, .hostLogs, .bly, .cache, .vbf, .stp, .wlv,   .hly, .log,
      .evt, .pmu] s u3 := by
    subst u3
    split
    · split
      · refine (Within.set_cache (by decide)).mpr ?_
        assumption
      · assumption
    · assumption
  clear_value u3
  intro u4
  subst u4
  intro u5
  subst u5
  intro u6
  clear_value u6
  intro u7
  have h7 : Within [.glb, .level, .port0, .port1, .hostLogs, .bly, .cache, .vbf, .stp, .wlv,   .hly, .log,
      .evt, .pmu] s u7 := by
    subst u7
    refine (Within.set_bly (by decide)).mpr ?_
    assumption
  clear_value u7
  intro u8
  have h8 : Within [.glb, .level, .port0, .port1, .hostLogs, .bly, .cache, .vbf, .stp, .wlv,   .hly, .log,
      .evt, .pmu] s u8 := by
    subst u8
    split
    · refine Within.step (State.coverSlice_within _ _) (by decide) ?_
      assumption
    · assumption
  clear_value u8
  intro u9
  have h9 : Within [.glb, .level, .port0, .port1, .hostLogs, .bly, .cache, .vbf, .stp, .wlv,   .hly, .log,
      .evt, .pmu] s u9 := by
    subst u9
    split
    · refine Within.step (State.assignBypass_within _ _) (by decide) ?_
      assumption
    · assumption
  clear_value u9
  split
  · exact Within.refl _ _
  · refine Within.step (State.retryLookups_within _) (by decide) ?_
    refine Within.step (State.settleLevel_within _) (by decide) ?_
    refine Within.step (State.fire_within _ _ _ _) (by decide) ?_
    assumption

theorem execBelayBankFence_within (b : Fin 8) (s : State) :
    WithinOut [.glb, .level, .port0, .port1, .hostLogs, .bly, .cache, .vbf, .stp, .wlv, .hly, .log, .evt,
        .pmu] s (execBelayBankFence b s) := by
  unfold execBelayBankFence
  refine WithinOut.next ?_
  split
  · exact Within.refl _ _
  · lift_lets -underBinder
    intro u1
    clear_value u1
    intro u2
    have h2 : Within [.glb, .level, .port0, .port1, .hostLogs, .bly, .cache, .vbf, .stp, .wlv,   .hly, .log,
        .evt, .pmu] s u2 := by
      subst u2
      refine (Within.set_bly (by decide)).mpr ?_
      exact Within.refl _ _
    clear_value u2
    intro u3
    have h3 : Within [.glb, .level, .port0, .port1, .hostLogs, .bly, .cache, .vbf, .stp, .wlv,   .hly, .log,
        .evt, .pmu] s u3 := by
      subst u3
      refine Within.foldl (fun u a h => ?_) ?_
      · refine Within.step (State.moveBelay_within _ _) (by decide) ?_
        assumption
      · assumption
    clear_value u3
    refine Within.step (State.retryLookups_within _) (by decide) ?_
    refine Within.step (State.settleLevel_within _) (by decide) ?_
    refine Within.step (State.fire_within _ _ _ _) (by decide) ?_
    assumption

theorem execBelayReissue_within (s : State) :
    WithinOut [.glb, .level, .port0, .port1, .hostLogs, .bly, .cache, .vbf, .stp, .wlv, .hly, .log, .evt,
        .pmu] s (execBelayReissue s) := by
  unfold execBelayReissue
  refine WithinOut.next ?_
  split
  · refine Within.step (State.retryLookups_within _) (by decide) ?_
    exact Within.refl _ _
  · split
    · exact Within.refl _ _
    · refine Within.step (State.retryLookups_within _) (by decide) ?_
      refine (Within.set_bly (by decide)).mpr ?_
      exact Within.refl _ _

theorem execParityEngineFail_within (e : Fin 2) (s : State) :
    WithinOut [.level, .hostLogs, .stp, .log, .evt] s (execParityEngineFail e s) := by
  unfold execParityEngineFail
  refine WithinOut.next ?_
  split
  · exact Within.refl _ _
  · lift_lets -underBinder
    intro u1
    clear_value u1
    intro u2
    have h2 : Within [.level, .hostLogs, .stp, .log, .evt] s u2 := by
      subst u2
      refine (Within.set_stp (by decide)).mpr ?_
      exact Within.refl _ _
    clear_value u2
    refine Within.step (State.settleLevel_within _) (by decide) ?_
    refine Within.step (State.fire_within _ _ _ _) (by decide) ?_
    assumption

theorem execEvictionCancel_within (idx : Nat) (s : State) :
    WithinOut [.cache, .vbf, .stp] s (execEvictionCancel idx s) := by
  unfold execEvictionCancel
  refine WithinOut.next ?_
  split
  · exact Within.refl _ _
  · split
    · exact Within.refl _ _
    · lift_lets -underBinder
      intro u1
      have h1 : Within [.cache, .vbf, .stp] s u1 := by
        subst u1
        refine Within.step (State.cancelEviction_within _ _) (by decide) ?_
        exact Within.refl _ _
      clear_value u1
      split
      · refine Within.step (State.freeVictim_within _ _) (by decide) ?_
        refine Within.step (State.setWay_within _ _ _) (by decide) ?_
        assumption
      · split
        · assumption
        · split
          split
          · refine Within.step (Within.of_fst (State.allocWrite_within _ _ _) (by assumption)) (by decide)
              ?_
            assumption
          · refine Within.step (State.freeVictim_within _ _) (by decide) ?_
            refine Within.step (State.recallInto_within _ _ _ _) (by decide) ?_
            refine Within.step (Within.of_fst (State.allocWrite_within _ _ _) (by assumption)) (by decide)
                ?_
            assumption

theorem execHbmPatrolStep_within (n : Slice) (err : CacheErr) (corrected : Nat) (s : State) :
    WithinOut [.hostLogs, .cache, .wlv, .log, .evt] s (execHbmPatrolStep n err corrected s) := by
  unfold execHbmPatrolStep
  refine WithinOut.next ?_
  split
  · exact Within.refl _ _
  · lift_lets -underBinder
    intro u1
    clear_value u1
    intro u2
    clear_value u2
    intro u3
    have h3 : Within [.hostLogs, .cache, .wlv, .log, .evt] s u3 := by
      subst u3
      refine Within.step (State.modSlice_within _ _ _) (by decide) ?_
      exact Within.refl _ _
    clear_value u3
    intro u4
    clear_value u4
    intro u5
    have h5 : Within [.hostLogs, .cache, .wlv, .log, .evt] s u5 := by
      subst u5
      refine Within.step (State.bucketAddN_within _ _ _ _) (by decide) ?_
      assumption
    clear_value u5
    split
    · refine Within.step (State.cacheError_within _ _ _ _) (by decide) ?_
      assumption
    · assumption

theorem execPseudoChannelFail_within (stack : Stack) (pc : Fin 32) (s : State) :
    WithinOut [.glb, .level, .hostLogs, .cache, .vbf, .stp, .trm, .log, .evt] s (execPseudoChannelFail stack
        pc s) := by
  unfold execPseudoChannelFail
  refine WithinOut.next ?_
  refine Within.step (State.pcFails_within _ _ _) (by decide) ?_
  exact Within.refl _ _

theorem execHbmStackFail_within (stack : Stack) (s : State) :
    WithinOut [.glb, .level, .hostLogs, .cache, .vbf, .stp, .trm, .log, .evt] s (execHbmStackFail stack s)
        := by
  unfold execHbmStackFail
  refine WithinOut.next ?_
  refine Within.step (State.stackFail_within _ _) (by decide) ?_
  exact Within.refl _ _

theorem execVbfBankFence_within (b : Fin 8) (s : State) :
    WithinOut [.level, .hostLogs, .vbf, .log, .evt] s (execVbfBankFence b s) := by
  unfold execVbfBankFence
  refine WithinOut.next ?_
  split
  · exact Within.refl _ _
  · lift_lets -underBinder
    intro u1
    clear_value u1
    intro u2
    clear_value u2
    intro u3
    have h3 : Within [.level, .hostLogs, .vbf, .log, .evt] s u3 := by
      subst u3
      refine (Within.set_vbf (by decide)).mpr ?_
      exact Within.refl _ _
    clear_value u3
    refine Within.step (State.settleLevel_within _) (by decide) ?_
    refine Within.step (State.fire_within _ _ _ _) (by decide) ?_
    assumption

theorem execVbfRebuildComplete_within (b : Fin 8) (s : State) :
    WithinOut [.glb, .level, .port0, .port1, .hostLogs, .bly, .cache, .vbf, .stp, .wlv, .hly, .log, .evt,
        .pmu] s (execVbfRebuildComplete b s) := by
  unfold execVbfRebuildComplete
  refine WithinOut.next ?_
  split
  · exact Within.refl _ _
  · lift_lets -underBinder
    intro u1
    clear_value u1
    intro u2
    have h2 : Within [.glb, .level, .port0, .port1, .hostLogs, .bly, .cache, .vbf, .stp, .wlv,   .hly, .log,
        .evt, .pmu] s u2 := by
      subst u2
      refine Within.foldl (fun u a h => ?_) ?_
      · refine Within.step (State.moveVictim_within _ _) (by decide) ?_
        assumption
      · exact Within.refl _ _
    clear_value u2
    intro u3
    clear_value u3
    intro u4
    have h4 : Within [.glb, .level, .port0, .port1, .hostLogs, .bly, .cache, .vbf, .stp, .wlv,   .hly, .log,
        .evt, .pmu] s u4 := by
      subst u4
      refine (Within.set_vbf (by decide)).mpr ?_
      assumption
    clear_value u4
    refine Within.step (State.retryLookups_within _) (by decide) ?_
    refine Within.step (State.fire_within _ _ _ _) (by decide) ?_
    assumption

theorem State.maintBlock_within (s : State) (n op key : Nat) :
    Within [.cache, .vbf] s (State.maintBlock s n op key) := by
  unfold State.maintBlock
  lift_lets -underBinder
  intro u1
  clear_value u1
  intro u2
  clear_value u2
  intro u3
  subst u3
  split
  · beta_reduce
    refine Within.step (State.modSlice_within _ _ _) (by decide) ?_
    exact Within.refl _ _
  · split
    · split
      · refine Within.step (State.modSlice_within _ _ _) (by decide) ?_
        exact Within.refl _ _
      · refine Within.step (State.setWay_within _ _ _) (by decide) ?_
        exact Within.refl _ _
    · split
      · split
        · refine Within.step (State.setWay_within _ _ _) (by decide) ?_
          exact Within.refl _ _
        · exact Within.refl _ _
      · split
        · beta_reduce
          refine Within.step (State.modSlice_within _ _ _) (by decide) ?_
          exact Within.refl _ _
        · refine Within.step (State.victimise_within _ _ _ _ _) (by decide) ?_
          exact Within.refl _ _

theorem State.preload_within (s : State) (n lsn : Nat) :
    Within [.stp] s (State.preload s n lsn) := by
  unfold State.preload
  split
  · exact Within.refl _ _
  · lift_lets -underBinder
    intro u1
    clear_value u1
    refine Within.step (State.modRead_within _ _ _) (by decide) ?_
    refine Within.step (State.newRead_within _ _ _ _ _ _) (by decide) ?_
    exact Within.refl _ _

theorem State.maintApply_within (s : State) (n op : Nat) :
    Within [.cache, .vbf, .stp] s (State.maintApply s n op) := by
  unfold State.maintApply
  split
  · lift_lets -underBinder
    intro u1
    clear_value u1
    intro u2
    clear_value u2
    refine Within.foldl (fun u a h => ?_) ?_
    · refine Within.step (State.preload_within _ _ _) (by decide) ?_
      assumption
    · exact Within.refl _ _
  · refine Within.foldl (fun u a h => ?_) ?_
    · refine Within.step (State.maintBlock_within _ _ _ _) (by decide) ?_
      assumption
    · exact Within.refl _ _

theorem State.maintGo_within (s : State) (n : Nat) (op : Nat) :
    Within [.cache, .vbf, .stp] s (State.maintGo s n op) := by
  unfold State.maintGo
  lift_lets -underBinder
  intro u1
  clear_value u1
  intro u2
  have h2 : Within [.cache, .vbf, .stp] s u2 := by
    subst u2
    refine Within.step (State.modSlice_within _ _ _) (by decide) ?_
    exact Within.refl _ _
  clear_value u2
  split
  · refine Within.step (State.modSlice_within _ _ _) (by decide) ?_
    exact Within.refl _ _
  · refine Within.step (State.maintApply_within _ _ _) (by decide) ?_
    assumption

theorem execMaintClean_within (n : Slice) (s : State) :
    WithinOut [.cache, .vbf, .stp] s (execMaintClean n s) := by
  unfold execMaintClean
  refine WithinOut.next ?_
  refine Within.step (State.maintGo_within _ _ _) (by decide) ?_
  exact Within.refl _ _

theorem execMaintFlush_within (n : Slice) (s : State) :
    WithinOut [.cache, .vbf, .stp] s (execMaintFlush n s) := by
  unfold execMaintFlush
  refine WithinOut.next ?_
  refine Within.step (State.maintGo_within _ _ _) (by decide) ?_
  exact Within.refl _ _

theorem execMaintDrop_within (n : Slice) (s : State) :
    WithinOut [.cache, .vbf, .stp] s (execMaintDrop n s) := by
  unfold execMaintDrop
  refine WithinOut.next ?_
  refine Within.step (State.maintGo_within _ _ _) (by decide) ?_
  exact Within.refl _ _

theorem execMaintPreload_within (n : Slice) (s : State) :
    WithinOut [.cache, .vbf, .stp] s (execMaintPreload n s) := by
  unfold execMaintPreload
  refine WithinOut.next ?_
  refine Within.step (State.maintGo_within _ _ _) (by decide) ?_
  exact Within.refl _ _

theorem State.maintRetry_within (s : State) (n : Nat) :
    Within [.cache, .vbf] s (State.maintRetry s n) := by
  unfold State.maintRetry
  lift_lets -underBinder
  intro u1
  clear_value u1
  intro u2
  have h2 : Within [.cache, .vbf] s u2 := by
    subst u2
    refine Within.step (State.modSlice_within _ _ _) (by decide) ?_
    exact Within.refl _ _
  clear_value u2
  refine Within.foldl (fun u a h => ?_) ?_
  · split
    · refine Within.step (State.maintBlock_within _ _ _ _) (by decide) ?_
      assumption
    · assumption
  · assumption

theorem execMaintDone_within (n : Slice) (s : State) :
    WithinOut [.cache, .vbf] s (execMaintDone n s) := by
  unfold execMaintDone
  refine WithinOut.next ?_
  split
  · exact Within.refl _ _
  · lift_lets -underBinder
    intro u1
    have h1 : Within [.cache, .vbf] s u1 := by
      subst u1
      refine Within.step (State.maintRetry_within _ _) (by decide) ?_
      exact Within.refl _ _
    clear_value u1
    split
    · assumption
    · refine Within.step (State.modSlice_within _ _ _) (by decide) ?_
      assumption

theorem execSliceFail_within (n : Slice) (s : State) :
    WithinOut [.glb, .level, .port0, .port1, .hostLogs, .bly, .cache, .vbf, .stp, .wlv, .hly, .log, .evt,
        .pmu] s (execSliceFail n s) := by
  unfold execSliceFail
  refine WithinOut.next ?_
  refine Within.step (State.sliceFails_within _ _) (by decide) ?_
  exact Within.refl _ _

theorem execHandoverCutover_within (out inc : Slice) (s : State) :
    WithinOut [.cache] s (execHandoverCutover out inc s) := by
  unfold execHandoverCutover
  split
  · refine WithinOut.next ?_
    split
    · exact Within.refl _ _
    · split
      · exact Within.refl _ _
      · lift_lets -underBinder
        intro u1
        have h1 : Within [.cache] s u1 := by
          subst u1
          refine Within.step (State.modSlice_within _ _ _) (by decide) ?_
          exact Within.refl _ _
        clear_value u1
        intro u2
        have h2 : Within [.cache] s u2 := by
          subst u2
          refine Within.step (State.modSlice_within _ _ _) (by decide) ?_
          assumption
        clear_value u2
        intro u3
        clear_value u3
        refine (Within.set_cache (by decide)).mpr ?_
        assumption
  · exact WithinOut.fault _ _ _

theorem execHandoverEnd_within (s : State) :
    WithinOut [.level, .hostLogs, .cache, .log, .evt] s (execHandoverEnd s) := by
  unfold execHandoverEnd
  refine WithinOut.next ?_
  split
  · exact Within.refl _ _
  · split
    · exact Within.refl _ _
    · lift_lets -underBinder
      intro u1
      have h1 : Within [.level, .hostLogs, .cache, .log, .evt] s u1 := by
        subst u1
        refine Within.step (State.modSlice_within _ _ _) (by decide) ?_
        exact Within.refl _ _
      clear_value u1
      intro u2
      clear_value u2
      refine Within.step (State.settleLevel_within _) (by decide) ?_
      refine (Within.set_cache (by decide)).mpr ?_
      assumption

theorem execHandoverAbandon_within (s : State) :
    WithinOut [.level, .hostLogs, .cache, .log, .evt] s (execHandoverAbandon s) := by
  unfold execHandoverAbandon
  refine WithinOut.next ?_
  split
  · exact Within.refl _ _
  · split
    · exact Within.refl _ _
    · lift_lets -underBinder
      intro u1
      have h1 : Within [.level, .hostLogs, .cache, .log, .evt] s u1 := by
        subst u1
        refine Within.step (State.modSlice_within _ _ _) (by decide) ?_
        exact Within.refl _ _
      clear_value u1
      intro u2
      have h2 : Within [.level, .hostLogs, .cache, .log, .evt] s u2 := by
        subst u2
        refine Within.step (State.modSlice_within _ _ _) (by decide) ?_
        assumption
      clear_value u2
      intro u3
      clear_value u3
      intro u4
      have h4 : Within [.level, .hostLogs, .cache, .log, .evt] s u4 := by
        subst u4
        refine (Within.set_cache (by decide)).mpr ?_
        assumption
      clear_value u4
      refine Within.step (State.settleLevel_within _) (by decide) ?_
      refine Within.step (State.fire_within _ _ _ _) (by decide) ?_
      assumption

end Sys2Proof.Machine
end

