-- ==== Sys2Proof/Laws/FramePower.lean ====
section
/-! SUPPORT. Frames: which parts of the state each operation and each meaning may change (reset operations, power, settings and module operations).
A later frame cites the frames of the operations it calls and unfolds none of them. -/

namespace Sys2Proof.Machine

open Sys2Proof

theorem State.modLatch_within (s : State) (p : Path) (f : Latches → Latches) :
    Within [.latches] s (State.modLatch s p f) := by
  unfold State.modLatch
  refine (Within.set_latches (by decide)).mpr ?_
  exact Within.refl _ _

theorem State.cutSlice_within (s : State) :
    Within [.kce, .trm] s (State.cutSlice s) := by
  unfold State.cutSlice
  split
  · exact Within.refl _ _
  · lift_lets -underBinder
    intro u1
    have h1 : Within [.kce, .trm] s u1 := by
      subst u1
      split
      · refine Within.step (State.dropLock_within _) (by decide) ?_
        exact Within.refl _ _
      · exact Within.refl _ _
    clear_value u1
    intro u2
    clear_value u2
    refine (Within.set_trm (by decide)).mpr ?_
    assumption

theorem State.undoRetry_within (s : State) (m : Nat) :
    Within [.glb, .level, .port0, .port1, .hostLogs, .bly, .cache, .vbf, .stp, .wlv, .media, .kce, .mst,
        .hly, .seq, .log, .sea, .evt, .pmu] s (State.undoRetry s m) := by
  unfold State.undoRetry
  lift_lets -underBinder
  intro u1
  clear_value u1
  intro u2
  have h2 : Within [.glb, .level, .port0, .port1, .hostLogs, .bly, .cache, .vbf, .stp, .wlv,   .media, .kce,
      .mst, .hly, .seq, .log, .sea, .evt, .pmu] s u2 := by
    subst u2
    refine Within.step (State.completeBg_within _ _ _ _ _) (by decide) ?_
    exact Within.refl _ _
  clear_value u2
  split
  · refine Within.step (State.endErase_within _ _) (by decide) ?_
    assumption
  · refine Within.step (State.endErase_within _ _) (by decide) ?_
    assumption
  · refine Within.step (State.endFormat_within _) (by decide) ?_
    assumption
  · split
    · refine Within.step (State.modSlot_within _ _ _) (by decide) ?_
      assumption
    · assumption
  · refine Within.step (State.sealFails_within _ _) (by decide) ?_
    assumption
  · refine Within.step (State.verifyFails_within _ _) (by decide) ?_
    assumption
  · split
    · refine Within.step (State.modSlot_within _ _ _) (by decide) ?_
      assumption
    · assumption
  · assumption

theorem State.settleMailbox_within (s : State) (m : Nat) :
    Within [.glb, .level, .port0, .port1, .hostLogs, .bly, .cache, .vbf, .stp, .wlv, .media, .kce, .mst,
        .hly, .seq, .log, .sea, .evt, .pmu] s (State.settleMailbox s m) := by
  unfold State.settleMailbox
  lift_lets -underBinder
  intro u1
  clear_value u1
  intro u2
  have h2 : Within [.glb, .level, .port0, .port1, .hostLogs, .bly, .cache, .vbf, .stp, .wlv,   .media, .kce,
      .mst, .hly, .seq, .log, .sea, .evt, .pmu] s u2 := by
    subst u2
    split
    · split
      · refine Within.step (State.completeBg_within _ _ _ _ _) (by decide) ?_
        exact Within.refl _ _
      · refine Within.step (State.undoRetry_within _ _) (by decide) ?_
        exact Within.refl _ _
    · exact Within.refl _ _
  clear_value u2
  intro u3
  clear_value u3
  intro u4
  have h4 : Within [.glb, .level, .port0, .port1, .hostLogs, .bly, .cache, .vbf, .stp, .wlv,   .media, .kce,
      .mst, .hly, .seq, .log, .sea, .evt, .pmu] s u4 := by
    subst u4
    split
    · refine (Within.set_log (by decide)).mpr ?_
      assumption
    · assumption
  clear_value u4
  split
  · refine Within.step (State.refuseRc_within _ _ _) (by decide) ?_
    assumption
  · assumption

theorem State.settleMailboxes_within (s : State) :
    Within [.glb, .level, .port0, .port1, .hostLogs, .bly, .cache, .vbf, .stp, .wlv, .media, .kce, .mst,
        .hly, .seq, .log, .sea, .evt, .pmu] s (State.settleMailboxes s) := by
  unfold State.settleMailboxes
  refine Within.foldl (fun u a h => ?_) ?_
  · refine Within.step (State.settleMailbox_within _ _) (by decide) ?_
    assumption
  · exact Within.refl _ _

theorem State.fireTakeover_within (s : State) (row : Nat) :
    Within [.hostLogs, .log, .evt] s (State.fireTakeover s row) := by
  unfold State.fireTakeover
  refine Within.step (State.fire_within _ _ _ _) (by decide) ?_
  exact Within.refl _ _

theorem State.forceTakeover_within (s : State) :
    Within [.hostLogs, .mst, .log, .evt] s (State.forceTakeover s) := by
  unfold State.forceTakeover
  split
  · exact Within.refl _ _
  · refine Within.step (State.fireTakeover_within _ _) (by decide) ?_
    refine (Within.set_mst (by decide)).mpr ?_
    exact Within.refl _ _

theorem State.coreResetNow_within (s : State) (source : Nat) :
    Within [.latches, .glb, .level, .port0, .port1, .hostLogs, .bly, .cache, .vbf, .stp, .wlv, .media, .kce,
        .mst, .hly, .seq, .rst, .trm, .log, .sea, .dty, .evt, .pmu] s (State.coreResetNow s source) := by
  unfold State.coreResetNow
  lift_lets -underBinder
  intro u1 u2
  have h2 : Within [.latches, .glb, .level, .port0, .port1, .hostLogs, .bly, .cache, .vbf, .stp,   .wlv,
      .media, .kce, .mst, .hly, .seq, .rst, .trm, .log, .sea, .dty,   .evt, .pmu] s u2 := by
    subst u2
    refine Within.step (State.forceTakeover_within _) (by decide) ?_
    exact Within.refl _ _
  intro u3 u4
  have h4 : Within [.latches, .glb, .level, .port0, .port1, .hostLogs, .bly, .cache, .vbf, .stp,   .wlv,
      .media, .kce, .mst, .hly, .seq, .rst, .trm, .log, .sea, .dty,   .evt, .pmu] s u4 := by
    subst u4
    refine (Within.set_latches_mst_rst (by decide) (by decide) (by decide)).mpr ?_
    assumption
  intro u5 u6
  have h6 : Within [.latches, .glb, .level, .port0, .port1, .hostLogs, .bly, .cache, .vbf, .stp,   .wlv,
      .media, .kce, .mst, .hly, .seq, .rst, .trm, .log, .sea, .dty,   .evt, .pmu] s u6 := by
    subst u6
    refine (Within.set_dty (by decide)).mpr ?_
    assumption
  intro u7
  have h7 : Within [.latches, .glb, .level, .port0, .port1, .hostLogs, .bly, .cache, .vbf, .stp,   .wlv,
      .media, .kce, .mst, .hly, .seq, .rst, .trm, .log, .sea, .dty,   .evt, .pmu] s u7 := by
    subst u7
    refine Within.step (State.cutSlice_within _) (by decide) ?_
    refine Within.step (State.bootStage_within _ _) (by decide) ?_
    assumption
  intro u8
  have h8 : Within [.latches, .glb, .level, .port0, .port1, .hostLogs, .bly, .cache, .vbf, .stp,   .wlv,
      .media, .kce, .mst, .hly, .seq, .rst, .trm, .log, .sea, .dty,   .evt, .pmu] s u8 := by
    subst u8
    split
    · refine Within.step (State.dropLock_within _) (by decide) ?_
      assumption
    · assumption
  clear_value u8
  intro u9
  have h9 : Within [.latches, .glb, .level, .port0, .port1, .hostLogs, .bly, .cache, .vbf, .stp,   .wlv,
      .media, .kce, .mst, .hly, .seq, .rst, .trm, .log, .sea, .dty,   .evt, .pmu] s u9 := by
    subst u9
    refine Within.step (State.fire_within _ _ _ _) (by decide) ?_
    assumption
  clear_value u9
  refine Within.step (State.settleLevel_within _) (by decide) ?_
  refine Within.step (State.settleMailboxes_within _) (by decide) ?_
  assumption

theorem State.sysResetNow_within (s : State) (source : Nat) :
    Within [.latches, .glb, .level, .port0, .port1, .hostLogs, .bly, .cache, .vbf, .stp, .wlv, .mch, .shr,
        .kce, .mst, .hly, .seq, .reef, .clk, .rst, .tel, .trm, .log, .sea, .dty, .evt, .pmu, .dbg] s
        (State.sysResetNow s source) := by
  unfold State.sysResetNow
  lift_lets -underBinder
  intro u1
  clear_value u1
  intro u2
  clear_value u2
  intro u3
  clear_value u3
  intro u4
  clear_value u4
  intro u5
  clear_value u5
  intro u6
  clear_value u6
  intro u7
  clear_value u7
  intro u8
  clear_value u8
  intro u9
  clear_value u9
  intro u10
  clear_value u10
  intro u11
  clear_value u11
  intro u12
  clear_value u12
  intro u13
  clear_value u13
  exact ⟨fun p hp => by cases p <;> first | exact rfl | exact absurd (by decide) hp⟩

theorem State.ponResetNow_within (s : State) (source : Nat) :
    Within [.latches, .glb, .level, .port0, .port1, .hostLogs, .bly, .cache, .vbf, .stp, .wlv, .mch, .shr,
        .kce, .mst, .hly, .seq, .reef, .clk, .rst, .tel, .trm, .log, .sea, .dty, .evt, .pmu, .dbg] s
        (State.ponResetNow s source) := by
  unfold State.ponResetNow
  exact ⟨fun p hp => by cases p <;> first | exact rfl | exact absurd (by decide) hp⟩

theorem State.holdRequest_within (s : State) (r : ResetReq) :
    Within [.glb, .level, .rst] s (State.holdRequest s r) := by
  unfold State.holdRequest
  refine (Within.set_glb_rst (by decide) (by decide) (by decide)).mpr ?_
  exact Within.refl _ _

theorem State.beginHoldOff_within (s : State) :
    Within [.glb, .level, .port0, .port1, .hostLogs, .bly, .cache, .vbf, .stp, .wlv, .hly, .seq, .rst, .log,
        .evt, .pmu] s (State.beginHoldOff s) := by
  unfold State.beginHoldOff
  split
  · exact Within.refl _ _
  · split
    · exact Within.refl _ _
    · lift_lets -underBinder
      intro u1
      have h1 : Within [.glb, .level, .port0, .port1, .hostLogs, .bly, .cache, .vbf, .stp, .wlv,   .hly,
          .seq, .rst, .log, .evt, .pmu] s u1 := by
        subst u1
        refine Within.step (State.holdRequest_within _ _) (by decide) ?_
        exact Within.refl _ _
      clear_value u1
      split
      · refine Within.step (State.dumpStart_within _) (by decide) ?_
        assumption
      · assumption

theorem State.requestReset_within (s : State) (level : ResetLevel) (source : Nat) :
    Within [.glb, .level, .port0, .port1, .hostLogs, .bly, .cache, .vbf, .stp, .wlv, .mch, .hly, .seq, .rst,
        .log, .evt, .pmu] s (State.requestReset s level source) := by
  unfold State.requestReset
  lift_lets -underBinder
  intro u1
  subst u1
  intro u2
  clear_value u2
  intro u3
  clear_value u3
  intro u4
  clear_value u4
  intro u5
  have h5 : Within [.glb, .level, .port0, .port1, .hostLogs, .bly, .cache, .vbf, .stp, .wlv,   .mch, .hly,
      .seq, .rst, .log, .evt, .pmu] s u5 := by
    subst u5
    refine (Within.set_rst (by decide)).mpr ?_
    exact Within.refl _ _
  clear_value u5
  split
  · exact Within.refl _ _
  · refine Within.step (State.beginHoldOff_within _) (by decide) ?_
    assumption

theorem State.enterDown_within (s : State) :
    Within [.glb, .level, .port0, .port1, .hostLogs, .mch, .mst, .seq, .clk, .rst, .dty, .dbg] s
        (State.enterDown s) := by
  unfold State.enterDown
  refine (Within.set_glb_port0_port1_mch_mst_seq_clk_rst_dty_dbg (by decide) (by decide) (by decide) (by
      decide) (by decide) (by decide) (by decide) (by decide) (by decide) (by decide) (by decide) (by
      decide)).mpr ?_
  exact Within.refl _ _

theorem State.railsOff_within (s : State) :
    Within [.seq] s (State.railsOff s) := by
  unfold State.railsOff
  refine (Within.set_seq (by decide)).mpr ?_
  exact Within.refl _ _

theorem State.powerUp_within (s : State) :
    Within [.latches, .glb, .level, .port0, .port1, .hostLogs, .bly, .cache, .vbf, .stp, .wlv, .mch, .shr,
        .kce, .mst, .hly, .seq, .reef, .clk, .rst, .tel, .trm, .log, .sea, .dty, .evt, .pmu, .dbg] s
        (State.powerUp s) := by
  unfold State.powerUp
  split
  · refine Within.step (State.ponResetNow_within _ _) (by decide) ?_
    exact Within.refl _ _
  · lift_lets -underBinder
    intro u1
    clear_value u1
    intro u2
    clear_value u2
    intro u3
    have h3 : Within [.latches, .glb, .level, .port0, .port1, .hostLogs, .bly, .cache, .vbf, .stp,   .wlv,
        .mch, .shr, .kce, .mst, .hly, .seq, .reef, .clk, .rst, .tel,   .trm, .log, .sea, .dty, .evt, .pmu,
        .dbg] s u3 := by
      subst u3
      refine (Within.set_rst (by decide)).mpr ?_
      exact Within.refl _ _
    clear_value u3
    intro u4
    have h4 : Within [.latches, .glb, .level, .port0, .port1, .hostLogs, .bly, .cache, .vbf, .stp,   .wlv,
        .mch, .shr, .kce, .mst, .hly, .seq, .reef, .clk, .rst, .tel,   .trm, .log, .sea, .dty, .evt, .pmu,
        .dbg] s u4 := by
      subst u4
      refine Within.step (State.sysResetNow_within _ _) (by decide) ?_
      assumption
    clear_value u4
    intro u5
    clear_value u5
    intro u6
    have h6 : Within [.latches, .glb, .level, .port0, .port1, .hostLogs, .bly, .cache, .vbf, .stp,   .wlv,
        .mch, .shr, .kce, .mst, .hly, .seq, .reef, .clk, .rst, .tel,   .trm, .log, .sea, .dty, .evt, .pmu,
        .dbg] s u6 := by
      subst u6
      split
      · refine (Within.set_rst (by decide)).mpr ?_
        assumption
      · assumption
    clear_value u6
    intro u7
    clear_value u7
    refine (Within.set_seq (by decide)).mpr ?_
    assumption

theorem execRailWarning_within (r : Fin 7) (s : State) :
    WithinOut [.hostLogs, .seq, .log, .evt] s (execRailWarning r s) := by
  unfold execRailWarning
  refine WithinOut.next ?_
  split
  · exact Within.refl _ _
  · refine Within.step (State.fireSub_within _ _ _ _ _) (by decide) ?_
    refine (Within.set_seq (by decide)).mpr ?_
    exact Within.refl _ _

theorem execRailFault_within (r : Fin 7) (s : State) :
    WithinOut [.glb, .level, .port0, .port1, .hostLogs, .bly, .cache, .vbf, .stp, .wlv, .mch, .hly, .seq,
        .tel, .log, .evt, .pmu] s (execRailFault r s) := by
  unfold execRailFault
  refine WithinOut.next ?_
  split
  · exact Within.refl _ _
  · lift_lets -underBinder
    intro u1 u2
    have h2 : Within [.glb, .level, .port0, .port1, .hostLogs, .bly, .cache, .vbf, .stp, .wlv,   .mch, .hly,
        .seq, .tel, .log, .evt, .pmu] s u2 := by
      subst u2
      refine (Within.set_seq (by decide)).mpr ?_
      exact Within.refl _ _
    intro u3
    have h3 : Within [.glb, .level, .port0, .port1, .hostLogs, .bly, .cache, .vbf, .stp, .wlv,   .mch, .hly,
        .seq, .tel, .log, .evt, .pmu] s u3 := by
      subst u3
      split
      · assumption
      · refine Within.step (State.fire_within _ _ _ _) (by decide) ?_
        assumption
    clear_value u3
    refine Within.step (State.shutdown_within _ _) (by decide) ?_
    assumption

theorem execOverVoltage_within (s : State) :
    WithinOut [.hostLogs, .seq, .log, .evt] s (execOverVoltage s) := by
  unfold execOverVoltage
  refine WithinOut.next ?_
  lift_lets -underBinder
  intro u1
  clear_value u1
  intro u2
  have h2 : Within [.hostLogs, .seq, .log, .evt] s u2 := by
    subst u2
    refine (Within.set_seq (by decide)).mpr ?_
    exact Within.refl _ _
  clear_value u2
  intro u3
  clear_value u3
  split
  · refine Within.step (State.fire_within _ _ _ _) (by decide) ?_
    refine (Within.set_seq (by decide)).mpr ?_
    assumption
  · assumption

theorem execInputStable_within (s : State) :
    WithinOut [.latches, .glb, .level, .port0, .port1, .hostLogs, .bly, .cache, .vbf, .stp, .wlv, .mch,
        .shr, .kce, .mst, .hly, .seq, .reef, .clk, .rst, .tel, .trm, .log, .sea, .dty, .evt, .pmu, .dbg] s
        (execInputStable s) := by
  unfold execInputStable
  refine WithinOut.next ?_
  lift_lets -underBinder
  intro u1
  clear_value u1
  intro u2
  have h2 : Within [.latches, .glb, .level, .port0, .port1, .hostLogs, .bly, .cache, .vbf, .stp,   .wlv,
      .mch, .shr, .kce, .mst, .hly, .seq, .reef, .clk, .rst, .tel,   .trm, .log, .sea, .dty, .evt, .pmu,
      .dbg] s u2 := by
    subst u2
    refine (Within.set_seq (by decide)).mpr ?_
    exact Within.refl _ _
  clear_value u2
  split
  · refine Within.step (State.powerUp_within _) (by decide) ?_
    assumption
  · assumption

theorem State.warnInResume_within (s : State) :
    Within [.glb, .level, .port0, .port1, .hostLogs, .bly, .cache, .vbf, .stp, .wlv, .hly, .seq, .log, .evt,
        .pmu] s (State.warnInResume s) := by
  unfold State.warnInResume
  lift_lets -underBinder
  intro u1
  clear_value u1
  intro u2
  clear_value u2
  intro u3
  have h3 : Within [.glb, .level, .port0, .port1, .hostLogs, .bly, .cache, .vbf, .stp, .wlv,   .hly, .seq,
      .log, .evt, .pmu] s u3 := by
    subst u3
    refine (Within.set_glb_seq (by decide) (by decide) (by decide)).mpr ?_
    exact Within.refl _ _
  clear_value u3
  refine Within.step (State.dumpStart_within _) (by decide) ?_
  assumption

theorem execPowerFailWarning_within (s : State) :
    WithinOut [.glb, .level, .port0, .port1, .hostLogs, .bly, .cache, .vbf, .stp, .wlv, .mch, .mst, .hly,
        .seq, .clk, .rst, .tel, .log, .dty, .evt, .pmu, .dbg] s (execPowerFailWarning s) := by
  unfold execPowerFailWarning
  refine WithinOut.next ?_
  lift_lets -underBinder
  intro u1
  clear_value u1
  intro u2
  clear_value u2
  intro u3
  have h3 : Within [.glb, .level, .port0, .port1, .hostLogs, .bly, .cache, .vbf, .stp, .wlv,   .mch, .mst,
      .hly, .seq, .clk, .rst, .tel, .log, .dty, .evt, .pmu,   .dbg] s u3 := by
    subst u3
    refine (Within.set_seq_tel (by decide) (by decide)).mpr ?_
    exact Within.refl _ _
  clear_value u3
  split
  · refine Within.step (State.shutdown_within _ _) (by decide) ?_
    assumption
  · refine Within.step (State.railsOff_within _) (by decide) ?_
    refine Within.step (State.enterDown_within _) (by decide) ?_
    assumption
  · refine Within.step (State.warnInResume_within _) (by decide) ?_
    assumption
  · refine (Within.set_seq (by decide)).mpr ?_
    assumption
  · assumption

theorem execShutdownRequest_within (s : State) :
    WithinOut [.glb, .level, .port0, .port1, .hostLogs, .bly, .cache, .vbf, .stp, .wlv, .mch, .hly, .seq,
        .tel, .log, .evt, .pmu] s (execShutdownRequest s) := by
  unfold execShutdownRequest
  refine WithinOut.next ?_
  lift_lets -underBinder
  intro u1
  clear_value u1
  intro u2
  have h2 : Within [.glb, .level, .port0, .port1, .hostLogs, .bly, .cache, .vbf, .stp, .wlv,   .mch, .hly,
      .seq, .tel, .log, .evt, .pmu] s u2 := by
    subst u2
    refine (Within.set_seq (by decide)).mpr ?_
    exact Within.refl _ _
  clear_value u2
  refine Within.step (State.shutdown_within _ _) (by decide) ?_
  refine Within.step (State.holdupAbort_within _) (by decide) ?_
  assumption

theorem execOverTemperature_within (sensor : Fin 16) (tempC : Nat) (s : State) :
    WithinOut [.glb, .level, .port0, .port1, .hostLogs, .bly, .cache, .vbf, .stp, .wlv, .mch, .hly, .seq,
        .tel, .log, .evt, .pmu] s (execOverTemperature sensor tempC s) := by
  unfold execOverTemperature
  refine WithinOut.next ?_
  split
  · exact Within.refl _ _
  · refine Within.step (State.shutdown_within _ _) (by decide) ?_
    refine Within.step (State.fire_within _ _ _ _) (by decide) ?_
    exact Within.refl _ _

theorem execStrikePoint_within (below : Bool) (pages : Nat) (s : State) :
    WithinOut [.glb, .level, .media, .mch, .seq] s (execStrikePoint below pages s) := by
  unfold execStrikePoint
  refine WithinOut.next ?_
  lift_lets -underBinder
  intro u1 u2
  have h2 : Within [.glb, .level, .media, .mch, .seq] s u2 := by
    subst u2
    refine (Within.set_seq (by decide)).mpr ?_
    exact Within.refl _ _
  split
  · assumption
  · split
    · refine Within.step (State.enterStrike_within _) (by decide) ?_
      refine Within.step (State.dumpStops_within _ _) (by decide) ?_
      assumption
    · assumption

theorem execResumeQualified_within (s : State) :
    WithinOut [.seq] s (execResumeQualified s) := by
  unfold execResumeQualified
  refine WithinOut.next ?_
  split
  · exact Within.refl _ _
  · refine (Within.set_seq (by decide)).mpr ?_
    exact Within.refl _ _

theorem execAbandonConfirmed_within (s : State) :
    WithinOut [.glb, .level, .port0, .port1, .hostLogs, .bly, .cache, .vbf, .stp, .wlv, .media, .mch, .kce,
        .mst, .hly, .seq, .rst, .tel, .log, .evt, .pmu] s (execAbandonConfirmed s) := by
  unfold execAbandonConfirmed
  refine WithinOut.next ?_
  split
  · exact Within.refl _ _
  · lift_lets -underBinder
    intro u1
    clear_value u1
    intro u2
    clear_value u2
    intro u3
    clear_value u3
    intro u4
    have h4 : Within [.glb, .level, .port0, .port1, .hostLogs, .bly, .cache, .vbf, .stp, .wlv,   .media,
        .mch, .kce, .mst, .hly, .seq, .rst, .tel, .log, .evt, .pmu] s u4 := by
      subst u4
      refine (Within.set_media_seq (by decide) (by decide)).mpr ?_
      exact Within.refl _ _
    clear_value u4
    intro u5
    clear_value u5
    intro u6
    have h6 : Within [.glb, .level, .port0, .port1, .hostLogs, .bly, .cache, .vbf, .stp, .wlv,   .media,
        .mch, .kce, .mst, .hly, .seq, .rst, .tel, .log, .evt, .pmu] s u6 := by
      subst u6
      refine Within.step (State.fire_within _ _ _ _) (by decide) ?_
      refine Within.step (State.reopen_within _) (by decide) ?_
      assumption
    clear_value u6
    intro u7
    have h7 : Within [.glb, .level, .port0, .port1, .hostLogs, .bly, .cache, .vbf, .stp, .wlv,   .media,
        .mch, .kce, .mst, .hly, .seq, .rst, .tel, .log, .evt, .pmu] s u7 := by
      subst u7
      split
      · refine Within.step (State.shutdown_within _ _) (by decide) ?_
        assumption
      · assumption
    clear_value u7
    refine Within.step (State.beginHoldOff_within _) (by decide) ?_
    assumption

theorem State.softOff_within (s : State) :
    Within [.seq] s (State.softOff s) := by
  unfold State.softOff
  split
  · exact Within.refl _ _
  · refine Within.step (State.railsOff_within _) (by decide) ?_
    exact Within.refl _ _

theorem execRailDisableStep_within (s : State) :
    WithinOut [.glb, .level, .port0, .port1, .hostLogs, .mch, .mst, .seq, .clk, .rst, .dty, .dbg] s
        (execRailDisableStep s) := by
  unfold execRailDisableStep
  refine WithinOut.next ?_
  split
  · exact Within.refl _ _
  · lift_lets -underBinder
    intro u1
    have h1 : Within [.glb, .level, .port0, .port1, .hostLogs, .mch, .mst, .seq, .clk, .rst,   .dty, .dbg] s
        u1 := by
      subst u1
      refine Within.step (State.softOff_within _) (by decide) ?_
      exact Within.refl _ _
    clear_value u1
    split
    · refine Within.step (State.enterDown_within _) (by decide) ?_
      assumption
    · lift_lets -underBinder
      intro u2
      clear_value u2
      intro u3
      clear_value u3
      intro u4
      have h4 : Within [.glb, .level, .port0, .port1, .hostLogs, .mch, .mst, .seq, .clk, .rst,   .dty, .dbg]
          s u4 := by
        subst u4
        refine (Within.set_seq (by decide)).mpr ?_
        assumption
      clear_value u4
      split
      · refine Within.step (State.enterDown_within _) (by decide) ?_
        assumption
      · assumption

theorem State.powerEvent_within (s : State) (phase rail slot timeUs : Nat) :
    Within [.dty] s (State.powerEvent s phase rail slot timeUs) := by
  unfold State.powerEvent
  split
  · exact Within.refl _ _
  · refine (Within.set_dty (by decide)).mpr ?_
    exact Within.refl _ _

theorem execPowerdownRailFail_within (what : DownFail) (timeUs : Nat) (s : State) :
    WithinOut [.mch, .seq, .dty] s (execPowerdownRailFail what timeUs s) := by
  unfold execPowerdownRailFail
  refine WithinOut.next ?_
  split
  · exact Within.refl _ _
  · lift_lets -underBinder
    intro u1
    subst u1
    split
    · split
      · exact Within.refl _ _
      · lift_lets -underBinder
        intro u2
        clear_value u2
        intro u3
        have h3 : Within [.mch, .seq, .dty] s u3 := by
          subst u3
          refine (Within.set_seq (by decide)).mpr ?_
          exact Within.refl _ _
        clear_value u3
        beta_reduce
        refine (Within.set_seq (by decide)).mpr ?_
        refine Within.step (State.powerEvent_within _ _ _ _ _) (by decide) ?_
        assumption
    · split
      · exact Within.refl _ _
      · lift_lets -underBinder
        intro u4
        have h4 : Within [.mch, .seq, .dty] s u4 := by
          subst u4
          refine Within.step (State.modSlot_within _ _ _) (by decide) ?_
          exact Within.refl _ _
        clear_value u4
        beta_reduce
        refine (Within.set_seq (by decide)).mpr ?_
        refine Within.step (State.powerEvent_within _ _ _ _ _) (by decide) ?_
        assumption

theorem State.groupOn_within (s : State) :
    Within [.glb, .level, .port0, .port1, .hostLogs, .bly, .cache, .vbf, .stp, .wlv, .kce, .hly, .seq, .log,
        .evt, .pmu] s (State.groupOn s) := by
  unfold State.groupOn
  split
  · exact Within.refl _ _
  · refine (Within.set_seq (by decide)).mpr ?_
    exact Within.refl _ _

theorem State.enterRun_within (s : State) :
    Within [.glb, .level, .port0, .port1, .hostLogs, .bly, .cache, .vbf, .stp, .wlv, .mch, .kce, .hly, .seq,
        .rst, .tel, .log, .dty, .evt, .pmu] s (State.enterRun s) := by
  unfold State.enterRun
  lift_lets -underBinder
  intro u1
  clear_value u1
  intro u2
  have h2 : Within [.glb, .level, .port0, .port1, .hostLogs, .bly, .cache, .vbf, .stp, .wlv,   .mch, .kce,
      .hly, .seq, .rst, .tel, .log, .dty, .evt, .pmu] s u2 := by
    subst u2
    refine (Within.set_seq (by decide)).mpr ?_
    exact Within.refl _ _
  clear_value u2
  intro u3
  have h3 : Within [.glb, .level, .port0, .port1, .hostLogs, .bly, .cache, .vbf, .stp, .wlv,   .mch, .kce,
      .hly, .seq, .rst, .tel, .log, .dty, .evt, .pmu] s u3 := by
    subst u3
    refine Within.step (State.groupOn_within _) (by decide) ?_
    refine Within.step (State.bootStage_within _ _) (by decide) ?_
    assumption
  clear_value u3
  intro u4
  have h4 : Within [.glb, .level, .port0, .port1, .hostLogs, .bly, .cache, .vbf, .stp, .wlv,   .mch, .kce,
      .hly, .seq, .rst, .tel, .log, .dty, .evt, .pmu] s u4 := by
    subst u4
    split
    · refine Within.step (State.shutdown_within _ _) (by decide) ?_
      assumption
    · assumption
  clear_value u4
  refine Within.step (State.beginHoldOff_within _) (by decide) ?_
  assumption

theorem execRailInWindow_within (r : Fin 7) (s : State) :
    WithinOut [.glb, .level, .port0, .port1, .hostLogs, .bly, .cache, .vbf, .stp, .wlv, .mch, .kce, .hly,
        .seq, .rst, .tel, .log, .dty, .evt, .pmu] s (execRailInWindow r s) := by
  unfold execRailInWindow
  refine WithinOut.next ?_
  split
  · exact Within.refl _ _
  · lift_lets -underBinder
    intro u1
    clear_value u1
    intro u2
    clear_value u2
    split
    · refine Within.step (State.enterRun_within _) (by decide) ?_
      refine (Within.set_seq (by decide)).mpr ?_
      exact Within.refl _ _
    · refine (Within.set_seq (by decide)).mpr ?_
      exact Within.refl _ _

theorem execRampRailFail_within (r : Fin 7) (timeUs : Nat) (s : State) :
    WithinOut [.glb, .level, .port0, .port1, .hostLogs, .mch, .mst, .seq, .clk, .rst, .dty, .dbg] s
        (execRampRailFail r timeUs s) := by
  unfold execRampRailFail
  refine WithinOut.next ?_
  split
  · exact Within.refl _ _
  · lift_lets -underBinder
    intro u1
    have h1 : Within [.glb, .level, .port0, .port1, .hostLogs, .mch, .mst, .seq, .clk, .rst,   .dty, .dbg] s
        u1 := by
      subst u1
      refine Within.step (State.powerEvent_within _ _ _ _ _) (by decide) ?_
      exact Within.refl _ _
    clear_value u1
    intro u2
    clear_value u2
    intro u3
    have h3 : Within [.glb, .level, .port0, .port1, .hostLogs, .mch, .mst, .seq, .clk, .rst,   .dty, .dbg] s
        u3 := by
      subst u3
      refine (Within.set_seq (by decide)).mpr ?_
      assumption
    clear_value u3
    intro u4
    clear_value u4
    intro u5
    have h5 : Within [.glb, .level, .port0, .port1, .hostLogs, .mch, .mst, .seq, .clk, .rst,   .dty, .dbg] s
        u5 := by
      subst u5
      refine Within.step (State.railsOff_within _) (by decide) ?_
      refine Within.step (State.enterDown_within _) (by decide) ?_
      assumption
    clear_value u5
    intro u6
    clear_value u6
    refine (Within.set_seq (by decide)).mpr ?_
    assumption

theorem execRampRetry_within (s : State) :
    WithinOut [.latches, .glb, .level, .port0, .port1, .hostLogs, .bly, .cache, .vbf, .stp, .wlv, .mch,
        .shr, .kce, .mst, .hly, .seq, .reef, .clk, .rst, .tel, .trm, .log, .sea, .dty, .evt, .pmu, .dbg] s
        (execRampRetry s) := by
  unfold execRampRetry
  refine WithinOut.next ?_
  split
  · exact Within.refl _ _
  · refine Within.step (State.powerUp_within _) (by decide) ?_
    exact Within.refl _ _

theorem State.busFails_within (s : State) :
    Within [.level, .hostLogs, .seq, .log, .evt] s (State.busFails s) := by
  unfold State.busFails
  split
  · exact Within.refl _ _
  · refine Within.step (State.settleLevel_within _) (by decide) ?_
    refine Within.step (State.fire_within _ _ _ _) (by decide) ?_
    refine (Within.set_seq (by decide)).mpr ?_
    exact Within.refl _ _

theorem State.endSlotCommands_within (s : State) (k : Nat) :
    Within [.hostLogs, .mst, .hly, .seq] s (State.endSlotCommands s k) := by
  unfold State.endSlotCommands
  lift_lets -underBinder
  intro u1
  clear_value u1
  intro u2
  subst u2
  intro u3
  have h3 : Within [.hostLogs, .mst, .hly, .seq] s u3 := by
    subst u3
    beta_reduce
    split
    · refine Within.step (State.completeBg_within _ _ _ _ _) (by decide) ?_
      split
      · refine Within.step (State.completeBg_within _ _ _ _ _) (by decide) ?_
        exact Within.refl _ _
      · exact Within.refl _ _
    · split
      · refine Within.step (State.completeBg_within _ _ _ _ _) (by decide) ?_
        exact Within.refl _ _
      · exact Within.refl _ _
  clear_value u3
  refine Within.step (State.modSlot_within _ _ _) (by decide) ?_
  assumption

theorem State.busError_within (s : State) (k : Nat) :
    Within [.level, .hostLogs, .mst, .hly, .seq, .log, .evt] s (State.busError s k) := by
  unfold State.busError
  lift_lets -underBinder
  intro u1 u2
  have h2 : Within [.level, .hostLogs, .mst, .hly, .seq, .log, .evt] s u2 := by
    subst u2
    refine (Within.set_seq (by decide)).mpr ?_
    exact Within.refl _ _
  intro u3 u4
  have h4 : Within [.level, .hostLogs, .mst, .hly, .seq, .log, .evt] s u4 := by
    subst u4
    refine Within.step (State.modSlot_within _ _ _) (by decide) ?_
    assumption
  intro u5
  clear_value u5
  intro u6
  clear_value u6
  intro u7
  have h7 : Within [.level, .hostLogs, .mst, .hly, .seq, .log, .evt] s u7 := by
    subst u7
    refine (Within.set_seq (by decide)).mpr ?_
    assumption
  clear_value u7
  intro u8
  have h8 : Within [.level, .hostLogs, .mst, .hly, .seq, .log, .evt] s u8 := by
    subst u8
    refine Within.step (State.endSlotCommands_within _ _) (by decide) ?_
    refine Within.step (State.fire_within _ _ _ _) (by decide) ?_
    assumption
  clear_value u8
  split
  · assumption
  · split
    · refine Within.step (State.busFails_within _) (by decide) ?_
      assumption
    · assumption

theorem execBusTransactionError_within (k : Slot) (_why : BusErr) (stuckLow : Bool) (s : State) :
    WithinOut [.level, .hostLogs, .mst, .hly, .seq, .log, .evt] s (execBusTransactionError k _why stuckLow
        s) := by
  unfold execBusTransactionError
  refine WithinOut.next ?_
  split
  · exact Within.refl _ _
  · lift_lets -underBinder
    intro u1
    have h1 : Within [.level, .hostLogs, .mst, .hly, .seq, .log, .evt] s u1 := by
      subst u1
      refine Within.step (State.busError_within _ _) (by decide) ?_
      exact Within.refl _ _
    clear_value u1
    split
    · refine Within.step (State.busFails_within _) (by decide) ?_
      assumption
    · assumption

theorem execBusRetry_within (k : Slot) (ok : Bool) (s : State) :
    WithinOut [.level, .hostLogs, .mst, .hly, .seq, .log, .evt] s (execBusRetry k ok s) := by
  unfold execBusRetry
  refine WithinOut.next ?_
  split
  · exact Within.refl _ _
  · split
    · refine Within.step (State.modSlot_within _ _ _) (by decide) ?_
      exact Within.refl _ _
    · refine Within.step (State.busError_within _ _) (by decide) ?_
      exact Within.refl _ _

theorem execUnresponsiveRetry_within (k : Slot) (answered : Bool) (s : State) :
    WithinOut [.hostLogs, .seq, .log, .evt] s (execUnresponsiveRetry k answered s) := by
  unfold execUnresponsiveRetry
  refine WithinOut.next ?_
  split
  · exact Within.refl _ _
  · split
    · refine Within.step (State.fire_within _ _ _ _) (by decide) ?_
      refine (Within.set_seq (by decide)).mpr ?_
      exact Within.refl _ _
    · refine (Within.set_seq (by decide)).mpr ?_
      exact Within.refl _ _

theorem execBusClearRetry_within (recovered : Bool) (s : State) :
    WithinOut [.level, .hostLogs, .seq, .log, .evt] s (execBusClearRetry recovered s) := by
  unfold execBusClearRetry
  refine WithinOut.next ?_
  split
  · exact Within.refl _ _
  · refine Within.step (State.settleLevel_within _) (by decide) ?_
    refine Within.step (State.fire_within _ _ _ _) (by decide) ?_
    refine (Within.set_seq (by decide)).mpr ?_
    exact Within.refl _ _

theorem execModuleTempRead_within (k : Slot) (tempC : Byte) (s : State) :
    WithinOut [.glb, .level, .port0, .port1, .hostLogs, .bly, .cache, .vbf, .stp, .wlv, .kce, .hly, .seq,
        .log, .evt, .pmu] s (execModuleTempRead k tempC s) := by
  unfold execModuleTempRead
  refine WithinOut.next ?_
  split
  · exact Within.refl _ _
  · refine Within.step (State.modSlot_within _ _ _) (by decide) ?_
    exact Within.refl _ _

theorem execStatusWordPoll_within (k : Slot) (powerGood : Bool) (s : State) :
    WithinOut [.seq] s (execStatusWordPoll k powerGood s) := by
  unfold execStatusWordPoll
  refine WithinOut.next ?_
  split
  · exact Within.refl _ _
  · refine Within.step (State.modSlot_within _ _ _) (by decide) ?_
    exact Within.refl _ _

theorem execResetStretchEnd_within (out : RstOut) (s : State) :
    WithinOut [.seq] s (execResetStretchEnd out s) := by
  unfold execResetStretchEnd
  refine WithinOut.next ?_
  split
  · exact Within.refl _ _
  · split
    · refine (Within.set_seq (by decide)).mpr ?_
      exact Within.refl _ _
    · lift_lets -underBinder
      intro u1
      clear_value u1
      split
      · refine Within.step (State.modSlot_within _ _ _) (by decide) ?_
        exact Within.refl _ _
      · exact Within.refl _ _

theorem State.loadGroup_within (s : State) (b : Nat) (p : List Byte) :
    Within [.port0, .port1, .hostLogs, .stp, .wlv, .mst, .hly, .seq, .reef, .trm] s (State.loadGroup s b p)
        := by
  unfold State.loadGroup
  split
  · refine (Within.set_port0_port1 (by decide) (by decide) (by decide)).mpr ?_
    exact Within.refl _ _
  · refine (Within.set_hly (by decide)).mpr ?_
    exact Within.refl _ _
  · refine (Within.set_reef (by decide)).mpr ?_
    exact Within.refl _ _
  · refine (Within.set_trm (by decide)).mpr ?_
    exact Within.refl _ _
  · refine (Within.set_seq (by decide)).mpr ?_
    exact Within.refl _ _
  · refine (Within.set_stp (by decide)).mpr ?_
    exact Within.refl _ _
  · refine (Within.set_port0_port1 (by decide) (by decide) (by decide)).mpr ?_
    exact Within.refl _ _
  · refine (Within.set_hly (by decide)).mpr ?_
    exact Within.refl _ _
  · refine (Within.set_mst (by decide)).mpr ?_
    exact Within.refl _ _
  · refine (Within.set_wlv (by decide)).mpr ?_
    exact Within.refl _ _
  · refine (Within.set_hly (by decide)).mpr ?_
    exact Within.refl _ _

theorem State.lockGroup_within (s : State) (b : Nat) :
    Within [.wlv, .mst] s (State.lockGroup s b) := by
  unfold State.lockGroup
  split
  · refine (Within.set_mst (by decide)).mpr ?_
    exact Within.refl _ _
  · refine (Within.set_wlv (by decide)).mpr ?_
    exact Within.refl _ _
  · exact Within.refl _ _

theorem State.loadStored_within (s : State) (b : Nat) :
    Within [.port0, .port1, .hostLogs, .stp, .wlv, .mst, .hly, .seq, .reef, .trm] s (State.loadStored s b)
        := by
  unfold State.loadStored
  split
  · split
    · exact Within.refl _ _
    · refine Within.step (State.lockGroup_within _ _) (by decide) ?_
      refine Within.step (State.loadGroup_within _ _ _) (by decide) ?_
      exact Within.refl _ _
  · exact Within.refl _ _

theorem State.loadSettings_within (s : State) :
    Within [.port0, .port1, .hostLogs, .stp, .wlv, .mst, .hly, .seq, .reef, .trm] s (State.loadSettings s)
        := by
  unfold State.loadSettings
  refine Within.foldl (fun u a h => ?_) ?_
  · refine Within.step (State.loadStored_within _ _) (by decide) ?_
    assumption
  · exact Within.refl _ _

theorem State.applyBank_within (s : State) :
    Within [.tel] s (State.applyBank s) := by
  unfold State.applyBank
  lift_lets -underBinder
  intro u1
  clear_value u1
  intro u2
  subst u2
  intro u3
  clear_value u3
  refine (Within.set_tel (by decide)).mpr ?_
  exact Within.refl _ _

theorem State.applyStrike_within (s : State) :
    Within [.seq] s (State.applyStrike s) := by
  unfold State.applyStrike
  lift_lets -underBinder
  intro u1
  clear_value u1
  intro u2
  clear_value u2
  split
  · exact Within.refl _ _
  · refine (Within.set_seq (by decide)).mpr ?_
    exact Within.refl _ _

theorem State.fireSlot_within (s : State) (k : Nat) (v : Severity) (st : SlotSt) :
    Within [.hostLogs, .log, .evt] s (State.fireSlot s k v st) := by
  unfold State.fireSlot
  refine Within.step (State.fire_within _ _ _ _) (by decide) ?_
  exact Within.refl _ _

theorem State.setMember_within (s : State) (k : Nat) (st : Standing) :
    Within [.media] s (State.setMember s k st) := by
  unfold State.setMember
  lift_lets -underBinder
  intro u1
  clear_value u1
  intro u2
  clear_value u2
  refine (Within.set_media (by decide)).mpr ?_
  exact Within.refl _ _

theorem State.memberOut_within (s : State) (k : Nat) :
    Within [.media] s (State.memberOut s k) := by
  unfold State.memberOut
  split
  · refine Within.step (State.setMember_within _ _ _) (by decide) ?_
    exact Within.refl _ _
  · exact Within.refl _ _

theorem State.flagWindow_within (s : State) (belays : List Nat) :
    Within [.bly] s (State.flagWindow s belays) := by
  unfold State.flagWindow
  refine Within.foldl (fun u a h => ?_) ?_
  · refine Within.step (State.modBelay_within _ _ _) (by decide) ?_
    assumption
  · exact Within.refl _ _

theorem State.rerouteReads_within (s : State) (hit : ReadOp → Bool) :
    Within [.bly, .stp] s (State.rerouteReads s hit) := by
  unfold State.rerouteReads
  lift_lets -underBinder
  intro u1
  clear_value u1
  intro u2
  have h2 : Within [.bly, .stp] s u2 := by
    subst u2
    refine Within.foldl (fun u a h => ?_) ?_
    · refine Within.step (State.flagWindow_within _ _) (by decide) ?_
      assumption
    · exact Within.refl _ _
  clear_value u2
  intro u3
  subst u3
  intro u4
  subst u4
  intro u5
  clear_value u5
  refine (Within.set_stp (by decide)).mpr ?_
  assumption

theorem State.dropPrograms_within (s : State) (hit : Prog → Bool) :
    Within [.stp] s (State.dropPrograms s hit) := by
  unfold State.dropPrograms
  lift_lets -underBinder
  intro u1
  clear_value u1
  intro u2
  clear_value u2
  refine (Within.set_stp (by decide)).mpr ?_
  exact Within.refl _ _

theorem State.loseLinks_within (s : State) (k : Nat) :
    Within [.hostLogs, .mch, .log, .evt] s (State.loseLinks s k) := by
  unfold State.loseLinks
  refine Within.foldl (fun u a h => ?_) ?_
  · lift_lets -underBinder
    intro u1
    clear_value u1
    intro u2
    have h2 : Within [.hostLogs, .mch, .log, .evt] s u2 := by
      subst u2
      refine Within.step (State.modCh_within _ _ _) (by decide) ?_
      assumption
    clear_value u2
    split
    · refine Within.step (State.fire_within _ _ _ _) (by decide) ?_
      assumption
    · assumption
  · exact Within.refl _ _

theorem State.endRetire_within (s : State) (k : Nat) (v : Vendor) :
    Within [.hostLogs, .mst, .hly, .seq] s (State.endRetire s k v) := by
  unfold State.endRetire
  lift_lets -underBinder
  intro u1
  clear_value u1
  intro u2
  have h2 : Within [.hostLogs, .mst, .hly, .seq] s u2 := by
    subst u2
    split
    · refine Within.step (State.completeBg_within _ _ _ _ _) (by decide) ?_
      exact Within.refl _ _
    · exact Within.refl _ _
  clear_value u2
  intro u3
  have h3 : Within [.hostLogs, .mst, .hly, .seq] s u3 := by
    subst u3
    split
    · refine Within.step (State.completeBg_within _ _ _ _ _) (by decide) ?_
      assumption
    · assumption
  clear_value u3
  refine Within.step (State.modSlot_within _ _ _) (by decide) ?_
  assumption

theorem State.stopRebuild_within (s : State) (k : Nat) :
    Within [.stp] s (State.stopRebuild s k) := by
  unfold State.stopRebuild
  split
  · refine (Within.set_stp (by decide)).mpr ?_
    exact Within.refl _ _
  · exact Within.refl _ _

theorem State.loseModule_within (s : State) (k : Nat) :
    Within [.hostLogs, .bly, .stp, .mch, .log, .evt] s (State.loseModule s k) := by
  unfold State.loseModule
  lift_lets -underBinder
  intro u1
  have h1 : Within [.hostLogs, .bly, .stp, .mch, .log, .evt] s u1 := by
    subst u1
    refine Within.step (State.rerouteReads_within _ _) (by decide) ?_
    exact Within.refl _ _
  clear_value u1
  intro u2
  have h2 : Within [.hostLogs, .bly, .stp, .mch, .log, .evt] s u2 := by
    subst u2
    refine Within.step (State.dropPrograms_within _ _) (by decide) ?_
    assumption
  clear_value u2
  refine Within.step (State.stopRebuild_within _ _) (by decide) ?_
  refine Within.step (State.loseLinks_within _ _) (by decide) ?_
  assumption

theorem State.failModule_within (s : State) (k : Nat) :
    Within [.glb, .level, .port0, .port1, .hostLogs, .bly, .cache, .vbf, .stp, .wlv, .media, .mch, .kce,
        .mst, .hly, .seq, .log, .evt, .pmu] s (State.failModule s k) := by
  unfold State.failModule
  lift_lets -underBinder
  intro u1
  clear_value u1
  intro u2
  have h2 : Within [.glb, .level, .port0, .port1, .hostLogs, .bly, .cache, .vbf, .stp, .wlv,   .media, .mch,
      .kce, .mst, .hly, .seq, .log, .evt, .pmu] s u2 := by
    subst u2
    refine Within.step (State.modSlot_within _ _ _) (by decide) ?_
    exact Within.refl _ _
  clear_value u2
  intro u3
  have h3 : Within [.glb, .level, .port0, .port1, .hostLogs, .bly, .cache, .vbf, .stp, .wlv,   .media, .mch,
      .kce, .mst, .hly, .seq, .log, .evt, .pmu] s u3 := by
    subst u3
    refine Within.step (State.memberOut_within _ _) (by decide) ?_
    refine Within.step (State.loseModule_within _ _) (by decide) ?_
    assumption
  clear_value u3
  intro u4
  have h4 : Within [.glb, .level, .port0, .port1, .hostLogs, .bly, .cache, .vbf, .stp, .wlv,   .media, .mch,
      .kce, .mst, .hly, .seq, .log, .evt, .pmu] s u4 := by
    subst u4
    refine Within.step (State.endRetire_within _ _ _) (by decide) ?_
    refine Within.step (State.fireSlot_within _ _ _ _) (by decide) ?_
    assumption
  clear_value u4
  split
  · exact Within.refl _ _
  · refine Within.step (State.retryLookups_within _) (by decide) ?_
    refine Within.step (State.settleLevel_within _) (by decide) ?_
    assumption

theorem State.emptySlot_within (s : State) (k : Nat) :
    Within [.hostLogs, .seq, .log, .evt] s (State.emptySlot s k) := by
  unfold State.emptySlot
  split
  · refine Within.step (State.fireSlot_within _ _ _ _) (by decide) ?_
    refine Within.step (State.modSlot_within _ _ _) (by decide) ?_
    exact Within.refl _ _
  · exact Within.refl _ _

theorem State.beginRetire_within (s : State) (k : Nat) (mbox : Option Mbox) :
    Within [.level, .hostLogs, .bly, .stp, .media, .seq, .log, .evt] s (State.beginRetire s k mbox) := by
  unfold State.beginRetire
  lift_lets -underBinder
  intro u1
  have h1 : Within [.level, .hostLogs, .bly, .stp, .media, .seq, .log, .evt] s u1 := by
    subst u1
    refine Within.step (State.setMember_within _ _ _) (by decide) ?_
    exact Within.refl _ _
  clear_value u1
  intro u2
  have h2 : Within [.level, .hostLogs, .bly, .stp, .media, .seq, .log, .evt] s u2 := by
    subst u2
    refine Within.step (State.modSlot_within _ _ _) (by decide) ?_
    assumption
  clear_value u2
  refine Within.step (State.settleLevel_within _) (by decide) ?_
  refine Within.step (State.rerouteReads_within _ _) (by decide) ?_
  assumption

theorem State.enterSafe_within (s : State) (k : Nat) :
    Within [.hostLogs, .stp, .media, .mch, .mst, .hly, .seq, .log, .evt] s (State.enterSafe s k) := by
  unfold State.enterSafe
  lift_lets -underBinder
  intro u1
  clear_value u1
  intro u2
  have h2 : Within [.hostLogs, .stp, .media, .mch, .mst, .hly, .seq, .log, .evt] s u2 := by
    subst u2
    refine Within.step (State.modSlot_within _ _ _) (by decide) ?_
    exact Within.refl _ _
  clear_value u2
  intro u3
  have h3 : Within [.hostLogs, .stp, .media, .mch, .mst, .hly, .seq, .log, .evt] s u3 := by
    subst u3
    refine Within.step (State.dropPrograms_within _ _) (by decide) ?_
    assumption
  clear_value u3
  intro u4
  have h4 : Within [.hostLogs, .stp, .media, .mch, .mst, .hly, .seq, .log, .evt] s u4 := by
    subst u4
    refine Within.foldl (fun u a h => ?_) ?_
    · refine Within.step (State.modCh_within _ _ _) (by decide) ?_
      assumption
    · assumption
  clear_value u4
  intro u5
  have h5 : Within [.hostLogs, .stp, .media, .mch, .mst, .hly, .seq, .log, .evt] s u5 := by
    subst u5
    refine Within.step (State.fireSlot_within _ _ _ _) (by decide) ?_
    refine Within.step (State.memberOut_within _ _) (by decide) ?_
    assumption
  clear_value u5
  split
  · refine Within.step (State.completeBg_within _ _ _ _ _) (by decide) ?_
    assumption
  · assumption

theorem State.checkIdentity_within (s : State) (k : Nat) (i : Identity) (overwrite : Bool) :
    Within [.hostLogs, .wlv, .seq, .log, .evt] s (State.checkIdentity s k i overwrite) := by
  unfold State.checkIdentity
  lift_lets -underBinder
  intro u1
  have h1 : Within [.hostLogs, .wlv, .seq, .log, .evt] s u1 := by
    subst u1
    refine Within.step (State.modSlot_within _ _ _) (by decide) ?_
    exact Within.refl _ _
  clear_value u1
  intro u2
  clear_value u2
  intro u3
  clear_value u3
  intro u4
  have h4 : Within [.hostLogs, .wlv, .seq, .log, .evt] s u4 := by
    subst u4
    refine Within.step (State.modSlot_within _ _ _) (by decide) ?_
    assumption
  clear_value u4
  intro u5
  clear_value u5
  intro u6
  have h6 : Within [.hostLogs, .wlv, .seq, .log, .evt] s u6 := by
    subst u6
    split
    · refine (Within.set_wlv (by decide)).mpr ?_
      assumption
    · assumption
  clear_value u6
  split
  · refine Within.step (State.fireSlot_within _ _ _ _) (by decide) ?_
    assumption
  · refine Within.step (State.modSlot_within _ _ _) (by decide) ?_
    assumption

theorem State.freshMetadata_within (s : State) (k : Nat) :
    Within [.wlv, .media] s (State.freshMetadata s k) := by
  unfold State.freshMetadata
  lift_lets -underBinder
  intro u1
  subst u1
  intro u2
  subst u2
  intro u3
  clear_value u3
  intro u4
  clear_value u4
  refine (Within.set_wlv_media (by decide) (by decide)).mpr ?_
  exact Within.refl _ _

theorem State.admitModule_within (s : State) (k : Nat) :
    Within [.hostLogs, .wlv, .media, .mst, .hly, .seq] s (State.admitModule s k) := by
  unfold State.admitModule
  lift_lets -underBinder
  intro u1
  clear_value u1
  intro u2
  clear_value u2
  intro u3
  have h3 : Within [.hostLogs, .wlv, .media, .mst, .hly, .seq] s u3 := by
    subst u3
    refine Within.step (State.freshMetadata_within _ _) (by decide) ?_
    exact Within.refl _ _
  clear_value u3
  intro u4
  have h4 : Within [.hostLogs, .wlv, .media, .mst, .hly, .seq] s u4 := by
    subst u4
    refine Within.step (State.modSlot_within _ _ _) (by decide) ?_
    assumption
  clear_value u4
  intro u5
  have h5 : Within [.hostLogs, .wlv, .media, .mst, .hly, .seq] s u5 := by
    subst u5
    refine Within.step (State.setMember_within _ _ _) (by decide) ?_
    assumption
  clear_value u5
  split
  · refine Within.step (State.completeBg_within _ _ _ _ _) (by decide) ?_
    assumption
  · assumption

theorem State.takeStanding_within (s : State) (k : Nat) :
    Within [.level, .hostLogs, .stp, .wlv, .media, .mst, .hly, .seq, .log, .evt] s (State.takeStanding s k)
        := by
  unfold State.takeStanding
  split
  · exact Within.refl _ _
  · split
    · refine Within.step (State.admitModule_within _ _) (by decide) ?_
      exact Within.refl _ _
    · split
      · refine Within.step (State.settleLevel_within _) (by decide) ?_
        refine Within.step (State.modSlot_within _ _ _) (by decide) ?_
        exact Within.refl _ _
      · split
        · refine Within.step (State.modSlot_within _ _ _) (by decide) ?_
          exact Within.refl _ _
        · lift_lets -underBinder
          intro u1
          have h1 : Within [.level, .hostLogs, .stp, .wlv, .media, .mst, .hly, .seq, .log, .evt] s u1 := by
            subst u1
            refine Within.step (State.modSlot_within _ _ _) (by decide) ?_
            exact Within.refl _ _
          clear_value u1
          intro u2
          clear_value u2
          refine (Within.set_stp (by decide)).mpr ?_
          assumption
      · refine Within.step (State.modSlot_within _ _ _) (by decide) ?_
        exact Within.refl _ _
      · exact Within.refl _ _

theorem State.setLeaf_within (s : State) (key v : Nat) :
    Within [.wlv] s (State.setLeaf s key v) := by
  unfold State.setLeaf
  refine (Within.set_wlv (by decide)).mpr ?_
  exact Within.refl _ _

theorem State.bumpLeaf_within (s : State) (key : Nat) :
    Within [.wlv] s (State.bumpLeaf s key) := by
  unfold State.bumpLeaf
  split
  · refine Within.step (State.setLeaf_within _ _ _) (by decide) ?_
    exact Within.refl _ _
  · exact Within.refl _ _

theorem State.wearDraw_within (s : State) (key : Nat) :
    Within [.draws, .wlv] s (State.wearDraw s key) := by
  unfold State.wearDraw
  lift_lets -underBinder
  intro u1
  have h1 : Within [.draws, .wlv] s u1 := by
    subst u1
    refine Within.step (State.drawn_within _) (by decide) ?_
    exact Within.refl _ _
  clear_value u1
  split
  · refine Within.step (State.bumpLeaf_within _ _) (by decide) ?_
    assumption
  · assumption

theorem State.noteSpares_within (s : State) (slot : Nat) :
    Within [.hostLogs, .wlv, .log, .evt] s (State.noteSpares s slot) := by
  unfold State.noteSpares
  lift_lets -underBinder
  intro u1
  clear_value u1
  intro u2
  clear_value u2
  split
  · refine Within.step (State.fire_within _ _ _ _) (by decide) ?_
    refine (Within.set_wlv (by decide)).mpr ?_
    exact Within.refl _ _
  · exact Within.refl _ _

theorem State.takeShare_within (s : State) (slot d n : Nat) :
    Within [.wlv] s (State.takeShare s slot d n).1 := by
  unfold State.takeShare
  lift_lets -underBinder
  intro u1
  clear_value u1
  intro u2
  clear_value u2
  dsimp only
  refine (Within.set_wlv (by decide)).mpr ?_
  exact Within.refl _ _
theorem State.takeSpare_within (s : State) (slot die : Nat) (why : RetireWhy) (d sw : Nat) (t : State)
    (h : State.takeSpare s slot die why = some (d, sw, t)) : Within [.wlv] s t := by
  unfold State.takeSpare at h
  dsimp only at h
  split at h
  · simp only [Option.some.injEq, Prod.mk.injEq] at h
    obtain ⟨-, -, rfl⟩ := h
    exact (Within.set_wlv (by decide)).mpr (Within.refl _ _)
  · split at h
    · simp only [Option.some.injEq, Prod.mk.injEq] at h
      obtain ⟨-, -, rfl⟩ := h
      exact (Within.set_wlv (by decide)).mpr (Within.refl _ _)
    · exact absurd h (by simp)

theorem State.moveShares_within (s : State) (slot die : Nat) :
    Within [.wlv] s (State.moveShares s slot die) := by
  unfold State.moveShares
  refine Within.foldl (fun u a h => ?_) ?_
  · split
    · lift_lets -underBinder
      intro u1
      clear_value u1
      split
      · assumption
      · split
        lift_lets -underBinder
        intro u2
        clear_value u2
        intro u3
        clear_value u3
        refine (Within.set_wlv (by decide)).mpr ?_
        refine Within.step (Within.of_fst (State.takeShare_within _ _ _ _) (by assumption)) (by decide) ?_
        assumption
    · assumption
  · exact Within.refl _ _

theorem State.markDieFailed_within (s : State) (ch d : Nat) :
    Within [.bly, .stp, .mch] s (State.markDieFailed s ch d) := by
  unfold State.markDieFailed
  lift_lets -underBinder
  intro u1
  have h1 : Within [.bly, .stp, .mch] s u1 := by
    subst u1
    refine Within.step (State.rerouteReads_within _ _) (by decide) ?_
    exact Within.refl _ _
  clear_value u1
  intro u2
  have h2 : Within [.bly, .stp, .mch] s u2 := by
    subst u2
    refine Within.step (State.dropPrograms_within _ _) (by decide) ?_
    assumption
  clear_value u2
  refine Within.step (State.modCh_within _ _ _) (by decide) ?_
  assumption

theorem State.retireDie_within (s : State) (slot die : Nat) :
    Within [.glb, .level, .port0, .port1, .hostLogs, .bly, .cache, .vbf, .stp, .wlv, .media, .mch, .kce,
        .mst, .hly, .seq, .log, .evt, .pmu] s (State.retireDie s slot die) := by
  unfold State.retireDie
  split
  · exact Within.refl _ _
  · split
    · refine Within.step (State.failModule_within _ _) (by decide) ?_
      exact Within.refl _ _
    · lift_lets -underBinder
      intro u1
      clear_value u1
      intro u2
      have h2 : Within [.glb, .level, .port0, .port1, .hostLogs, .bly, .cache, .vbf, .stp, .wlv,   .media,
          .mch, .kce, .mst, .hly, .seq, .log, .evt, .pmu] s u2 := by
        subst u2
        refine Within.step (State.markDieFailed_within _ _ _) (by decide) ?_
        exact Within.refl _ _
      clear_value u2
      intro u3
      clear_value u3
      intro u4
      have h4 : Within [.glb, .level, .port0, .port1, .hostLogs, .bly, .cache, .vbf, .stp, .wlv,   .media,
          .mch, .kce, .mst, .hly, .seq, .log, .evt, .pmu] s u4 := by
        subst u4
        refine Within.step (State.fire_within _ _ _ _) (by decide) ?_
        assumption
      clear_value u4
      intro u5
      clear_value u5
      intro u6
      subst u6
      intro u7
      have h7 : Within [.glb, .level, .port0, .port1, .hostLogs, .bly, .cache, .vbf, .stp, .wlv,   .media,
          .mch, .kce, .mst, .hly, .seq, .log, .evt, .pmu] s u7 := by
        subst u7
        refine Within.foldl_fst (fun u a h => ?_) ?_
        · lift_lets -underBinder
          intro u8
          subst u8
          dsimp only
          refine Within.step (State.takeShare_within _ _ _ _) (by decide) ?_
          assumption
        · dsimp only
          assumption
      clear_value u7
      intro u9
      clear_value u9
      intro u10
      clear_value u10
      intro u11
      have h11 : Within [.glb, .level, .port0, .port1, .hostLogs, .bly, .cache, .vbf, .stp, .wlv,   .media,
          .mch, .kce, .mst, .hly, .seq, .log, .evt, .pmu] s u11 := by
        subst u11
        refine (Within.set_wlv (by decide)).mpr ?_
        assumption
      clear_value u11
      intro u12
      have h12 : Within [.glb, .level, .port0, .port1, .hostLogs, .bly, .cache, .vbf, .stp, .wlv,   .media,
          .mch, .kce, .mst, .hly, .seq, .log, .evt, .pmu] s u12 := by
        subst u12
        refine Within.step (State.fire_within _ _ _ _) (by decide) ?_
        refine Within.step (State.moveShares_within _ _ _) (by decide) ?_
        assumption
      clear_value u12
      split
      · refine Within.step (State.fire_within _ _ _ _) (by decide) ?_
        assumption
      · refine Within.step (State.settleLevel_within _) (by decide) ?_
        refine Within.step (State.noteSpares_within _ _) (by decide) ?_
        assumption

theorem State.noSpare_within (s : State) (slot die swath : Nat) :
    Within [.hostLogs, .wlv, .log, .evt] s (State.noSpare s slot die swath) := by
  unfold State.noSpare
  lift_lets -underBinder
  intro u1
  clear_value u1
  intro u2
  clear_value u2
  intro u3
  clear_value u3
  intro u4
  have h4 : Within [.hostLogs, .wlv, .log, .evt] s u4 := by
    subst u4
    refine (Within.set_wlv (by decide)).mpr ?_
    exact Within.refl _ _
  clear_value u4
  split
  · refine Within.step (State.fire_within _ _ _ _) (by decide) ?_
    exact Within.refl _ _
  · refine Within.step (State.fire_within _ _ _ _) (by decide) ?_
    refine Within.step (State.fire_within _ _ _ _) (by decide) ?_
    assumption

theorem State.countErrorRetire_within (s : State) (slot die : Nat) (why : RetireWhy) :
    Within [.glb, .level, .port0, .port1, .hostLogs, .bly, .cache, .vbf, .stp, .wlv, .media, .mch, .kce,
        .mst, .hly, .seq, .log, .evt, .pmu] s (State.countErrorRetire s slot die why) := by
  unfold State.countErrorRetire
  split
  · exact Within.refl _ _
  · lift_lets -underBinder
    intro u1 u2
    clear_value u2
    intro u3
    have h3 : Within [.glb, .level, .port0, .port1, .hostLogs, .bly, .cache, .vbf, .stp, .wlv,   .media,
        .mch, .kce, .mst, .hly, .seq, .log, .evt, .pmu] s u3 := by
      subst u3
      refine (Within.set_wlv (by decide)).mpr ?_
      exact Within.refl _ _
    split
    · refine Within.step (State.retireDie_within _ _ _) (by decide) ?_
      assumption
    · assumption

theorem State.retireSwath_within (s : State) (slot die swath : Nat) (why : RetireWhy) :
    Within [.glb, .level, .port0, .port1, .hostLogs, .bly, .cache, .vbf, .stp, .wlv, .media, .mch, .kce,
        .mst, .hly, .seq, .log, .evt, .pmu] s (State.retireSwath s slot die swath why) := by
  unfold State.retireSwath
  lift_lets -underBinder
  intro u1
  clear_value u1
  split
  · refine Within.step (State.retireDie_within _ _ _) (by decide) ?_
    exact Within.refl _ _
  · split
    · refine Within.step (State.noSpare_within _ _ _ _) (by decide) ?_
      exact Within.refl _ _
    · lift_lets -underBinder
      intro u2
      clear_value u2
      intro u3
      clear_value u3
      intro u4
      have h4 : Within [.glb, .level, .port0, .port1, .hostLogs, .bly, .cache, .vbf, .stp, .wlv,   .media,
          .mch, .kce, .mst, .hly, .seq, .log, .evt, .pmu] s u4 := by
        subst u4
        refine Within.step (State.setLeaf_within _ _ _) (by decide) ?_
        refine Within.step (State.takeSpare_within _ _ _ _ _ _ _ (by assumption)) (by decide) ?_
        exact Within.refl _ _
      clear_value u4
      intro u5
      clear_value u5
      intro u6
      have h6 : Within [.glb, .level, .port0, .port1, .hostLogs, .bly, .cache, .vbf, .stp, .wlv,   .media,
          .mch, .kce, .mst, .hly, .seq, .log, .evt, .pmu] s u6 := by
        subst u6
        refine (Within.set_wlv (by decide)).mpr ?_
        assumption
      clear_value u6
      intro u7
      have h7 : Within [.glb, .level, .port0, .port1, .hostLogs, .bly, .cache, .vbf, .stp, .wlv,   .media,
          .mch, .kce, .mst, .hly, .seq, .log, .evt, .pmu] s u7 := by
        subst u7
        refine Within.step (State.noteSpares_within _ _) (by decide) ?_
        refine Within.step (State.fire_within _ _ _ _) (by decide) ?_
        assumption
      clear_value u7
      refine Within.step (State.countErrorRetire_within _ _ _ _) (by decide) ?_
      assumption

theorem State.orderRetire_within (s : State) (slot die swath : Nat) (why : RetireWhy) :
    Within [.wlv] s (State.orderRetire s slot die swath why) := by
  unfold State.orderRetire
  lift_lets -underBinder
  intro u1
  clear_value u1
  intro u2
  clear_value u2
  split
  · exact Within.refl _ _
  · refine (Within.set_wlv (by decide)).mpr ?_
    exact Within.refl _ _

end Sys2Proof.Machine
end

