-- ==== Sys2Proof/Laws/FrameMedia.lean ====
section
/-! SUPPORT. Frames: which parts of the state each operation and each meaning may change (media reads, parity, the media channels and the layout of rows).
A later frame cites the frames of the operations it calls and unfolds none of them. -/

namespace Sys2Proof.Machine

open Sys2Proof

theorem State.sendCmd_within (s : State) (ch die op tag sector arg : Nat) :
    Within [.mch, .pmu] s (State.sendCmd s ch die op tag sector arg) := by
  unfold State.sendCmd
  lift_lets -underBinder
  intro u1
  clear_value u1
  intro u2
  clear_value u2
  intro u3
  have h3 : Within [.mch, .pmu] s u3 := by
    subst u3
    split
    · refine Within.step (State.occ_within _ _ _) (by decide) ?_
      exact Within.refl _ _
    · exact Within.refl _ _
  clear_value u3
  refine Within.step (State.modCh_within _ _ _) (by decide) ?_
  assumption

theorem State.sendRead_within (s : State) (id : Nat) :
    Within [.stp, .mch, .pmu] s (State.sendRead s id) := by
  unfold State.sendRead
  split
  · exact Within.refl _ _
  · split
    · refine Within.step (State.modRead_within _ _ _) (by decide) ?_
      exact Within.refl _ _
    · split
      · refine Within.step (State.modRead_within _ _ _) (by decide) ?_
        refine Within.step (State.sendCmd_within _ _ _ _ _ _ _) (by decide) ?_
        exact Within.refl _ _
      · refine Within.step (State.modRead_within _ _ _) (by decide) ?_
        exact Within.refl _ _

theorem State.modProg_within (s : State) (i : Nat) (f : Prog → Prog) :
    Within [.stp] s (State.modProg s i f) := by
  unfold State.modProg
  refine (Within.set_stp (by decide)).mpr ?_
  exact Within.refl _ _

theorem State.suspendDie_within (s : State) (ch die : Nat) :
    Within [.stp, .mch, .pmu] s (State.suspendDie s ch die) := by
  unfold State.suspendDie
  split
  · exact Within.refl _ _
  · split
    · exact Within.refl _ _
    · lift_lets -underBinder
      intro u1
      have h1 : Within [.stp, .mch, .pmu] s u1 := by
        subst u1
        refine Within.step (State.modProg_within _ _ _) (by decide) ?_
        exact Within.refl _ _
      clear_value u1
      refine Within.step (State.modCh_within _ _ _) (by decide) ?_
      refine Within.step (State.sendCmd_within _ _ _ _ _ _ _) (by decide) ?_
      assumption

theorem State.withdrawDie_within (s : State) (ch die : Nat) :
    Within [.hostLogs, .stp, .mch, .log, .evt, .pmu] s (State.withdrawDie s ch die) := by
  unfold State.withdrawDie
  split
  · exact Within.refl _ _
  · split
    · exact Within.refl _ _
    · lift_lets -underBinder
      intro u1
      have h1 : Within [.hostLogs, .stp, .mch, .log, .evt, .pmu] s u1 := by
        subst u1
        refine Within.step (State.modProg_within _ _ _) (by decide) ?_
        exact Within.refl _ _
      clear_value u1
      intro u2
      have h2 : Within [.hostLogs, .stp, .mch, .log, .evt, .pmu] s u2 := by
        subst u2
        refine Within.step (State.modCh_within _ _ _) (by decide) ?_
        refine Within.step (State.sendCmd_within _ _ _ _ _ _ _) (by decide) ?_
        assumption
      clear_value u2
      split
      · refine Within.step (State.fire_within _ _ _ _) (by decide) ?_
        assumption
      · assumption

theorem State.readyMember_within (s : State) (row pos : Nat) :
    Within [.hostLogs, .stp, .mch, .log, .evt, .pmu] s (State.readyMember s row pos) := by
  unfold State.readyMember
  lift_lets -underBinder
  intro u1
  clear_value u1
  split
  · refine Within.step (State.suspendDie_within _ _ _) (by decide) ?_
    exact Within.refl _ _
  · refine Within.step (State.withdrawDie_within _ _ _) (by decide) ?_
    exact Within.refl _ _
  · exact Within.refl _ _

theorem State.aroundWith_within (s : State) (id : Nat) (r : ReadOp) (ms : List Nat) :
    Within [.hostLogs, .stp, .mch, .log, .evt, .pmu] s (State.aroundWith s id r ms) := by
  unfold State.aroundWith
  lift_lets -underBinder
  intro u1
  clear_value u1
  intro u2
  clear_value u2
  intro u3
  have h3 : Within [.hostLogs, .stp, .mch, .log, .evt, .pmu] s u3 := by
    subst u3
    refine Within.foldl (fun u a h => ?_) ?_
    · refine Within.step (State.readyMember_within _ _ _) (by decide) ?_
      assumption
    · exact Within.refl _ _
  clear_value u3
  intro u4
  have h4 : Within [.hostLogs, .stp, .mch, .log, .evt, .pmu] s u4 := by
    subst u4
    refine Within.step (State.modCh_within _ _ _) (by decide) ?_
    refine Within.step (State.occ_within _ _ _) (by decide) ?_
    refine Within.step (State.occ_within _ _ _) (by decide) ?_
    assumption
  clear_value u4
  refine Within.step (State.modRead_within _ _ _) (by decide) ?_
  assumption

theorem State.addrEntry_within (s : State) (ch die sector outcome : Nat) :
    Within [.hostLogs, .mch, .log, .evt] s (State.addrEntry s ch die sector outcome) := by
  unfold State.addrEntry
  lift_lets -underBinder
  intro u1
  clear_value u1
  intro u2
  clear_value u2
  intro u3
  clear_value u3
  intro u4
  clear_value u4
  intro u5
  clear_value u5
  intro u6
  clear_value u6
  intro u7
  have h7 : Within [.hostLogs, .mch, .log, .evt] s u7 := by
    subst u7
    refine Within.step (State.setCh_within _ _ _) (by decide) ?_
    exact Within.refl _ _
  clear_value u7
  split
  · refine Within.step (State.fire_within _ _ _ _) (by decide) ?_
    assumption
  · assumption

theorem State.makePending_within (s : State) (lsn : Nat) :
    Within [.hostLogs, .stp, .wlv, .mch, .log, .evt] s (State.makePending s lsn) := by
  unfold State.makePending
  lift_lets -underBinder
  intro u1
  clear_value u1
  intro u2
  clear_value u2
  intro u3
  have h3 : Within [.hostLogs, .stp, .wlv, .mch, .log, .evt] s u3 := by
    subst u3
    refine Within.step (State.poisonSet_within _ _ _ _) (by decide) ?_
    exact Within.refl _ _
  clear_value u3
  intro u4
  clear_value u4
  intro u5
  have h5 : Within [.hostLogs, .stp, .wlv, .mch, .log, .evt] s u5 := by
    subst u5
    split
    · refine (Within.set_wlv (by decide)).mpr ?_
      assumption
    · assumption
  clear_value u5
  intro u6
  clear_value u6
  intro u7
  have h7 : Within [.hostLogs, .stp, .wlv, .mch, .log, .evt] s u7 := by
    subst u7
    split
    · assumption
    · refine (Within.set_stp (by decide)).mpr ?_
      assumption
  clear_value u7
  intro u8
  have h8 : Within [.hostLogs, .stp, .wlv, .mch, .log, .evt] s u8 := by
    subst u8
    refine Within.step (State.modCh_within _ _ _) (by decide) ?_
    refine Within.step (State.addrEntry_within _ _ _ _ _) (by decide) ?_
    assumption
  clear_value u8
  split
  · exact Within.refl _ _
  · refine Within.step (State.fire_within _ _ _ _) (by decide) ?_
    assumption

theorem State.pendRead_within (s : State) (id lsn : Nat) :
    Within [.hostLogs, .bly, .cache, .stp, .wlv, .mch, .hly, .log, .evt, .pmu] s (State.pendRead s id lsn)
        := by
  unfold State.pendRead
  refine Within.step (State.failRead_within _ _) (by decide) ?_
  refine Within.step (State.makePending_within _ _) (by decide) ?_
  exact Within.refl _ _

theorem State.directRead_within (s : State) (id : Nat) (r : ReadOp) :
    Within [.hostLogs, .stp, .mch, .log, .evt, .pmu] s (State.directRead s id r) := by
  unfold State.directRead
  split
  · refine Within.step (State.sendRead_within _ _) (by decide) ?_
    exact Within.refl _ _
  · split
    · refine Within.step (State.sendRead_within _ _) (by decide) ?_
      exact Within.refl _ _
    · lift_lets -underBinder
      intro u1
      have h1 : Within [.hostLogs, .stp, .mch, .log, .evt, .pmu] s u1 := by
        subst u1
        split
        · refine Within.step (State.suspendDie_within _ _ _) (by decide) ?_
          exact Within.refl _ _
        · refine Within.step (State.withdrawDie_within _ _ _) (by decide) ?_
          exact Within.refl _ _
      clear_value u1
      refine Within.step (State.modRead_within _ _ _) (by decide) ?_
      assumption

theorem State.aroundRead_within (s : State) (id : Nat) (r : ReadOp) (force : Bool) :
    Within [.hostLogs, .bly, .cache, .stp, .wlv, .mch, .hly, .log, .evt, .pmu] s (State.aroundRead s id r
        force) := by
  unfold State.aroundRead
  lift_lets -underBinder
  intro u1
  clear_value u1
  intro u2
  clear_value u2
  intro u3
  clear_value u3
  split
  · refine Within.step (State.aroundWith_within _ _ _ _) (by decide) ?_
    exact Within.refl _ _
  · split
    · refine Within.step (State.modRead_within _ _ _) (by decide) ?_
      exact Within.refl _ _
    · refine Within.step (State.pendRead_within _ _ _) (by decide) ?_
      exact Within.refl _ _

theorem State.routeRead_within (s : State) (id : Nat) (r : ReadOp) :
    Within [.port0, .port1, .hostLogs, .bly, .cache, .stp, .wlv, .mch, .hly, .clk, .log, .evt, .pmu] s
        (State.routeRead s id r) := by
  unfold State.routeRead
  lift_lets -underBinder
  intro u1
  clear_value u1
  intro u2
  clear_value u2
  intro u3
  clear_value u3
  split
  · refine Within.step (State.failRead_within _ _) (by decide) ?_
    exact Within.refl _ _
  · split
    · refine Within.step (State.finishRead_within _ _ _) (by decide) ?_
      exact Within.refl _ _
    · lift_lets -underBinder
      intro u4
      clear_value u4
      intro u5
      have h5 : Within [.port0, .port1, .hostLogs, .bly, .cache, .stp, .wlv, .mch, .hly, .clk,   .log, .evt,
          .pmu] s u5 := by
        subst u5
        refine Within.step (State.modRead_within _ _ _) (by decide) ?_
        exact Within.refl _ _
      clear_value u5
      intro u6
      have h6 : Within [.port0, .port1, .hostLogs, .bly, .cache, .stp, .wlv, .mch, .hly, .clk,   .log, .evt,
          .pmu] s u6 := by
        subst u6
        refine Within.step (State.wake_within _ _) (by decide) ?_
        refine Within.step (State.wake_within _ _) (by decide) ?_
        assumption
      clear_value u6
      intro u7
      clear_value u7
      intro u8
      clear_value u8
      intro u9
      clear_value u9
      intro u10
      clear_value u10
      intro u11
      have h11 : Within [.port0, .port1, .hostLogs, .bly, .cache, .stp, .wlv, .mch, .hly, .clk,   .log,
          .evt, .pmu] s u11 := by
        subst u11
        refine Within.step (State.modCh_within _ _ _) (by decide) ?_
        assumption
      clear_value u11
      intro u12
      have h12 : Within [.port0, .port1, .hostLogs, .bly, .cache, .stp, .wlv, .mch, .hly, .clk,   .log,
          .evt, .pmu] s u12 := by
        subst u12
        refine Within.step (State.modRead_within _ _ _) (by decide) ?_
        assumption
      clear_value u12
      split
      · refine Within.step (State.aroundRead_within _ _ _ _) (by decide) ?_
        assumption
      · split
        · refine Within.step (State.aroundWith_within _ _ _ _) (by decide) ?_
          refine Within.step (State.directRead_within _ _ _) (by decide) ?_
          assumption
        · split
          · refine Within.step (State.directRead_within _ _ _) (by decide) ?_
            assumption
          · split
            · refine Within.step (State.aroundWith_within _ _ _ _) (by decide) ?_
              assumption
            · split
              · refine Within.step (State.directRead_within _ _ _) (by decide) ?_
                assumption
              · assumption

theorem State.dropPrefetch_within (s : State) (id : Nat) :
    Within [.port0, .port1, .hostLogs, .bly, .stp] s (State.dropPrefetch s id) := by
  unfold State.dropPrefetch
  split
  · exact Within.refl _ _
  · lift_lets -underBinder
    intro u1
    have h1 : Within [.port0, .port1, .hostLogs, .bly, .stp] s u1 := by
      subst u1
      refine Within.foldl (fun u a h => ?_) ?_
      · refine Within.step (State.retirePrefetch_within _ _) (by decide) ?_
        assumption
      · exact Within.refl _ _
    clear_value u1
    intro u2
    clear_value u2
    refine (Within.set_stp (by decide)).mpr ?_
    assumption

theorem State.releaseSuspended_within (s : State) (ch die : Nat) :
    Within [.stp, .mch, .pmu] s (State.releaseSuspended s ch die) := by
  unfold State.releaseSuspended
  refine Within.foldl (fun u a h => ?_) ?_
  · refine Within.step (State.sendRead_within _ _) (by decide) ?_
    assumption
  · exact Within.refl _ _

theorem State.trainBit_within (s : State) (ch die b : Nat) (x : Fin 7 × Bool) :
    Within [.mch, .tel] s (State.trainBit s ch die b x) := by
  unfold State.trainBit
  lift_lets -underBinder
  intro u1
  clear_value u1
  intro u2
  clear_value u2
  intro u3
  clear_value u3
  intro u4
  clear_value u4
  intro u5
  clear_value u5
  intro u6
  clear_value u6
  intro u7
  clear_value u7
  intro u8
  clear_value u8
  intro u9
  clear_value u9
  intro u10
  clear_value u10
  intro u11
  have h11 : Within [.mch, .tel] s u11 := by
    subst u11
    refine Within.step (State.modDie_within _ _ _ _) (by decide) ?_
    exact Within.refl _ _
  clear_value u11
  intro u12
  clear_value u12
  split
  · refine (Within.set_tel (by decide)).mpr ?_
    assumption
  · refine (Within.set_tel (by decide)).mpr ?_
    assumption

theorem State.strike_within (s : State) (ch die sector kind : Nat) :
    Within [.mch] s (State.strike s ch die sector kind).1 := by
  unfold State.strike
  lift_lets -underBinder
  intro u1
  clear_value u1
  intro u2
  clear_value u2
  dsimp only
  refine Within.step (State.modCh_within _ _ _) (by decide) ?_
  exact Within.refl _ _

theorem State.orderMember_within (s : State) (r pos : Nat) (why : RetireWhy) :
    Within [.wlv] s (State.orderMember s r pos why) := by
  unfold State.orderMember
  lift_lets -underBinder
  intro u1
  clear_value u1
  refine Within.step (State.orderRetire_within _ _ _ _ _) (by decide) ?_
  exact Within.refl _ _

theorem State.tier1Failure_within (s : State) (p : Place) (pos b : Nat) :
    Within [.hostLogs, .wlv, .mch, .log, .evt] s (State.tier1Failure s p pos b) := by
  unfold State.tier1Failure
  lift_lets -underBinder
  intro u1
  have h1 : Within [.hostLogs, .wlv, .mch, .log, .evt] s u1 := by
    subst u1
    refine Within.step (State.modCh_within _ _ _) (by decide) ?_
    exact Within.refl _ _
  clear_value u1
  intro u2
  have h2 : Within [.hostLogs, .wlv, .mch, .log, .evt] s u2 := by
    subst u2
    refine Within.step (State.bucketAdd_within _ _ _) (by decide) ?_
    assumption
  clear_value u2
  intro u3
  have h3 : Within [.hostLogs, .wlv, .mch, .log, .evt] s u3 := by
    subst u3
    refine Within.step (State.addrEntry_within _ _ _ _ _) (by decide) ?_
    assumption
  clear_value u3
  intro u4
  have h4 : Within [.hostLogs, .wlv, .mch, .log, .evt] s u4 := by
    subst u4
    refine Within.step (State.modCh_within _ _ _) (by decide) ?_
    assumption
  clear_value u4
  split
  · refine Within.step (State.orderMember_within _ _ _ _) (by decide) ?_
    assumption
  · split
    · split
      split
      · refine Within.step (State.orderMember_within _ _ _ _) (by decide) ?_
        refine Within.step (Within.of_fst (State.strike_within _ _ _ _ _) (by assumption)) (by decide) ?_
        assumption
      · refine Within.step (Within.of_fst (State.strike_within _ _ _ _ _) (by assumption)) (by decide) ?_
        assumption
    · assumption

theorem State.tier1Success_within (s : State) (p : Place) (pos b : Nat) (x : Sense) :
    Within [.hostLogs, .wlv, .mch, .tel, .log, .evt, .pmu] s (State.tier1Success s p pos b x) := by
  unfold State.tier1Success
  lift_lets -underBinder
  intro u1
  clear_value u1
  intro u2
  clear_value u2
  intro u3
  have h3 : Within [.hostLogs, .wlv, .mch, .tel, .log, .evt, .pmu] s u3 := by
    subst u3
    refine Within.step (State.modCh_within _ _ _) (by decide) ?_
    exact Within.refl _ _
  clear_value u3
  intro u4
  have h4 : Within [.hostLogs, .wlv, .mch, .tel, .log, .evt, .pmu] s u4 := by
    subst u4
    refine Within.step (State.occ_within _ _ _) (by decide) ?_
    assumption
  clear_value u4
  intro u5
  have h5 : Within [.hostLogs, .wlv, .mch, .tel, .log, .evt, .pmu] s u5 := by
    subst u5
    split
    · refine Within.step (State.bucketAdd_within _ _ _) (by decide) ?_
      refine Within.step (State.modCh_within _ _ _) (by decide) ?_
      assumption
    · assumption
  clear_value u5
  intro u6
  have h6 : Within [.hostLogs, .wlv, .mch, .tel, .log, .evt, .pmu] s u6 := by
    subst u6
    split
    · refine Within.step (State.modCh_within _ _ _) (by decide) ?_
      assumption
    · assumption
  clear_value u6
  intro u7
  have h7 : Within [.hostLogs, .wlv, .mch, .tel, .log, .evt, .pmu] s u7 := by
    subst u7
    split
    · split
      split
      · refine Within.step (State.orderMember_within _ _ _ _) (by decide) ?_
        refine Within.step (Within.of_fst (State.strike_within _ _ _ _ _) (by assumption)) (by decide) ?_
        assumption
      · refine Within.step (Within.of_fst (State.strike_within _ _ _ _ _) (by assumption)) (by decide) ?_
        assumption
    · assumption
  clear_value u7
  intro u8
  have h8 : Within [.hostLogs, .wlv, .mch, .tel, .log, .evt, .pmu] s u8 := by
    subst u8
    refine Within.foldl (fun u a h => ?_) ?_
    · refine Within.step (State.trainBit_within _ _ _ _ _) (by decide) ?_
      assumption
    · assumption
  clear_value u8
  refine Within.step (State.modDie_within _ _ _ _) (by decide) ?_
  assumption

theorem State.memberBucket_within (s : State) (p : Place) (row pos : Nat) :
    Within [.draws] s (State.memberBucket s p row pos).1 := by
  unfold State.memberBucket
  split
  · dsimp only
    exact Within.refl _ _
  · dsimp only
    refine Within.step (State.drawn_within _) (by decide) ?_
    exact Within.refl _ _

theorem State.decodeMember_within (s : State) (row pos : Nat) (x : Sense) :
    Within [.draws, .hostLogs, .wlv, .mch, .tel, .log, .evt, .pmu] s (State.decodeMember s row pos x).1 :=
        by
  unfold State.decodeMember
  lift_lets -underBinder
  intro u1
  clear_value u1
  split
  split
  · dsimp only
    refine Within.step (State.tier1Success_within _ _ _ _ _) (by decide) ?_
    refine Within.step (Within.of_fst (State.memberBucket_within _ _ _ _) (by assumption)) (by decide) ?_
    exact Within.refl _ _
  · dsimp only
    refine Within.step (State.tier1Failure_within _ _ _ _) (by decide) ?_
    refine Within.step (Within.of_fst (State.memberBucket_within _ _ _ _) (by assumption)) (by decide) ?_
    exact Within.refl _ _

theorem State.noteMediaPoison_within (s : State) (lsn : Nat) (bits : BitVec 4) :
    Within [.hostLogs, .wlv, .log, .evt] s (State.noteMediaPoison s lsn bits) := by
  unfold State.noteMediaPoison
  lift_lets -underBinder
  intro u1
  clear_value u1
  split
  · exact Within.refl _ _
  · refine Within.step (State.poisonRestore_within _ _ _) (by decide) ?_
    exact Within.refl _ _

theorem State.confirmRead_within (s : State) (id : Nat) (r : ReadOp) :
    Within [.port0, .port1, .hostLogs, .bly, .cache, .stp, .wlv, .hly, .log, .evt, .pmu] s
        (State.confirmRead s id r) := by
  unfold State.confirmRead
  lift_lets -underBinder
  intro u1
  clear_value u1
  intro u2
  have h2 : Within [.port0, .port1, .hostLogs, .bly, .cache, .stp, .wlv, .hly, .log, .evt,   .pmu] s u2 :=
      by
    subst u2
    refine Within.step (State.noteMediaPoison_within _ _ _) (by decide) ?_
    refine Within.step (State.finishRead_within _ _ _) (by decide) ?_
    exact Within.refl _ _
  clear_value u2
  intro u3
  clear_value u3
  intro u4
  clear_value u4
  split
  · refine (Within.set_stp (by decide)).mpr ?_
    assumption
  · assumption

theorem State.directFails_within (s : State) (id : Nat) (r : ReadOp) :
    Within [.hostLogs, .bly, .cache, .stp, .wlv, .mch, .hly, .log, .evt, .pmu] s (State.directFails s id r)
        := by
  unfold State.directFails
  split
  · refine (Within.set_stp (by decide)).mpr ?_
    exact Within.refl _ _
  · split
    · refine Within.step (State.modRead_within _ _ _) (by decide) ?_
      exact Within.refl _ _
    · lift_lets -underBinder
      intro u1
      have h1 : Within [.hostLogs, .bly, .cache, .stp, .wlv, .mch, .hly, .log, .evt, .pmu] s u1 := by
        subst u1
        refine Within.step (State.flagWindow_within _ _) (by decide) ?_
        exact Within.refl _ _
      clear_value u1
      intro u2
      clear_value u2
      refine Within.step (State.aroundRead_within _ _ _ _) (by decide) ?_
      refine Within.step (State.modRead_within _ _ _) (by decide) ?_
      assumption

theorem State.memberFails_within (s : State) (id : Nat) (r : ReadOp) (pos : Nat) :
    Within [.hostLogs, .bly, .cache, .stp, .wlv, .mch, .hly, .log, .evt, .pmu] s (State.memberFails s id r
        pos) := by
  unfold State.memberFails
  split
  · refine (Within.set_stp (by decide)).mpr ?_
    exact Within.refl _ _
  · lift_lets -underBinder
    intro u1
    clear_value u1
    intro u2
    have h2 : Within [.hostLogs, .bly, .cache, .stp, .wlv, .mch, .hly, .log, .evt, .pmu] s u2 := by
      subst u2
      refine Within.step (State.flagWindow_within _ _) (by decide) ?_
      exact Within.refl _ _
    clear_value u2
    intro u3
    clear_value u3
    split
    · lift_lets -underBinder
      intro u4
      clear_value u4
      intro u5
      have h5 : Within [.hostLogs, .bly, .cache, .stp, .wlv, .mch, .hly, .log, .evt, .pmu] s u5 := by
        subst u5
        refine Within.step (State.readyMember_within _ _ _) (by decide) ?_
        assumption
      clear_value u5
      refine Within.step (State.modRead_within _ _ _) (by decide) ?_
      assumption
    · split
      · refine Within.step (State.modRead_within _ _ _) (by decide) ?_
        assumption
      · refine Within.step (State.pendRead_within _ _ _) (by decide) ?_
        assumption

theorem State.alertCause_within (s : State) (k cause : Nat) (v : Severity) :
    Within [.hostLogs, .seq, .log, .evt] s (State.alertCause s k cause v) := by
  unfold State.alertCause
  refine Within.step (State.fire_within _ _ _ _) (by decide) ?_
  refine Within.step (State.modSlot_within _ _ _) (by decide) ?_
  exact Within.refl _ _

theorem State.dieTemp_within (s : State) (ch die : Nat) (t : Int) :
    Within [.glb, .level, .port0, .port1, .hostLogs, .bly, .cache, .vbf, .stp, .wlv, .media, .mch, .kce,
        .mst, .hly, .seq, .log, .evt, .pmu] s (State.dieTemp s ch die t) := by
  unfold State.dieTemp
  lift_lets -underBinder
  intro u1
  clear_value u1
  intro u2
  clear_value u2
  intro u3
  have h3 : Within [.glb, .level, .port0, .port1, .hostLogs, .bly, .cache, .vbf, .stp, .wlv,   .media, .mch,
      .kce, .mst, .hly, .seq, .log, .evt, .pmu] s u3 := by
    subst u3
    refine Within.step (State.modDie_within _ _ _ _) (by decide) ?_
    exact Within.refl _ _
  clear_value u3
  intro u4
  have h4 : Within [.glb, .level, .port0, .port1, .hostLogs, .bly, .cache, .vbf, .stp, .wlv,   .media, .mch,
      .kce, .mst, .hly, .seq, .log, .evt, .pmu] s u4 := by
    subst u4
    split
    · refine Within.step (State.alertCause_within _ _ _ _) (by decide) ?_
      refine Within.step (State.fire_within _ _ _ _) (by decide) ?_
      assumption
    · assumption
  clear_value u4
  split
  · refine Within.step (State.failModule_within _ _) (by decide) ?_
    refine Within.step (State.alertCause_within _ _ _ _) (by decide) ?_
    assumption
  · assumption

theorem execMediaReadIssue_within (id : Nat) (s : State) :
    WithinOut [.port0, .port1, .hostLogs, .bly, .cache, .stp, .wlv, .mch, .hly, .clk, .log, .evt, .pmu] s
        (execMediaReadIssue id s) := by
  unfold execMediaReadIssue
  refine WithinOut.next ?_
  split
  · exact Within.refl _ _
  · split
    · exact Within.refl _ _
    · split
      · lift_lets -underBinder
        intro u1
        clear_value u1
        split
        · refine Within.step (State.sendRead_within _ _) (by decide) ?_
          refine Within.step (State.modRead_within _ _ _) (by decide) ?_
          exact Within.refl _ _
        · exact Within.refl _ _
      · refine Within.step (State.routeRead_within _ _ _) (by decide) ?_
        exact Within.refl _ _

theorem execProgramResume_within (ch : Chan) (die : Die) (s : State) :
    WithinOut [.stp, .mch, .pmu] s (execProgramResume ch die s) := by
  unfold execProgramResume
  refine WithinOut.next ?_
  split
  · exact Within.refl _ _
  · split
    · exact Within.refl _ _
    · refine Within.step (State.sendCmd_within _ _ _ _ _ _ _) (by decide) ?_
      refine Within.step (State.modProg_within _ _ _) (by decide) ?_
      exact Within.refl _ _

theorem State.markSent_within (s : State) (id : Nat) :
    Within [.vbf, .stp] s (State.markSent s id) := by
  unfold State.markSent
  lift_lets -underBinder
  intro u1
  clear_value u1
  intro u2
  clear_value u2
  intro u3
  have h3 : Within [.vbf, .stp] s u3 := by
    subst u3
    refine (Within.set_stp (by decide)).mpr ?_
    exact Within.refl _ _
  clear_value u3
  refine Within.foldl (fun u a h => ?_) ?_
  · refine Within.step (State.modVictim_within _ _ _) (by decide) ?_
    assumption
  · assumption

theorem State.countProgram_within (s : State) (g : Prog) :
    Within [.wlv] s (State.countProgram s g) := by
  unfold State.countProgram
  split
  · exact Within.refl _ _
  · exact Within.refl _ _
  · refine (Within.set_wlv (by decide)).mpr ?_
    exact Within.refl _ _

theorem State.touchRow_within (s : State) (row : Nat) :
    Within [.stp] s (State.touchRow s row) := by
  unfold State.touchRow
  lift_lets -underBinder
  intro u1
  clear_value u1
  intro u2
  clear_value u2
  split
  · refine (Within.set_stp (by decide)).mpr ?_
    exact Within.refl _ _
  · exact Within.refl _ _

theorem State.noteStart_within (s : State) (g : Prog) :
    Within [.vbf, .stp, .wlv] s (State.noteStart s g) := by
  unfold State.noteStart
  lift_lets -underBinder
  intro u1
  have h1 : Within [.vbf, .stp, .wlv] s u1 := by
    subst u1
    split
    · exact Within.refl _ _
    · refine Within.step (State.markSent_within _ _) (by decide) ?_
      exact Within.refl _ _
  clear_value u1
  refine Within.step (State.touchRow_within _ _) (by decide) ?_
  refine Within.step (State.countProgram_within _ _) (by decide) ?_
  assumption

theorem execProgramStart_within (ch : Chan) (die : Die) (s : State) :
    WithinOut [.draws, .vbf, .stp, .wlv, .mch, .pmu] s (execProgramStart ch die s) := by
  unfold execProgramStart
  refine WithinOut.next ?_
  split
  · exact Within.refl _ _
  · split
    · exact Within.refl _ _
    · split
      · exact Within.refl _ _
      · lift_lets -underBinder
        intro u1
        clear_value u1
        intro u2
        have h2 : Within [.draws, .vbf, .stp, .wlv, .mch, .pmu] s u2 := by
          subst u2
          refine Within.step (State.modProg_within _ _ _) (by decide) ?_
          exact Within.refl _ _
        clear_value u2
        intro u3
        have h3 : Within [.draws, .vbf, .stp, .wlv, .mch, .pmu] s u3 := by
          subst u3
          refine Within.step (State.noteStart_within _ _) (by decide) ?_
          refine Within.step (State.sendCmd_within _ _ _ _ _ _ _) (by decide) ?_
          assumption
        clear_value u3
        intro u4
        clear_value u4
        refine Within.step (State.wearDraw_within _ _) (by decide) ?_
        assumption

theorem State.saveBase_within (s : State) (ch die : Nat) :
    Within [.media] s (State.saveBase s ch die) := by
  unfold State.saveBase
  lift_lets -underBinder
  intro u1
  clear_value u1
  intro u2
  clear_value u2
  intro u3
  clear_value u3
  refine (Within.set_media (by decide)).mpr ?_
  exact Within.refl _ _

theorem execDriftClockTick_within (ch : Chan) (die : Die) (tempC : Int) (s : State) :
    WithinOut [.glb, .level, .port0, .port1, .hostLogs, .bly, .cache, .vbf, .stp, .wlv, .media, .mch, .kce,
        .mst, .hly, .seq, .log, .evt, .pmu] s (execDriftClockTick ch die tempC s) := by
  unfold execDriftClockTick
  split
  · exact WithinOut.fault _ _ _
  · refine WithinOut.next ?_
    lift_lets -underBinder
    intro u1 u2
    intro u3 u4 u5
    clear_value u5
    intro u6
    clear_value u6
    intro u7
    have h7 : Within [.glb, .level, .port0, .port1, .hostLogs, .bly, .cache, .vbf, .stp, .wlv,   .media,
        .mch, .kce, .mst, .hly, .seq, .log, .evt, .pmu] s u7 := by
      subst u7
      refine Within.step (State.modDie_within _ _ _ _) (by decide) ?_
      exact Within.refl _ _
    clear_value u7
    intro u8
    have h8 : Within [.glb, .level, .port0, .port1, .hostLogs, .bly, .cache, .vbf, .stp, .wlv,   .media,
        .mch, .kce, .mst, .hly, .seq, .log, .evt, .pmu] s u8 := by
      subst u8
      refine Within.step (State.sendCmd_within _ _ _ _ _ _ _) (by decide) ?_
      assumption
    clear_value u8
    intro u9
    have h9 : Within [.glb, .level, .port0, .port1, .hostLogs, .bly, .cache, .vbf, .stp, .wlv,   .media,
        .mch, .kce, .mst, .hly, .seq, .log, .evt, .pmu] s u9 := by
      subst u9
      split
      · assumption
      · refine Within.step (State.saveBase_within _ _ _) (by decide) ?_
        assumption
    clear_value u9
    intro u10
    have h10 : Within [.glb, .level, .port0, .port1, .hostLogs, .bly, .cache, .vbf, .stp, .wlv,   .media,
        .mch, .kce, .mst, .hly, .seq, .log, .evt, .pmu] s u10 := by
      subst u10
      split
      · refine Within.step (State.fire_within _ _ _ _) (by decide) ?_
        assumption
      · assumption
    clear_value u10
    split
    · exact Within.refl _ _
    · refine Within.step (State.dieTemp_within _ _ _ _) (by decide) ?_
      assumption

theorem execOffsetTableReload_within (ch : Chan) (die : Die) (s : State) :
    WithinOut [.mch, .pmu] s (execOffsetTableReload ch die s) := by
  unfold execOffsetTableReload
  refine WithinOut.next ?_
  lift_lets -underBinder
  intro u1
  clear_value u1
  split
  · exact Within.refl _ _
  · refine Within.step (State.sendCmd_within _ _ _ _ _ _ _) (by decide) ?_
    refine Within.step (State.modDie_within _ _ _ _) (by decide) ?_
    exact Within.refl _ _

theorem execDriftClockRestore_within (ch : Chan) (die : Die) (stamp age : BitVec 40) (s : State) :
    WithinOut [.mch] s (execDriftClockRestore ch die stamp age s) := by
  unfold execDriftClockRestore
  refine WithinOut.next ?_
  split
  · exact Within.refl _ _
  · refine Within.step (State.modDie_within _ _ _ _) (by decide) ?_
    exact Within.refl _ _

theorem execDualReadCompare_within (id : Nat) (differ : Bool) (s : State) :
    WithinOut [.hostLogs, .stp, .mch, .log, .evt] s (execDualReadCompare id differ s) := by
  unfold execDualReadCompare
  refine WithinOut.next ?_
  split
  · exact Within.refl _ _
  · split
    · exact Within.refl _ _
    · lift_lets -underBinder
      intro u1
      clear_value u1
      intro u2
      have h2 : Within [.hostLogs, .stp, .mch, .log, .evt] s u2 := by
        subst u2
        refine (Within.set_stp (by decide)).mpr ?_
        exact Within.refl _ _
      clear_value u2
      intro u3
      clear_value u3
      intro u4
      have h4 : Within [.hostLogs, .stp, .mch, .log, .evt] s u4 := by
        subst u4
        refine Within.step (State.addrEntry_within _ _ _ _ _) (by decide) ?_
        assumption
      clear_value u4
      intro u5
      clear_value u5
      intro u6
      have h6 : Within [.hostLogs, .stp, .mch, .log, .evt] s u6 := by
        subst u6
        refine (Within.set_stp (by decide)).mpr ?_
        assumption
      clear_value u6
      split
      · assumption
      · refine Within.step (State.fire_within _ _ _ _) (by decide) ?_
        assumption

theorem execPrefetchDropTimeout_within (id : Nat) (s : State) :
    WithinOut [.port0, .port1, .hostLogs, .bly, .stp] s (execPrefetchDropTimeout id s) := by
  unfold execPrefetchDropTimeout
  refine WithinOut.next ?_
  split
  · exact Within.refl _ _
  · split
    · refine Within.step (State.dropPrefetch_within _ _) (by decide) ?_
      exact Within.refl _ _
    · exact Within.refl _ _

theorem execPrefetchDecode_within (id : Nat) (r : Sense) (s : State) :
    WithinOut [.port0, .port1, .hostLogs, .bly, .cache, .vbf, .stp] s (execPrefetchDecode id r s) := by
  unfold execPrefetchDecode
  refine WithinOut.next ?_
  split
  · exact Within.refl _ _
  · split
    · exact Within.refl _ _
    · lift_lets -underBinder
      intro u1
      clear_value u1
      intro u2
      clear_value u2
      split
      · refine Within.step (State.dropPrefetch_within _ _) (by decide) ?_
        exact Within.refl _ _
      · split
        refine Within.step (State.dropPrefetch_within _ _) (by decide) ?_
        refine Within.step (State.fillWay_within _ _ _ _) (by decide) ?_
        refine Within.step (Within.of_fst (State.allocFill_within _ _) (by assumption)) (by decide) ?_
        exact Within.refl _ _

theorem State.endPass_within (s : State) (ch die : Nat) :
    Within [.wlv, .mch, .tel] s (State.endPass s ch die) := by
  unfold State.endPass
  lift_lets -underBinder
  intro u1
  clear_value u1
  intro u2
  subst u2
  intro u3
  subst u3
  intro u4
  have h4 : Within [.wlv, .mch, .tel] s u4 := by
    subst u4
    refine Within.step (State.modCh_within _ _ _) (by decide) ?_
    exact Within.refl _ _
  intro u5
  clear_value u5
  intro u6
  have h6 : Within [.wlv, .mch, .tel] s u6 := by
    subst u6
    refine (Within.set_wlv (by decide)).mpr ?_
    assumption
  intro u7 u8
  clear_value u8
  intro u9
  clear_value u9
  intro u10
  clear_value u10
  intro u11
  have h11 : Within [.wlv, .mch, .tel] s u11 := by
    subst u11
    refine (Within.set_tel (by decide)).mpr ?_
    assumption
  clear_value u11
  refine Within.step (State.modDie_within _ _ _ _) (by decide) ?_
  assumption

theorem State.saveSweep_within (s : State) (ch die n : Nat) :
    Within [.media] s (State.saveSweep s ch die n) := by
  unfold State.saveSweep
  refine (Within.set_media (by decide)).mpr ?_
  exact Within.refl _ _

theorem State.advanceSweep_within (s : State) (ch die : Nat) :
    Within [.wlv, .media, .mch, .tel] s (State.advanceSweep s ch die) := by
  unfold State.advanceSweep
  lift_lets -underBinder
  intro u1
  clear_value u1
  intro u2
  clear_value u2
  intro u3
  clear_value u3
  intro u4
  clear_value u4
  intro u5
  clear_value u5
  intro u6
  have h6 : Within [.wlv, .media, .mch, .tel] s u6 := by
    subst u6
    split
    · refine Within.step (State.modDie_within _ _ _ _) (by decide) ?_
      exact Within.refl _ _
    · refine Within.step (State.endPass_within _ _ _) (by decide) ?_
      exact Within.refl _ _
  clear_value u6
  split
  · assumption
  · refine Within.step (State.saveSweep_within _ _ _ _) (by decide) ?_
    assumption

theorem State.rewriteMember_within (s : State) (row pos : Nat) :
    Within [.stp] s (State.rewriteMember s row pos) := by
  unfold State.rewriteMember
  lift_lets -underBinder
  intro u1
  clear_value u1
  intro u2
  clear_value u2
  intro u3
  clear_value u3
  intro u4
  clear_value u4
  refine Within.step (State.addProg_within _ _) (by decide) ?_
  exact Within.refl _ _

theorem State.backgroundTier2_within (s : State) (row pos : Nat) :
    Within [.hostLogs, .stp, .wlv, .mch, .log, .evt] s (State.backgroundTier2 s row pos).1 := by
  unfold State.backgroundTier2
  lift_lets -underBinder
  intro u1
  clear_value u1
  split
  · dsimp only
    refine Within.step (State.modCh_within _ _ _) (by decide) ?_
    exact Within.refl _ _
  · split
    · dsimp only
      refine Within.step (State.makePending_within _ _) (by decide) ?_
      exact Within.refl _ _
    · dsimp only
      exact Within.refl _ _

theorem State.visitMember_within (s : State) (row pos : Nat) (r : Sense) :
    Within [.draws, .hostLogs, .stp, .wlv, .mch, .tel, .log, .evt, .pmu] s (State.visitMember s row pos r)
        := by
  unfold State.visitMember
  lift_lets -underBinder
  intro u1
  clear_value u1
  intro u2
  clear_value u2
  intro u3
  subst u3
  intro u4
  subst u4
  intro u5
  have h5 : Within [.draws, .hostLogs, .stp, .wlv, .mch, .tel, .log, .evt, .pmu] s u5 := by
    subst u5
    split
    · refine Within.step (State.decodeMember_within _ _ _ _) (by decide) ?_
      exact Within.refl _ _
    · refine Within.step (State.backgroundTier2_within _ _ _) (by decide) ?_
      refine Within.step (State.decodeMember_within _ _ _ _) (by decide) ?_
      exact Within.refl _ _
  clear_value u5
  intro u6
  clear_value u6
  intro u7
  clear_value u7
  intro u8
  have h8 : Within [.draws, .hostLogs, .stp, .wlv, .mch, .tel, .log, .evt, .pmu] s u8 := by
    subst u8
    split
    · refine Within.step (State.noteMediaPoison_within _ _ _) (by decide) ?_
      assumption
    · assumption
  clear_value u8
  intro u9
  clear_value u9
  intro u10
  have h10 : Within [.draws, .hostLogs, .stp, .wlv, .mch, .tel, .log, .evt, .pmu] s u10 := by
    subst u10
    refine Within.step (State.modDie_within _ _ _ _) (by decide) ?_
    assumption
  clear_value u10
  split
  · refine Within.step (State.rewriteMember_within _ _ _) (by decide) ?_
    assumption
  · assumption

theorem execRefreshVisit_within (ch : Chan) (die : Die) (r : Sense) (s : State) :
    WithinOut [.draws, .hostLogs, .stp, .wlv, .media, .mch, .tel, .log, .evt, .pmu] s (execRefreshVisit ch
        die r s) := by
  unfold execRefreshVisit
  refine WithinOut.next ?_
  lift_lets -underBinder
  intro u1
  clear_value u1
  intro u2
  have h2 : Within [.draws, .hostLogs, .stp, .wlv, .media, .mch, .tel, .log, .evt, .pmu] s u2 := by
    subst u2
    split
    · exact Within.refl _ _
    · split
      · exact Within.refl _ _
      · refine Within.step (State.visitMember_within _ _ _ _) (by decide) ?_
        exact Within.refl _ _
  clear_value u2
  split
  · exact Within.refl _ _
  · refine Within.step (State.advanceSweep_within _ _ _) (by decide) ?_
    assumption

theorem State.decodeDirect_within (s : State) (id : Nat) (x : ReadOp) (r : Sense) :
    Within [.draws, .port0, .port1, .hostLogs, .bly, .cache, .stp, .wlv, .mch, .hly, .tel, .log, .evt, .pmu]
        s (State.decodeDirect s id x r) := by
  unfold State.decodeDirect
  split
  split
  · refine Within.step (State.directFails_within _ _ _) (by decide) ?_
    refine Within.step (Within.of_fst (State.decodeMember_within _ _ _ _) (by assumption)) (by decide) ?_
    exact Within.refl _ _
  · split
    · refine Within.step (Within.of_fst (State.decodeMember_within _ _ _ _) (by assumption)) (by decide) ?_
      exact Within.refl _ _
    · refine Within.step (State.confirmRead_within _ _ _) (by decide) ?_
      refine Within.step (Within.of_fst (State.decodeMember_within _ _ _ _) (by assumption)) (by decide) ?_
      exact Within.refl _ _

theorem State.decodeAround_within (s : State) (id : Nat) (x : ReadOp) (pos : Nat) (r : Sense) :
    Within [.draws, .hostLogs, .bly, .cache, .stp, .wlv, .mch, .hly, .tel, .log, .evt, .pmu] s
        (State.decodeAround s id x pos r) := by
  unfold State.decodeAround
  split
  split
  · refine Within.step (State.modRead_within _ _ _) (by decide) ?_
    refine Within.step (Within.of_fst (State.decodeMember_within _ _ _ _) (by assumption)) (by decide) ?_
    exact Within.refl _ _
  · refine Within.step (State.memberFails_within _ _ _ _) (by decide) ?_
    refine Within.step (Within.of_fst (State.decodeMember_within _ _ _ _) (by assumption)) (by decide) ?_
    exact Within.refl _ _

theorem execSectorDecode_within (id : Nat) (k : Slot) (r : Sense) (s : State) :
    WithinOut [.draws, .port0, .port1, .hostLogs, .bly, .cache, .stp, .wlv, .mch, .hly, .tel, .log, .evt,
        .pmu] s (execSectorDecode id k r s) := by
  unfold execSectorDecode
  refine WithinOut.next ?_
  split
  · exact Within.refl _ _
  · lift_lets -underBinder
    intro u1
    clear_value u1
    intro u2
    clear_value u2
    intro u3
    clear_value u3
    intro u4
    clear_value u4
    intro u5
    clear_value u5
    split
    · exact Within.refl _ _
    · split
      · split
        · refine Within.step (State.decodeDirect_within _ _ _ _) (by decide) ?_
          exact Within.refl _ _
        · exact Within.refl _ _
      · split
        · refine Within.step (State.decodeAround_within _ _ _ _ _) (by decide) ?_
          exact Within.refl _ _
        · exact Within.refl _ _

theorem execTier2Reconstruct_within (id : Nat) (s : State) :
    WithinOut [.port0, .port1, .hostLogs, .bly, .cache, .stp, .wlv, .mch, .hly, .log, .evt, .pmu] s
        (execTier2Reconstruct id s) := by
  unfold execTier2Reconstruct
  refine WithinOut.next ?_
  split
  · exact Within.refl _ _
  · split
    · exact Within.refl _ _
    · split
      · split
        · refine Within.step (State.modRead_within _ _ _) (by decide) ?_
          exact Within.refl _ _
        · refine Within.step (State.pendRead_within _ _ _) (by decide) ?_
          exact Within.refl _ _
      · lift_lets -underBinder
        intro u1
        clear_value u1
        intro u2
        have h2 : Within [.port0, .port1, .hostLogs, .bly, .cache, .stp, .wlv, .mch, .hly, .log,   .evt,
            .pmu] s u2 := by
          subst u2
          refine Within.step (State.modCh_within _ _ _) (by decide) ?_
          exact Within.refl _ _
        clear_value u2
        intro u3
        clear_value u3
        intro u4
        have h4 : Within [.port0, .port1, .hostLogs, .bly, .cache, .stp, .wlv, .mch, .hly, .log,   .evt,
            .pmu] s u4 := by
          subst u4
          split
          · assumption
          · refine (Within.set_stp (by decide)).mpr ?_
            assumption
        clear_value u4
        refine Within.step (State.confirmRead_within _ _ _) (by decide) ?_
        assumption

theorem execTier3Start_within (s : State) :
    WithinOut [.stp] s (execTier3Start s) := by
  unfold execTier3Start
  refine WithinOut.next ?_
  split
  · exact Within.refl _ _
  · split
    · exact Within.refl _ _
    · lift_lets -underBinder
      intro u1
      clear_value u1
      intro u2
      clear_value u2
      refine (Within.set_stp (by decide)).mpr ?_
      exact Within.refl _ _

theorem State.leaveCam_within (s : State) (lsn : Nat) :
    Within [.wlv] s (State.leaveCam s lsn) := by
  unfold State.leaveCam
  refine (Within.set_wlv (by decide)).mpr ?_
  exact Within.refl _ _

theorem State.tier3Recovered_within (s : State) (lsn : Nat) :
    Within [.hostLogs, .stp, .wlv, .log, .evt] s (State.tier3Recovered s lsn) := by
  unfold State.tier3Recovered
  lift_lets -underBinder
  intro u1
  have h1 : Within [.hostLogs, .stp, .wlv, .log, .evt] s u1 := by
    subst u1
    refine Within.step (State.leaveCam_within _ _) (by decide) ?_
    refine Within.step (State.poisonDrop_within _ _) (by decide) ?_
    exact Within.refl _ _
  clear_value u1
  intro u2
  have h2 : Within [.hostLogs, .stp, .wlv, .log, .evt] s u2 := by
    subst u2
    refine Within.step (State.noteMediaPoison_within _ _ _) (by decide) ?_
    assumption
  clear_value u2
  intro u3
  have h3 : Within [.hostLogs, .stp, .wlv, .log, .evt] s u3 := by
    subst u3
    refine Within.step (State.rewriteMember_within _ _ _) (by decide) ?_
    assumption
  clear_value u3
  intro u4
  clear_value u4
  intro u5
  have h5 : Within [.hostLogs, .stp, .wlv, .log, .evt] s u5 := by
    subst u5
    refine (Within.set_stp (by decide)).mpr ?_
    assumption
  clear_value u5
  intro u6
  clear_value u6
  refine Within.step (State.fire_within _ _ _ _) (by decide) ?_
  assumption

theorem State.tier3Lost_within (s : State) (lsn : Nat) :
    Within [.hostLogs, .stp, .wlv, .media, .log, .evt] s (State.tier3Lost s lsn) := by
  unfold State.tier3Lost
  lift_lets -underBinder
  intro u1
  have h1 : Within [.hostLogs, .stp, .wlv, .media, .log, .evt] s u1 := by
    subst u1
    refine Within.step (State.leaveCam_within _ _) (by decide) ?_
    refine Within.step (State.writeLost_within _ _) (by decide) ?_
    exact Within.refl _ _
  clear_value u1
  intro u2
  clear_value u2
  intro u3
  have h3 : Within [.hostLogs, .stp, .wlv, .media, .log, .evt] s u3 := by
    subst u3
    refine (Within.set_stp (by decide)).mpr ?_
    assumption
  clear_value u3
  refine Within.step (State.orderMember_within _ _ _ _) (by decide) ?_
  assumption

theorem execTier3Outcome_within (lsn : BitVec 40) (recovered : Bool) (s : State) :
    WithinOut [.hostLogs, .stp, .wlv, .media, .log, .evt] s (execTier3Outcome lsn recovered s) := by
  unfold execTier3Outcome
  refine WithinOut.next ?_
  split
  · exact Within.refl _ _
  · lift_lets -underBinder
    intro u1
    clear_value u1
    intro u2
    have h2 : Within [.hostLogs, .stp, .wlv, .media, .log, .evt] s u2 := by
      subst u2
      refine (Within.set_stp (by decide)).mpr ?_
      exact Within.refl _ _
    clear_value u2
    split
    · refine Within.step (State.tier3Recovered_within _ _) (by decide) ?_
      assumption
    · refine Within.step (State.tier3Lost_within _ _) (by decide) ?_
      assumption

theorem execPoisonListCopy_within (s : State) :
    WithinOut [.wlv, .media] s (execPoisonListCopy s) := by
  unfold execPoisonListCopy
  refine WithinOut.next ?_
  split
  · exact Within.refl _ _
  · lift_lets -underBinder
    intro u1
    subst u1
    intro u2
    clear_value u2
    intro u3
    clear_value u3
    refine (Within.set_wlv_media (by decide) (by decide)).mpr ?_
    exact Within.refl _ _

theorem execPoisonReconcile_within (lsn : BitVec 40) (s : State) :
    WithinOut [.hostLogs, .wlv, .log, .evt] s (execPoisonReconcile lsn s) := by
  unfold execPoisonReconcile
  refine WithinOut.next ?_
  split
  · exact Within.refl _ _
  · lift_lets -underBinder
    intro u1
    clear_value u1
    split
    · exact Within.refl _ _
    · split
      · exact Within.refl _ _
      · split
        · refine Within.step (State.poisonDrop_within _ _) (by decide) ?_
          exact Within.refl _ _
        · refine Within.step (State.poisonSet_within _ _ _ _) (by decide) ?_
          exact Within.refl _ _

theorem State.advanceScrub_within (s : State) :
    Within [.stp, .media] s (State.advanceScrub s) := by
  unfold State.advanceScrub
  lift_lets -underBinder
  intro u1
  clear_value u1
  intro u2
  have h2 : Within [.stp, .media] s u2 := by
    subst u2
    refine (Within.set_stp (by decide)).mpr ?_
    exact Within.refl _ _
  clear_value u2
  split
  · refine (Within.set_stp (by decide)).mpr ?_
    assumption
  · lift_lets -underBinder
    intro u3
    clear_value u3
    intro u4
    clear_value u4
    intro u5
    clear_value u5
    split
    · refine (Within.set_stp_media (by decide) (by decide)).mpr ?_
      assumption
    · refine (Within.set_stp_media (by decide) (by decide)).mpr ?_
      assumption

theorem State.scrubLocated_within (s : State) (row pos : Nat) :
    Within [.hostLogs, .stp, .wlv, .mch, .log, .evt] s (State.scrubLocated s row pos) := by
  unfold State.scrubLocated
  lift_lets -underBinder
  intro u1
  clear_value u1
  intro u2
  clear_value u2
  intro u3
  clear_value u3
  intro u4
  have h4 : Within [.hostLogs, .stp, .wlv, .mch, .log, .evt] s u4 := by
    subst u4
    refine Within.step (State.modCh_within _ _ _) (by decide) ?_
    exact Within.refl _ _
  clear_value u4
  intro u5
  have h5 : Within [.hostLogs, .stp, .wlv, .mch, .log, .evt] s u5 := by
    subst u5
    refine Within.step (State.rewriteMember_within _ _ _) (by decide) ?_
    refine Within.step (State.addrEntry_within _ _ _ _ _) (by decide) ?_
    assumption
  clear_value u5
  intro u6
  clear_value u6
  intro u7
  have h7 : Within [.hostLogs, .stp, .wlv, .mch, .log, .evt] s u7 := by
    subst u7
    refine (Within.set_stp (by decide)).mpr ?_
    assumption
  clear_value u7
  intro u8
  clear_value u8
  intro u9
  have h9 : Within [.hostLogs, .stp, .wlv, .mch, .log, .evt] s u9 := by
    subst u9
    refine Within.step (State.fire_within _ _ _ _) (by decide) ?_
    assumption
  clear_value u9
  split
  · refine Within.step (State.orderMember_within _ _ _ _) (by decide) ?_
    assumption
  · assumption

theorem State.scrubOutcome_within (s : State) (row : Nat) (x : ScrubResult) :
    Within [.hostLogs, .stp, .wlv, .mch, .log, .evt] s (State.scrubOutcome s row x) := by
  unfold State.scrubOutcome
  split
  · exact Within.refl _ _
  · refine Within.step (State.scrubLocated_within _ _ _) (by decide) ?_
    exact Within.refl _ _
  · refine Within.step (State.scrubLocated_within _ _ _) (by decide) ?_
    exact Within.refl _ _
  · refine Within.step (State.scrubLocated_within _ _ _) (by decide) ?_
    exact Within.refl _ _
  · lift_lets -underBinder
    intro u1
    have h1 : Within [.hostLogs, .stp, .wlv, .mch, .log, .evt] s u1 := by
      subst u1
      refine Within.step (State.rewriteMember_within _ _ _) (by decide) ?_
      refine Within.step (State.rewriteMember_within _ _ _) (by decide) ?_
      exact Within.refl _ _
    clear_value u1
    intro u2
    clear_value u2
    intro u3
    have h3 : Within [.hostLogs, .stp, .wlv, .mch, .log, .evt] s u3 := by
      subst u3
      refine (Within.set_stp (by decide)).mpr ?_
      assumption
    clear_value u3
    intro u4
    clear_value u4
    refine Within.step (State.fire_within _ _ _ _) (by decide) ?_
    assumption

theorem State.scrubRefresh_within (s : State) (row : Nat) :
    Within [.stp] s (State.scrubRefresh s row) := by
  unfold State.scrubRefresh
  refine Within.foldl (fun u a h => ?_) ?_
  · lift_lets -underBinder
    intro u1
    clear_value u1
    intro u2
    clear_value u2
    split
    · refine Within.step (State.rewriteMember_within _ _ _) (by decide) ?_
      assumption
    · assumption
  · exact Within.refl _ _

theorem State.scrubRow_within (s : State) (row : Nat) (sp sq : BitVec 2112) :
    Within [.hostLogs, .stp, .wlv, .mch, .log, .evt] s (State.scrubRow s row sp sq) := by
  unfold State.scrubRow
  lift_lets -underBinder
  intro u1
  clear_value u1
  intro u2
  have h2 : Within [.hostLogs, .stp, .wlv, .mch, .log, .evt] s u2 := by
    subst u2
    split
    · refine Within.step (State.scrubOutcome_within _ _ _) (by decide) ?_
      exact Within.refl _ _
    · refine Within.step (State.scrubOutcome_within _ _ _) (by decide) ?_
      exact Within.refl _ _
    · exact Within.refl _ _
  clear_value u2
  refine Within.step (State.scrubRefresh_within _ _) (by decide) ?_
  assumption

theorem execScrubRowCheck_within (sp sq : BitVec 2112) (s : State) :
    WithinOut [.hostLogs, .stp, .wlv, .media, .mch, .log, .evt] s (execScrubRowCheck sp sq s) := by
  unfold execScrubRowCheck
  refine WithinOut.next ?_
  lift_lets -underBinder
  intro u1
  clear_value u1
  intro u2
  have h2 : Within [.hostLogs, .stp, .wlv, .media, .mch, .log, .evt] s u2 := by
    subst u2
    refine Within.step (State.advanceScrub_within _) (by decide) ?_
    exact Within.refl _ _
  clear_value u2
  intro u3
  clear_value u3
  split
  · exact Within.refl _ _
  · split
    · split
      · refine Within.step (State.advanceScrub_within _) (by decide) ?_
        exact Within.refl _ _
      · refine (Within.set_stp (by decide)).mpr ?_
        assumption
    · split
      · refine Within.step (State.advanceScrub_within _) (by decide) ?_
        exact Within.refl _ _
      · refine Within.step (State.advanceScrub_within _) (by decide) ?_
        refine Within.step (State.scrubRow_within _ _ _ _) (by decide) ?_
        exact Within.refl _ _

theorem State.noteCrc_within (s : State) (ch : Nat) :
    Within [.hostLogs, .mch, .log, .evt] s (State.noteCrc s ch) := by
  unfold State.noteCrc
  refine Within.step (State.bucketAdd_within _ _ _) (by decide) ?_
  refine Within.step (State.modCh_within _ _ _) (by decide) ?_
  exact Within.refl _ _

theorem State.packetFails_within (s : State) (ch : Nat) :
    Within [.hostLogs, .mch, .log, .evt] s (State.packetFails s ch) := by
  unfold State.packetFails
  refine Within.step (State.noteCrc_within _ _) (by decide) ?_
  refine Within.step (State.modCh_within _ _ _) (by decide) ?_
  exact Within.refl _ _

theorem State.burstFails_within (s : State) (ch : Nat) :
    Within [.hostLogs, .mch, .log, .evt] s (State.burstFails s ch) := by
  unfold State.burstFails
  refine Within.step (State.noteCrc_within _ _) (by decide) ?_
  refine Within.step (State.modCh_within _ _ _) (by decide) ?_
  exact Within.refl _ _

theorem State.expiry_within (s : State) (ch die : Nat) :
    Within [.glb, .level, .port0, .port1, .hostLogs, .bly, .cache, .vbf, .stp, .wlv, .media, .mch, .kce,
        .mst, .hly, .seq, .log, .evt, .pmu] s (State.expiry s ch die) := by
  unfold State.expiry
  lift_lets -underBinder
  intro u1
  clear_value u1
  intro u2
  have h2 : Within [.glb, .level, .port0, .port1, .hostLogs, .bly, .cache, .vbf, .stp, .wlv,   .media, .mch,
      .kce, .mst, .hly, .seq, .log, .evt, .pmu] s u2 := by
    subst u2
    refine Within.step (State.modCh_within _ _ _) (by decide) ?_
    exact Within.refl _ _
  clear_value u2
  intro u3
  have h3 : Within [.glb, .level, .port0, .port1, .hostLogs, .bly, .cache, .vbf, .stp, .wlv,   .media, .mch,
      .kce, .mst, .hly, .seq, .log, .evt, .pmu] s u3 := by
    subst u3
    refine Within.step (State.bucketAdd_within _ _ _) (by decide) ?_
    refine Within.step (State.modDie_within _ _ _ _) (by decide) ?_
    assumption
  clear_value u3
  split
  · refine Within.step (State.retireDie_within _ _ _) (by decide) ?_
    assumption
  · assumption

theorem execAck_within (ch : Chan) (r : Resp) (s : State) :
    WithinOut [.hostLogs, .mch, .log, .evt] s (execAck ch r s) := by
  unfold execAck
  unfold State.onResponse
  refine WithinOut.next ?_
  split
  · exact Within.refl _ _
  · split
    · refine Within.step (State.packetFails_within _ _) (by decide) ?_
      exact Within.refl _ _
    · beta_reduce
      refine Within.step (State.modDie_within _ _ _ _) (by decide) ?_
      exact Within.refl _ _

theorem execNack_within (ch : Chan) (r : Resp) (s : State) :
    WithinOut [.hostLogs, .stp, .mch, .log, .evt, .pmu] s (execNack ch r s) := by
  unfold execNack
  unfold State.onResponse
  refine WithinOut.next ?_
  split
  · exact Within.refl _ _
  · split
    · refine Within.step (State.packetFails_within _ _) (by decide) ?_
      exact Within.refl _ _
    · beta_reduce
      lift_lets -underBinder
      intro u1
      have h1 : Within [.hostLogs, .stp, .mch, .log, .evt, .pmu] s u1 := by
        subst u1
        refine Within.step (State.modDie_within _ _ _ _) (by decide) ?_
        exact Within.refl _ _
      clear_value u1
      split
      · assumption
      · split
        · assumption
        · lift_lets -underBinder
          intro u2
          have h2 : Within [.hostLogs, .stp, .mch, .log, .evt, .pmu] s u2 := by
            subst u2
            refine Within.step (State.modProg_within _ _ _) (by decide) ?_
            refine Within.step (State.burstFails_within _ _) (by decide) ?_
            assumption
          clear_value u2
          refine Within.step (State.sendCmd_within _ _ _ _ _ _ _) (by decide) ?_
          assumption

theorem execReady_within (ch : Chan) (r : Resp) (s : State) :
    WithinOut [.hostLogs, .stp, .mch, .log, .evt] s (execReady ch r s) := by
  unfold execReady
  unfold State.onResponse
  refine WithinOut.next ?_
  split
  · exact Within.refl _ _
  · split
    · refine Within.step (State.packetFails_within _ _) (by decide) ?_
      exact Within.refl _ _
    · beta_reduce
      split
      · split
        · refine Within.step (State.modRead_within _ _ _) (by decide) ?_
          exact Within.refl _ _
        · exact Within.refl _ _
      · exact Within.refl _ _

theorem State.burstLost_within (s : State) (id : Nat) (x : ReadOp) :
    Within [.port0, .port1, .hostLogs, .bly, .cache, .stp, .wlv, .mch, .hly, .log, .evt, .pmu] s
        (State.burstLost s id x) := by
  unfold State.burstLost
  split
  · refine Within.step (State.modRead_within _ _ _) (by decide) ?_
    refine Within.step (State.sendCmd_within _ _ _ _ _ _ _) (by decide) ?_
    exact Within.refl _ _
  · split
    · refine Within.step (State.dropPrefetch_within _ _) (by decide) ?_
      exact Within.refl _ _
    · refine Within.step (State.directFails_within _ _ _) (by decide) ?_
      exact Within.refl _ _

theorem execReadBurst_within (ch : Chan) (tag : Fin 64) (crcOk : Bool) (s : State) :
    WithinOut [.port0, .port1, .hostLogs, .bly, .cache, .stp, .wlv, .mch, .hly, .log, .evt, .pmu] s
        (execReadBurst ch tag crcOk s) := by
  unfold execReadBurst
  refine WithinOut.next ?_
  split
  · exact Within.refl _ _
  · split
    · exact Within.refl _ _
    · split
      · refine Within.step (State.modRead_within _ _ _) (by decide) ?_
        exact Within.refl _ _
      · refine Within.step (State.burstLost_within _ _ _) (by decide) ?_
        refine Within.step (State.burstFails_within _ _) (by decide) ?_
        exact Within.refl _ _

theorem State.confirmProgram_within (s : State) (i : Nat) (g : Prog) :
    Within [.stp, .media] s (State.confirmProgram s i g) := by
  unfold State.confirmProgram
  lift_lets -underBinder
  intro u1
  clear_value u1
  intro u2
  have h2 : Within [.stp, .media] s u2 := by
    subst u2
    refine (Within.set_stp (by decide)).mpr ?_
    exact Within.refl _ _
  clear_value u2
  intro u3
  have h3 : Within [.stp, .media] s u3 := by
    subst u3
    split
    · assumption
    · refine Within.step (State.setCell_within _ _ _) (by decide) ?_
      assumption
    · assumption
  clear_value u3
  split
  · refine Within.step (State.retryWriters_within _) (by decide) ?_
    assumption
  · assumption

theorem State.confirmWithdraw_within (s : State) (i : Nat) :
    Within [.stp] s (State.confirmWithdraw s i) := by
  unfold State.confirmWithdraw
  refine Within.step (State.modProg_within _ _ _) (by decide) ?_
  exact Within.refl _ _

theorem State.notePulse_within (s : State) (g : Prog) :
    Within [.tel] s (State.notePulse s g) := by
  unfold State.notePulse
  lift_lets -underBinder
  intro u1
  clear_value u1
  intro u2
  clear_value u2
  refine (Within.set_tel (by decide)).mpr ?_
  exact Within.refl _ _

theorem execDone_within (ch : Chan) (r : Resp) (s : State) :
    WithinOut [.hostLogs, .stp, .media, .mch, .tel, .log, .evt, .pmu] s (execDone ch r s) := by
  unfold execDone
  unfold State.onResponse
  refine WithinOut.next ?_
  split
  · exact Within.refl _ _
  · split
    · refine Within.step (State.packetFails_within _ _) (by decide) ?_
      exact Within.refl _ _
    · beta_reduce
      split
      · exact Within.refl _ _
      · lift_lets -underBinder
        intro u1
        have h1 : Within [.hostLogs, .stp, .media, .mch, .tel, .log, .evt, .pmu] s u1 := by
          subst u1
          split
          · refine Within.step (State.confirmWithdraw_within _ _) (by decide) ?_
            exact Within.refl _ _
          · split
            · exact Within.refl _ _
            · refine Within.step (State.confirmProgram_within _ _ _) (by decide) ?_
              refine Within.step (State.notePulse_within _ _) (by decide) ?_
              exact Within.refl _ _
        clear_value u1
        refine Within.step (State.releaseSuspended_within _ _ _) (by decide) ?_
        assumption

theorem State.verifyFailed_within (s : State) (i : Nat) (g : Prog) :
    Within [.hostLogs, .stp, .wlv, .mch, .log, .evt] s (State.verifyFailed s i g) := by
  unfold State.verifyFailed
  lift_lets -underBinder
  intro u1
  subst u1
  intro u2
  have h2 : Within [.hostLogs, .stp, .wlv, .mch, .log, .evt] s u2 := by
    subst u2
    refine Within.step (State.modCh_within _ _ _) (by decide) ?_
    beta_reduce
    refine Within.step (State.modProg_within _ _ _) (by decide) ?_
    exact Within.refl _ _
  clear_value u2
  intro u3
  clear_value u3
  intro u4
  clear_value u4
  split
  · beta_reduce
    refine Within.step (State.modProg_within _ _ _) (by decide) ?_
    exact Within.refl _ _
  · refine Within.step (State.fire_within _ _ _ _) (by decide) ?_
    refine Within.step (State.orderRetire_within _ _ _ _ _) (by decide) ?_
    assumption

theorem execFail_within (ch : Chan) (r : Resp) (s : State) :
    WithinOut [.hostLogs, .stp, .wlv, .mch, .log, .evt, .pmu] s (execFail ch r s) := by
  unfold execFail
  unfold State.onResponse
  refine WithinOut.next ?_
  split
  · exact Within.refl _ _
  · split
    · refine Within.step (State.packetFails_within _ _) (by decide) ?_
      exact Within.refl _ _
    · beta_reduce
      split
      · exact Within.refl _ _
      · split
        · exact Within.refl _ _
        · refine Within.step (State.releaseSuspended_within _ _ _) (by decide) ?_
          refine Within.step (State.verifyFailed_within _ _ _) (by decide) ?_
          exact Within.refl _ _

theorem State.confirmSuspend_within (s : State) (i : Nat) (g : Prog) :
    Within [.stp] s (State.confirmSuspend s i g) := by
  unfold State.confirmSuspend
  refine Within.step (State.modProg_within _ _ _) (by decide) ?_
  exact Within.refl _ _

theorem execSuspended_within (ch : Chan) (r : Resp) (s : State) :
    WithinOut [.hostLogs, .stp, .mch, .log, .evt, .pmu] s (execSuspended ch r s) := by
  unfold execSuspended
  unfold State.onResponse
  refine WithinOut.next ?_
  split
  · exact Within.refl _ _
  · split
    · refine Within.step (State.packetFails_within _ _) (by decide) ?_
      exact Within.refl _ _
    · beta_reduce
      split
      · exact Within.refl _ _
      · split
        · exact Within.refl _ _
        · refine Within.step (State.releaseSuspended_within _ _ _) (by decide) ?_
          refine Within.step (State.confirmSuspend_within _ _ _) (by decide) ?_
          exact Within.refl _ _

theorem State.applyReport_within (s : State) (rep : DieReport) (i : Nat) (g : Prog) :
    Within [.stp, .media] s (State.applyReport s rep i g) := by
  unfold State.applyReport
  lift_lets -underBinder
  intro u1
  clear_value u1
  split
  · split
    · refine Within.step (State.confirmWithdraw_within _ _) (by decide) ?_
      exact Within.refl _ _
    · refine Within.step (State.confirmProgram_within _ _ _) (by decide) ?_
      exact Within.refl _ _
  · split
    · exact Within.refl _ _
    · split
      · refine Within.step (State.modProg_within _ _ _) (by decide) ?_
        exact Within.refl _ _
      · refine Within.step (State.modProg_within _ _ _) (by decide) ?_
        exact Within.refl _ _

theorem execState_within (ch : Chan) (r : Resp) (report : DieReport) (s : State) :
    WithinOut [.glb, .level, .port0, .port1, .hostLogs, .bly, .cache, .vbf, .stp, .wlv, .media, .mch, .kce,
        .mst, .hly, .seq, .log, .evt, .pmu] s (execState ch r report s) := by
  unfold execState
  split
  · exact WithinOut.fault _ _ _
  · unfold State.onResponse
    refine WithinOut.next ?_
    split
    · exact Within.refl _ _
    · split
      · refine Within.step (State.packetFails_within _ _) (by decide) ?_
        exact Within.refl _ _
      · beta_reduce
        lift_lets -underBinder
        intro u1
        have h1 : Within [.glb, .level, .port0, .port1, .hostLogs, .bly, .cache, .vbf, .stp, .wlv,   .media,
            .mch, .kce, .mst, .hly, .seq, .log, .evt, .pmu] s u1 := by
          subst u1
          refine Within.step (State.modDie_within _ _ _ _) (by decide) ?_
          exact Within.refl _ _
        clear_value u1
        intro u2
        have h2 : Within [.glb, .level, .port0, .port1, .hostLogs, .bly, .cache, .vbf, .stp, .wlv,   .media,
            .mch, .kce, .mst, .hly, .seq, .log, .evt, .pmu] s u2 := by
          subst u2
          split
          · assumption
          · refine Within.step (State.applyReport_within _ _ _ _) (by decide) ?_
            assumption
        clear_value u2
        intro u3
        have h3 : Within [.glb, .level, .port0, .port1, .hostLogs, .bly, .cache, .vbf, .stp, .wlv,   .media,
            .mch, .kce, .mst, .hly, .seq, .log, .evt, .pmu] s u3 := by
          subst u3
          split
          · assumption
          · refine Within.step (State.releaseSuspended_within _ _ _) (by decide) ?_
            assumption
        clear_value u3
        refine Within.step (State.dieTemp_within _ _ _ _) (by decide) ?_
        assumption

theorem execAckTimeout_within (ch : Chan) (die : Die) (s : State) :
    WithinOut [.glb, .level, .port0, .port1, .hostLogs, .bly, .cache, .vbf, .stp, .wlv, .media, .mch, .kce,
        .mst, .hly, .seq, .log, .evt, .pmu] s (execAckTimeout ch die s) := by
  unfold execAckTimeout
  refine WithinOut.next ?_
  lift_lets -underBinder
  intro u1
  clear_value u1
  intro u2
  clear_value u2
  intro u3
  have h3 : Within [.glb, .level, .port0, .port1, .hostLogs, .bly, .cache, .vbf, .stp, .wlv,   .media, .mch,
      .kce, .mst, .hly, .seq, .log, .evt, .pmu] s u3 := by
    subst u3
    refine Within.step (State.modDie_within _ _ _ _) (by decide) ?_
    exact Within.refl _ _
  clear_value u3
  intro u4
  have h4 : Within [.glb, .level, .port0, .port1, .hostLogs, .bly, .cache, .vbf, .stp, .wlv,   .media, .mch,
      .kce, .mst, .hly, .seq, .log, .evt, .pmu] s u4 := by
    subst u4
    split
    · refine Within.step (State.modCh_within _ _ _) (by decide) ?_
      assumption
    · assumption
  clear_value u4
  split
  · exact Within.refl _ _
  · refine Within.step (State.expiry_within _ _ _) (by decide) ?_
    assumption

theorem execReadBurstTimeout_within (ch : Chan) (tag : Fin 64) (s : State) :
    WithinOut [.glb, .level, .port0, .port1, .hostLogs, .bly, .cache, .vbf, .stp, .wlv, .media, .mch, .kce,
        .mst, .hly, .seq, .log, .evt, .pmu] s (execReadBurstTimeout ch tag s) := by
  unfold execReadBurstTimeout
  refine WithinOut.next ?_
  split
  · exact Within.refl _ _
  · split
    · exact Within.refl _ _
    · refine Within.step (State.expiry_within _ _ _) (by decide) ?_
      refine Within.step (State.burstLost_within _ _ _) (by decide) ?_
      exact Within.refl _ _

theorem State.rerouteWaiting_within (s : State) (ch die : Nat) :
    Within [.port0, .port1, .hostLogs, .bly, .cache, .stp, .wlv, .mch, .hly, .clk, .log, .evt, .pmu] s
        (State.rerouteWaiting s ch die) := by
  unfold State.rerouteWaiting
  refine Within.foldl (fun u a h => ?_) ?_
  · split
    · assumption
    · lift_lets -underBinder
      intro u1
      clear_value u1
      intro u2
      have h2 : Within [.port0, .port1, .hostLogs, .bly, .cache, .stp, .wlv, .mch, .hly, .clk,   .log, .evt,
          .pmu] s u2 := by
        subst u2
        refine Within.step (State.modRead_within _ _ _) (by decide) ?_
        assumption
      clear_value u2
      split
      · refine Within.step (State.modRead_within _ _ _) (by decide) ?_
        assumption
      · refine Within.step (State.routeRead_within _ _ _) (by decide) ?_
        assumption
  · exact Within.refl _ _

theorem execSuspendTimeout_within (ch : Chan) (die : Die) (s : State) :
    WithinOut [.glb, .level, .port0, .port1, .hostLogs, .bly, .cache, .vbf, .stp, .wlv, .media, .mch, .kce,
        .mst, .hly, .seq, .clk, .log, .evt, .pmu] s (execSuspendTimeout ch die s) := by
  unfold execSuspendTimeout
  refine WithinOut.next ?_
  split
  · exact Within.refl _ _
  · split
    · lift_lets -underBinder
      intro u1
      have h1 : Within [.glb, .level, .port0, .port1, .hostLogs, .bly, .cache, .vbf, .stp, .wlv,   .media,
          .mch, .kce, .mst, .hly, .seq, .clk, .log, .evt, .pmu] s u1 := by
        subst u1
        refine Within.step (State.modDie_within _ _ _ _) (by decide) ?_
        exact Within.refl _ _
      clear_value u1
      intro u2
      have h2 : Within [.glb, .level, .port0, .port1, .hostLogs, .bly, .cache, .vbf, .stp, .wlv,   .media,
          .mch, .kce, .mst, .hly, .seq, .clk, .log, .evt, .pmu] s u2 := by
        subst u2
        refine Within.step (State.sendCmd_within _ _ _ _ _ _ _) (by decide) ?_
        assumption
      clear_value u2
      refine Within.step (State.expiry_within _ _ _) (by decide) ?_
      refine Within.step (State.rerouteWaiting_within _ _ _) (by decide) ?_
      assumption
    · exact Within.refl _ _

theorem execProgramTimeout_within (ch : Chan) (die : Die) (s : State) :
    WithinOut [.glb, .level, .port0, .port1, .hostLogs, .bly, .cache, .vbf, .stp, .wlv, .media, .mch, .kce,
        .mst, .hly, .seq, .log, .evt, .pmu] s (execProgramTimeout ch die s) := by
  unfold execProgramTimeout
  refine WithinOut.next ?_
  split
  · exact Within.refl _ _
  · lift_lets -underBinder
    intro u1
    clear_value u1
    split
    · exact Within.refl _ _
    · split
      · refine Within.step (State.retireDie_within _ _ _) (by decide) ?_
        refine Within.step (State.expiry_within _ _ _) (by decide) ?_
        exact Within.refl _ _
      · refine Within.step (State.expiry_within _ _ _) (by decide) ?_
        refine Within.step (State.sendCmd_within _ _ _ _ _ _ _) (by decide) ?_
        exact Within.refl _ _

theorem State.failChannel_within (s : State) (ch : Nat) :
    Within [.glb, .level, .port0, .port1, .hostLogs, .bly, .cache, .vbf, .stp, .wlv, .media, .mch, .kce,
        .mst, .hly, .seq, .log, .evt, .pmu] s (State.failChannel s ch) := by
  unfold State.failChannel
  lift_lets -underBinder
  intro u1
  have h1 : Within [.glb, .level, .port0, .port1, .hostLogs, .bly, .cache, .vbf, .stp, .wlv,   .media, .mch,
      .kce, .mst, .hly, .seq, .log, .evt, .pmu] s u1 := by
    subst u1
    refine Within.step (State.modCh_within _ _ _) (by decide) ?_
    exact Within.refl _ _
  clear_value u1
  intro u2
  have h2 : Within [.glb, .level, .port0, .port1, .hostLogs, .bly, .cache, .vbf, .stp, .wlv,   .media, .mch,
      .kce, .mst, .hly, .seq, .log, .evt, .pmu] s u2 := by
    subst u2
    refine Within.step (State.rerouteReads_within _ _) (by decide) ?_
    assumption
  clear_value u2
  intro u3
  have h3 : Within [.glb, .level, .port0, .port1, .hostLogs, .bly, .cache, .vbf, .stp, .wlv,   .media, .mch,
      .kce, .mst, .hly, .seq, .log, .evt, .pmu] s u3 := by
    subst u3
    refine Within.step (State.dropPrograms_within _ _) (by decide) ?_
    assumption
  clear_value u3
  intro u4
  have h4 : Within [.glb, .level, .port0, .port1, .hostLogs, .bly, .cache, .vbf, .stp, .wlv,   .media, .mch,
      .kce, .mst, .hly, .seq, .log, .evt, .pmu] s u4 := by
    subst u4
    refine Within.step (State.fire_within _ _ _ _) (by decide) ?_
    assumption
  clear_value u4
  split
  · refine Within.step (State.failModule_within _ _) (by decide) ?_
    assumption
  · refine Within.step (State.settleLevel_within _) (by decide) ?_
    assumption

theorem State.trained_within (s : State) (ch : Nat) :
    Within [.level, .hostLogs, .stp, .wlv, .media, .mch, .mst, .hly, .seq, .rst, .log, .dty, .evt] s
        (State.trained s ch) := by
  unfold State.trained
  lift_lets -underBinder
  intro u1
  clear_value u1
  intro u2
  have h2 : Within [.level, .hostLogs, .stp, .wlv, .media, .mch, .mst, .hly, .seq, .rst, .log,   .dty, .evt]
      s u2 := by
    subst u2
    refine Within.step (State.modCh_within _ _ _) (by decide) ?_
    exact Within.refl _ _
  clear_value u2
  intro u3
  clear_value u3
  intro u4
  have h4 : Within [.level, .hostLogs, .stp, .wlv, .media, .mch, .mst, .hly, .seq, .rst, .log,   .dty, .evt]
      s u4 := by
    subst u4
    split
    · refine Within.step (State.fire_within _ _ _ _) (by decide) ?_
      assumption
    · assumption
  clear_value u4
  intro u5
  clear_value u5
  intro u6
  have h6 : Within [.level, .hostLogs, .stp, .wlv, .media, .mch, .mst, .hly, .seq, .rst, .log,   .dty, .evt]
      s u6 := by
    subst u6
    split
    · assumption
    · refine Within.step (State.bootStage_within _ _) (by decide) ?_
      refine (Within.set_rst (by decide)).mpr ?_
      assumption
  clear_value u6
  split
  · refine Within.step (State.takeStanding_within _ _) (by decide) ?_
    assumption
  · assumption

theorem execChannelTraining_within (ch : Chan) (ok : Bool) (s : State) :
    WithinOut [.glb, .level, .port0, .port1, .hostLogs, .bly, .cache, .vbf, .stp, .wlv, .media, .mch, .kce,
        .mst, .hly, .seq, .rst, .log, .dty, .evt, .pmu] s (execChannelTraining ch ok s) := by
  unfold execChannelTraining
  refine WithinOut.next ?_
  lift_lets -underBinder
  intro u1
  clear_value u1
  intro u2
  clear_value u2
  split
  · exact Within.refl _ _
  · split
    · refine Within.step (State.trained_within _ _) (by decide) ?_
      exact Within.refl _ _
    · split
      · refine Within.step (State.modCh_within _ _ _) (by decide) ?_
        exact Within.refl _ _
      · refine Within.step (State.failChannel_within _ _) (by decide) ?_
        exact Within.refl _ _

theorem execQuickRetrain_within (ch : Chan) (why : RetrainWhy) (closingOk : Bool) (s : State) :
    WithinOut [.hostLogs, .mch, .log, .evt] s (execQuickRetrain ch why closingOk s) := by
  unfold execQuickRetrain
  refine WithinOut.next ?_
  split
  · exact Within.refl _ _
  · lift_lets -underBinder
    intro u1
    have h1 : Within [.hostLogs, .mch, .log, .evt] s u1 := by
      subst u1
      refine Within.step (State.modCh_within _ _ _) (by decide) ?_
      exact Within.refl _ _
    clear_value u1
    refine Within.step (State.fire_within _ _ _ _) (by decide) ?_
    assumption

theorem execRecentring_within (ch : Chan) (eyeMv : Nat) (inRange : Bool) (s : State) :
    WithinOut [.draws, .mch, .log] s (execRecentring ch eyeMv inRange s) := by
  unfold execRecentring
  refine WithinOut.next ?_
  split
  · exact Within.refl _ _
  · lift_lets -underBinder
    intro u1
    have h1 : Within [.draws, .mch, .log] s u1 := by
      subst u1
      refine Within.step (State.modCh_within _ _ _) (by decide) ?_
      exact Within.refl _ _
    clear_value u1
    split
    · refine Within.step (State.warnRecord_within _ _ _) (by decide) ?_
      assumption
    · assumption

theorem execModuleAlert_within (k : Slot) (cause : Fin 8) (s : State) :
    WithinOut [.glb, .level, .port0, .port1, .hostLogs, .bly, .cache, .vbf, .stp, .wlv, .media, .mch, .kce,
        .mst, .hly, .seq, .reef, .log, .evt, .pmu] s (execModuleAlert k cause s) := by
  unfold execModuleAlert
  refine WithinOut.next ?_
  split
  · exact Within.refl _ _
  · split
    · lift_lets -underBinder
      intro u1
      clear_value u1
      intro u2
      have h2 : Within [.glb, .level, .port0, .port1, .hostLogs, .bly, .cache, .vbf, .stp, .wlv,   .media,
          .mch, .kce, .mst, .hly, .seq, .reef, .log, .evt, .pmu] s u2 := by
        subst u2
        refine (Within.set_reef (by decide)).mpr ?_
        exact Within.refl _ _
      clear_value u2
      refine Within.step (State.alertCause_within _ _ _ _) (by decide) ?_
      refine Within.step (State.modSlot_within _ _ _) (by decide) ?_
      assumption
    · refine Within.step (State.failModule_within _ _) (by decide) ?_
      refine Within.step (State.alertCause_within _ _ _ _) (by decide) ?_
      exact Within.refl _ _
    · refine Within.step (State.failModule_within _ _) (by decide) ?_
      refine Within.step (State.alertCause_within _ _ _ _) (by decide) ?_
      exact Within.refl _ _
    · lift_lets -underBinder
      intro u3
      have h3 : Within [.glb, .level, .port0, .port1, .hostLogs, .bly, .cache, .vbf, .stp, .wlv,   .media,
          .mch, .kce, .mst, .hly, .seq, .reef, .log, .evt, .pmu] s u3 := by
        subst u3
        refine Within.step (State.alertCause_within _ _ _ _) (by decide) ?_
        exact Within.refl _ _
      clear_value u3
      split
      · refine Within.step (State.beginRetire_within _ _ _) (by decide) ?_
        assumption
      · assumption
    · refine Within.step (State.alertCause_within _ _ _ _) (by decide) ?_
      exact Within.refl _ _
    · exact Within.refl _ _

theorem execModuleProgramsEnded_within (k : Slot) (s : State) :
    WithinOut [.glb, .level, .port0, .port1, .hostLogs, .bly, .cache, .vbf, .stp, .wlv, .media, .mch, .kce,
        .mst, .hly, .seq, .log, .evt, .pmu] s (execModuleProgramsEnded k s) := by
  unfold execModuleProgramsEnded
  refine WithinOut.next ?_
  lift_lets -underBinder
  intro u1
  clear_value u1
  split
  · exact Within.refl _ _
  · split
    · refine Within.foldl (fun u a h => ?_) ?_
      · refine Within.step (State.modCh_within _ _ _) (by decide) ?_
        assumption
      · refine Within.step (State.modSlot_within _ _ _) (by decide) ?_
        exact Within.refl _ _
    · split
      · refine Within.step (State.settleLevel_within _) (by decide) ?_
        refine Within.step (State.enterSafe_within _ _) (by decide) ?_
        exact Within.refl _ _
      · exact Within.refl _ _

theorem execModuleFailure_within (k : Slot) (s : State) :
    WithinOut [.glb, .level, .port0, .port1, .hostLogs, .bly, .cache, .vbf, .stp, .wlv, .media, .mch, .kce,
        .mst, .hly, .seq, .log, .evt, .pmu] s (execModuleFailure k s) := by
  unfold execModuleFailure
  refine WithinOut.next ?_
  refine Within.step (State.failModule_within _ _) (by decide) ?_
  exact Within.refl _ _

theorem execModuleRemoval_within (k : Slot) (s : State) :
    WithinOut [.glb, .level, .port0, .port1, .hostLogs, .bly, .cache, .vbf, .stp, .wlv, .media, .mch, .kce,
        .mst, .hly, .seq, .log, .evt, .pmu] s (execModuleRemoval k s) := by
  unfold execModuleRemoval
  refine WithinOut.next ?_
  refine Within.step (State.emptySlot_within _ _) (by decide) ?_
  refine Within.step (State.failModule_within _ _) (by decide) ?_
  exact Within.refl _ _

theorem execModuleInsert_within (k : Slot) (ident : Identity) (s : State) :
    WithinOut [.hostLogs, .wlv, .seq, .log, .evt] s (execModuleInsert k ident s) := by
  unfold execModuleInsert
  refine WithinOut.next ?_
  lift_lets -underBinder
  intro u1
  clear_value u1
  split
  · refine Within.step (State.checkIdentity_within _ _ _ _) (by decide) ?_
    refine Within.step (State.modSlot_within _ _ _) (by decide) ?_
    exact Within.refl _ _
  · exact Within.refl _ _

theorem execModuleAutoAdmit_within (k : Slot) (s : State) :
    WithinOut [.hostLogs, .wlv, .media, .mst, .hly, .seq] s (execModuleAutoAdmit k s) := by
  unfold execModuleAutoAdmit
  refine WithinOut.next ?_
  lift_lets -underBinder
  intro u1
  clear_value u1
  intro u2
  clear_value u2
  split
  · refine Within.step (State.admitModule_within _ _) (by decide) ?_
    exact Within.refl _ _
  · exact Within.refl _ _

theorem execRebuildStart_within (k : Slot) (s : State) :
    WithinOut [.hostLogs, .stp, .media, .seq, .log, .evt] s (execRebuildStart k s) := by
  unfold execRebuildStart
  refine WithinOut.next ?_
  split
  · exact Within.refl _ _
  · lift_lets -underBinder
    intro u1
    have h1 : Within [.hostLogs, .stp, .media, .seq, .log, .evt] s u1 := by
      subst u1
      refine Within.step (State.setMember_within _ _ _) (by decide) ?_
      exact Within.refl _ _
    clear_value u1
    intro u2
    have h2 : Within [.hostLogs, .stp, .media, .seq, .log, .evt] s u2 := by
      subst u2
      refine Within.step (State.modSlot_within _ _ _) (by decide) ?_
      assumption
    clear_value u2
    intro u3
    clear_value u3
    intro u4
    have h4 : Within [.hostLogs, .stp, .media, .seq, .log, .evt] s u4 := by
      subst u4
      refine (Within.set_stp (by decide)).mpr ?_
      assumption
    clear_value u4
    refine Within.step (State.fire_within _ _ _ _) (by decide) ?_
    assumption

theorem State.endRebuild_within (s : State) (k : Nat) :
    Within [.level, .hostLogs, .stp, .media, .seq, .log, .evt] s (State.endRebuild s k) := by
  unfold State.endRebuild
  lift_lets -underBinder
  intro u1
  have h1 : Within [.level, .hostLogs, .stp, .media, .seq, .log, .evt] s u1 := by
    subst u1
    refine Within.step (State.setMember_within _ _ _) (by decide) ?_
    exact Within.refl _ _
  clear_value u1
  intro u2
  have h2 : Within [.level, .hostLogs, .stp, .media, .seq, .log, .evt] s u2 := by
    subst u2
    refine Within.step (State.modSlot_within _ _ _) (by decide) ?_
    assumption
  clear_value u2
  intro u3
  clear_value u3
  intro u4
  have h4 : Within [.level, .hostLogs, .stp, .media, .seq, .log, .evt] s u4 := by
    subst u4
    refine (Within.set_stp (by decide)).mpr ?_
    assumption
  clear_value u4
  refine Within.step (State.settleLevel_within _) (by decide) ?_
  refine Within.step (State.fireSlot_within _ _ _ _) (by decide) ?_
  refine Within.step (State.fire_within _ _ _ _) (by decide) ?_
  assumption

theorem State.wearBatch_within (s : State) (k row : Nat) :
    Within [.draws, .wlv] s (State.wearBatch s k row) := by
  unfold State.wearBatch
  refine Within.foldl (fun u a h => ?_) ?_
  · lift_lets -underBinder
    intro u1
    clear_value u1
    refine Within.foldl (fun u a h => ?_) ?_
    · refine Within.step (State.wearDraw_within _ _) (by decide) ?_
      assumption
    · assumption
  · exact Within.refl _ _

theorem execRebuildBatchConfirmed_within (s : State) :
    WithinOut [.draws, .glb, .level, .port0, .port1, .hostLogs, .bly, .cache, .vbf, .stp, .wlv, .media,
        .hly, .seq, .log, .evt, .pmu] s (execRebuildBatchConfirmed s) := by
  unfold execRebuildBatchConfirmed
  refine WithinOut.next ?_
  split
  · exact Within.refl _ _
  · split
    · exact Within.refl _ _
    · lift_lets -underBinder
      intro u1
      clear_value u1
      intro u2
      clear_value u2
      intro u3
      clear_value u3
      intro u4
      have h4 : Within [.draws, .glb, .level, .port0, .port1, .hostLogs, .bly, .cache, .vbf, .stp,   .wlv,
          .media, .hly, .seq, .log, .evt, .pmu] s u4 := by
        subst u4
        refine Within.step (State.wearBatch_within _ _ _) (by decide) ?_
        exact Within.refl _ _
      clear_value u4
      intro u5
      clear_value u5
      intro u6
      have h6 : Within [.draws, .glb, .level, .port0, .port1, .hostLogs, .bly, .cache, .vbf, .stp,   .wlv,
          .media, .hly, .seq, .log, .evt, .pmu] s u6 := by
        subst u6
        refine (Within.set_stp (by decide)).mpr ?_
        assumption
      clear_value u6
      intro u7
      have h7 : Within [.draws, .glb, .level, .port0, .port1, .hostLogs, .bly, .cache, .vbf, .stp,   .wlv,
          .media, .hly, .seq, .log, .evt, .pmu] s u7 := by
        subst u7
        split
        · refine Within.step (State.endRebuild_within _ _) (by decide) ?_
          assumption
        · split
          · assumption
          · refine Within.step (State.setMember_within _ _ _) (by decide) ?_
            assumption
      clear_value u7
      refine Within.step (State.retryLookups_within _) (by decide) ?_
      refine Within.step (State.retryWriters_within _) (by decide) ?_
      assumption

theorem State.copyRow_within (s : State) (row target : Nat) :
    Within [.stp] s (State.copyRow s row target) := by
  unfold State.copyRow
  refine Within.foldl (fun u a h => ?_) ?_
  · lift_lets -underBinder
    intro u1
    clear_value u1
    intro u2
    clear_value u2
    split
    · assumption
    · refine Within.step (State.addProg_within _ _) (by decide) ?_
      assumption
  · exact Within.refl _ _

theorem execGapMoveStart_within (region : BitVec 16) (s : State) :
    WithinOut [.stp, .wlv] s (execGapMoveStart region s) := by
  unfold execGapMoveStart
  refine WithinOut.next ?_
  lift_lets -underBinder
  intro u1
  clear_value u1
  intro u2
  clear_value u2
  intro u3
  clear_value u3
  split
  · exact Within.refl _ _
  · split
    · exact Within.refl _ _
    · lift_lets -underBinder
      intro u4
      clear_value u4
      intro u5
      clear_value u5
      intro u6
      clear_value u6
      intro u7
      have h7 : Within [.stp, .wlv] s u7 := by
        subst u7
        refine (Within.set_stp_wlv (by decide) (by decide)).mpr ?_
        exact Within.refl _ _
      clear_value u7
      refine Within.step (State.copyRow_within _ _ _) (by decide) ?_
      assumption

theorem execGapMoveProgramsConfirmed_within (region : BitVec 16) (s : State) :
    WithinOut [.stp] s (execGapMoveProgramsConfirmed region s) := by
  unfold execGapMoveProgramsConfirmed
  refine WithinOut.next ?_
  lift_lets -underBinder
  intro u1
  clear_value u1
  split
  · split
    · exact Within.refl _ _
    · refine (Within.set_stp (by decide)).mpr ?_
      exact Within.refl _ _
  · exact Within.refl _ _

theorem State.restamp_within (s : State) (row : Nat) :
    Within [.media] s (State.restamp s row) := by
  unfold State.restamp
  refine Within.foldl (fun u a h => ?_) ?_
  · lift_lets -underBinder
    intro u1
    clear_value u1
    intro u2
    clear_value u2
    intro u3
    clear_value u3
    refine Within.step (State.setCell_within _ _ _) (by decide) ?_
    assumption
  · exact Within.refl _ _

theorem execGapSwitch_within (region : BitVec 16) (s : State) :
    WithinOut [.stp, .wlv, .media] s (execGapSwitch region s) := by
  unfold execGapSwitch
  refine WithinOut.next ?_
  lift_lets -underBinder
  intro u1
  clear_value u1
  split
  · split
    · exact Within.refl _ _
    · lift_lets -underBinder
      intro u2
      clear_value u2
      intro u3
      clear_value u3
      intro u4
      have h4 : Within [.stp, .wlv, .media] s u4 := by
        subst u4
        refine (Within.set_stp_wlv (by decide) (by decide)).mpr ?_
        exact Within.refl _ _
      clear_value u4
      refine Within.step (State.retryWriters_within _) (by decide) ?_
      refine Within.step (State.restamp_within _ _) (by decide) ?_
      assumption
  · exact Within.refl _ _

theorem State.flushLeaf_within (s : State) (key : Nat) :
    Within [.wlv] s (State.flushLeaf s key) := by
  unfold State.flushLeaf
  lift_lets -underBinder
  intro u1
  clear_value u1
  intro u2
  clear_value u2
  intro u3
  clear_value u3
  refine (Within.set_wlv (by decide)).mpr ?_
  exact Within.refl _ _

theorem State.bumpLeafSeq_within (s : State) (slot die sector : Nat) :
    Within [.wlv] s (State.bumpLeafSeq s slot die sector) := by
  unfold State.bumpLeafSeq
  refine (Within.set_wlv (by decide)).mpr ?_
  exact Within.refl _ _

theorem execLeafSectorFlush_within (k : Slot) (die : Fin 32) (sector : Nat) (s : State) :
    WithinOut [.wlv] s (execLeafSectorFlush k die sector s) := by
  unfold execLeafSectorFlush
  refine WithinOut.next ?_
  lift_lets -underBinder
  intro u1
  subst u1
  intro u2
  clear_value u2
  split
  · exact Within.refl _ _
  · refine Within.step (State.bumpLeafSeq_within _ _ _ _) (by decide) ?_
    refine Within.foldl (fun u a h => ?_) ?_
    · refine Within.step (State.flushLeaf_within _ _) (by decide) ?_
      assumption
    · exact Within.refl _ _

theorem execWearTreeLoad_within (s : State) :
    WithinOut [.wlv] s (execWearTreeLoad s) := by
  unfold execWearTreeLoad
  refine WithinOut.next ?_
  split
  · exact Within.refl _ _
  · lift_lets -underBinder
    intro u1
    clear_value u1
    intro u2
    clear_value u2
    refine (Within.set_wlv (by decide)).mpr ?_
    exact Within.refl _ _

theorem State.leafFromMedia_within (s : State) (key : Nat) :
    Within [.wlv] s (State.leafFromMedia s key) := by
  unfold State.leafFromMedia
  lift_lets -underBinder
  intro u1
  clear_value u1
  intro u2
  clear_value u2
  refine (Within.set_wlv (by decide)).mpr ?_
  exact Within.refl _ _

theorem execWearTreeRepair_within (k : Slot) (die : Fin 32) (swath : Nat) (loss : WearLoss) (s : State) :
    WithinOut [.hostLogs, .wlv, .log, .evt] s (execWearTreeRepair k die swath loss s) := by
  unfold execWearTreeRepair
  split
  · exact WithinOut.fault _ _ _
  · refine WithinOut.next ?_
    lift_lets -underBinder
    intro u1
    clear_value u1
    intro u2
    clear_value u2
    intro u3
    clear_value u3
    intro u4
    have h4 : Within [.hostLogs, .wlv, .log, .evt] s u4 := by
      subst u4
      split
      · refine Within.step (State.leafFromMedia_within _ _) (by decide) ?_
        exact Within.refl _ _
      · refine Within.step (State.bumpLeafSeq_within _ _ _ _) (by decide) ?_
        refine Within.step (State.flushLeaf_within _ _) (by decide) ?_
        exact Within.refl _ _
      · refine Within.step (State.bumpLeafSeq_within _ _ _ _) (by decide) ?_
        refine Within.step (State.leafFromMedia_within _ _) (by decide) ?_
        exact Within.refl _ _
      · refine Within.step (State.setLeaf_within _ _ _) (by decide) ?_
        exact Within.refl _ _
      · refine Within.step (State.setLeaf_within _ _ _) (by decide) ?_
        exact Within.refl _ _
      · exact Within.refl _ _
    clear_value u4
    refine Within.step (State.fire_within _ _ _ _) (by decide) ?_
    assumption

theorem execSwathRetire_within (k : Slot) (die : Fin 32) (swath : Nat) (why : RetireWhy) (s : State) :
    WithinOut [.glb, .level, .port0, .port1, .hostLogs, .bly, .cache, .vbf, .stp, .wlv, .media, .mch, .kce,
        .mst, .hly, .seq, .log, .evt, .pmu] s (execSwathRetire k die swath why s) := by
  unfold execSwathRetire
  split
  · exact WithinOut.fault _ _ _
  · refine WithinOut.next ?_
    lift_lets -underBinder
    intro u1
    clear_value u1
    intro u2
    clear_value u2
    split
    · exact Within.refl _ _
    · refine Within.step (State.retireSwath_within _ _ _ _ _) (by decide) ?_
      exact Within.refl _ _

theorem execFrozenSwathDaily_within (k : Slot) (die : Fin 32) (swath : Nat) (s : State) :
    WithinOut [.hostLogs, .log, .evt] s (execFrozenSwathDaily k die swath s) := by
  unfold execFrozenSwathDaily
  split
  · exact WithinOut.fault _ _ _
  · refine WithinOut.next ?_
    lift_lets -underBinder
    intro u1
    clear_value u1
    split
    · refine Within.step (State.fire_within _ _ _ _) (by decide) ?_
      exact Within.refl _ _
    · exact Within.refl _ _

theorem State.confirmKept_within (s : State) (ch die sector : Nat) :
    Within [.stp, .media] s (State.confirmKept s ch die sector) := by
  unfold State.confirmKept
  refine Within.foldl (fun u a h => ?_) ?_
  · refine Within.step (State.confirmProgram_within _ _ _) (by decide) ?_
    assumption
  · exact Within.refl _ _

theorem execMigrationRowConfirmed_within (k : Slot) (die : Fin 32) (swath : Nat) (s : State) :
    WithinOut [.draws, .stp, .wlv, .media] s (execMigrationRowConfirmed k die swath s) := by
  unfold execMigrationRowConfirmed
  split
  · exact WithinOut.fault _ _ _
  · refine WithinOut.next ?_
    lift_lets -underBinder
    intro u1
    clear_value u1
    split
    · split
      · exact Within.refl _ _
      · refine (Within.set_wlv (by decide)).mpr ?_
        exact Within.refl _ _
    · split
      · exact Within.refl _ _
      · split
        · exact Within.refl _ _
        · lift_lets -underBinder
          intro u2
          clear_value u2
          intro u3
          clear_value u3
          intro u4
          clear_value u4
          intro u5
          have h5 : Within [.draws, .stp, .wlv, .media] s u5 := by
            subst u5
            refine (Within.set_wlv (by decide)).mpr ?_
            exact Within.refl _ _
          clear_value u5
          intro u6
          clear_value u6
          intro u7
          have h7 : Within [.draws, .stp, .wlv, .media] s u7 := by
            subst u7
            refine Within.step (State.wearDraw_within _ _) (by decide) ?_
            assumption
          clear_value u7
          refine Within.step (State.retryWriters_within _) (by decide) ?_
          refine Within.step (State.confirmKept_within _ _ _ _) (by decide) ?_
          assumption

theorem execDieRetire_within (ch : Chan) (die : Die) (s : State) :
    WithinOut [.glb, .level, .port0, .port1, .hostLogs, .bly, .cache, .vbf, .stp, .wlv, .media, .mch, .kce,
        .mst, .hly, .seq, .log, .evt, .pmu] s (execDieRetire ch die s) := by
  unfold execDieRetire
  refine WithinOut.next ?_
  split
  · exact Within.refl _ _
  · refine Within.step (State.retireDie_within _ _ _) (by decide) ?_
    exact Within.refl _ _

end Sys2Proof.Machine
end

