-- ==== Sys2Proof/Laws/FrameReset.lean ====
section
/-! SUPPORT. Frames: which parts of the state each operation and each meaning may change (resets, the processor complex, power budgets and ageing).
A later frame cites the frames of the operations it calls and unfolds none of them. -/

namespace Sys2Proof.Machine

open Sys2Proof

theorem execAonPowerOnDetect_within (pages : Nat) (s : State) :
    WithinOut [.latches, .glb, .level, .port0, .port1, .hostLogs, .bly, .cache, .vbf, .stp, .wlv, .media,
        .mch, .shr, .kce, .mst, .hly, .seq, .reef, .clk, .rst, .tel, .trm, .log, .sea, .dty, .evt, .pmu,
        .dbg] s (execAonPowerOnDetect pages s) := by
  unfold execAonPowerOnDetect
  refine WithinOut.next ?_
  lift_lets -underBinder
  intro u1
  have h1 : Within [.latches, .glb, .level, .port0, .port1, .hostLogs, .bly, .cache, .vbf, .stp,   .wlv,
      .media, .mch, .shr, .kce, .mst, .hly, .seq, .reef, .clk, .rst,   .tel, .trm, .log, .sea, .dty, .evt,
      .pmu, .dbg] s u1 := by
    subst u1
    split
    · refine Within.step (State.dumpStops_within _ _) (by decide) ?_
      exact Within.refl _ _
    · exact Within.refl _ _
  clear_value u1
  intro u2
  clear_value u2
  intro u3
  clear_value u3
  refine Within.step (State.ponResetNow_within _ _) (by decide) ?_
  refine (Within.set_media (by decide)).mpr ?_
  assumption

theorem execPorAssert_within (s : State) :
    WithinOut [.glb, .level, .port0, .port1, .hostLogs, .bly, .cache, .vbf, .stp, .wlv, .mch, .hly, .seq,
        .rst, .log, .evt, .pmu] s (execPorAssert s) := by
  unfold execPorAssert
  refine WithinOut.next ?_
  refine Within.step (State.requestReset_within _ _ _) (by decide) ?_
  exact Within.refl _ _

theorem execSysResetRequest_within (path : Path) (key : BitVec 16) (s : State) :
    WithinOut [.glb, .level, .port0, .port1, .hostLogs, .bly, .cache, .vbf, .stp, .wlv, .mch, .hly, .seq,
        .rst, .log, .evt, .pmu] s (execSysResetRequest path key s) := by
  unfold execSysResetRequest
  refine WithinOut.next ?_
  split
  · split
    · refine Within.step (State.requestReset_within _ _ _) (by decide) ?_
      exact Within.refl _ _
    · exact Within.refl _ _
  · exact Within.refl _ _

theorem execCoreResetRequest_within (path : Path) (key : BitVec 16) (s : State) :
    WithinOut [.glb, .level, .port0, .port1, .hostLogs, .bly, .cache, .vbf, .stp, .wlv, .mch, .hly, .seq,
        .rst, .log, .evt, .pmu] s (execCoreResetRequest path key s) := by
  unfold execCoreResetRequest
  refine WithinOut.next ?_
  split
  · split
    · refine Within.step (State.requestReset_within _ _ _) (by decide) ?_
      exact Within.refl _ _
    · exact Within.refl _ _
  · exact Within.refl _ _

theorem execResetHoldOffDone_within (s : State) :
    WithinOut [.latches, .glb, .level, .port0, .port1, .hostLogs, .bly, .cache, .vbf, .stp, .wlv, .mch,
        .shr, .kce, .mst, .hly, .seq, .reef, .clk, .rst, .tel, .trm, .log, .sea, .dty, .evt, .pmu, .dbg] s
        (execResetHoldOffDone s) := by
  unfold execResetHoldOffDone
  refine WithinOut.next ?_
  split
  · split
    · exact Within.refl _ _
    · split
      · refine Within.step (State.sysResetNow_within _ _) (by decide) ?_
        exact Within.refl _ _
      · refine Within.step (State.ponResetNow_within _ _) (by decide) ?_
        exact Within.refl _ _
      · exact Within.refl _ _
  · exact Within.refl _ _

theorem State.releaseDatapath_within (s : State) (fuseCrc : BitVec 2) :
    Within [.clk, .rst, .dty] s (State.releaseDatapath s fuseCrc) := by
  unfold State.releaseDatapath
  split
  · exact Within.refl _ _
  · lift_lets -underBinder
    intro u1
    have h1 : Within [.clk, .rst, .dty] s u1 := by
      subst u1
      refine Within.step (State.bootStage_within _ _) (by decide) ?_
      refine Within.step (State.bootStage_within _ _) (by decide) ?_
      refine (Within.set_clk (by decide)).mpr ?_
      exact Within.refl _ _
    clear_value u1
    intro u2
    clear_value u2
    intro u3
    clear_value u3
    refine (Within.set_clk_rst (by decide) (by decide)).mpr ?_
    assumption

theorem execDomainRelease_within (d : RstDomain) (fuseCrc : BitVec 2) (s : State) :
    WithinOut [.port0, .port1, .hostLogs, .mst, .clk, .rst, .dty] s (execDomainRelease d fuseCrc s) := by
  unfold execDomainRelease
  refine WithinOut.next ?_
  split
  · split
    · exact Within.refl _ _
    · refine Within.step (State.bootStage_within _ _) (by decide) ?_
      refine (Within.set_rst (by decide)).mpr ?_
      exact Within.refl _ _
  · refine Within.step (State.releaseDatapath_within _ _) (by decide) ?_
    exact Within.refl _ _
  · split
    · exact Within.refl _ _
    · refine Within.step (State.bootStage_within _ _) (by decide) ?_
      refine (Within.set_mst (by decide)).mpr ?_
      exact Within.refl _ _
  · lift_lets -underBinder
    intro u1
    clear_value u1
    split
    · exact Within.refl _ _
    · refine Within.step (State.bootStage_within _ _) (by decide) ?_
      refine Within.step (State.modPort_within _ _ _) (by decide) ?_
      exact Within.refl _ _

theorem execClockWatchdogExpiry_within (c : WdClock) (s : State) :
    WithinOut [.glb, .level, .port0, .port1, .hostLogs, .bly, .cache, .vbf, .stp, .wlv, .media, .mch, .kce,
        .mst, .hly, .seq, .clk, .log, .evt, .pmu] s (execClockWatchdogExpiry c s) := by
  unfold execClockWatchdogExpiry
  refine WithinOut.next ?_
  split
  · exact Within.refl _ _
  · lift_lets -underBinder
    intro u1
    clear_value u1
    split
    · split
      · exact Within.refl _ _
      · lift_lets -underBinder
        intro u2
        clear_value u2
        refine Within.step (State.fire_within _ _ _ _) (by decide) ?_
        refine (Within.set_clk (by decide)).mpr ?_
        exact Within.refl _ _
    · split
      · exact Within.refl _ _
      · refine Within.step (State.fire_within _ _ _ _) (by decide) ?_
        refine (Within.set_clk (by decide)).mpr ?_
        exact Within.refl _ _
    · split
      · exact Within.refl _ _
      · refine Within.step (State.fire_within _ _ _ _) (by decide) ?_
        refine (Within.set_clk (by decide)).mpr ?_
        exact Within.refl _ _
    · split
      · exact Within.refl _ _
      · lift_lets -underBinder
        intro u3
        have h3 : Within [.glb, .level, .port0, .port1, .hostLogs, .bly, .cache, .vbf, .stp, .wlv,   .media,
            .mch, .kce, .mst, .hly, .seq, .clk, .log, .evt, .pmu] s u3 := by
          subst u3
          refine (Within.set_clk (by decide)).mpr ?_
          exact Within.refl _ _
        clear_value u3
        intro u4
        have h4 : Within [.glb, .level, .port0, .port1, .hostLogs, .bly, .cache, .vbf, .stp, .wlv,   .media,
            .mch, .kce, .mst, .hly, .seq, .clk, .log, .evt, .pmu] s u4 := by
          subst u4
          refine Within.foldl (fun u a h => ?_) ?_
          · refine Within.step (State.fire_within _ _ _ _) (by decide) ?_
            refine Within.step (State.modCh_within _ _ _) (by decide) ?_
            assumption
          · assumption
        clear_value u4
        refine Within.step (State.failModule_within _ _) (by decide) ?_
        assumption
    · split
      · exact Within.refl _ _
      · lift_lets -underBinder
        intro u5
        clear_value u5
        intro u6
        clear_value u6
        intro u7
        have h7 : Within [.glb, .level, .port0, .port1, .hostLogs, .bly, .cache, .vbf, .stp, .wlv,   .media,
            .mch, .kce, .mst, .hly, .seq, .clk, .log, .evt, .pmu] s u7 := by
          subst u7
          refine (Within.set_cache_clk (by decide) (by decide)).mpr ?_
          exact Within.refl _ _
        clear_value u7
        refine Within.step (State.fireHbm_within _ _ _ _ _ _) (by decide) ?_
        assumption

theorem State.fillFails_within (s : State) (f : FillFail) :
    Within [.glb, .level, .hostLogs, .bly, .cache, .vbf, .stp, .trm, .log, .evt] s (State.fillFails s f) :=
        by
  unfold State.fillFails
  split
  · refine Within.step (State.fire_within _ _ _ _) (by decide) ?_
    refine (Within.set_bly (by decide)).mpr ?_
    exact Within.refl _ _
  · refine Within.step (State.fire_within _ _ _ _) (by decide) ?_
    refine (Within.set_vbf (by decide)).mpr ?_
    exact Within.refl _ _
  · split
    · refine Within.step (State.fencePc_within _ _ _) (by decide) ?_
      exact Within.refl _ _
    · exact Within.refl _ _
  · refine Within.step (State.stackFail_within _ _) (by decide) ?_
    exact Within.refl _ _

theorem execArrayFillDone_within (bad : List FillFail) (s : State) :
    WithinOut [.glb, .level, .hostLogs, .bly, .cache, .vbf, .stp, .rst, .trm, .log, .dty, .evt] s
        (execArrayFillDone bad s) := by
  unfold execArrayFillDone
  refine WithinOut.next ?_
  split
  · exact Within.refl _ _
  · lift_lets -underBinder
    intro u1
    clear_value u1
    intro u2
    clear_value u2
    intro u3
    clear_value u3
    intro u4
    have h4 : Within [.glb, .level, .hostLogs, .bly, .cache, .vbf, .stp, .rst, .trm, .log, .dty,   .evt] s
        u4 := by
      subst u4
      refine (Within.set_cache_rst (by decide) (by decide)).mpr ?_
      exact Within.refl _ _
    clear_value u4
    intro u5
    have h5 : Within [.glb, .level, .hostLogs, .bly, .cache, .vbf, .stp, .rst, .trm, .log, .dty,   .evt] s
        u5 := by
      subst u5
      split
      · refine Within.foldl (fun u a h => ?_) ?_
        · refine Within.step (State.modSlice_within _ _ _) (by decide) ?_
          assumption
        · refine Within.foldl (fun u a h => ?_) ?_
          · refine Within.step (State.fillFails_within _ _) (by decide) ?_
            assumption
          · assumption
      · refine Within.foldl (fun u a h => ?_) ?_
        · refine Within.step (State.fillFails_within _ _) (by decide) ?_
          assumption
        · assumption
    clear_value u5
    refine Within.step (State.settleLevel_within _) (by decide) ?_
    refine Within.step (State.settleBudget_within _) (by decide) ?_
    refine Within.step (State.bootStage_within _ _) (by decide) ?_
    assumption

theorem State.unwrapSlot_within (s : State) (bad : BitVec 64) (n : Nat) :
    Within [.shr, .log] s (State.unwrapSlot s bad n) := by
  unfold State.unwrapSlot
  split
  · exact Within.refl _ _
  · split
    · refine Within.step (State.keyRecord_within _ _ _ _ _) (by decide) ?_
      exact Within.refl _ _
    · refine Within.step (State.modKeySlot_within _ _ _) (by decide) ?_
      exact Within.refl _ _

theorem State.unwrapReg_within (s : State) (bad : BitVec 8) (r : Nat) :
    Within [.kce, .log] s (State.unwrapReg s bad r) := by
  unfold State.unwrapReg
  split
  · exact Within.refl _ _
  · split
    · refine Within.step (State.keyRecord_within _ _ _ _ _) (by decide) ?_
      exact Within.refl _ _
    · refine (Within.set_kce (by decide)).mpr ?_
      exact Within.refl _ _

theorem State.loadKeyMap_within (s : State) :
    Within [.shr] s (State.loadKeyMap s) := by
  unfold State.loadKeyMap
  lift_lets -underBinder
  intro u1
  clear_value u1
  intro u2
  clear_value u2
  refine (Within.set_shr (by decide)).mpr ?_
  exact Within.refl _ _

theorem State.resumeRekey_within (s : State) :
    Within [.shr] s (State.resumeRekey s) := by
  unfold State.resumeRekey
  split
  · exact Within.refl _ _
  · lift_lets -underBinder
    intro u1
    clear_value u1
    intro u2
    clear_value u2
    intro u3
    subst u3
    intro u4
    clear_value u4
    intro u5
    clear_value u5
    intro u6
    have h6 : Within [.shr] s u6 := by
      subst u6
      refine (Within.set_shr (by decide)).mpr ?_
      exact Within.refl _ _
    clear_value u6
    beta_reduce
    refine Within.step (State.modKeySlot_within _ _ _) (by decide) ?_
    refine Within.step (State.modKeySlot_within _ _ _) (by decide) ?_
    assumption

theorem State.discardSeal_within (s : State) (e : Nat × List Byte) :
    Within [.media, .log] s (State.discardSeal s e) := by
  unfold State.discardSeal
  split
  · exact Within.refl _ _
  · lift_lets -underBinder
    intro u1
    clear_value u1
    intro u2
    have h2 : Within [.media, .log] s u2 := by
      subst u2
      refine (Within.set_media (by decide)).mpr ?_
      exact Within.refl _ _
    clear_value u2
    split
    · split
      · refine Within.step (State.logPut_within _ _ _ _ _) (by decide) ?_
        assumption
      · assumption
    · assumption

theorem State.loadExtent_within (s : State) (e : Nat × Extent) :
    Within [.hostLogs, .kce, .log, .evt] s (State.loadExtent s e) := by
  unfold State.loadExtent
  lift_lets -underBinder
  intro u1
  clear_value u1
  intro u2
  have h2 : Within [.hostLogs, .kce, .log, .evt] s u2 := by
    subst u2
    refine (Within.set_kce (by decide)).mpr ?_
    exact Within.refl _ _
  clear_value u2
  split
  · refine (Within.set_kce (by decide)).mpr ?_
    assumption
  · refine Within.step (State.fireOutcome_within _ _ _ _ _ _ _) (by decide) ?_
    assumption

theorem State.loadPoison_within (s : State) :
    Within [.stp, .wlv] s (State.loadPoison s) := by
  unfold State.loadPoison
  lift_lets -underBinder
  intro u1
  clear_value u1
  intro u2
  clear_value u2
  intro u3
  clear_value u3
  refine (Within.set_stp_wlv (by decide) (by decide)).mpr ?_
  exact Within.refl _ _

theorem State.drawWearKey_within (s : State) :
    Within [.draws, .wlv, .media] s (State.drawWearKey s) := by
  unfold State.drawWearKey
  split
  · exact Within.refl _ _
  · lift_lets -underBinder
    intro u1
    clear_value u1
    intro u2
    have h2 : Within [.draws, .wlv, .media] s u2 := by
      subst u2
      refine Within.step (State.drawn_within _) (by decide) ?_
      exact Within.refl _ _
    clear_value u2
    intro u3
    clear_value u3
    intro u4
    clear_value u4
    refine (Within.set_wlv_media (by decide) (by decide)).mpr ?_
    assumption

theorem State.loadBump_within (s : State) :
    Within [.hostLogs, .wlv, .log, .sea, .evt] s (State.loadBump s) := by
  unfold State.loadBump
  lift_lets -underBinder
  intro u1
  have h1 : Within [.hostLogs, .wlv, .log, .sea, .evt] s u1 := by
    subst u1
    split
    · refine Within.step (State.counterInc_within _ _ _) (by decide) ?_
      exact Within.refl _ _
    · exact Within.refl _ _
  clear_value u1
  intro u2
  clear_value u2
  refine (Within.set_wlv (by decide)).mpr ?_
  assumption

theorem State.copyPowerEvent_within (s : State) :
    Within [.hostLogs, .log, .dty, .evt] s (State.copyPowerEvent s) := by
  unfold State.copyPowerEvent
  split
  · exact Within.refl _ _
  · lift_lets -underBinder
    intro u1
    clear_value u1
    intro u2
    clear_value u2
    refine Within.step (State.fire_within _ _ _ _) (by decide) ?_
    refine (Within.set_dty (by decide)).mpr ?_
    exact Within.refl _ _

theorem State.debugExitRecord_within (s : State) (boot : Bool) :
    Within [.hostLogs, .log, .evt] s (State.debugExitRecord s boot) := by
  unfold State.debugExitRecord
  lift_lets -underBinder
  intro u1
  clear_value u1
  refine Within.step (State.fire_within _ _ _ _) (by decide) ?_
  refine Within.step (State.logPut_within _ _ _ _ _) (by decide) ?_
  exact Within.refl _ _

theorem State.payDebugExit_within (s : State) :
    Within [.hostLogs, .log, .dty, .evt] s (State.payDebugExit s) := by
  unfold State.payDebugExit
  split
  · exact Within.refl _ _
  · refine Within.step (State.debugExitRecord_within _ _) (by decide) ?_
    refine (Within.set_dty (by decide)).mpr ?_
    exact Within.refl _ _

theorem State.noteSaturated_within (s : State) :
    Within [.hostLogs, .log, .evt] s (State.noteSaturated s) := by
  unfold State.noteSaturated
  refine Within.foldl (fun u a h => ?_) ?_
  · split
    · refine Within.step (State.fireSub_within _ _ _ _ _) (by decide) ?_
      assumption
    · assumption
  · exact Within.refl _ _

theorem State.bootPlan_within (s : State) :
    Within [.glb, .level, .port0, .port1, .hostLogs, .bly, .cache, .vbf, .stp, .wlv, .kce, .hly, .tel, .log,
        .evt, .pmu] s (State.bootPlan s) := by
  unfold State.bootPlan
  split
  · refine Within.step (State.replan_within _) (by decide) ?_
    refine (Within.set_tel (by decide)).mpr ?_
    exact Within.refl _ _
  · exact Within.refl _ _

theorem State.bootKeys_within (s : State) (r : BootResult) :
    Within [.hostLogs, .media, .shr, .kce, .log, .evt] s (State.bootKeys s r) := by
  unfold State.bootKeys
  lift_lets -underBinder
  intro u1
  have h1 : Within [.hostLogs, .media, .shr, .kce, .log, .evt] s u1 := by
    subst u1
    refine Within.step (State.loadKeyMap_within _) (by decide) ?_
    exact Within.refl _ _
  clear_value u1
  intro u2
  have h2 : Within [.hostLogs, .media, .shr, .kce, .log, .evt] s u2 := by
    subst u2
    refine Within.foldl (fun u a h => ?_) ?_
    · refine Within.step (State.unwrapSlot_within _ _ _) (by decide) ?_
      assumption
    · assumption
  clear_value u2
  intro u3
  have h3 : Within [.hostLogs, .media, .shr, .kce, .log, .evt] s u3 := by
    subst u3
    refine Within.foldl (fun u a h => ?_) ?_
    · refine Within.step (State.unwrapReg_within _ _ _) (by decide) ?_
      assumption
    · assumption
  clear_value u3
  intro u4
  have h4 : Within [.hostLogs, .media, .shr, .kce, .log, .evt] s u4 := by
    subst u4
    refine Within.step (State.resumeRekey_within _) (by decide) ?_
    assumption
  clear_value u4
  refine Within.foldl (fun u a h => ?_) ?_
  · refine Within.step (State.loadExtent_within _ _) (by decide) ?_
    assumption
  · refine Within.foldl (fun u a h => ?_) ?_
    · refine Within.step (State.discardSeal_within _ _) (by decide) ?_
      assumption
    · assumption

theorem State.lockPorts_within (s : State) :
    Within [.port0, .port1, .hostLogs] s (State.lockPorts s) := by
  unfold State.lockPorts
  refine (Within.set_port0_port1 (by decide) (by decide) (by decide)).mpr ?_
  exact Within.refl _ _

theorem execFirmwareBoot_within (r : BootResult) (s : State) :
    WithinOut [.draws, .glb, .level, .port0, .port1, .hostLogs, .bly, .cache, .vbf, .stp, .wlv, .media,
        .shr, .kce, .mst, .hly, .seq, .reef, .rst, .tel, .trm, .log, .sea, .dty, .evt, .pmu, .dbg] s
        (execFirmwareBoot r s) := by
  unfold execFirmwareBoot
  refine WithinOut.next ?_
  split
  · exact Within.refl _ _
  · lift_lets -underBinder
    intro u1
    clear_value u1
    intro u2
    clear_value u2
    intro u3
    clear_value u3
    intro u4
    clear_value u4
    intro u5
    have h5 : Within [.draws, .glb, .level, .port0, .port1, .hostLogs, .bly, .cache, .vbf, .stp,   .wlv,
        .media, .shr, .kce, .mst, .hly, .seq, .reef, .rst, .tel, .trm,   .log, .sea, .dty, .evt, .pmu, .dbg]
        s u5 := by
      subst u5
      refine Within.step (State.bootStage_within _ _) (by decide) ?_
      refine (Within.set_mst_rst (by decide) (by decide)).mpr ?_
      exact Within.refl _ _
    clear_value u5
    intro u6
    have h6 : Within [.draws, .glb, .level, .port0, .port1, .hostLogs, .bly, .cache, .vbf, .stp,   .wlv,
        .media, .shr, .kce, .mst, .hly, .seq, .reef, .rst, .tel, .trm,   .log, .sea, .dty, .evt, .pmu, .dbg]
        s u6 := by
      subst u6
      refine Within.step (State.lockPorts_within _) (by decide) ?_
      refine Within.step (State.applyStrike_within _) (by decide) ?_
      refine Within.step (State.applyBank_within _) (by decide) ?_
      refine Within.step (State.loadSettings_within _) (by decide) ?_
      assumption
    clear_value u6
    intro u7
    have h7 : Within [.draws, .glb, .level, .port0, .port1, .hostLogs, .bly, .cache, .vbf, .stp,   .wlv,
        .media, .shr, .kce, .mst, .hly, .seq, .reef, .rst, .tel, .trm,   .log, .sea, .dty, .evt, .pmu, .dbg]
        s u7 := by
      subst u7
      refine Within.step (State.loadBump_within _) (by decide) ?_
      refine Within.step (State.drawWearKey_within _) (by decide) ?_
      refine Within.step (State.loadPoison_within _) (by decide) ?_
      refine Within.step (State.bootKeys_within _ _) (by decide) ?_
      assumption
    clear_value u7
    intro u8
    clear_value u8
    intro u9
    clear_value u9
    intro u10
    have h10 : Within [.draws, .glb, .level, .port0, .port1, .hostLogs, .bly, .cache, .vbf, .stp,   .wlv,
        .media, .shr, .kce, .mst, .hly, .seq, .reef, .rst, .tel, .trm,   .log, .sea, .dty, .evt, .pmu, .dbg]
        s u10 := by
      subst u10
      refine (Within.set_hly_dbg (by decide) (by decide)).mpr ?_
      assumption
    clear_value u10
    intro u11
    have h11 : Within [.draws, .glb, .level, .port0, .port1, .hostLogs, .bly, .cache, .vbf, .stp,   .wlv,
        .media, .shr, .kce, .mst, .hly, .seq, .reef, .rst, .tel, .trm,   .log, .sea, .dty, .evt, .pmu, .dbg]
        s u11 := by
      subst u11
      refine Within.step (State.noteSaturated_within _) (by decide) ?_
      refine Within.step (State.payDebugExit_within _) (by decide) ?_
      refine Within.step (State.copyPowerEvent_within _) (by decide) ?_
      assumption
    clear_value u11
    refine Within.step (State.bootPlan_within _) (by decide) ?_
    assumption

theorem execDebugEntry_within (stored : Bool) (s : State) :
    WithinOut [.hostLogs, .log, .sea, .dty, .evt, .dbg] s (execDebugEntry stored s) := by
  unfold execDebugEntry
  refine WithinOut.next ?_
  split
  · exact Within.refl _ _
  · split
    · refine (Within.set_dbg (by decide)).mpr ?_
      exact Within.refl _ _
    · lift_lets -underBinder
      intro u1
      clear_value u1
      intro u2
      subst u2
      intro u3
      have h3 : Within [.hostLogs, .log, .sea, .dty, .evt, .dbg] s u3 := by
        subst u3
        split
        · dsimp only
          refine Within.step (State.counterInc_within _ _ _) (by decide) ?_
          exact Within.refl _ _
        · refine Within.step (State.counterInc_within _ _ _) (by decide) ?_
          exact Within.refl _ _
      clear_value u3
      intro u4
      clear_value u4
      intro u5
      clear_value u5
      intro u6
      clear_value u6
      intro u7
      have h7 : Within [.hostLogs, .log, .sea, .dty, .evt, .dbg] s u7 := by
        subst u7
        refine Within.step (State.logPut_within _ _ _ _ _) (by decide) ?_
        assumption
      clear_value u7
      intro u8
      clear_value u8
      intro u9
      have h9 : Within [.hostLogs, .log, .sea, .dty, .evt, .dbg] s u9 := by
        subst u9
        refine (Within.set_dty_dbg (by decide) (by decide)).mpr ?_
        assumption
      clear_value u9
      refine Within.step (State.fire_within _ _ _ _) (by decide) ?_
      assumption

theorem execDebugExit_within (s : State) :
    WithinOut [.hostLogs, .kce, .log, .evt, .dbg] s (execDebugExit s) := by
  unfold execDebugExit
  refine WithinOut.next ?_
  lift_lets -underBinder
  intro u1
  clear_value u1
  intro u2
  clear_value u2
  intro u3
  have h3 : Within [.hostLogs, .kce, .log, .evt, .dbg] s u3 := by
    subst u3
    refine (Within.set_dbg (by decide)).mpr ?_
    exact Within.refl _ _
  intro u4
  have h4 : Within [.hostLogs, .kce, .log, .evt, .dbg] s u4 := by
    subst u4
    split
    · refine Within.step (State.fire_within _ _ _ _) (by decide) ?_
      refine Within.step (State.dropLock_within _) (by decide) ?_
      assumption
    · assumption
  clear_value u4
  split
  · refine Within.step (State.debugExitRecord_within _ _) (by decide) ?_
    assumption
  · assumption

theorem execTaskCheckpoint_within (s : State) :
    WithinOut [.mst] s (execTaskCheckpoint s) := by
  unfold execTaskCheckpoint
  refine WithinOut.next ?_
  split
  · exact Within.refl _ _
  · lift_lets -underBinder
    intro u1
    clear_value u1
    intro u2
    clear_value u2
    intro u3
    clear_value u3
    split
    · refine (Within.set_mst (by decide)).mpr ?_
      exact Within.refl _ _
    · refine (Within.set_mst (by decide)).mpr ?_
      exact Within.refl _ _

theorem execLockstepMismatch_within (s : State) :
    WithinOut [.hostLogs, .mst, .log, .evt] s (execLockstepMismatch s) := by
  unfold execLockstepMismatch
  refine WithinOut.next ?_
  split
  · exact Within.refl _ _
  · lift_lets -underBinder
    intro u1
    clear_value u1
    intro u2
    clear_value u2
    refine Within.step (State.fire_within _ _ _ _) (by decide) ?_
    refine (Within.set_mst (by decide)).mpr ?_
    exact Within.refl _ _

theorem execConfigChosen_within (leadPasses checkerPasses : Bool) (s : State) :
    WithinOut [.level, .hostLogs, .mst, .log, .evt] s (execConfigChosen leadPasses checkerPasses s) := by
  unfold execConfigChosen
  refine WithinOut.next ?_
  split
  · split
    · exact Within.refl _ _
    · lift_lets -underBinder
      intro u1
      have h1 : Within [.level, .hostLogs, .mst, .log, .evt] s u1 := by
        subst u1
        refine (Within.set_mst (by decide)).mpr ?_
        exact Within.refl _ _
      clear_value u1
      intro u2
      clear_value u2
      intro u3
      have h3 : Within [.level, .hostLogs, .mst, .log, .evt] s u3 := by
        subst u3
        refine (Within.set_mst (by decide)).mpr ?_
        assumption
      clear_value u3
      split
      · refine Within.step (State.settleLevel_within _) (by decide) ?_
        refine Within.step (State.fireTakeover_within _ _) (by decide) ?_
        assumption
      · assumption
  · exact Within.refl _ _

theorem State.postRetired_within (s : State) :
    Within [.hostLogs, .mst, .hly] s (State.postRetired s) := by
  unfold State.postRetired
  refine Within.foldl (fun u a h => ?_) ?_
  · split
    · refine Within.step (State.completeBgCode_within _ _ _ _ _) (by decide) ?_
      assumption
    · assumption
  · exact Within.refl _ _

theorem execTakeoverResume_within (checkpointsValid : BitVec 2) (s : State) :
    WithinOut [.level, .hostLogs, .mst, .hly, .log, .evt] s (execTakeoverResume checkpointsValid s) := by
  unfold execTakeoverResume
  refine WithinOut.next ?_
  split
  · exact Within.refl _ _
  · split
    · exact Within.refl _ _
    · lift_lets -underBinder
      intro u1
      clear_value u1
      intro u2
      clear_value u2
      intro u3
      have h3 : Within [.level, .hostLogs, .mst, .hly, .log, .evt] s u3 := by
        subst u3
        refine (Within.set_mst (by decide)).mpr ?_
        exact Within.refl _ _
      clear_value u3
      refine Within.step (State.settleLevel_within _) (by decide) ?_
      refine Within.step (State.postRetired_within _) (by decide) ?_
      refine Within.step (State.fireTakeover_within _ _) (by decide) ?_
      assumption

theorem execSpareSelfTest_within (pass : Bool) (s : State) :
    WithinOut [.level, .hostLogs, .mst, .log, .evt] s (execSpareSelfTest pass s) := by
  unfold execSpareSelfTest
  refine WithinOut.next ?_
  split
  · split
    · exact Within.refl _ _
    · refine Within.step (State.settleLevel_within _) (by decide) ?_
      refine Within.step (State.fire_within _ _ _ _) (by decide) ?_
      refine (Within.set_mst (by decide)).mpr ?_
      exact Within.refl _ _
  · exact Within.refl _ _

theorem execWdogKick_within (path : Path) (s : State) :
    WithinOut [.mst] s (execWdogKick path s) := by
  unfold execWdogKick
  refine WithinOut.next ?_
  split
  · refine (Within.set_mst (by decide)).mpr ?_
    exact Within.refl _ _
  · exact Within.refl _ _

theorem execWdogExpiry_within (s : State) :
    WithinOut [.glb, .level, .port0, .port1, .hostLogs, .bly, .cache, .vbf, .stp, .wlv, .mch, .mst, .hly,
        .seq, .rst, .log, .evt, .pmu] s (execWdogExpiry s) := by
  unfold execWdogExpiry
  refine WithinOut.next ?_
  lift_lets -underBinder
  intro u1
  clear_value u1
  intro u2
  clear_value u2
  intro u3
  clear_value u3
  intro u4
  clear_value u4
  split
  · exact Within.refl _ _
  · refine Within.step (State.requestReset_within _ _ _) (by decide) ?_
    refine Within.step (State.fire_within _ _ _ _) (by decide) ?_
    refine (Within.set_mst (by decide)).mpr ?_
    exact Within.refl _ _

theorem execCoreReset_within (src : CoreSource) (s : State) :
    WithinOut [.latches, .glb, .level, .port0, .port1, .hostLogs, .bly, .cache, .vbf, .stp, .wlv, .media,
        .kce, .mst, .hly, .seq, .rst, .trm, .log, .sea, .dty, .evt, .pmu] s (execCoreReset src s) := by
  unfold execCoreReset
  refine WithinOut.next ?_
  split
  · split
    · exact Within.refl _ _
    · refine Within.step (State.coreResetNow_within _ _) (by decide) ?_
      exact Within.refl _ _
  · exact Within.refl _ _

theorem execActivationTimeout_within (s : State) :
    WithinOut [.hostLogs, .mst, .hly, .log, .evt] s (execActivationTimeout s) := by
  unfold execActivationTimeout
  refine WithinOut.next ?_
  split
  · exact Within.refl _ _
  · lift_lets -underBinder
    intro u1
    clear_value u1
    intro u2
    have h2 : Within [.hostLogs, .mst, .hly, .log, .evt] s u2 := by
      subst u2
      refine Within.step (State.rollBack_within _) (by decide) ?_
      exact Within.refl _ _
    clear_value u2
    split
    · refine Within.step (State.completeBg_within _ _ _ _ _) (by decide) ?_
      assumption
    · assumption

theorem execReefRequest_within (holder : Holder) (programs : Nat) (target : Option Slot) (s : State) :
    WithinOut [.hostLogs, .reef, .log, .evt] s (execReefRequest holder programs target s) := by
  unfold execReefRequest
  refine WithinOut.next ?_
  lift_lets -underBinder
  intro u1
  clear_value u1
  intro u2
  clear_value u2
  split
  · refine Within.step (State.fire_within _ _ _ _) (by decide) ?_
    refine (Within.set_reef (by decide)).mpr ?_
    exact Within.refl _ _
  · refine (Within.set_reef (by decide)).mpr ?_
    exact Within.refl _ _

theorem execReefGrant_within (s : State) :
    WithinOut [.reef] s (execReefGrant s) := by
  unfold execReefGrant
  refine WithinOut.next ?_
  lift_lets -underBinder
  intro u1
  clear_value u1
  split
  · exact Within.refl _ _
  · refine (Within.set_reef (by decide)).mpr ?_
    exact Within.refl _ _

theorem execPermitRelease_within (id : Nat) (s : State) :
    WithinOut [.reef] s (execPermitRelease id s) := by
  unfold execPermitRelease
  refine WithinOut.next ?_
  split
  · exact Within.refl _ _
  · lift_lets -underBinder
    intro u1
    clear_value u1
    intro u2
    have h2 : Within [.reef] s u2 := by
      subst u2
      refine (Within.set_reef (by decide)).mpr ?_
      exact Within.refl _ _
    clear_value u2
    split
    · split
      · split
        · exact Within.refl _ _
        · assumption
      · split
        · exact Within.refl _ _
        · assumption
    · split
      · exact Within.refl _ _
      · split
        · assumption
        · refine (Within.set_reef (by decide)).mpr ?_
          exact Within.refl _ _

theorem execReefLevelRaise_within (id : Nat) (s : State) :
    WithinOut [.reef] s (execReefLevelRaise id s) := by
  unfold execReefLevelRaise
  refine WithinOut.next ?_
  split
  · exact Within.refl _ _
  · split
    · exact Within.refl _ _
    · refine (Within.set_reef (by decide)).mpr ?_
      exact Within.refl _ _

theorem execReefArbiterFail_within (s : State) :
    WithinOut [.hostLogs, .reef, .log, .evt] s (execReefArbiterFail s) := by
  unfold execReefArbiterFail
  refine WithinOut.next ?_
  split
  · exact Within.refl _ _
  · refine Within.step (State.fire_within _ _ _ _) (by decide) ?_
    refine (Within.set_reef (by decide)).mpr ?_
    exact Within.refl _ _

theorem execModuleCapRestore_within (k : Slot) (s : State) :
    WithinOut [.reef] s (execModuleCapRestore k s) := by
  unfold execModuleCapRestore
  refine WithinOut.next ?_
  split
  · split
    · refine (Within.set_reef (by decide)).mpr ?_
      exact Within.refl _ _
    · exact Within.refl _ _
  · exact Within.refl _ _

theorem execXtalLost_within (s : State) :
    WithinOut [.level, .hostLogs, .clk, .log, .evt] s (execXtalLost s) := by
  unfold execXtalLost
  refine WithinOut.next ?_
  split
  · exact Within.refl _ _
  · refine Within.step (State.settleLevel_within _) (by decide) ?_
    refine Within.step (State.fire_within _ _ _ _) (by decide) ?_
    refine (Within.set_clk (by decide)).mpr ?_
    exact Within.refl _ _

theorem execXtalReturn_within (s : State) :
    WithinOut [.level, .hostLogs, .clk, .log, .evt] s (execXtalReturn s) := by
  unfold execXtalReturn
  refine WithinOut.next ?_
  split
  · exact Within.refl _ _
  · lift_lets -underBinder
    intro u1
    clear_value u1
    intro u2
    clear_value u2
    intro u3
    have h3 : Within [.level, .hostLogs, .clk, .log, .evt] s u3 := by
      subst u3
      refine (Within.set_clk (by decide)).mpr ?_
      exact Within.refl _ _
    clear_value u3
    split
    · refine Within.step (State.settleLevel_within _) (by decide) ?_
      refine Within.step (State.fire_within _ _ _ _) (by decide) ?_
      assumption
    · assumption

theorem execRcTrim_within (s : State) :
    WithinOut [.clk] s (execRcTrim s) := by
  unfold execRcTrim
  refine WithinOut.next ?_
  split
  · exact Within.refl _ _
  · refine (Within.set_clk (by decide)).mpr ?_
    exact Within.refl _ _

theorem execRefclkLost_within (n : Fin 2) (s : State) :
    WithinOut [.level, .hostLogs, .clk, .log, .evt] s (execRefclkLost n s) := by
  unfold execRefclkLost
  refine WithinOut.next ?_
  split
  · exact Within.refl _ _
  · lift_lets -underBinder
    intro u1
    clear_value u1
    intro u2
    clear_value u2
    split
    · refine Within.step (State.settleLevel_within _) (by decide) ?_
      refine Within.step (State.fire_within _ _ _ _) (by decide) ?_
      refine (Within.set_clk (by decide)).mpr ?_
      exact Within.refl _ _
    · refine Within.step (State.settleLevel_within _) (by decide) ?_
      refine Within.step (State.fire_within _ _ _ _) (by decide) ?_
      refine (Within.set_clk (by decide)).mpr ?_
      exact Within.refl _ _

theorem execRefclkRecovered_within (n : Fin 2) (s : State) :
    WithinOut [.level, .hostLogs, .clk, .log, .evt] s (execRefclkRecovered n s) := by
  unfold execRefclkRecovered
  refine WithinOut.next ?_
  split
  · exact Within.refl _ _
  · lift_lets -underBinder
    intro u1
    clear_value u1
    intro u2
    clear_value u2
    intro u3
    clear_value u3
    intro u4
    clear_value u4
    refine Within.step (State.settleLevel_within _) (by decide) ?_
    refine (Within.set_clk (by decide)).mpr ?_
    exact Within.refl _ _

theorem execHoldoverExpiry_within (s : State) :
    WithinOut [.level, .hostLogs, .clk, .log, .evt] s (execHoldoverExpiry s) := by
  unfold execHoldoverExpiry
  refine WithinOut.next ?_
  split
  · split
    · refine Within.step (State.settleLevel_within _) (by decide) ?_
      refine (Within.set_clk (by decide)).mpr ?_
      exact Within.refl _ _
    · exact Within.refl _ _
  · exact Within.refl _ _

theorem execDpllLockLoss_within (s : State) :
    WithinOut [.level, .hostLogs, .clk, .log, .evt] s (execDpllLockLoss s) := by
  unfold execDpllLockLoss
  refine WithinOut.next ?_
  lift_lets -underBinder
  intro u1
  clear_value u1
  intro u2
  clear_value u2
  intro u3
  clear_value u3
  split
  · exact Within.refl _ _
  · split
    · refine Within.step (State.settleLevel_within _) (by decide) ?_
      refine Within.step (State.fire_within _ _ _ _) (by decide) ?_
      refine (Within.set_clk (by decide)).mpr ?_
      exact Within.refl _ _
    · refine Within.step (State.settleLevel_within _) (by decide) ?_
      refine Within.step (State.fire_within _ _ _ _) (by decide) ?_
      refine (Within.set_clk (by decide)).mpr ?_
      exact Within.refl _ _

theorem execDpllRelock_within (n : Fin 2) (s : State) :
    WithinOut [.glb, .level, .port0, .port1, .hostLogs, .bly, .cache, .vbf, .stp, .wlv, .mch, .hly, .seq,
        .clk, .rst, .log, .evt, .pmu] s (execDpllRelock n s) := by
  unfold execDpllRelock
  refine WithinOut.next ?_
  lift_lets -underBinder
  intro u1
  clear_value u1
  intro u2
  clear_value u2
  intro u3
  have h3 : Within [.glb, .level, .port0, .port1, .hostLogs, .bly, .cache, .vbf, .stp, .wlv,   .mch, .hly,
      .seq, .clk, .rst, .log, .evt, .pmu] s u3 := by
    subst u3
    refine (Within.set_clk (by decide)).mpr ?_
    exact Within.refl _ _
  clear_value u3
  split
  · exact Within.refl _ _
  · split
    · refine Within.step (State.requestReset_within _ _ _) (by decide) ?_
      refine Within.step (State.settleLevel_within _) (by decide) ?_
      assumption
    · refine Within.step (State.settleLevel_within _) (by decide) ?_
      refine (Within.set_clk (by decide)).mpr ?_
      exact Within.refl _ _

theorem execMpllLockLoss_within (s : State) :
    WithinOut [.level, .hostLogs, .mst, .clk, .log, .evt] s (execMpllLockLoss s) := by
  unfold execMpllLockLoss
  refine WithinOut.next ?_
  split
  · exact Within.refl _ _
  · refine Within.step (State.settleLevel_within _) (by decide) ?_
    refine Within.step (State.fire_within _ _ _ _) (by decide) ?_
    refine (Within.set_mst_clk (by decide) (by decide)).mpr ?_
    exact Within.refl _ _

theorem execMpllRelock_within (s : State) :
    WithinOut [.glb, .level, .port0, .port1, .hostLogs, .bly, .cache, .vbf, .stp, .wlv, .mch, .hly, .seq,
        .clk, .rst, .log, .evt, .pmu] s (execMpllRelock s) := by
  unfold execMpllRelock
  refine WithinOut.next ?_
  split
  · exact Within.refl _ _
  · refine Within.step (State.requestReset_within _ _ _) (by decide) ?_
    refine Within.step (State.settleLevel_within _) (by decide) ?_
    refine (Within.set_clk (by decide)).mpr ?_
    exact Within.refl _ _

theorem execSleepEvaluate_within (d : Domain) (nextNs : Option Nat) (s : State) :
    WithinOut [.clk] s (execSleepEvaluate d nextNs s) := by
  unfold execSleepEvaluate
  refine WithinOut.next ?_
  lift_lets -underBinder
  intro u1
  clear_value u1
  intro u2
  clear_value u2
  intro u3
  clear_value u3
  split
  · refine Within.step (State.wake_within _ _) (by decide) ?_
    exact Within.refl _ _
  · refine Within.step (State.modDom_within _ _ _) (by decide) ?_
    exact Within.refl _ _

theorem execScheduledWake_within (d : Domain) (s : State) :
    WithinOut [.clk] s (execScheduledWake d s) := by
  unfold execScheduledWake
  refine WithinOut.next ?_
  split
  · split
    · refine Within.step (State.wake_within _ _) (by decide) ?_
      exact Within.refl _ _
    · exact Within.refl _ _
  · exact Within.refl _ _

theorem execWakeLate_within (d : Domain) (s : State) :
    WithinOut [.draws, .hostLogs, .clk, .log, .evt] s (execWakeLate d s) := by
  unfold execWakeLate
  refine WithinOut.next ?_
  lift_lets -underBinder
  intro u1
  clear_value u1
  intro u2
  clear_value u2
  intro u3
  have h3 : Within [.draws, .hostLogs, .clk, .log, .evt] s u3 := by
    subst u3
    refine Within.step (State.modDom_within _ _ _) (by decide) ?_
    exact Within.refl _ _
  clear_value u3
  split
  · exact Within.refl _ _
  · split
    · refine Within.step (State.fire_within _ _ _ _) (by decide) ?_
      assumption
    · refine Within.step (State.warnRecord_within _ _ _) (by decide) ?_
      assumption

theorem execHoldupMeasureStart_within (s : State) :
    WithinOut [.tel] s (execHoldupMeasureStart s) := by
  unfold execHoldupMeasureStart
  refine WithinOut.next ?_
  split
  · refine Within.step (State.startMeasure_within _) (by decide) ?_
    exact Within.refl _ _
  · exact Within.refl _ _

theorem execHoldupGo_within (path : Path) (s : State) :
    WithinOut [.tel] s (execHoldupGo path s) := by
  unfold execHoldupGo
  refine WithinOut.next ?_
  split
  · split
    · refine Within.step (State.startMeasure_within _) (by decide) ?_
      exact Within.refl _ _
    · exact Within.refl _ _
  · exact Within.refl _ _

theorem State.validMeasure_within (s : State) (r : HoldupRead) :
    Within [.glb, .level, .port0, .port1, .hostLogs, .bly, .cache, .vbf, .stp, .wlv, .kce, .hly, .tel, .trm,
        .log, .dty, .evt, .pmu] s (State.validMeasure s r) := by
  unfold State.validMeasure
  lift_lets -underBinder
  intro u1
  clear_value u1
  intro u2
  clear_value u2
  intro u3
  clear_value u3
  intro u4
  clear_value u4
  intro u5
  clear_value u5
  intro u6
  have h6 : Within [.glb, .level, .port0, .port1, .hostLogs, .bly, .cache, .vbf, .stp, .wlv,   .kce, .hly,
      .tel, .trm, .log, .dty, .evt, .pmu] s u6 := by
    subst u6
    refine (Within.set_tel_trm (by decide) (by decide)).mpr ?_
    exact Within.refl _ _
  clear_value u6
  intro u7
  have h7 : Within [.glb, .level, .port0, .port1, .hostLogs, .bly, .cache, .vbf, .stp, .wlv,   .kce, .hly,
      .tel, .trm, .log, .dty, .evt, .pmu] s u7 := by
    subst u7
    split
    · refine Within.step (State.fire_within _ _ _ _) (by decide) ?_
      assumption
    · assumption
  clear_value u7
  refine Within.step (State.tryActivate_within _) (by decide) ?_
  refine Within.step (State.replan_within _) (by decide) ?_
  refine Within.step (State.project_within _) (by decide) ?_
  refine Within.step (State.history_within _ _) (by decide) ?_
  assumption

theorem State.invalidMeasure_within (s : State) :
    Within [.glb, .level, .port0, .port1, .hostLogs, .bly, .cache, .vbf, .stp, .wlv, .kce, .hly, .tel, .trm,
        .log, .evt, .pmu] s (State.invalidMeasure s) := by
  unfold State.invalidMeasure
  lift_lets -underBinder
  intro u1
  clear_value u1
  intro u2
  clear_value u2
  intro u3
  have h3 : Within [.glb, .level, .port0, .port1, .hostLogs, .bly, .cache, .vbf, .stp, .wlv,   .kce, .hly,
      .tel, .trm, .log, .evt, .pmu] s u3 := by
    subst u3
    refine (Within.set_tel (by decide)).mpr ?_
    exact Within.refl _ _
  clear_value u3
  intro u4
  clear_value u4
  intro u5
  clear_value u5
  intro u6
  have h6 : Within [.glb, .level, .port0, .port1, .hostLogs, .bly, .cache, .vbf, .stp, .wlv,   .kce, .hly,
      .tel, .trm, .log, .evt, .pmu] s u6 := by
    subst u6
    refine (Within.set_tel_trm (by decide) (by decide)).mpr ?_
    assumption
  clear_value u6
  split
  · refine Within.step (State.replan_within _) (by decide) ?_
    refine Within.step (State.fire_within _ _ _ _) (by decide) ?_
    assumption
  · refine Within.step (State.fire_within _ _ _ _) (by decide) ?_
    assumption

theorem execHoldupMeasureEnd_within (r : HoldupRead) (s : State) :
    WithinOut [.glb, .level, .port0, .port1, .hostLogs, .bly, .cache, .vbf, .stp, .wlv, .kce, .hly, .tel,
        .trm, .log, .dty, .evt, .pmu] s (execHoldupMeasureEnd r s) := by
  unfold execHoldupMeasureEnd
  refine WithinOut.next ?_
  split
  · exact Within.refl _ _
  · lift_lets -underBinder
    intro u1
    clear_value u1
    intro u2
    have h2 : Within [.glb, .level, .port0, .port1, .hostLogs, .bly, .cache, .vbf, .stp, .wlv,   .kce, .hly,
        .tel, .trm, .log, .dty, .evt, .pmu] s u2 := by
      subst u2
      refine (Within.set_tel (by decide)).mpr ?_
      exact Within.refl _ _
    clear_value u2
    split
    · refine Within.step (State.invalidMeasure_within _) (by decide) ?_
      assumption
    · refine Within.step (State.validMeasure_within _ _) (by decide) ?_
      assumption

theorem execHoldupBootTimeout_within (s : State) :
    WithinOut [.glb, .level, .port0, .port1, .hostLogs, .bly, .cache, .vbf, .stp, .wlv, .kce, .hly, .tel,
        .log, .dty, .evt, .pmu] s (execHoldupBootTimeout s) := by
  unfold execHoldupBootTimeout
  refine WithinOut.next ?_
  split
  · split
    · exact Within.refl _ _
    · refine Within.step (State.activateMemory_within _) (by decide) ?_
      refine Within.step (State.replan_within _) (by decide) ?_
      refine (Within.set_tel (by decide)).mpr ?_
      exact Within.refl _ _
  · exact Within.refl _ _

theorem execTrimPlanCompute_within (s : State) :
    WithinOut [.glb, .level, .port0, .port1, .hostLogs, .bly, .cache, .vbf, .stp, .wlv, .kce, .hly, .reef,
        .tel, .trm, .log, .evt, .pmu] s (execTrimPlanCompute s) := by
  unfold execTrimPlanCompute
  refine WithinOut.next ?_
  split
  · exact Within.refl _ _
  · refine Within.step (State.computePlan_within _) (by decide) ?_
    exact Within.refl _ _

theorem execPlanStale_within (s : State) :
    WithinOut [.trm] s (execPlanStale s) := by
  unfold execPlanStale
  refine WithinOut.next ?_
  split
  · refine (Within.set_trm (by decide)).mpr ?_
    exact Within.refl _ _
  · exact Within.refl _ _

theorem execPathMonitorSample_within (slackPs : Nat) (s : State) :
    WithinOut [.draws, .tel, .log] s (execPathMonitorSample slackPs s) := by
  unfold execPathMonitorSample
  refine WithinOut.next ?_
  lift_lets -underBinder
  intro u1 u2 u3
  have h3 : Within [.draws, .tel, .log] s u3 := by
    subst u3
    refine (Within.set_tel (by decide)).mpr ?_
    exact Within.refl _ _
  intro u4
  clear_value u4
  split
  · refine Within.step (State.warnRecord_within _ _ _) (by decide) ?_
    refine (Within.set_tel (by decide)).mpr ?_
    assumption
  · assumption

theorem execDailySummary_within (s : State) :
    WithinOut [.hostLogs, .tel, .log, .evt] s (execDailySummary s) := by
  unfold execDailySummary
  refine WithinOut.next ?_
  split
  · exact Within.refl _ _
  · lift_lets -underBinder
    intro u1
    have h1 : Within [.hostLogs, .tel, .log, .evt] s u1 := by
      subst u1
      refine Within.step (State.history_within _ _) (by decide) ?_
      exact Within.refl _ _
    clear_value u1
    intro u2
    clear_value u2
    refine (Within.set_tel (by decide)).mpr ?_
    assumption

theorem State.dropPc_within (s : State) (stack pc : Nat) :
    Within [.cache] s (State.dropPc s stack pc) := by
  unfold State.dropPc
  refine (Within.set_cache (by decide)).mpr ?_
  exact Within.refl _ _

theorem State.returnPermit_within (s : State) (h : Holder) :
    Within [.reef] s (State.returnPermit s h) := by
  unfold State.returnPermit
  split
  · refine (Within.set_reef (by decide)).mpr ?_
    exact Within.refl _ _
  · exact Within.refl _ _

theorem State.endTicket_within (s : State) (id : Nat) (st : TicketState) (detail : Nat) :
    Within [.trm] s (State.endTicket s id st detail) := by
  unfold State.endTicket
  refine (Within.set_trm (by decide)).mpr ?_
  exact Within.refl _ _

theorem State.beginSlice_within (s : State) (k : Ticket) :
    Within [.cache, .kce, .tel, .trm] s (State.beginSlice s k) := by
  unfold State.beginSlice
  lift_lets -underBinder
  intro u1
  clear_value u1
  intro u2
  have h2 : Within [.cache, .kce, .tel, .trm] s u2 := by
    subst u2
    refine (Within.set_trm (by decide)).mpr ?_
    exact Within.refl _ _
  clear_value u2
  split
  · refine Within.step (State.dropPc_within _ _ _) (by decide) ?_
    assumption
  · refine Within.step (State.grantLock_within _ _) (by decide) ?_
    assumption
  · refine Within.step (State.startMeasure_within _) (by decide) ?_
    assumption
  · assumption

theorem execSelfTestSliceStart_within (ticket : Nat) (s : State) :
    WithinOut [.cache, .kce, .tel, .trm] s (execSelfTestSliceStart ticket s) := by
  unfold execSelfTestSliceStart
  refine WithinOut.next ?_
  split
  · exact Within.refl _ _
  · split
    · exact Within.refl _ _
    · split
      · refine Within.step (State.endTicket_within _ _ _ _) (by decide) ?_
        exact Within.refl _ _
      · lift_lets -underBinder
        intro u1
        clear_value u1
        split
        · exact Within.refl _ _
        · refine Within.step (State.beginSlice_within _ _) (by decide) ?_
          exact Within.refl _ _

theorem State.endSlice_within (s : State) (x : SliceRun) :
    Within [.kce, .reef, .trm] s (State.endSlice s x) := by
  unfold State.endSlice
  lift_lets -underBinder
  intro u1
  have h1 : Within [.kce, .reef, .trm] s u1 := by
    subst u1
    split
    · refine Within.step (State.dropLock_within _) (by decide) ?_
      exact Within.refl _ _
    · exact Within.refl _ _
  clear_value u1
  intro u2
  clear_value u2
  intro u3
  have h3 : Within [.kce, .reef, .trm] s u3 := by
    subst u3
    refine (Within.set_trm (by decide)).mpr ?_
    assumption
  clear_value u3
  split
  · assumption
  · refine Within.step (State.returnPermit_within _ _) (by decide) ?_
    assumption

theorem State.unitFault_within (s : State) (test unit : Nat) :
    Within [.glb, .level, .port0, .port1, .hostLogs, .bly, .cache, .vbf, .stp, .wlv, .media, .mch, .shr,
        .kce, .mst, .hly, .seq, .trm, .log, .sea, .evt, .pmu] s (State.unitFault s test unit) := by
  unfold State.unitFault
  split
  · refine Within.step (State.sliceFails_within _ _) (by decide) ?_
    exact Within.refl _ _
  · refine Within.step (State.pcFails_within _ _ _) (by decide) ?_
    exact Within.refl _ _
  · refine Within.step (State.retireDie_within _ _ _) (by decide) ?_
    exact Within.refl _ _
  · refine Within.step (State.fenceEngine_within _ _) (by decide) ?_
    exact Within.refl _ _
  · refine Within.step (State.failCoreG_within _) (by decide) ?_
    exact Within.refl _ _
  · exact Within.refl _ _

theorem State.closeTicket_within (s : State) (x : SliceRun) (pass : Bool) :
    Within [.trm] s (State.closeTicket s x pass) := by
  unfold State.closeTicket
  split
  · exact Within.refl _ _
  · lift_lets -underBinder
    intro u1
    clear_value u1
    split
    · refine Within.step (State.endTicket_within _ _ _ _) (by decide) ?_
      exact Within.refl _ _
    · split
      · refine Within.step (State.endTicket_within _ _ _ _) (by decide) ?_
        exact Within.refl _ _
      · refine Within.step (State.endTicket_within _ _ _ _) (by decide) ?_
        exact Within.refl _ _

theorem execSelfTestSliceEnd_within (pass : Bool) (s : State) :
    WithinOut [.glb, .level, .port0, .port1, .hostLogs, .bly, .cache, .vbf, .stp, .wlv, .media, .mch, .shr,
        .kce, .mst, .hly, .seq, .reef, .trm, .log, .sea, .evt, .pmu] s (execSelfTestSliceEnd pass s) := by
  unfold execSelfTestSliceEnd
  refine WithinOut.next ?_
  split
  · exact Within.refl _ _
  · split
    · exact Within.refl _ _
    · lift_lets -underBinder
      intro u1
      have h1 : Within [.glb, .level, .port0, .port1, .hostLogs, .bly, .cache, .vbf, .stp, .wlv,   .media,
          .mch, .shr, .kce, .mst, .hly, .seq, .reef, .trm, .log, .sea,   .evt, .pmu] s u1 := by
        subst u1
        refine Within.step (State.closeTicket_within _ _ _) (by decide) ?_
        refine Within.step (State.endSlice_within _ _) (by decide) ?_
        exact Within.refl _ _
      clear_value u1
      intro u2
      clear_value u2
      intro u3
      have h3 : Within [.glb, .level, .port0, .port1, .hostLogs, .bly, .cache, .vbf, .stp, .wlv,   .media,
          .mch, .shr, .kce, .mst, .hly, .seq, .reef, .trm, .log, .sea,   .evt, .pmu] s u3 := by
        subst u3
        split
        · refine (Within.set_cache (by decide)).mpr ?_
          assumption
        · assumption
      clear_value u3
      split
      · assumption
      · refine Within.step (State.unitFault_within _ _ _) (by decide) ?_
        assumption

theorem execSliceFaultEnd_within (ownFault : Bool) (s : State) :
    WithinOut [.glb, .level, .port0, .port1, .hostLogs, .bly, .cache, .vbf, .stp, .wlv, .media, .mch, .shr,
        .kce, .mst, .hly, .seq, .reef, .tel, .trm, .log, .sea, .evt, .pmu] s (execSliceFaultEnd ownFault s)
        := by
  unfold execSliceFaultEnd
  refine WithinOut.next ?_
  split
  · exact Within.refl _ _
  · lift_lets -underBinder
    intro u1
    have h1 : Within [.glb, .level, .port0, .port1, .hostLogs, .bly, .cache, .vbf, .stp, .wlv,   .media,
        .mch, .shr, .kce, .mst, .hly, .seq, .reef, .tel, .trm, .log,   .sea, .evt, .pmu] s u1 := by
      subst u1
      refine Within.step (State.endSlice_within _ _) (by decide) ?_
      exact Within.refl _ _
    clear_value u1
    intro u2
    have h2 : Within [.glb, .level, .port0, .port1, .hostLogs, .bly, .cache, .vbf, .stp, .wlv,   .media,
        .mch, .shr, .kce, .mst, .hly, .seq, .reef, .tel, .trm, .log,   .sea, .evt, .pmu] s u2 := by
      subst u2
      split
      · refine Within.step (State.holdupAbort_within _) (by decide) ?_
        assumption
      · assumption
    clear_value u2
    intro u3
    have h3 : Within [.glb, .level, .port0, .port1, .hostLogs, .bly, .cache, .vbf, .stp, .wlv,   .media,
        .mch, .shr, .kce, .mst, .hly, .seq, .reef, .tel, .trm, .log,   .sea, .evt, .pmu] s u3 := by
      subst u3
      refine Within.step (State.fire_within _ _ _ _) (by decide) ?_
      assumption
    clear_value u3
    split
    · refine Within.step (State.unitFault_within _ _ _) (by decide) ?_
      refine Within.step (State.closeTicket_within _ _ _) (by decide) ?_
      assumption
    · split
      · assumption
      · refine (Within.set_trm (by decide)).mpr ?_
        assumption

theorem execTicketCoverTimeout_within (ticket : Nat) (s : State) :
    WithinOut [.trm] s (execTicketCoverTimeout ticket s) := by
  unfold execTicketCoverTimeout
  refine WithinOut.next ?_
  split
  · exact Within.refl _ _
  · split
    · exact Within.refl _ _
    · refine Within.step (State.endTicket_within _ _ _ _) (by decide) ?_
      exact Within.refl _ _

theorem execHbmRecalibration_within (stack : Stack) (pc : Fin 32) (eyePercent : Nat) (s : State) :
    WithinOut [.cache, .reef] s (execHbmRecalibration stack pc eyePercent s) := by
  unfold execHbmRecalibration
  split
  · exact WithinOut.fault _ _ _
  · refine WithinOut.next ?_
    lift_lets -underBinder
    intro u1
    clear_value u1
    intro u2
    have h2 : Within [.cache, .reef] s u2 := by
      subst u2
      refine Within.step (State.returnPermit_within _ _) (by decide) ?_
      refine Within.step (State.dropPc_within _ _ _) (by decide) ?_
      exact Within.refl _ _
    clear_value u2
    intro u3
    clear_value u3
    split
    · exact Within.refl _ _
    · refine (Within.set_cache (by decide)).mpr ?_
      assumption

end Sys2Proof.Machine
end

