-- ==== Sys2Proof/Laws/FrameMail.lean ====
section
/-! SUPPORT. Frames: which parts of the state each operation and each meaning may change (the mailboxes and the commands they carry).
A later frame cites the frames of the operations it calls and unfolds none of them. -/

namespace Sys2Proof.Machine

open Sys2Proof

theorem State.firmwareTakes_within (s : State) (m : Mbox) (op : BitVec 16) (p : List Byte) :
    Within [.hostLogs, .mst, .hly, .log, .evt] s (State.firmwareTakes s m op p) := by
  unfold State.firmwareTakes
  lift_lets -underBinder
  intro u1
  have h1 : Within [.hostLogs, .mst, .hly, .log, .evt] s u1 := by
    subst u1
    refine Within.step (State.modMb_within _ _ _) (by decide) ?_
    exact Within.refl _ _
  clear_value u1
  intro u2
  clear_value u2
  intro u3
  have h3 : Within [.hostLogs, .mst, .hly, .log, .evt] s u3 := by
    subst u3
    refine (Within.set_mst (by decide)).mpr ?_
    assumption
  clear_value u3
  split
  · assumption
  · split
    · refine Within.step (State.fire_within _ _ _ _) (by decide) ?_
      refine Within.step (State.refuse_within _ _ _) (by decide) ?_
      assumption
    · split
      · refine Within.step (State.refuseRc_within _ _ _) (by decide) ?_
        assumption
      · assumption

theorem State.takeCommand_within (s : State) (m : Mbox) (op : BitVec 16) (p : List Byte) :
    Within [.hostLogs, .mst, .hly, .log, .evt] s (State.takeCommand s m op p) := by
  unfold State.takeCommand
  lift_lets -underBinder
  intro u1
  have h1 : Within [.hostLogs, .mst, .hly, .log, .evt] s u1 := by
    subst u1
    refine Within.step (State.modMb_within _ _ _) (by decide) ?_
    exact Within.refl _ _
  clear_value u1
  split
  · refine Within.step (State.refuseRc_within _ _ _) (by decide) ?_
    assumption
  · split
    · refine Within.step (State.refuseRc_within _ _ _) (by decide) ?_
      assumption
    · refine Within.step (State.firmwareTakes_within _ _ _ _) (by decide) ?_
      assumption

theorem execMailboxDoorbell_within (m : Mbox) (opcode : BitVec 16) (payload : List Byte) (s : State) :
    WithinOut [.hostLogs, .mst, .hly, .log, .evt] s (execMailboxDoorbell m opcode payload s) := by
  unfold execMailboxDoorbell
  refine WithinOut.next ?_
  split
  · split
    · refine Within.step (State.takeCommand_within _ _ _ _) (by decide) ?_
      exact Within.refl _ _
    · exact Within.refl _ _
  · exact Within.refl _ _

theorem execMbDoneGo_within (path : Path) (m : Mbox) (s : State) :
    WithinOut [.hostLogs, .mst, .hly] s (execMbDoneGo path m s) := by
  unfold execMbDoneGo
  refine WithinOut.next ?_
  lift_lets -underBinder
  intro u1
  clear_value u1
  split
  · exact Within.refl _ _
  · split
    · refine Within.step (State.completeCode_within _ _ _ _ _ _ _) (by decide) ?_
      exact Within.refl _ _
    · split
      · refine Within.step (State.completeBgCode_within _ _ _ _ _) (by decide) ?_
        exact Within.refl _ _
      · refine Within.step (State.startBg_within _ _ _ _) (by decide) ?_
        exact Within.refl _ _

theorem State.retireFg_within (s : State) (m : Mbox) :
    Within [.mst] s (State.retireFg s m) := by
  unfold State.retireFg
  lift_lets -underBinder
  intro u1
  clear_value u1
  intro u2
  clear_value u2
  refine (Within.set_mst (by decide)).mpr ?_
  exact Within.refl _ _

theorem execHlyRetireRequest_within (m : Mbox) (s : State) :
    WithinOut [.mst, .hly] s (execHlyRetireRequest m s) := by
  unfold execHlyRetireRequest
  refine WithinOut.next ?_
  split
  · exact Within.refl _ _
  · lift_lets -underBinder
    intro u1
    clear_value u1
    intro u2
    clear_value u2
    intro u3
    clear_value u3
    intro u4
    clear_value u4
    intro u5
    have h5 : Within [.mst, .hly] s u5 := by
      subst u5
      refine (Within.set_hly (by decide)).mpr ?_
      exact Within.refl _ _
    clear_value u5
    split
    · assumption
    · split
      · refine Within.step (State.retireBg_within _ _) (by decide) ?_
        assumption
      · refine Within.step (State.retireFg_within _ _) (by decide) ?_
        assumption

theorem execHlyAbortRequest_within (m : Mbox) (s : State) :
    WithinOut [.hostLogs, .cache, .vbf, .stp, .wlv, .media, .kce, .mst, .hly, .seq, .log, .sea, .evt] s
        (execHlyAbortRequest m s) := by
  unfold execHlyAbortRequest
  refine WithinOut.next ?_
  split
  · exact Within.refl _ _
  · lift_lets -underBinder
    intro u1
    clear_value u1
    intro u2
    clear_value u2
    intro u3
    clear_value u3
    intro u4
    clear_value u4
    intro u5
    have h5 : Within [.hostLogs, .cache, .vbf, .stp, .wlv, .media, .kce, .mst, .hly, .seq, .log,   .sea,
        .evt] s u5 := by
      subst u5
      refine (Within.set_hly (by decide)).mpr ?_
      exact Within.refl _ _
    clear_value u5
    split
    · refine Within.step (State.undoBg_within _ _) (by decide) ?_
      assumption
    · assumption

theorem State.respond_within (s : State) (r : McTp) :
    Within [.hly] s (State.respond s r) := by
  unfold State.respond
  refine (Within.set_hly (by decide)).mpr ?_
  exact Within.refl _ _

theorem execSidebandRequest_within (opcode : BitVec 16) (payload : List Byte) (s : State) :
    WithinOut [.hostLogs, .mst, .hly, .log, .evt] s (execSidebandRequest opcode payload s) := by
  unfold execSidebandRequest
  refine WithinOut.next ?_
  split
  · exact Within.refl _ _
  · split
    · refine Within.step (State.takeCommand_within _ _ _ _) (by decide) ?_
      exact Within.refl _ _
    · refine Within.step (State.respond_within _ _) (by decide) ?_
      exact Within.refl _ _

theorem execSidebandReassemblyTimeout_within (s : State) :
    WithinOut [.hly] s (execSidebandReassemblyTimeout s) := by
  unfold execSidebandReassemblyTimeout
  refine WithinOut.next ?_
  refine (Within.set_hly (by decide)).mpr ?_
  exact Within.refl _ _

theorem execSetEndpointId_within (eid : Byte) (s : State) :
    WithinOut [.hly] s (execSetEndpointId eid s) := by
  unfold execSetEndpointId
  refine WithinOut.next ?_
  split
  · exact Within.refl _ _
  · split
    · refine Within.step (State.respond_within _ _) (by decide) ?_
      exact Within.refl _ _
    · refine Within.step (State.respond_within _ _) (by decide) ?_
      refine (Within.set_hly (by decide)).mpr ?_
      exact Within.refl _ _

theorem execGetEndpointId_within (s : State) :
    WithinOut [.hly] s (execGetEndpointId s) := by
  unfold execGetEndpointId
  refine WithinOut.next ?_
  split
  · refine Within.step (State.respond_within _ _) (by decide) ?_
    exact Within.refl _ _
  · exact Within.refl _ _

theorem execGetMctpVersionSupport_within (msgType : Byte) (s : State) :
    WithinOut [.draws, .hly] s (execGetMctpVersionSupport msgType s) := by
  unfold execGetMctpVersionSupport
  refine WithinOut.next ?_
  split
  · exact Within.refl _ _
  · split
    · refine Within.step (State.drawn_within _) (by decide) ?_
      refine Within.step (State.respond_within _ _) (by decide) ?_
      exact Within.refl _ _
    · refine Within.step (State.respond_within _ _) (by decide) ?_
      exact Within.refl _ _

theorem execGetMessageTypeSupport_within (s : State) :
    WithinOut [.hly] s (execGetMessageTypeSupport s) := by
  unfold execGetMessageTypeSupport
  refine WithinOut.next ?_
  split
  · refine Within.step (State.respond_within _ _) (by decide) ?_
    exact Within.refl _ _
  · exact Within.refl _ _

theorem execUnsupportedCommand_within (m : Mbox) (s : State) :
    WithinOut [.hostLogs, .mst, .hly] s (execUnsupportedCommand m s) := by
  unfold execUnsupportedCommand
  refine WithinOut.next ?_
  lift_lets -underBinder
  intro u1
  clear_value u1
  split
  · refine Within.step (State.refuseRc_within _ _ _) (by decide) ?_
    exact Within.refl _ _
  · exact Within.refl _ _

theorem execIdentify_within (m : Mbox) (s : State) :
    WithinOut [.hostLogs, .mst, .hly] s (execIdentify m s) := by
  unfold execIdentify
  unfold State.onCommand
  refine WithinOut.next ?_
  split
  · beta_reduce
    refine Within.step (State.succeed_within _ _ _) (by decide) ?_
    exact Within.refl _ _
  · exact Within.refl _ _

theorem execBackgroundOperationStatus_within (m : Mbox) (s : State) :
    WithinOut [.hostLogs, .mst, .hly] s (execBackgroundOperationStatus m s) := by
  unfold execBackgroundOperationStatus
  unfold State.onCommand
  refine WithinOut.next ?_
  split
  · beta_reduce
    lift_lets -underBinder
    intro u1
    clear_value u1
    split
    · refine Within.step (State.refuseRc_within _ _ _) (by decide) ?_
      exact Within.refl _ _
    · refine Within.step (State.succeed_within _ _ _) (by decide) ?_
      exact Within.refl _ _
  · exact Within.refl _ _

theorem execRequestAbortBackgroundOperation_within (m : Mbox) (s : State) :
    WithinOut [.hostLogs, .cache, .vbf, .stp, .wlv, .media, .kce, .mst, .hly, .seq, .log, .sea, .evt] s
        (execRequestAbortBackgroundOperation m s) := by
  unfold execRequestAbortBackgroundOperation
  unfold State.onCommand
  refine WithinOut.next ?_
  split
  · beta_reduce
    lift_lets -underBinder
    intro u1
    clear_value u1
    split
    · refine Within.step (State.refuse_within _ _ _) (by decide) ?_
      exact Within.refl _ _
    · split
      · refine Within.step (State.refuseRc_within _ _ _) (by decide) ?_
        exact Within.refl _ _
      · refine Within.step (State.succeed_within _ _ _) (by decide) ?_
        refine Within.step (State.undoBg_within _ _) (by decide) ?_
        exact Within.refl _ _
  · exact Within.refl _ _

theorem State.modPortLog_within (s : State) (p : Port) (log : Nat) (f : EvLog → EvLog) :
    Within [.hostLogs] s (s.modPortLog p log f) :=
  State.modPort_hostLogs s p _ fun _ => rfl

theorem State.modMboxLog_within (s : State) (m log : Nat) (f : EvLog → EvLog) :
    Within [.hostLogs, .evt] s (State.modMboxLog s m log f) := by
  unfold State.modMboxLog
  split
  · refine Within.step (State.modPortLog_within _ _ _ _) (by decide) ?_
    exact Within.refl _ _
  · refine (Within.set_evt (by decide)).mpr ?_
    exact Within.refl _ _

theorem execGetEventRecords_within (m : Mbox) (log : Fin 4) (s : State) :
    WithinOut [.hostLogs, .mst, .hly] s (execGetEventRecords m log s) := by
  unfold execGetEventRecords
  unfold State.onCommand
  refine WithinOut.next ?_
  split
  · beta_reduce
    lift_lets -underBinder
    intro u1
    clear_value u1
    intro u2
    clear_value u2
    refine Within.step (State.succeed_within _ _ _) (by decide) ?_
    exact Within.refl _ _
  · exact Within.refl _ _

theorem State.settleAlert_within (s : State) :
    Within [.evt] s (State.settleAlert s) := by
  unfold State.settleAlert
  split
  · refine (Within.set_evt (by decide)).mpr ?_
    exact Within.refl _ _
  · exact Within.refl _ _

theorem execClearEventRecords_within (m : Mbox) (log : Fin 4) (handles : List Nat) (s : State) :
    WithinOut [.hostLogs, .mst, .hly, .evt] s (execClearEventRecords m log handles s) := by
  unfold execClearEventRecords
  unfold State.onCommand
  refine WithinOut.next ?_
  split
  · beta_reduce
    lift_lets -underBinder
    intro u1
    clear_value u1
    intro u2
    have h2 : Within [.hostLogs, .mst, .hly, .evt] s u2 := by
      subst u2
      refine Within.step (State.modMboxLog_within _ _ _ _) (by decide) ?_
      exact Within.refl _ _
    clear_value u2
    split
    · refine Within.step (State.refuseRc_within _ _ _) (by decide) ?_
      exact Within.refl _ _
    · refine Within.step (State.succeed_within _ _ _) (by decide) ?_
      refine Within.step (State.settleAlert_within _) (by decide) ?_
      assumption
  · exact Within.refl _ _

theorem execGetEventInterruptPolicy_within (m : Mbox) (s : State) :
    WithinOut [.hostLogs, .mst, .hly] s (execGetEventInterruptPolicy m s) := by
  unfold execGetEventInterruptPolicy
  unfold State.onCommand
  refine WithinOut.next ?_
  split
  · beta_reduce
    refine Within.step (State.succeed_within _ _ _) (by decide) ?_
    exact Within.refl _ _
  · exact Within.refl _ _

theorem execSetEventInterruptPolicy_within (m : Mbox) (log : Fin 4) (msix : Bool) (vector : Fin 32) (s :
    State) :
    WithinOut [.port0, .port1, .hostLogs, .mst, .hly] s (execSetEventInterruptPolicy m log msix vector s) :=
        by
  unfold execSetEventInterruptPolicy
  unfold State.onCommand
  refine WithinOut.next ?_
  split
  · beta_reduce
    split
    · refine Within.step (State.succeed_within _ _ _) (by decide) ?_
      refine Within.step (State.modPort_within _ _ _) (by decide) ?_
      exact Within.refl _ _
    · refine Within.step (State.refuseRc_within _ _ _) (by decide) ?_
      exact Within.refl _ _
  · exact Within.refl _ _

theorem execGetFwInfo_within (m : Mbox) (s : State) :
    WithinOut [.hostLogs, .mst, .hly] s (execGetFwInfo m s) := by
  unfold execGetFwInfo
  unfold State.onCommand
  refine WithinOut.next ?_
  split
  · beta_reduce
    refine Within.step (State.succeed_within _ _ _) (by decide) ?_
    exact Within.refl _ _
  · exact Within.refl _ _

theorem State.openSlot_within (s : State) (slot offset : Nat) :
    Within [.hostLogs, .mst, .log, .sea, .evt] s (State.openSlot s slot offset) := by
  unfold State.openSlot
  split
  · exact Within.refl _ _
  · lift_lets -underBinder
    intro u1
    clear_value u1
    intro u2
    clear_value u2
    refine Within.step (State.noteWear_within _ _) (by decide) ?_
    refine (Within.set_mst_sea (by decide) (by decide)).mpr ?_
    exact Within.refl _ _

theorem execTransferFw_within (m : Mbox) (slot : Fin 2) (offset : Nat) (data : List Byte) (s : State) :
    WithinOut [.hostLogs, .mst, .hly, .log, .sea, .evt] s (execTransferFw m slot offset data s) := by
  unfold execTransferFw
  unfold State.onCommand
  refine WithinOut.next ?_
  split
  · beta_reduce
    lift_lets -underBinder
    intro u1
    clear_value u1
    intro u2
    have h2 : Within [.hostLogs, .mst, .hly, .log, .sea, .evt] s u2 := by
      subst u2
      refine Within.step (State.openSlot_within _ _ _) (by decide) ?_
      exact Within.refl _ _
    clear_value u2
    intro u3
    clear_value u3
    intro u4
    have h4 : Within [.hostLogs, .mst, .hly, .log, .sea, .evt] s u4 := by
      subst u4
      refine (Within.set_mst_sea (by decide) (by decide)).mpr ?_
      assumption
    clear_value u4
    split
    · refine Within.step (State.refuseRc_within _ _ _) (by decide) ?_
      exact Within.refl _ _
    · split
      · refine Within.step (State.refuseRc_within _ _ _) (by decide) ?_
        exact Within.refl _ _
      · split
        · refine Within.step (State.refuseRc_within _ _ _) (by decide) ?_
          exact Within.refl _ _
        · refine Within.step (State.succeed_within _ _ _) (by decide) ?_
          assumption
  · exact Within.refl _ _

theorem State.imageValid_within (s : State) (slot : Nat) :
    Within [.mst] s (State.imageValid s slot) := by
  unfold State.imageValid
  refine (Within.set_mst (by decide)).mpr ?_
  exact Within.refl _ _

theorem State.startActivation_within (s : State) (m : Mbox) (slot : Fin 2) (online digestOk accepts : Bool)
    :
    Within [.hostLogs, .mst, .hly] s (State.startActivation s m slot online digestOk accepts) := by
  unfold State.startActivation
  split
  · refine Within.step (State.refuseRc_within _ _ _) (by decide) ?_
    exact Within.refl _ _
  · split
    · refine Within.step (State.refuseRc_within _ _ _) (by decide) ?_
      exact Within.refl _ _
    · split
      · refine Within.step (State.refuseRc_within _ _ _) (by decide) ?_
        exact Within.refl _ _
      · lift_lets -underBinder
        intro u1
        have h1 : Within [.hostLogs, .mst, .hly] s u1 := by
          subst u1
          refine Within.step (State.imageValid_within _ _) (by decide) ?_
          exact Within.refl _ _
        clear_value u1
        intro u2
        clear_value u2
        split
        · refine Within.step (State.succeed_within _ _ _) (by decide) ?_
          refine (Within.set_mst (by decide)).mpr ?_
          assumption
        · split
          · refine Within.step (State.refuseRc_within _ _ _) (by decide) ?_
            assumption
          · refine Within.step (State.startBg_within _ _ _ _) (by decide) ?_
            refine (Within.set_mst (by decide)).mpr ?_
            assumption

theorem State.finishActivation_within (s : State) (m : Mbox) :
    Within [.hostLogs, .mst, .hly, .log, .sea, .evt] s (State.finishActivation s m) := by
  unfold State.finishActivation
  lift_lets -underBinder
  intro u1
  clear_value u1
  split
  split
  · refine Within.step (Within.of_fst (State.seaStore_within _ _ _) (by assumption)) (by decide) ?_
    exact Within.refl _ _
  · lift_lets -underBinder
    intro u2
    have h2 : Within [.hostLogs, .mst, .hly, .log, .sea, .evt] s u2 := by
      subst u2
      refine Within.step (State.retireBg_within _ _) (by decide) ?_
      refine Within.step (Within.of_fst (State.seaStore_within _ _ _) (by assumption)) (by decide) ?_
      exact Within.refl _ _
    clear_value u2
    intro u3
    clear_value u3
    intro u4
    have h4 : Within [.hostLogs, .mst, .hly, .log, .sea, .evt] s u4 := by
      subst u4
      refine (Within.set_mst (by decide)).mpr ?_
      assumption
    clear_value u4
    refine Within.step (State.fire_within _ _ _ _) (by decide) ?_
    refine Within.step (State.completeBg_within _ _ _ _ _) (by decide) ?_
    assumption

theorem execActivateFw_within (m : Mbox) (slot : Fin 2) (online digestOk accepts : Bool) (s : State) :
    WithinOut [.hostLogs, .mst, .hly, .log, .sea, .evt] s (execActivateFw m slot online digestOk accepts s)
        := by
  unfold execActivateFw
  refine WithinOut.next ?_
  lift_lets -underBinder
  intro u1
  clear_value u1
  split
  · refine Within.step (State.startActivation_within _ _ _ _ _ _) (by decide) ?_
    exact Within.refl _ _
  · split
    · refine Within.step (State.finishActivation_within _ _) (by decide) ?_
      exact Within.refl _ _
    · exact Within.refl _ _

theorem execGetTimestamp_within (m : Mbox) (s : State) :
    WithinOut [.hostLogs, .mst, .hly] s (execGetTimestamp m s) := by
  unfold execGetTimestamp
  unfold State.onCommand
  refine WithinOut.next ?_
  split
  · beta_reduce
    refine Within.step (State.succeed_within _ _ _) (by decide) ?_
    exact Within.refl _ _
  · exact Within.refl _ _

theorem execSetTimestamp_within (m : Mbox) (time : BitVec 64) (s : State) :
    WithinOut [.glb, .level, .hostLogs, .mst, .hly] s (execSetTimestamp m time s) := by
  unfold execSetTimestamp
  unfold State.onCommand
  refine WithinOut.next ?_
  split
  · beta_reduce
    refine Within.step (State.succeed_within _ _ _) (by decide) ?_
    refine (Within.set_glb (by decide) (by decide)).mpr ?_
    exact Within.refl _ _
  · exact Within.refl _ _

theorem execGetSupportedLogs_within (m : Mbox) (s : State) :
    WithinOut [.hostLogs, .mst, .hly] s (execGetSupportedLogs m s) := by
  unfold execGetSupportedLogs
  unfold State.onCommand
  refine WithinOut.next ?_
  split
  · beta_reduce
    refine Within.step (State.succeed_within _ _ _) (by decide) ?_
    exact Within.refl _ _
  · exact Within.refl _ _

theorem execGetLog_within (m : Mbox) (s : State) :
    WithinOut [.hostLogs, .mst, .hly] s (execGetLog m s) := by
  unfold execGetLog
  unfold State.onCommand
  refine WithinOut.next ?_
  split
  · beta_reduce
    refine Within.step (State.succeed_within _ _ _) (by decide) ?_
    exact Within.refl _ _
  · exact Within.refl _ _

theorem execIdentifyMemoryDevice_within (m : Mbox) (s : State) :
    WithinOut [.hostLogs, .mst, .hly] s (execIdentifyMemoryDevice m s) := by
  unfold execIdentifyMemoryDevice
  unfold State.onCommand
  refine WithinOut.next ?_
  split
  · beta_reduce
    lift_lets -underBinder
    intro u1
    clear_value u1
    refine Within.step (State.succeed_within _ _ _) (by decide) ?_
    exact Within.refl _ _
  · exact Within.refl _ _

theorem execGetPartitionInfo_within (m : Mbox) (s : State) :
    WithinOut [.hostLogs, .mst, .hly] s (execGetPartitionInfo m s) := by
  unfold execGetPartitionInfo
  unfold State.onCommand
  refine WithinOut.next ?_
  split
  · beta_reduce
    refine Within.step (State.succeed_within _ _ _) (by decide) ?_
    exact Within.refl _ _
  · exact Within.refl _ _

theorem execGetHealthInfo_within (m : Mbox) (s : State) :
    WithinOut [.draws, .hostLogs, .mst, .hly] s (execGetHealthInfo m s) := by
  unfold execGetHealthInfo
  unfold State.onCommand
  refine WithinOut.next ?_
  split
  · beta_reduce
    refine Within.step (State.succeed_within _ _ _) (by decide) ?_
    refine Within.step (State.drawn_within _) (by decide) ?_
    exact Within.refl _ _
  · exact Within.refl _ _

theorem execGetAlertConfiguration_within (m : Mbox) (s : State) :
    WithinOut [.hostLogs, .mst, .hly] s (execGetAlertConfiguration m s) := by
  unfold execGetAlertConfiguration
  unfold State.onCommand
  refine WithinOut.next ?_
  split
  · beta_reduce
    refine Within.step (State.succeed_within _ _ _) (by decide) ?_
    exact Within.refl _ _
  · exact Within.refl _ _

theorem execSetAlertConfiguration_within (m : Mbox) (lifeUsed : Nat) (overC underC : Int) (volatileErrs
    persistentErrs : Nat) (s : State) :
    WithinOut [.hostLogs, .mst, .hly] s (execSetAlertConfiguration m lifeUsed overC underC volatileErrs
        persistentErrs s) := by
  unfold execSetAlertConfiguration
  unfold State.onCommand
  refine WithinOut.next ?_
  split
  · beta_reduce
    refine Within.step (State.succeed_within _ _ _) (by decide) ?_
    refine (Within.set_hly (by decide)).mpr ?_
    exact Within.refl _ _
  · exact Within.refl _ _

theorem execGetShutdownState_within (m : Mbox) (s : State) :
    WithinOut [.glb, .level, .port0, .port1, .hostLogs, .bly, .cache, .vbf, .stp, .wlv, .mch, .mst, .hly,
        .seq, .tel, .log, .evt, .pmu] s (execGetShutdownState m s) := by
  unfold execGetShutdownState
  unfold State.onCommand
  refine WithinOut.next ?_
  split
  · beta_reduce
    refine Within.step (State.succeed_within _ _ _) (by decide) ?_
    exact Within.refl _ _
  · exact Within.refl _ _

theorem execSetShutdownState_within (m : Mbox) (clean : Bool) (s : State) :
    WithinOut [.hostLogs, .mst, .hly] s (execSetShutdownState m clean s) := by
  unfold execSetShutdownState
  unfold State.onCommand
  refine WithinOut.next ?_
  split
  · beta_reduce
    refine Within.step (State.succeed_within _ _ _) (by decide) ?_
    refine (Within.set_hly (by decide)).mpr ?_
    exact Within.refl _ _
  · exact Within.refl _ _

theorem execGetPoisonList_within (m : Mbox) (dpa : BitVec 48) (lines : Nat) (s : State) :
    WithinOut [.hostLogs, .mst, .hly] s (execGetPoisonList m dpa lines s) := by
  unfold execGetPoisonList
  unfold State.onCommand
  refine WithinOut.next ?_
  split
  · beta_reduce
    split
    · refine Within.step (State.refuseRc_within _ _ _) (by decide) ?_
      exact Within.refl _ _
    · split
      · refine Within.step (State.refuseRc_within _ _ _) (by decide) ?_
        exact Within.refl _ _
      · lift_lets -underBinder
        intro u1
        clear_value u1
        intro u2
        clear_value u2
        refine Within.step (State.succeed_within _ _ _) (by decide) ?_
        exact Within.refl _ _
  · exact Within.refl _ _

theorem execInjectPoison_within (m : Mbox) (dpa : BitVec 48) (s : State) :
    WithinOut [.draws, .hostLogs, .cache, .vbf, .stp, .wlv, .media, .mst, .hly, .log, .evt] s
        (execInjectPoison m dpa s) := by
  unfold execInjectPoison
  unfold State.onCommand
  refine WithinOut.next ?_
  split
  · beta_reduce
    unfold State.poisonTarget
    split
    · refine Within.step (State.refuseRc_within _ _ _) (by decide) ?_
      exact Within.refl _ _
    · lift_lets -underBinder
      intro u1
      clear_value u1
      split
      · refine Within.step (State.refuse_within _ _ _) (by decide) ?_
        exact Within.refl _ _
      · split
        · refine Within.step (State.refuse_within _ _ _) (by decide) ?_
          exact Within.refl _ _
        · split
          · refine Within.step (State.refuseRc_within _ _ _) (by decide) ?_
            exact Within.refl _ _
          · beta_reduce
            split
            · refine Within.step (State.refuseRc_within _ _ _) (by decide) ?_
              exact Within.refl _ _
            · refine Within.step (State.succeed_within _ _ _) (by decide) ?_
              refine Within.step (State.storeLine_within _ _ _ _) (by decide) ?_
              refine Within.step (State.drawn_within _) (by decide) ?_
              exact Within.refl _ _
  · exact Within.refl _ _

theorem execClearPoison_within (m : Mbox) (dpa : BitVec 48) (data : Line) (s : State) :
    WithinOut [.hostLogs, .cache, .vbf, .stp, .wlv, .media, .mst, .hly, .log, .evt] s (execClearPoison m dpa
        data s) := by
  unfold execClearPoison
  unfold State.onCommand
  refine WithinOut.next ?_
  split
  · beta_reduce
    unfold State.poisonTarget
    split
    · refine Within.step (State.refuseRc_within _ _ _) (by decide) ?_
      exact Within.refl _ _
    · lift_lets -underBinder
      intro u1
      clear_value u1
      split
      · refine Within.step (State.refuse_within _ _ _) (by decide) ?_
        exact Within.refl _ _
      · split
        · refine Within.step (State.refuse_within _ _ _) (by decide) ?_
          exact Within.refl _ _
        · split
          · refine Within.step (State.refuseRc_within _ _ _) (by decide) ?_
            exact Within.refl _ _
          · beta_reduce
            refine Within.step (State.succeed_within _ _ _) (by decide) ?_
            refine Within.step (State.storeLine_within _ _ _ _) (by decide) ?_
            exact Within.refl _ _
  · exact Within.refl _ _

theorem State.startErase_within (s : State) (m : Mbox) :
    Within [.draws, .glb, .level, .port0, .port1, .hostLogs, .bly, .cache, .vbf, .stp, .wlv, .media, .shr,
        .kce, .mst, .hly, .log, .sea, .evt, .pmu] s (State.startErase s m) := by
  unfold State.startErase
  split
  · refine Within.step (State.refuse_within _ _ _) (by decide) ?_
    exact Within.refl _ _
  · split
    · refine Within.step (State.refuseRc_within _ _ _) (by decide) ?_
      exact Within.refl _ _
    · lift_lets -underBinder
      intro u1
      clear_value u1
      intro u2
      have h2 : Within [.draws, .glb, .level, .port0, .port1, .hostLogs, .bly, .cache, .vbf, .stp,   .wlv,
          .media, .shr, .kce, .mst, .hly, .log, .sea, .evt, .pmu] s u2 := by
        subst u2
        refine (Within.set_glb (by decide) (by decide)).mpr ?_
        exact Within.refl _ _
      clear_value u2
      refine Within.step (State.startBg_within _ _ _ _) (by decide) ?_
      refine Within.step (State.clearPoisonList_within _) (by decide) ?_
      refine Within.step (State.erase_within _ _) (by decide) ?_
      assumption

theorem State.eraseCommand_within (s : State) (m : Mbox) (op : Nat) (zero : Bool) :
    Within [.draws, .glb, .level, .port0, .port1, .hostLogs, .bly, .cache, .vbf, .stp, .wlv, .media, .shr,
        .kce, .mst, .hly, .log, .sea, .evt, .pmu] s (State.eraseCommand s m op zero) := by
  unfold State.eraseCommand
  lift_lets -underBinder
  intro u1
  clear_value u1
  split
  · refine Within.step (State.startErase_within _ _) (by decide) ?_
    exact Within.refl _ _
  · split
    · refine Within.step (State.completeBg_within _ _ _ _ _) (by decide) ?_
      refine Within.step (State.retireBg_within _ _) (by decide) ?_
      refine Within.step (State.endErase_within _ _) (by decide) ?_
      exact Within.refl _ _
    · exact Within.refl _ _

theorem execSanitize_within (m : Mbox) (s : State) :
    WithinOut [.draws, .glb, .level, .port0, .port1, .hostLogs, .bly, .cache, .vbf, .stp, .wlv, .media,
        .shr, .kce, .mst, .hly, .log, .sea, .evt, .pmu] s (execSanitize m s) := by
  unfold execSanitize
  refine WithinOut.next ?_
  refine Within.step (State.eraseCommand_within _ _ _ _) (by decide) ?_
  exact Within.refl _ _

theorem execSecureErase_within (m : Mbox) (s : State) :
    WithinOut [.draws, .glb, .level, .port0, .port1, .hostLogs, .bly, .cache, .vbf, .stp, .wlv, .media,
        .shr, .kce, .mst, .hly, .log, .sea, .evt, .pmu] s (execSecureErase m s) := by
  unfold execSecureErase
  refine WithinOut.next ?_
  refine Within.step (State.eraseCommand_within _ _ _ _) (by decide) ?_
  exact Within.refl _ _

theorem execGetDeviceStatus_within (m : Mbox) (s : State) :
    WithinOut [.hostLogs, .mst, .hly] s (execGetDeviceStatus m s) := by
  unfold execGetDeviceStatus
  unfold State.onCommand
  refine WithinOut.next ?_
  split
  · beta_reduce
    refine Within.step (State.succeed_within _ _ _) (by decide) ?_
    exact Within.refl _ _
  · exact Within.refl _ _

theorem execGetDirtyBudget_within (m : Mbox) (s : State) :
    WithinOut [.hostLogs, .mst, .hly] s (execGetDirtyBudget m s) := by
  unfold execGetDirtyBudget
  unfold State.onCommand
  refine WithinOut.next ?_
  split
  · beta_reduce
    refine Within.step (State.succeed_within _ _ _) (by decide) ?_
    exact Within.refl _ _
  · exact Within.refl _ _

theorem execGetSealRecord_within (m : Mbox) (s : State) :
    WithinOut [.hostLogs, .mst, .hly] s (execGetSealRecord m s) := by
  unfold execGetSealRecord
  unfold State.onCommand
  refine WithinOut.next ?_
  split
  · beta_reduce
    lift_lets -underBinder
    intro u1
    clear_value u1
    intro u2
    clear_value u2
    intro u3
    clear_value u3
    split
    · refine Within.step (State.refuse_within _ _ _) (by decide) ?_
      exact Within.refl _ _
    · split
      · refine Within.step (State.refuse_within _ _ _) (by decide) ?_
        exact Within.refl _ _
      · refine Within.step (State.succeed_within _ _ _) (by decide) ?_
        exact Within.refl _ _
  · exact Within.refl _ _

theorem execSeaChestStore_within (m : Mbox) (stored : Bool) (s : State) :
    WithinOut [.hostLogs, .mst, .hly, .log, .sea, .evt] s (execSeaChestStore m stored s) := by
  unfold execSeaChestStore
  unfold State.onCommand
  refine WithinOut.next ?_
  split
  · beta_reduce
    lift_lets -underBinder
    intro u1
    clear_value u1
    intro u2
    clear_value u2
    split
    · refine Within.step (State.refuse_within _ _ _) (by decide) ?_
      exact Within.refl _ _
    · split
      split
      · refine Within.step (State.succeed_within _ _ _) (by decide) ?_
        refine Within.step (Within.of_fst (State.seaStore_within _ _ _) (by assumption)) (by decide) ?_
        exact Within.refl _ _
      · refine Within.step (State.refuse_within _ _ _) (by decide) ?_
        refine Within.step (Within.of_fst (State.seaStore_within _ _ _) (by assumption)) (by decide) ?_
        exact Within.refl _ _
  · exact Within.refl _ _

theorem execGetTrimPlan_within (m : Mbox) (s : State) :
    WithinOut [.hostLogs, .mst, .hly] s (execGetTrimPlan m s) := by
  unfold execGetTrimPlan
  unfold State.onCommand
  refine WithinOut.next ?_
  split
  · beta_reduce
    lift_lets -underBinder
    intro u1
    clear_value u1
    intro u2
    clear_value u2
    intro u3
    clear_value u3
    split
    · refine Within.step (State.refuse_within _ _ _) (by decide) ?_
      exact Within.refl _ _
    · refine Within.step (State.succeed_within _ _ _) (by decide) ?_
      exact Within.refl _ _
  · exact Within.refl _ _

theorem State.override_within (s : State) (e : TrimEntry) :
    Within [.trm] s (State.override s e) := by
  unfold State.override
  split
  · refine (Within.set_trm (by decide)).mpr ?_
    exact Within.refl _ _
  · lift_lets -underBinder
    intro u1
    clear_value u1
    intro u2
    clear_value u2
    intro u3
    clear_value u3
    refine (Within.set_trm (by decide)).mpr ?_
    exact Within.refl _ _

theorem execSetTrimOverride_within (m : Mbox) (s : State) :
    WithinOut [.hostLogs, .mst, .hly, .trm] s (execSetTrimOverride m s) := by
  unfold execSetTrimOverride
  unfold State.onCommand
  refine WithinOut.next ?_
  split
  · beta_reduce
    lift_lets -underBinder
    intro u1
    clear_value u1
    intro u2
    clear_value u2
    intro u3
    have h3 : Within [.hostLogs, .mst, .hly, .trm] s u3 := by
      subst u3
      refine Within.foldl (fun u a h => ?_) ?_
      · refine Within.step (State.override_within _ _) (by decide) ?_
        assumption
      · exact Within.refl _ _
    clear_value u3
    intro u4
    clear_value u4
    split
    · refine Within.step (State.refuse_within _ _ _) (by decide) ?_
      exact Within.refl _ _
    · refine Within.step (State.succeed_within _ _ _) (by decide) ?_
      refine (Within.set_trm (by decide)).mpr ?_
      assumption
  · exact Within.refl _ _

theorem execReefBudget_within (m : Mbox) (s : State) :
    WithinOut [.hostLogs, .mst, .hly, .reef] s (execReefBudget m s) := by
  unfold execReefBudget
  unfold State.onCommand
  refine WithinOut.next ?_
  split
  · beta_reduce
    lift_lets -underBinder
    intro u1
    clear_value u1
    intro u2
    clear_value u2
    intro u3
    clear_value u3
    intro u4
    clear_value u4
    intro u5
    have h5 : Within [.hostLogs, .mst, .hly, .reef] s u5 := by
      subst u5
      split
      · refine (Within.set_reef (by decide)).mpr ?_
        exact Within.refl _ _
      · exact Within.refl _ _
    clear_value u5
    split
    · refine Within.step (State.refuse_within _ _ _) (by decide) ?_
      exact Within.refl _ _
    · refine Within.step (State.succeed_within _ _ _) (by decide) ?_
      assumption
  · exact Within.refl _ _

theorem State.startSeal_within (s : State) (m : Mbox) (id base len reg : Nat) :
    Within [.hostLogs, .kce, .mst, .hly] s (State.startSeal s m id base len reg) := by
  unfold State.startSeal
  lift_lets -underBinder
  intro u1
  have h1 : Within [.hostLogs, .kce, .mst, .hly] s u1 := by
    subst u1
    refine Within.step (State.grantLock_within _ _) (by decide) ?_
    refine Within.step (State.startBg_within _ _ _ _) (by decide) ?_
    exact Within.refl _ _
  clear_value u1
  intro u2
  clear_value u2
  refine (Within.set_kce (by decide)).mpr ?_
  assumption

theorem execSealExtent_within (m : Mbox) (s : State) :
    WithinOut [.hostLogs, .kce, .mst, .hly] s (execSealExtent m s) := by
  unfold execSealExtent
  unfold State.onCommand
  refine WithinOut.next ?_
  split
  · beta_reduce
    lift_lets -underBinder
    intro u1
    clear_value u1
    intro u2
    clear_value u2
    intro u3
    clear_value u3
    intro u4
    clear_value u4
    intro u5
    clear_value u5
    intro u6
    clear_value u6
    split
    · refine Within.step (State.refuse_within _ _ _) (by decide) ?_
      exact Within.refl _ _
    · split
      · refine Within.step (State.refuse_within _ _ _) (by decide) ?_
        exact Within.refl _ _
      · split
        · refine Within.step (State.refuse_within _ _ _) (by decide) ?_
          exact Within.refl _ _
        · split
          · refine Within.step (State.refuse_within _ _ _) (by decide) ?_
            exact Within.refl _ _
          · split
            · refine Within.step (State.refuse_within _ _ _) (by decide) ?_
              exact Within.refl _ _
            · split
              · refine Within.step (State.refuse_within _ _ _) (by decide) ?_
                exact Within.refl _ _
              · split
                · refine Within.step (State.refuseRc_within _ _ _) (by decide) ?_
                  exact Within.refl _ _
                · split
                  · refine Within.step (State.refuse_within _ _ _) (by decide) ?_
                    exact Within.refl _ _
                  · split
                    · refine Within.step (State.refuse_within _ _ _) (by decide) ?_
                      exact Within.refl _ _
                    · refine Within.step (State.startSeal_within _ _ _ _ _ _) (by decide) ?_
                      exact Within.refl _ _
  · exact Within.refl _ _

theorem State.startVerify_within (s : State) (m : Mbox) (id : Nat) (g : Registry) (buffer : Option Nat)
    (stored : Bool) :
    Within [.hostLogs, .kce, .mst, .hly, .log, .sea, .evt] s (State.startVerify s m id g buffer stored) :=
        by
  unfold State.startVerify
  lift_lets -underBinder
  intro u1
  clear_value u1
  intro u2
  subst u2
  intro u3
  have h3 : Within [.hostLogs, .kce, .mst, .hly, .log, .sea, .evt] s u3 := by
    subst u3
    split
    · refine Within.step (State.seaStore_within _ _ _) (by decide) ?_
      exact Within.refl _ _
    · dsimp only
      exact Within.refl _ _
  clear_value u3
  intro u4
  have h4 : Within [.hostLogs, .kce, .mst, .hly, .log, .sea, .evt] s u4 := by
    subst u4
    refine Within.step (State.grantLock_within _ _) (by decide) ?_
    refine Within.step (State.startBg_within _ _ _ _) (by decide) ?_
    assumption
  clear_value u4
  intro u5
  clear_value u5
  intro u6
  have h6 : Within [.hostLogs, .kce, .mst, .hly, .log, .sea, .evt] s u6 := by
    subst u6
    refine (Within.set_kce (by decide)).mpr ?_
    assumption
  clear_value u6
  split
  · split
    · refine Within.step (State.refuse_within _ _ _) (by decide) ?_
      assumption
    · refine Within.step (State.startStream_within _ _ _ _) (by decide) ?_
      assumption
  · split
    · refine Within.step (State.refuse_within _ _ _) (by decide) ?_
      assumption
    · refine Within.step (State.startStream_within _ _ _ _) (by decide) ?_
      assumption

theorem execVerifyRead_within (m : Mbox) (stored : Bool) (s : State) :
    WithinOut [.hostLogs, .kce, .mst, .hly, .log, .sea, .evt] s (execVerifyRead m stored s) := by
  unfold execVerifyRead
  unfold State.onCommand
  refine WithinOut.next ?_
  split
  · beta_reduce
    lift_lets -underBinder
    intro u1
    clear_value u1
    intro u2
    clear_value u2
    intro u3
    clear_value u3
    split
    · refine Within.step (State.refuse_within _ _ _) (by decide) ?_
      exact Within.refl _ _
    · split
      · refine Within.step (State.refuse_within _ _ _) (by decide) ?_
        exact Within.refl _ _
      · split
        · refine Within.step (State.refuse_within _ _ _) (by decide) ?_
          exact Within.refl _ _
        · split
          · refine Within.step (State.refuse_within _ _ _) (by decide) ?_
            exact Within.refl _ _
          · split
            · refine Within.step (State.refuseRc_within _ _ _) (by decide) ?_
              exact Within.refl _ _
            · split
              · refine Within.step (State.refuse_within _ _ _) (by decide) ?_
                exact Within.refl _ _
              · split
                · refine Within.step (State.refuse_within _ _ _) (by decide) ?_
                  exact Within.refl _ _
                · split
                  · refine Within.step (State.refuse_within _ _ _) (by decide) ?_
                    exact Within.refl _ _
                  · split
                    · refine Within.step (State.refuse_within _ _ _) (by decide) ?_
                      exact Within.refl _ _
                    · refine Within.step (State.startVerify_within _ _ _ _ _ _) (by decide) ?_
                      exact Within.refl _ _
  · exact Within.refl _ _

theorem State.lockFor_within (s : State) (target index : Nat) :
    Within [.kce] s (State.lockFor s target index) := by
  unfold State.lockFor
  split
  · exact Within.refl _ _
  · refine Within.step (State.grantLock_within _ _) (by decide) ?_
    exact Within.refl _ _

theorem State.unlockFor_within (s : State) (target index : Nat) :
    Within [.kce] s (State.unlockFor s target index) := by
  unfold State.unlockFor
  split
  · exact Within.refl _ _
  · refine Within.step (State.dropLock_within _) (by decide) ?_
    exact Within.refl _ _

theorem State.loadTarget_within (s : State) (target index : Nat) (key : BitVec 512) (t : State)
    (h : State.loadTarget s target index key = some t) : Within [.shr, .kce, .log] s t := by
  unfold State.loadTarget at h
  split at h
  · exact Within.step (State.shrLoad_within _ _ _ _ h) (by decide) (Within.refl _ _)
  · exact Within.step (State.kceLoad_within _ _ _ _ h) (by decide) (Within.refl _ _)

theorem State.zeroizeTarget_within (s : State) (target index : Nat) :
    Within [.shr, .kce, .log] s (State.zeroizeTarget s target index) := by
  unfold State.zeroizeTarget
  split
  · refine Within.getD (fun t ht => ?_) ?_
    · refine Within.step (State.shrZeroize_within _ _ _ (by assumption)) (by decide) ?_
      exact Within.refl _ _
    · exact Within.refl _ _
  · refine Within.getD (fun t ht => ?_) ?_
    · refine Within.step (State.kceZeroize_within _ _ _ (by assumption)) (by decide) ?_
      exact Within.refl _ _
    · exact Within.refl _ _

theorem State.loadKey_within (s : State) (m : Mbox) (target index : Nat) (persist : Bool) (key : BitVec 512)
    (stored : Bool) :
    Within [.glb, .level, .port0, .port1, .hostLogs, .bly, .cache, .vbf, .stp, .wlv, .shr, .kce, .mst, .hly,
        .log, .sea, .evt, .pmu] s (State.loadKey s m target index persist key stored) := by
  unfold State.loadKey
  split
  · refine Within.step (State.refuse_within _ _ _) (by decide) ?_
    refine Within.step (State.unlockFor_within _ _ _) (by decide) ?_
    exact Within.refl _ _
  · lift_lets -underBinder
    intro u1
    clear_value u1
    intro u2
    subst u2
    intro u3
    have h3 : Within [.glb, .level, .port0, .port1, .hostLogs, .bly, .cache, .vbf, .stp, .wlv,   .shr, .kce,
        .mst, .hly, .log, .sea, .evt, .pmu] s u3 := by
      subst u3
      split
      · refine Within.step (State.seaStore_within _ _ _) (by decide) ?_
        refine Within.step (State.loadTarget_within _ _ _ _ _ (by assumption)) (by decide) ?_
        exact Within.refl _ _
      · dsimp only
        refine Within.step (State.loadTarget_within _ _ _ _ _ (by assumption)) (by decide) ?_
        exact Within.refl _ _
    clear_value u3
    split
    · split
      · refine Within.step (State.pumpAll_within _) (by decide) ?_
        refine Within.step (State.succeed_within _ _ _) (by decide) ?_
        refine Within.step (State.unlockFor_within _ _ _) (by decide) ?_
        assumption
      · refine Within.step (State.refuse_within _ _ _) (by decide) ?_
        refine Within.step (State.unlockFor_within _ _ _) (by decide) ?_
        refine Within.step (State.zeroizeTarget_within _ _ _) (by decide) ?_
        assumption
    · split
      · refine Within.step (State.pumpAll_within _) (by decide) ?_
        refine Within.step (State.succeed_within _ _ _) (by decide) ?_
        refine Within.step (State.unlockFor_within _ _ _) (by decide) ?_
        assumption
      · refine Within.step (State.refuse_within _ _ _) (by decide) ?_
        refine Within.step (State.unlockFor_within _ _ _) (by decide) ?_
        refine Within.step (State.zeroizeTarget_within _ _ _) (by decide) ?_
        assumption

theorem execKeyLoad_within (m : Mbox) (stored : Bool) (s : State) :
    WithinOut [.glb, .level, .port0, .port1, .hostLogs, .bly, .cache, .vbf, .stp, .wlv, .shr, .kce, .mst,
        .hly, .log, .sea, .evt, .pmu] s (execKeyLoad m stored s) := by
  unfold execKeyLoad
  unfold State.onCommand
  refine WithinOut.next ?_
  split
  · beta_reduce
    lift_lets -underBinder
    intro u1
    clear_value u1
    intro u2
    clear_value u2
    intro u3
    clear_value u3
    intro u4
    clear_value u4
    intro u5
    clear_value u5
    intro u6
    clear_value u6
    split
    · refine Within.step (State.refuse_within _ _ _) (by decide) ?_
      exact Within.refl _ _
    · split
      · refine Within.step (State.refuse_within _ _ _) (by decide) ?_
        exact Within.refl _ _
      · split
        · refine Within.step (State.refuse_within _ _ _) (by decide) ?_
          exact Within.refl _ _
        · refine Within.step (State.loadKey_within _ _ _ _ _ _ _) (by decide) ?_
          refine Within.step (State.lockFor_within _ _ _) (by decide) ?_
          exact Within.refl _ _
  · exact Within.refl _ _

theorem execKeyZeroize_within (m : Mbox) (stored : Bool) (s : State) :
    WithinOut [.hostLogs, .shr, .kce, .mst, .hly, .log, .sea, .evt] s (execKeyZeroize m stored s) := by
  unfold execKeyZeroize
  unfold State.onCommand
  refine WithinOut.next ?_
  split
  · beta_reduce
    lift_lets -underBinder
    intro u1
    clear_value u1
    intro u2
    clear_value u2
    intro u3
    clear_value u3
    intro u4
    clear_value u4
    intro u5
    clear_value u5
    intro u6
    clear_value u6
    intro u7
    clear_value u7
    intro u8
    have h8 : Within [.hostLogs, .shr, .kce, .mst, .hly, .log, .sea, .evt] s u8 := by
      subst u8
      refine Within.step (State.seaWithdraw_within _ _) (by decide) ?_
      exact Within.refl _ _
    clear_value u8
    intro u9
    have h9 : Within [.hostLogs, .shr, .kce, .mst, .hly, .log, .sea, .evt] s u9 := by
      subst u9
      refine Within.step (State.zeroizeTarget_within _ _ _) (by decide) ?_
      assumption
    clear_value u9
    split
    · refine Within.step (State.refuse_within _ _ _) (by decide) ?_
      exact Within.refl _ _
    · split
      · refine Within.step (State.succeed_within _ _ _) (by decide) ?_
        exact Within.refl _ _
      · split
        · refine Within.step (State.refuse_within _ _ _) (by decide) ?_
          exact Within.refl _ _
        · split
          · refine Within.step (State.refuse_within _ _ _) (by decide) ?_
            exact Within.refl _ _
          · split
            · refine Within.step (State.refuse_within _ _ _) (by decide) ?_
              refine Within.step (State.storeFails_within _) (by decide) ?_
              exact Within.refl _ _
            · refine Within.step (State.succeed_within _ _ _) (by decide) ?_
              assumption
  · exact Within.refl _ _

theorem execRekeyStart_within (m : Mbox) (stored : Bool) (s : State) :
    WithinOut [.hostLogs, .media, .shr, .mst, .hly, .log, .sea, .evt] s (execRekeyStart m stored s) := by
  unfold execRekeyStart
  unfold State.onCommand
  refine WithinOut.next ?_
  split
  · beta_reduce
    lift_lets -underBinder
    intro u1
    clear_value u1
    intro u2
    clear_value u2
    intro u3
    clear_value u3
    intro u4
    clear_value u4
    intro u5
    clear_value u5
    intro u6
    clear_value u6
    split
    · refine Within.step (State.refuse_within _ _ _) (by decide) ?_
      exact Within.refl _ _
    · split
      · refine Within.step (State.refuse_within _ _ _) (by decide) ?_
        exact Within.refl _ _
      · split
        split
        · refine Within.step (State.succeed_within _ _ _) (by decide) ?_
          refine Within.step (State.rekeyBegin_within _ _ _ _ _ _) (by decide) ?_
          refine Within.step (Within.of_fst (State.seaStore_within _ _ _) (by assumption)) (by decide) ?_
          exact Within.refl _ _
        · refine Within.step (State.refuse_within _ _ _) (by decide) ?_
          refine Within.step (Within.of_fst (State.seaStore_within _ _ _) (by assumption)) (by decide) ?_
          exact Within.refl _ _
  · exact Within.refl _ _

theorem execRekeyAbort_within (m : Mbox) (s : State) :
    WithinOut [.hostLogs, .shr, .mst, .hly] s (execRekeyAbort m s) := by
  unfold execRekeyAbort
  unfold State.onCommand
  refine WithinOut.next ?_
  split
  · beta_reduce
    split
    · refine Within.step (State.refuse_within _ _ _) (by decide) ?_
      exact Within.refl _ _
    · refine Within.step (State.succeed_within _ _ _) (by decide) ?_
      refine Within.step (State.rekeyAbortNow_within _) (by decide) ?_
      exact Within.refl _ _
  · exact Within.refl _ _

theorem execModuleRetire_within (m : Mbox) (s : State) :
    WithinOut [.level, .hostLogs, .bly, .stp, .media, .mst, .hly, .seq, .log, .evt] s (execModuleRetire m s)
        := by
  unfold execModuleRetire
  unfold State.onCommand
  refine WithinOut.next ?_
  split
  · beta_reduce
    lift_lets -underBinder
    intro u1
    clear_value u1
    intro u2
    clear_value u2
    split
    · refine Within.step (State.refuse_within _ _ _) (by decide) ?_
      exact Within.refl _ _
    · split
      · refine Within.step (State.refuseRc_within _ _ _) (by decide) ?_
        exact Within.refl _ _
      · split
        · refine Within.step (State.refuse_within _ _ _) (by decide) ?_
          exact Within.refl _ _
        · split
          · refine Within.step (State.refuse_within _ _ _) (by decide) ?_
            exact Within.refl _ _
          · refine Within.step (State.beginRetire_within _ _ _) (by decide) ?_
            refine Within.step (State.startBg_within _ _ _ _) (by decide) ?_
            exact Within.refl _ _
  · exact Within.refl _ _

theorem State.startAdmit_within (s : State) (m : Mbox) (k : Nat) (overwrite : Bool) :
    Within [.hostLogs, .wlv, .media, .mst, .hly, .seq, .log, .evt] s (State.startAdmit s m k overwrite) :=
        by
  unfold State.startAdmit
  lift_lets -underBinder
  intro u1
  have h1 : Within [.hostLogs, .wlv, .media, .mst, .hly, .seq, .log, .evt] s u1 := by
    subst u1
    refine Within.step (State.startBg_within _ _ _ _) (by decide) ?_
    exact Within.refl _ _
  clear_value u1
  intro u2
  have h2 : Within [.hostLogs, .wlv, .media, .mst, .hly, .seq, .log, .evt] s u2 := by
    subst u2
    refine Within.step (State.modSlot_within _ _ _) (by decide) ?_
    assumption
  clear_value u2
  split
  · refine Within.step (State.checkIdentity_within _ _ _ _) (by decide) ?_
    refine Within.step (State.modSlot_within _ _ _) (by decide) ?_
    assumption
  · split
    · refine Within.step (State.admitModule_within _ _) (by decide) ?_
      assumption
    · assumption

theorem execModuleAdmit_within (m : Mbox) (s : State) :
    WithinOut [.hostLogs, .wlv, .media, .mst, .hly, .seq, .log, .evt] s (execModuleAdmit m s) := by
  unfold execModuleAdmit
  unfold State.onCommand
  refine WithinOut.next ?_
  split
  · beta_reduce
    lift_lets -underBinder
    intro u1
    clear_value u1
    intro u2
    clear_value u2
    intro u3
    clear_value u3
    split
    · refine Within.step (State.refuse_within _ _ _) (by decide) ?_
      exact Within.refl _ _
    · split
      · refine Within.step (State.refuseRc_within _ _ _) (by decide) ?_
        exact Within.refl _ _
      · split
        · refine Within.step (State.refuse_within _ _ _) (by decide) ?_
          exact Within.refl _ _
        · refine Within.step (State.startAdmit_within _ _ _ _) (by decide) ?_
          exact Within.refl _ _
  · exact Within.refl _ _

theorem State.schedule_within (s : State) (test unit notBefore : Nat) :
    Within [.trm] s (State.schedule s test unit notBefore).1 := by
  unfold State.schedule
  lift_lets -underBinder
  intro u1
  clear_value u1
  intro u2
  clear_value u2
  intro u3
  clear_value u3
  intro u4
  clear_value u4
  dsimp only
  refine (Within.set_trm (by decide)).mpr ?_
  exact Within.refl _ _

theorem State.cancelTicket_within (s : State) (k : Ticket) :
    Within [.trm] s (State.cancelTicket s k) := by
  unfold State.cancelTicket
  split
  · refine Within.step (State.endTicket_within _ _ _ _) (by decide) ?_
    exact Within.refl _ _
  · refine (Within.set_trm (by decide)).mpr ?_
    exact Within.refl _ _
  · exact Within.refl _ _

theorem execSelfTest_within (m : Mbox) (s : State) :
    WithinOut [.hostLogs, .mst, .hly, .trm] s (execSelfTest m s) := by
  unfold execSelfTest
  unfold State.onCommand
  refine WithinOut.next ?_
  split
  · beta_reduce
    lift_lets -underBinder
    intro u1
    clear_value u1
    intro u2
    clear_value u2
    intro u3
    clear_value u3
    intro u4
    clear_value u4
    split
    · split
      · refine Within.step (State.refuse_within _ _ _) (by decide) ?_
        exact Within.refl _ _
      · split
        · refine Within.step (State.refuse_within _ _ _) (by decide) ?_
          exact Within.refl _ _
        · split
          refine Within.step (State.succeed_within _ _ _) (by decide) ?_
          refine Within.step (Within.of_fst (State.schedule_within _ _ _ _) (by assumption)) (by decide) ?_
          exact Within.refl _ _
    · split
      · refine Within.step (State.refuse_within _ _ _) (by decide) ?_
        exact Within.refl _ _
      · split
        · refine Within.step (State.refuse_within _ _ _) (by decide) ?_
          exact Within.refl _ _
        · lift_lets -underBinder
          intro u5
          have h5 : Within [.hostLogs, .mst, .hly, .trm] s u5 := by
            subst u5
            split
            · refine Within.step (State.cancelTicket_within _ _) (by decide) ?_
              exact Within.refl _ _
            · exact Within.refl _ _
          clear_value u5
          refine Within.step (State.succeed_within _ _ _) (by decide) ?_
          assumption
  · exact Within.refl _ _

theorem execPmuGrant_within (m : Mbox) (s : State) :
    WithinOut [.hostLogs, .mst, .hly, .pmu] s (execPmuGrant m s) := by
  unfold execPmuGrant
  unfold State.onCommand
  refine WithinOut.next ?_
  split
  · beta_reduce
    lift_lets -underBinder
    intro u1
    clear_value u1
    intro u2
    clear_value u2
    intro u3
    clear_value u3
    intro u4
    clear_value u4
    intro u5
    clear_value u5
    intro u6
    clear_value u6
    intro u7
    subst u7
    intro u8
    clear_value u8
    intro u9
    have h9 : Within [.hostLogs, .mst, .hly, .pmu] s u9 := by
      subst u9
      split
      · refine (Within.set_pmu (by decide)).mpr ?_
        exact Within.refl _ _
      · refine (Within.set_pmu (by decide)).mpr ?_
        exact Within.refl _ _
    clear_value u9
    split
    · refine Within.step (State.refuse_within _ _ _) (by decide) ?_
      exact Within.refl _ _
    · split
      · refine Within.step (State.refuse_within _ _ _) (by decide) ?_
        exact Within.refl _ _
      · refine Within.step (State.succeed_within _ _ _) (by decide) ?_
        assumption
  · exact Within.refl _ _

theorem State.newSet_within (s : State) :
    Within [.draws, .glb, .level, .port0, .port1, .hostLogs, .bly, .cache, .vbf, .stp, .wlv, .media, .kce,
        .hly, .seq, .log, .evt, .pmu] s (State.newSet s) := by
  unfold State.newSet
  lift_lets -underBinder
  intro u1
  clear_value u1
  intro u2
  have h2 : Within [.draws, .glb, .level, .port0, .port1, .hostLogs, .bly, .cache, .vbf, .stp,   .wlv,
      .media, .kce, .hly, .seq, .log, .evt, .pmu] s u2 := by
    subst u2
    refine Within.step (State.drawn_within _) (by decide) ?_
    exact Within.refl _ _
  clear_value u2
  intro u3
  clear_value u3
  intro u4
  have h4 : Within [.draws, .glb, .level, .port0, .port1, .hostLogs, .bly, .cache, .vbf, .stp,   .wlv,
      .media, .kce, .hly, .seq, .log, .evt, .pmu] s u4 := by
    subst u4
    refine (Within.set_media (by decide)).mpr ?_
    assumption
  clear_value u4
  refine Within.foldl (fun u a h => ?_) ?_
  · split
    · assumption
    · lift_lets -underBinder
      intro u5
      have h5 : Within [.draws, .glb, .level, .port0, .port1, .hostLogs, .bly, .cache, .vbf, .stp,   .wlv,
          .media, .kce, .hly, .seq, .log, .evt, .pmu] s u5 := by
        subst u5
        refine Within.step (State.modSlot_within _ _ _) (by decide) ?_
        assumption
      clear_value u5
      intro u6
      clear_value u6
      intro u7
      clear_value u7
      split
      · refine Within.step (State.modSlot_within _ _ _) (by decide) ?_
        refine Within.step (State.setMember_within _ _ _) (by decide) ?_
        assumption
      · assumption
  · assumption

theorem State.newWear_within (s : State) :
    Within [.draws, .stp, .wlv, .media] s (State.newWear s) := by
  unfold State.newWear
  lift_lets -underBinder
  intro u1
  clear_value u1
  intro u2
  have h2 : Within [.draws, .stp, .wlv, .media] s u2 := by
    subst u2
    refine Within.step (State.drawn_within _) (by decide) ?_
    exact Within.refl _ _
  clear_value u2
  intro u3
  clear_value u3
  intro u4
  clear_value u4
  intro u5
  clear_value u5
  refine (Within.set_stp_wlv_media (by decide) (by decide) (by decide)).mpr ?_
  assumption

theorem State.startFormat_within (s : State) (m : Mbox) (stored : Bool) :
    Within [.draws, .glb, .level, .port0, .port1, .hostLogs, .bly, .cache, .vbf, .stp, .wlv, .media, .shr,
        .kce, .mst, .hly, .seq, .log, .sea, .evt, .pmu] s (State.startFormat s m stored) := by
  unfold State.startFormat
  split
  · refine Within.step (State.refuse_within _ _ _) (by decide) ?_
    refine Within.step (State.storeFails_within _) (by decide) ?_
    exact Within.refl _ _
  · lift_lets -underBinder
    intro u1
    have h1 : Within [.draws, .glb, .level, .port0, .port1, .hostLogs, .bly, .cache, .vbf, .stp,   .wlv,
        .media, .shr, .kce, .mst, .hly, .seq, .log, .sea, .evt, .pmu] s u1 := by
      subst u1
      refine Within.step (State.retireBg_within _ _) (by decide) ?_
      refine Within.step (State.startBg_within _ _ _ _) (by decide) ?_
      exact Within.refl _ _
    clear_value u1
    intro u2
    clear_value u2
    intro u3
    have h3 : Within [.draws, .glb, .level, .port0, .port1, .hostLogs, .bly, .cache, .vbf, .stp,   .wlv,
        .media, .shr, .kce, .mst, .hly, .seq, .log, .sea, .evt, .pmu] s u3 := by
      subst u3
      refine Within.step (State.settleLevel_within _) (by decide) ?_
      refine (Within.set_glb (by decide) (by decide)).mpr ?_
      assumption
    clear_value u3
    refine Within.step (State.erase_within _ _) (by decide) ?_
    refine Within.step (State.newWear_within _) (by decide) ?_
    refine Within.step (State.newSet_within _) (by decide) ?_
    assumption

theorem execFormatMediaSet_within (m : Mbox) (stored : Bool) (s : State) :
    WithinOut [.draws, .glb, .level, .port0, .port1, .hostLogs, .bly, .cache, .vbf, .stp, .wlv, .media,
        .shr, .kce, .mst, .hly, .seq, .log, .sea, .evt, .pmu] s (execFormatMediaSet m stored s) := by
  unfold execFormatMediaSet
  refine WithinOut.next ?_
  lift_lets -underBinder
  intro u1
  clear_value u1
  split
  · split
    · refine Within.step (State.refuse_within _ _ _) (by decide) ?_
      exact Within.refl _ _
    · split
      · refine Within.step (State.refuseRc_within _ _ _) (by decide) ?_
        exact Within.refl _ _
      · split
        · refine Within.step (State.refuse_within _ _ _) (by decide) ?_
          exact Within.refl _ _
        · refine Within.step (State.startFormat_within _ _ _) (by decide) ?_
          exact Within.refl _ _
  · split
    · refine Within.step (State.completeBg_within _ _ _ _ _) (by decide) ?_
      refine Within.step (State.endFormat_within _) (by decide) ?_
      exact Within.refl _ _
    · exact Within.refl _ _

end Sys2Proof.Machine
end

