-- ==== Sys2Proof/Laws/FrameLog.lean ====
section
/-! SUPPORT. Frames: which parts of the state each operation and each meaning may change (the logbook, the sea chest, the register window and the event sources).
A later frame cites the frames of the operations it calls and unfolds none of them. -/

namespace Sys2Proof.Machine

open Sys2Proof

theorem State.writeRec_within (s : State) (r : LogRec) (t : State)
    (h : State.writeRec s r = some t) : Within [.log, .dty] s t := by
  unfold State.writeRec at h
  split at h
  · cases h
  · split at h <;> cases h
    · exact (Within.set_log (by decide)).mpr (Within.refl _ _)
    · exact (Within.set_log_dty (by decide) (by decide)).mpr (Within.refl _ _)

theorem State.payLost_within (s : State) :
    Within [.hostLogs, .log, .dty, .evt] s (State.payLost s) := by
  unfold State.payLost
  lift_lets -underBinder
  intro u1
  clear_value u1
  intro u2
  subst u2
  intro u3
  clear_value u3
  intro u4
  clear_value u4
  split
  · exact Within.refl _ _
  · split
    · exact Within.refl _ _
    · split
      · refine Within.step (State.routeFiring_within _ _ _ _) (by decide) ?_
        refine Within.step (State.markFired_within _ _ _) (by decide) ?_
        refine Within.step (State.writeRec_within _ _ _ (by assumption)) (by decide) ?_
        refine (Within.set_log (by decide)).mpr ?_
        exact Within.refl _ _
      · exact Within.refl _ _

theorem State.writeHead_within (s : State) :
    Within [.hostLogs, .log, .dty, .evt] s (State.writeHead s) := by
  unfold State.writeHead
  lift_lets -underBinder
  intro u1
  have h1 : Within [.hostLogs, .log, .dty, .evt] s u1 := by
    subst u1
    refine Within.step (State.payLost_within _) (by decide) ?_
    exact Within.refl _ _
  clear_value u1
  split
  · assumption
  · split
    · refine (Within.set_log (by decide)).mpr ?_
      refine Within.step (State.writeRec_within _ _ _ (by assumption)) (by decide) ?_
      assumption
    · assumption

theorem State.drainLog_within (s : State) (k : Nat) :
    Within [.hostLogs, .log, .dty, .evt] s (State.drainLog s k) := by
  induction k generalizing s with
  | zero => exact Within.refl _ _
  | succ k ih =>
    unfold State.drainLog
    refine Within.step (ih _) (by decide) ?_
    refine Within.step (State.writeHead_within _) (by decide) ?_
    exact Within.refl _ _

theorem State.chainPut_within (s : State) (flags : Nat) (tag : BitVec 128) :
    Within [.log, .dty] s (State.chainPut s flags tag) := by
  unfold State.chainPut
  lift_lets -underBinder
  intro u1
  clear_value u1
  intro u2
  clear_value u2
  intro u3
  clear_value u3
  intro u4
  clear_value u4
  intro u5
  clear_value u5
  intro u6
  clear_value u6
  intro u7
  clear_value u7
  split
  · exact Within.refl _ _
  · refine (Within.set_log (by decide)).mpr ?_
    refine Within.step (State.writeRec_within _ _ _ (by assumption)) (by decide) ?_
    exact Within.refl _ _

theorem execLogRecordWrite_within (s : State) :
    WithinOut [.hostLogs, .log, .dty, .evt] s (execLogRecordWrite s) := by
  unfold execLogRecordWrite
  refine WithinOut.next ?_
  split
  · refine Within.step (State.writeHead_within _) (by decide) ?_
    exact Within.refl _ _
  · exact Within.refl _ _

theorem execLogWrGo_within (path : Path) (s : State) :
    WithinOut [.log] s (execLogWrGo path s) := by
  unfold execLogWrGo
  refine WithinOut.next ?_
  lift_lets -underBinder
  intro u1
  clear_value u1
  split
  · exact Within.refl _ _
  · refine Within.step (State.logPut_within _ _ _ _ _) (by decide) ?_
    exact Within.refl _ _

theorem execArchiveCopy_within (s : State) :
    WithinOut [.log] s (execArchiveCopy s) := by
  unfold execArchiveCopy
  refine WithinOut.next ?_
  split
  · refine (Within.set_log (by decide)).mpr ?_
    exact Within.refl _ _
  · exact Within.refl _ _

theorem execBlockCounterAdvance_within (verified : Bool) (s : State) :
    WithinOut [.hostLogs, .log, .sea, .evt] s (execBlockCounterAdvance verified s) := by
  unfold execBlockCounterAdvance
  refine WithinOut.next ?_
  split
  · exact Within.refl _ _
  · split
    split
    · refine (Within.set_log (by decide)).mpr ?_
      refine Within.step (Within.of_fst (State.counterInc_within _ _ _) (by assumption)) (by decide) ?_
      exact Within.refl _ _
    · refine Within.step (Within.of_fst (State.counterInc_within _ _ _) (by assumption)) (by decide) ?_
      exact Within.refl _ _

theorem execChainWrite_within (s : State) :
    WithinOut [.log, .dty] s (execChainWrite s) := by
  unfold execChainWrite
  refine WithinOut.next ?_
  split
  · exact Within.refl _ _
  · split
    · refine Within.step (State.chainPut_within _ _ _) (by decide) ?_
      exact Within.refl _ _
    · split
      · refine Within.step (State.chainPut_within _ _ _) (by decide) ?_
        exact Within.refl _ _
      · split
        · exact Within.refl _ _
        · refine Within.step (State.chainPut_within _ _ _) (by decide) ?_
          exact Within.refl _ _

theorem execChainStallTimeout_within (s : State) :
    WithinOut [.hostLogs, .log, .dty, .evt] s (execChainStallTimeout s) := by
  unfold execChainStallTimeout
  refine WithinOut.next ?_
  split
  · split
    · exact Within.refl _ _
    · refine Within.step (State.fire_within _ _ _ _) (by decide) ?_
      refine Within.step (State.chainPut_within _ _ _) (by decide) ?_
      exact Within.refl _ _
  · exact Within.refl _ _

theorem State.restoreRing_within (s : State) (top : Nat) :
    Within [.log] s (State.restoreRing s top).1 := by
  unfold State.restoreRing
  lift_lets -underBinder
  intro u1 u2
  intro u3 u4
  clear_value u4
  intro u5
  clear_value u5
  intro u6
  clear_value u6
  dsimp only
  refine (Within.set_log (by decide)).mpr ?_
  exact Within.refl _ _

theorem State.newBlock_within (s : State) (top : Nat) :
    Within [.hostLogs, .log, .sea, .evt] s (State.newBlock s top).1 := by
  unfold State.newBlock
  lift_lets -underBinder
  intro u1
  clear_value u1
  intro u2
  have h2 : Within [.hostLogs, .log, .sea, .evt] s u2 := by
    subst u2
    refine Within.step (State.counterInc_within _ _ _) (by decide) ?_
    exact Within.refl _ _
  clear_value u2
  intro u3
  clear_value u3
  intro u4
  have h4 : Within [.hostLogs, .log, .sea, .evt] s u4 := by
    subst u4
    refine (Within.set_log (by decide)).mpr ?_
    assumption
  clear_value u4
  dsimp only
  assumption

theorem State.bootRecord_within (s : State) (first last restored : Nat) :
    Within [.log] s (State.bootRecord s first last restored) := by
  unfold State.bootRecord
  refine Within.step (State.logPut_within _ _ _ _ _) (by decide) ?_
  exact Within.refl _ _

theorem execLogbookRestore_within (s : State) :
    WithinOut [.hostLogs, .log, .sea, .evt] s (execLogbookRestore s) := by
  unfold execLogbookRestore
  refine WithinOut.next ?_
  split
  · exact Within.refl _ _
  · lift_lets -underBinder
    intro u1
    clear_value u1
    intro u2
    clear_value u2
    intro u3
    clear_value u3
    intro u4
    clear_value u4
    intro u5
    clear_value u5
    intro u6
    have h6 : Within [.hostLogs, .log, .sea, .evt] s u6 := by
      subst u6
      split
      · refine Within.step (State.newBlock_within _ _) (by decide) ?_
        exact Within.refl _ _
      · refine Within.step (State.restoreRing_within _ _) (by decide) ?_
        exact Within.refl _ _
    clear_value u6
    intro u7
    clear_value u7
    intro u8
    have h8 : Within [.hostLogs, .log, .sea, .evt] s u8 := by
      subst u8
      refine (Within.set_log (by decide)).mpr ?_
      assumption
    clear_value u8
    refine Within.step (State.bootRecord_within _ _ _ _) (by decide) ?_
    assumption

theorem execLogbookSnapshot_within (m : Mbox) (s : State) :
    WithinOut [.hostLogs, .mst, .hly, .log] s (execLogbookSnapshot m s) := by
  unfold execLogbookSnapshot
  unfold State.onCommand
  refine WithinOut.next ?_
  split
  · beta_reduce
    lift_lets -underBinder
    intro u1
    clear_value u1
    intro u2
    clear_value u2
    intro u3
    clear_value u3
    intro u4
    clear_value u4
    intro u5
    clear_value u5
    intro u6
    clear_value u6
    intro u7
    clear_value u7
    intro u8
    clear_value u8
    intro u9
    clear_value u9
    intro u10
    clear_value u10
    split
    · refine Within.step (State.refuse_within _ _ _) (by decide) ?_
      exact Within.refl _ _
    · refine Within.step (State.succeed_within _ _ _) (by decide) ?_
      refine (Within.set_log (by decide)).mpr ?_
      exact Within.refl _ _
  · exact Within.refl _ _

theorem execSnapshotReleaseTimeout_within (m : Mbox) (s : State) :
    WithinOut [.log] s (execSnapshotReleaseTimeout m s) := by
  unfold execSnapshotReleaseTimeout
  refine WithinOut.next ?_
  split
  · split
    · refine (Within.set_log (by decide)).mpr ?_
      exact Within.refl _ _
    · exact Within.refl _ _
  · exact Within.refl _ _

theorem execLogbookClear_within (m : Mbox) (s : State) :
    WithinOut [.hostLogs, .mst, .hly, .log, .dty, .evt] s (execLogbookClear m s) := by
  unfold execLogbookClear
  unfold State.onCommand
  refine WithinOut.next ?_
  split
  · beta_reduce
    lift_lets -underBinder
    intro u1
    clear_value u1
    intro u2
    clear_value u2
    intro u3
    clear_value u3
    split
    · exact Within.refl _ _
    · split
      · refine Within.step (State.refuse_within _ _ _) (by decide) ?_
        exact Within.refl _ _
      · split
        · refine Within.step (State.refuse_within _ _ _) (by decide) ?_
          exact Within.refl _ _
        · split
          · refine Within.step (State.refuse_within _ _ _) (by decide) ?_
            exact Within.refl _ _
          · lift_lets -underBinder
            intro u4
            have h4 : Within [.hostLogs, .mst, .hly, .log, .dty, .evt] s u4 := by
              subst u4
              refine Within.step (State.drainLog_within _ _) (by decide) ?_
              exact Within.refl _ _
            clear_value u4
            intro u5
            clear_value u5
            intro u6
            clear_value u6
            intro u7
            clear_value u7
            split
            · refine (Within.set_log (by decide)).mpr ?_
              refine Within.step (State.writeRec_within _ _ _ (by assumption)) (by decide) ?_
              assumption
            · exact Within.refl _ _
  · exact Within.refl _ _

theorem execClearRetire_within (s : State) :
    WithinOut [.hostLogs, .mst, .hly, .log] s (execClearRetire s) := by
  unfold execClearRetire
  refine WithinOut.next ?_
  split
  · exact Within.refl _ _
  · split
    · exact Within.refl _ _
    · lift_lets -underBinder
      intro u1
      clear_value u1
      intro u2
      clear_value u2
      intro u3
      have h3 : Within [.hostLogs, .mst, .hly, .log] s u3 := by
        subst u3
        refine (Within.set_log (by decide)).mpr ?_
        exact Within.refl _ _
      clear_value u3
      split
      · refine Within.step (State.succeed_within _ _ _) (by decide) ?_
        assumption
      · assumption

theorem execRecordStore_within (id : BitVec 15) (payload : List Byte) (verified : Bool) (s : State) :
    WithinOut [.hostLogs, .log, .sea, .evt] s (execRecordStore id payload verified s) := by
  unfold execRecordStore
  split
  · exact WithinOut.fault _ _ _
  · split
    · refine WithinOut.next ?_
      exact Within.refl _ _
    · refine WithinOut.next ?_
      refine Within.step (State.seaStore_within _ _ _) (by decide) ?_
      exact Within.refl _ _

theorem execRecordWithdraw_within (id : BitVec 15) (s : State) :
    WithinOut [.sea] s (execRecordWithdraw id s) := by
  unfold execRecordWithdraw
  refine WithinOut.next ?_
  split
  · exact Within.refl _ _
  · refine Within.step (State.seaWithdraw_within _ _) (by decide) ?_
    exact Within.refl _ _

theorem execBackgroundErase_within (s : State) :
    WithinOut [.hostLogs, .log, .sea, .evt] s (execBackgroundErase s) := by
  unfold execBackgroundErase
  refine WithinOut.next ?_
  split
  · exact Within.refl _ _
  · refine Within.step (State.noteWear_within _ _) (by decide) ?_
    refine (Within.set_sea (by decide)).mpr ?_
    exact Within.refl _ _

theorem State.rawRefused_within (s : State) :
    Within [.sea] s (State.rawRefused s) := by
  unfold State.rawRefused
  refine (Within.set_sea (by decide)).mpr ?_
  exact Within.refl _ _

theorem State.touchSector_within (s : State) (k : Nat) :
    Within [.mst] s (State.touchSector s k) := by
  unfold State.touchSector
  split
  · exact Within.refl _ _
  · lift_lets -underBinder
    intro u1
    clear_value u1
    intro u2
    clear_value u2
    refine (Within.set_mst (by decide)).mpr ?_
    exact Within.refl _ _

theorem State.rawProgram_within (s : State) :
    Within [.mst, .sea] s (State.rawProgram s) := by
  unfold State.rawProgram
  lift_lets -underBinder
  intro u1
  clear_value u1
  intro u2
  clear_value u2
  split
  · refine Within.step (State.rawRefused_within _) (by decide) ?_
    exact Within.refl _ _
  · refine Within.step (State.touchSector_within _ _) (by decide) ?_
    refine (Within.set_sea (by decide)).mpr ?_
    exact Within.refl _ _

theorem State.rawErase_within (s : State) :
    Within [.hostLogs, .mst, .log, .sea, .evt] s (State.rawErase s) := by
  unfold State.rawErase
  lift_lets -underBinder
  intro u1
  clear_value u1
  split
  · refine Within.step (State.rawRefused_within _) (by decide) ?_
    exact Within.refl _ _
  · refine Within.step (State.noteWear_within _ _) (by decide) ?_
    refine Within.step (State.touchSector_within _ _) (by decide) ?_
    refine (Within.set_sea (by decide)).mpr ?_
    exact Within.refl _ _

theorem State.rawGo_within (s : State) :
    Within [.hostLogs, .mst, .log, .sea, .evt] s (State.rawGo s) := by
  unfold State.rawGo
  split
  · exact Within.refl _ _
  · split
    · refine Within.step (State.rawProgram_within _) (by decide) ?_
      exact Within.refl _ _
    · refine Within.step (State.rawErase_within _) (by decide) ?_
      exact Within.refl _ _
    · refine Within.step (State.rawRefused_within _) (by decide) ?_
      exact Within.refl _ _

theorem execRawProgram_within (path : Path) (s : State) :
    WithinOut [.hostLogs, .mst, .log, .sea, .evt] s (execRawProgram path s) := by
  unfold execRawProgram
  refine WithinOut.next ?_
  split
  · exact Within.refl _ _
  · refine Within.step (State.rawGo_within _) (by decide) ?_
    refine (Within.set_sea (by decide)).mpr ?_
    exact Within.refl _ _

theorem execRawErase_within (path : Path) (s : State) :
    WithinOut [.hostLogs, .mst, .log, .sea, .evt] s (execRawErase path s) := by
  unfold execRawErase
  refine WithinOut.next ?_
  split
  · exact Within.refl _ _
  · refine Within.step (State.rawGo_within _) (by decide) ?_
    refine (Within.set_sea (by decide)).mpr ?_
    exact Within.refl _ _

theorem State.counterGo_within (s : State) (c : Nat) (verified : Bool) :
    Within [.hostLogs, .log, .sea, .evt] s (State.counterGo s c verified) := by
  unfold State.counterGo
  split
  · exact Within.refl _ _
  · refine Within.step (State.counterInc_within _ _ _) (by decide) ?_
    exact Within.refl _ _

theorem execCounterIncrement_within (ctr : Fin 8) (verified : Bool) (s : State) :
    WithinOut [.hostLogs, .log, .sea, .evt] s (execCounterIncrement ctr verified s) := by
  unfold execCounterIncrement
  refine WithinOut.next ?_
  refine Within.step (State.counterGo_within _ _ _) (by decide) ?_
  exact Within.refl _ _

theorem execCounterRefill_within (s : State) :
    WithinOut [.hostLogs, .log, .sea, .evt] s (execCounterRefill s) := by
  unfold execCounterRefill
  refine WithinOut.next ?_
  split
  · exact Within.refl _ _
  · refine Within.step (State.refillCounters_within _) (by decide) ?_
    exact Within.refl _ _

theorem execSeaChestSettle_within (s : State) :
    WithinOut [.hostLogs, .log, .sea, .evt] s (execSeaChestSettle s) := by
  unfold execSeaChestSettle
  refine WithinOut.next ?_
  split
  · exact Within.refl _ _
  · lift_lets -underBinder
    intro u1
    clear_value u1
    intro u2
    clear_value u2
    refine Within.step (State.noteWear_within _ _) (by decide) ?_
    refine (Within.set_sea (by decide)).mpr ?_
    exact Within.refl _ _

theorem State.wakeBlock_within (s : State) (b : Block) :
    Within [.clk] s (State.wakeBlock s b) := by
  unfold State.wakeBlock
  split
  · refine Within.step (State.wake_within _ _) (by decide) ?_
    exact Within.refl _ _
  · exact Within.refl _ _

theorem Within.nextOf {W : List Part} {s u : State} {o : Out} (ho : WithinOut W u o)
    (h : Within W s u) : Within W s (nextOf o u) := by
  unfold Sys2Proof.Machine.nextOf
  split
  · exact Within.step (ho _ rfl) (fun _ hp => hp) h
  · exact h

theorem State.writeResetCtrl_within (s : State) (path : Path) (d : Word) :
    Within [.glb, .level, .port0, .port1, .hostLogs, .bly, .cache, .vbf, .stp, .wlv, .mch, .hly, .seq, .rst,
        .log, .evt, .pmu] s (State.writeResetCtrl s path d) := by
  unfold State.writeResetCtrl
  lift_lets -underBinder
  intro u1
  clear_value u1
  split
  · refine Within.nextOf ?_ ?_
    · exact WithinOut.mono (execSysResetRequest_within _ _ _) (by decide)
    · exact Within.refl _ _
  · split
    · refine Within.nextOf ?_ ?_
      · exact WithinOut.mono (execCoreResetRequest_within _ _ _) (by decide)
      · exact Within.refl _ _
    · exact Within.refl _ _

theorem State.writeTimeHi_within (s : State) (path : Path) (d : Word) :
    Within [.latches, .glb, .level] s (State.writeTimeHi s path d) := by
  unfold State.writeTimeHi
  lift_lets -underBinder
  intro u1
  clear_value u1
  intro u2
  have h2 : Within [.latches, .glb, .level] s u2 := by
    subst u2
    refine Within.step (State.modLatch_within _ _ _) (by decide) ?_
    exact Within.refl _ _
  clear_value u2
  intro u3
  clear_value u3
  refine (Within.set_glb (by decide) (by decide)).mpr ?_
  assumption

theorem State.writeGlb_within (s : State) (path : Path) (i : Nat) (d : Word) :
    Within [.latches, .glb, .level, .port0, .port1, .hostLogs, .bly, .cache, .vbf, .stp, .wlv, .mch, .hly,
        .seq, .rst, .log, .evt, .pmu] s (State.writeGlb s path i d) := by
  unfold State.writeGlb
  split
  · lift_lets -underBinder
    intro u1
    clear_value u1
    intro u2
    clear_value u2
    refine Within.step (State.settleLevel_within _) (by decide) ?_
    refine Within.step (State.settleBudget_within _) (by decide) ?_
    refine (Within.set_glb (by decide) (by decide)).mpr ?_
    exact Within.refl _ _
  · refine Within.step (State.writeResetCtrl_within _ _ _) (by decide) ?_
    exact Within.refl _ _
  · refine Within.step (State.modLatch_within _ _ _) (by decide) ?_
    exact Within.refl _ _
  · refine Within.step (State.writeTimeHi_within _ _ _) (by decide) ?_
    exact Within.refl _ _
  · refine (Within.set_glb (by decide) (by decide)).mpr ?_
    exact Within.refl _ _
  · refine (Within.set_glb (by decide) (by decide)).mpr ?_
    exact Within.refl _ _
  · refine (Within.set_glb (by decide) (by decide)).mpr ?_
    exact Within.refl _ _
  · refine (Within.set_glb (by decide) (by decide)).mpr ?_
    exact Within.refl _ _
  · exact Within.refl _ _

theorem State.writeAdmit_within (s : State) (d : Word) :
    Within [.port0, .port1, .hostLogs] s (State.writeAdmit s d) := by
  unfold State.writeAdmit
  refine Within.step (State.modPort_within _ _ _) (by decide) ?_
  refine Within.step (State.modPort_within _ _ _) (by decide) ?_
  exact Within.refl _ _

theorem State.writeShrCmd_within (s : State) (path : Path) (d : Word) :
    Within [.draws, .glb, .level, .port0, .port1, .hostLogs, .bly, .cache, .vbf, .stp, .wlv, .media, .shr,
        .kce, .hly, .log, .sea, .evt, .pmu] s (State.writeShrCmd s path d) := by
  unfold State.writeShrCmd
  lift_lets -underBinder
  intro u1
  clear_value u1
  intro u2
  have h2 : Within [.draws, .glb, .level, .port0, .port1, .hostLogs, .bly, .cache, .vbf, .stp,   .wlv,
      .media, .shr, .kce, .hly, .log, .sea, .evt, .pmu] s u2 := by
    subst u2
    refine (Within.set_shr (by decide)).mpr ?_
    exact Within.refl _ _
  clear_value u2
  intro u3
  clear_value u3
  intro u4
  clear_value u4
  intro u5
  have h5 : Within [.draws, .glb, .level, .port0, .port1, .hostLogs, .bly, .cache, .vbf, .stp,   .wlv,
      .media, .shr, .kce, .hly, .log, .sea, .evt, .pmu] s u5 := by
    subst u5
    refine (Within.set_shr (by decide)).mpr ?_
    assumption
  clear_value u5
  split
  · split
    · refine Within.step (State.shrRefuse_within _) (by decide) ?_
      assumption
    · assumption
  · split
    · assumption
    · split
      · refine Within.nextOf ?_ ?_
        · exact WithinOut.mono (execShrKeyLoad_within _ _) (by decide)
        · assumption
      · refine Within.nextOf ?_ ?_
        · exact WithinOut.mono (execShrKeyZeroize_within _ _) (by decide)
        · assumption
      · refine Within.nextOf ?_ ?_
        · exact WithinOut.mono (execShrKeyErase_within _ _) (by decide)
        · assumption
      · refine Within.step (State.shrRefuse_within _) (by decide) ?_
        assumption

theorem State.writeRekeyCtrl_within (s : State) (path : Path) (d : Word) :
    Within [.hostLogs, .media, .shr, .log, .sea, .evt] s (State.writeRekeyCtrl s path d) := by
  unfold State.writeRekeyCtrl
  lift_lets -underBinder
  intro u1
  clear_value u1
  intro u2
  have h2 : Within [.hostLogs, .media, .shr, .log, .sea, .evt] s u2 := by
    subst u2
    refine (Within.set_shr (by decide)).mpr ?_
    exact Within.refl _ _
  clear_value u2
  intro u3
  have h3 : Within [.hostLogs, .media, .shr, .log, .sea, .evt] s u3 := by
    subst u3
    split
    · refine Within.nextOf ?_ ?_
      · exact WithinOut.mono (execShrRekeyGo_within _ _) (by decide)
      · assumption
    · assumption
  clear_value u3
  split
  · refine Within.nextOf ?_ ?_
    · exact WithinOut.mono (execShrRekeyAbort_within _ _) (by decide)
    · assumption
  · assumption

theorem State.writeShr_within (s : State) (path : Path) (i : Nat) (d : Word) :
    Within [.draws, .glb, .level, .port0, .port1, .hostLogs, .bly, .cache, .vbf, .stp, .wlv, .media, .shr,
        .kce, .hly, .log, .sea, .evt, .pmu] s (State.writeShr s path i d) := by
  unfold State.writeShr
  split
  · refine (Within.set_shr (by decide)).mpr ?_
    exact Within.refl _ _
  · split
    · refine Within.step (State.writeShrCmd_within _ _ _) (by decide) ?_
      exact Within.refl _ _
    · refine (Within.set_shr (by decide)).mpr ?_
      exact Within.refl _ _
    · refine Within.step (State.writeRekeyCtrl_within _ _ _) (by decide) ?_
      exact Within.refl _ _
    · refine (Within.set_shr (by decide)).mpr ?_
      exact Within.refl _ _
    · refine (Within.set_shr (by decide)).mpr ?_
      exact Within.refl _ _
    · refine (Within.set_shr (by decide)).mpr ?_
      exact Within.refl _ _
    · exact Within.refl _ _

theorem State.writeLock_within (s : State) (path : Path) (d : Word) :
    Within [.kce] s (State.writeLock s path d) := by
  unfold State.writeLock
  split
  · split
    · refine Within.step (State.dropLock_within _) (by decide) ?_
      exact Within.refl _ _
    · exact Within.refl _ _
  · refine Within.nextOf ?_ ?_
    · exact WithinOut.mono (execLockRequest_within _ _) (by decide)
    · exact Within.refl _ _

theorem State.writeKceCmd_within (s : State) (path : Path) (d : Word) :
    Within [.kce, .log] s (State.writeKceCmd s path d) := by
  unfold State.writeKceCmd
  lift_lets -underBinder
  intro u1
  clear_value u1
  intro u2
  have h2 : Within [.kce, .log] s u2 := by
    subst u2
    refine (Within.set_kce (by decide)).mpr ?_
    exact Within.refl _ _
  clear_value u2
  intro u3
  clear_value u3
  intro u4
  clear_value u4
  intro u5
  clear_value u5
  intro u6
  clear_value u6
  intro u7
  have h7 : Within [.kce, .log] s u7 := by
    subst u7
    refine (Within.set_kce (by decide)).mpr ?_
    assumption
  clear_value u7
  split
  · refine Within.step (State.notOwner_within _) (by decide) ?_
    assumption
  · split
    · assumption
    · split
      · refine Within.nextOf ?_ ?_
        · exact WithinOut.mono (execKceKeyLoad_within _ _) (by decide)
        · assumption
      · refine Within.nextOf ?_ ?_
        · exact WithinOut.mono (execKceKeyZeroize_within _ _) (by decide)
        · assumption
      · refine (Within.set_kce (by decide)).mpr ?_
        assumption

theorem State.writeMsgCtrl_within (s : State) (path : Path) (d : Word) :
    Within [.kce] s (State.writeMsgCtrl s path d) := by
  unfold State.writeMsgCtrl
  split
  · refine Within.step (State.notOwner_within _) (by decide) ?_
    exact Within.refl _ _
  · lift_lets -underBinder
    intro u1
    clear_value u1
    intro u2
    have h2 : Within [.kce] s u2 := by
      subst u2
      refine (Within.set_kce (by decide)).mpr ?_
      exact Within.refl _ _
    clear_value u2
    intro u3
    have h3 : Within [.kce] s u3 := by
      subst u3
      split
      · refine Within.nextOf ?_ ?_
        · exact WithinOut.mono (execMsgStart_within _ _) (by decide)
        · assumption
      · assumption
    clear_value u3
    split
    · refine Within.nextOf ?_ ?_
      · exact WithinOut.mono (execMsgFinish_within _ _) (by decide)
      · assumption
    · assumption

theorem State.writeMsgLen_within (s : State) (path : Path) (high : Bool) (d : Word) :
    Within [.kce] s (State.writeMsgLen s path high d) := by
  unfold State.writeMsgLen
  split
  · refine Within.step (State.notOwner_within _) (by decide) ?_
    exact Within.refl _ _
  · refine (Within.set_kce (by decide)).mpr ?_
    exact Within.refl _ _

theorem State.writeKce_within (s : State) (path : Path) (i : Nat) (d : Word) :
    Within [.kce, .log] s (State.writeKce s path i d) := by
  unfold State.writeKce
  split
  · refine Within.step (State.writeLock_within _ _ _) (by decide) ?_
    exact Within.refl _ _
  · refine (Within.set_kce (by decide)).mpr ?_
    exact Within.refl _ _
  · refine (Within.set_kce (by decide)).mpr ?_
    exact Within.refl _ _
  · refine (Within.set_kce (by decide)).mpr ?_
    exact Within.refl _ _
  · refine (Within.set_kce (by decide)).mpr ?_
    exact Within.refl _ _
  · refine (Within.set_kce (by decide)).mpr ?_
    exact Within.refl _ _
  · refine (Within.set_kce (by decide)).mpr ?_
    exact Within.refl _ _
  · refine (Within.set_kce (by decide)).mpr ?_
    exact Within.refl _ _
  · refine (Within.set_kce (by decide)).mpr ?_
    exact Within.refl _ _
  · refine Within.step (State.writeKceCmd_within _ _ _) (by decide) ?_
    exact Within.refl _ _
  · refine Within.step (State.writeMsgCtrl_within _ _ _) (by decide) ?_
    exact Within.refl _ _
  · refine Within.step (State.writeMsgLen_within _ _ _ _) (by decide) ?_
    exact Within.refl _ _
  · refine Within.step (State.writeMsgLen_within _ _ _ _) (by decide) ?_
    exact Within.refl _ _
  · refine Within.nextOf ?_ ?_
    · exact WithinOut.mono (execDataInWrite_within _ _ _) (by decide)
    · exact Within.refl _ _
  · refine (Within.set_kce (by decide)).mpr ?_
    exact Within.refl _ _
  · exact Within.refl _ _

theorem State.writeWdog_within (s : State) (path : Path) (d : Word) :
    Within [.mst] s (State.writeWdog s path d) := by
  unfold State.writeWdog
  lift_lets -underBinder
  intro u1
  clear_value u1
  intro u2
  have h2 : Within [.mst] s u2 := by
    subst u2
    split
    · exact Within.refl _ _
    · refine (Within.set_mst (by decide)).mpr ?_
      exact Within.refl _ _
  clear_value u2
  split
  · refine Within.nextOf ?_ ?_
    · exact WithinOut.mono (execWdogKick_within _ _) (by decide)
    · assumption
  · assumption

theorem State.writeMbox_within (s : State) (path : Path) (m k : Nat) (d : Word) :
    Within [.hostLogs, .mst, .hly] s (State.writeMbox s path m k d) := by
  unfold State.writeMbox
  split
  · refine Within.step (State.modMb_within _ _ _) (by decide) ?_
    exact Within.refl _ _
  · lift_lets -underBinder
    intro u1
    have h1 : Within [.hostLogs, .mst, .hly] s u1 := by
      subst u1
      refine Within.step (State.modMb_within _ _ _) (by decide) ?_
      exact Within.refl _ _
    clear_value u1
    split
    · refine Within.nextOf ?_ ?_
      · exact WithinOut.mono (execMbDoneGo_within _ _ _) (by decide)
      · assumption
    · assumption
  · refine Within.step (State.modMb_within _ _ _) (by decide) ?_
    exact Within.refl _ _
  · exact Within.refl _ _

theorem State.writeRetire_within (s : State) (d : Word) :
    Within [.mst, .hly] s (State.writeRetire s d) := by
  unfold State.writeRetire
  lift_lets -underBinder
  intro u1
  clear_value u1
  intro u2
  clear_value u2
  intro u3
  have h3 : Within [.mst, .hly] s u3 := by
    subst u3
    refine (Within.set_hly (by decide)).mpr ?_
    exact Within.refl _ _
  clear_value u3
  split
  · refine Within.nextOf ?_ ?_
    · exact WithinOut.mono (execHlyRetireRequest_within _ _) (by decide)
    · assumption
  · assumption

theorem State.writeAbort_within (s : State) (d : Word) :
    Within [.hostLogs, .cache, .vbf, .stp, .wlv, .media, .kce, .mst, .hly, .seq, .log, .sea, .evt] s
        (State.writeAbort s d) := by
  unfold State.writeAbort
  lift_lets -underBinder
  intro u1
  clear_value u1
  intro u2
  clear_value u2
  intro u3
  have h3 : Within [.hostLogs, .cache, .vbf, .stp, .wlv, .media, .kce, .mst, .hly, .seq, .log,   .sea, .evt]
      s u3 := by
    subst u3
    refine (Within.set_hly (by decide)).mpr ?_
    exact Within.refl _ _
  clear_value u3
  split
  · refine Within.nextOf ?_ ?_
    · exact WithinOut.mono (execHlyAbortRequest_within _ _) (by decide)
    · assumption
  · assumption

theorem State.writeHly_within (s : State) (path : Path) (i : Nat) (d : Word) :
    Within [.hostLogs, .cache, .vbf, .stp, .wlv, .media, .kce, .mst, .hly, .seq, .log, .sea, .evt] s
        (State.writeHly s path i d) := by
  unfold State.writeHly
  split
  · refine Within.step (State.writeRetire_within _ _) (by decide) ?_
    exact Within.refl _ _
  · split
    · refine Within.step (State.writeAbort_within _ _) (by decide) ?_
      exact Within.refl _ _
    · refine Within.step (State.writeMbox_within _ _ _ _ _) (by decide) ?_
      exact Within.refl _ _

theorem State.writeLogCtrl_within (s : State) (path : Path) (d : Word) :
    Within [.log] s (State.writeLogCtrl s path d) := by
  unfold State.writeLogCtrl
  lift_lets -underBinder
  intro u1
  clear_value u1
  intro u2
  clear_value u2
  intro u3
  have h3 : Within [.log] s u3 := by
    subst u3
    refine (Within.set_log (by decide)).mpr ?_
    exact Within.refl _ _
  clear_value u3
  split
  · refine Within.nextOf ?_ ?_
    · exact WithinOut.mono (execLogWrGo_within _ _) (by decide)
    · assumption
  · assumption

theorem State.writeLog_within (s : State) (path : Path) (i : Nat) (d : Word) :
    Within [.log] s (State.writeLog s path i d) := by
  unfold State.writeLog
  split
  · refine Within.step (State.writeLogCtrl_within _ _ _) (by decide) ?_
    exact Within.refl _ _
  · split
    · refine (Within.set_log (by decide)).mpr ?_
      exact Within.refl _ _
    · exact Within.refl _ _

theorem State.writeRawCtrl_within (s : State) (d : Word) :
    Within [.hostLogs, .mst, .log, .sea, .evt] s (State.writeRawCtrl s d) := by
  unfold State.writeRawCtrl
  lift_lets -underBinder
  intro u1
  clear_value u1
  intro u2
  clear_value u2
  intro u3
  have h3 : Within [.hostLogs, .mst, .log, .sea, .evt] s u3 := by
    subst u3
    refine (Within.set_sea (by decide)).mpr ?_
    exact Within.refl _ _
  clear_value u3
  split
  · assumption
  · split
    · refine Within.step (State.rawGo_within _) (by decide) ?_
      assumption
    · refine Within.step (State.rawRefused_within _) (by decide) ?_
      assumption

theorem State.writeSea_within (s : State) (i : Nat) (d : Word) :
    Within [.hostLogs, .mst, .log, .sea, .evt] s (State.writeSea s i d) := by
  unfold State.writeSea
  split
  · refine (Within.set_sea (by decide)).mpr ?_
    exact Within.refl _ _
  · refine Within.step (State.writeRawCtrl_within _ _) (by decide) ?_
    exact Within.refl _ _
  · lift_lets -underBinder
    intro u1
    clear_value u1
    intro u2
    clear_value u2
    intro u3
    have h3 : Within [.hostLogs, .mst, .log, .sea, .evt] s u3 := by
      subst u3
      refine (Within.set_sea (by decide)).mpr ?_
      exact Within.refl _ _
    clear_value u3
    split
    · refine Within.step (State.counterGo_within _ _ _) (by decide) ?_
      assumption
    · assumption
  · exact Within.refl _ _
  · exact Within.refl _ _
  · exact Within.refl _ _
  · refine (Within.set_sea (by decide)).mpr ?_
    exact Within.refl _ _

theorem State.writeSrc_within (s : State) (d : Word) :
    Within [.evt] s (State.writeSrc s d) := by
  unfold State.writeSrc
  refine Within.step (State.modSrc_within _ _ _) (by decide) ?_
  exact Within.refl _ _

theorem State.writeEvt_within (s : State) (i : Nat) (d : Word) :
    Within [.evt] s (State.writeEvt s i d) := by
  unfold State.writeEvt
  split
  · refine (Within.set_evt (by decide)).mpr ?_
    exact Within.refl _ _
  · refine Within.step (State.writeSrc_within _ _) (by decide) ?_
    exact Within.refl _ _
  · refine (Within.set_evt (by decide)).mpr ?_
    exact Within.refl _ _
  · refine (Within.set_evt (by decide)).mpr ?_
    exact Within.refl _ _
  · exact Within.refl _ _

theorem State.writeMaint_within (s : State) (n : Nat) (d : Word) :
    Within [.cache, .vbf, .stp] s (State.writeMaint s n d) := by
  unfold State.writeMaint
  lift_lets -underBinder
  intro u1
  clear_value u1
  intro u2
  have h2 : Within [.cache, .vbf, .stp] s u2 := by
    subst u2
    refine Within.step (State.modSlice_within _ _ _) (by decide) ?_
    exact Within.refl _ _
  clear_value u2
  split
  · assumption
  · split
    · refine Within.step (State.maintGo_within _ _ _) (by decide) ?_
      assumption
    · refine Within.step (State.modSlice_within _ _ _) (by decide) ?_
      assumption

theorem State.writeCs_within (s : State) (n i : Nat) (d : Word) :
    Within [.cache, .vbf, .stp] s (State.writeCs s n i d) := by
  unfold State.writeCs
  split
  · refine Within.step (State.modSlice_within _ _ _) (by decide) ?_
    exact Within.refl _ _
  · refine Within.step (State.writeMaint_within _ _ _) (by decide) ?_
    exact Within.refl _ _
  · refine Within.step (State.modSlice_within _ _ _) (by decide) ?_
    exact Within.refl _ _
  · refine Within.step (State.modSlice_within _ _ _) (by decide) ?_
    exact Within.refl _ _
  · refine Within.step (State.modSlice_within _ _ _) (by decide) ?_
    exact Within.refl _ _
  · exact Within.refl _ _

theorem State.modUnit_within (s : State) (u : Nat) (f : PmuUnit → PmuUnit) :
    Within [.pmu] s (State.modUnit s u f) := by
  unfold State.modUnit
  refine (Within.set_pmu (by decide)).mpr ?_
  exact Within.refl _ _

theorem State.writeTel_within (s : State) (path : Path) (d : Word) :
    Within [.tel] s (State.writeTel s path d) := by
  unfold State.writeTel
  lift_lets -underBinder
  intro u1
  clear_value u1
  intro u2
  have h2 : Within [.tel] s u2 := by
    subst u2
    refine (Within.set_tel (by decide)).mpr ?_
    exact Within.refl _ _
  clear_value u2
  split
  · refine Within.nextOf ?_ ?_
    · exact WithinOut.mono (execHoldupGo_within _ _) (by decide)
    · assumption
  · assumption

theorem State.writeChanPending_within (s : State) (n : Nat) (d : Word) :
    Within [.evt] s (State.writeChanPending s n d) := by
  unfold State.writeChanPending
  refine Within.foldl (fun u a h => ?_) ?_
  · split
    · refine Within.step (State.modSrc_within _ _ _) (by decide) ?_
      assumption
    · assumption
  · exact Within.refl _ _

theorem State.writeReg_within (s : State) (path : Path) (b : Block) (i : Nat) (d : Word) :
    Within [.draws, .latches, .glb, .level, .port0, .port1, .hostLogs, .bly, .cache, .vbf, .stp, .wlv,
        .media, .mch, .shr, .kce, .mst, .hly, .seq, .reef, .clk, .rst, .tel, .log, .sea, .dty, .evt, .pmu] s
        (State.writeReg s path b i d) := by
  unfold State.writeReg
  split
  · refine Within.step (State.writeGlb_within _ _ _ _) (by decide) ?_
    exact Within.refl _ _
  · refine Within.step (State.settleLevel_within _) (by decide) ?_
    refine Within.step (State.modPort_within _ _ _) (by decide) ?_
    exact Within.refl _ _
  · split
    · refine Within.step (State.writeAdmit_within _ _) (by decide) ?_
      exact Within.refl _ _
    · exact Within.refl _ _
  · exact Within.refl _ _
  · refine (Within.set_stp (by decide)).mpr ?_
    exact Within.refl _ _
  · split
    · refine (Within.set_wlv (by decide)).mpr ?_
      exact Within.refl _ _
    · exact Within.refl _ _
  · refine Within.step (State.writeShr_within _ _ _ _) (by decide) ?_
    exact Within.refl _ _
  · refine Within.step (State.writeKce_within _ _ _ _) (by decide) ?_
    exact Within.refl _ _
  · split
    · refine Within.step (State.writeWdog_within _ _ _) (by decide) ?_
      exact Within.refl _ _
    · exact Within.refl _ _
  · refine Within.step (State.writeHly_within _ _ _ _) (by decide) ?_
    exact Within.refl _ _
  · exact Within.refl _ _
  · refine Within.step (State.writeLog_within _ _ _ _) (by decide) ?_
    exact Within.refl _ _
  · refine Within.step (State.writeSea_within _ _ _) (by decide) ?_
    exact Within.refl _ _
  · refine Within.step (State.writeEvt_within _ _ _) (by decide) ?_
    exact Within.refl _ _
  · refine Within.step (State.writeCs_within _ _ _ _) (by decide) ?_
    exact Within.refl _ _
  · refine Within.step (State.modUnit_within _ _ _) (by decide) ?_
    exact Within.refl _ _
  · exact Within.refl _ _
  · exact Within.refl _ _
  · refine (Within.set_seq (by decide)).mpr ?_
    exact Within.refl _ _
  · refine (Within.set_reef (by decide)).mpr ?_
    exact Within.refl _ _
  · split
    · refine (Within.set_clk (by decide)).mpr ?_
      exact Within.refl _ _
    · exact Within.refl _ _
  · split
    · refine Within.step (State.writeTel_within _ _ _) (by decide) ?_
      exact Within.refl _ _
    · exact Within.refl _ _
  · refine (Within.set_dty (by decide)).mpr ?_
    exact Within.refl _ _
  · split
    · refine Within.step (State.writeChanPending_within _ _ _) (by decide) ?_
      exact Within.refl _ _
    · refine Within.step (State.modCh_within _ _ _) (by decide) ?_
      exact Within.refl _ _

theorem State.writePayload_within (s : State) (m off : Nat) (d : Word) :
    Within [.hly] s (State.writePayload s m off d) := by
  unfold State.writePayload
  refine Within.step (State.modMb_within _ _ _) (by decide) ?_
  exact Within.refl _ _

theorem State.answerAccess_within (s : State) (v : BitVec 64) (err : Bool) :
    Within [.access] s (State.answerAccess s v err) := by
  unfold State.answerAccess
  refine (Within.set_access (by decide)).mpr ?_
  exact Within.refl _ _

theorem State.refuseAccess_within (s : State) (path : Path) :
    Within [.access] s (State.refuseAccess s path) := by
  unfold State.refuseAccess
  refine Within.step (State.answerAccess_within _ _ _) (by decide) ?_
  exact Within.refl _ _

theorem State.latchRead_within (s : State) (path : Path) (b : Block) (i : Nat) :
    Within [.latches] s (State.latchRead s path b i) := by
  unfold State.latchRead
  split
  · refine Within.step (State.modLatch_within _ _ _) (by decide) ?_
    exact Within.refl _ _
  · split
    · refine Within.step (State.modLatch_within _ _ _) (by decide) ?_
      exact Within.refl _ _
    · exact Within.refl _ _

theorem State.popFifo_within (s : State) :
    Within [.evt] s (State.popFifo s) := by
  unfold State.popFifo
  refine (Within.set_evt (by decide)).mpr ?_
  exact Within.refl _ _

theorem State.sideRead_within (s : State) (b : Block) (i : Nat) :
    Within [.mch, .evt] s (State.sideRead s b i) := by
  unfold State.sideRead
  split
  · refine Within.step (State.popFifo_within _) (by decide) ?_
    exact Within.refl _ _
  · refine Within.step (State.modCh_within _ _ _) (by decide) ?_
    exact Within.refl _ _
  · exact Within.refl _ _

theorem State.readOne_within (s : State) (path : Path) (b : Block) (i : Nat) :
    Within [.access, .latches, .mch, .evt] s (State.readOne s path b i) := by
  unfold State.readOne
  lift_lets -underBinder
  intro u1
  clear_value u1
  refine Within.step (State.answerAccess_within _ _ _) (by decide) ?_
  refine Within.step (State.sideRead_within _ _ _) (by decide) ?_
  refine Within.step (State.latchRead_within _ _ _ _) (by decide) ?_
  exact Within.refl _ _

theorem execMstFifoRead_within (path : Path) (s : State) :
    WithinOut [.access, .latches, .mch, .clk, .evt] s (execMstFifoRead path s) := by
  unfold execMstFifoRead
  refine WithinOut.next ?_
  unfold State.onReg
  split
  · exact Within.refl _ _
  · split
    · refine Within.step (State.refuseAccess_within _ _) (by decide) ?_
      exact Within.refl _ _
    · beta_reduce
      refine Within.step (State.readOne_within _ _ _ _) (by decide) ?_
      refine Within.step (State.answerAccess_within _ _ _) (by decide) ?_
      refine Within.step (State.wakeBlock_within _ _) (by decide) ?_
      exact Within.refl _ _

theorem execAddrTabHiRead_within (path : Path) (ch : Chan) (s : State) :
    WithinOut [.access, .latches, .mch, .clk, .evt] s (execAddrTabHiRead path ch s) := by
  unfold execAddrTabHiRead
  refine WithinOut.next ?_
  unfold State.onReg
  split
  · exact Within.refl _ _
  · split
    · refine Within.step (State.refuseAccess_within _ _) (by decide) ?_
      exact Within.refl _ _
    · beta_reduce
      refine Within.step (State.readOne_within _ _ _ _) (by decide) ?_
      refine Within.step (State.answerAccess_within _ _ _) (by decide) ?_
      refine Within.step (State.wakeBlock_within _ _) (by decide) ?_
      exact Within.refl _ _

theorem State.readPlace_within (s : State) (path : Path) (addr : Nat) :
    Within [.access] s (State.readPlace s path addr) := by
  unfold State.readPlace
  split
  · exact Within.refl _ _
  · refine Within.step (State.answerAccess_within _ _ _) (by decide) ?_
    exact Within.refl _ _
  · refine Within.step (State.answerAccess_within _ _ _) (by decide) ?_
    exact Within.refl _ _
  · split
    · refine Within.step (State.answerAccess_within _ _ _) (by decide) ?_
      exact Within.refl _ _
    · refine Within.step (State.refuseAccess_within _ _) (by decide) ?_
      exact Within.refl _ _
  · refine Within.step (State.answerAccess_within _ _ _) (by decide) ?_
    exact Within.refl _ _

theorem execLowWordRead_within (path : Path) (addr : Word) (s : State) :
    WithinOut [.access, .latches, .mch, .clk, .evt] s (execLowWordRead path addr s) := by
  unfold execLowWordRead
  refine WithinOut.next ?_
  split
  · exact Within.refl _ _
  · split
    · refine Within.step (State.refuseAccess_within _ _) (by decide) ?_
      exact Within.refl _ _
    · split
      · unfold State.onReg
        split
        · exact Within.refl _ _
        · split
          · refine Within.step (State.refuseAccess_within _ _) (by decide) ?_
            exact Within.refl _ _
          · beta_reduce
            refine Within.step (State.readOne_within _ _ _ _) (by decide) ?_
            refine Within.step (State.answerAccess_within _ _ _) (by decide) ?_
            refine Within.step (State.wakeBlock_within _ _) (by decide) ?_
            exact Within.refl _ _
      · refine Within.step (State.readPlace_within _ _ _) (by decide) ?_
        exact Within.refl _ _

theorem State.writePlace_within (s : State) (path : Path) (addr : Nat) (d : Word) :
    WithinOut [.access, .hly, .dty] s (State.writePlace s path addr d) := by
  unfold State.writePlace
  split
  · refine WithinOut.next ?_
    exact Within.refl _ _
  · split
    · exact WithinOut.refused _ _ _
    · refine WithinOut.next ?_
      refine Within.step (State.answerAccess_within _ _ _) (by decide) ?_
      exact Within.refl _ _
  · refine WithinOut.next ?_
    refine Within.step (State.answerAccess_within _ _ _) (by decide) ?_
    refine (Within.set_dty (by decide)).mpr ?_
    exact Within.refl _ _
  · refine WithinOut.next ?_
    split
    · refine Within.step (State.answerAccess_within _ _ _) (by decide) ?_
      refine Within.step (State.writePayload_within _ _ _ _) (by decide) ?_
      exact Within.refl _ _
    · refine Within.step (State.refuseAccess_within _ _) (by decide) ?_
      exact Within.refl _ _
  · refine WithinOut.next ?_
    refine Within.step (State.answerAccess_within _ _ _) (by decide) ?_
    exact Within.refl _ _

theorem execRegisterWrite_within (path : Path) (addr data : Word) (s : State) :
    WithinOut [.draws, .access, .latches, .glb, .level, .port0, .port1, .hostLogs, .bly, .cache, .vbf, .stp,
        .wlv, .media, .mch, .shr, .kce, .mst, .hly, .seq, .reef, .clk, .rst, .tel, .log, .sea, .dty, .evt,
        .pmu] s (execRegisterWrite path addr data s) := by
  unfold execRegisterWrite
  split
  · refine WithinOut.next ?_
    exact Within.refl _ _
  · split
    · refine WithinOut.next ?_
      refine Within.step (State.refuseAccess_within _ _) (by decide) ?_
      exact Within.refl _ _
    · split
      · refine WithinOut.next ?_
        unfold State.onReg
        split
        · exact Within.refl _ _
        · split
          · refine Within.step (State.refuseAccess_within _ _) (by decide) ?_
            exact Within.refl _ _
          · beta_reduce
            refine Within.step (State.writeReg_within _ _ _ _ _) (by decide) ?_
            refine Within.step (State.answerAccess_within _ _ _) (by decide) ?_
            refine Within.step (State.wakeBlock_within _ _) (by decide) ?_
            exact Within.refl _ _
      · exact WithinOut.mono (State.writePlace_within _ _ _ _) (by decide)

theorem execTimeHiWrite_within (path : Path) (data : Word) (s : State) :
    WithinOut [.access, .latches, .glb, .level, .clk] s (execTimeHiWrite path data s) := by
  unfold execTimeHiWrite
  refine WithinOut.next ?_
  unfold State.onReg
  split
  · exact Within.refl _ _
  · split
    · refine Within.step (State.refuseAccess_within _ _) (by decide) ?_
      exact Within.refl _ _
    · beta_reduce
      refine Within.step (State.writeTimeHi_within _ _ _) (by decide) ?_
      refine Within.step (State.answerAccess_within _ _ _) (by decide) ?_
      refine Within.step (State.wakeBlock_within _ _) (by decide) ?_
      exact Within.refl _ _

theorem execLockSet_within (path : Path) (addr data : Word) (s : State) :
    WithinOut [.draws, .access, .latches, .glb, .level, .port0, .port1, .hostLogs, .bly, .cache, .vbf, .stp,
        .wlv, .media, .mch, .shr, .kce, .mst, .hly, .seq, .reef, .clk, .rst, .tel, .log, .sea, .dty, .evt,
        .pmu] s (execLockSet path addr data s) := by
  unfold execLockSet
  refine WithinOut.next ?_
  split
  · split
    · split
      · unfold State.onReg
        split
        · exact Within.refl _ _
        · split
          · refine Within.step (State.refuseAccess_within _ _) (by decide) ?_
            exact Within.refl _ _
          · beta_reduce
            refine Within.step (State.writeReg_within _ _ _ _ _) (by decide) ?_
            refine Within.step (State.answerAccess_within _ _ _) (by decide) ?_
            refine Within.step (State.wakeBlock_within _ _) (by decide) ?_
            exact Within.refl _ _
      · exact Within.refl _ _
    · exact Within.refl _ _
  · exact Within.refl _ _

theorem execAddrTabClear_within (path : Path) (ch : Chan) (s : State) :
    WithinOut [.access, .mch, .clk] s (execAddrTabClear path ch s) := by
  unfold execAddrTabClear
  refine WithinOut.next ?_
  unfold State.onReg
  split
  · exact Within.refl _ _
  · split
    · refine Within.step (State.refuseAccess_within _ _) (by decide) ?_
      exact Within.refl _ _
    · beta_reduce
      refine Within.step (State.modCh_within _ _ _) (by decide) ?_
      refine Within.step (State.answerAccess_within _ _ _) (by decide) ?_
      refine Within.step (State.wakeBlock_within _ _) (by decide) ?_
      exact Within.refl _ _

theorem execPmuFreeze_within (path : Path) (u : Fin 4) (s : State) :
    WithinOut [.access, .clk, .pmu] s (execPmuFreeze path u s) := by
  unfold execPmuFreeze
  refine WithinOut.next ?_
  unfold State.onReg
  split
  · exact Within.refl _ _
  · split
    · refine Within.step (State.refuseAccess_within _ _) (by decide) ?_
      exact Within.refl _ _
    · beta_reduce
      refine Within.step (State.modUnit_within _ _ _) (by decide) ?_
      refine Within.step (State.answerAccess_within _ _ _) (by decide) ?_
      refine Within.step (State.wakeBlock_within _ _) (by decide) ?_
      exact Within.refl _ _

theorem execPmuClear_within (path : Path) (u : Fin 4) (s : State) :
    WithinOut [.access, .clk, .pmu] s (execPmuClear path u s) := by
  unfold execPmuClear
  refine WithinOut.next ?_
  unfold State.onReg
  split
  · exact Within.refl _ _
  · split
    · refine Within.step (State.refuseAccess_within _ _) (by decide) ?_
      exact Within.refl _ _
    · beta_reduce
      refine Within.step (State.modUnit_within _ _ _) (by decide) ?_
      refine Within.step (State.answerAccess_within _ _ _) (by decide) ?_
      refine Within.step (State.wakeBlock_within _ _) (by decide) ?_
      exact Within.refl _ _

theorem State.hostWord_within (s : State) (p : Port) (off : Nat) :
    Within [.access, .latches, .mch, .clk, .evt] s (State.hostWord s p off) := by
  unfold State.hostWord
  split
  · refine Within.step (State.readOne_within _ _ _ _) (by decide) ?_
    refine Within.step (State.wakeBlock_within _ _) (by decide) ?_
    exact Within.refl _ _
  · refine Within.step (State.answerAccess_within _ _ _) (by decide) ?_
    exact Within.refl _ _

theorem State.hostPair_within (s : State) (p : Port) (off : Nat) :
    Within [.access, .latches, .mch, .clk, .evt] s (State.hostPair s p off) := by
  unfold State.hostPair
  lift_lets -underBinder
  intro u1
  have h1 : Within [.access, .latches, .mch, .clk, .evt] s u1 := by
    subst u1
    refine Within.step (State.hostWord_within _ _ _) (by decide) ?_
    exact Within.refl _ _
  clear_value u1
  intro u2
  clear_value u2
  intro u3
  have h3 : Within [.access, .latches, .mch, .clk, .evt] s u3 := by
    subst u3
    refine Within.step (State.hostWord_within _ _ _) (by decide) ?_
    assumption
  clear_value u3
  refine Within.step (State.answerAccess_within _ _ _) (by decide) ?_
  assumption

theorem execHostWindowRead_within (p : Port) (offset : BitVec 20) (size : Nat) (s : State) :
    WithinOut [.draws, .access, .latches, .mch, .clk, .evt] s (execHostWindowRead p offset size s) := by
  unfold execHostWindowRead
  lift_lets -underBinder
  intro u1
  clear_value u1
  refine WithinOut.next ?_
  split
  · exact Within.refl _ _
  · split
    · refine Within.step (State.drawn_within _) (by decide) ?_
      refine Within.step (State.answerAccess_within _ _ _) (by decide) ?_
      exact Within.refl _ _
    · split
      · refine Within.step (State.answerAccess_within _ _ _) (by decide) ?_
        exact Within.refl _ _
      · split
        · refine Within.step (State.hostWord_within _ _ _) (by decide) ?_
          exact Within.refl _ _
        · refine Within.step (State.hostPair_within _ _ _) (by decide) ?_
          exact Within.refl _ _

theorem State.fireAny_within (s : State) (i : Nat) (v : Severity) (d : Detail) :
    Within [.hostLogs, .log, .evt] s (State.fireAny s i v d) := by
  unfold State.fireAny
  split
  · refine Within.step (State.fireOutcome_within _ _ _ _ _ _ _) (by decide) ?_
    exact Within.refl _ _
  · split
    · refine Within.step (State.routeFiring_within _ _ _ _) (by decide) ?_
      refine Within.step (State.markFired_within _ _ _) (by decide) ?_
      exact Within.refl _ _
    · split
      · refine Within.step (State.firePath_within _ _ _ _ _) (by decide) ?_
        exact Within.refl _ _
      · split
        · refine Within.step (State.firePath_within _ _ _ _ _) (by decide) ?_
          exact Within.refl _ _
        · refine Within.step (State.fire_within _ _ _ _) (by decide) ?_
          exact Within.refl _ _

theorem execEventFire_within (source : Nat) (severity : Fin 4) (detail : Detail) (s : State) :
    WithinOut [.hostLogs, .log, .evt] s (execEventFire source severity detail s) := by
  unfold execEventFire
  lift_lets -underBinder
  intro u1
  clear_value u1
  split
  · exact WithinOut.fault _ _ _
  · refine WithinOut.next ?_
    split
    · refine Within.step (State.fireAny_within _ _ _ _) (by decide) ?_
      exact Within.refl _ _
    · exact Within.refl _ _

theorem execEventCoalesceFlush_within (source : Nat) (s : State) :
    WithinOut [.log, .evt] s (execEventCoalesceFlush source s) := by
  unfold execEventCoalesceFlush
  split
  · exact WithinOut.fault _ _ _
  · lift_lets -underBinder
    intro u1
    clear_value u1
    refine WithinOut.next ?_
    refine Within.foldl (fun u a h => ?_) ?_
    · refine Within.step (State.flushKey_within _ _) (by decide) ?_
      assumption
    · exact Within.refl _ _

theorem execBucketLeak_within (cls : Fin 6) (unit : Nat) (s : State) :
    WithinOut [.evt] s (execBucketLeak cls unit s) := by
  unfold execBucketLeak
  split
  · exact WithinOut.fault _ _ _
  · refine WithinOut.next ?_
    refine (Within.set_evt (by decide)).mpr ?_
    exact Within.refl _ _

theorem execAlertHoldExpiry_within (s : State) :
    WithinOut [.evt] s (execAlertHoldExpiry s) := by
  unfold execAlertHoldExpiry
  refine WithinOut.next ?_
  refine Within.step (State.settleAlert_within _) (by decide) ?_
  exact Within.refl _ _

theorem execControllerTemperatureWarning_within (sensor : Fin 16) (tempC : Nat) (s : State) :
    WithinOut [.hostLogs, .seq, .log, .evt] s (execControllerTemperatureWarning sensor tempC s) := by
  unfold execControllerTemperatureWarning
  refine WithinOut.next ?_
  split
  · exact Within.refl _ _
  · refine Within.step (State.fire_within _ _ _ _) (by decide) ?_
    refine (Within.set_seq (by decide)).mpr ?_
    exact Within.refl _ _

theorem execHbmStackTemperature_within (stack : Stack) (tempC : Nat) (s : State) :
    WithinOut [.hostLogs, .cache, .log, .evt] s (execHbmStackTemperature stack tempC s) := by
  unfold execHbmStackTemperature
  lift_lets -underBinder
  intro u1
  clear_value u1
  intro u2
  clear_value u2
  refine WithinOut.next ?_
  split
  · exact Within.refl _ _
  · refine Within.step (State.fire_within _ _ _ _) (by decide) ?_
    refine (Within.set_cache (by decide)).mpr ?_
    exact Within.refl _ _

theorem State.unitInterrupts_within (s : State) (u : Nat) (cycles : List Nat) :
    Within [.hostLogs, .log, .evt] s (State.unitInterrupts s u cycles) := by
  unfold State.unitInterrupts
  split
  · exact Within.refl _ _
  · lift_lets -underBinder
    intro u1
    have h1 : Within [.hostLogs, .log, .evt] s u1 := by
      subst u1
      refine Within.foldl (fun u a h => ?_) ?_
      · refine Within.step (State.fire_within _ _ _ _) (by decide) ?_
        assumption
      · exact Within.refl _ _
    clear_value u1
    intro u2
    subst u2
    beta_reduce
    split
    · refine Within.step (State.sendMsix_within _ _ _) (by decide) ?_
      split
      · refine Within.step (State.sendMsix_within _ _ _) (by decide) ?_
        assumption
      · assumption
    · split
      · refine Within.step (State.sendMsix_within _ _ _) (by decide) ?_
        assumption
      · assumption

theorem State.runUnits_within (s : State) (n : Nat) :
    Within [.hostLogs, .log, .evt, .pmu] s (State.runUnits s n) := by
  unfold State.runUnits
  lift_lets -underBinder
  intro u1
  have h1 : Within [.hostLogs, .log, .evt, .pmu] s u1 := by
    subst u1
    refine Within.foldl (fun u a h => ?_) ?_
    · lift_lets -underBinder
      intro u2
      clear_value u2
      refine Within.step (State.unitInterrupts_within _ _ _) (by decide) ?_
      refine Within.step (State.modUnit_within _ _ _) (by decide) ?_
      assumption
    · exact Within.refl _ _
  clear_value u1
  intro u3
  clear_value u3
  refine (Within.set_pmu (by decide)).mpr ?_
  assumption

theorem State.sampleInput_within (s : State) :
    Within [.draws, .seq, .tel] s (State.sampleInput s) := by
  unfold State.sampleInput
  lift_lets -underBinder
  intro u1
  clear_value u1
  intro u2
  clear_value u2
  intro u3
  clear_value u3
  intro u4
  have h4 : Within [.draws, .seq, .tel] s u4 := by
    subst u4
    refine Within.step (State.drawn_within _) (by decide) ?_
    refine (Within.set_seq (by decide)).mpr ?_
    exact Within.refl _ _
  clear_value u4
  intro u5
  clear_value u5
  refine (Within.set_tel (by decide)).mpr ?_
  assumption

theorem execPmuCycleCount_within (cycles : Nat) (s : State) :
    WithinOut [.clock, .draws, .glb, .level, .hostLogs, .seq, .tel, .log, .evt, .pmu] s (execPmuCycleCount
        cycles s) := by
  unfold execPmuCycleCount
  refine WithinOut.next ?_
  split
  · exact Within.refl _ _
  · lift_lets -underBinder
    intro u1
    clear_value u1
    intro u2
    have h2 : Within [.clock, .draws, .glb, .level, .hostLogs, .seq, .tel, .log, .evt, .pmu] s u2 := by
      subst u2
      split
      · refine Within.step (State.runUnits_within _ _) (by decide) ?_
        exact Within.refl _ _
      · exact Within.refl _ _
    clear_value u2
    intro u3
    clear_value u3
    intro u4
    have h4 : Within [.clock, .draws, .glb, .level, .hostLogs, .seq, .tel, .log, .evt, .pmu] s u4 := by
      subst u4
      refine (Within.set_clock_glb (by decide) (by decide) (by decide)).mpr ?_
      assumption
    clear_value u4
    split
    · assumption
    · refine Within.step (State.sampleInput_within _) (by decide) ?_
      assumption

end Sys2Proof.Machine
end

