-- ==== Sys2Proof/Laws/PerInstr.lean ====
section
/-! SUPPORT. The families of statements made command by command. -/

/-- No command counts the queue of waiting commands among the parts it changes. -/
def Sys2Proof.Laws.QueueFootprint.Statement (i : Sys2Proof.Instr) : Prop :=
  Sys2Proof.Machine.Part.pending ∉ Sys2Proof.Machine.footprint i

namespace Sys2Proof.Laws.QueueFootprint

open Sys2Proof Sys2Proof.Machine

theorem absent {i : Instr} (h : (footprint i).contains .pending = false) : Statement i := by
  simpa [Statement] using h

theorem memRd (p : Port) (op : RdOp) (hpa : BitVec 52) (err : CacheErr) :
    Statement (.memRd p op hpa err) := absent rfl

theorem memInv (p : Port) (nt : Bool) (hpa : BitVec 52) : Statement (.memInv p nt hpa) := absent rfl

theorem memSpecRd (p : Port) (hpa : BitVec 52) : Statement (.memSpecRd p hpa) := absent rfl

theorem memWr (p : Port) (hpa : BitVec 52) (data : Line) (poison : Bool) :
    Statement (.memWr p hpa data poison) := absent rfl

theorem memWrPtl (p : Port) (hpa : BitVec 52) (data : Line) (enables : Mask) (poison : Bool) :
    Statement (.memWrPtl p hpa data enables poison) := absent rfl

theorem unsupportedRequest (p : Port) (rwd : Bool) (header : BitVec 128) :
    Statement (.unsupportedRequest p rwd header) := absent rfl

theorem responseSend (p : Port) (sel : RespSel) (ndrReturned drsReturned : Nat) :
    Statement (.responseSend p sel ndrReturned drsReturned) := absent rfl

theorem viral (p : Port) : Statement (.viral p) := absent rfl

theorem hdmDecoderCommit (p : Port) (d : Fin 4) (cfg : HdmConfig) :
    Statement (.hdmDecoderCommit p d cfg) := absent rfl

theorem devloadUpdate (p : Port) : Statement (.devloadUpdate p) := absent rfl

theorem portFail (p : Port) (how : PortDown) : Statement (.portFail p how) := absent rfl

theorem pathRestored (p : Port) : Statement (.pathRestored p) := absent rfl

theorem perstAssert (p : Port) : Statement (.perstAssert p) := absent rfl

theorem hotReset (p : Port) : Statement (.hotReset p) := absent rfl

theorem cxlReset (p : Port) : Statement (.cxlReset p) := absent rfl

theorem functionLevelReset (p : Port) : Statement (.functionLevelReset p) := absent rfl

theorem linkTrainingStart (p : Port) (eqFails : Nat) (lanes : LinkWidth) :
    Statement (.linkTrainingStart p eqFails lanes) := absent rfl

theorem recoveryEntry (p : Port) : Statement (.recoveryEntry p) := absent rfl

theorem laneMarginScan (p : Port) (timingStep voltageMv : Nat) :
    Statement (.laneMarginScan p timingStep voltageMv) := absent rfl

theorem hostMarginCommand (p : Port) (lane : Fin 16) (done : Bool) :
    Statement (.hostMarginCommand p lane done) := absent rfl

theorem flitCrcFail (p : Port) : Statement (.flitCrcFail p) := absent rfl

theorem l0pNarrow (p : Port) (usePercent : Nat) : Statement (.l0pNarrow p usePercent) := absent rfl

theorem aspmL1Request (p : Port) : Statement (.aspmL1Request p) := absent rfl

theorem hostL1Entry (p : Port) (what : HostPm) : Statement (.hostL1Entry p what) := absent rfl

theorem l1Exit (p : Port) : Statement (.l1Exit p) := absent rfl

theorem gpfPhase1 (p : Port) : Statement (.gpfPhase1 p) := absent rfl

theorem gpfPhase2 (p : Port) : Statement (.gpfPhase2 p) := absent rfl

theorem admitWindowExpiry (p : Port) : Statement (.admitWindowExpiry p) := absent rfl

theorem belayBankFence (b : Fin 8) : Statement (.belayBankFence b) := absent rfl

theorem belayReissue : Statement .belayReissue := absent rfl

theorem parityEngineFail (e : Fin 2) : Statement (.parityEngineFail e) := absent rfl

theorem evictionCancel (idx : Nat) : Statement (.evictionCancel idx) := absent rfl

theorem hbmPatrolStep (n : Slice) (err : CacheErr) (corrected : Nat) :
    Statement (.hbmPatrolStep n err corrected) := absent rfl

theorem pseudoChannelFail (stack : Stack) (pc : Fin 32) : Statement (.pseudoChannelFail stack pc) := absent rfl

theorem hbmStackFail (stack : Stack) : Statement (.hbmStackFail stack) := absent rfl

theorem vbfBankFence (b : Fin 8) : Statement (.vbfBankFence b) := absent rfl

theorem vbfRebuildComplete (b : Fin 8) : Statement (.vbfRebuildComplete b) := absent rfl

theorem maintClean (n : Slice) : Statement (.maintClean n) := absent rfl

theorem maintFlush (n : Slice) : Statement (.maintFlush n) := absent rfl

theorem maintDrop (n : Slice) : Statement (.maintDrop n) := absent rfl

theorem maintPreload (n : Slice) : Statement (.maintPreload n) := absent rfl

theorem maintDone (n : Slice) : Statement (.maintDone n) := absent rfl

theorem sliceFail (n : Slice) : Statement (.sliceFail n) := absent rfl

theorem handoverCutover (out inc : Slice) : Statement (.handoverCutover out inc) := absent rfl

theorem handoverEnd : Statement .handoverEnd := absent rfl

theorem handoverAbandon : Statement .handoverAbandon := absent rfl

theorem reservationGrant (p : Port) : Statement (.reservationGrant p) := absent rfl

theorem dirtyBudgetReplan : Statement .dirtyBudgetReplan := absent rfl

theorem writeBackStart (lsn : BitVec 40) : Statement (.writeBackStart lsn) := absent rfl

theorem stripeGatherTimeout (idx : Nat) : Statement (.stripeGatherTimeout idx) := absent rfl

theorem mergeReadComplete (idx : Nat) (ok : Bool) : Statement (.mergeReadComplete idx ok) := absent rfl

theorem setConfirmed (id : Nat) : Statement (.setConfirmed id) := absent rfl

theorem dumpComplete : Statement .dumpComplete := absent rfl

theorem replayStart (bad : List Nat) : Statement (.replayStart bad) := absent rfl

theorem replayComplete : Statement .replayComplete := absent rfl

theorem gapMoveStart (region : BitVec 16) : Statement (.gapMoveStart region) := absent rfl

theorem gapMoveProgramsConfirmed (region : BitVec 16) : Statement (.gapMoveProgramsConfirmed region) := absent rfl

theorem gapSwitch (region : BitVec 16) : Statement (.gapSwitch region) := absent rfl

theorem leafSectorFlush (k : Slot) (die : Fin 32) (sector : Nat) :
    Statement (.leafSectorFlush k die sector) := absent rfl

theorem wearTreeLoad : Statement .wearTreeLoad := absent rfl

theorem wearTreeRepair (k : Slot) (die : Fin 32) (swath : Nat) (loss : WearLoss) :
    Statement (.wearTreeRepair k die swath loss) := absent rfl

theorem swathRetire (k : Slot) (die : Fin 32) (swath : Nat) (why : RetireWhy) :
    Statement (.swathRetire k die swath why) := absent rfl

theorem frozenSwathDaily (k : Slot) (die : Fin 32) (swath : Nat) :
    Statement (.frozenSwathDaily k die swath) := absent rfl

theorem migrationRowConfirmed (k : Slot) (die : Fin 32) (swath : Nat) :
    Statement (.migrationRowConfirmed k die swath) := absent rfl

theorem dieRetire (ch : Chan) (die : Die) : Statement (.dieRetire ch die) := absent rfl

theorem mediaReadIssue (id : Nat) : Statement (.mediaReadIssue id) := absent rfl

theorem programResume (ch : Chan) (die : Die) : Statement (.programResume ch die) := absent rfl

theorem programStart (ch : Chan) (die : Die) : Statement (.programStart ch die) := absent rfl

theorem driftClockTick (ch : Chan) (die : Die) (tempC : Int) :
    Statement (.driftClockTick ch die tempC) := absent rfl

theorem offsetTableReload (ch : Chan) (die : Die) : Statement (.offsetTableReload ch die) := absent rfl

theorem driftClockRestore (ch : Chan) (die : Die) (stamp : BitVec 40) (age : BitVec 40) :
    Statement (.driftClockRestore ch die stamp age) := absent rfl

theorem dualReadCompare (id : Nat) (differ : Bool) : Statement (.dualReadCompare id differ) := absent rfl

theorem prefetchDropTimeout (id : Nat) : Statement (.prefetchDropTimeout id) := absent rfl

theorem prefetchDecode (id : Nat) (r : Sense) : Statement (.prefetchDecode id r) := absent rfl

theorem refreshVisit (ch : Chan) (die : Die) (r : Sense) : Statement (.refreshVisit ch die r) := absent rfl

theorem sectorDecode (id : Nat) (k : Slot) (r : Sense) : Statement (.sectorDecode id k r) := absent rfl

theorem tier2Reconstruct (id : Nat) : Statement (.tier2Reconstruct id) := absent rfl

theorem tier3Start : Statement .tier3Start := absent rfl

theorem tier3Outcome (lsn : BitVec 40) (recovered : Bool) : Statement (.tier3Outcome lsn recovered) := absent rfl

theorem poisonListCopy : Statement .poisonListCopy := absent rfl

theorem poisonReconcile (lsn : BitVec 40) : Statement (.poisonReconcile lsn) := absent rfl

theorem scrubRowCheck (sp sq : BitVec 2112) : Statement (.scrubRowCheck sp sq) := absent rfl

theorem ack (ch : Chan) (r : Resp) : Statement (.ack ch r) := absent rfl

theorem nack (ch : Chan) (r : Resp) : Statement (.nack ch r) := absent rfl

theorem ready (ch : Chan) (r : Resp) : Statement (.ready ch r) := absent rfl

theorem readBurst (ch : Chan) (tag : Fin 64) (crcOk : Bool) : Statement (.readBurst ch tag crcOk) := absent rfl

theorem done (ch : Chan) (r : Resp) : Statement (.done ch r) := absent rfl

theorem fail (ch : Chan) (r : Resp) : Statement (.fail ch r) := absent rfl

theorem suspended (ch : Chan) (r : Resp) : Statement (.suspended ch r) := absent rfl

theorem state (ch : Chan) (r : Resp) (report : DieReport) : Statement (.state ch r report) := absent rfl

theorem ackTimeout (ch : Chan) (die : Die) : Statement (.ackTimeout ch die) := absent rfl

theorem readBurstTimeout (ch : Chan) (tag : Fin 64) : Statement (.readBurstTimeout ch tag) := absent rfl

theorem suspendTimeout (ch : Chan) (die : Die) : Statement (.suspendTimeout ch die) := absent rfl

theorem programTimeout (ch : Chan) (die : Die) : Statement (.programTimeout ch die) := absent rfl

theorem channelTraining (ch : Chan) (ok : Bool) : Statement (.channelTraining ch ok) := absent rfl

theorem quickRetrain (ch : Chan) (why : RetrainWhy) (closingOk : Bool) :
    Statement (.quickRetrain ch why closingOk) := absent rfl

theorem recentring (ch : Chan) (eyeMv : Nat) (inRange : Bool) :
    Statement (.recentring ch eyeMv inRange) := absent rfl

theorem moduleAlert (k : Slot) (cause : Fin 8) : Statement (.moduleAlert k cause) := absent rfl

theorem moduleProgramsEnded (k : Slot) : Statement (.moduleProgramsEnded k) := absent rfl

theorem moduleFailure (k : Slot) : Statement (.moduleFailure k) := absent rfl

theorem moduleRemoval (k : Slot) : Statement (.moduleRemoval k) := absent rfl

theorem moduleInsert (k : Slot) (ident : Identity) : Statement (.moduleInsert k ident) := absent rfl

theorem moduleAutoAdmit (k : Slot) : Statement (.moduleAutoAdmit k) := absent rfl

theorem rebuildStart (k : Slot) : Statement (.rebuildStart k) := absent rfl

theorem rebuildBatchConfirmed : Statement .rebuildBatchConfirmed := absent rfl

theorem shroudEngineFence (e : Fin 20) : Statement (.shroudEngineFence e) := absent rfl

theorem shrKeyLoad (path : Path) : Statement (.shrKeyLoad path) := absent rfl

theorem shrKeyZeroize (path : Path) : Statement (.shrKeyZeroize path) := absent rfl

theorem shrKeyErase (path : Path) : Statement (.shrKeyErase path) := absent rfl

theorem shrRekeyGo (path : Path) : Statement (.shrRekeyGo path) := absent rfl

theorem shrRekeyAbort (path : Path) : Statement (.shrRekeyAbort path) := absent rfl

theorem rekeyClaimRow : Statement .rekeyClaimRow := absent rfl

theorem rekeyEnd : Statement .rekeyEnd := absent rfl

theorem rekeyCut : Statement .rekeyCut := absent rfl

theorem kceKeyLoad (path : Path) : Statement (.kceKeyLoad path) := absent rfl

theorem kceKeyZeroize (path : Path) : Statement (.kceKeyZeroize path) := absent rfl

theorem lockRequest (codes : List (Fin 8)) : Statement (.lockRequest codes) := absent rfl

theorem lockRelease (code : Fin 8) : Statement (.lockRelease code) := absent rfl

theorem lockRevoke : Statement .lockRevoke := absent rfl

theorem msgStart (path : Path) : Statement (.msgStart path) := absent rfl

theorem dataInWrite (path : Path) (data : Word) : Statement (.dataInWrite path data) := absent rfl

theorem msgFinish (path : Path) : Statement (.msgFinish path) := absent rfl

theorem drbgReseed (coreG : Bool) (ok : Bool) : Statement (.drbgReseed coreG ok) := absent rfl

theorem entropyStallTimeout : Statement .entropyStallTimeout := absent rfl

theorem kceSelfTest (coreG : Bool) (pass : Bool) : Statement (.kceSelfTest coreG pass) := absent rfl

theorem sealDrainDone (stored : Bool) : Statement (.sealDrainDone stored) := absent rfl

theorem sealLineFeed : Statement .sealLineFeed := absent rfl

theorem sealRegistryConfirmed (stored : Bool) : Statement (.sealRegistryConfirmed stored) := absent rfl

theorem verifyLineFeed : Statement .verifyLineFeed := absent rfl

theorem verifyRetire : Statement .verifyRetire := absent rfl

theorem debugEntry (stored : Bool) : Statement (.debugEntry stored) := absent rfl

theorem debugExit : Statement .debugExit := absent rfl

theorem lockstepMismatch : Statement .lockstepMismatch := absent rfl

theorem configChosen (leadPasses checkerPasses : Bool) :
    Statement (.configChosen leadPasses checkerPasses) := absent rfl

theorem takeoverResume (checkpointsValid : BitVec 2) : Statement (.takeoverResume checkpointsValid) := absent rfl

theorem taskCheckpoint : Statement .taskCheckpoint := absent rfl

theorem spareSelfTest (pass : Bool) : Statement (.spareSelfTest pass) := absent rfl

theorem wdogKick (path : Path) : Statement (.wdogKick path) := absent rfl

theorem wdogExpiry : Statement .wdogExpiry := absent rfl

theorem coreReset (src : CoreSource) : Statement (.coreReset src) := absent rfl

theorem activationTimeout : Statement .activationTimeout := absent rfl

theorem mailboxDoorbell (m : Mbox) (opcode : BitVec 16) (payload : List Byte) :
    Statement (.mailboxDoorbell m opcode payload) := absent rfl

theorem mbDoneGo (path : Path) (m : Mbox) : Statement (.mbDoneGo path m) := absent rfl

theorem hlyRetireRequest (m : Mbox) : Statement (.hlyRetireRequest m) := absent rfl

theorem hlyAbortRequest (m : Mbox) : Statement (.hlyAbortRequest m) := absent rfl

theorem sidebandRequest (opcode : BitVec 16) (payload : List Byte) :
    Statement (.sidebandRequest opcode payload) := absent rfl

theorem sidebandReassemblyTimeout : Statement .sidebandReassemblyTimeout := absent rfl

theorem setEndpointId (eid : Byte) : Statement (.setEndpointId eid) := absent rfl

theorem getEndpointId : Statement .getEndpointId := absent rfl

theorem getMctpVersionSupport (msgType : Byte) : Statement (.getMctpVersionSupport msgType) := absent rfl

theorem getMessageTypeSupport : Statement .getMessageTypeSupport := absent rfl

theorem unsupportedCommand (m : Mbox) : Statement (.unsupportedCommand m) := absent rfl

theorem identify (m : Mbox) : Statement (.identify m) := absent rfl

theorem backgroundOperationStatus (m : Mbox) : Statement (.backgroundOperationStatus m) := absent rfl

theorem requestAbortBackgroundOperation (m : Mbox) : Statement (.requestAbortBackgroundOperation m) := absent rfl

theorem getEventRecords (m : Mbox) (log : Fin 4) : Statement (.getEventRecords m log) := absent rfl

theorem clearEventRecords (m : Mbox) (log : Fin 4) (handles : List Nat) :
    Statement (.clearEventRecords m log handles) := absent rfl

theorem getEventInterruptPolicy (m : Mbox) : Statement (.getEventInterruptPolicy m) := absent rfl

theorem setEventInterruptPolicy (m : Mbox) (log : Fin 4) (msix : Bool) (vector : Fin 32) :
    Statement (.setEventInterruptPolicy m log msix vector) := absent rfl

theorem getFwInfo (m : Mbox) : Statement (.getFwInfo m) := absent rfl

theorem transferFw (m : Mbox) (slot : Fin 2) (offset : Nat) (data : List Byte) :
    Statement (.transferFw m slot offset data) := absent rfl

theorem activateFw (m : Mbox) (slot : Fin 2) (online digestOk accepts : Bool) :
    Statement (.activateFw m slot online digestOk accepts) := absent rfl

theorem getTimestamp (m : Mbox) : Statement (.getTimestamp m) := absent rfl

theorem setTimestamp (m : Mbox) (time : BitVec 64) : Statement (.setTimestamp m time) := absent rfl

theorem getSupportedLogs (m : Mbox) : Statement (.getSupportedLogs m) := absent rfl

theorem getLog (m : Mbox) : Statement (.getLog m) := absent rfl

theorem identifyMemoryDevice (m : Mbox) : Statement (.identifyMemoryDevice m) := absent rfl

theorem getPartitionInfo (m : Mbox) : Statement (.getPartitionInfo m) := absent rfl

theorem getHealthInfo (m : Mbox) : Statement (.getHealthInfo m) := absent rfl

theorem getAlertConfiguration (m : Mbox) : Statement (.getAlertConfiguration m) := absent rfl

theorem setAlertConfiguration (m : Mbox) (lifeUsed : Nat) (overC underC : Int) (volatileErrs persistentErrs : Nat) :
    Statement (.setAlertConfiguration m lifeUsed overC underC volatileErrs persistentErrs) := absent rfl

theorem getShutdownState (m : Mbox) : Statement (.getShutdownState m) := absent rfl

theorem setShutdownState (m : Mbox) (clean : Bool) : Statement (.setShutdownState m clean) := absent rfl

theorem getPoisonList (m : Mbox) (dpa : BitVec 48) (lines : Nat) :
    Statement (.getPoisonList m dpa lines) := absent rfl

theorem injectPoison (m : Mbox) (dpa : BitVec 48) : Statement (.injectPoison m dpa) := absent rfl

theorem clearPoison (m : Mbox) (dpa : BitVec 48) (data : Line) : Statement (.clearPoison m dpa data) := absent rfl

theorem sanitize (m : Mbox) : Statement (.sanitize m) := absent rfl

theorem secureErase (m : Mbox) : Statement (.secureErase m) := absent rfl

theorem getDeviceStatus (m : Mbox) : Statement (.getDeviceStatus m) := absent rfl

theorem getDirtyBudget (m : Mbox) : Statement (.getDirtyBudget m) := absent rfl

theorem getSealRecord (m : Mbox) : Statement (.getSealRecord m) := absent rfl

theorem seaChestStore (m : Mbox) (stored : Bool) : Statement (.seaChestStore m stored) := absent rfl

theorem getTrimPlan (m : Mbox) : Statement (.getTrimPlan m) := absent rfl

theorem setTrimOverride (m : Mbox) : Statement (.setTrimOverride m) := absent rfl

theorem reefBudget (m : Mbox) : Statement (.reefBudget m) := absent rfl

theorem sealExtent (m : Mbox) : Statement (.sealExtent m) := absent rfl

theorem verifyRead (m : Mbox) (stored : Bool) : Statement (.verifyRead m stored) := absent rfl

theorem keyLoad (m : Mbox) (stored : Bool) : Statement (.keyLoad m stored) := absent rfl

theorem keyZeroize (m : Mbox) (stored : Bool) : Statement (.keyZeroize m stored) := absent rfl

theorem rekeyStart (m : Mbox) (stored : Bool) : Statement (.rekeyStart m stored) := absent rfl

theorem rekeyAbort (m : Mbox) : Statement (.rekeyAbort m) := absent rfl

theorem logbookSnapshot (m : Mbox) : Statement (.logbookSnapshot m) := absent rfl

theorem logbookClear (m : Mbox) : Statement (.logbookClear m) := absent rfl

theorem moduleRetire (m : Mbox) : Statement (.moduleRetire m) := absent rfl

theorem moduleAdmit (m : Mbox) : Statement (.moduleAdmit m) := absent rfl

theorem selfTest (m : Mbox) : Statement (.selfTest m) := absent rfl

theorem pmuGrant (m : Mbox) : Statement (.pmuGrant m) := absent rfl

theorem formatMediaSet (m : Mbox) (stored : Bool) : Statement (.formatMediaSet m stored) := absent rfl

theorem railWarning (r : Fin 7) : Statement (.railWarning r) := absent rfl

theorem railFault (r : Fin 7) : Statement (.railFault r) := absent rfl

theorem overVoltage : Statement .overVoltage := absent rfl

theorem inputStable : Statement .inputStable := absent rfl

theorem powerFailWarning : Statement .powerFailWarning := absent rfl

theorem shutdownRequest : Statement .shutdownRequest := absent rfl

theorem overTemperature (sensor : Fin 16) (tempC : Nat) : Statement (.overTemperature sensor tempC) := absent rfl

theorem strikePoint (belowStrike : Bool) (pages : Nat) : Statement (.strikePoint belowStrike pages) := absent rfl

theorem resumeQualified : Statement .resumeQualified := absent rfl

theorem abandonConfirmed : Statement .abandonConfirmed := absent rfl

theorem railDisableStep : Statement .railDisableStep := absent rfl

theorem railInWindow (r : Fin 7) : Statement (.railInWindow r) := absent rfl

theorem rampRailFail (r : Fin 7) (timeUs : Nat) : Statement (.rampRailFail r timeUs) := absent rfl

theorem rampRetry : Statement .rampRetry := absent rfl

theorem powerdownRailFail (what : DownFail) (timeUs : Nat) :
    Statement (.powerdownRailFail what timeUs) := absent rfl

theorem busTransactionError (k : Slot) (why : BusErr) (stuckLow : Bool) :
    Statement (.busTransactionError k why stuckLow) := absent rfl

theorem busRetry (k : Slot) (ok : Bool) : Statement (.busRetry k ok) := absent rfl

theorem unresponsiveRetry (k : Slot) (answered : Bool) : Statement (.unresponsiveRetry k answered) := absent rfl

theorem busClearRetry (recovered : Bool) : Statement (.busClearRetry recovered) := absent rfl

theorem moduleTempRead (k : Slot) (tempC : Byte) : Statement (.moduleTempRead k tempC) := absent rfl

theorem statusWordPoll (k : Slot) (powerGood : Bool) : Statement (.statusWordPoll k powerGood) := absent rfl

theorem resetStretchEnd (out : RstOut) : Statement (.resetStretchEnd out) := absent rfl

theorem reefRequest (holder : Holder) (programs : Nat) (target : Option Slot) :
    Statement (.reefRequest holder programs target) := absent rfl

theorem reefGrant : Statement .reefGrant := absent rfl

theorem permitRelease (id : Nat) : Statement (.permitRelease id) := absent rfl

theorem reefLevelRaise (id : Nat) : Statement (.reefLevelRaise id) := absent rfl

theorem reefArbiterFail : Statement .reefArbiterFail := absent rfl

theorem moduleCapRestore (k : Slot) : Statement (.moduleCapRestore k) := absent rfl

theorem xtalLost : Statement .xtalLost := absent rfl

theorem xtalReturn : Statement .xtalReturn := absent rfl

theorem rcTrim : Statement .rcTrim := absent rfl

theorem refclkLost (n : Fin 2) : Statement (.refclkLost n) := absent rfl

theorem refclkRecovered (n : Fin 2) : Statement (.refclkRecovered n) := absent rfl

theorem holdoverExpiry : Statement .holdoverExpiry := absent rfl

theorem dpllLockLoss : Statement .dpllLockLoss := absent rfl

theorem dpllRelock (n : Fin 2) : Statement (.dpllRelock n) := absent rfl

theorem mpllLockLoss : Statement .mpllLockLoss := absent rfl

theorem mpllRelock : Statement .mpllRelock := absent rfl

theorem sleepEvaluate (d : Domain) (nextNs : Option Nat) : Statement (.sleepEvaluate d nextNs) := absent rfl

theorem scheduledWake (d : Domain) : Statement (.scheduledWake d) := absent rfl

theorem wakeLate (d : Domain) : Statement (.wakeLate d) := absent rfl

theorem aonPowerOnDetect (pages : Nat) : Statement (.aonPowerOnDetect pages) := absent rfl

theorem porAssert : Statement .porAssert := absent rfl

theorem sysResetRequest (path : Path) (key : BitVec 16) : Statement (.sysResetRequest path key) := absent rfl

theorem coreResetRequest (path : Path) (key : BitVec 16) : Statement (.coreResetRequest path key) := absent rfl

theorem resetHoldOffDone : Statement .resetHoldOffDone := absent rfl

theorem domainRelease (d : RstDomain) (fuseCrc : BitVec 2) : Statement (.domainRelease d fuseCrc) := absent rfl

theorem clockWatchdogExpiry (c : WdClock) : Statement (.clockWatchdogExpiry c) := absent rfl

theorem arrayFillDone (bad : List FillFail) : Statement (.arrayFillDone bad) := absent rfl

theorem firmwareBoot (r : BootResult) : Statement (.firmwareBoot r) := absent rfl

theorem holdupMeasureStart : Statement .holdupMeasureStart := absent rfl

theorem holdupMeasureEnd (r : HoldupRead) : Statement (.holdupMeasureEnd r) := absent rfl

theorem holdupGo (path : Path) : Statement (.holdupGo path) := absent rfl

theorem trimPlanCompute : Statement .trimPlanCompute := absent rfl

theorem planStale : Statement .planStale := absent rfl

theorem pathMonitorSample (slackPs : Nat) : Statement (.pathMonitorSample slackPs) := absent rfl

theorem selfTestSliceStart (ticket : Nat) : Statement (.selfTestSliceStart ticket) := absent rfl

theorem selfTestSliceEnd (pass : Bool) : Statement (.selfTestSliceEnd pass) := absent rfl

theorem sliceFaultEnd (ownFault : Bool) : Statement (.sliceFaultEnd ownFault) := absent rfl

theorem ticketCoverTimeout (ticket : Nat) : Statement (.ticketCoverTimeout ticket) := absent rfl

theorem hbmRecalibration (stack : Stack) (pc : Fin 32) (eyePercent : Nat) :
    Statement (.hbmRecalibration stack pc eyePercent) := absent rfl

theorem logRecordWrite : Statement .logRecordWrite := absent rfl

theorem logWrGo (path : Path) : Statement (.logWrGo path) := absent rfl

theorem archiveCopy : Statement .archiveCopy := absent rfl

theorem chainWrite : Statement .chainWrite := absent rfl

theorem chainStallTimeout : Statement .chainStallTimeout := absent rfl

theorem blockCounterAdvance (verified : Bool) : Statement (.blockCounterAdvance verified) := absent rfl

theorem logbookRestore : Statement .logbookRestore := absent rfl

theorem snapshotReleaseTimeout (m : Mbox) : Statement (.snapshotReleaseTimeout m) := absent rfl

theorem clearRetire : Statement .clearRetire := absent rfl

theorem recordStore (id : BitVec 15) (payload : List Byte) (verified : Bool) :
    Statement (.recordStore id payload verified) := absent rfl

theorem recordWithdraw (id : BitVec 15) : Statement (.recordWithdraw id) := absent rfl

theorem backgroundErase : Statement .backgroundErase := absent rfl

theorem rawProgram (path : Path) : Statement (.rawProgram path) := absent rfl

theorem rawErase (path : Path) : Statement (.rawErase path) := absent rfl

theorem counterIncrement (ctr : Fin 8) (verified : Bool) : Statement (.counterIncrement ctr verified) := absent rfl

theorem counterRefill : Statement .counterRefill := absent rfl

theorem seaChestSettle : Statement .seaChestSettle := absent rfl

theorem eventFire (source : Nat) (severity : Fin 4) (detail : Detail) :
    Statement (.eventFire source severity detail) := absent rfl

theorem eventCoalesceFlush (source : Nat) : Statement (.eventCoalesceFlush source) := absent rfl

theorem bucketLeak (cls : Fin 6) (unit : Nat) : Statement (.bucketLeak cls unit) := absent rfl

theorem mstFifoRead (path : Path) : Statement (.mstFifoRead path) := absent rfl

theorem addrTabClear (path : Path) (ch : Chan) : Statement (.addrTabClear path ch) := absent rfl

theorem addrTabHiRead (path : Path) (ch : Chan) : Statement (.addrTabHiRead path ch) := absent rfl

theorem alertHoldExpiry : Statement .alertHoldExpiry := absent rfl

theorem pmuCycleCount (cycles : Nat) : Statement (.pmuCycleCount cycles) := absent rfl

theorem pmuFreeze (path : Path) (u : Fin 4) : Statement (.pmuFreeze path u) := absent rfl

theorem pmuClear (path : Path) (u : Fin 4) : Statement (.pmuClear path u) := absent rfl

theorem lowWordRead (path : Path) (addr : Word) : Statement (.lowWordRead path addr) := absent rfl

theorem timeHiWrite (path : Path) (data : Word) : Statement (.timeHiWrite path data) := absent rfl

theorem lockSet (path : Path) (addr : Word) (data : Word) : Statement (.lockSet path addr data) := absent rfl

theorem hostWindowRead (p : Port) (offset : BitVec 20) (size : Nat) :
    Statement (.hostWindowRead p offset size) := absent rfl

theorem registerWrite (path : Path) (addr : Word) (data : Word) :
    Statement (.registerWrite path addr data) := absent rfl

theorem linkUp (p : Port) (rate : LinkRate) (width : LinkWidth) (flit256 latopt : Bool) (ndrCredits drsCredits : Nat) :
    Statement (.linkUp p rate width flit256 latopt ndrCredits drsCredits) := absent rfl

theorem replayTimerTimeout (p : Port) (rollover : Bool) : Statement (.replayTimerTimeout p rollover) := absent rfl

theorem controllerTemperatureWarning (sensor : Fin 16) (tempC : Nat) :
    Statement (.controllerTemperatureWarning sensor tempC) := absent rfl

theorem hbmStackTemperature (stack : Stack) (tempC : Nat) :
    Statement (.hbmStackTemperature stack tempC) := absent rfl

theorem dailySummary : Statement .dailySummary := absent rfl

theorem holdupBootTimeout : Statement .holdupBootTimeout := absent rfl

end Sys2Proof.Laws.QueueFootprint
end

