-- ==== Sys2Proof/Tests/Slice0.lean ====
section
/-! SUPPORT. The model's own tests: ill-formed commands refused, the specification's worked examples, and for
every obligation with hypotheses the states and operands that meet them, clause by clause. -/

namespace Sys2Proof.Tests

open Sys2Proof Sys2Proof.Machine

set_option maxRecDepth 8000

/-! ## Ill-formed commands -/

theorem test_wf_percent :
    Instr.wf (.l0pNarrow .hp0 101) = false ∧ Instr.wf (.l0pNarrow .hp0 100) = true := by decide

theorem test_wf_slices :
    Instr.wf (.handoverCutover 3 3) = false ∧ Instr.wf (.handoverCutover 3 16) = true := by decide

theorem test_wf_swaths :
    Instr.wf (.swathRetire 0 0 655360 .wear) = false ∧ Instr.wf (.swathRetire 0 0 655359 .wear) = true ∧
    Instr.wf (.wearTreeRepair 0 0 655360 .allCopies) = false ∧ Instr.wf (.frozenSwathDaily 0 0 655360) = false ∧
    Instr.wf (.migrationRowConfirmed 0 0 655360) = false := by decide

theorem test_wf_temperature :
    Instr.wf (.driftClockTick 0 0 128) = false ∧ Instr.wf (.driftClockTick 0 0 (-129)) = false ∧
    Instr.wf (.driftClockTick 0 0 127) = true ∧ Instr.wf (.driftClockTick 0 0 (-128)) = true := by decide

theorem test_wf_eye :
    Instr.wf (.hbmRecalibration 0 0 101) = false ∧ Instr.wf (.hbmRecalibration 0 0 100) = true := by decide

theorem test_wf_record :
    Instr.wf (.recordStore 0#15 (List.replicate 481 0#8) true) = false ∧
    Instr.wf (.recordStore 0#15 (List.replicate 480 0#8) true) = true := by decide

theorem test_wf_sources :
    Instr.wf (.eventFire 1284 0 ⟨0, 0, 0, 0⟩) = false ∧ Instr.wf (.eventFire 1283 0 ⟨0, 0, 0, 0⟩) = true ∧
    Instr.wf (.eventCoalesceFlush 1284) = false := by decide

theorem test_wf_buckets :
    Instr.wf (.bucketLeak 0 576) = false ∧ Instr.wf (.bucketLeak 0 575) = true := by decide

theorem test_ill_formed_stops :
    exec (.l0pNarrow .hp0 101) State.reset = .fault .illFormed ∧
    exec (.eventFire 1284 0 ⟨0, 0, 0, 0⟩) State.reset = .fault .illFormed := ⟨rfl, rfl⟩

/-! ## The queue and the table's words -/

/-- No row of the operation table has bits. -/
theorem test_no_word_spells_a_command : decodeTableWord 0 0 = none ∧ decodeTableWord 32 5 = none := by decide

/-- The block idles on an empty queue (log entry 1). -/
theorem test_step_idles : step State.reset = .next State.reset := rfl

/-! ## The specification's worked examples -/

/-- The example of the request path: DPA 0x3A1C_4F27_8840 is line 1 of LSN 0x3A_1C4F_2788, in slice 10. -/
theorem test_example_read_address :
    lsnOf 0x3A1C4F278840 = 0x3A1C4F2788 ∧ lineOf 0x3A1C4F278840 = 1 ∧ sliceHash 0x3A1C4F2788 = 10 := by decide

/-- The example of the staging cache: DPA 0x1234_5090 is line 2 of LSN 0x12_3450, slice 1, set 537,680, tag 9. -/
theorem test_example_write_address :
    lsnOf 0x12345090 = 0x123450 ∧ lineOf 0x12345090 = 2 ∧ sliceHash 0x123450 = 1 ∧ setOf 0x123450 = 537680 ∧
    tagOf 0x123450 = 9 := by decide

/-- R105's own figures: 9.4 J gives 32, 5.0 J gives 16, and less than 0.898 J gives 0. -/
theorem test_example_budget : budgetFor 9400 = 32 ∧ budgetFor 5000 = 16 ∧ budgetFor 897 = 0 := by decide

/-- The example of the hold-up bank: 0.600 F and 8.0 mΩ give 8.31 J and a budget of 28; 0.552 F and 15.0 mΩ give
6.23 J and 20. -/
theorem test_example_energy :
    usableEnergy 600 80 85 4 / 10 = 830 ∧ budgetFor (usableEnergy 600 80 85 4) = 28 ∧
    usableEnergy 552 150 85 4 / 10 = 622 ∧ budgetFor (usableEnergy 552 150 85 4) = 20 := by decide

/-- The example of the media layout: F_g(x) = 631,749 lies at position 632,218 of its region. -/
theorem test_example_position : Region.position ⟨468, 402311, 0⟩ 631749 = 632218 := by decide

/-- The example of the media layout: data member 8 of global row 15,599,263,670 lies on module 9, MCH[38], die 5,
die sector 0x1D0E_4EFD. -/
theorem test_example_member :
    (State.reset.memberPlace 15599263670 10).slot = 9 ∧ (State.reset.memberPlace 15599263670 10).ch = 38 ∧
    (State.reset.memberPlace 15599263670 10).die = 5 ∧
    (State.reset.memberPlace 15599263670 10).sector = 0x1D0E4EFD := by decide

/-- The example of the drift model: an age of 0x10_B300 lies in bucket 17; 48 °C is bucket 3 and 71 °C bucket 5. -/
theorem test_example_age : ageBucket 0x10B300 = 17 ∧ tempBucket 48 = 3 ∧ tempBucket 71 = 5 := by decide

/-- The examples of the register map: KCE.SEAL_DROPS, HLY.MB_RC_4, and DCNT_5_3, DRIFT_SEL, DRIFT_CLK_LO and
DRIFT_CLK_HI of MCH[38]. -/
theorem test_example_registers :
    locate 0x40008050 = .reg .kce 20 ∧ locate 0x4000A04C = .reg .hly 19 ∧
    locate 0x401099AC = .reg (.mch 38) 107 ∧ locate 0x40109818 = .reg (.mch 38) 6 ∧
    locate 0x4010981C = .reg (.mch 38) 7 ∧ locate 0x40109820 = .reg (.mch 38) 8 := by decide

/-! ## Witnesses of the statements about every command -/

theorem witness_StepRunsTheFrontCommand : State.reset.pending = [] := rfl

theorem witness_CommandsChangeTheirPartsOnly :
    ∃ t, exec .inputStable State.reset = .next t ∧ t.seq.stable = true := ⟨_, rfl, rfl⟩

theorem witness_WellFormedCommandsComplete :
    Instr.wf .reefGrant = true ∧ Instr.wf (.l0pNarrow .hp0 101) = false := by decide

theorem witness_StepsKeepMemoriesCanonical :
    step State.reset = .next State.reset ∧ Memory.wf 0#8 State.reset.dty.sram = true ∧
    Memory.wf 0xFF#8 State.reset.sea.flash = true := ⟨rfl, by decide, by decide⟩

/-! ## Witnesses of the hypotheses -/

/-- A port in multipath mode whose link is up and carries CXL.mem, with one decoder committed. -/
def livePort : PortState := { PortState.reset with
  mode := 0b10#2, linkUp := true, memEnabled := true, width := 5#3, rate := 7#3, released := true
  decoders := [(0, ⟨true, false, false, 0, 2 ^ 40, 0, 1, 256⟩)], ndrCredits := 300, drsCredits := 300 }

/-- A state in which port HP0 serves requests. -/
def live : State := { State.reset with
  port0 := livePort
  glb := { Glb.reset with admitOpen := true, level := .full, memoryActive := true, effBudget := 20,
                          budget := 20 }
  cache := { Cache.reset with stackOk := 3#2 }
  shr := { Shr.reset with slots := [(0, ⟨.active, 5#512⟩)] }
  clock := 100000000 }

/-- A module in service. -/
def liveMod : ModState := { ModState.reset with
  state := .inService, present := true, rst := false, railsOn := true, powerGood := true }
/-- A channel that is up. -/
def liveCh : Mch := { Mch.reset with
  linkUp := true, train := 0b11#2, trained := true, diesReady := 0xFF#8
  dies := (List.range 8).map fun d => (d, { DieState.reset with provisional := false }) }
/-- `live` with its modules in service and its channels up. -/
def full : State := { live with
  seq := { Seq.reset with state := .run, mods := (List.range 18).map fun k => (k, liveMod) }
  mch := (List.range 72).map fun c => (c, liveCh)
  wlv := { Wlv.reset with loaded := true }
  rst := { Rst.reset with booted := true, aon := true, datapath := true }
  mst := { Mst.reset with running := true } }

namespace Devload

/-! States of the witnesses of Devload. -/

def S0 : State := { State.reset with port0 := { PortState.reset with memEnabled := true, devload := 2#2 } }
def S1 : State := { S0 with port0 := { S0.port0 with devload := 0#2, optimal := 0#8, linkUp := true } }
def S2 : State := { S0 with port0 := { S0.port0 with severe := 0xFF#8, moderate := 0xF0#8, optimal := 0xE0#8, devloadBelow := some 0 }, clock := 100000 }
def S3 : State := { S2 with clock := 3 }

/-- States and operands that meet the hypotheses of DevloadRisesAtOnceAndFallsLate, clause by clause. -/
theorem witness_DevloadRisesAtOnceAndFallsLate :
    ((S0.port Port.hp0).memEnabled = true ∧ S0.admitNow Port.hp0 = 0#5 ∧
      (if BitVec.toNat (S0.port Port.hp0).severe ≤ S0.loadIndex Port.hp0 then 3 else if BitVec.toNat (S0.port Port.hp0).moderate ≤ S0.loadIndex Port.hp0 then 2 else if BitVec.toNat (S0.port Port.hp0).optimal ≤ S0.loadIndex Port.hp0 then 1 else 0) < (S0.port Port.hp0).devload.toNat ∧
      S0.loadIndex Port.hp0 + 16 ≤ (S0.port Port.hp0).threshold (S0.port Port.hp0).devload.toNat ∧
      (S0.port Port.hp0).devloadBelow = none) ∧
    ((S1.port Port.hp0).memEnabled = true ∧ S1.admitNow Port.hp0 = 0#5 ∧
      (S1.port Port.hp0).devload.toNat < if BitVec.toNat (S1.port Port.hp0).severe ≤ S1.loadIndex Port.hp0 then 3 else if BitVec.toNat (S1.port Port.hp0).moderate ≤ S1.loadIndex Port.hp0 then 2 else if BitVec.toNat (S1.port Port.hp0).optimal ≤ S1.loadIndex Port.hp0 then 1 else 0) ∧
    ((S2.port Port.hp0).memEnabled = true ∧ S2.admitNow Port.hp0 = 0#5 ∧
      (if BitVec.toNat (S2.port Port.hp0).severe ≤ S2.loadIndex Port.hp0 then 3 else if BitVec.toNat (S2.port Port.hp0).moderate ≤ S2.loadIndex Port.hp0 then 2 else if BitVec.toNat (S2.port Port.hp0).optimal ≤ S2.loadIndex Port.hp0 then 1 else 0) < (S2.port Port.hp0).devload.toNat ∧
      S2.loadIndex Port.hp0 + 16 ≤ (S2.port Port.hp0).threshold (S2.port Port.hp0).devload.toNat ∧
      (S2.port Port.hp0).devloadBelow = some 0 ∧ 0 + us 4 ≤ S2.clock) ∧
    ((S3.port Port.hp0).memEnabled = true ∧ S3.admitNow Port.hp0 = 0#5 ∧
      (if BitVec.toNat (S3.port Port.hp0).severe ≤ S3.loadIndex Port.hp0 then 3 else if BitVec.toNat (S3.port Port.hp0).moderate ≤ S3.loadIndex Port.hp0 then 2 else if BitVec.toNat (S3.port Port.hp0).optimal ≤ S3.loadIndex Port.hp0 then 1 else 0) < (S3.port Port.hp0).devload.toNat ∧
      S3.loadIndex Port.hp0 + 16 ≤ (S3.port Port.hp0).threshold (S3.port Port.hp0).devload.toNat ∧
      (S3.port Port.hp0).devloadBelow = some 0 ∧ S3.clock < 0 + us 4) := by
  and_intros <;> decide

end Devload

namespace Requests

/-! States of the witnesses of Requests. -/

def live3 : State := { live with port0 := { livePort with devload := 3#2 } }
def bel : Belay := ⟨.respond, false, .hp0, ⟨.rd, 0x100, 0#512, 0#64, false, .none, false⟩, 99999900, 0, true, false, 9#512, true, 0, false⟩
def liveR : State := { live with
  port0 := { livePort with answers := [⟨true, 4#512, true, 0#2, false⟩], reqUsed := 2, devload := 1#2 }
  bly := { Bly.reset with entries := [(3, bel)], nextOrder := 1 } }
def liveN : State := { live with port0 := { livePort with answers := [⟨false, 4#512, true, 0#2, false⟩], ndrCredits := 0 } }

/-- States and operands that meet the hypotheses of RequestsEnterTheBelayTableOrAreDropped, clause by clause. -/
theorem witness_RequestsEnterTheBelayTableOrAreDropped :
    (live.canReceive Port.hp0 false = true ∧
      live.takes Port.hp0 (live.hostReq Port.hp0 MemOp.rd 256 (0#512) (0#64) false CacheErr.none)) ∧
    (live.canReceive Port.hp0 false = true ∧
      live.takes Port.hp0 (live.hostReq Port.hp0 MemOp.inv 256 (0#512) (0#64) false CacheErr.none)) ∧
    (live.canReceive Port.hp0 false = true ∧
      live.takes Port.hp0 (live.hostReq Port.hp0 MemOp.spec 256 (0#512) (0#64) false CacheErr.none) ∧
      live.specAllowed Port.hp0 = true) ∧
    (live.canReceive Port.hp0 true = true ∧
      live.takes Port.hp0 (live.hostReq Port.hp0 MemOp.wr 256 (7#512) allBytes false CacheErr.none)) ∧
    (live.canReceive Port.hp0 true = true ∧
      live.takes Port.hp0 (live.hostReq Port.hp0 MemOp.wrPtl 256 (7#512) (3#64) false CacheErr.none)) ∧
    (live3.canReceive Port.hp0 false = true ∧ live3.clk.dpStopped = false ∧ (live3.port Port.hp0).ingressReq = [] ∧
      (live3.port Port.hp0).ingressRwd = [] ∧ ((live3.port Port.hp0).dpa 256).isSome = true ∧
      live3.specAllowed Port.hp0 = false) := by
  and_intros <;> first | decide | exact ⟨by decide, by decide, by decide, by decide, by decide, by decide⟩

/-- States and operands that meet the hypotheses of PortAnswersAndResponsesTakeTheirCredit, clause by clause. -/
theorem witness_PortAnswersAndResponsesTakeTheirCredit :
    (live.canReceive Port.hp0 true = true ∧ live.clk.dpStopped = false ∧ (live.port Port.hp0).ingressReq = [] ∧
      (live.port Port.hp0).ingressRwd = []) ∧
    ((liveR.port Port.hp0).carriesMem = true ∧ liveR.bly.entries.find 3 = some bel ∧ bel.st = BelayState.respond ∧
      bel.port = Port.hp0 ∧ bel.req.op = MemOp.rd ∧ 0 < (liveR.port Port.hp0).drsCredits + 2) ∧
    ((liveR.port Port.hp0).carriesMem = true ∧
      (liveR.port Port.hp0).answers = [S2M.mk true (4#512) true (0#2) false] ∧
      0 < (liveR.port Port.hp0).drsCredits + 2) ∧
    ((liveN.port Port.hp0).carriesMem = true ∧
      (liveN.port Port.hp0).answers = [S2M.mk false (4#512) true (0#2) false] ∧
      (liveN.port Port.hp0).ndrCredits + 0 = 0) := by
  and_intros <;> decide

end Requests

namespace Ports

/-! States of the witnesses of Ports. -/

def liveV : State := { live with port1 := livePort, port0 := { livePort with pathLost := true } }
def liveT : State := { live with port0 := { livePort with linkUp := false, training := true } }
def liveP : State := { live with port0 := { livePort with l0pEn := true, pm := .l0p .x4 }, bly := {Bly.reset with entries := [(3, ⟨.lookup, false, .hp0, ⟨.wr, 0x100, 0#512, 0#64, false, .none, false⟩, 99999900, 0, true, false, 9#512, true, 0, false⟩)], nextOrder := 1 } }
def liveP1 : State := { live with port0 := { livePort with pm := .l1, l0pEn := true } }

/-- States and operands that meet the hypotheses of DecodersViralAndPortFailureKeepTheirReach, clause by clause. -/
theorem witness_DecodersViralAndPortFailureKeepTheirReach :
    ((live.port Port.hp0).linkUp = true) ∧
    ((liveV.port Port.hp0).pathLost = true ∧ (liveV.port Port.hp0).memEnabled = true ∧ liveV.multipath = true ∧
      (liveV.port (portOther Port.hp0)).memEnabled = true) := by
  and_intros <;> decide

/-- States and operands that meet the hypotheses of PortResetsAndTrainingDecideCxlMem, clause by clause. -/
theorem witness_PortResetsAndTrainingDecideCxlMem :
    ((Instr.perstAssert Port.hp0 = Instr.perstAssert Port.hp0 ∨ (liveV.port Port.hp0).linkUp = true ∧ (Instr.perstAssert Port.hp0 = Instr.hotReset Port.hp0 ∨ Instr.perstAssert Port.hp0 = Instr.cxlReset Port.hp0))) ∧
    ((liveV.port Port.hp0).linkUp = true) ∧
    ((liveT.port Port.hp0).linkUp = false ∧ (liveT.port Port.hp0).released = true ∧
      (liveT.port Port.hp0).enabled = true ∧ liveT.elapsed (liveT.port Port.hp0).perstAt (ms 20) = true ∧
      liveT.elapsed (liveT.port Port.hp0).releasedAt (ms 20) = true) ∧
    ((liveT.port Port.hp0).training = true ∧ LinkRate.code LinkRate.r64 ≤ (liveT.port Port.hp0).rateCap.toNat ∧
      LinkWidth.code LinkWidth.x16 ≤ (liveT.port Port.hp0).widthCap.toNat) := by
  and_intros <;> decide

/-- States and operands that meet the hypotheses of LinkErrorsPowerAndFlushFollowTheirRules, clause by clause. -/
theorem witness_LinkErrorsPowerAndFlushFollowTheirRules :
    ((live.port Port.hp0).linkUp = true) ∧
    ((live.port Port.hp0).linkUp = true ∧ (live.port Port.hp0).margins = true ∧
      (live.port Port.hp0).hostMarginLane = none) ∧
    ((live.port Port.hp0).linkUp = true ∧ (live.port Port.hp0).margins = true) ∧
    ((live.port Port.hp0).linkUp = true ∧ 10 ≤ 100 ∧ (live.port Port.hp0).l0pEn = true ∧
      (live.port Port.hp0).pm ≠ LinkPm.l1) ∧
    ((live.port Port.hp0).linkUp = true ∧ live.clk.portL1En = true ∧ live.portQuiet Port.hp0 = true) ∧
    ((live.port Port.hp0).linkUp = true ∧ (∀ e ∈ live.bly.entries, e.2.reserves = 0 ∨ e.2.st = BelayState.respond)) ∧
    ((liveP.port Port.hp0).linkUp = true ∧ (liveP.port Port.hp0).gpf2Order = none ∧
      (∃ e ∈ liveP.bly.entries, e.2.order < liveP.bly.nextOrder ∧ e.2.reserves ≠ 0 ∧ e.2.st ≠ BelayState.respond)) ∧
    ((liveP1.port Port.hp0).linkUp = true ∧ (liveP1.port Port.hp0).pm = LinkPm.l1) := by
  and_intros <;> decide

end Ports

namespace Cache

/-! States of the witnesses of Cache. -/

def k1 : Nat := wayKey 1 1 2
def wD : Way := { Way.empty with lines := ⟨.dirtyFull, .dirtyPartial, .clean, .invalid⟩, data := ⟨1#512, 2#512, 3#512, 4#512⟩, mask := ⟨0#64, 1#64, 0#64, 0#64⟩, mslot := some (mirrorKey 1 0) }
def cD : State := { live with cache := { live.cache with ways := [(k1, wD)], mirror := [(mirrorKey 1 0, ⟨1, wD.data, wD.mask, true⟩)] } }
def vM : Victim := ⟨.held, 1, ⟨.dirtyFull, .dirtyPartial, .invalid, .clean⟩, 0#4, ⟨0#64,3#64,0#64,0#64⟩, ⟨1#512,2#512,3#512,4#512⟩, none, none, 0#4, none, 0, 0, some 4, none, false, false⟩
def rB : ReadOp := ⟨.background, 1, 0, 0, 0, .transferred, [], none, some 6, false, false, false, [], [], [], 0, 0, 0, 0, none⟩
def sM : State := { live with vbf := { Vbf.reset with entries := [(6, vM)], nextOrder := 1 }, stp := { Stp.reset with reads := [(4, rB)], nextRead := 5, sets := [(2, ⟨3, [], .full, [], true, false, none⟩)], nextSet := 3 } }
def bl : Belay := ⟨.lookup, false, .hp0, ⟨.rd, 0x100, 0#512, 0#64, false, .none, false⟩, 5, 0, true, false, 9#512, true, 0, false⟩
def br : Belay := {bl with st := .respond }
def sF : State := { sM with bly := { Bly.reset with entries := [(3, br)], reissue := [br, bl] }, vbf := { sM.vbf with rebuilding := 2#8, fenced := 2#8, entries := [(6, {vM with merging := none}), (4097, { vM with merging := none, rebuilding := true, order := 2, lsn := 99 })] } }
def sH : State := { cD with cache := { cD.cache with handover := some ⟨3, 4, 3, 0⟩, stackOk := 2#2 } }
def sH2 : State := { sH with bly := { Bly.reset with entries := [(0, {bl with accepted := 0, req := { bl.req with dpa := 0x300 }})] } }
def sMa : State := { cD with cache := { cD.cache with slices := (1, {SliceState.reset 1 with maintBusy := true}) :: (2, {SliceState.reset 2 with maintAll := true}) :: cD.cache.slices.filter (fun e => e.1 ≠ 1 ∧ e.1 ≠ 2) } }
def sMb : State := { cD with cache := { cD.cache with slices := (1, {SliceState.reset 1 with maintAll := true}) :: cD.cache.slices.filter (fun e => e.1 ≠ 1 ) } }
def sG : State := { live with vbf := { Vbf.reset with entries := [(6, {vM with merging := none})], nextOrder := 1 } }
def st1 : State := {cD with vbf := sG.vbf}
def st2 : State := {cD with vbf := {sG.vbf with entries := [(6, {vM with st := .issued})]}}
def rW : PortReq := ⟨.wr, 0x100, 5#512, allBytes, false, .none, false⟩
def sR : State := { live with port0 := { livePort with ingressRwd := [rW] } , mst := {Mst.reset with running := true}}
def st4 : State := { sR with glb := { sR.glb with admitOpen := false } , mst := Mst.reset}
def sDump : State := { cD with glb := { cD.glb with dumping := true }, seq := {Seq.reset with state := .dump, cause := .warning, epochTaken := 7 } }
def ep : Epoch := ⟨9, [], [], true, false, 1⟩
def sRep : State := { live with rst := { Rst.reset with booted := true }, mch := [(0, { Mch.reset with linkUp := true })], shr := { live.shr with keyMapLoaded := true }, media := { Media.reset with journal := some ep } }
def st5 : State := {sRep with glb := {sRep.glb with replaying := true}}

/-- States and operands that meet the hypotheses of CacheHitsReadAndWriteAsTheTableStates, clause by clause. -/
theorem witness_CacheHitsReadAndWriteAsTheTableStates :
    (cD.canReceive Port.hp0 false = true ∧
      cD.takes Port.hp0 (cD.hostReq Port.hp0 MemOp.rd 256 (0#512) (0#64) false CacheErr.none) ∧
      (cD.port Port.hp0).dpa 256 = some 256 ∧ cD.freshBelay = some 0 ∧
      (∀ e ∈ cD.bly.entries, e.2.req.dpa / 64 ≠ 256 / 64) ∧ cD.cached (sliceHash (lsnOf 256)) = true ∧
      cD.bypassed (sliceHash (lsnOf 256)) = false ∧ cD.findWay (lsnOf 256) = some k1 ∧
      ((cD.way k1).lines.get (lineOf 256)).valid = true) ∧
    (cD.canReceive Port.hp0 true = true ∧ (cD.port Port.hp0).dpa 256 = some 256 ∧ cD.freshBelay = some 0 ∧
      (cD.port Port.hp0).viral = false ∧ cD.glb.level ≠ Level.barePoles ∧
      cD.cached (sliceHash (lsnOf 256)) = true ∧ cD.findWay (lsnOf 256) = some k1 ∧
      cD.wayServes (sliceOfKey k1) (k1 % 16) = true ∧ (∀ e ∈ cD.bly.entries, e.2.st ≠ BelayState.wait) ∧
      cD.takes Port.hp0 (cD.hostReq Port.hp0 MemOp.wr 256 (77#512) allBytes false CacheErr.none)) ∧
    (cD.canReceive Port.hp0 true = true ∧ (cD.port Port.hp0).dpa 256 = some 256 ∧ cD.freshBelay = some 0 ∧
      (cD.port Port.hp0).viral = false ∧ cD.glb.level ≠ Level.barePoles ∧
      cD.cached (sliceHash (lsnOf 256)) = true ∧ cD.findWay (lsnOf 256) = some k1 ∧
      cD.wayServes (sliceOfKey k1) (k1 % 16) = true ∧ (∀ e ∈ cD.bly.entries, e.2.st ≠ BelayState.wait) ∧
      cD.takes Port.hp0 (cD.hostReq Port.hp0 MemOp.wrPtl 256 (77#512) (6#64) false CacheErr.none)) := by
  and_intros <;> first | decide | exact ⟨by decide, by decide, by decide, by decide, by decide, by decide⟩

/-- States and operands that meet the hypotheses of MergesFillsAndSetsKeepTheirBytes, clause by clause. -/
theorem witness_MergesFillsAndSetsKeepTheirBytes :
    (3 < 512) ∧
    (3 < 4 ∧ wD.lines.get 3 = LineState.invalid) ∧
    (1 < 4 ∧ wD.lines.get 1 = LineState.dirtyPartial) ∧
    (1 < 4 ∧ wD.lines.get 1 = LineState.dirtyPartial ∧ 3 < 512 ∧ BitVec.getLsbD (wD.mask.get 1) (3 / 8) = true) ∧
    (sM.vbf.entries.find 6 = some vM ∧ vM.merging = some 4 ∧ sM.stp.reads.find 4 = some rB ∧ rB.belays = []) ∧
    (0 < 4 ∧ (wD.lines.get 0).valid = true) ∧
    (0 < 4 ∧ bitOf (3#4) 0 = true) ∧
    (sM.stp.sets.find 2 = some (StripeSet.mk 3 [] SetForm.full [] true false none) ∧ 2 < sM.stp.nextSet) := by
  and_intros <;> decide

/-- States and operands that meet the hypotheses of FencesAndFailuresKeepWhatIsInFlight, clause by clause. -/
theorem witness_FencesAndFailuresKeepWhatIsInFlight :
    (bitOf sF.bly.fenced 0 = false ∧ (∀ e ∈ sF.bly.entries, e.2.st ≠ BelayState.lookup)) ∧
    (sF.bly.reissue = [br, bl] ∧ sF.freshBelay = some 0 ∧ br.st ≠ BelayState.lookup ∧
      (∀ e ∈ sF.bly.entries, e.2.st ≠ BelayState.lookup)) ∧
    (bitOf sF.stp.parityFailed 1 = false) ∧
    (bitOf sF.vbf.fenced 0 = false) ∧
    ((sF.slice 3).serves = some 3) ∧
    (sF.pcOk 0 5 = true) ∧
    (bitOf sF.cache.stackOk 0 = true) ∧
    ((sF.slice 3).role ≠ SliceRole.failed ∧ (sF.slice 3).serves = some 3 ∧ 3 ≠ 16 ∧ sF.spareReady = true ∧
      (∀ e ∈ sF.bly.entries, e.2.st ≠ BelayState.lookup)) ∧
    (3 ≠ 16 ∧ (sF.slice 3).serves = some 3 ∧ (sF.slice 3).role = SliceRole.active ∧ sF.cache.handover = none ∧
      (sF.slice 16).serves = none ∧ (sF.slice 16).role = SliceRole.idle) ∧
    (bitOf sF.vbf.rebuilding 1 = true ∧ (∀ e ∈ sF.bly.entries, e.2.st ≠ BelayState.lookup)) ∧
    (sH.cache.handover = some (Handover.mk 3 4 3 0) ∧ sH.handoverHeld (Handover.mk 3 4 3 0) = false) ∧
    (sH2.cache.handover = some (Handover.mk 3 4 3 0) ∧ sH2.handoverHeld (Handover.mk 3 4 3 0) = true ∧
      sH2.elapsed 0 (us 100) = true ∧ 3 ≠ 4) := by
  and_intros <;> decide

/-- States and operands that meet the hypotheses of MaintenanceAndWriteBackKeepTheBlock, clause by clause. -/
theorem witness_MaintenanceAndWriteBackKeepTheBlock :
    ((sMa.slice 1).maintBusy = true) ∧
    ((sMa.slice 1).maintBusy = true ∧ (sMa.slice 1).maintWaits = [] ∧ sMa.maintPending 1 = false) ∧
    (sMa.findWay 1 = some k1 ∧ anyDirty (sMa.way k1).lines = true ∧ (sMa.way k1).flushing = none ∧
      sMa.glb.dumping = false ∧ sMa.freshVictim = some 0 ∧ sMa.wayServes (sliceOfKey k1) (k1 % 16) = true) ∧
    ((sMb.slice 1).maintBusy = false ∧
      ((sMb.slice 1).maintAll = true ∨ (sMb.slice 1).maintStart.toNat + (sMb.slice 1).maintCount.toNat ≤ sMb.capacity / 256)) ∧
    (sG.vbf.entries.find 6 = some (Victim.mk vM.st vM.lsn vM.lines vM.poison vM.mask vM.data vM.mslot vM.tracker vM.trackPoison vM.set vM.order vM.since none vM.maint vM.sweep vM.rebuilding) ∧
      sG.gathers (rowOf vM.lsn) (6, Victim.mk vM.st vM.lsn vM.lines vM.poison vM.mask vM.data vM.mslot vM.tracker vM.trackPoison vM.set vM.order vM.since none vM.maint vM.sweep vM.rebuilding) = true ∧
      sG.elapsed vM.since (us 20) = true ∧ sG.rowBusy (rowOf vM.lsn) = false ∧ sG.glb.dumping = false ∧
      (∀ e ∈ sG.vbf.entries, e.2.order < sG.vbf.nextOrder)) ∧
    (st1.vbf.entries.find 6 = some (Victim.mk vM.st vM.lsn vM.lines vM.poison vM.mask vM.data vM.mslot vM.tracker vM.trackPoison vM.set vM.order vM.since none vM.maint vM.sweep vM.rebuilding) ∧
      vM.st ≠ VictimState.issued ∧ vM.rebuilding = false ∧ st1.findWay vM.lsn = some k1) ∧
    (st2.vbf.entries.find 6 = some (Victim.mk VictimState.issued vM.lsn vM.lines vM.poison vM.mask vM.data vM.mslot vM.tracker vM.trackPoison vM.set vM.order vM.since vM.merging vM.maint vM.sweep vM.rebuilding)) := by
  and_intros <;> decide

/-- States and operands that meet the hypotheses of BudgetDumpAndReplayAgree, clause by clause. -/
theorem witness_BudgetDumpAndReplayAgree :
    (sR.clk.dpStopped = false ∧ (sR.port Port.hp0).ingressReq = [] ∧ (sR.port Port.hp0).ingressRwd = [rW] ∧
      rW.op = MemOp.wr ∧ sR.answeredByPort rW = false ∧ sR.freshBelay.isSome = true ∧
      sR.canAccept Port.hp0 rW = true) ∧
    (sR.mst.running = true) ∧
    (st4.clk.dpStopped = false ∧ (st4.port Port.hp0).ingressReq = [] ∧ (st4.port Port.hp0).ingressRwd = [rW] ∧
      rW.op = MemOp.wr ∧ st4.answeredByPort rW = false ∧ st4.freshBelay.isSome = true ∧
      st4.canAccept Port.hp0 rW = false) ∧
    (st4.mst.running = false) ∧
    (sDump.dumpMayEnd = true) ∧
    (sRep.rst.booted = true ∧ sRep.mediaUp = true ∧ sRep.shr.keyMapLoaded = true ∧ sRep.glb.replayDone = false ∧
      sRep.glb.replaying = false) ∧
    (st5.glb.replaying = true ∧ st5.diesQuiet = true ∧ st5.media.journal = some ep ∧
      (st5.seaStore [(768, leBytes 4 (max ep.epoch st5.glb.epochConsumed))] true).2 = true) := by
  and_intros <;> decide

end Cache

namespace Layout

/-! States of the witnesses of Layout. -/

def gW : State := { full with wlv := { full.wlv with regions := [(3, ⟨5, 700, 5000⟩)], leaves := [(5, 9), (1048581, 4095)], leafDirty := [5, 1048581] }, glb := { full.glb with replayDone := true } }
def gW2 : State := { gW with stp := { gW.stp with gapMoves := [(3, ⟨699, 700, .reading⟩)]} , wlv := { gW.wlv with loaded := false, mediaLeaves := [(5, 7), (6,1)] }}
def gW3 : State := { gW with stp := { gW.stp with gapMoves := [(3, ⟨699, 700, .recorded⟩)]} , wlv := { gW.wlv with mediaLeaves := [(5, 7), (6,1)] }}
def rt : State := { gW with wlv := { gW.wlv with retireUnits := 5, frozen := [9], ordered := [(6, .drift)], remap := [(7, ⟨true, 3, 600000, 4095, 0, 7⟩)] } }
def st1 : State := { rt with wlv := { rt.wlv with spareUsed := Sparse.set 0 rt.wlv.spareUsed (dieKey 0 0) 1 } }

/-- States and operands that meet the hypotheses of TranslationIsOneToOne, clause by clause. -/
theorem witness_TranslationIsOneToOne :
    (77777 < 2 ^ 20) ∧
    (0 ≤ 1048576 ∧ 1048575 < 1048576) := by
  and_intros <;> decide

/-- States and operands that meet the hypotheses of GapMovesSwitchAndWearCountsSurvive, clause by clause. -/
theorem witness_GapMovesSwitchAndWearCountsSurvive :
    (gW.rowAtPosition 3 (if (gW.region 3).gap = 0 then 1048576 else (gW.region 3).gap - 1) = some (gW.rowAtPosition 3 699).get! ∧
      3 < gW.regions ∧ 2 ^ gW.wlv.sgShift ≤ (gW.region 3).programs ∧ gW.stp.gapMoves.find 3 = none ∧
      gW.rowBusy (gW.rowAtPosition 3 699).get! = false ∧ gW.rowPrograms? (gW.rowAtPosition 3 699).get! = false ∧
      gW.glb.dumping = false ∧ gW.glb.replayDone = true) ∧
    (gW.wlv.loaded = true ∧ gW.presentSlots ≠ [] ∧ 5 ∈ gW.wlv.leafDirty ∧ 5 / 2 ^ 20 = dieKey 0 0 ∧
      5 % 2 ^ 20 / 160 = 0) ∧
    (gW2.stp.gapMoves.find 3 = some (GapMove.mk 699 700 GapStage.reading) ∧
      gW2.rowAtPosition 3 699 = some (gW.rowAtPosition 3 699).get! ∧
      gW2.rowPrograms? (gW.rowAtPosition 3 699).get! = false) ∧
    (gW2.wlv.loaded = false ∧ gW2.glb.memoryActive = true ∧ gW2.wlv.leaves.rising = true) ∧
    (5 < swathsPerDie) ∧
    (gW3.stp.gapMoves.find 3 = some (GapMove.mk 699 700 GapStage.recorded) ∧
      gW3.rowAtPosition 3 699 = some (gW.rowAtPosition 3 699).get!) := by
  and_intros <;> decide

/-- States and operands that meet the hypotheses of RetirementMovesSwathsToSpares, clause by clause. -/
theorem witness_RetirementMovesSwathsToSpares :
    (rt.wlv.loaded = true ∧ rt.retireDue (swathKey 0 0 5) RetireWhy.wear = true ∧
      rt.wlv.remap.find (swathKey 0 0 5) = none ∧ rt.remapCount 0 0 < 2048 ∧ 0 < rt.wlv.dies ∧ 5 ≤ lastSwath ∧
      (rt.slot 0).state = SlotSt.inService ∧ rt.adoption 0 0 = none ∧ RetireWhy.wear ≠ RetireWhy.error ∧
      rt.takeSpare 0 0 RetireWhy.wear = some (0, 528913, st1)) ∧
    (0 < rt.wlv.dies / 4 ∧ (rt.slot (moduleOf 7)).state = SlotSt.inService ∧
      rt.adoption (moduleOf 7) (moduleDie rt.wlv.dies 7 0) = none ∧
      (List.filter (fun a => a.slot == moduleOf 7) rt.wlv.adoptions).length < 4) ∧
    (9 < swathsPerDie ∧ rt.wlv.frozen.contains (swathKey 0 0 9) = true ∧
      rt.wlv.forcedOut.contains (swathKey 0 0 9) = false) ∧
    (7 < swathsPerDie ∧ rt.adoption 0 0 = none ∧
      rt.wlv.remap.find (swathKey 0 0 7) = some (Remap.mk true 3 600000 4095 0 7) ∧
      (∀ x ∈ rt.stp.progs, x.2.fails ≠ 2)) := by
  and_intros <;> first | decide | rfl

end Layout

namespace Reads

/-! States of the witnesses of Reads. -/

def rq (c : ReadClass) (st : ReadStatus) : ReadOp := ⟨c, 1, 0, 0, 0, st, [3], none, none, false, false, false, [], [], [], 0, 0, 0, 5, none⟩
def bf : Belay := ⟨.fill, false, .hp0, ⟨.rd, 0x100, 0#512, 0#64, false, .none, false⟩, 99999900, 0, true, false, 9#512, true, 0, false⟩
def rs (r : ReadOp) : State := { full with stp := { full.stp with reads := [(4, r)], nextRead := 5 }, bly := { Bly.reset with entries := [(3, bf)], nextOrder := 1 } }
def a0 : State := rs (rq .demand .queued)
def a1 : State := { a0 with wlv := { a0.wlv with cam := [1] } }
def c5 : Stored := { Stored.zero with plain := ⟨5#512,6#512,7#512,8#512⟩ }
def gp (st : ProgStatus) (n : Nat) (l : Nat) : Prog := ⟨.hostWriteBack, none, (full.place 1).ch, (full.place 1).die, 77, .sector l c5, st, 3, n, 0, 0, 0, 0⟩
def a2 : State := { a0 with stp := { a0.stp with progs := [(8, gp .running 0 1)], nextProg := 9 } }
def a3 : State := { a0 with stp := { a0.stp with progs := [(8, gp .running 4 1000)], nextProg := 9 } }
def a4 : State := rs (rq .prefetch .queued)
def a5 : State := { a4 with stp := { a4.stp with progs := [(8, gp .running 4 1000)], nextProg := 9 } }
def xd : ReadOp := { rq .demand .transferred with direct := true }
def st1 : State := rs xd
def xa : ReadOp := { rq .demand .around with around := true, members := List.range 16, confirmed := List.range 16 }
def st2 : State := rs xa
def st3 : State := {rs xa with shr := {full.shr with keyMap := [(0,5)]}}
def pCh : Chan := Fin.ofNat 72 (full.place 1).ch
def pDie : Die := Fin.ofNat 8 (full.place 1).die
def gs : State := { full with stp := { full.stp with progs := [(8, gp .suspended 1 1)], nextProg := 9 } }
def st4 : State := { gs with stp := { gs.stp with reads := [(4, {rq .demand .queued with ch := pCh, die := pDie})] } }
def gq : State := { full with stp := { full.stp with progs := [(8, { gp .queued 2 1 with sector := (full.place 1).sector})], nextProg := 9 }, reef := { Reef.reset with held := [(0, ⟨.setEqual, true, 5, 1, 5, 0, none, 0⟩)] } , mch := (List.range 72).map fun c => (c, { liveCh with dies := [(0, { DieState.reset with reload := true, clk := 77#48, bucket := 4 })] }), media := { full.media with driftBase := [((pCh.val*8)*256 + 3, -5)] } }

/-- States and operands that meet the hypotheses of HostReadsTakeTheirRouteAndTiers, clause by clause. -/
theorem witness_HostReadsTakeTheirRouteAndTiers :
    (a0.stp.reads.find 4 = some (rq ReadClass.demand ReadStatus.queued) ∧
      (rq ReadClass.demand ReadStatus.queued).status = ReadStatus.queued ∧
      (rq ReadClass.demand ReadStatus.queued).merges = false ∧
      (rq ReadClass.demand ReadStatus.queued).cls ≠ ReadClass.prefetch ∧
      a0.wlv.cam.contains (rq ReadClass.demand ReadStatus.queued).lsn = false ∧
      a0.heldCell (rq ReadClass.demand ReadStatus.queued).lsn = none ∧
      (a0.place (rq ReadClass.demand ReadStatus.queued).lsn).absent = false ∧
      (a0.ch (a0.place (rq ReadClass.demand ReadStatus.queued).lsn).ch).up = true ∧
      a0.underTest 3 ((a0.place (rq ReadClass.demand ReadStatus.queued).lsn).ch * 8 + (a0.place (rq ReadClass.demand ReadStatus.queued).lsn).die) = false ∧
      a0.reach (rowOf (rq ReadClass.demand ReadStatus.queued).lsn) (posOf (rq ReadClass.demand ReadStatus.queued).lsn) = Reach.free ∧
      a0.atRisk (a0.place (rq ReadClass.demand ReadStatus.queued).lsn) = false ∧
      a0.dieProg (a0.place (rq ReadClass.demand ReadStatus.queued).lsn).ch (a0.place (rq ReadClass.demand ReadStatus.queued).lsn).die = none ∧
      (a0.freeTag (a0.place (rq ReadClass.demand ReadStatus.queued).lsn).ch).isSome = true ∧
      a0.lanesUsed (a0.place (rq ReadClass.demand ReadStatus.queued).lsn).ch (a0.place (rq ReadClass.demand ReadStatus.queued).lsn).die none < 16) ∧
    (a1.stp.reads.find 4 = some (rq ReadClass.demand ReadStatus.queued) ∧
      (rq ReadClass.demand ReadStatus.queued).status = ReadStatus.queued ∧
      (rq ReadClass.demand ReadStatus.queued).merges = false ∧
      (rq ReadClass.demand ReadStatus.queued).cls ≠ ReadClass.prefetch ∧
      a1.wlv.cam.contains (rq ReadClass.demand ReadStatus.queued).lsn = true ∧
      (rq ReadClass.demand ReadStatus.queued).belays = [3] ∧ (rq ReadClass.demand ReadStatus.queued).way = none ∧
      a1.bly.entries.find 3 = some bf ∧ bf.orphan = false) ∧
    (a2.stp.reads.find 4 = some (rq ReadClass.demand ReadStatus.queued) ∧
      (rq ReadClass.demand ReadStatus.queued).status = ReadStatus.queued ∧
      (rq ReadClass.demand ReadStatus.queued).merges = false ∧
      (rq ReadClass.demand ReadStatus.queued).cls ≠ ReadClass.prefetch ∧
      a2.wlv.cam.contains (rq ReadClass.demand ReadStatus.queued).lsn = false ∧
      a2.heldCell (rq ReadClass.demand ReadStatus.queued).lsn = some c5) ∧
    (a3.stp.reads.find 4 = some (rq ReadClass.demand ReadStatus.queued) ∧
      (rq ReadClass.demand ReadStatus.queued).status = ReadStatus.queued ∧
      (rq ReadClass.demand ReadStatus.queued).merges = false ∧
      (rq ReadClass.demand ReadStatus.queued).cls ≠ ReadClass.prefetch ∧
      a3.wlv.cam.contains (rq ReadClass.demand ReadStatus.queued).lsn = false ∧
      a3.heldCell (rq ReadClass.demand ReadStatus.queued).lsn = none ∧
      (a3.place (rq ReadClass.demand ReadStatus.queued).lsn).absent = false ∧
      (a3.ch (a3.place (rq ReadClass.demand ReadStatus.queued).lsn).ch).up = true ∧
      a3.underTest 3 ((a3.place (rq ReadClass.demand ReadStatus.queued).lsn).ch * 8 + (a3.place (rq ReadClass.demand ReadStatus.queued).lsn).die) = false ∧
      a3.reach (rowOf (rq ReadClass.demand ReadStatus.queued).lsn) (posOf (rq ReadClass.demand ReadStatus.queued).lsn) = Reach.withdraw ∧
      (rq ReadClass.demand ReadStatus.queued).direct = false ∧
      16 ≤ (a3.candidates (rowOf (rq ReadClass.demand ReadStatus.queued).lsn) (posOf (rq ReadClass.demand ReadStatus.queued).lsn) [] false).length) ∧
    (a4.stp.reads.find 4 = some (rq ReadClass.prefetch ReadStatus.queued) ∧
      (rq ReadClass.prefetch ReadStatus.queued).status = ReadStatus.queued ∧
      (rq ReadClass.prefetch ReadStatus.queued).merges = false ∧
      (rq ReadClass.prefetch ReadStatus.queued).cls = ReadClass.prefetch ∧
      a4.prefetchOk (rq ReadClass.prefetch ReadStatus.queued) (a4.place (rq ReadClass.prefetch ReadStatus.queued).lsn) = true) ∧
    (a5.stp.reads.find 4 = some (rq ReadClass.prefetch ReadStatus.queued) ∧
      (rq ReadClass.prefetch ReadStatus.queued).status = ReadStatus.queued ∧
      (rq ReadClass.prefetch ReadStatus.queued).merges = false ∧
      (rq ReadClass.prefetch ReadStatus.queued).cls = ReadClass.prefetch ∧
      a5.prefetchOk (rq ReadClass.prefetch ReadStatus.queued) (a5.place (rq ReadClass.prefetch ReadStatus.queued).lsn) = false) ∧
    (st1.stp.reads.find 4 = some xd ∧ xd.dual = false ∧ xd.cls = ReadClass.demand ∧ xd.direct = true ∧
      xd.status = ReadStatus.transferred ∧
      st1.posOnSlot (st1.globalRow (rowOf xd.lsn)) ↑(Fin.ofNat 18 (full.place 1).slot) = posOf xd.lsn ∧
      st1.senseOk (rowOf xd.lsn) (posOf xd.lsn) (Sense.mk 13 false []) = true ∧ xd.belays = [3] ∧ xd.way = none ∧
      st1.bly.entries.find 3 = some bf ∧ bf.st = BelayState.fill ∧ bf.orphan = false) ∧
    (st1.stp.reads.find 4 = some xd ∧ xd.dual = false ∧ xd.cls = ReadClass.demand ∧ xd.direct = true ∧
      xd.status = ReadStatus.transferred ∧
      st1.posOnSlot (st1.globalRow (rowOf xd.lsn)) ↑(Fin.ofNat 18 (full.place 1).slot) = posOf xd.lsn ∧
      st1.senseOk (rowOf xd.lsn) (posOf xd.lsn) (Sense.mk 21 false []) = false ∧ xd.around = false ∧
      16 ≤ (st1.candidates (rowOf xd.lsn) (posOf xd.lsn) [] true).length) ∧
    (st2.stp.reads.find 4 = some xa ∧ xa.dual = false ∧ xa.around = true ∧ xa.status ≠ ReadStatus.done ∧
      16 ≤ xa.confirmed.length ∧ xa.direct = false ∧ st2.slotValid xa.lsn (st2.cell xa.lsn).slot = true) ∧
    (st3.stp.reads.find 4 = some xa ∧ xa.dual = false ∧ xa.around = true ∧ xa.status ≠ ReadStatus.done ∧
      16 ≤ xa.confirmed.length ∧ xa.direct = false ∧ st3.slotValid xa.lsn (st3.cell xa.lsn).slot = false ∧
      st3.wlv.poison.find xa.lsn = none) := by
  and_intros <;> decide

/-- States and operands that meet the hypotheses of ProgramsStartAndDriftClocksTick, clause by clause. -/
theorem witness_ProgramsStartAndDriftClocksTick :
    (gs.stp.progs.find 8 = some (gp ProgStatus.suspended 1 1) ∧
      gs.dieProg ↑pCh ↑pDie = some (8, gp ProgStatus.suspended 1 1) ∧
      (gp ProgStatus.suspended 1 1).status = ProgStatus.suspended ∧ (gs.ch ↑pCh).up = true ∧
      gs.hostReadOn ↑pCh ↑pDie = false) ∧
    (-128 ≤ 100 ∧ 100 < 105 ∧ (gs.ch ↑pCh).up = true ∧ bitOf (gs.ch ↑pCh).diesFailed ↑pDie = false) ∧
    (st4.stp.progs.find 8 = some (gp ProgStatus.suspended 1 1) ∧
      st4.dieProg ↑pCh ↑pDie = some (8, gp ProgStatus.suspended 1 1) ∧ st4.hostReadOn ↑pCh ↑pDie = true) ∧
    (gq.stp.progs.find 8 = some (let __src := gp ProgStatus.queued 2 1; Prog.mk __src.kind __src.set __src.ch __src.die (full.place 1).sector __src.data __src.status __src.tag __src.suspends __src.withdrawals __src.started __src.fails __src.pulseRun) ∧
      gq.dieTakes ↑pCh ↑pDie = true ∧
      List.find? (fun e => gq.startable (↑pCh) (↑pDie) e.2) gq.stp.progs = some (8, let __src := gp ProgStatus.queued 2 1; Prog.mk __src.kind __src.set __src.ch __src.die (full.place 1).sector __src.data __src.status __src.tag __src.suspends __src.withdrawals __src.started __src.fails __src.pulseRun) ∧
      gq.freeTag ↑pCh = some 0) ∧
    (((gq.ch ↑pCh).die 0).reload = true ∧ (gq.ch ↑pCh).up = true) ∧
    ((gq.ch ↑pCh).up = true ∧ gq.glb.replayDone = false ∧ gq.glb.replaying = false) := by
  and_intros <;> decide

end Reads

namespace Passes

/-! States of the witnesses of Passes. -/

def rq (c : ReadClass) (st : ReadStatus) : ReadOp := ⟨c, 1, 0, 0, 0, st, [], none, none, false, false, false, [], [], [], 0, 0, 0, 5, none⟩
def rs (r : ReadOp) : State := { full with stp := { full.stp with reads := [(4, r)], nextRead := 5 } }
def st1 : State := rs (rq .demand .done)
def st2 : State := rs (rq .prefetch .queued)
def st3 : State := rs (rq .prefetch .transferred)
def ptr : State := rs (rq .prefetch .transferred)
def st4 : State := (ptr.allocFill 1).1
def oos : State := { full with glb := { full.glb with level := .outOfService }}
def rowPlace (r : Nat) : Place := full.memberPlace (full.globalRow r) 5
def sw (w : Nat) (clk : BitVec 48) (_ch : Nat) : State := { full with mch := (List.range 72).map fun c => (c, { liveCh with dies := (List.range 8).map fun d => (d, { DieState.reset with sweepRow := w, clk := clk, provisional := false }) }) }
def st6 : State := sw (rowPlace 7).sector 0x7FFFFFFFFFFF#48 0
def lastW : Nat := (524289*4096)
def st7 : State := sw lastW 0#48 0
def sc : State := { full with reef := { Reef.reset with held := [(0, ⟨.scrubPass, true, 5, 1, 5, 0, none, 0⟩)] }, stp := { full.stp with scrubRow := 892132 } }
def st8 : State := { sc with stp := { sc.stp with rowTouched := [892132]}}
def t3 : State := { full with stp := { full.stp with tier3Queue := [5, 6], tier3Active := [⟨9, 0⟩] }, wlv := { full.wlv with cam := [5,6,9], poison := [(9, ⟨3#4, .pending, 0#64⟩), (11, ⟨3#4, .host, 0#64⟩), (12, ⟨1#4, .host, 0#64⟩)], poisonDirty := [12, 13] }, media := { full.media with poison := [(13, ⟨3#4, .host, 0#64⟩)] }, glb := { full.glb with replayDone := true } }
def st9 : State := {t3 with mst := Mst.reset}

/-- States and operands that meet the hypotheses of BackgroundReadsCheckAndRewrite, clause by clause. -/
theorem witness_BackgroundReadsCheckAndRewrite :
    (st1.stp.reads.find 4 = some (rq ReadClass.demand ReadStatus.done) ∧
      (rq ReadClass.demand ReadStatus.done).status = ReadStatus.done) ∧
    (st2.stp.reads.find 4 = some (rq ReadClass.prefetch ReadStatus.queued) ∧
      (rq ReadClass.prefetch ReadStatus.queued).cls = ReadClass.prefetch ∧
      (rq ReadClass.prefetch ReadStatus.queued).status = ReadStatus.queued ∧
      st2.elapsed (rq ReadClass.prefetch ReadStatus.queued).accepted (us 2) = true) ∧
    (st3.stp.reads.find 4 = some (rq ReadClass.prefetch ReadStatus.transferred) ∧
      (rq ReadClass.prefetch ReadStatus.transferred).cls = ReadClass.prefetch ∧
      (rq ReadClass.prefetch ReadStatus.transferred).status ≠ ReadStatus.queued) ∧
    (st3.stp.reads.find 4 = some (rq ReadClass.prefetch ReadStatus.transferred) ∧
      (rq ReadClass.prefetch ReadStatus.transferred).cls = ReadClass.prefetch ∧
      (rq ReadClass.prefetch ReadStatus.transferred).status = ReadStatus.transferred ∧ (12 < 13 ∨ false = true)) ∧
    (st3.glb.level ≠ Level.outOfService ∧ (st3.ch 71).up = true ∧ st3.dieAway 71 0 = false ∧
      bitOf (st3.ch 71).diesFailed 0 = false ∧
      st3.memberAt 71 0 ((st3.ch 71).die 0).sweepRow = some (st3.rowOfDie (st3.leafKeyAt (moduleOf 71) (moduleDie st3.wlv.dies 71 0) (((st3.ch 71).die 0).sweepRow / 4096) / 2 ^ 20 % 32) (st3.leafKeyAt (moduleOf 71) (moduleDie st3.wlv.dies 71 0) (((st3.ch 71).die 0).sweepRow / 4096) % 2 ^ 20 * 4096 + ((st3.ch 71).die 0).sweepRow % 4096) / 1048577 * 2 ^ 20 + feistelInv (regionKeys st3.wearKey (st3.rowOfDie (st3.leafKeyAt (moduleOf 71) (moduleDie st3.wlv.dies 71 0) (((st3.ch 71).die 0).sweepRow / 4096) / 2 ^ 20 % 32) (st3.leafKeyAt (moduleOf 71) (moduleDie st3.wlv.dies 71 0) (((st3.ch 71).die 0).sweepRow / 4096) % 2 ^ 20 * 4096 + ((st3.ch 71).die 0).sweepRow % 4096) / 1048577)) (((if (st3.region (st3.rowOfDie (st3.leafKeyAt (moduleOf 71) (moduleDie st3.wlv.dies 71 0) (((st3.ch 71).die 0).sweepRow / 4096) / 2 ^ 20 % 32) (st3.leafKeyAt (moduleOf 71) (moduleDie st3.wlv.dies 71 0) (((st3.ch 71).die 0).sweepRow / 4096) % 2 ^ 20 * 4096 + ((st3.ch 71).die 0).sweepRow % 4096) / 1048577)).gap < st3.rowOfDie (st3.leafKeyAt (moduleOf 71) (moduleDie st3.wlv.dies 71 0) (((st3.ch 71).die 0).sweepRow / 4096) / 2 ^ 20 % 32) (st3.leafKeyAt (moduleOf 71) (moduleDie st3.wlv.dies 71 0) (((st3.ch 71).die 0).sweepRow / 4096) % 2 ^ 20 * 4096 + ((st3.ch 71).die 0).sweepRow % 4096) % 1048577 then st3.rowOfDie (st3.leafKeyAt (moduleOf 71) (moduleDie st3.wlv.dies 71 0) (((st3.ch 71).die 0).sweepRow / 4096) / 2 ^ 20 % 32) (st3.leafKeyAt (moduleOf 71) (moduleDie st3.wlv.dies 71 0) (((st3.ch 71).die 0).sweepRow / 4096) % 2 ^ 20 * 4096 + ((st3.ch 71).die 0).sweepRow % 4096) % 1048577 - 1 else st3.rowOfDie (st3.leafKeyAt (moduleOf 71) (moduleDie st3.wlv.dies 71 0) (((st3.ch 71).die 0).sweepRow / 4096) / 2 ^ 20 % 32) (st3.leafKeyAt (moduleOf 71) (moduleDie st3.wlv.dies 71 0) (((st3.ch 71).die 0).sweepRow / 4096) % 2 ^ 20 * 4096 + ((st3.ch 71).die 0).sweepRow % 4096) % 1048577) + 1048576 - (st3.region (st3.rowOfDie (st3.leafKeyAt (moduleOf 71) (moduleDie st3.wlv.dies 71 0) (((st3.ch 71).die 0).sweepRow / 4096) / 2 ^ 20 % 32) (st3.leafKeyAt (moduleOf 71) (moduleDie st3.wlv.dies 71 0) (((st3.ch 71).die 0).sweepRow / 4096) % 2 ^ 20 * 4096 + ((st3.ch 71).die 0).sweepRow % 4096) / 1048577)).start % 1048576) % 1048576), st3.posOnSlot (st3.rowOfDie (st3.leafKeyAt (moduleOf 71) (moduleDie st3.wlv.dies 71 0) (((st3.ch 71).die 0).sweepRow / 4096) / 2 ^ 20 % 32) (st3.leafKeyAt (moduleOf 71) (moduleDie st3.wlv.dies 71 0) (((st3.ch 71).die 0).sweepRow / 4096) % 2 ^ 20 * 4096 + ((st3.ch 71).die 0).sweepRow % 4096)) (moduleOf 71)) ∧
      st3.rowBusy (st3.rowOfDie (st3.leafKeyAt (moduleOf 71) (moduleDie st3.wlv.dies 71 0) (((st3.ch 71).die 0).sweepRow / 4096) / 2 ^ 20 % 32) (st3.leafKeyAt (moduleOf 71) (moduleDie st3.wlv.dies 71 0) (((st3.ch 71).die 0).sweepRow / 4096) % 2 ^ 20 * 4096 + ((st3.ch 71).die 0).sweepRow % 4096) / 1048577 * 2 ^ 20 + feistelInv (regionKeys st3.wearKey (st3.rowOfDie (st3.leafKeyAt (moduleOf 71) (moduleDie st3.wlv.dies 71 0) (((st3.ch 71).die 0).sweepRow / 4096) / 2 ^ 20 % 32) (st3.leafKeyAt (moduleOf 71) (moduleDie st3.wlv.dies 71 0) (((st3.ch 71).die 0).sweepRow / 4096) % 2 ^ 20 * 4096 + ((st3.ch 71).die 0).sweepRow % 4096) / 1048577)) (((if (st3.region (st3.rowOfDie (st3.leafKeyAt (moduleOf 71) (moduleDie st3.wlv.dies 71 0) (((st3.ch 71).die 0).sweepRow / 4096) / 2 ^ 20 % 32) (st3.leafKeyAt (moduleOf 71) (moduleDie st3.wlv.dies 71 0) (((st3.ch 71).die 0).sweepRow / 4096) % 2 ^ 20 * 4096 + ((st3.ch 71).die 0).sweepRow % 4096) / 1048577)).gap < st3.rowOfDie (st3.leafKeyAt (moduleOf 71) (moduleDie st3.wlv.dies 71 0) (((st3.ch 71).die 0).sweepRow / 4096) / 2 ^ 20 % 32) (st3.leafKeyAt (moduleOf 71) (moduleDie st3.wlv.dies 71 0) (((st3.ch 71).die 0).sweepRow / 4096) % 2 ^ 20 * 4096 + ((st3.ch 71).die 0).sweepRow % 4096) % 1048577 then st3.rowOfDie (st3.leafKeyAt (moduleOf 71) (moduleDie st3.wlv.dies 71 0) (((st3.ch 71).die 0).sweepRow / 4096) / 2 ^ 20 % 32) (st3.leafKeyAt (moduleOf 71) (moduleDie st3.wlv.dies 71 0) (((st3.ch 71).die 0).sweepRow / 4096) % 2 ^ 20 * 4096 + ((st3.ch 71).die 0).sweepRow % 4096) % 1048577 - 1 else st3.rowOfDie (st3.leafKeyAt (moduleOf 71) (moduleDie st3.wlv.dies 71 0) (((st3.ch 71).die 0).sweepRow / 4096) / 2 ^ 20 % 32) (st3.leafKeyAt (moduleOf 71) (moduleDie st3.wlv.dies 71 0) (((st3.ch 71).die 0).sweepRow / 4096) % 2 ^ 20 * 4096 + ((st3.ch 71).die 0).sweepRow % 4096) % 1048577) + 1048576 - (st3.region (st3.rowOfDie (st3.leafKeyAt (moduleOf 71) (moduleDie st3.wlv.dies 71 0) (((st3.ch 71).die 0).sweepRow / 4096) / 2 ^ 20 % 32) (st3.leafKeyAt (moduleOf 71) (moduleDie st3.wlv.dies 71 0) (((st3.ch 71).die 0).sweepRow / 4096) % 2 ^ 20 * 4096 + ((st3.ch 71).die 0).sweepRow % 4096) / 1048577)).start % 1048576) % 1048576)) = false ∧
      2 ≤ st3.posOnSlot (st3.rowOfDie (st3.leafKeyAt (moduleOf 71) (moduleDie st3.wlv.dies 71 0) (((st3.ch 71).die 0).sweepRow / 4096) / 2 ^ 20 % 32) (st3.leafKeyAt (moduleOf 71) (moduleDie st3.wlv.dies 71 0) (((st3.ch 71).die 0).sweepRow / 4096) % 2 ^ 20 * 4096 + ((st3.ch 71).die 0).sweepRow % 4096)) (moduleOf 71) ∧
      st3.senseOk (st3.rowOfDie (st3.leafKeyAt (moduleOf 71) (moduleDie st3.wlv.dies 71 0) (((st3.ch 71).die 0).sweepRow / 4096) / 2 ^ 20 % 32) (st3.leafKeyAt (moduleOf 71) (moduleDie st3.wlv.dies 71 0) (((st3.ch 71).die 0).sweepRow / 4096) % 2 ^ 20 * 4096 + ((st3.ch 71).die 0).sweepRow % 4096) / 1048577 * 2 ^ 20 + feistelInv (regionKeys st3.wearKey (st3.rowOfDie (st3.leafKeyAt (moduleOf 71) (moduleDie st3.wlv.dies 71 0) (((st3.ch 71).die 0).sweepRow / 4096) / 2 ^ 20 % 32) (st3.leafKeyAt (moduleOf 71) (moduleDie st3.wlv.dies 71 0) (((st3.ch 71).die 0).sweepRow / 4096) % 2 ^ 20 * 4096 + ((st3.ch 71).die 0).sweepRow % 4096) / 1048577)) (((if (st3.region (st3.rowOfDie (st3.leafKeyAt (moduleOf 71) (moduleDie st3.wlv.dies 71 0) (((st3.ch 71).die 0).sweepRow / 4096) / 2 ^ 20 % 32) (st3.leafKeyAt (moduleOf 71) (moduleDie st3.wlv.dies 71 0) (((st3.ch 71).die 0).sweepRow / 4096) % 2 ^ 20 * 4096 + ((st3.ch 71).die 0).sweepRow % 4096) / 1048577)).gap < st3.rowOfDie (st3.leafKeyAt (moduleOf 71) (moduleDie st3.wlv.dies 71 0) (((st3.ch 71).die 0).sweepRow / 4096) / 2 ^ 20 % 32) (st3.leafKeyAt (moduleOf 71) (moduleDie st3.wlv.dies 71 0) (((st3.ch 71).die 0).sweepRow / 4096) % 2 ^ 20 * 4096 + ((st3.ch 71).die 0).sweepRow % 4096) % 1048577 then st3.rowOfDie (st3.leafKeyAt (moduleOf 71) (moduleDie st3.wlv.dies 71 0) (((st3.ch 71).die 0).sweepRow / 4096) / 2 ^ 20 % 32) (st3.leafKeyAt (moduleOf 71) (moduleDie st3.wlv.dies 71 0) (((st3.ch 71).die 0).sweepRow / 4096) % 2 ^ 20 * 4096 + ((st3.ch 71).die 0).sweepRow % 4096) % 1048577 - 1 else st3.rowOfDie (st3.leafKeyAt (moduleOf 71) (moduleDie st3.wlv.dies 71 0) (((st3.ch 71).die 0).sweepRow / 4096) / 2 ^ 20 % 32) (st3.leafKeyAt (moduleOf 71) (moduleDie st3.wlv.dies 71 0) (((st3.ch 71).die 0).sweepRow / 4096) % 2 ^ 20 * 4096 + ((st3.ch 71).die 0).sweepRow % 4096) % 1048577) + 1048576 - (st3.region (st3.rowOfDie (st3.leafKeyAt (moduleOf 71) (moduleDie st3.wlv.dies 71 0) (((st3.ch 71).die 0).sweepRow / 4096) / 2 ^ 20 % 32) (st3.leafKeyAt (moduleOf 71) (moduleDie st3.wlv.dies 71 0) (((st3.ch 71).die 0).sweepRow / 4096) % 2 ^ 20 * 4096 + ((st3.ch 71).die 0).sweepRow % 4096) / 1048577)).start % 1048576) % 1048576)) (st3.posOnSlot (st3.rowOfDie (st3.leafKeyAt (moduleOf 71) (moduleDie st3.wlv.dies 71 0) (((st3.ch 71).die 0).sweepRow / 4096) / 2 ^ 20 % 32) (st3.leafKeyAt (moduleOf 71) (moduleDie st3.wlv.dies 71 0) (((st3.ch 71).die 0).sweepRow / 4096) % 2 ^ 20 * 4096 + ((st3.ch 71).die 0).sweepRow % 4096)) (moduleOf 71)) (Sense.mk 13 false []) = true ∧
      (st3.memberBucket (st3.memberPlace (st3.globalRow (st3.rowOfDie (st3.leafKeyAt (moduleOf 71) (moduleDie st3.wlv.dies 71 0) (((st3.ch 71).die 0).sweepRow / 4096) / 2 ^ 20 % 32) (st3.leafKeyAt (moduleOf 71) (moduleDie st3.wlv.dies 71 0) (((st3.ch 71).die 0).sweepRow / 4096) % 2 ^ 20 * 4096 + ((st3.ch 71).die 0).sweepRow % 4096) / 1048577 * 2 ^ 20 + feistelInv (regionKeys st3.wearKey (st3.rowOfDie (st3.leafKeyAt (moduleOf 71) (moduleDie st3.wlv.dies 71 0) (((st3.ch 71).die 0).sweepRow / 4096) / 2 ^ 20 % 32) (st3.leafKeyAt (moduleOf 71) (moduleDie st3.wlv.dies 71 0) (((st3.ch 71).die 0).sweepRow / 4096) % 2 ^ 20 * 4096 + ((st3.ch 71).die 0).sweepRow % 4096) / 1048577)) (((if (st3.region (st3.rowOfDie (st3.leafKeyAt (moduleOf 71) (moduleDie st3.wlv.dies 71 0) (((st3.ch 71).die 0).sweepRow / 4096) / 2 ^ 20 % 32) (st3.leafKeyAt (moduleOf 71) (moduleDie st3.wlv.dies 71 0) (((st3.ch 71).die 0).sweepRow / 4096) % 2 ^ 20 * 4096 + ((st3.ch 71).die 0).sweepRow % 4096) / 1048577)).gap < st3.rowOfDie (st3.leafKeyAt (moduleOf 71) (moduleDie st3.wlv.dies 71 0) (((st3.ch 71).die 0).sweepRow / 4096) / 2 ^ 20 % 32) (st3.leafKeyAt (moduleOf 71) (moduleDie st3.wlv.dies 71 0) (((st3.ch 71).die 0).sweepRow / 4096) % 2 ^ 20 * 4096 + ((st3.ch 71).die 0).sweepRow % 4096) % 1048577 then st3.rowOfDie (st3.leafKeyAt (moduleOf 71) (moduleDie st3.wlv.dies 71 0) (((st3.ch 71).die 0).sweepRow / 4096) / 2 ^ 20 % 32) (st3.leafKeyAt (moduleOf 71) (moduleDie st3.wlv.dies 71 0) (((st3.ch 71).die 0).sweepRow / 4096) % 2 ^ 20 * 4096 + ((st3.ch 71).die 0).sweepRow % 4096) % 1048577 - 1 else st3.rowOfDie (st3.leafKeyAt (moduleOf 71) (moduleDie st3.wlv.dies 71 0) (((st3.ch 71).die 0).sweepRow / 4096) / 2 ^ 20 % 32) (st3.leafKeyAt (moduleOf 71) (moduleDie st3.wlv.dies 71 0) (((st3.ch 71).die 0).sweepRow / 4096) % 2 ^ 20 * 4096 + ((st3.ch 71).die 0).sweepRow % 4096) % 1048577) + 1048576 - (st3.region (st3.rowOfDie (st3.leafKeyAt (moduleOf 71) (moduleDie st3.wlv.dies 71 0) (((st3.ch 71).die 0).sweepRow / 4096) / 2 ^ 20 % 32) (st3.leafKeyAt (moduleOf 71) (moduleDie st3.wlv.dies 71 0) (((st3.ch 71).die 0).sweepRow / 4096) % 2 ^ 20 * 4096 + ((st3.ch 71).die 0).sweepRow % 4096) / 1048577)).start % 1048576) % 1048576))) (st3.posOnSlot (st3.rowOfDie (st3.leafKeyAt (moduleOf 71) (moduleDie st3.wlv.dies 71 0) (((st3.ch 71).die 0).sweepRow / 4096) / 2 ^ 20 % 32) (st3.leafKeyAt (moduleOf 71) (moduleDie st3.wlv.dies 71 0) (((st3.ch 71).die 0).sweepRow / 4096) % 2 ^ 20 * 4096 + ((st3.ch 71).die 0).sweepRow % 4096)) (moduleOf 71))) (st3.rowOfDie (st3.leafKeyAt (moduleOf 71) (moduleDie st3.wlv.dies 71 0) (((st3.ch 71).die 0).sweepRow / 4096) / 2 ^ 20 % 32) (st3.leafKeyAt (moduleOf 71) (moduleDie st3.wlv.dies 71 0) (((st3.ch 71).die 0).sweepRow / 4096) % 2 ^ 20 * 4096 + ((st3.ch 71).die 0).sweepRow % 4096) / 1048577 * 2 ^ 20 + feistelInv (regionKeys st3.wearKey (st3.rowOfDie (st3.leafKeyAt (moduleOf 71) (moduleDie st3.wlv.dies 71 0) (((st3.ch 71).die 0).sweepRow / 4096) / 2 ^ 20 % 32) (st3.leafKeyAt (moduleOf 71) (moduleDie st3.wlv.dies 71 0) (((st3.ch 71).die 0).sweepRow / 4096) % 2 ^ 20 * 4096 + ((st3.ch 71).die 0).sweepRow % 4096) / 1048577)) (((if (st3.region (st3.rowOfDie (st3.leafKeyAt (moduleOf 71) (moduleDie st3.wlv.dies 71 0) (((st3.ch 71).die 0).sweepRow / 4096) / 2 ^ 20 % 32) (st3.leafKeyAt (moduleOf 71) (moduleDie st3.wlv.dies 71 0) (((st3.ch 71).die 0).sweepRow / 4096) % 2 ^ 20 * 4096 + ((st3.ch 71).die 0).sweepRow % 4096) / 1048577)).gap < st3.rowOfDie (st3.leafKeyAt (moduleOf 71) (moduleDie st3.wlv.dies 71 0) (((st3.ch 71).die 0).sweepRow / 4096) / 2 ^ 20 % 32) (st3.leafKeyAt (moduleOf 71) (moduleDie st3.wlv.dies 71 0) (((st3.ch 71).die 0).sweepRow / 4096) % 2 ^ 20 * 4096 + ((st3.ch 71).die 0).sweepRow % 4096) % 1048577 then st3.rowOfDie (st3.leafKeyAt (moduleOf 71) (moduleDie st3.wlv.dies 71 0) (((st3.ch 71).die 0).sweepRow / 4096) / 2 ^ 20 % 32) (st3.leafKeyAt (moduleOf 71) (moduleDie st3.wlv.dies 71 0) (((st3.ch 71).die 0).sweepRow / 4096) % 2 ^ 20 * 4096 + ((st3.ch 71).die 0).sweepRow % 4096) % 1048577 - 1 else st3.rowOfDie (st3.leafKeyAt (moduleOf 71) (moduleDie st3.wlv.dies 71 0) (((st3.ch 71).die 0).sweepRow / 4096) / 2 ^ 20 % 32) (st3.leafKeyAt (moduleOf 71) (moduleDie st3.wlv.dies 71 0) (((st3.ch 71).die 0).sweepRow / 4096) % 2 ^ 20 * 4096 + ((st3.ch 71).die 0).sweepRow % 4096) % 1048577) + 1048576 - (st3.region (st3.rowOfDie (st3.leafKeyAt (moduleOf 71) (moduleDie st3.wlv.dies 71 0) (((st3.ch 71).die 0).sweepRow / 4096) / 2 ^ 20 % 32) (st3.leafKeyAt (moduleOf 71) (moduleDie st3.wlv.dies 71 0) (((st3.ch 71).die 0).sweepRow / 4096) % 2 ^ 20 * 4096 + ((st3.ch 71).die 0).sweepRow % 4096) / 1048577)).start % 1048576) % 1048576)) (st3.posOnSlot (st3.rowOfDie (st3.leafKeyAt (moduleOf 71) (moduleDie st3.wlv.dies 71 0) (((st3.ch 71).die 0).sweepRow / 4096) / 2 ^ 20 % 32) (st3.leafKeyAt (moduleOf 71) (moduleDie st3.wlv.dies 71 0) (((st3.ch 71).die 0).sweepRow / 4096) % 2 ^ 20 * 4096 + ((st3.ch 71).die 0).sweepRow % 4096)) (moduleOf 71))).2 < st3.stp.rewriteBucket) ∧
    (ptr.stp.reads.find 4 = some (rq ReadClass.prefetch ReadStatus.transferred) ∧
      (rq ReadClass.prefetch ReadStatus.transferred).cls = ReadClass.prefetch ∧
      (rq ReadClass.prefetch ReadStatus.transferred).status = ReadStatus.transferred ∧ 12 ≤ 12 ∧
      ptr.slotValid (rq ReadClass.prefetch ReadStatus.transferred).lsn (ptr.cell (rq ReadClass.prefetch ReadStatus.transferred).lsn).slot = true ∧
      ptr.findWay (rq ReadClass.prefetch ReadStatus.transferred).lsn = none ∧
      ptr.matchVictim (rq ReadClass.prefetch ReadStatus.transferred).lsn = none ∧
      ptr.cached (sliceHash (rq ReadClass.prefetch ReadStatus.transferred).lsn) = true ∧
      ptr.allocFill (rq ReadClass.prefetch ReadStatus.transferred).lsn = (st4, some (ptr.allocFill 1).2.get!)) ∧
    (oos.glb.level = Level.outOfService) ∧
    (st6.glb.level ≠ Level.outOfService ∧ (st6.ch ↑(Fin.ofNat 72 (rowPlace 7).ch)).up = true ∧
      st6.dieAway ↑(Fin.ofNat 72 (rowPlace 7).ch) ↑(Fin.ofNat 8 (rowPlace 7).die) = false ∧
      bitOf (st6.ch ↑(Fin.ofNat 72 (rowPlace 7).ch)).diesFailed ↑(Fin.ofNat 8 (rowPlace 7).die) = false ∧
      st6.memberAt (↑(Fin.ofNat 72 (rowPlace 7).ch)) (↑(Fin.ofNat 8 (rowPlace 7).die)) ((st6.ch ↑(Fin.ofNat 72 (rowPlace 7).ch)).die ↑(Fin.ofNat 8 (rowPlace 7).die)).sweepRow = some (7, 5) ∧
      st6.rowBusy 7 = false ∧ 2 ≤ 5 ∧ st6.senseOk 7 5 (Sense.mk 3 false []) = true ∧
      st6.stp.rewriteBucket ≤ (st6.memberBucket (st6.memberPlace (st6.globalRow 7) 5) 7 5).2) ∧
    (st7.glb.level ≠ Level.outOfService ∧ (st7.ch 0).up = true ∧ st7.dieAway 0 0 = false ∧
      bitOf (st7.ch 0).diesFailed 0 = false ∧ st7.memberAt 0 0 ((st7.ch 0).die 0).sweepRow = none ∧
      st7.nextSweep (moduleOf 0) (moduleDie st7.wlv.dies 0 0) ((st7.ch 0).die 0).sweepRow = some (lastW + 1)) ∧
    (sc.stp.scrubEnable = true ∧ sc.glb.level ≠ Level.outOfService ∧
      (List.any sc.reef.held fun e => e.2.holder == Holder.scrubPass) = true ∧
      sc.stp.rowTouched.contains sc.scrubTarget = false ∧ sc.rowAt sc.scrubTarget = some 0 ∧
      (∀ pos < 18, (sc.memberPlace (sc.globalRow 0) pos).absent = false) ∧ sc.stp.scrubHead = [] ∧
      sc.stp.scrubRow + 1 < sc.totalRows) ∧
    (sc.stp.scrubEnable = true ∧ sc.glb.level ≠ Level.outOfService ∧
      (List.any sc.reef.held fun e => e.2.holder == Holder.scrubPass) = true ∧
      sc.stp.rowTouched.contains sc.scrubTarget = false ∧ sc.rowAt sc.scrubTarget = some 0 ∧
      (∀ pos < 18, (sc.memberPlace (sc.globalRow 0) pos).absent = false) ∧ sc.stp.scrubHead = [] ∧
      sc.stp.scrubRow + 1 < sc.totalRows ∧ scrubCheck (3#2112) (gfPow 4 3#2112) = ScrubResult.member 4) ∧
    (sc.stp.scrubEnable = true ∧ sc.glb.level ≠ Level.outOfService ∧
      (List.any sc.reef.held fun e => e.2.holder == Holder.scrubPass) = true ∧
      sc.stp.rowTouched.contains sc.scrubTarget = false ∧ sc.rowAt sc.scrubTarget = some 0 ∧
      (∀ pos < 18, (sc.memberPlace (sc.globalRow 0) pos).absent = false) ∧ sc.stp.scrubHead = [] ∧
      sc.stp.scrubRow + 1 < sc.totalRows ∧ scrubCheck 3#2112 32069089143#2112 = ScrubResult.unlocated) ∧
    (st8.stp.scrubEnable = true ∧ st8.glb.level ≠ Level.outOfService ∧
      (List.any st8.reef.held fun e => e.2.holder == Holder.scrubPass) = true ∧
      st8.stp.rowTouched.contains st8.scrubTarget = true ∧ st8.scrubTarget ∉ st8.stp.scrubDiscarded ∧
      st8.stp.scrubRow + 1 < st8.totalRows) := by
  and_intros <;> decide

/-- States and operands that meet the hypotheses of DeepRecoveryAndPoisonFollowTheMetadata, clause by clause. -/
theorem witness_DeepRecoveryAndPoisonFollowTheMetadata :
    (t3.stp.tier3Queue = [5, 6] ∧ t3.mst.running = true ∧ t3.stp.tier3Active.length < 64) ∧
    (t3.presentSlots ≠ []) ∧
    (t3.mst.running = true ∧ (∃ x ∈ t3.stp.tier3Active, x.lsn = 9)) ∧
    (t3.mst.running = true ∧ (∃ x ∈ t3.stp.tier3Active, x.lsn = 9) ∧ List.length t3.wlv.poison < 1048576) ∧
    (st9.mst.running = false) ∧
    (t3.wlv.poison.find 11 = some (Poison.mk (3#4) PoisonState.host 0#64) ∧ t3.glb.replayDone = true ∧
      t3.wlv.loaded = true ∧ PoisonState.host ≠ PoisonState.pending ∧ t3.blockDirty 11 = false) := by
  and_intros <;> decide

end Passes

namespace Channels

/-! States of the witnesses of Channels. -/

def r7 (crc : Bool) (st : BitVec 8) : Resp := ⟨3, 2, st, crc⟩
def pg (st : ProgStatus) (fails : Nat) : Prog := ⟨.hostWriteBack, none, 5, 2, 999, .sector 1 { Stored.zero with plain := ⟨5#512,6#512,7#512,8#512⟩ }, st, 3, 1, 0, 99980000, fails, 50⟩
def sp (g : Prog) : State := { full with stp := { full.stp with progs := [(8, g)], nextProg := 9 } }
def rd7 (st : ReadStatus) (n : Nat) : ReadOp := ⟨.demand, 1, 5, 2, 999, st, [], none, none, false, true, false, [], [], [], 0, 3, n, 5, none⟩
def sr (g : ReadOp) : State := { full with stp := { full.stp with reads := [(8, g)], nextRead := 9 } }
def st1 : State := sp (pg .running 0)
def st3 : State := sp (pg .withdrawn 1)
def st4 : State := sp (pg .suspending 1)
def st5 : State := sr (rd7 .sensing 0)
def st6 : State := sr (rd7 .ready 0)
def st7 : State := sp (pg .suspending 0)
def p28 (n : Nat) : Prog := { pg .running 0 with pulseRun := 0, started := 100000000 - n }
def st8 : State := sp (p28 32000)
def st10 : State := sp (p28 56000)
def e4 : State := { full with mch := [(5, { liveCh with dies := [(2, { DieState.reset with provisional := false, expiries := [99999000, 99999001, 99999002], ackResent := true })]})] }
def tr (f : Nat) : State := { full with mch := [(5, { Mch.reset with trainFails := f })] }
def st12 : State := tr 0
def st13 : State := tr 1
def st14 : State := { full with mch := [(5, { liveCh with crcTimes := List.replicate 8 99999000 }), (6, { liveCh with train := 2#2 })] }
def rbd (st : SlotSt) (m : Option Nat) (row : Nat) : State := { full with seq := { full.seq with mods := (List.range 18).map fun k => (k, if k = 3 then { liveMod with state := st } else liveMod) }, stp := { full.stp with rebuildModule := m, rebuildRow := row }, reef := { Reef.reset with held := [(0, ⟨.rebuildStream, true, 5, 1, 5, 0, none, 0⟩)] } }
def st15 : State := rbd .waiting none 0
def st16 : State := rbd .rebuilding (some 3) 0
def st17 : State := rbd .rebuilding (some 3) (65536*1048577 - 1024)
def idn : Identity := ⟨true, 0x4E55#16, 1#8, 32#8, 77#64, 0x0A11#16, 0#128⟩
def md (st : SlotSt) : State := { full with seq := { full.seq with autoAdmit := true, mods := (List.range 18).map fun k => (k, if k = 3 then { liveMod with state := st, ident := some idn } else liveMod) }, media := { full.media with setId := some 5#128, members := [(3, ⟨77#64, .out⟩)] } }
def st18 : State := md .inService
def st19 : State := md .retiring
def st20 : State := { md .retiring with seq := { (md .retiring).seq with state := .strike } }
def me : State := { md .empty with seq := { full.seq with mods := [] } }
def st21 : State := md .training

/-- States and operands that meet the hypotheses of ModuleResponsesEndReadsAndPrograms, clause by clause. -/
theorem witness_ModuleResponsesEndReadsAndPrograms :
    ((st1.ch 5).linkUp = true ∧ (r7 false 0#8).crcOk = false) ∧
    ((st1.ch 5).linkUp = true ∧ (r7 true 2#8).crcOk = true) ∧
    ((st1.ch 5).linkUp = true ∧ (r7 true 2#8).crcOk = true ∧ (r7 true 2#8).status = 2#8 ∧
      st1.dieProg 5 ↑(r7 true 2#8).die = some (8, pg ProgStatus.running 0) ∧
      st1.stp.progs.find 8 = some (pg ProgStatus.running 0) ∧ (pg ProgStatus.running 0).tag = ↑(r7 true 2#8).tag) ∧
    ((st1.ch 5).linkUp = true ∧ (r7 true 2#8).crcOk = true ∧
      st1.dieProg 5 ↑(r7 true 2#8).die = some (8, pg ProgStatus.running 0) ∧
      st1.stp.progs.find 8 = some (pg ProgStatus.running 0) ∧ 8 < st1.stp.nextProg ∧
      (pg ProgStatus.running 0).status = ProgStatus.running ∧
      (pg ProgStatus.running 0).data = ProgData.sector 1 (let __src := Stored.zero; Stored.mk (Four.mk 5#512 6#512 7#512 8#512) __src.key __src.slot __src.poison __src.stamp) ∧
      (pg ProgStatus.running 0).kind ≠ ProgKind.unmapped) ∧
    ((st1.ch 5).linkUp = true ∧ (r7 true 2#8).crcOk = true ∧
      st1.dieProg 5 ↑(r7 true 2#8).die = some (8, pg ProgStatus.running 0) ∧
      st1.stp.progs.find 8 = some (pg ProgStatus.running 0) ∧ 8 < st1.stp.nextProg ∧
      (pg ProgStatus.running 0).status ≠ ProgStatus.withdrawn ∧ BitVec.toInt (r7 true 2#8).status < 105) ∧
    ((st1.ch 5).linkUp = true ∧ (r7 true 16#8).crcOk = true ∧
      st1.dieProg 5 ↑(r7 true 16#8).die = some (8, pg ProgStatus.running 0) ∧
      st1.stp.progs.find 8 = some (pg ProgStatus.running 0) ∧ 8 < st1.stp.nextProg ∧
      (r7 true 16#8).status = 16#8 ∧ (pg ProgStatus.running 0).status = ProgStatus.running) ∧
    ((st3.ch 5).linkUp = true ∧ (r7 true 16#8).crcOk = true ∧
      st3.dieProg 5 ↑(r7 true 16#8).die = some (8, pg ProgStatus.withdrawn 1) ∧
      st3.stp.progs.find 8 = some (pg ProgStatus.withdrawn 1) ∧ 8 < st3.stp.nextProg ∧
      (pg ProgStatus.withdrawn 1).status = ProgStatus.withdrawn) ∧
    ((st4.ch 5).linkUp = true ∧ (r7 true 160#8).crcOk = true ∧
      st4.dieProg 5 ↑(r7 true 160#8).die = some (8, pg ProgStatus.suspending 1) ∧
      st4.stp.progs.find 8 = some (pg ProgStatus.suspending 1) ∧ 8 < st4.stp.nextProg ∧
      (pg ProgStatus.suspending 1).status = ProgStatus.suspending) ∧
    ((st5.ch 5).linkUp = true ∧ (r7 true 160#8).crcOk = true ∧
      st5.readOfTag 5 ↑(r7 true 160#8).tag = some (8, rd7 ReadStatus.sensing 0) ∧
      st5.stp.reads.find 8 = some (rd7 ReadStatus.sensing 0) ∧
      (rd7 ReadStatus.sensing 0).status = ReadStatus.sensing) ∧
    ((st6.ch 5).linkUp = true ∧ st6.readOfTag 5 3 = some (8, rd7 ReadStatus.ready 0) ∧
      st6.stp.reads.find 8 = some (rd7 ReadStatus.ready 0) ∧ (rd7 ReadStatus.ready 0).status = ReadStatus.ready) ∧
    ((st6.ch 5).linkUp = true ∧ st6.readOfTag 5 3 = some (8, rd7 ReadStatus.ready 0) ∧
      st6.stp.reads.find 8 = some (rd7 ReadStatus.ready 0) ∧ (rd7 ReadStatus.ready 0).status = ReadStatus.ready ∧
      (rd7 ReadStatus.ready 0).resends = 0) := by
  and_intros <;> decide

/-- States and operands that meet the hypotheses of LinkExpiriesAreCountedAndActedOn, clause by clause. -/
theorem witness_LinkExpiriesAreCountedAndActedOn :
    (((st6.ch 5).die 2).expiries.length < 3 ∧ (st6.ch 5).up = true) ∧
    (((st6.ch 5).die 2).expiries.length < 3 ∧ st6.readOfTag 5 3 = some (8, rd7 ReadStatus.ready 0) ∧
      st6.stp.reads.find 8 = some (rd7 ReadStatus.ready 0) ∧ (rd7 ReadStatus.ready 0).status = ReadStatus.ready ∧
      (rd7 ReadStatus.ready 0).resends = 0 ∧ (rd7 ReadStatus.ready 0).die = 2) ∧
    (((st7.ch 5).die 2).expiries.length < 3 ∧ st7.dieProg 5 2 = some (8, pg ProgStatus.suspending 0) ∧
      (pg ProgStatus.suspending 0).status = ProgStatus.suspending) ∧
    (((st8.ch 5).die 2).expiries.length < 3 ∧ st8.dieProg 5 2 = some (8, p28 32000) ∧
      (p28 32000).status = ProgStatus.running ∧ 16000 ≤ st8.pulseTime (p28 32000) ∧
      st8.pulseTime (p28 32000) < 28000) ∧
    (2 < st10.wlv.dies / 4 ∧ st10.adoption (moduleOf 5) (moduleDie st10.wlv.dies 5 2) = none ∧
      (List.filter (fun a => a.slot == moduleOf 5) st10.wlv.adoptions).length < 4 ∧
      st10.dieProg 5 2 = some (8, p28 56000) ∧ (p28 56000).status = ProgStatus.running ∧
      28000 ≤ st10.pulseTime (p28 56000)) ∧
    (2 < e4.wlv.dies / 4 ∧ e4.adoption (moduleOf 5) (moduleDie e4.wlv.dies 5 2) = none ∧
      (List.filter (fun a => a.slot == moduleOf 5) e4.wlv.adoptions).length < 4 ∧
      3 ≤ (List.filter (fun t => decide (e4.clock < t + sec 1)) ((e4.ch 5).die 2).expiries).length ∧
      (e4.ch 5).up = true) := by
  and_intros <;> decide

/-- States and operands that meet the hypotheses of TrainingAndRebuildBringMembersBack, clause by clause. -/
theorem witness_TrainingAndRebuildBringMembersBack :
    ((st12.slot (moduleOf 5)).rst = false ∧ (st12.slot (moduleOf 5)).powerGood = true ∧ (st12.ch 5).failed = false ∧
      bitOf st12.clk.chiutFailed (moduleOf 5) = false ∧ (st12.ch 5).train.toNat < 2) ∧
    ((st12.slot (moduleOf 5)).rst = false ∧ (st12.slot (moduleOf 5)).powerGood = true ∧ (st12.ch 5).failed = false ∧
      bitOf st12.clk.chiutFailed (moduleOf 5) = false ∧ (st12.ch 5).train.toNat < 2 ∧ (st12.ch 5).trainFails = 0) ∧
    ((st13.slot (moduleOf 5)).rst = false ∧ (st13.slot (moduleOf 5)).powerGood = true ∧ (st13.ch 5).failed = false ∧
      bitOf st13.clk.chiutFailed (moduleOf 5) = false ∧ (st13.ch 5).train.toNat < 2 ∧ (st13.ch 5).trainFails ≠ 0 ∧
      (∀ n ∈ channelsOf (moduleOf 5), n ≠ 5 → (st13.ch n).failed = false)) ∧
    ((full.ch 5).up = true) ∧
    ((st14.ch 5).linkUp = true ∧ st14.retrainDue 5 RetrainWhy.crcRate = true) ∧
    (st15.rebuildPermit = true ∧ 16 ≤ st15.presentSlots.length ∧ (st15.slot 3).state = SlotSt.waiting ∧
      st15.stp.rebuildModule = none) ∧
    (st16.rebuildPermit = true ∧ 16 ≤ st16.presentSlots.length ∧ st16.stp.rebuildModule ≠ none) ∧
    (st16.rebuildPermit = true ∧ 16 ≤ st16.presentSlots.length ∧ st16.stp.rebuildModule = some 3 ∧
      (st16.slot 3).state = SlotSt.rebuilding ∧
      (∀ e ∈ st16.bly.entries, e.2.st ≠ BelayState.lookup ∧ e.2.st ≠ BelayState.write) ∧
      st16.stp.rebuildRow + 32 * st16.wlv.dies < st16.totalRows) ∧
    (st17.rebuildPermit = true ∧ 16 ≤ st17.presentSlots.length ∧ st17.stp.rebuildModule = some 3 ∧
      (st17.slot 3).state = SlotSt.rebuilding ∧
      (∀ e ∈ st17.bly.entries, e.2.st ≠ BelayState.lookup ∧ e.2.st ≠ BelayState.write) ∧
      st17.totalRows ≤ st17.stp.rebuildRow + 32 * st17.wlv.dies) := by
  and_intros <;> decide

/-- States and operands that meet the hypotheses of ModuleSlotsFollowTheirStates, clause by clause. -/
theorem witness_ModuleSlotsFollowTheirStates :
    ((st18.slot 3).present = true ∧ (st18.slot 3).state = SlotSt.inService) ∧
    ((st18.slot 3).present = true ∧ (st18.slot 3).state = SlotSt.inService ∧ st18.retireRefused = false) ∧
    ((st18.slot 3).present = true ∧ (st18.slot 3).state ≠ SlotSt.empty) ∧
    ((st19.slot 3).present = true ∧ st19.moduleQuiet 3 = true ∧ st19.seq.state ≠ SeqState.strike ∧
      (st19.slot 3).state = SlotSt.retiring ∧ (st19.slot 3).retireMbox = none) ∧
    ((st20.slot 3).present = true ∧ st20.moduleQuiet 3 = true ∧ st20.seq.state = SeqState.strike) ∧
    ((me.slot 3).state = SlotSt.empty ∧ me.rst.datapath = true ∧ me.identRefused idn = false ∧
      me.foreignSet idn = false) ∧
    ((me.slot 3).state = SlotSt.empty ∧ me.rst.datapath = true ∧
      (me.identRefused (let __src := idn; Identity.mk __src.crcOk __src.magic __src.version __src.dies __src.serial __src.mediaType 6#128) = true ∨ me.foreignSet (let __src := idn; Identity.mk __src.crcOk __src.magic __src.version __src.dies __src.serial __src.mediaType 6#128) = true)) ∧
    ((st21.slot 3).state = SlotSt.training ∧ st21.seq.autoAdmit = true ∧ st21.moduleTrained 3 = true ∧
      (st21.standing 3 = none ∨ st21.standing 3 = some Standing.out) ∧ st21.media.setId.isSome = true) := by
  and_intros <;> decide

end Channels

namespace Keys

/-! States of the witnesses of Keys. -/

def vD (l : Nat) : Victim := ⟨.held, l, ⟨.dirtyFull, .dirtyFull, .dirtyFull, .dirtyFull⟩, 0#4, ⟨0#64, 0#64, 0#64, 0#64⟩, ⟨5#512, 6#512, 7#512, 8#512⟩, none, none, 0#4, none, 0, 0, none, none, false, false⟩
def vbD : Vbf := { Vbf.reset with entries := [(0, vD 28672), (1, vD 32767)] }
def cDl : State := { full with cache := { full.cache with ways := [(wayKey 1 1 2, { Way.empty with lines := ⟨.dirtyFull, .dirtyPartial, .clean, .invalid⟩, data := ⟨1#512, 2#512, 3#512, 4#512⟩ })] } }
def ky (o : LockOwner) : Kce := { Kce.reset with owner := o, keyData := [(0, 7#32)], reg := 2#3, loaded := 4#8, keys := [(2, 9#256)] }
def sk (o : LockOwner) (sl : BitVec 6) : State := { cDl with kce := ky o, shr := { full.shr with slot := sl, keyData := [(0, 3#32)], slots := [(0, ⟨.active, 5#512⟩), (3, ⟨.loaded, 7#512⟩)] } }
def st1 : State := sk .none 0
def st2 : State := sk .firmware 0
def rk (st : RekeyState) : State := { sk .firmware 0 with shr := { (sk .firmware 0).shr with rkState := st, rkOld := 0#6, rkNew := 3#6, rkFirst := 2#20, rkLast := 4#20, rkA := 0, rkB := 3, rkLo := 2, rkHi := 4, hemline := 2*65536 , keyMap := [(9, 3)]}, reef := { Reef.reset with held := [(0, ⟨.sweepSet, true, 5, 1, 5, 0, none, 0⟩)] } }
def st6 : State := rk .idle
def st7 : State := rk .running
def st8 : State := rk .aborting
def rkd : State := { rk .running with shr := { (rk .running).shr with hemline := 5*65536 } }
def st9 : State := { rkd with mst := Mst.reset }
def mg (b : Bool) (len fed : Nat) : State := { sk .firmware 0 with kce := { ky .firmware with busy := b, keyReg := 2#3, msgLen := BitVec.ofNat 41 len, cmac := { cmacStart 9#256 with fed := fed } } }
def st13 : State := mg false 0 0
def st14 : State := mg false 5 0
def st15 : State := mg true 5 0
def st17 : State := mg true 5 5
def st18 : State := { mg true 5 5 with kce := { (mg true 5 5).kce with stallG := true } }
def se (started tagDone : Bool) (next : Nat) : SealRun := ⟨4, 2, 7, 1, 3, 5#64, 6#64, started, next, tagDone, 99#128⟩
def sse (r : SealRun) : State := { full with vbf := vbD, kce := { Kce.reset with owner := .seal, busy := true, sealing := some r, extents := [(4, ⟨7, 1, false⟩)], keys := [(2, 9#256)], loaded := 4#8 } }
def st19 : State := sse (se false false 0)
def st20 : State := (State.counterInc (sse (se false false 0)) 3 true).1
def st21 : State := (State.counterInc (sse (se false false 0)) 3 false).1
def st22 : State := sse (se true false 0)
def st23 : State := sse (se true false 16383)
def st24 : State := sse (se true true 16384)
def st25 : State := { sse (se true false 16383) with shr := Shr.reset }
def vr (n : Nat) (t : Option (BitVec 128)) : VerifyRun := ⟨4, 3, some (9 * 2^20), 2^20, n, 64 * n, t⟩
def sv (r : VerifyRun) : State := { full with vbf := vbD, kce := { Kce.reset with owner := .verify, busy := true, verify := some r, extents := [(4, ⟨7, 1, true⟩)], registry := [(4, ⟨2, 7 * 2^20, 1, 5#64, 6#64, 99#128, 1⟩)], keys := [(2, 9#256)], loaded := 4#8 } }
def rg : Registry := ⟨2, 7 * 2^20, 1, 5#64, 6#64, 99#128, 1⟩
def st26 : State := sv (vr 0 none)
def st27 : State := { sv (vr 2 none) with shr := Shr.reset }
def st28 : State := sv (vr 16384 (some 99#128))

/-- States and operands that meet the hypotheses of ShroudKeyCommandsObeyTheirSlots, clause by clause. -/
theorem witness_ShroudKeyCommandsObeyTheirSlots :
    (st1.kce.isOwner Path.mainmast = false) ∧
    (st2.kce.isOwner Path.mainmast = true) ∧
    (st2.kce.isOwner Path.mainmast = true ∧ st2.shr.rkState = RekeyState.idle ∧ st2.port0.ingressReq = [] ∧
      st2.port0.ingressRwd = [] ∧ st2.port1.ingressReq = [] ∧ st2.port1.ingressRwd = []) := by
  and_intros <;> decide

/-- States and operands that meet the hypotheses of RekeyMovesItsRangeFromOneSlotToAnother, clause by clause. -/
theorem witness_RekeyMovesItsRangeFromOneSlotToAnother :
    (bitOf st6.shr.enginesFenced 4 = false) ∧
    (st6.pathOpen Path.mainmast = true ∧
      st6.rekeyRefused st6.shr.rkOld.toNat st6.shr.rkNew.toNat st6.shr.rkFirst.toNat st6.shr.rkLast.toNat = false ∧
      st6.sea.fits [(769, rekeyRecord st6.shr.rkOld.toNat st6.shr.rkNew.toNat st6.shr.rkFirst.toNat st6.shr.rkLast.toNat)] = true) ∧
    (st6.sweepMayClaim = false) ∧
    (st7.pathOpen Path.mainmast = true ∧
      st7.rekeyRefused st7.shr.rkOld.toNat st7.shr.rkNew.toNat st7.shr.rkFirst.toNat st7.shr.rkLast.toNat = true) ∧
    (st7.pathOpen Path.mainmast = true ∧ st7.shr.abortable = true) ∧
    (st7.sweepMayClaim = true) ∧
    (st8.shr.rkState = RekeyState.aborting ∧ st8.sweepSets = 0) ∧
    (rkd.shr.rkState = RekeyState.running ∧ rkd.shr.sweepDone = true ∧ rkd.sweepSets = 0 ∧ rkd.mst.running = true ∧
      rkd.shr.keyMap.rising = true) ∧
    (st9.shr.rkState = RekeyState.running ∧ st9.shr.sweepDone = true ∧ st9.sweepSets = 0 ∧ st9.mst.running = false) := by
  and_intros <;> decide

/-- States and operands that meet the hypotheses of CipherLockHasOneOwner, clause by clause. -/
theorem witness_CipherLockHasOneOwner :
    (st1.kce.takesKeyCmd Path.mainmast = false) ∧
    (st1.kce.owner = LockOwner.none ∧ 2 ∈ [7, 5, 3, 2] ∧ st1.mayRequest 2 = true ∧
      (∀ d ∈ [7, 5, 3, 2], st1.mayRequest ↑d = true → 2 ≤ ↑d)) ∧
    (st1.kce.owner.code ≠ 3) ∧
    (st1.lockOverdue = false) ∧
    (st2.kce.takesKeyCmd Path.mainmast = true ∧ st2.kce.keyCmdAllowed = true) ∧
    (st2.kce.owner ≠ LockOwner.none) ∧
    (st2.kce.owner ≠ LockOwner.none ∧ st2.kce.owner.code = 1) ∧
    (st2.lockOverdue = true) := by
  and_intros <;> decide

/-- States and operands that meet the hypotheses of CoreGMessagesEndWithOneOutcome, clause by clause. -/
theorem witness_CoreGMessagesEndWithOneOutcome :
    (st1.kce.isOwner Path.mainmast = false) ∧
    (st1.kce.sealing = none ∧ st1.kce.verify = none) ∧
    (st13.kce.isOwner Path.mainmast = true ∧ st13.kce.busy = false ∧ st13.kce.startError = some MsgOutcome.length) ∧
    (st14.kce.isOwner Path.mainmast = true ∧ st14.kce.busy = false ∧ st14.kce.startError = none) ∧
    (st15.kce.isOwner Path.mainmast = true ∧ st15.kce.busy = true ∧ st15.kce.stallG = false ∧ st15.kce.remaining ≠ 0) ∧
    (st17.kce.isOwner Path.mainmast = true ∧ st17.kce.busy = true ∧ st17.kce.stallG = false ∧ st17.kce.remaining = 0) ∧
    (st18.kce.sealing = none ∧ st18.kce.verify = none ∧ st18.kce.stallG = true ∧ st18.kce.busy = true) := by
  and_intros <;> decide

/-- States and operands that meet the hypotheses of SealsCommitOrLeaveNoExtent, clause by clause. -/
theorem witness_SealsCommitOrLeaveNoExtent :
    (st19.kce.sealing = some (se false false 0) ∧ (se false false 0).started = false ∧
      st19.writesTo (se false false 0).base (se false false 0).len = false ∧
      st19.counterInc 3 true = (st20, true)) ∧
    (st19.kce.sealing = some (se false false 0) ∧ (se false false 0).started = false ∧
      st19.writesTo (se false false 0).base (se false false 0).len = false ∧
      st19.counterInc 3 false = (st21, false)) ∧
    (st24.kce.sealing = some (se true true 16384) ∧ (se true true 16384).tagDone = true ∧
      (st24.mb ↑(se true true 16384).mbox).bgAborted = false) ∧
    (st25.kce.sealing = some (se true false 16383) ∧ (se true false 16383).started = true ∧
      (se true false 16383).tagDone = false ∧ st25.kce.stallG = false ∧
      st25.streamLine ((se true false 16383).base * 2 ^ 20 + 64 * (se true false 16383).nextLine) = some none) ∧
    (st27.kce.verify = some (vr 2 none) ∧ st27.kce.registry.find (vr 2 none).id = some rg ∧ (vr 2 none).tag = none ∧
      st27.kce.stallG = false ∧ st27.streamLine (rg.base + 64 * (vr 2 none).nextLine) = some none) ∧
    (st28.kce.verify = some (vr 16384 (some 99#128)) ∧ st28.kce.registry.find (vr 16384 (some 99#128)).id = some rg ∧
      (vr 16384 (some 99#128)).tag = some 99#128) ∧
    (st22.kce.sealing = some (se true false 0) ∧ (se true false 0).started = true ∧
      (se true false 0).tagDone = false ∧ st22.kce.stallG = false ∧
      st22.streamLine ((se true false 0).base * 2 ^ 20 + 64 * (se true false 0).nextLine) = some (some 5#512) ∧
      (se true false 0).nextLine + 1 ≠ (se true false 0).len * 16384) ∧
    (st23.kce.sealing = some (se true false 16383) ∧ (se true false 16383).started = true ∧
      (se true false 16383).tagDone = false ∧ st23.kce.stallG = false ∧
      st23.streamLine ((se true false 16383).base * 2 ^ 20 + 64 * (se true false 16383).nextLine) = some (some 8#512) ∧
      (se true false 16383).nextLine + 1 = (se true false 16383).len * 16384) ∧
    (st26.kce.verify = some (vr 0 none) ∧ st26.kce.registry.find (vr 0 none).id = some rg ∧ (vr 0 none).tag = none ∧
      st26.kce.stallG = false ∧ st26.streamLine (rg.base + 64 * (vr 0 none).nextLine) = some (some 5#512) ∧
      (vr 0 none).nextLine + 1 ≠ rg.len * 16384) := by
  and_intros <;> decide

end Keys

namespace Commands

/-! States of the witnesses of Commands. -/

def da : State := { full with sea := { Sea.reset with settled := true, counters := [(2, 9#64)] } }
def st1 : State := { da with dbg := { Dbg.reset with granted := true, strap := true, epoch := 5#24 }, kce := { Kce.reset with owner := .debug, busy := true } }
def wd (a : Bool) : State := { full with clock := 4000000000, mst := { Mst.reset with running := !a, activating := a, activateMbox := some 0, released := true }, hly := { Hly.reset with mb := [(0, { Mb.reset with st := .executing, opcode := 0x0202#16, bgActive := true, bgOpcode := 0x0202#16 }), (2, { Mb.reset with st := .executing, opcode := 0x4000#16 })] } }
def st3 : State := wd false
def st4 : State := wd true
def cr : State := { wd false with rst := { full.rst with request := some ⟨.core, 8, false⟩ }, kce := { Kce.reset with owner := .firmware } }
def tk (spare checker : Option Nat) (tkv : Bool) (row : Nat) (act : Option Mbox) : State := { full with mst := { Mst.reset with running := !tkv, takeover := tkv, lead := some 0, checker := checker, spare := spare, row := row, released := true, banks := [(0, 5), (1, 6)], activateMbox := act } }
def st5 : State := tk (some 2) (some 1) false 0 none
def st7 : State := tk (some 2) (some 1) true 0 none
def st8 : State := tk none (some 1) true 0 none
def st9 : State := tk none none false 0 none
def st10 : State := tk none none true 3 none
def mb (st : MbState) (bg : Bool) (op : BitVec 16) : State := { full with mst := { Mst.reset with running := true, released := true, journal := [⟨0, op, false⟩] }, hly := { Hly.reset with sidebandOn := true, mb := [(0, { Mb.reset with st := st, opcode := op, background := bg, rcReg := 2#16, vendorReg := 3#16 }), (4, { Mb.reset with st := st, opcode := op })] } }
def st11 : State := mb .idle false 0#16
def st12 : State := { mb .idle false 0#16 with mst := Mst.reset }
def st13 : State := mb .executing false 0x9999#16
def st14 : State := mb .executing true 0x4000#16
def rt9 (a r ab : Bool) (op : BitVec 16) : State := { mb .idle false op with hly := { Hly.reset with sidebandOn := true, mb := [(0, { Mb.reset with bgActive := a, bgRetired := r, bgAborted := ab, bgAbortable := a, bgOpcode := op })] } }
def st15 : State := rt9 true false false 0xC033#16
def st16 : State := rt9 false false true 0xC033#16
def st17 : State := mb .executing false 0x4000#16
def st18 : State := { mb .idle false 0#16 with hly := { Hly.reset with mb := [(0, { Mb.reset with bgActive := true, bgOpcode := 0x4400#16 })]}}

/-- States and operands that meet the hypotheses of DebugWatchdogAndCoreResetSpareTheDatapath, clause by clause. -/
theorem witness_DebugWatchdogAndCoreResetSpareTheDatapath :
    (da.rst.aon = true ∧ da.seq.state ≠ SeqState.down ∧ da.dbg.granted = false ∧ da.dbg.strap = false ∧
      da.sea.settled = true ∧ da.sea.saturated 2 = false) ∧
    (da.dbg.granted = false) ∧
    ((da.resetPath Path.mainmast).isSome = true) ∧
    (st1.dbg.granted = true) ∧
    (st3.mst.running = true ∧ st3.mst.wdPaused = false ∧ st3.elapsed st3.mst.kickedAt (ms st3.mst.timeoutMs) = true ∧
      st3.rst.request = none) ∧
    (st4.mst.activating = true ∧ st4.mst.takeover = false ∧ st4.elapsed st4.mst.activateAt (ms 100) = true) ∧
    (cr.rst.request = some (ResetReq.mk ResetLevel.core (coreCode CoreSource.watchdog) false) ∧
      cr.configSettled = true ∧ cr.mst.lead.isSome = true ∧ cr.mst.released = true) := by
  and_intros <;> decide

/-- States and operands that meet the hypotheses of TakeoverChoosesTheTableConfiguration, clause by clause. -/
theorem witness_TakeoverChoosesTheTableConfiguration :
    (st5.mst.running = true) ∧
    (st5.mst.running = true ∧ st5.mst.takeover = false ∧ st5.mst.checker.isSome = true) ∧
    (st5.mst.spare = some 2 ∧ st5.mst.takeover = false ∧ st5.mst.released = true) ∧
    (st7.mst.lead = some 0 ∧ st7.mst.checker = some 1 ∧ st7.mst.takeover = true ∧ st7.mst.row = 0 ∧
      st7.mst.spare = some 2 ∧ (false || false) = false) ∧
    (st7.mst.lead = some 0 ∧ st7.mst.checker = some 1 ∧ st7.mst.takeover = true ∧ st7.mst.row = 0 ∧
      st7.mst.spare = some 2 ∧ (false || true) = true) ∧
    (st8.mst.lead = some 0 ∧ st8.mst.checker = some 1 ∧ st8.mst.takeover = true ∧ st8.mst.row = 0 ∧
      st8.mst.spare = none ∧ (false || false) = false) ∧
    (st8.mst.lead = some 0 ∧ st8.mst.checker = some 1 ∧ st8.mst.takeover = true ∧ st8.mst.row = 0 ∧
      st8.mst.spare = none ∧ (false || true) = true) ∧
    (st9.mst.checker = none) ∧
    (st10.mst.takeover = true ∧ st10.mst.row ≠ 0 ∧ st10.mst.newest 3#2 = some (1, 6)) := by
  and_intros <;> decide

/-- States and operands that meet the hypotheses of DoorbellsAreTakenOrAnswered, clause by clause. -/
theorem witness_DoorbellsAreTakenOrAnswered :
    (mboxPort 0 = some Port.hp0 ∧ (st11.port Port.hp0).linkUp = true ∧ (st11.mb 0).st = MbState.idle ∧
      ([] : List Byte).length ≤ mailboxSize 0 ∧ st11.mst.running = true ∧ opClass 16384#16 = some CmdClass.query ∧
      st11.classAllowed 0 CmdClass.query = true ∧ lengthOk 16384#16 [] = true) ∧
    ((st11.mb 0).st ≠ MbState.executing) ∧
    (mboxPort 1 = some Port.hp0 ∧ (st11.port Port.hp0).linkUp = true ∧ (st11.mb 1).st = MbState.idle ∧
      [1, 2, 3, 4].length ≤ mailboxSize 1 ∧ st11.mst.running = true ∧
      opClass 49264#16 = some CmdClass.destructive ∧ st11.classAllowed 1 CmdClass.destructive = false) ∧
    (mboxPort 1 = some Port.hp0 ∧ (st11.port Port.hp0).linkUp = true ∧ (st11.mb 1).st = MbState.idle ∧
      mailboxSize 1 < (List.replicate 4097 0#8).length) ∧
    (mboxPort 0 = some Port.hp0 ∧ (st12.port Port.hp0).linkUp = true ∧ (st12.mb 0).st = MbState.idle ∧
      ([] : List Byte).length ≤ mailboxSize 0 ∧ st12.mst.running = false) ∧
    (mboxPort 0 = some Port.hp0 ∧ (st13.port Port.hp0).linkUp = true ∧ (st13.mb 0).st ≠ MbState.idle) ∧
    (st13.pathOpen Path.mainmast = true ∧ (st13.mb 0).st = MbState.executing ∧ (st13.mb 0).background = false) ∧
    ((st13.mb 0).st = MbState.executing ∧ opClass (st13.mb 0).opcode = none) ∧
    (st14.pathOpen Path.mainmast = true ∧ (st14.mb 0).st = MbState.executing ∧ (st14.mb 0).background = true ∧
      (st14.mb 0).bgActive = false) := by
  and_intros <;> first | (simp only [List.length_replicate]; decide) | decide

/-- States and operands that meet the hypotheses of RetireExcludesAbortAndSidebandAnswers, clause by clause. -/
theorem witness_RetireExcludesAbortAndSidebandAnswers :
    (st15.mst.running = true ∧ (st15.mb 0).bgActive = true ∧ (st15.mb 0).bgAborted = false) ∧
    (st15.mst.running = true ∧ (st15.mb 0).bgActive = true ∧ (st15.mb 0).bgRetired = false ∧
      (st15.mb 0).bgAbortable = true ∧ (st15.mb 0).bgOpcode.toNat ∉ [514, 49184, 49185, 49233]) ∧
    (st15.hly.sidebandOn = true ∧ (st15.mb 4).st = MbState.idle ∧ st15.mst.running = true ∧
      ([] : List Byte).length ≤ mailboxSize 4 ∧ (opClass 16384#16).isSome = true ∧ lengthOk 16384#16 [] = true) ∧
    (st15.hly.sidebandOn = true ∧ 5#8 ≠ 0#8 ∧ 5#8 ≠ 255#8) ∧
    (st15.hly.sidebandOn = true) ∧
    (st16.mst.running = true ∧ (st16.mb 0).bgAborted = true ∧ (st16.mb 0).st ≠ MbState.executing) ∧
    (st16.mst.running = true ∧ ((st16.mb 0).bgActive = false ∨ (st16.mb 0).bgRetired = true)) ∧
    (st17.hly.sidebandOn = true ∧ (st17.mb 4).st ≠ MbState.idle) ∧
    (st18.mst.running = true ∧ (st18.mb 0).bgActive = true ∧ (st18.mb 0).bgRetired = false ∧
      (st18.mb 0).bgAbortable = false) := by
  and_intros <;> decide

end Commands

namespace Queries

/-! States of the witnesses of Queries. -/

def op10 (m : Nat) (op : Nat) (p : List Byte) : State := { full with
  hly := { Hly.reset with alertCfg := ⟨1,2,3,4,5⟩, mb := [(m, { Mb.reset with st := .executing, opcode := BitVec.ofNat 16 op, payload := p, bgActive := m == 4 })] }
  port0 := { full.port0 with logs := [(1, ⟨(List.range 40).map (fun i => ⟨.generalMedia, 1, .warn, ⟨0,0,0,0⟩, 5#64, i⟩), 3, 1#64, 2#64⟩)] }
  wlv := { full.wlv with poison := [(1, ⟨0xB#4, .host, 0#64⟩), (2, ⟨1#4, .lost, 0#64⟩)] }
  kce := { Kce.reset with extents := [(4, ⟨7, 1, true⟩)], registry := [(4, ⟨2, 7 * 2^20, 1, 5#64, 6#64, 99#128, 1⟩)] } }
def st1 : State := op10 0 0x0001 []
def st2 : State := op10 0 0x0002 []
def st3 : State := op10 1 0x0002 []
def st4 : State := op10 0 0x0100 []
def st5 : State := op10 0 0x0102 []
def st7 : State := op10 0 0x0200 []
def st8 : State := op10 0 0x0300 []
def st9 : State := op10 0 0x0400 []
def st10 : State := op10 0 0x0401 []
def st11 : State := op10 0 0x4000 []
def st12 : State := op10 0 0x4100 []
def st13 : State := op10 0 0x4200 []
def st14 : State := op10 0 0x4201 []
def st15 : State := op10 0 0x4203 []
def st16 : State := op10 0 0xC001 []
def st17 : State := op10 0 0xC002 []
def st18 : State := op10 0 0x4300 []
def st19 : State := op10 0 0xC003 (leBytes 4 4)
def st20 : State := op10 0 0xC003 (leBytes 4 5)
def st21 : State := op10 0 0xC011 (leBytes 4 5)
def st22 : State := op10 0 0xC011 (leBytes 4 50000)

/-- States and operands that meet the hypotheses of QueryCommandsReportState, clause by clause. -/
theorem witness_QueryCommandsReportState :
    (st1.taken 0 1 = true) ∧
    (st1.taken 0 256 = false) ∧
    (st1.taken 0 258 = false) ∧
    (st1.taken 0 512 = false) ∧
    (st1.taken 0 768 = false) ∧
    (st1.taken 0 1024 = false) ∧
    (st1.taken 0 1025 = false) ∧
    (st1.taken 0 16384 = false) ∧
    (st1.taken 0 16640 = false) ∧
    (st1.taken 0 16897 = false) ∧
    (st1.taken 0 16899 = false) ∧
    (st1.taken 0 49153 = false) ∧
    (st1.taken 0 49154 = false) ∧
    (st2.taken 0 1 = false) ∧
    (st2.taken 0 2 = true ∧ 0 % 2 = 0) ∧
    (st3.taken 1 2 = true ∧ 1 % 2 = 1) ∧
    (st4.taken 0 256 = true) ∧
    (st5.taken 0 258 = true) ∧
    (st7.taken 0 512 = true) ∧
    (st8.taken 0 768 = true) ∧
    (st9.taken 0 1024 = true) ∧
    (st10.taken 0 1025 = true) ∧
    (st11.taken 0 16384 = true) ∧
    (st12.taken 0 16640 = true) ∧
    (st13.taken 0 16896 = true) ∧
    (st14.taken 0 16897 = true) ∧
    (st15.taken 0 16899 = true) ∧
    (st16.taken 0 49153 = true) ∧
    (st17.taken 0 49154 = true) ∧
    (st18.taken 0 17152 = true ∧ st18.mboxDpa 0 256 = some 256 ∧ 256 + 64 * 5 ≤ st18.mboxSize 0) ∧
    (st18.taken 0 17152 = true ∧ st18.mboxSize 0 < 281474976710655 + 64 * 5) ∧
    (st19.taken 0 49155 = true ∧ reservedZero (st19.payload 0) [2, 3] = true ∧
      st19.kce.extents.find (leField (st19.payload 0) 0 2) = some (Extent.mk 7 1 true) ∧
      st19.kce.registry.find (leField (st19.payload 0) 0 2) = some (Registry.mk 2 (7 * 2 ^ 20) 1 (5#64) (6#64) (99#128) 1)) ∧
    (st20.taken 0 49155 = true ∧ st20.kce.extents.find (leField (st20.payload 0) 0 2) = none) ∧
    (st21.taken 0 49169 = true ∧ leField (st21.payload 0) 0 2 < margins.length ∧
      reservedZero (st21.payload 0) [2, 3] = true) ∧
    (st22.taken 0 49169 = true ∧ margins.length ≤ leField (st22.payload 0) 0 2) := by
  and_intros <;> decide

end Queries

namespace Settings

/-! States of the witnesses of Settings. -/

def op10 (m : Nat) (op : Nat) (p : List Byte) : State := { full with
  hly := { Hly.reset with alertCfg := ⟨1,2,3,4,5⟩, mb := [(m, { Mb.reset with st := .executing, opcode := BitVec.ofNat 16 op, payload := p })] }
  mst := { full.mst with journal := [⟨Fin.ofNat 5 m, BitVec.ofNat 16 op, false⟩] }
  port0 := { full.port0 with logs := [(1, ⟨(List.range 40).map (fun i => ⟨.generalMedia, 1, .warn, ⟨0,0,0,0⟩, 5#64, i⟩), 3, 1#64, 2#64⟩)] } }
def st1 : State := op10 0 0x0101 []
def st2 : State := op10 0 0x0103 []
def st4 : State := op10 4 0x0103 []
def st5 : State := op10 0 0x0301 []
def st6 : State := op10 0 0x4202 []
def st7 : State := op10 0 0x4204 []
def st8 : State := op10 0 0xC010 (leBytes 4 2048)
def st9 : State := op10 0 0xC010 (leBytes 4 2047)
def ovr (id : Nat) (v : Int) (act : Nat) : List Byte := leBytes 2 1 ++ leBytes 2 0 ++ leBytes 2 id ++ bytesOf 4 (BitVec.ofInt 32 v) ++ leBytes 1 act ++ leBytes 1 0
def st11 : State := op10 0 0xC012 (ovr 0xFFFF 4 0)
def st13 : State := op10 0 0xC012 (ovr 0x0302 100 1)
def st14 : State := op10 0 0xC013 (leBytes 2 0 ++ leBytes 2 200)
def st15 : State := op10 0 0xC013 (leBytes 2 1 ++ leBytes 2 280)
def st16 : State := op10 0 0xC013 (leBytes 2 1 ++ leBytes 2 281)
def st18 : State := op10 0 0xC060 (leBytes 1 0 ++ leBytes 1 3 ++ leBytes 2 575 ++ leBytes 12 0)
def st19 : State := { op10 0 0xC060 (leBytes 1 0 ++ leBytes 1 3 ++ leBytes 2 575 ++ leBytes 12 0) with trm := { Trm.reset with nextTicket := 80, tickets := (List.range 32).map fun i => ⟨i, 3, 4, 0, .waiting, 0, 0#64, 0#64, 0, false⟩} }
def st20 : State := op10 0 0xC061 (leBytes 1 0 ++ leBytes 1 1 ++ leBytes 2 15)
def st21 : State := op10 0 0xC061 (leBytes 1 1 ++ leBytes 1 1 ++ leBytes 2 15)
def st22 : State := op10 0 0x0201 []
def st24 : State := op10 0 0x0202 []
def av : State := { op10 0 0x9999 [] with mst := { full.mst with activating := true, running := false }, hly := { Hly.reset with mb := [(0, { Mb.reset with bgActive := true, bgOpcode := 0x0202#16, bgSlot := some 1 })] } }
def st25 : State := op10 0 0x0005 []
def ab (b : Bool) (op : BitVec 16) : State := { op10 0 0x0005 [] with hly := { Hly.reset with mb := [(0, { Mb.reset with st := .executing, opcode := 5#16, bgActive := true, bgAbortable := b, bgOpcode := op })] } }
def st26 : State := ab true 0xC033#16
def st27 : State := ab false 0x4400#16

/-- States and operands that meet the hypotheses of SettingCommandsChangeWhatTheyName, clause by clause. -/
theorem witness_SettingCommandsChangeWhatTheyName :
    (st1.taken 0 257 = true ∧ (∀ h ∈ [], ∃ r ∈ (st1.mboxLog 0 1).recs, r.handle = h)) ∧
    (st1.taken 0 257 = true ∧ (∃ h ∈ [3, 40, 0], ∀ r ∈ (st1.mboxLog 0 1).recs, r.handle ≠ h)) ∧
    (st2.taken 0 259 = true ∧ mboxPort 0 = some Port.hp0) ∧
    (st4.taken 4 259 = true ∧ mboxPort 4 = none) ∧
    (st5.taken 0 769 = true) ∧
    (st6.taken 0 16898 = true) ∧
    (st7.taken 0 16900 = true) ∧
    (st8.taken 0 49168 = true ∧ 2048 ≤ leField (st8.payload 0) 0 4) ∧
    (st9.taken 0 49168 = true ∧ leField (st9.payload 0) 0 4 < 2048 ∧
      st9.sea.fits (List.map (fun b => (recGroup b, st9.groupPayload b)) (groupsOf (leField (st9.payload 0) 0 4))) = true) ∧
    (st9.taken 0 49168 = true ∧ leField (st9.payload 0) 0 4 < 2048) ∧
    (st11.taken 0 49170 = true ∧
      (List.range (leField (st11.payload 0) 0 2)).all (overrideOk (st11.payload 0)) = false) ∧
    (st13.taken 0 49170 = true ∧ leField (st13.payload 0) 0 2 = 1 ∧ reservedZero (st13.payload 0) [2, 3] = true ∧
      overrideOk (st13.payload 0) 0 = true) ∧
    (st14.taken 0 49171 = true ∧ reservedZero (st14.payload 0) [1] = true ∧ leField (st14.payload 0) 0 1 = 0) ∧
    (st15.taken 0 49171 = true ∧ reservedZero (st15.payload 0) [1] = true ∧ leField (st15.payload 0) 0 1 = 1 ∧
      100 ≤ leField (st15.payload 0) 2 2 ∧ leField (st15.payload 0) 2 2 ≤ 280) ∧
    (st16.taken 0 49171 = true ∧ reservedZero (st16.payload 0) [1] = true ∧ leField (st16.payload 0) 0 1 = 1 ∧
      (leField (st16.payload 0) 2 2 < 100 ∨ 280 < leField (st16.payload 0) 2 2)) ∧
    (st18.taken 0 49248 = true ∧ leField (st18.payload 0) 0 1 = 0 ∧
      testUnitOk (leField (st18.payload 0) 1 1) (leField (st18.payload 0) 2 2) = true ∧
      List.countP Ticket.isOpen st18.trm.tickets < 32) ∧
    (st19.taken 0 49248 = true ∧ leField (st19.payload 0) 0 1 = 0 ∧
      testUnitOk (leField (st19.payload 0) 1 1) (leField (st19.payload 0) 2 2) = true ∧
      32 ≤ List.countP Ticket.isOpen st19.trm.tickets) ∧
    (st20.taken 0 49249 = true ∧ reservedZero (st20.payload 0) [3] = true ∧ leField (st20.payload 0) 2 1 ≤ 15 ∧
      leField (st20.payload 0) 1 1 = 1 ∧ (∀ (q : Port), mboxPort 0 = some q → (st20.port q).mode ≠ 1#2) ∧
      leField (st20.payload 0) 0 1 = 0) ∧
    (st21.taken 0 49249 = true ∧ reservedZero (st21.payload 0) [3] = true ∧ leField (st21.payload 0) 2 1 ≤ 15 ∧
      leField (st21.payload 0) 1 1 = 1 ∧ (∀ (q : Port), mboxPort 0 = some q → (st21.port q).mode ≠ 1#2) ∧
      leField (st21.payload 0) 0 1 = 1) := by
  and_intros <;> first | decide | (intro _ h; cases h <;> decide)

/-- States and operands that meet the hypotheses of FirmwareImagesActivateAndAbortsAnswer, clause by clause. -/
theorem witness_FirmwareImagesActivateAndAbortsAnswer :
    (st22.taken 0 513 = true ∧ 0 = st22.activeSlot) ∧
    (st22.taken 0 513 = true ∧ 1 ≠ st22.activeSlot ∧ 128 * 0 + [1, 2, 3].length ≤ fwSlotBytes ∧
      (0 = 0 ∨ 128 * 0 = (Sparse.get FwSlot.empty st22.mst.fw 1).bytes)) ∧
    (st22.taken 0 513 = true ∧ 1 ≠ st22.activeSlot ∧ 128 * 2 + [1, 2, 3].length ≤ fwSlotBytes ∧ 2 ≠ 0 ∧
      128 * 2 ≠ (Sparse.get FwSlot.empty st22.mst.fw 1).bytes) ∧
    (st24.taken 0 514 = true ∧ 1 ≠ st24.activeSlot) ∧
    (st24.taken 0 514 = true ∧ 1 ≠ st24.activeSlot ∧ st24.anyBg = false) ∧
    (av.taken 0 514 = false ∧ (av.mb 0).bgActive = true ∧ (av.mb 0).bgOpcode = 514#16 ∧ av.mst.activating = true ∧
      av.mst.takeover = false ∧ (av.mb 0).bgSlot = some 1 ∧ av.sea.fits [(772, leBytes 1 1)] = true) ∧
    (st25.taken 0 5 = true ∧ ((st25.mb 0).bgActive = false ∨ (st25.mb 0).bgRetired = true)) ∧
    (st26.taken 0 5 = true ∧ (st26.mb 0).bgActive = true ∧ (st26.mb 0).bgRetired = false ∧
      (st26.mb 0).bgAbortable = true ∧ (st26.mb 0).bgOpcode.toNat ∉ [514, 49184, 49185, 49233]) ∧
    (st27.taken 0 5 = true ∧ (st27.mb 0).bgActive = true ∧ (st27.mb 0).bgRetired = false ∧
      (st27.mb 0).bgAbortable = false) := by
  and_intros <;> decide

end Settings

namespace Vendor

/-! States of the witnesses of Vendor. -/

def op10 (m : Nat) (op : Nat) (p : List Byte) : State := { full with
  hly := { Hly.reset with mb := [(m, { Mb.reset with st := .executing, opcode := BitVec.ofNat 16 op, payload := p })] }
  mst := { full.mst with journal := [⟨Fin.ofNat 5 m, BitVec.ofNat 16 op, false⟩] } }
def sealedS (s : State) : State := { s with kce := { Kce.reset with extents := [(4, ⟨0, 1, true⟩)], registry := [(4, ⟨2, 0, 1, 5#64, 6#64, 99#128, 1⟩)] } }
def inj (s : State) : State := { s with wlv := { s.wlv with poison := (List.range 256).map fun i => (i + 100, ⟨0xF#4, .injected, 0#64⟩) } }
def st1 : State := op10 0 0x4301 []
def st2 : State := op10 0 0x4302 []
def st3 : State := sealedS (op10 0 0x4301 [])
def st4 : State := sealedS (op10 0 0x4302 [])
def st5 : State := inj (op10 0 0x4301 [])
def st6 : State := inj (op10 0 0x4400 [])
def st7 : State := sealedS (op10 0 0x4400 [])
def st8 : State := inj (op10 0 0x4401 [])
def st9 : State := sealedS (op10 0 0x4401 [])
def busy (op : Nat) : State := { op10 0 op [] with hly := { Hly.reset with mb := [(0, { Mb.reset with st := .executing, opcode := BitVec.ofNat 16 op}), (1, { Mb.reset with bgActive := true, bgOpcode := 0x4401#16 })] } }
def st10 : State := busy 0x4400
def st11 : State := busy 0x4401
def bgS (op : Nat) : State := { inj full with hly := { Hly.reset with mb := [(0, { Mb.reset with bgActive := true, bgOpcode := BitVec.ofNat 16 op})] }, media := { full.media with cells := [(5, { Stored.zero with slot := 3})] } }
def st12 : State := bgS 0x4400
def st13 : State := bgS 0x4401
def st14 : State := bgS 0xC070
def st15 : State := op10 0 0xC070 (leBytes 4 5)
def st16 : State := inj (op10 0 0xC070 (leBytes 4 0x464F524D))
def sl (base len reg : Nat) : List Byte := leBytes 8 base ++ leBytes 4 len ++ leBytes 1 reg ++ leBytes 3 0
def kk (s : State) : State := { s with kce := { s.kce with loaded := 4#8, keys := [(2, 9#256)] } }
def st17 : State := kk (op10 0 0xC020 (sl 0x100000 1 2))
def st18 : State := (op10 0 0xC020 (sl 0x100000 1 2))
def st19 : State := kk (sealedS (op10 0 0xC020 (sl 0 1 2)))
def st20 : State := { op10 0 0xC020 (sl 0x100000 1 2) with kce := { Kce.reset with loaded := 4#8, owner := .firmware } }
def st21 : State := kk (op10 0 0xC021 (leBytes 2 4 ++ leBytes 14 0))
def st22 : State := kk (sealedS (op10 0 0xC021 (leBytes 2 4 ++ leBytes 14 0)))
def kl (t r p : Nat) (k : Nat) : List Byte := leBytes 1 t ++ leBytes 1 r ++ leBytes 1 p ++ leBytes 5 0 ++ leBytes 64 k
def st23 : State := op10 0 0xC030 (kl 1 2 0 77)
def st24 : State := op10 0 0xC030 (kl 1 2 0 0)
def st25 : State := kk (op10 0 0xC030 (kl 1 2 0 77))
def kz (t r : Nat) : List Byte := leBytes 1 t ++ leBytes 1 r ++ leBytes 2 0
def k3 (s : State) : State := { s with shr := { s.shr with slots := [(0, ⟨.active, 5#512⟩), (3, ⟨.loaded, 7#512⟩)] } }
def st26 : State := k3 (op10 0 0xC031 (kz 0 3))
def st27 : State := k3 (op10 0 0xC031 (kz 0 0))
def st28 : State := k3 (op10 0 0xC031 (kz 0 63))
def rkp (a b : Nat) : List Byte := leBytes 1 a ++ leBytes 1 b ++ leBytes 1 64 ++ leBytes 1 0 ++ leBytes 4 2 ++ leBytes 4 4
def st29 : State := k3 (op10 0 0xC032 (rkp 0 3))
def st30 : State := k3 (op10 0 0xC032 (rkp 3 0))
def st31 : State := op10 0 0xC033 []
def st32 : State := { op10 0 0xC033 [] with shr := { full.shr with rkState := .running, hemline := 99 } }
def mdx (st : SlotSt) (s : State) : State := { s with seq := { s.seq with mods := (List.range 18).map fun k => (k, if k = 17 then { liveMod with state := st } else liveMod) }, media := { s.media with setId := some 5#128 } }
def st33 : State := op10 0 0xC050 (leBytes 4 17)
def st34 : State := mdx .safe (op10 0 0xC050 (leBytes 4 17))
def st35 : State := { op10 0 0xC050 (leBytes 4 1) with seq := { full.seq with mods := (List.range 16).map fun k => (k, liveMod) } }
def st36 : State := op10 0 0xC051 (leBytes 4 17)
def st37 : State := mdx .training (op10 0 0xC051 (leBytes 4 17))
def part (s : State) : State := { s with port0 := { s.port0 with mode := 1#2, partBase := 4#20, partSize := 1#21 } }
def st38 : State := part (op10 0 0x4301 [])
def st39 : State := part (op10 0 0x4302 [])

/-- States and operands that meet the hypotheses of DataCommandsErasePoisonAndFormat, clause by clause. -/
theorem witness_DataCommandsErasePoisonAndFormat :
    (st1.taken 0 17153 = true ∧ st1.mboxDpa 0 256 = some 256 ∧ st1.sealedAt (256 / 64 * 64) = none ∧
      st1.inVerifyBuffer (256 / 64 * 64) = false ∧ st1.glb.memoryActive = true ∧
      (17153 = 17153 → st1.injectedLines < 1024)) ∧
    (st2.taken 0 17154 = true ∧ st2.mboxDpa 0 256 = some 256 ∧ st2.sealedAt (256 / 64 * 64) = none ∧
      st2.inVerifyBuffer (256 / 64 * 64) = false ∧ st2.glb.memoryActive = true ∧
      (17154 = 17153 → st2.injectedLines < 1024)) ∧
    (st3.taken 0 17153 = true ∧ st3.mboxDpa 0 256 = some 256 ∧ (st3.sealedAt (256 / 64 * 64)).isSome = true) ∧
    (st4.taken 0 17154 = true ∧ st4.mboxDpa 0 256 = some 256 ∧ (st4.sealedAt (256 / 64 * 64)).isSome = true) ∧
    (st5.taken 0 17153 = true ∧ st5.mboxDpa 0 256 = some 256 ∧ st5.sealedAt (256 / 64 * 64) = none ∧
      st5.inVerifyBuffer (256 / 64 * 64) = false ∧ st5.glb.memoryActive = true ∧ 1024 ≤ st5.injectedLines) ∧
    (st6.taken 0 17408 = true ∧ st6.kce.extents = [] ∧ st6.bgBusy 0 = false ∧ st6.shr.rkState = RekeyState.idle ∧
      st6.port0.ingressReq = [] ∧ st6.port0.ingressRwd = [] ∧ st6.port1.ingressReq = [] ∧
      st6.port1.ingressRwd = []) ∧
    (st7.taken 0 17408 = true ∧ st7.kce.extents ≠ []) ∧
    (st8.taken 0 17409 = true ∧ st8.kce.extents = [] ∧ st8.bgBusy 0 = false ∧ st8.shr.rkState = RekeyState.idle ∧
      st8.port0.ingressReq = [] ∧ st8.port0.ingressRwd = [] ∧ st8.port1.ingressReq = [] ∧
      st8.port1.ingressRwd = []) ∧
    (st9.taken 0 17409 = true ∧ st9.kce.extents ≠ []) ∧
    (st10.taken 0 17408 = true ∧ st10.kce.extents = [] ∧ st10.bgBusy 0 = true) ∧
    (st11.taken 0 17409 = true ∧ st11.kce.extents = [] ∧ st11.bgBusy 0 = true) ∧
    (st12.taken 0 17408 = false ∧ (st12.mb 0).bgActive = true ∧ (st12.mb 0).bgOpcode.toNat = 17408 ∧
      (st12.mb 0).bgAborted = false) ∧
    (st13.taken 0 17409 = false ∧ (st13.mb 0).bgActive = true ∧ (st13.mb 0).bgOpcode.toNat = 17409 ∧
      (st13.mb 0).bgAborted = false) ∧
    (st14.taken 0 49264 = false ∧ (st14.mb 0).bgActive = true ∧ (st14.mb 0).bgOpcode = 49264#16 ∧
      st14.port0.ingressReq = [] ∧ st14.port0.ingressRwd = [] ∧ st14.port1.ingressReq = [] ∧
      st14.port1.ingressRwd = []) ∧
    (st15.taken 0 49264 = true ∧ leField (st15.payload 0) 0 4 ≠ 1179603533) ∧
    (st16.taken 0 49264 = true ∧ leField (st16.payload 0) 0 4 = 1179603533 ∧ st16.bgBusy 0 = false ∧
      st16.glb.memoryActive = true) ∧
    (st16.taken 0 49264 = true ∧ leField (st16.payload 0) 0 4 = 1179603533 ∧ st16.bgBusy 0 = false ∧
      st16.glb.memoryActive = true ∧ st16.shr.rkState = RekeyState.idle ∧ st16.port0.ingressReq = [] ∧
      st16.port0.ingressRwd = [] ∧ st16.port1.ingressReq = [] ∧ st16.port1.ingressRwd = []) ∧
    (st38.taken 0 17153 = true ∧ st38.mboxDpa 0 281474976710655 = none) ∧
    (st39.taken 0 17154 = true ∧ st39.mboxDpa 0 268435456 = none) := by
  and_intros <;> decide

/-- States and operands that meet the hypotheses of ExtentKeyAndModuleCommandsStartTheirWork, clause by clause. -/
theorem witness_ExtentKeyAndModuleCommandsStartTheirWork :
    (st17.taken 0 49184 = true ∧ st17.mboxDpa 0 (leField (st17.payload 0) 0 8) = some 1048576 ∧
      1 ≤ leField (st17.payload 0) 12 1 ∧ leField (st17.payload 0) 12 1 ≤ 7 ∧
      reservedZero (st17.payload 0) [13, 14, 15] = true ∧ leField (st17.payload 0) 0 8 % 2 ^ 20 = 0 ∧
      1 ≤ leField (st17.payload 0) 8 4 ∧ leField (st17.payload 0) 8 4 ≤ 1048575 ∧
      leField (st17.payload 0) 0 8 + leField (st17.payload 0) 8 4 * 2 ^ 20 ≤ st17.mboxSize 0 ∧
      1048576 + leField (st17.payload 0) 8 4 * 2 ^ 20 ≤ st17.capacity ∧
      st17.kce.overlaps 1048576 (leField (st17.payload 0) 8 4 * 2 ^ 20) = false ∧ st17.kce.freeId = some 0 ∧
      bitOf st17.kce.loaded (leField (st17.payload 0) 12 1) = true ∧ st17.kce.owner = LockOwner.none ∧
      st17.bgBusy 0 = false ∧ st17.sealLevel = true ∧ st17.kce.coreGFenced = false) ∧
    (st18.taken 0 49184 = true ∧ st18.mboxDpa 0 (leField (st18.payload 0) 0 8) = some 1048576 ∧
      1 ≤ leField (st18.payload 0) 12 1 ∧ leField (st18.payload 0) 12 1 ≤ 7 ∧
      reservedZero (st18.payload 0) [13, 14, 15] = true ∧ leField (st18.payload 0) 0 8 % 2 ^ 20 = 0 ∧
      1 ≤ leField (st18.payload 0) 8 4 ∧ leField (st18.payload 0) 8 4 ≤ 1048575 ∧
      leField (st18.payload 0) 0 8 + leField (st18.payload 0) 8 4 * 2 ^ 20 ≤ st18.mboxSize 0 ∧
      1048576 + leField (st18.payload 0) 8 4 * 2 ^ 20 ≤ st18.capacity ∧
      st18.kce.overlaps 1048576 (leField (st18.payload 0) 8 4 * 2 ^ 20) = false ∧ st18.kce.freeId = some 0 ∧
      bitOf st18.kce.loaded (leField (st18.payload 0) 12 1) = false) ∧
    (st19.taken 0 49184 = true ∧ st19.mboxDpa 0 (leField (st19.payload 0) 0 8) = some 0 ∧
      1 ≤ leField (st19.payload 0) 12 1 ∧ leField (st19.payload 0) 12 1 ≤ 7 ∧
      reservedZero (st19.payload 0) [13, 14, 15] = true ∧ leField (st19.payload 0) 0 8 % 2 ^ 20 = 0 ∧
      1 ≤ leField (st19.payload 0) 8 4 ∧ leField (st19.payload 0) 8 4 ≤ 1048575 ∧
      leField (st19.payload 0) 0 8 + leField (st19.payload 0) 8 4 * 2 ^ 20 ≤ st19.mboxSize 0 ∧
      0 + leField (st19.payload 0) 8 4 * 2 ^ 20 ≤ st19.capacity ∧
      st19.kce.overlaps 0 (leField (st19.payload 0) 8 4 * 2 ^ 20) = true) ∧
    (st20.taken 0 49184 = true ∧ st20.mboxDpa 0 (leField (st20.payload 0) 0 8) = some 1048576 ∧
      1 ≤ leField (st20.payload 0) 12 1 ∧ leField (st20.payload 0) 12 1 ≤ 7 ∧
      reservedZero (st20.payload 0) [13, 14, 15] = true ∧ leField (st20.payload 0) 0 8 % 2 ^ 20 = 0 ∧
      1 ≤ leField (st20.payload 0) 8 4 ∧ leField (st20.payload 0) 8 4 ≤ 1048575 ∧
      leField (st20.payload 0) 0 8 + leField (st20.payload 0) 8 4 * 2 ^ 20 ≤ st20.mboxSize 0 ∧
      1048576 + leField (st20.payload 0) 8 4 * 2 ^ 20 ≤ st20.capacity ∧
      st20.kce.overlaps 1048576 (leField (st20.payload 0) 8 4 * 2 ^ 20) = false ∧ st20.kce.freeId = some 0 ∧
      bitOf st20.kce.loaded (leField (st20.payload 0) 12 1) = true ∧ st20.kce.owner ≠ LockOwner.none) ∧
    (st21.taken 0 49185 = true ∧ st21.kce.extents.find (leField (st21.payload 0) 0 2) = none) ∧
    (st22.taken 0 49185 = true ∧ st22.kce.extents.find (leField (st22.payload 0) 0 2) = some (Extent.mk 0 1 true) ∧
      reservedZero (st22.payload 0) [3, 4, 5, 6, 7] = true ∧ leField (st22.payload 0) 2 1 = 0 ∧
      st22.kce.registry.find (leField (st22.payload 0) 0 2) = some (Registry.mk 2 0 1 (5#64) (6#64) (99#128) 1) ∧
      bitOf st22.kce.loaded 2 = true ∧ st22.kce.owner = LockOwner.none ∧ st22.bgBusy 0 = false ∧
      st22.sealLevel = true ∧ st22.kce.coreGFenced = false) ∧
    (st23.taken 0 49200 = true ∧ leField (st23.payload 0) 0 1 = 1 ∧ leField (st23.payload 0) 1 1 = 2 ∧ 1 ≤ 2 ∧ 2 ≤ 7 ∧
      leField (st23.payload 0) 2 1 = 0 ∧ reservedZero (st23.payload 0) [3, 4, 5, 6, 7] = true ∧
      leField (st23.payload 0) 40 32 = 0 ∧ BitVec.ofNat 256 (leField (st23.payload 0) 8 64) ≠ 0#256 ∧
      st23.kce.owner = LockOwner.none ∧ st23.port0.ingressReq = [] ∧ st23.port0.ingressRwd = [] ∧
      st23.port1.ingressReq = [] ∧ st23.port1.ingressRwd = [] ∧ bitOf st23.kce.loaded 2 = false) ∧
    (st24.taken 0 49200 = true ∧ leField (st24.payload 0) 0 1 = 1 ∧ leField (st24.payload 0) 1 1 = 2 ∧ 1 ≤ 2 ∧ 2 ≤ 7 ∧
      leField (st24.payload 0) 2 1 = 0 ∧ reservedZero (st24.payload 0) [3, 4, 5, 6, 7] = true ∧
      leField (st24.payload 0) 40 32 = 0 ∧ leField (st24.payload 0) 8 64 = 0) ∧
    (st25.taken 0 49200 = true ∧ leField (st25.payload 0) 0 1 = 1 ∧ leField (st25.payload 0) 1 1 = 2 ∧ 1 ≤ 2 ∧ 2 ≤ 7 ∧
      leField (st25.payload 0) 2 1 = 0 ∧ reservedZero (st25.payload 0) [3, 4, 5, 6, 7] = true ∧
      leField (st25.payload 0) 40 32 = 0 ∧ BitVec.ofNat 256 (leField (st25.payload 0) 8 64) ≠ 0#256 ∧
      st25.kce.owner = LockOwner.none ∧ st25.port0.ingressReq = [] ∧ st25.port0.ingressRwd = [] ∧
      st25.port1.ingressReq = [] ∧ st25.port1.ingressRwd = [] ∧ bitOf st25.kce.loaded 2 = true) ∧
    (st26.taken 0 49201 = true ∧ leField (st26.payload 0) 0 1 = 0 ∧ leField (st26.payload 0) 1 1 = 3 ∧ 3 < 64 ∧
      reservedZero (st26.payload 0) [2, 3] = true ∧ st26.sea.value (recShroudKey 3) = none ∧
      (st26.keySlot 3).state = SlotState.loaded) ∧
    (st27.taken 0 49201 = true ∧ leField (st27.payload 0) 0 1 = 0 ∧ leField (st27.payload 0) 1 1 = 0 ∧ 0 < 64 ∧
      reservedZero (st27.payload 0) [2, 3] = true ∧ st27.sea.value (recShroudKey 0) = none ∧
      (st27.keySlot 0).state = SlotState.active) ∧
    (st28.taken 0 49201 = true ∧ leField (st28.payload 0) 0 1 = 0 ∧ leField (st28.payload 0) 1 1 = 63 ∧ 63 < 64 ∧
      reservedZero (st28.payload 0) [2, 3] = true ∧ st28.sea.value (recShroudKey 63) = none ∧
      (st28.keySlot 63).state = SlotState.empty) ∧
    (st29.taken 0 49202 = true ∧ leField (st29.payload 0) 0 1 = 0 ∧ leField (st29.payload 0) 1 1 = 3 ∧
      leField (st29.payload 0) 2 1 = 64 ∧ leField (st29.payload 0) 4 4 = 2 ∧ leField (st29.payload 0) 8 4 = 4 ∧
      0 < 64 ∧ 3 < 64 ∧ 1 ≤ 64 ∧ 64 ≤ 64 ∧ reservedZero (st29.payload 0) [3] = true ∧ 2 < 1048576 ∧ 4 < 1048576 ∧
      st29.rekeyRefused 0 3 2 4 = false ∧ st29.sea.fits [(769, rekeyRecord 0 3 2 4)] = true) ∧
    (st30.taken 0 49202 = true ∧ leField (st30.payload 0) 0 1 = 3 ∧ leField (st30.payload 0) 1 1 = 0 ∧
      leField (st30.payload 0) 2 1 = 64 ∧ leField (st30.payload 0) 4 4 = 2 ∧ leField (st30.payload 0) 8 4 = 4 ∧
      3 < 64 ∧ 0 < 64 ∧ 1 ≤ 64 ∧ 64 ≤ 64 ∧ reservedZero (st30.payload 0) [3] = true ∧ 2 < 1048576 ∧ 4 < 1048576 ∧
      st30.rekeyRefused 3 0 2 4 = true) ∧
    (st31.taken 0 49203 = true ∧ st31.shr.rkState = RekeyState.idle) ∧
    (st32.taken 0 49203 = true ∧ st32.shr.rkState = RekeyState.running ∧ st32.shr.abortable = true) ∧
    (leField (st33.payload 0) 0 1 = 17 ∧ 17 ≤ 17 ∧ (st33.mb 0).bgActive = false ∧ st33.taken 0 49232 = true ∧
      reservedZero (st33.payload 0) [1, 2, 3] = true ∧ (st33.slot 17).state = SlotSt.inService ∧
      st33.modulesOut < 2) ∧
    (leField (st34.payload 0) 0 1 = 17 ∧ 17 ≤ 17 ∧ (st34.mb 0).bgActive = false ∧ st34.taken 0 49232 = true ∧
      reservedZero (st34.payload 0) [1, 2, 3] = true ∧ (st34.slot 17).state ≠ SlotSt.inService) ∧
    (leField (st35.payload 0) 0 1 = 1 ∧ 1 ≤ 17 ∧ (st35.mb 0).bgActive = false ∧ st35.taken 0 49232 = true ∧
      reservedZero (st35.payload 0) [1, 2, 3] = true ∧ (st35.slot 1).state = SlotSt.inService ∧
      2 ≤ st35.modulesOut) ∧
    (leField (st36.payload 0) 0 1 = 17 ∧ 17 ≤ 17 ∧ (st36.mb 0).bgActive = false ∧ st36.taken 0 49233 = true ∧
      leField (st36.payload 0) 1 1 = 0 ∧ reservedZero (st36.payload 0) [2, 3] = true ∧
      st36.admissible 17 false = false) ∧
    (leField (st37.payload 0) 0 1 = 17 ∧ 17 ≤ 17 ∧ (st37.mb 0).bgActive = false ∧ st37.taken 0 49233 = true ∧
      leField (st37.payload 0) 1 1 = 0 ∧ reservedZero (st37.payload 0) [2, 3] = true ∧
      st37.admissible 17 false = true ∧ st37.moduleTrained 17 = true) := by
  and_intros <;> decide

end Vendor

namespace Power

/-! States of the witnesses of Power. -/

def sqS (f : Seq → Seq) : State := { full with seq := f full.seq }
def big (s : State) : State := { s with clock := 8000000000000 }
def st1 : State := sqS fun q => { q with state := .down }
def st3 : State := sqS fun q => { q with state := .run, railsEn := 0x7F#7, railIn := 0x7F#7 }
def st4 : State := big (sqS fun q => { q with state := .down, stable := true, rampFails := 1 })
def st5 : State := (sqS fun q => { q with state := .down, stable := true, rampFails := 1 })
def st7 : State := (sqS fun q => { q with overAt := some 5 })
def st8 : State := sqS fun q => { q with state := .ramp, railsEn := 0x0F#7, railIn := 0x0F#7, rampNext := 3 }
def st9 : State := sqS fun q => { q with state := .ramp, railsEn := 0x7F#7, railIn := 0x0F#7, rampNext := 6, rampFails := 2 }
def rd (s : State) : State := { s with glb := { s.glb with replayDone := true } }
def st11 : State := rd (sqS fun q => { q with state := .run, railsEn := 0x7F#7, railIn := 0x7F#7 })
def st12 : State := sqS fun q => { q with state := .resume }
def st13 : State := rd (sqS fun q => { q with state := .resume })
def hold (c : Cause) : State := { rd (sqS fun q => { q with state := .hold, cause := c, epochTaken := 5 }) with clock := 0 }
def st14 : State := hold .warning
def st18 : State := sqS fun q => { q with state := .resume, epochTaken := 5 }
def mr (s : State) : State := { s with seq := { s.seq with mods := (List.range 18).map fun k => (k, { liveMod with rst := true }) } }
def st19 : State := sqS fun q => { q with state := .strike, railsEn := 0x7F#7, railIn := 0x7F#7 }
def st20 : State := mr (sqS fun q => { q with state := .strike, railsEn := 0x7F#7, railIn := 0x7F#7 })
def st21 : State := mr (sqS fun q => { q with state := .strike, railsEn := 0x1#7, railIn := 0x7F#7 })
def st23 : State := mr (sqS fun q => { q with state := .strike, railsEn := 0x0#7, railIn := 0x7F#7 })
def pw (g : Bool) : State := { sqS fun q => { q with state := .run, mods := [(3, { liveMod with state := .powering, powerGood := g })] } with rst := { full.rst with datapath := true } }
def st24 : State := pw true
def st25 : State := pw false
def rt (n : Nat) (b : Bool) : State := sqS fun q => { q with unresponsive := if b then 8#18 else 0, mods := [(3, { liveMod with retries := n, state := .powering, retireMbox := some 0 })], unrespTimes := [full.clock, full.clock - 5] }
def st26 : State := rt 0 false
def st27 : State := rt 1 false
def st28 : State := rt 3 false
def st30 : State := rt 3 true
def st31 : State := sqS fun q => { q with busFailed := true }
def hold2 (c : Cause) : State := { rd (sqS fun q => { q with state := .hold, cause := c, epochTaken := 5, dumpDoneAt := some 0, shutAt := 0 }) with clock := 0 }
def st32 : State := hold2 .warning
def gpp : Prog := ⟨.hostWriteBack, none, 1, 1, 77, .sector 1 Stored.zero, .running, 3, 0, 0, 0, 0, 0⟩
def st33 : State := { sqS (fun q => { q with state := .resume, epochTaken := 5 }) with stp := { full.stp with progs := [(0, gpp)] } }

/-- States and operands that meet the hypotheses of InputAndRailsDriveTheSequencer, clause by clause. -/
theorem witness_InputAndRailsDriveTheSequencer :
    (st1.seq.state = SeqState.down ∧ st1.rst.aon = true ∧ st1.seq.rampBlocked = false ∧ st1.seq.rampFails = 0 ∧
      st1.rst.request = none) ∧
    (st1.elapsedOpt st1.seq.overAt (hours 1) = true) ∧
    (st1.seq.state = SeqState.down) ∧
    (st3.seq.state ≠ SeqState.down) ∧
    (bitOf st3.seq.railsEn 3 = true ∧ bitOf st3.seq.railIn 3 = true) ∧
    (st3.seq.state = SeqState.run ∧ st3.glb.replayDone = false) ∧
    (st4.seq.state = SeqState.down ∧ st4.rst.aon = true ∧ st4.seq.stable = true ∧ st4.seq.rampBlocked = false ∧
      0 < st4.seq.rampFails ∧ st4.rst.request = none ∧ st4.elapsed st4.seq.downAt (sec 1) = true) ∧
    (st5.seq.state = SeqState.down ∧ st5.rst.aon = true ∧ st5.seq.stable = true ∧ st5.seq.rampBlocked = false ∧
      0 < st5.seq.rampFails ∧ st5.rst.request = none ∧ st5.elapsed st5.seq.downAt (sec 1) = false) ∧
    (st7.elapsedOpt st7.seq.overAt (hours 1) = false) ∧
    (bitOf st8.seq.railsEn 3 = true ∧ bitOf st8.seq.railIn 3 = true ∧
      (st8.seq.state = SeqState.ramp ∨ st8.seq.state = SeqState.strike)) ∧
    (bitOf st8.seq.railsEn 3 = true ∧ st8.seq.state = SeqState.ramp ∧ st8.seq.rampNext = 3 ∧ 3 < 6) ∧
    (bitOf st8.seq.railsEn 3 = true ∧ st8.seq.state = SeqState.ramp) ∧
    (st8.seq.state = SeqState.ramp) ∧
    (bitOf st9.seq.railsEn 6 = true ∧ st9.seq.state = SeqState.ramp ∧ st9.seq.rampNext = 6 ∧ st9.rst.request = none ∧
      st9.seq.shdn = false) ∧
    (st11.seq.state = SeqState.run ∧ st11.glb.replayDone = true ∧ st11.glb.dumping = false ∧
      (∀ (e : Epoch), st11.media.journal = some e → e.epoch ≠ st11.glb.epochCounter) ∧
      (Instr.powerFailWarning, Cause.warning, Severity.warn) ∈ [(Instr.powerFailWarning, Cause.warning, Severity.warn), (Instr.shutdownRequest, Cause.shdn, Severity.note), (Instr.overTemperature 0 115, Cause.overTemp, Severity.critical)]) ∧
    (st11.seq.state = SeqState.run ∧ st11.glb.replayDone = true ∧ st11.glb.dumping = false ∧
      bitOf st11.seq.railsEn 2 = true ∧ bitOf st11.seq.railIn 2 = true ∧
      (∀ (e : Epoch), st11.media.journal = some e → e.epoch ≠ st11.glb.epochCounter)) ∧
    (st12.seq.state = SeqState.resume) ∧
    ((120 < 115 ∨ st13.seq.state ≠ SeqState.run)) ∧
    (st11.seq.state = SeqState.run ∧ st11.glb.replayDone = true ∧ st11.glb.dumping = false ∧
      (∀ (e : Epoch), st11.media.journal = some e → e.epoch ≠ st11.glb.epochCounter)) := by
  and_intros <;> first | decide | (intro _ h; cases h <;> decide)

/-- States and operands that meet the hypotheses of ShutdownsRunToStrikeOrResume, clause by clause. -/
theorem witness_ShutdownsRunToStrikeOrResume :
    ((st14.seq.state = SeqState.dump ∨ st14.seq.state = SeqState.hold) ∧ st14.strikeReached true = true) ∧
    ((st14.seq.cause ≠ Cause.warning ∨ st14.seq.epochTaken = 4294967295 ∨ st14.strikeReached false = true ∨ st14.seq.state ≠ SeqState.dump ∧ st14.seq.state ≠ SeqState.hold)) ∧
    (st18.seq.state = SeqState.resume ∧ st18.diesQuiet = true ∧ st18.seq.shdn = false ∧ st18.rst.request = none) ∧
    (st19.seq.state = SeqState.strike ∧ st19.allModReset = false) ∧
    (st19.seq.state = SeqState.strike ∧ st19.dty.evValid = false ∧ bitOf st19.seq.railsEn 2 = true ∧
      bitOf st19.seq.railIn 2 = true) ∧
    (st19.seq.state = SeqState.strike ∧ st19.dty.evValid = false ∧ (st19.slot 3).railsOn = true) ∧
    (st20.seq.state = SeqState.strike ∧ st20.allModReset = true ∧ st20.seq.topRail = some 6 ∧
      setBit st20.seq.railsEn 6 false ≠ 0#7) ∧
    (st21.seq.state = SeqState.strike ∧ st21.allModReset = true ∧ st21.seq.topRail = some 0 ∧
      setBit st21.seq.railsEn 0 false = 0#7) ∧
    (st23.seq.state = SeqState.strike ∧ st23.allModReset = true ∧ st23.seq.busFailed = false ∧
      st23.seq.topRail = none) ∧
    (st24.seq.state = SeqState.run) ∧
    (st24.seq.state = SeqState.run ∧ (st24.slot 3).state = SlotSt.powering ∧ (st24.slot 3).powerGood = true ∧
      st24.rst.datapath = true) ∧
    (st25.seq.state = SeqState.run ∧ (st25.slot 3).powerGood = false) ∧
    ((st32.seq.state = SeqState.dump ∨ st32.seq.state = SeqState.hold) ∧ st32.strikeReached false = false) ∧
    ((st32.seq.state = SeqState.dump ∨ st32.seq.state = SeqState.hold) ∧ st32.seq.cause = Cause.warning ∧
      st32.seq.epochTaken ≠ 4294967295 ∧ st32.strikeReached false = false) ∧
    (st33.seq.state = SeqState.resume ∧ st33.diesQuiet = false) := by
  and_intros <;> decide

/-- States and operands that meet the hypotheses of BusErrorsMarkSlotsAndFailTheBus, clause by clause. -/
theorem witness_BusErrorsMarkSlotsAndFailTheBus :
    (st26.seq.busFailed = false ∧ (st26.slot 3).retries = 0) ∧
    (st26.seq.busFailed = false ∧ bitOf st26.seq.unresponsive 3 = false ∧ (st26.slot 3).present = true) ∧
    (st26.seq.busFailed = false ∧ (st26.slot 3).state = SlotSt.powering ∧ (st26.slot 3).railsOn = true) ∧
    (st27.seq.busFailed = false ∧ 0 < (st27.slot 3).retries) ∧
    (st27.seq.busFailed = false ∧ 0 < (st27.slot 3).retries ∧ (st27.slot 3).retries < 3) ∧
    (st28.seq.busFailed = false ∧ 0 < (st28.slot 3).retries ∧ (st28.slot 3).retries = 3 ∧
      bitOf st28.seq.unresponsive 3 = false) ∧
    (bitOf st30.seq.unresponsive 3 = true) ∧
    (st31.seq.busFailed = true) := by
  and_intros <;> decide

end Power

namespace Budgets

/-! States of the witnesses of Budgets. -/

def rf (f : Reef → Reef) : State := { full with reef := f full.reef }
def pm (h : Holder) (n each lvl : Nat) : Permit := ⟨h, true, n, each, n*each, lvl, none, 0⟩
def st1 : State := rf fun r => { r with failed := true, capHalved := 8#18 }
def rw := rf fun r => { r with waiting := [(7, pm .setLow 3 1000 4), (8, pm .rewrite 2 1000 3)], held := [(2, pm .rewrite 1 500 3)], nextId := 9 }
def rw2 := rf fun r => { r with waiting := [(8, pm .rewrite 2 1000000 3)], held := [(2, pm .rewrite 1 500 3)], nextId := 9 }
def hd (p : Permit) := rf fun r => { r with held := [(2, p)], waiting := [(3, p)] }
def st3 : State := hd (pm .scrubPass 0 500 3)
def st4 : State := hd (pm .dump 1 500 1)
def st5 : State := hd (pm .dump 3 500 1)
def gpp : Prog := ⟨.hostWriteBack, none, 1, 1, 77, .sector 1 Stored.zero, .running, 3, 0, 0, 0, 0, 0⟩
def st7 : State := { hd (pm .rewrite 1 500 3) with stp := { full.stp with progs := [(0, gpp)] } }
def kc (c : Bool) : State := { full with seq := { full.seq with mods := [(3, { liveMod with coolSince := some 0 })] }, reef := { full.reef with capHalved := 8#18 }, clock := if c then 80000000000 else 5 }
def st8 : State := kc true
def st9 : State := kc false
def ck (f : Clk → Clk) : State := { full with clk := f { full.clk with xtalOk := true, refOk := 3#2, dpllLock := 3#2, mpllLock := true, rcTrimAt := some 0 }, clock := 80000000000 }
def st10 : State := ck id
def st11 : State := ck fun c => { c with xtalOk := false, onRc := true, refOk := 1#2, dpllLock := 1#2, mpllLock := false }
def st12 : State := ck fun c => { c with dpStopped := true, refOk := 2#2, dpllLock := 1#2, mpllLock := false }
def st13 : State := ck fun c => { c with refOk := 0#2, holdover := some 9 }
def st14 : State := { ck (fun c => { c with refOk := 0#2, holdover := some 9 }) with clock := 10 }
def l1 (s : State) : State := { s with port0 := { s.port0 with pm := .l1 } }
def sl (k : Nat) (d : DomSleep) : State := { full with clk := { full.clk with sleep := [(k, d)], maxSlice := 4#3, maxCore := 4#3, maxChiut := 4#3, maxAux := 4#3 } }
def st15 : State := sl 23 ⟨.furl, some 5, .layUp⟩
def st16 : State := sl 23 ⟨.furl, some 500000000, .layUp⟩
def st18 : State := sl 0 ⟨.trim, some 500000000, .layUp⟩
def st21 : State := l1 (sl 1003 ⟨.trim, some 500000000, .layUp⟩)

/-- States and operands that meet the hypotheses of ReefGrantsByLevelPoolAndCap, clause by clause. -/
theorem witness_ReefGrantsByLevelPoolAndCap :
    (full.reefRefuses (full.permitFor Holder.dump 3 (Option.map (fun x => ↑x) (some 4))) = false) ∧
    (full.reef.failed = false) ∧
    (full.reefRefuses (full.permitFor Holder.dump 3000 (Option.map (fun x => ↑x) none)) = true) ∧
    ((st1.reef.failed = true ∨ st1.inDump = true) ∧ Holder.scrubPass ≠ Holder.dump) ∧
    (rw.reefOrder = [(8, pm Holder.rewrite 2 1000 3), (7, pm Holder.setLow 3 1000 4)] ∧ rw.reef.failed = false ∧
      rw.inDump = false ∧
      rw.heldTokens (pm Holder.rewrite 2 1000 3).media + (pm Holder.rewrite 2 1000 3).cost ≤ rw.poolSize (pm Holder.rewrite 2 1000 3).media ∧
      rw.capAllows (pm Holder.rewrite 2 1000 3) = true) ∧
    (rw.reef.waiting.find 8 = some (pm Holder.rewrite 2 1000 3) ∧ 2 < (pm Holder.rewrite 2 1000 3).level ∧
      rw.elapsed (pm Holder.rewrite 2 1000 3).since (ms 10) = true) ∧
    (rw2.reefOrder = [(8, pm Holder.rewrite 2 1000000 3)] ∧ rw2.reef.failed = false ∧ rw2.inDump = false ∧
      rw2.poolSize (pm Holder.rewrite 2 1000000 3).media < rw2.heldTokens (pm Holder.rewrite 2 1000000 3).media + (pm Holder.rewrite 2 1000000 3).cost) ∧
    (st3.reef.held.find 2 = some (pm Holder.scrubPass 0 500 3) ∧ (pm Holder.scrubPass 0 500 3).programs = 0 ∧
      (∀ (c : Nat), (pm Holder.scrubPass 0 500 3).holder ≠ Holder.selfTest c)) ∧
    (st4.reef.held.find 2 = some (pm Holder.dump 1 500 1) ∧ (pm Holder.dump 1 500 1).holder = Holder.dump ∧
      (pm Holder.dump 1 500 1).programs = 1) ∧
    (st5.reef.held.find 2 = some (pm Holder.dump 3 500 1) ∧ 1 < (pm Holder.dump 3 500 1).programs ∧
      ((pm Holder.dump 3 500 1).holder = Holder.dump ∨ st5.coveredPrograms < st5.permitPrograms)) ∧
    (st7.reef.held.find 2 = some (pm Holder.rewrite 1 500 3) ∧ 1 ≤ (pm Holder.rewrite 1 500 3).programs ∧
      (pm Holder.rewrite 1 500 3).holder ≠ Holder.dump ∧ st7.permitPrograms ≤ st7.coveredPrograms) ∧
    ((st8.slot 3).coolSince = some 0 ∧ bitOf st8.reef.capHalved 3 = true ∧ st8.elapsed 0 (sec 10) = true) ∧
    ((st9.slot 3).coolSince = some 0 ∧ st9.elapsed 0 (sec 10) = false) := by
  and_intros <;> first | decide | (intro _ h; cases h <;> decide)

/-- States and operands that meet the hypotheses of ClocksFallBackAndSleepFits, clause by clause. -/
theorem witness_ClocksFallBackAndSleepFits :
    (st10.rst.aon = true ∧ st10.clk.onRc = false ∧ st10.clk.xtalOk = true) ∧
    (st10.rst.aon = true ∧ st10.clk.refOk ≠ 0#2 ∧ st10.elapsedOpt st10.clk.rcTrimAt (sec 1) = true) ∧
    (bitOf st10.clk.refOk 0 = true ∧ bitOf st10.clk.refOk (1 - 0) = true) ∧
    (st10.rst.datapath = true ∧ bitOf st10.clk.dpllLock st10.clk.active = true ∧
      bitOf st10.clk.dpllLock (1 - st10.clk.active) = true) ∧
    (st10.clk.mpllLock = true) ∧
    (st11.rst.aon = true ∧ st11.clk.xtalOk = false ∧ st11.clk.onRc = true) ∧
    (bitOf st11.clk.refOk 0 = true ∧ bitOf st11.clk.refOk (1 - 0) = false) ∧
    (st11.rst.datapath = true ∧ bitOf st11.clk.dpllLock st11.clk.active = true ∧
      bitOf st11.clk.dpllLock (1 - st11.clk.active) = false) ∧
    (st11.rst.datapath = true ∧ st11.clk.mpllLock = false ∧ st11.clk.mpllFailed = false ∧ st11.clk.refOk ≠ 0#2 ∧
      st11.rst.request = none) ∧
    (bitOf st11.clk.refOk 1 = false) ∧
    (st11.rst.datapath = true ∧ bitOf st11.clk.dpllLock 1 = false ∧ bitOf st11.clk.dpllFailed 1 = false ∧
      st11.clk.refOk ≠ 0#2 ∧ st11.clk.dpStopped = false) ∧
    (st12.rst.datapath = true ∧ bitOf st12.clk.dpllLock 1 = false ∧ bitOf st12.clk.dpllFailed 1 = false ∧
      st12.clk.refOk ≠ 0#2 ∧ st12.clk.dpStopped = true ∧ st12.rst.request = none) ∧
    (st13.rst.aon = true ∧ st13.clk.refOk = 0#2) ∧
    (st13.clk.holdover = some 9 ∧ st13.elapsed 9 (ms 1) = true) ∧
    (st14.clk.holdover = some 9 ∧ st14.elapsed 9 (ms 1) = false) ∧
    (st15.domBusy (Domain.channel 3) = false) ∧
    ((st15.dom (domainKey (Domain.channel 3))).wakeAt = some 5 ∧ 5 ≤ st15.clock) ∧
    ((st15.dom (domainKey (Domain.channel 3))).state ≠ Sleep.trim) ∧
    ((st16.dom (domainKey (Domain.channel 3))).wakeAt = some 500000000 ∧ st16.clock < 500000000) ∧
    ((st18.dom (domainKey (Domain.port Port.hp0))).state = Sleep.trim) ∧
    (st21.domBusy Domain.aon = true) := by
  and_intros <;> decide

end Budgets

namespace Bringup

/-! States of the witnesses of Bringup. -/

def fs : State := { full with dbg := { full.dbg with granted := true }, mst := { full.mst with running := true, retired := 1#3 }, seq := { full.seq with state := .run } }
def rq (l : ResetLevel) (n : Nat) (w : Bool) : State := { fs with rst := { fs.rst with request := some ⟨l, n, w⟩ } , sea := { fs.sea with recs := [⟨5#15, [1#8], 1, false⟩] , counters := [(3, 8#64)] }, dty := { fs.dty with fw := [(0, 6#32)] }, bly := { fs.bly with fenced := 1#8, entries := [] } }
def st3 : State := rq .sys 4 false
def st4 : State := rq .pon 4 false
def st5 : State := rq .core 10 false
def bu (f : Clk → Clk) : State := { full with seq := { full.seq with state := .run }, clk := f { full.clk with dpllLock := 0#2, mpllLock := false }, rst := { full.rst with filled := false, datapath := false, booted := false, aon := true }, port0 := { full.port0 with released := false } }
def st8 : State := bu id
def st11 : State := State.reset
def b2 : State := { bu id with rst := { full.rst with filled := true, datapath := true, booted := true, aon := true }, clk := { full.clk with mpllLock := true }, mst := { full.mst with released := false }, port0 := { full.port0 with released := false, lock := true }, port1 := { full.port1 with released := false, lock := true } }
def b3 : State := { b2 with rst := { b2.rst with filled := false, booted := false } }
def b4 : State := { b3 with mst := { full.mst with released := true }, sea := { full.sea with settled := true, recs := [⟨0x0205#15, (List.range 72).map (BitVec.ofNat 8), 1, false⟩, ⟨0x0206#15, (List.range 72).map (BitVec.ofNat 8), 1, false⟩, ⟨0x0242#15, (List.range 40).map (BitVec.ofNat 8), 1, false⟩], counters := [(2, 8#64)] } , dty := { full.dty with evValid := true, dbgOwed := true } }
def st14 : State := bu (fun c => { c with refOk := 3#2 })

/-- States and operands that meet the hypotheses of ResetRequestsAreHeldOffAndTakeEffect, clause by clause. -/
theorem witness_ResetRequestsAreHeldOffAndTakeEffect :
    (fs.rst.request = none ∧ fs.mst.running = true ∧ fs.dbg.granted = true) ∧
    ((fs.resetPath (Path.host Port.hp0) = none ∨ 5#16 ≠ 45063#16)) ∧
    ((st3.rst.request = some (ResetReq.mk ResetLevel.sys 4 false) ∨ st3.rst.request = some (ResetReq.mk ResetLevel.pon 4 false))) ∧
    (st3.rst.request = some (ResetReq.mk ResetLevel.sys 4 false) ∧ st3.holdOffDone = true ∧ 4 ≠ 3) ∧
    (st4.rst.request = some (ResetReq.mk ResetLevel.pon 4 false) ∧ st4.holdOffDone = true) ∧
    (st5.rst.request = some (ResetReq.mk ResetLevel.core 10 false) ∧ st5.resetPath Path.mainmast = some false) := by
  and_intros <;> decide

/-- States and operands that meet the hypotheses of BringUpReleasesDomainsInOrder, clause by clause. -/
theorem witness_BringUpReleasesDomainsInOrder :
    (st8.rst.aon = true ∧ (st8.seq.state = SeqState.run ∨ st8.seq.state = SeqState.ramp) ∧
      bitOf st8.clk.dpllFailed 0 = false ∧ bitOf st8.clk.dpllLock 0 = false) ∧
    (st8.rst.aon = true ∧ (st8.seq.state = SeqState.run ∨ st8.seq.state = SeqState.ramp) ∧
      st8.clk.mpllFailed = false ∧ st8.clk.mpllLock = false) ∧
    (st8.rst.aon = true ∧ (st8.seq.state = SeqState.run ∨ st8.seq.state = SeqState.ramp) ∧
      bitOf st8.clk.portFailed (portIdx Port.hp0) = false ∧ (st8.port Port.hp0).released = false) ∧
    (st8.rst.aon = true ∧ (st8.seq.state = SeqState.run ∨ st8.seq.state = SeqState.ramp) ∧
      bitOf st8.clk.hbmFailed 0 = false ∧ st8.rst.filled = false) ∧
    ((st8.seq.state ≠ SeqState.run ∨ st8.clk.refOk = 0#2 ∨ st8.clk.dpllFailed = 3#2)) ∧
    ((st8.rst.filled = false ∨ st8.clk.mpllLock = false)) ∧
    ((st8.rst.booted = false ∨ (st8.port Port.hp0).lock = false ∨ bitOf st8.clk.portFailed (portIdx Port.hp0) = true)) ∧
    (st11.rst.aon = false) ∧
    (b2.rst.filled = true ∧ b2.mst.released = false ∧ b2.clk.mpllLock = true ∧ b2.mst.lead.isSome = true) ∧
    (b2.rst.booted = true ∧ (b2.port Port.hp0).released = false ∧ (b2.port Port.hp0).lock = true ∧
      bitOf b2.clk.portFailed (portIdx Port.hp0) = false) ∧
    (b3.rst.datapath = true ∧ b3.rst.filled = false ∧ b3.clk.fuseFailed = false) ∧
    (b4.mst.released = true ∧ b4.rst.booted = false ∧ b4.sea.settled = true) ∧
    (st14.seq.state = SeqState.run ∧ st14.rst.datapath = false ∧ st14.clk.refOk ≠ 0#2 ∧ st14.clk.dpllFailed ≠ 3#2) := by
  and_intros <;> decide

end Bringup

namespace Ageing

/-! States of the witnesses of Ageing. -/

def big (s : State) : State := { s with clock := 2000000000000000 }
def te (f : Tel → Tel) : State := big { full with seq := { full.seq with state := .run }, tel := f { full.tel with inputHighAt := some 0 } }
def st1 : State := te id
def st2 : State := te fun t => { t with busy := true, capMf := 4000, esr := 10, invalidRun := 0, euMj := 50000 }
def st3 : State := te fun t => { t with busy := true, capMf := 4000, esr := 10, invalidRun := 2, euMj := 50000 }
def st4 : State := te fun t => { t with busy := true, capMf := 4000, esr := 10, invalidRun := 5, euMj := 50000 }
def bt (n : Nat) : State := { te id with glb := { full.glb with replayDone := true, memoryActive := false }, rst := { full.rst with mediaUpAt := some n } }
def st7 : State := bt 5
def st8 : State := bt 2000000000000000
def st12 : State := { full with clock := 5, mst := { full.mst with running := false } }
def tk (t u : Nat) : Ticket := ⟨3, t, u, 0, .waiting, 0, 0, 0, 0, false⟩
def st (t u : Nat) (f : State → State := id) : State := f { big full with trm := { full.trm with tickets := [tk t u] }, cache := { full.cache with recalAt := (List.range 64).map fun i => (i, 2000000000000000) }, reef := { full.reef with held := [(0, ⟨.selfTest 400, false, 0, 0, 400, 5, none, 0⟩), (1, ⟨.selfTest 1500, false, 0, 0, 400, 5, none, 0⟩), (2, ⟨.selfTest 2000, false, 0, 0, 400, 5, none, 0⟩), (3, ⟨.selfTest 300, false, 0, 0, 400, 5, none, 0⟩), (4, ⟨.selfTest 200, false, 0, 0, 400, 5, none, 0⟩)] } }
def st13 : State := st 5 0
def st14 : State := st 1 0
def st21 : State := st 5 9 (fun s => { s with kce := { s.kce with coreGFenced := true} })
def st22 : State := st 5 9 (fun s => { s with trm := { s.trm with slice := some ⟨5, 0, some 3⟩}, kce := { s.kce with owner := .selfTest } })
def st25 : State := st 1 9 (fun s => { s with trm := { s.trm with slice := some ⟨1, 9, some 3⟩} })
def hr : State := { big full with cache := { full.cache with stackOk := 3#2, recalAt := [(3, 0)] }, reef := { full.reef with held := [(4, ⟨.hbmRecal, false, 0, 0, 400, 5, none, 0⟩)] } }

/-- States and operands that meet the hypotheses of MeasurementsSetTheBudgetAndThePlan, clause by clause. -/
theorem witness_MeasurementsSetTheBudgetAndThePlan :
    (st1.mayMeasure = true ∧ st1.resetPath Path.mainmast ≠ none) ∧
    (st1.mayMeasure = true ∧ st1.mst.running = true ∧ st1.measureDue = true) ∧
    (st1.mst.running = true ∧ st1.rst.booted = true ∧
      (st1.trm.due = true ∨ st1.elapsed st1.trm.computedAt (hours 1) = true)) ∧
    (st1.elapsed st1.trm.computedAt (hours 2) = true) ∧
    (st1.mst.running = true ∧ st1.elapsedOpt st1.tel.summaryAt (hours 24) = true) ∧
    (st2.mayMeasure = false) ∧
    (st2.tel.busy = true ∧ st2.tel.invalid (HoldupRead.mk 90 5 4000) = true ∧ st2.tel.invalidRun ≠ 2) ∧
    (st3.tel.busy = true ∧ st3.tel.invalid (HoldupRead.mk 900 0 4000) = true ∧ st3.tel.invalidRun = 2) ∧
    (st4.tel.busy = true ∧ st4.tel.invalid (HoldupRead.mk 900 5 2000) = false) ∧
    (st7.rst.mediaUpAt = some 5 ∧ st7.glb.replayDone = true ∧ st7.glb.memoryActive = false ∧ st7.tel.history = [] ∧
      st7.tel.valid = false ∧ st7.tel.busy = false ∧ st7.elapsed 5 (sec 15) = true) ∧
    (st8.rst.mediaUpAt = some 2000000000000000 ∧ st8.glb.replayDone = true ∧ st8.glb.memoryActive = false ∧
      st8.tel.history = [] ∧ st8.tel.valid = false ∧ st8.tel.busy = false ∧
      st8.elapsed 2000000000000000 (sec 15) = false) ∧
    (st12.mst.running = false) ∧
    (st12.elapsed st12.trm.computedAt (hours 2) = false) := by
  and_intros <;> decide

/-- States and operands that meet the hypotheses of SelfTestSlicesTakeOneUnitOut, clause by clause. -/
theorem witness_SelfTestSlicesTakeOneUnitOut :
    (List.find? (fun k => k.id == 3 && k.state == TicketState.waiting) st13.trm.tickets = some (tk 5 0) ∧
      (tk 5 0).notBefore ≤ st13.glb.time.toNat ∧ st13.mst.running = true ∧ st13.trm.slice = none ∧
      st13.unitGone (tk 5 0).test (tk 5 0).unit = false ∧ st13.levelForSlices = true ∧
      st13.coverOk (tk 5 0).test (tk 5 0).unit = true ∧ st13.testPermit ((testCost (tk 5 0).test).getD 0) = true ∧
      (∀ u < 64, st13.recalDue u = false)) ∧
    (List.find? (fun k => k.id == 3 && k.state == TicketState.waiting) st13.trm.tickets = some (tk 5 0) ∧
      (tk 5 0).notBefore ≤ st13.glb.time.toNat ∧ st13.coverOk (tk 5 0).test (tk 5 0).unit = true) ∧
    (st13.trm.slice = none) ∧
    (List.find? (fun k => k.id == 3 && k.state == TicketState.waiting) st14.trm.tickets = some (tk 1 0) ∧
      (tk 1 0).notBefore ≤ st14.glb.time.toNat ∧ st14.mst.running = true ∧ st14.trm.slice = none ∧
      st14.unitGone (tk 1 0).test (tk 1 0).unit = false ∧
      (st14.levelForSlices = false ∨ st14.coverOk (tk 1 0).test (tk 1 0).unit = false ∨ st14.testPermit ((testCost (tk 1 0).test).getD 0) = false)) ∧
    (List.find? (fun k => k.id == 3 && k.state == TicketState.waiting) st14.trm.tickets = some (tk 1 0) ∧
      (tk 1 0).notBefore ≤ st14.glb.time.toNat ∧ st14.coverOk (tk 1 0).test (tk 1 0).unit = false ∧
      st14.elapsed (tk 1 0).since (hours 24) = true) ∧
    (List.find? (fun k => k.id == 3 && k.state == TicketState.waiting) st21.trm.tickets = some (tk 5 9) ∧
      (tk 5 9).notBefore ≤ st21.glb.time.toNat ∧ st21.mst.running = true ∧ st21.trm.slice = none ∧
      st21.unitGone (tk 5 9).test (tk 5 9).unit = true) ∧
    (List.find? (fun k => k.id == 3 && k.state == TicketState.waiting) st22.trm.tickets = some (tk 5 9) ∧
      (tk 5 9).notBefore ≤ st22.glb.time.toNat ∧ st22.trm.slice.isSome = true) ∧
    (st22.trm.slice = some (SliceRun.mk 5 0 (some 3)) ∧ (5 ≠ 7 ∨ st22.tel.busy = false)) ∧
    (st22.trm.slice = some (SliceRun.mk 5 0 (some 3)) ∧ (5 ≠ 7 ∨ st22.tel.busy = false) ∧
      (st22.trm.tickets.any fun k => k.id == 3 && k.cancel) = false) ∧
    (st22.trm.slice = some (SliceRun.mk 5 0 (some 3))) ∧
    (100 ≤ 100 ∧ st25.recalDue (0 * 32 + 3) = false) ∧
    (100 ≤ 100 ∧ hr.recalDue (0 * 32 + 3) = true ∧ hr.trm.slice = none ∧ hr.levelForSlices = true ∧
      hr.cache.stackOk = 3#2 ∧ hr.pcEmptied 0 3 = true ∧
      (List.any hr.reef.held fun e => e.2.holder == Holder.hbmRecal) = true) := by
  and_intros <;> decide

end Ageing

namespace Logbook

/-! States of the witnesses of Logbook. -/

def lg (f : Logb → Logb) : State := { full with log := f { full.log with restored := true }, clock := 2000000000000 , media := { full.media with setId := some 1 } }
def rc (n : Nat) (t : RecType) (p : Bool) : LogRec := ⟨n, .warn, t, 5, List.replicate (if p then 46 else 16) 1#8, p, false⟩
def st1 : State := lg fun l => { l with queue := [rc 0 .event false, rc 0 .boot true], ring := [rc 3 .event true] }
def st2 : State := lg fun l => { l with queue := [rc 0 .event true], n := 1048575 }
def st8 : State := { lg (fun l => { l with n := 5 }) with mst := { full.mst with running := false } }
def cs (b f : Bool) (st : Option Nat) : State := { lg fun l => { l with n := 5, ring := [rc 3 .event false, rc 4 .event false], chainCount := 2, chainTag := 99#128, chainIndex := 7 } with kce := { full.kce with loaded := if b then 1#8 else 0, keys := [(0, 77#256)], coreLFenced := f, stallL := st } }
def st9 : State := cs false false none
def st11 : State := cs true false none
def st12 : State := cs true false (some 5)
def st13 : State := cs true false (some 2000000000000)
def re (l : ResetLevel) : State := { lg (fun l => { l with restored := false, archive := [rc 3 .event false] }) with sea := { full.sea with settled := true, counters := [(1, 8#64)], ctrSlots := 9 }, rst := { full.rst with level := l }, dty := { full.dty with recs := [rc 3 .event false, rc 8388610 .boot true] } }
def st14 : State := re .pon
def st15 : State := re .sys
def mb0 (m op : Nat) (p : List Byte) (f : Logb → Logb := id) : State := { lg (fun l => f { l with n := 50, ring := [rc 3 .event false, rc 4 .event true, rc 6 .event false, rc 8 .event true], archive := [rc 1 .event false, rc 2 .event false] }) with hly := { Hly.reset with mb := [(m, { Mb.reset with st := .executing, opcode := BitVec.ofNat 16 op, payload := p })] }, mst := { full.mst with journal := [⟨Fin.ofNat 5 m, BitVec.ofNat 16 op, false⟩] } }
def sn (first cnt src mode : Nat) : List Byte := leBytes 8 first ++ leBytes 2 cnt ++ leBytes 1 src ++ leBytes 1 mode ++ leBytes 4 0
def st16 : State := mb0 0 0xC040 (sn 0 4 2 0)
def st17 : State := mb0 0 0xC040 (sn 0 4 0 0)
def st19 : State := mb0 0 0xC040 (sn 2 1 1 1) (fun l => { l with snapshots := [(0, (1, 5))], clearBound := 1 })
def st20 : State := mb0 0 0xC040 (sn 2 1 1 1) (fun l => { l with snapshots := [(0, (1, 2000000000000))], clearBound := 1 })
def kx (s : State) : State := { s with kce := { full.kce with loaded := 1#8, keys := [(0, 77#256)] } }
def au (b : Nat) (t : BitVec 128) : BitVec 128 := (kx full).clearAuth b t
def st21 : State := mb0 0 0xC041 (leBytes 8 0 ++ leBytes 16 0)
def st22 : State := mb0 0 0xC041 (leBytes 8 5 ++ leBytes 16 0)
def st24 : State := kx (mb0 0 0xC041 (leBytes 8 5 ++ bytesOf 16 (au 5 9#128)) (fun l => { l with chainTag := 9#128 }))
def cp (r : Bool) : State := { mb0 0 0xC041 (leBytes 8 5 ++ leBytes 16 0) (fun l => { l with clearPending := some ⟨5, 8, 0⟩ }) with mst := { full.mst with running := r,  journal := [⟨Fin.ofNat 5 0, BitVec.ofNat 16 0xC041, false⟩] } }
def st25 : State := cp true
def st26 : State := cp false

/-- States and operands that meet the hypotheses of LogbookNumbersChainsAndArchives, clause by clause. -/
theorem witness_LogbookNumbersChainsAndArchives :
    (st1.log.queue = [rc 0 RecType.event false, rc 0 RecType.boot true] ∧ st1.log.owes = false ∧
      st1.log.restored = true ∧ st1.log.canNumber (rc 0 RecType.event false).slots = true ∧
      slotsOf st1.log.ring + (rc 0 RecType.event false).slots ≤ 65536) ∧
    (st1.pathOpen Path.mainmast = true ∧ st1.log.wrType ≠ 3#8 ∧ st1.log.wrType ≠ 4#8 ∧
      (slotsOf st1.log.queue + if st1.log.wrPair = true then 2 else 1) ≤ 512) ∧
    ((st1.pathOpen Path.debug = false ∨ st1.log.wrType = 3#8 ∨ st1.log.wrType = 4#8)) ∧
    (st1.mst.running = true ∧ st1.archiveReachable = true) ∧
    (st1.log.n < 983040) ∧
    (st1.chainDue = false) ∧
    (st1.log.restored = true) ∧
    (st2.log.queue = [rc 0 RecType.event true] ∧ st2.log.owes = false ∧
      (st2.log.restored = false ∨ st2.log.canNumber (rc 0 RecType.event true).slots = false)) ∧
    (st2.log.restored = true ∧ st2.log.saturated = false ∧ st2.log.nextBlock = none ∧ 983040 ≤ st2.log.n ∧
      st2.sea.saturated 1 = false) ∧
    ((st8.mst.running = false ∨ st8.archiveReachable = false)) ∧
    (st9.log.restored = true ∧ st9.chainDue = true ∧ st9.log.canNumber 2 = true ∧
      (st9.kce.coreLFenced = true ∨ bitOf st9.kce.loaded 0 = false)) ∧
    (st11.log.restored = true ∧ st11.chainDue = true ∧ st11.log.canNumber 2 = true ∧ st11.kce.coreLFenced = false ∧
      bitOf st11.kce.loaded 0 = true ∧ st11.kce.stallL = none) ∧
    (st12.log.restored = true ∧ st12.chainDue = true ∧ st12.log.canNumber 2 = true ∧ st12.kce.coreLFenced = false ∧
      bitOf st12.kce.loaded 0 = true ∧ st12.kce.stallL = some 5) ∧
    (st12.log.restored = true ∧ st12.chainDue = true ∧ st12.log.canNumber 2 = true ∧ st12.kce.coreLFenced = false ∧
      bitOf st12.kce.loaded 0 = true ∧ st12.kce.stallL = some 5 ∧ st12.elapsed 5 (sec 10) = true) ∧
    (st13.log.restored = true ∧ st13.chainDue = true ∧ st13.log.canNumber 2 = true ∧ st13.kce.coreLFenced = false ∧
      bitOf st13.kce.loaded 0 = true ∧ st13.kce.stallL = some 2000000000000 ∧
      st13.elapsed 2000000000000 (sec 10) = false) ∧
    (st14.log.restored = false ∧ st14.rst.aon = true ∧ st14.sea.settled = true ∧ slotsOf st14.log.queue ≤ 510 ∧
      st14.rst.level = ResetLevel.pon ∧ st14.sea.saturated 1 = false ∧ st14.sea.ctrSlots < 1024) ∧
    (st15.log.restored = false ∧ st15.rst.aon = true ∧ st15.sea.settled = true ∧ slotsOf st15.log.queue ≤ 510 ∧
      st15.rst.level ≠ ResetLevel.pon ∧ st15.dty.recs ≠ []) := by
  and_intros <;> decide

/-- States and operands that meet the hypotheses of LogbookReadsAndClears, clause by clause. -/
theorem witness_LogbookReadsAndClears :
    (st16.taken 0 49216 = true ∧ (1 < leField (st16.payload 0) 10 1 ∨ 1 < leField (st16.payload 0) 11 1)) ∧
    (st17.taken 0 49216 = true ∧ leField (st17.payload 0) 10 1 ≤ 1 ∧ leField (st17.payload 0) 11 1 ≤ 1 ∧
      reservedZero (st17.payload 0) [12, 13, 14, 15] = true ∧
      49 = (Option.map Prod.fst (st17.log.snapshots.find 0)).getD (st17.log.nextSeq - 1)) ∧
    (st19.log.snapshots.find 0 = some (1, 5) ∧ st19.elapsed 5 (sec 60) = true) ∧
    (st20.log.snapshots.find 0 = some (1, 2000000000000) ∧ st20.elapsed 2000000000000 (sec 60) = false) ∧
    (st21.taken 0 49217 = true ∧ st21.log.clearPending = none ∧ leField (st21.payload 0) 0 8 = 0 ∧
      BitVec.ofNat 128 (leField (st21.payload 0) 8 16) = 0 ∧ (0 = 0 ∨ st21.log.nextSeq ≤ 0)) ∧
    (st22.taken 0 49217 = true ∧ st22.log.clearPending = none ∧ leField (st22.payload 0) 0 8 = 5 ∧
      BitVec.ofNat 128 (leField (st22.payload 0) 8 16) = 0 ∧ 5 ≠ 0 ∧ 5 < st22.log.nextSeq ∧
      (bitOf st22.kce.loaded 0 = false ∨ st22.kce.coreLFenced = true ∨ st22.clearAuth 5 st22.log.chainTag ≠ 0 ∧ st22.clearAuth 5 st22.log.prevTag ≠ 0)) ∧
    (st24.taken 0 49217 = true ∧ st24.log.clearPending = none ∧ leField (st24.payload 0) 0 8 = 5 ∧
      BitVec.ofNat 128 (leField (st24.payload 0) 8 16) = au 5 9#128 ∧ 5 ≠ 0 ∧ 5 < st24.log.nextSeq ∧
      bitOf st24.kce.loaded 0 = true ∧ st24.kce.coreLFenced = false ∧
      (st24.clearAuth 5 st24.log.chainTag = au 5 9#128 ∨ st24.clearAuth 5 st24.log.prevTag = au 5 9#128) ∧
      st24.log.queue = [] ∧ st24.log.owes = false ∧ st24.log.canNumber 2 = true ∧
      slotsOf st24.log.ring + 2 ≤ 65536) ∧
    (st25.log.clearPending = some (ClearRun.mk 5 8 0) ∧ st25.mst.running = true ∧ st25.archiveReachable = true) ∧
    (st26.log.clearPending = some (ClearRun.mk 5 8 0) ∧ (st26.mst.running = false ∨ st26.archiveReachable = false)) := by
  and_intros <;> decide

end Logbook

namespace SeaAndEvents

/-! States of the witnesses of SeaAndEvents. -/

def se (f : Sea → Sea) : State := { full with sea := f { full.sea with settled := true } }
def r1 : List SRec := [⟨5#15, [1#8], 1, false⟩, ⟨5#15, [2#8], 2, false⟩, ⟨6#15, [2#8], 2, false⟩, ⟨6#15, [3#8], 2, true⟩]
def st1 : State := se fun x => { x with recs := r1, txn := 2 }
def st3 : State := se fun x => { x with recs := (List.range 22).map (fun i => ⟨BitVec.ofNat 15 i, List.replicate 480 1#8, 1, false⟩), txn := 2, freeBytes := 100, otherErased := false }
def st4 : State := { se id with seq := { full.seq with state := .strike } }
def st5 : State := se fun x => { x with rawPage := 400#11, rawLen := 7#9, rawOffset := 508#9, rawBuf := [(0, 0x12345678#32), (1, 0xAABBCCDD#32)], flash := [(204800, 1#8), (205308, 0x0F#8)] }
def st9 : State := se fun x => { x with counters := [(1, 64#64), (2, 5#64)], ctrSlots := 1024 }
def st10 : State := se fun x => { x with counters := [(1, 64#64), (5, 4095#64)], ctrSlots := 1024 }
def st11 : State := se fun x => { x with counters := [(1, 64#64), (5, 4095#64)], ctrSlots := 1024, erasing := true }
def st12 : State := { se fun x => { x with counters := [(1, 64#64), (5, 4095#64)], ctrSlots := 24, settled := false } with rst := { full.rst with aon := true } }
def ev (i : Nat) (f : Src → Src) : State := { full with evt := { full.evt with src := [(i, f (full.src i))] }, clock := 2000000000000 }
def st14 : State := ev 1257 fun x => { x with mst := false, heldCount := 3, lastRec := some 5 }
def st15 : State := ev 1257 fun x => { x with mst := true, heldCount := 3, lastRec := some 2000000000000 }
def st16 : State := ev 1269 fun x => { x with mst := true, heldCount := 3, lastRec := some 2000000000000 }
def bk : State := { full with evt := { full.evt with buckets := [(1027, ⟨3, 4⟩), (1028, ⟨1, 1⟩)], alert := true, alertAt := 0 }, clock := 2000000000000 }
def st19 : State := { bk with clock := 5 }

/-- States and operands that meet the hypotheses of SeaChestStoresWholeOrNotAtAll, clause by clause. -/
theorem witness_SeaChestStoresWholeOrNotAtAll :
    ([9#8].length ≤ 480 ∧ st1.sea.settled = true ∧ st1.seq.state ≠ SeqState.strike ∧
      st1.sea.fits [(5, [9#8])] = true) ∧
    ([9#8].length ≤ 480 ∧ st1.sea.settled = true ∧ st1.seq.state ≠ SeqState.strike) ∧
    (st1.seq.state ≠ SeqState.strike ∧ st1.pathOpen Path.mainmast = true ∧
      (st1.sea.rawSector < 5 ∨ st1.sea.canProgram (List.map Prod.fst st1.sea.rawBytes) = false)) ∧
    (st1.seq.state ≠ SeqState.strike ∧ st1.pathOpen Path.mainmast = true ∧ st1.sea.rawSector < 5) ∧
    (st1.seq.state ≠ SeqState.strike ∧ st1.pathOpen Path.debug = false) ∧
    ((0 = 0 ∨ 5 < 0)) ∧
    (1 ≤ 1 ∧ 1 ≤ 5 ∧ st1.sea.settled = true ∧ st1.seq.state ≠ SeqState.strike ∧ st1.sea.saturated 1 = false) ∧
    (st1.sea.ctrSlots ≤ 960) ∧
    (st1.sea.erasing = false) ∧
    (st1.sea.settled = true) ∧
    ([9#8].length ≤ 480 ∧ st3.sea.settled = true ∧ st3.seq.state ≠ SeqState.strike ∧
      st3.sea.fits [(5, [9#8])] = false) ∧
    ([9#8].length ≤ 480 ∧ (st4.sea.settled = false ∨ st4.seq.state = SeqState.strike)) ∧
    (st5.seq.state ≠ SeqState.strike ∧ st5.pathOpen Path.mainmast = true ∧ 5 ≤ st5.sea.rawSector ∧
      st5.sea.canProgram (List.map Prod.fst st5.sea.rawBytes) = true) ∧
    (st5.seq.state ≠ SeqState.strike ∧ st5.pathOpen Path.mainmast = true ∧ 5 ≤ st5.sea.rawSector) ∧
    (960 < st9.sea.ctrSlots ∧ st9.sea.settled = true ∧ st9.seq.state ≠ SeqState.strike) ∧
    (1 ≤ 5 ∧ 5 ≤ 5 ∧ st10.sea.settled = true ∧ st10.seq.state ≠ SeqState.strike ∧ st10.sea.saturated 5 = true) ∧
    (st11.sea.erasing = true ∧ st11.seq.state ≠ SeqState.strike) ∧
    (st12.rst.aon = true ∧ st12.sea.settled = false) := by
  and_intros <;> decide

/-- States and operands that meet the hypotheses of EventsFireHoldAndLeak, clause by clause. -/
theorem witness_EventsFireHoldAndLeak :
    (1257 ≤ 1283 ∧ sevOk 1257 (Severity.ofCode 3) = false) ∧
    (1257 ≤ 1283 ∧ (∀ (k : Nat), (bk.src k).heldCount = 0)) ∧
    (1257 ≤ 1283 ∧ sevOk 1257 (Severity.ofCode 2) = true) ∧
    (1257 ≤ 1283 ∧ sevOk 1257 (Severity.ofCode 2) = true ∧ 1257 ∉ [1026, 1046, 1227, 1228, 1256, 1273] ∧
      slotsOf st14.log.queue ≤ 510 ∧ 2 ≤ 2 ∧ (∀ (c : Nat), (st14.src 1257).lastRec = some c → c ≤ st14.clock)) ∧
    (1257 ≤ 1283 ∧ (st14.src 1257).lastRec = some 5 ∧ 5 + holdPeriod 1257 (st14.src 1257).heldSev ≤ st14.clock) ∧
    ((5 < 105 ∨ st14.elapsedOpt st14.seq.hotAt (sec 60) = false)) ∧
    (5 < 95) ∧
    (105 ≤ 2000000000000 ∧ st15.elapsedOpt st15.seq.hotAt (sec 60) = true) ∧
    (95 ≤ 2000000000000 ∧ st15.elapsedOpt (st15.cache.stackHotAt.find 0) (sec 60) = true) ∧
    (1269 ≤ 1283 ∧ sevOk 1269 (Severity.ofCode 0) = true ∧ 1269 ∉ [1026, 1046, 1227, 1228, 1256, 1273] ∧
      slotsOf st16.log.queue ≤ 510 ∧ 0 ≤ 1 ∧ (st16.src 1269).lastRec = some 2000000000000 ∧
      st16.clock < 2000000000000 + ms 1 ∧ (st16.src 1269).heldSev.code ≤ 1) ∧
    (bucketOk 1 3 = true) ∧
    (bk.evt.alert = true ∧ bk.evt.alertHeld = false ∧ bk.elapsed bk.evt.alertAt (ms 10) = true) ∧
    ((st19.evt.alertHeld = true ∨ st19.elapsed st19.evt.alertAt (ms 10) = false)) := by
  and_intros <;> first | decide | exact fun _ => rfl | (intro _ h; cases h <;> decide)

end SeaAndEvents

namespace Registers

/-! States of the witnesses of Registers. -/

def up (s : State) : State := { s with rst := { s.rst with aon := true, datapath := true } , dbg := { s.dbg with granted := true }, mst := { s.mst with running := true } }
def ua : State := up full
def dn : State := { ua with rst := { ua.rst with datapath := false } }
def st1 : State := { ua.wakeBlock .glb with access := ⟨0#64, false⟩ }
def la : State := { ua with latches := [(0, { Latches.reset with high := [(Block.glb.key 11, 77#32)] })] }
def st2 : State := { la.wakeBlock .glb with access := ⟨0#64, false⟩ }
def fz : State := { ua with pmu := { ua.pmu with units := [(1, { PmuUnit.reset with freeze := true, cyc := 77, ovf := 3 })] } }
def st3 : State := { ua with port0 := { ua.port0 with lock := true } }
def st9 : State := { ua with clk := { ua.clk with dpllLock := 3#2 }}

/-- States and operands that meet the hypotheses of RegisterAccessFollowsItsPath, clause by clause. -/
theorem witness_RegisterAccessFollowsItsPath :
    (ua.pathOpen (Path.host Port.hp0) = false ∧
      (Instr.mstFifoRead (Path.host Port.hp0) ∈ [Instr.mstFifoRead (Path.host Port.hp0), Instr.pmuFreeze (Path.host Port.hp0) 0, Instr.pmuFreeze (Path.host Port.hp0) 1, Instr.pmuFreeze (Path.host Port.hp0) 2, Instr.pmuFreeze (Path.host Port.hp0) 3, Instr.pmuClear (Path.host Port.hp0) 0, Instr.pmuClear (Path.host Port.hp0) 1, Instr.pmuClear (Path.host Port.hp0) 2, Instr.pmuClear (Path.host Port.hp0) 3] ∨ (∃ ch, Instr.mstFifoRead (Path.host Port.hp0) = Instr.addrTabHiRead (Path.host Port.hp0) ch ∨ Instr.mstFifoRead (Path.host Port.hp0) = Instr.addrTabClear (Path.host Port.hp0) ch) ∨ (∃ a, Instr.mstFifoRead (Path.host Port.hp0) = Instr.lowWordRead (Path.host Port.hp0) a) ∨ ∃ a d, Instr.mstFifoRead (Path.host Port.hp0) = Instr.registerWrite (Path.host Port.hp0) a d ∨ Instr.mstFifoRead (Path.host Port.hp0) = Instr.lockSet (Path.host Port.hp0) a d ∨ Instr.mstFifoRead (Path.host Port.hp0) = Instr.timeHiWrite (Path.host Port.hp0) d)) ∧
    ((ua.port Port.hp0).linkUp = true ∧ (0 < 73728 ∨ 131072 ≤ 0 ∧ 0 < 270336)) ∧
    ((ua.port Port.hp0).linkUp = true ∧ 524288 ≤ 524288 ∧ 524288 % 4 = 0 ∧
      ua.hostReg Port.hp0 524288 = some (Block.glb, 0) ∧ Block.glb.isHigh 0 = false) ∧
    (ua.pathOpen Path.debug = true) ∧
    (ua.pathOpen Path.debug = true ∧ ua.rst.datapath = true) ∧
    (ua.pathOpen Path.debug = true ∧ ua.rst.datapath = true ∧ bitOf ua.clk.chiutFailed (moduleOf 3) = false) ∧
    (ua.pathOpen Path.debug = true ∧ 1073743872 % 4 = 0 ∧
      (locate 1073743872 = RegLoc.factory ∨ locate 1073743872 = RegLoc.absent) ∧
      locate 1073743872 = RegLoc.factory) ∧
    (ua.pathOpen Path.debug = true ∧ 1073743872 % 4 = 0 ∧ locate 1073743872 = RegLoc.factory) ∧
    ((ua.port Port.hp0).linkUp = true ∧ 524288 ≤ 524324 ∧ 524324 % 4 = 0 ∧ ua.hostReg Port.hp0 524324 = none) ∧
    (ua.pathOpen Path.mainmast = true ∧ 1073743872 % 4 = 0 ∧
      (locate 1073743872 = RegLoc.factory ∨ locate 1073743872 = RegLoc.absent) ∧
      (Path.mainmast = Path.mainmast ∨ locate 1073743872 = RegLoc.absent)) ∧
    ((ua.port Port.hp0).linkUp = true ∧ 524288 ≤ 524324 ∧ (5 ≠ 4 ∧ 5 ≠ 8 ∨ 524324 % 5 ≠ 0)) ∧
    (ua.pathOpen Path.mainmast = true ∧ 1073741864 % 4 = 0 ∧ locate 1073741864 = RegLoc.reg Block.glb 10 ∧
      ua.domainUp Block.glb 10 = true ∧ st1 = { ua.wakeBlock Block.glb with access := ⟨0#64, false⟩ } ∧
      Block.glb.isHigh 10 = false) ∧
    (ua.pathOpen Path.mainmast = true ∧ 1073741868 % 4 = 0 ∧ locate 1073741868 = RegLoc.reg Block.glb 11 ∧
      ua.domainUp Block.glb 11 = true ∧ st1 = { ua.wakeBlock Block.glb with access := ⟨0#64, false⟩ } ∧
      Block.glb.isHigh 11 = true ∧ (ua.latch Path.mainmast).high.find (Block.glb.key 11) = none) ∧
    (dn.pathOpen Path.mainmast = true ∧ dn.rst.datapath = false) ∧
    ((ua.port Port.hp1).linkUp = false) := by
  and_intros <;> decide

/-- States and operands that meet the hypotheses of LowWordReadsLatchTheHighWord, clause by clause. -/
theorem witness_LowWordReadsLatchTheHighWord :
    (ua.pathOpen Path.mainmast = true ∧ 1073741864 % 4 = 0 ∧ locate 1073741864 = RegLoc.reg Block.glb 10 ∧
      ua.domainUp Block.glb 10 = true ∧ st1 = { ua.wakeBlock Block.glb with access := ⟨0#64, false⟩ } ∧
      Block.glb.isLow 10 = true) ∧
    (la.pathOpen Path.mainmast = true ∧ 1073741868 % 4 = 0 ∧ locate 1073741868 = RegLoc.reg Block.glb 11 ∧
      la.domainUp Block.glb 11 = true ∧ st2 = { la.wakeBlock Block.glb with access := ⟨0#64, false⟩ } ∧
      Block.glb.isHigh 11 = true ∧ (la.latch Path.mainmast).high.find (Block.glb.key 11) = some 77#32) := by
  and_intros <;> decide

/-- States and operands that meet the hypotheses of DevloadThresholdsRiseOrStand, clause by clause. -/
theorem witness_DevloadThresholdsRiseOrStand :
    (locate 1073745936 = RegLoc.reg (Block.hp Port.hp0) 4 ∧
      (¬(bits (270544896#32) 15 8 < bits (270544896#32) 23 16 ∧ bits (270544896#32) 23 16 < bits (270544896#32) 31 24))) := by
  and_intros <;> decide

/-- States and operands that meet the hypotheses of FreezeStopsAndClearZeroes, clause by clause. -/
theorem witness_FreezeStopsAndClearZeroes :
    (ua.pathOpen Path.mainmast = true ∧ 1073942528 % 4 = 0 ∧ locate 1073942528 = RegLoc.reg (Block.pmu 1) 0 ∧
      ua.rst.datapath = true ∧ bitOf (2147483648#32) 31 = true) ∧
    (ua.pathOpen Path.mainmast = true ∧ ua.rst.datapath = true) ∧
    (ua.pathOpen Path.mainmast = true ∧ 1073942528 % 4 = 0 ∧ locate 1073942528 = RegLoc.reg (Block.pmu 1) 0 ∧
      ua.rst.datapath = true ∧ bitOf (3221225472#32) 30 = true) ∧
    ((fz.pmuUnit 1).freeze = true) := by
  and_intros <;> decide

/-- States and operands that meet the hypotheses of WritesLocksAndCyclesFollowTheirRules, clause by clause. -/
theorem witness_WritesLocksAndCyclesFollowTheirRules :
    (ua.pathOpen Path.mainmast = true ∧ 1073745936 % 4 = 0 ∧ locate 1073745936 = RegLoc.reg (Block.hp Port.hp0) 4 ∧
      ua.rst.datapath = true) ∧
    (ua.pathOpen Path.mainmast = true ∧ ua.rst.aon = true ∧ ua.rst.datapath = true) ∧
    (ua.pathOpen Path.mainmast = true ∧ 1073745936 % 4 = 0 ∧
      locate 1073745936 = RegLoc.reg (Block.hp Port.hp0) ((1073745936 - 1073741824) % 4096 / 4) ∧
      ua.domainUp (Block.hp Port.hp0) ((1073745936 - 1073741824) % 4096 / 4) = true ∧
      lockBit (Block.hp Port.hp0) ((1073745936 - 1073741824) % 4096 / 4) = none) ∧
    (ua.pathOpen Path.mainmast = true ∧ 1073745920 % 4 = 0 ∧ locate 1073745920 = RegLoc.reg (Block.hp Port.hp0) 0 ∧
      ua.rst.datapath = true ∧ (ua.port Port.hp0).lock = false) ∧
    (ua.pathOpen Path.mainmast = true ∧ 1073745920 % 4 = 0 ∧
      locate 1073745920 = RegLoc.reg (Block.hp Port.hp0) ((1073745920 - 1073741824) % 4096 / 4) ∧
      ua.domainUp (Block.hp Port.hp0) ((1073745920 - 1073741824) % 4096 / 4) = true ∧
      lockBit (Block.hp Port.hp0) ((1073745920 - 1073741824) % 4096 / 4) = some 31 ∧
      bitOf (2147549456#32) 31 = true) ∧
    (0 < 7 ∧ ua.datapathClock = false) ∧
    (st3.pathOpen Path.mainmast = true ∧ 1073745920 % 4 = 0 ∧ locate 1073745920 = RegLoc.reg (Block.hp Port.hp0) 0 ∧
      st3.rst.datapath = true ∧ (st3.port Port.hp0).lock = true) ∧
    (ua.pathOpen Path.mainmast = true ∧ 1073741864 % 4 = 0 ∧ locate 1073741864 = RegLoc.reg Block.glb 10 ∧
      ua.rst.aon = true ∧ ua.rst.datapath = true) ∧
    (ua.pathOpen Path.mainmast = true ∧ 1073762328 % 4 = 0 ∧ locate 1073762328 = RegLoc.reg Block.stp 6 ∧
      ua.rst.datapath = true) ∧
    (ua.pathOpen Path.mainmast = true ∧ 1074036740 % 4 = 0 ∧ locate 1074036740 = RegLoc.sram 4) ∧
    (0 < 5 ∧ st9.datapathClock = true ∧ st9.rst.datapath = true) ∧
    (ua.pathOpen Path.mainmast = true ∧ 1073766400 % 4 = 0 ∧ locate 1073766400 = RegLoc.reg Block.wlv 0 ∧
      ua.domainUp Block.wlv 0 = true ∧ lockBit Block.wlv 0 = some 31 ∧ bitOf (16#32) 31 = false) := by
  and_intros <;> decide

end Registers

end Sys2Proof.Tests
end

/-! SUPPORT. A 32-bit read of a register and the high-word latches of its path (R5, R427): where the two words of a
64-bit quantity lie, and what the read answers and leaves latched. -/

namespace Sys2Proof.Machine

open Sys2Proof

/-! ## Where the two words lie (R5, R424) -/

/-- A low word has its high word among the block's registers; the pairs lie below the factory registers (R425). -/
theorem Block.documented_succ_of_mem_pairs (b : Block) : ∀ i ∈ b.pairs, i < 35 ∧ b.documented (i + 1) = true := by
  cases b <;> simp [Block.pairs, Block.documented]

theorem Block.succ_notMem_pairs (b : Block) : ∀ i ∈ b.pairs, i + 1 ∉ b.pairs := by
  cases b <;> simp [Block.pairs]

theorem Block.isLow_iff {b : Block} {i : Nat} : b.isLow i = true ↔ i ∈ b.pairs := by simp [Block.isLow]

theorem Block.isHigh_succ_of_isLow {b : Block} {i : Nat} (h : b.isLow i = true) : b.isHigh (i + 1) = true := by
  simpa [Block.isHigh, Block.isLow] using h

/-- No register is a low word and a high word at once. -/
theorem Block.isLow_eq_false_of_isHigh {b : Block} {i : Nat} (h : b.isHigh i = true) : b.isLow i = false := by
  obtain ⟨hpos, hi⟩ : 0 < i ∧ i - 1 ∈ b.pairs := by simpa [Block.isHigh] using h
  have hnot : i ∉ b.pairs := by simpa [Nat.sub_add_cancel hpos] using b.succ_notMem_pairs _ hi
  simpa [Block.isLow] using hnot

theorem Block.isHigh_eq_false_of_isLow {b : Block} {i : Nat} (h : b.isLow i = true) : b.isHigh i = false :=
  Bool.eq_false_iff.mpr fun hhigh => by simp [Block.isLow_eq_false_of_isHigh hhigh] at h

theorem inWindow_eq_reg_iff {b c : Block} {off i : Nat} :
    inWindow b off = .reg c i ↔ off < 0x800 ∧ b.documented (off / 4) = true ∧ b = c ∧ off / 4 = i := by
  unfold inWindow
  split
  · simp; omega
  · split <;> simp_all

theorem inChannel_eq_reg_iff {n off i : Nat} {c : Block} :
    inChannel n off = .reg c i ↔
      ¬ (0x300 ≤ off ∧ off < 0x320) ∧ (Block.mch n).documented (off / 4) = true ∧ .mch n = c ∧ off / 4 = i := by
  unfold inChannel
  split
  · simp_all
  · split <;> simp_all

/-- The registers of the 4 KiB windows (R423). -/
theorem locate_window_eq_reg_iff {o i : Nat} {b : Block} (ho : o < 0x48000) :
    locate (0x40000000 + o) = .reg b i ↔ windowBlock (o / 0x1000) = some b ∧ inWindow b (o % 0x1000) = .reg b i := by
  have hlo : ¬ 0x40000000 + o < 0x40000000 := by omega
  simp only [locate, hlo, ite_false, Nat.add_sub_cancel_left, ho, ite_true]
  cases windowBlock (o / 0x1000) with
  | none => simp
  | some c =>
    by_cases hc : c = b
    · simp [hc]
    · simp [inWindow_eq_reg_iff, hc]

/-- The channel windows (R429). -/
theorem locate_channel {o : Nat} (ho : o < 0x12000) :
    locate (0x40100000 + o) = inChannel (o / 0x400) (o % 0x400) := by
  have hoff : 0x40100000 + o - 0x40000000 = 0x100000 + o := by omega
  have hlo : ¬ 0x40100000 + o < 0x40000000 := by omega
  have hwin : ¬ 0x100000 + o < 0x48000 := by omega
  have hsram : ¬ 0x100000 + o < 0x4C000 := by omega
  have hch : 0x100000 ≤ 0x100000 + o ∧ 0x100000 + o < 0x112000 := by omega
  unfold locate
  rw [if_neg hlo, hoff]
  dsimp only
  rw [if_neg hwin, if_neg hsram, if_pos hch, Nat.add_sub_cancel_left]

/-- Every register lies in a block's window or in a channel's window. -/
theorem window_or_channel_of_locate_eq_reg {addr i : Nat} {b : Block} (h : locate addr = .reg b i) :
    (∃ o < 0x48000, addr = 0x40000000 + o) ∨ ∃ o < 0x12000, addr = 0x40100000 + o := by
  unfold locate at h
  split at h
  · cases h
  · dsimp only at h
    split at h
    · exact .inl ⟨addr - 0x40000000, by omega, by omega⟩
    · split at h
      · cases h
      · split at h
        · exact .inr ⟨addr - 0x40100000, by omega, by omega⟩
        · split at h
          · split at h <;> cases h
          · cases h

/-- A documented register early in its window lies right after the register before it. -/
theorem locate_add_four {addr i : Nat} {b : Block} (ha : addr % 4 = 0) (h : locate addr = .reg b i)
    (hi : i < 35) (hd : b.documented (i + 1) = true) : locate (addr + 4) = .reg b (i + 1) := by
  obtain ⟨o, ho, rfl⟩ | ⟨o, ho, rfl⟩ := window_or_channel_of_locate_eq_reg h
  · obtain ⟨hb, hr⟩ := (locate_window_eq_reg_iff ho).mp h
    obtain ⟨-, -, -, hidx⟩ := inWindow_eq_reg_iff.mp hr
    have hwin : (o + 4) / 0x1000 = o / 0x1000 := by omega
    have hnext : (o + 4) % 0x1000 / 4 = i + 1 := by omega
    rw [Nat.add_assoc, locate_window_eq_reg_iff (by omega), inWindow_eq_reg_iff, hwin, hnext]
    exact ⟨hb, by omega, hd, rfl, rfl⟩
  · rw [locate_channel ho] at h
    obtain ⟨-, -, rfl, hidx⟩ := inChannel_eq_reg_iff.mp h
    have hwin : (o + 4) / 0x400 = o / 0x400 := by omega
    have hnext : (o + 4) % 0x400 / 4 = i + 1 := by omega
    rw [Nat.add_assoc, locate_channel (by omega), inChannel_eq_reg_iff, hwin, hnext]
    exact ⟨by omega, hd, rfl, rfl⟩

/-! ## What a path holds latched (R427) -/

@[simp] theorem State.latch_modLatch (s : State) (p : Path) (f : Latches → Latches) :
    (s.modLatch p f).latch p = f (s.latch p) :=
  Sparse.get_set_same _ _ _ _

/-- A change elsewhere leaves what every path holds. -/
theorem Within.latch_eq {W : List Part} {s t : State} (h : Within W s t) (hW : Part.latches ∉ W) (p : Path) :
    t.latch p = s.latch p :=
  congrArg (Sparse.get Latches.reset · (pathKey p)) (h.same .latches hW)

/-! ## One read -/

@[simp] theorem State.access_readOne (s : State) (path : Path) (b : Block) (i : Nat) :
    (s.readOne path b i).access = ⟨(s.wordRead path b i).setWidth 64, false⟩ := rfl

/-- The other side effects of a read (R428) leave the latches as the read has set them. -/
theorem State.latch_readOne (s : State) (path p : Path) (b : Block) (i : Nat) :
    (s.readOne path b i).latch p = (s.latchRead path b i).latch p :=
  ((State.answerAccess_within _ _ _).latch_eq (by decide) p).trans
    ((State.sideRead_within _ b i).latch_eq (by decide) p)

/-- A read of a low word latches its high word as it stands. -/
theorem State.latched_readOne_of_isLow (s : State) (path : Path) {b : Block} {i : Nat} (h : b.isLow i = true) :
    Sparse.find ((s.readOne path b i).latch path).high (b.key (i + 1)) = some (s.readReg path b (i + 1)) := by
  simp [State.latch_readOne, State.latchRead, h]

/-- A read of a high word leaves its latch empty. -/
theorem State.latched_readOne_of_isHigh (s : State) (path : Path) {b : Block} {i : Nat} (h : b.isHigh i = true) :
    Sparse.find ((s.readOne path b i).latch path).high (b.key i) = none := by
  simp [State.latch_readOne, State.latchRead, h, Block.isLow_eq_false_of_isHigh h]

theorem State.wordRead_of_not_isHigh (s : State) (path : Path) {b : Block} {i : Nat} (h : b.isHigh i = false) :
    s.wordRead path b i = s.readReg path b i := by
  simp [State.wordRead, h]

theorem State.wordRead_of_latched {s : State} {path : Path} {b : Block} {i : Nat} {w : Word}
    (h : b.isHigh i = true) (hw : Sparse.find (s.latch path).high (b.key i) = some w) :
    s.wordRead path b i = w := by
  simp [State.wordRead, h, hw]

theorem exec_lowWordRead (path : Path) (addr : Word) (s : State) :
    exec (.lowWordRead path addr) s = execLowWordRead path addr s := rfl

/-- LOW_WORD_READ of a register on an open path whose domain is up is one read with the domain awake (R426). -/
theorem exec_lowWordRead_reg {path : Path} {addr : Word} {b : Block} {i : Nat} {s : State}
    (hp : s.pathOpen path = true) (ha : addr.toNat % 4 = 0) (hl : locate addr.toNat = .reg b i)
    (hd : s.domainUp b i = true) :
    exec (.lowWordRead path addr) s = .next (((s.wakeBlock b).answerAccess 0#64 false).readOne path b i) := by
  simp [exec_lowWordRead, execLowWordRead, State.onReg, hp, ha, hl, hd]

/-- Waking a block and clearing the access's result leave what every path holds. -/
theorem State.latch_wakeBlock_answerAccess (s : State) (b : Block) (v : BitVec 64) (err : Bool) (p : Path) :
    ((s.wakeBlock b).answerAccess v err).latch p = s.latch p :=
  ((State.answerAccess_within _ _ _).latch_eq (by decide) p).trans
    ((State.wakeBlock_within s b).latch_eq (by decide) p)

/-- Settles O55: a read of a register is `State.readOne` with the block awake, whose answer and latch are known for a
low word and for a latched high word; the high word's place follows from the places of the windows. -/
theorem lowWordReadsLatchTheHighWord : Obligations.LowWordReadsLatchTheHighWord := by
  rintro path addr b i u s hp ha hl hd rfl
  refine ⟨fun hlow => ?_, fun w hhigh hw => ?_⟩
  · obtain ⟨hi, hdoc⟩ := b.documented_succ_of_mem_pairs i (Block.isLow_iff.mp hlow)
    refine ⟨locate_add_four ha hl hi hdoc, Block.isHigh_succ_of_isLow hlow, _, exec_lowWordRead_reg hp ha hl hd, ?_,
      State.latched_readOne_of_isLow _ path hlow⟩
    rw [State.access_readOne, State.wordRead_of_not_isHigh _ _ (Block.isHigh_eq_false_of_isLow hlow)]
    rfl
  · refine ⟨_, exec_lowWordRead_reg hp ha hl hd, ?_, State.latched_readOne_of_isHigh _ path hhigh⟩
    rw [State.access_readOne, State.wordRead_of_latched hhigh]
    rwa [State.latch_wakeBlock_answerAccess]

end Sys2Proof.Machine

/-! SUPPORT. DevLoad of a port: the value after one evaluation (R40, R41), and a register write's thresholds (R54). -/

namespace Sys2Proof.Machine

open Sys2Proof

theorem completes_iff_of_exec {c : Instr} {s t : State} {Q : State → Prop} (h : exec c s = .next t) :
    Completes c s Q ↔ Q t := by
  simp [Completes, h]

/-! ## One evaluation of DevLoad (R40) -/

namespace PortState

variable {x : PortState} {v l now : Nat} {outside : Bool}

theorem loadClass_lt_four (x : PortState) (l : Nat) : x.loadClass l < 4 := by
  unfold loadClass
  split_ifs <;> decide

/-- A DevLoad value of Table PORT-4 fits its field. -/
theorem toNat_ofNat_loadClass (x : PortState) (l : Nat) :
    (BitVec.ofNat 2 (x.loadClass l)).toNat = x.loadClass l := by
  rw [BitVec.toNat_ofNat, Nat.mod_eq_of_lt (x.loadClass_lt_four l)]

/-- The value rises at once. -/
theorem nextDevload_of_lt (h : x.devload.toNat < v) :
    x.nextDevload v l now outside = { x with devload := BitVec.ofNat 2 v, devloadBelow := none } :=
  if_pos h

theorem nextDevload_of_eq (h : x.devload.toNat = v) :
    x.nextDevload v l now outside = { x with devloadBelow := none } := by
  simp [nextDevload, h]

/-- Less than 0x10 below the threshold of the value sent, a lower value does not count. -/
theorem nextDevload_of_near (hv : v < x.devload.toNat) (hl : x.threshold x.devload.toNat < l + 0x10) :
    x.nextDevload v l now false = { x with devloadBelow := none } := by
  simp [nextDevload, hv.not_gt, hl.not_ge]

section
variable (hv : v < x.devload.toNat) (hl : l + 0x10 ≤ x.threshold x.devload.toNat)
include hv hl

/-- The first evaluation that far below starts the 4 µs. -/
theorem nextDevload_of_far_first (hb : x.devloadBelow = none) :
    x.nextDevload v l now false = { x with devloadBelow := some now } := by
  simp [nextDevload, hv.not_gt, hv, hl, hb]

variable {t₀ : Nat} (hb : x.devloadBelow = some t₀)
include hb

/-- Before the 4 µs have passed nothing changes. -/
theorem nextDevload_of_far_early (ht : now < t₀ + us 4) : x.nextDevload v l now false = x := by
  simp [nextDevload, hv.not_gt, hv, hl, hb, ht.not_ge]

/-- After 4 µs the value falls. -/
theorem nextDevload_of_far_late (ht : t₀ + us 4 ≤ now) :
    x.nextDevload v l now false = { x with devload := BitVec.ofNat 2 v, devloadBelow := none } := by
  simp [nextDevload, hv.not_gt, hv, hl, hb, ht]

end

/-- Severe Overload is sent at once, whatever is sent now. -/
theorem devload_nextDevload_three : (x.nextDevload 3 l now outside).devload = 3#2 := by
  obtain h | h : x.devload.toNat < 3 ∨ x.devload.toNat = 3 := by omega
  · rw [nextDevload_of_lt h]
  · rw [nextDevload_of_eq h]
    exact BitVec.eq_of_toNat_eq h

end PortState

/-- DEVLOAD_UPDATE outside the admitted-load conditions evaluates Severe Overload (R41). -/
theorem exec_devloadUpdate_outside {p : Port} {s : State} (hm : (s.port p).memEnabled = true)
    (ha : s.admitNow p ≠ 0#5) :
    exec (.devloadUpdate p) s = .next (s.modPort p fun x => x.nextDevload 3 (s.loadIndex p) s.clock true) := by
  have hout : (s.admitNow p != 0#5) = true := bne_iff_ne.mpr ha
  change execDevloadUpdate p s = _
  simp [execDevloadUpdate, hm, hout]

/-- DEVLOAD_UPDATE within the admitted-load conditions evaluates the class of the load index. -/
theorem exec_devloadUpdate_admitted {p : Port} {s : State} (hm : (s.port p).memEnabled = true)
    (ha : s.admitNow p = 0#5) :
    exec (.devloadUpdate p) s = .next (s.modPort p fun x =>
      x.nextDevload ((s.port p).loadClass (s.loadIndex p)) (s.loadIndex p) s.clock false) := by
  change execDevloadUpdate p s = _
  simp [execDevloadUpdate, hm, ha]

theorem exec_admitWindowExpiry (p : Port) (s : State) :
    exec (.admitWindowExpiry p) s = .next ((s.noteAdmit p).modPort p fun x => { x with
      winReads := 0, winMisses := 0, winWrites := 0, winSameLine := false }) := rfl

/-- Settles O9: the port after DEVLOAD_UPDATE is `PortState.nextDevload`, one equation for each case of R40. -/
theorem devloadRisesAtOnceAndFallsLate : Obligations.DevloadRisesAtOnceAndFallsLate := by
  refine ⟨?_, fun p s => by simp [completes_iff_of_exec (exec_admitWindowExpiry p s)]⟩
  rintro p s _ l _ c rfl hl rfl hc hm
  obtain rfl : c = (s.port p).loadClass l := hc
  subst hl
  refine ⟨fun ha => ?_, fun ha => ?_⟩
  · simp only [completes_iff_of_exec (exec_devloadUpdate_outside hm ha), State.port_modPort,
      PortState.devload_nextDevload_three]
  simp only [completes_iff_of_exec (exec_devloadUpdate_admitted hm ha), State.port_modPort]
  refine ⟨fun hrise => ?_, fun heq => ?_, fun hfall => ⟨fun hnear => ?_, fun hfar =>
    ⟨fun hb => ?_, fun t₀ hb => ⟨fun ht => ?_, fun ht => ?_⟩⟩⟩⟩
  · rw [PortState.nextDevload_of_lt hrise, PortState.toNat_ofNat_loadClass]
  · rw [PortState.nextDevload_of_eq heq.symm]
  · simp only [PortState.nextDevload_of_near hfall hnear, and_self]
  · simp only [PortState.nextDevload_of_far_first hfall hfar hb, and_self]
  · simp only [PortState.nextDevload_of_far_early hfall hfar hb ht, hb, and_self]
  · rw [PortState.nextDevload_of_far_late hfall hfar hb ht, PortState.toNat_ofNat_loadClass]

/-! ## One register write -/

/-- A change outside the ports leaves each of them, but for its event logs, as it was. -/
theorem Within.quiet_port_eq {W : List Part} {s t : State} (h : Within W s t) (h0 : Part.port0 ∉ W)
    (h1 : Part.port1 ∉ W) (p : Port) : (t.port p).quiet = (s.port p).quiet :=
  match p with
  | .hp0 => h.same .port0 h0
  | .hp1 => h.same .port1 h1

/-- An access changes its result, the sleep of the block's domain, and what it does to the register (R426). -/
theorem State.onReg_within {W : List Part} {path : Path} {b : Block} {i : Nat} {f : State → State} (s : State)
    (hf : ∀ u, Within W u (f u)) : Within (.access :: .clk :: W) s (s.onReg path b i f) := by
  have hrefuse : Within (.access :: .clk :: W) s (s.refuseAccess path) :=
    (State.refuseAccess_within s path).step (by simp) (.refl _ s)
  have hwake : Within (.access :: .clk :: W) s ((s.wakeBlock b).answerAccess 0#64 false) :=
    (State.answerAccess_within _ _ _).step (by simp) <| (State.wakeBlock_within s b).step (by simp) (.refl _ s)
  unfold State.onReg
  split_ifs
  · exact .refl _ s
  · exact hrefuse
  · exact (hf _).step (fun q hq => by simp [hq]) hwake

/-- REGISTER_WRITE of a register completes on every path and state, and changes no more than the write of that
register does. -/
theorem completes_registerWrite_within {W : List Part} {path : Path} {addr d : Word} {b : Block} {i : Nat}
    (s : State) (hl : locate addr.toNat = .reg b i) (hw : ∀ u : State, Within W u (u.writeReg path b i d)) :
    Completes (.registerWrite path addr d) s (Within (.access :: .clk :: W) s) := by
  change ∃ t, execRegisterWrite path addr d s = .next t ∧ _
  simp only [execRegisterWrite, hl]
  split_ifs
  · exact ⟨_, rfl, .refl _ s⟩
  · exact ⟨_, rfl, (State.refuseAccess_within s path).step (by simp) (.refl _ s)⟩
  · exact ⟨_, rfl, State.onReg_within s hw⟩

/-- The DevLoad thresholds are no part of the event logs. -/
theorem PortState.thresholds_eq_of_quiet_eq {x y : PortState} (h : x.quiet = y.quiet) :
    x.optimal = y.optimal ∧ x.moderate = y.moderate ∧ x.severe = y.severe :=
  ⟨(congrArg PortState.optimal h :), (congrArg PortState.moderate h :), (congrArg PortState.severe h :)⟩

theorem PortState.writeDevload_of_not_rising {x : PortState} {d : Word}
    (h : ¬ (bits d 15 8 < bits d 23 16 ∧ bits d 23 16 < bits d 31 24)) : x.writeDevload d = x :=
  if_neg h

/-- HPn.DEVLOAD_CFG written with thresholds that do not rise: no part of a port but its event logs changes. -/
theorem State.writeReg_devloadCfg_within {p : Port} {d : Word} (path : Path) (s : State)
    (h : ¬ (bits d 15 8 < bits d 23 16 ∧ bits d 23 16 < bits d 31 24)) :
    Within [.level, .hostLogs, .log, .evt] s (s.writeReg path (.hp p) 4 d) :=
  have hport : Within [.hostLogs] s (s.modPort p fun x => x.writeDevload d) :=
    State.modPort_hostLogs s p _ fun _ => congrArg PortState.quiet (PortState.writeDevload_of_not_rising h)
  (State.settleLevel_within _).step (fun _ hq => hq) (hport.step (by decide) (.refl _ s))

/-- Settles O56: the write changes no part of a port but its event logs, and the thresholds are not among those. -/
theorem devloadThresholdsRiseOrStand : Obligations.DevloadThresholdsRiseOrStand := by
  intro path p addr d s hl hd
  obtain ⟨t, hexec, hwithin⟩ := completes_registerWrite_within s hl fun u => u.writeReg_devloadCfg_within path hd
  exact ⟨t, hexec, PortState.thresholds_eq_of_quiet_eq (hwithin.quiet_port_eq (by decide) (by decide) p)⟩

end Sys2Proof.Machine

/-! SUPPORT. The freeze and the clear of a counter unit (R421): what a write of its control register does to the unit,
and what a run of cycles leaves of a frozen one. -/

namespace Sys2Proof.Machine

open Sys2Proof

/-! ## One unit -/

/-- A unit but for the event values of the cycle before, which a frozen unit too takes anew each cycle. -/
def PmuUnit.held (x : PmuUnit) : PmuUnit := { x with prev := [] }

theorem PmuUnit.counters_eq_of_held_eq {x y : PmuUnit} (h : x.held = y.held) :
    x.freeze = y.freeze ∧ x.cyc = y.cyc ∧ x.cnt = y.cnt ∧ x.ovf = y.ovf :=
  ⟨(congrArg PmuUnit.freeze h :), (congrArg PmuUnit.cyc h :), (congrArg PmuUnit.cnt h :),
    (congrArg PmuUnit.ovf h :)⟩

theorem PmuUnit.held_run_of_freeze {x : PmuUnit} (s : State) (n : Nat) (h : x.freeze = true) :
    (x.run s n).1.held = x.held := by
  simp [PmuUnit.run, PmuUnit.held, h]

/-- PMU.Uu_CTRL written with clear 0 leaves the counters. -/
theorem PmuUnit.writeReg_zero_of_not_clear (x : PmuUnit) {d : Word} (h : bitOf d 30 = false) :
    x.writeReg 0 d =
      { x with freeze := bitOf d 31, cycInt := bitOf d 8, int := BitVec.ofNat 8 (bits d 7 0) } := by
  simp [PmuUnit.writeReg, h]

/-- PMU.Uu_CTRL written with clear 1 takes its other fields too. -/
theorem PmuUnit.writeReg_zero_of_clear (x : PmuUnit) {d : Word} (h : bitOf d 30 = true) :
    x.writeReg 0 d = PmuUnit.clear
      { x with freeze := bitOf d 31, cycInt := bitOf d 8, int := BitVec.ofNat 8 (bits d 7 0) } := by
  simp [PmuUnit.writeReg, h]

theorem PmuUnit.freeze_writeReg_zero (x : PmuUnit) (d : Word) : (x.writeReg 0 d).freeze = bitOf d 31 := by
  cases h : bitOf d 30
  · rw [x.writeReg_zero_of_not_clear h]
  · rw [x.writeReg_zero_of_clear h]
    rfl

/-! ## The units of the state -/

@[simp] theorem State.pmuUnit_modUnit_same (s : State) (u : Nat) (f : PmuUnit → PmuUnit) :
    (s.modUnit u f).pmuUnit u = f (s.pmuUnit u) :=
  Sparse.get_set_same _ _ _ _

theorem State.pmuUnit_modUnit_other (s : State) {u v : Nat} (f : PmuUnit → PmuUnit) (h : v ≠ u) :
    (s.modUnit u f).pmuUnit v = s.pmuUnit v :=
  Sparse.get_set_other _ _ _ h

/-- A change elsewhere leaves the counter units. -/
theorem Within.pmuUnit_eq {W : List Part} {s t : State} (h : Within W s t) (hW : Part.pmu ∉ W) (u : Nat) :
    t.pmuUnit u = s.pmuUnit u :=
  congrArg (fun p : Pmu => Sparse.get PmuUnit.reset p.units u) (h.same .pmu hW)

@[simp] theorem State.pmuUnit_unitInterrupts (s : State) (u : Nat) (cycles : List Nat) (v : Nat) :
    (s.unitInterrupts u cycles).pmuUnit v = s.pmuUnit v :=
  (State.unitInterrupts_within s u cycles).pmuUnit_eq (by decide) v

/-- A run of cycles holds a frozen unit, whatever the other units count and report. -/
theorem State.held_pmuUnit_runUnits {s : State} {u : Nat} (n : Nat) (h : (s.pmuUnit u).freeze = true) :
    ((s.runUnits n).pmuUnit u).held = (s.pmuUnit u).held := by
  refine List.foldlRecOn (motive := fun t : State => (t.pmuUnit u).held = (s.pmuUnit u).held) (List.range 4) _ rfl
    fun t ht v _ => ?_
  dsimp only
  rw [State.pmuUnit_unitInterrupts]
  by_cases hv : u = v
  · subst hv
    rw [State.pmuUnit_modUnit_same, PmuUnit.held_run_of_freeze s n h]
  · rw [State.pmuUnit_modUnit_other _ _ hv, ht]

@[simp] theorem State.sampleInput_pmu (s : State) : s.sampleInput.pmu = s.pmu :=
  (State.sampleInput_within s).same .pmu (by decide)

/-- PMU_CYCLE_COUNT changes the counters by running the units, where the datapath is clocked and out of reset. -/
theorem completes_pmuCycleCount_pmu (cycles : Nat) (s : State) :
    Completes (.pmuCycleCount cycles) s fun t =>
      t.pmu = if cycles ≠ 0 ∧ s.datapathClock = true ∧ s.rst.datapath = true then (s.runUnits cycles).pmu
        else s.pmu := by
  refine ⟨_, rfl, ?_⟩
  by_cases h0 : cycles = 0
  · simp [h0]
  · simp [h0, apply_ite State.pmu]

/-! ## One access -/

/-- An access to a register on an open path whose domain is up runs with the domain awake (R426). -/
theorem State.onReg_of_up {path : Path} {b : Block} {i : Nat} {s : State} (hp : s.pathOpen path = true)
    (hd : s.domainUp b i = true) (f : State → State) :
    s.onReg path b i f = f ((s.wakeBlock b).answerAccess 0#64 false) := by
  simp [State.onReg, hp, hd]

/-- REGISTER_WRITE of a register on an open path whose domain is up is one write with the domain awake. -/
theorem exec_registerWrite_reg {path : Path} {addr d : Word} {b : Block} {i : Nat} {s : State}
    (hp : s.pathOpen path = true) (ha : addr.toNat % 4 = 0) (hl : locate addr.toNat = .reg b i)
    (hd : s.domainUp b i = true) :
    exec (.registerWrite path addr d) s =
      .next (((s.wakeBlock b).answerAccess 0#64 false).writeReg path b i d) := by
  change execRegisterWrite path addr d s = _
  simp [execRegisterWrite, State.onReg_of_up hp hd, hp, ha, hl]

/-- Waking a block and clearing the access's result leave the counter units. -/
theorem State.pmuUnit_wakeBlock_answerAccess (s : State) (b : Block) (v : BitVec 64) (err : Bool) (u : Nat) :
    ((s.wakeBlock b).answerAccess v err).pmuUnit u = s.pmuUnit u :=
  ((State.answerAccess_within _ _ _).pmuUnit_eq (by decide) u).trans
    ((State.wakeBlock_within s b).pmuUnit_eq (by decide) u)

/-- An access that changes one counter unit changes it from what it was before the access. -/
theorem State.pmuUnit_onReg_modUnit {path : Path} {s : State} (u i : Nat) (f : PmuUnit → PmuUnit)
    (hp : s.pathOpen path = true) (hd : s.domainUp (.pmu u) i = true) :
    (s.onReg path (.pmu u) i fun t => t.modUnit u f).pmuUnit u = f (s.pmuUnit u) := by
  rw [State.onReg_of_up hp hd, State.pmuUnit_modUnit_same, State.pmuUnit_wakeBlock_answerAccess]

/-- REGISTER_WRITE of PMU.Uu_CTRL leaves the unit as `PmuUnit.writeReg` has it. -/
theorem completes_registerWrite_pmuCtrl {path : Path} {addr : Word} (d : Word) {u : Nat} {s : State}
    (hp : s.pathOpen path = true) (ha : addr.toNat % 4 = 0) (hl : locate addr.toNat = .reg (.pmu u) 0)
    (hd : s.rst.datapath = true) :
    Completes (.registerWrite path addr d) s fun t => t.pmuUnit u = (s.pmuUnit u).writeReg 0 d := by
  refine ⟨_, exec_registerWrite_reg hp ha hl hd, ?_⟩
  change (State.modUnit _ u _).pmuUnit u = _
  rw [State.pmuUnit_modUnit_same, State.pmuUnit_wakeBlock_answerAccess]

/-- Settles O57: a write of PMU.Uu_CTRL, PMU_FREEZE and PMU_CLEAR are one change of the unit each, and a run of cycles
holds a frozen unit but for the event values it compares with. -/
theorem freezeStopsAndClearZeroes : Obligations.FreezeStopsAndClearZeroes := by
  refine ⟨fun path u addr d s hp ha hl hd => ?_, fun path u s hp hd => ⟨?_, ?_⟩, fun cycles u s hfreeze => ?_⟩
  · obtain ⟨t, hexec, hunit⟩ := completes_registerWrite_pmuCtrl d hp ha hl hd
    refine ⟨fun hf => ⟨t, hexec, ?_, fun hc => ?_⟩, fun hc => ⟨t, hexec, ?_⟩⟩
    · rw [hunit, PmuUnit.freeze_writeReg_zero, hf]
    · rw [hunit, PmuUnit.writeReg_zero_of_not_clear _ hc]
      exact ⟨rfl, rfl⟩
    · dsimp only
      rw [hunit, PmuUnit.writeReg_zero_of_clear _ hc]
      exact ⟨rfl, rfl, fun _ => rfl⟩
  · exact ⟨_, rfl, State.pmuUnit_onReg_modUnit u.val 0 _ hp hd⟩
  · exact ⟨_, rfl, State.pmuUnit_onReg_modUnit u.val 0 _ hp hd⟩
  · obtain ⟨t, hexec, hpmu⟩ := completes_pmuCycleCount_pmu cycles s
    have hheld : (t.pmuUnit u.val).held = (s.pmuUnit u.val).held := by
      unfold State.pmuUnit
      rw [hpmu]
      split_ifs
      · exact State.held_pmuUnit_runUnits cycles hfreeze
      · rfl
    obtain ⟨hf, hcounters⟩ := PmuUnit.counters_eq_of_held_eq hheld
    exact ⟨t, hexec, hf.trans hfreeze, hcounters⟩

end Sys2Proof.Machine

/-! SUPPORT. The rules of the whole block: what a step is, the footprint of every command, and what a command can
answer. Each is assembled from one fact per command. -/

namespace Sys2Proof.Machine

open Sys2Proof

/-! ## Footprints -/

/-- What a command answers, it has changed within its footprint. -/
theorem exec_within (c : Instr) (s : State) : WithinOut (footprint c) s (exec c s) :=
  match c with
  | .memRd p op hpa err => execMemRd_within p op hpa err s
  | .memInv p nt hpa => execMemInv_within p nt hpa s
  | .memSpecRd p hpa => execMemSpecRd_within p hpa s
  | .memWr p hpa data poison => execMemWr_within p hpa data poison s
  | .memWrPtl p hpa data enables poison => execMemWrPtl_within p hpa data enables poison s
  | .unsupportedRequest p rwd header => execUnsupportedRequest_within p rwd header s
  | .responseSend p sel ndrReturned drsReturned => execResponseSend_within p sel ndrReturned drsReturned s
  | .viral p => execViral_within p s
  | .hdmDecoderCommit p d cfg => execHdmDecoderCommit_within p d cfg s
  | .devloadUpdate p => execDevloadUpdate_within p s
  | .portFail p how => execPortFail_within p how s
  | .pathRestored p => execPathRestored_within p s
  | .perstAssert p => execPerstAssert_within p s
  | .hotReset p => execHotReset_within p s
  | .cxlReset p => execCxlReset_within p s
  | .functionLevelReset p => execFunctionLevelReset_within p s
  | .linkTrainingStart p eqFails lanes => execLinkTrainingStart_within p eqFails lanes s
  | .recoveryEntry p => execRecoveryEntry_within p s
  | .laneMarginScan p timingStep voltageMv => execLaneMarginScan_within p timingStep voltageMv s
  | .hostMarginCommand p lane done => execHostMarginCommand_within p lane done s
  | .flitCrcFail p => execFlitCrcFail_within p s
  | .l0pNarrow p usePercent => execL0pNarrow_within p usePercent s
  | .aspmL1Request p => execAspmL1Request_within p s
  | .hostL1Entry p what => execHostL1Entry_within p what s
  | .l1Exit p => execL1Exit_within p s
  | .gpfPhase1 p => execGpfPhase1_within p s
  | .gpfPhase2 p => execGpfPhase2_within p s
  | .admitWindowExpiry p => execAdmitWindowExpiry_within p s
  | .belayBankFence b => execBelayBankFence_within b s
  | .belayReissue => execBelayReissue_within s
  | .parityEngineFail e => execParityEngineFail_within e s
  | .evictionCancel idx => execEvictionCancel_within idx s
  | .hbmPatrolStep n err corrected => execHbmPatrolStep_within n err corrected s
  | .pseudoChannelFail stack pc => execPseudoChannelFail_within stack pc s
  | .hbmStackFail stack => execHbmStackFail_within stack s
  | .vbfBankFence b => execVbfBankFence_within b s
  | .vbfRebuildComplete b => execVbfRebuildComplete_within b s
  | .maintClean n => execMaintClean_within n s
  | .maintFlush n => execMaintFlush_within n s
  | .maintDrop n => execMaintDrop_within n s
  | .maintPreload n => execMaintPreload_within n s
  | .maintDone n => execMaintDone_within n s
  | .sliceFail n => execSliceFail_within n s
  | .handoverCutover out inc => execHandoverCutover_within out inc s
  | .handoverEnd => execHandoverEnd_within s
  | .handoverAbandon => execHandoverAbandon_within s
  | .reservationGrant p => execReservationGrant_within p s
  | .dirtyBudgetReplan => execDirtyBudgetReplan_within s
  | .writeBackStart lsn => execWriteBackStart_within lsn s
  | .stripeGatherTimeout idx => execStripeGatherTimeout_within idx s
  | .mergeReadComplete idx ok => execMergeReadComplete_within idx ok s
  | .setConfirmed id => execSetConfirmed_within id s
  | .dumpComplete => execDumpComplete_within s
  | .replayStart bad => execReplayStart_within bad s
  | .replayComplete => execReplayComplete_within s
  | .gapMoveStart region => execGapMoveStart_within region s
  | .gapMoveProgramsConfirmed region => execGapMoveProgramsConfirmed_within region s
  | .gapSwitch region => execGapSwitch_within region s
  | .leafSectorFlush k die sector => execLeafSectorFlush_within k die sector s
  | .wearTreeLoad => execWearTreeLoad_within s
  | .wearTreeRepair k die swath loss => execWearTreeRepair_within k die swath loss s
  | .swathRetire k die swath why => execSwathRetire_within k die swath why s
  | .frozenSwathDaily k die swath => execFrozenSwathDaily_within k die swath s
  | .migrationRowConfirmed k die swath => execMigrationRowConfirmed_within k die swath s
  | .dieRetire ch die => execDieRetire_within ch die s
  | .mediaReadIssue id => execMediaReadIssue_within id s
  | .programResume ch die => execProgramResume_within ch die s
  | .programStart ch die => execProgramStart_within ch die s
  | .driftClockTick ch die tempC => execDriftClockTick_within ch die tempC s
  | .offsetTableReload ch die => execOffsetTableReload_within ch die s
  | .driftClockRestore ch die stamp age => execDriftClockRestore_within ch die stamp age s
  | .dualReadCompare id differ => execDualReadCompare_within id differ s
  | .prefetchDropTimeout id => execPrefetchDropTimeout_within id s
  | .prefetchDecode id r => execPrefetchDecode_within id r s
  | .refreshVisit ch die r => execRefreshVisit_within ch die r s
  | .sectorDecode id k r => execSectorDecode_within id k r s
  | .tier2Reconstruct id => execTier2Reconstruct_within id s
  | .tier3Start => execTier3Start_within s
  | .tier3Outcome lsn recovered => execTier3Outcome_within lsn recovered s
  | .poisonListCopy => execPoisonListCopy_within s
  | .poisonReconcile lsn => execPoisonReconcile_within lsn s
  | .scrubRowCheck sp sq => execScrubRowCheck_within sp sq s
  | .ack ch r => execAck_within ch r s
  | .nack ch r => execNack_within ch r s
  | .ready ch r => execReady_within ch r s
  | .readBurst ch tag crcOk => execReadBurst_within ch tag crcOk s
  | .done ch r => execDone_within ch r s
  | .fail ch r => execFail_within ch r s
  | .suspended ch r => execSuspended_within ch r s
  | .state ch r report => execState_within ch r report s
  | .ackTimeout ch die => execAckTimeout_within ch die s
  | .readBurstTimeout ch tag => execReadBurstTimeout_within ch tag s
  | .suspendTimeout ch die => execSuspendTimeout_within ch die s
  | .programTimeout ch die => execProgramTimeout_within ch die s
  | .channelTraining ch ok => execChannelTraining_within ch ok s
  | .quickRetrain ch why closingOk => execQuickRetrain_within ch why closingOk s
  | .recentring ch eyeMv inRange => execRecentring_within ch eyeMv inRange s
  | .moduleAlert k cause => execModuleAlert_within k cause s
  | .moduleProgramsEnded k => execModuleProgramsEnded_within k s
  | .moduleFailure k => execModuleFailure_within k s
  | .moduleRemoval k => execModuleRemoval_within k s
  | .moduleInsert k ident => execModuleInsert_within k ident s
  | .moduleAutoAdmit k => execModuleAutoAdmit_within k s
  | .rebuildStart k => execRebuildStart_within k s
  | .rebuildBatchConfirmed => execRebuildBatchConfirmed_within s
  | .shroudEngineFence e => execShroudEngineFence_within e s
  | .shrKeyLoad path => execShrKeyLoad_within path s
  | .shrKeyZeroize path => execShrKeyZeroize_within path s
  | .shrKeyErase path => execShrKeyErase_within path s
  | .shrRekeyGo path => execShrRekeyGo_within path s
  | .shrRekeyAbort path => execShrRekeyAbort_within path s
  | .rekeyClaimRow => execRekeyClaimRow_within s
  | .rekeyEnd => execRekeyEnd_within s
  | .rekeyCut => execRekeyCut_within s
  | .kceKeyLoad path => execKceKeyLoad_within path s
  | .kceKeyZeroize path => execKceKeyZeroize_within path s
  | .lockRequest codes => execLockRequest_within codes s
  | .lockRelease code => execLockRelease_within code s
  | .lockRevoke => execLockRevoke_within s
  | .msgStart path => execMsgStart_within path s
  | .dataInWrite path data => execDataInWrite_within path data s
  | .msgFinish path => execMsgFinish_within path s
  | .drbgReseed coreG ok => execDrbgReseed_within coreG ok s
  | .entropyStallTimeout => execEntropyStallTimeout_within s
  | .kceSelfTest coreG pass => execKceSelfTest_within coreG pass s
  | .sealDrainDone stored => execSealDrainDone_within stored s
  | .sealLineFeed => execSealLineFeed_within s
  | .sealRegistryConfirmed stored => execSealRegistryConfirmed_within stored s
  | .verifyLineFeed => execVerifyLineFeed_within s
  | .verifyRetire => execVerifyRetire_within s
  | .debugEntry stored => execDebugEntry_within stored s
  | .debugExit => execDebugExit_within s
  | .lockstepMismatch => execLockstepMismatch_within s
  | .configChosen leadPasses checkerPasses => execConfigChosen_within leadPasses checkerPasses s
  | .takeoverResume checkpointsValid => execTakeoverResume_within checkpointsValid s
  | .taskCheckpoint => execTaskCheckpoint_within s
  | .spareSelfTest pass => execSpareSelfTest_within pass s
  | .wdogKick path => execWdogKick_within path s
  | .wdogExpiry => execWdogExpiry_within s
  | .coreReset src => execCoreReset_within src s
  | .activationTimeout => execActivationTimeout_within s
  | .mailboxDoorbell m opcode payload => execMailboxDoorbell_within m opcode payload s
  | .mbDoneGo path m => execMbDoneGo_within path m s
  | .hlyRetireRequest m => execHlyRetireRequest_within m s
  | .hlyAbortRequest m => execHlyAbortRequest_within m s
  | .sidebandRequest opcode payload => execSidebandRequest_within opcode payload s
  | .sidebandReassemblyTimeout => execSidebandReassemblyTimeout_within s
  | .setEndpointId eid => execSetEndpointId_within eid s
  | .getEndpointId => execGetEndpointId_within s
  | .getMctpVersionSupport msgType => execGetMctpVersionSupport_within msgType s
  | .getMessageTypeSupport => execGetMessageTypeSupport_within s
  | .unsupportedCommand m => execUnsupportedCommand_within m s
  | .identify m => execIdentify_within m s
  | .backgroundOperationStatus m => execBackgroundOperationStatus_within m s
  | .requestAbortBackgroundOperation m => execRequestAbortBackgroundOperation_within m s
  | .getEventRecords m log => execGetEventRecords_within m log s
  | .clearEventRecords m log handles => execClearEventRecords_within m log handles s
  | .getEventInterruptPolicy m => execGetEventInterruptPolicy_within m s
  | .setEventInterruptPolicy m log msix vector => execSetEventInterruptPolicy_within m log msix vector s
  | .getFwInfo m => execGetFwInfo_within m s
  | .transferFw m slot offset data => execTransferFw_within m slot offset data s
  | .activateFw m slot online digestOk accepts => execActivateFw_within m slot online digestOk accepts s
  | .getTimestamp m => execGetTimestamp_within m s
  | .setTimestamp m time => execSetTimestamp_within m time s
  | .getSupportedLogs m => execGetSupportedLogs_within m s
  | .getLog m => execGetLog_within m s
  | .identifyMemoryDevice m => execIdentifyMemoryDevice_within m s
  | .getPartitionInfo m => execGetPartitionInfo_within m s
  | .getHealthInfo m => execGetHealthInfo_within m s
  | .getAlertConfiguration m => execGetAlertConfiguration_within m s
  | .setAlertConfiguration m lifeUsed overC underC volatileErrs persistentErrs => execSetAlertConfiguration_within m lifeUsed overC underC volatileErrs persistentErrs s
  | .getShutdownState m => execGetShutdownState_within m s
  | .setShutdownState m clean => execSetShutdownState_within m clean s
  | .getPoisonList m dpa lines => execGetPoisonList_within m dpa lines s
  | .injectPoison m dpa => execInjectPoison_within m dpa s
  | .clearPoison m dpa data => execClearPoison_within m dpa data s
  | .sanitize m => execSanitize_within m s
  | .secureErase m => execSecureErase_within m s
  | .getDeviceStatus m => execGetDeviceStatus_within m s
  | .getDirtyBudget m => execGetDirtyBudget_within m s
  | .getSealRecord m => execGetSealRecord_within m s
  | .seaChestStore m stored => execSeaChestStore_within m stored s
  | .getTrimPlan m => execGetTrimPlan_within m s
  | .setTrimOverride m => execSetTrimOverride_within m s
  | .reefBudget m => execReefBudget_within m s
  | .sealExtent m => execSealExtent_within m s
  | .verifyRead m stored => execVerifyRead_within m stored s
  | .keyLoad m stored => execKeyLoad_within m stored s
  | .keyZeroize m stored => execKeyZeroize_within m stored s
  | .rekeyStart m stored => execRekeyStart_within m stored s
  | .rekeyAbort m => execRekeyAbort_within m s
  | .logbookSnapshot m => execLogbookSnapshot_within m s
  | .logbookClear m => execLogbookClear_within m s
  | .moduleRetire m => execModuleRetire_within m s
  | .moduleAdmit m => execModuleAdmit_within m s
  | .selfTest m => execSelfTest_within m s
  | .pmuGrant m => execPmuGrant_within m s
  | .formatMediaSet m stored => execFormatMediaSet_within m stored s
  | .railWarning r => execRailWarning_within r s
  | .railFault r => execRailFault_within r s
  | .overVoltage => execOverVoltage_within s
  | .inputStable => execInputStable_within s
  | .powerFailWarning => execPowerFailWarning_within s
  | .shutdownRequest => execShutdownRequest_within s
  | .overTemperature sensor tempC => execOverTemperature_within sensor tempC s
  | .strikePoint belowStrike pages => execStrikePoint_within belowStrike pages s
  | .resumeQualified => execResumeQualified_within s
  | .abandonConfirmed => execAbandonConfirmed_within s
  | .railDisableStep => execRailDisableStep_within s
  | .railInWindow r => execRailInWindow_within r s
  | .rampRailFail r timeUs => execRampRailFail_within r timeUs s
  | .rampRetry => execRampRetry_within s
  | .powerdownRailFail what timeUs => execPowerdownRailFail_within what timeUs s
  | .busTransactionError k why stuckLow => execBusTransactionError_within k why stuckLow s
  | .busRetry k ok => execBusRetry_within k ok s
  | .unresponsiveRetry k answered => execUnresponsiveRetry_within k answered s
  | .busClearRetry recovered => execBusClearRetry_within recovered s
  | .moduleTempRead k tempC => execModuleTempRead_within k tempC s
  | .statusWordPoll k powerGood => execStatusWordPoll_within k powerGood s
  | .resetStretchEnd out => execResetStretchEnd_within out s
  | .reefRequest holder programs target => execReefRequest_within holder programs target s
  | .reefGrant => execReefGrant_within s
  | .permitRelease id => execPermitRelease_within id s
  | .reefLevelRaise id => execReefLevelRaise_within id s
  | .reefArbiterFail => execReefArbiterFail_within s
  | .moduleCapRestore k => execModuleCapRestore_within k s
  | .xtalLost => execXtalLost_within s
  | .xtalReturn => execXtalReturn_within s
  | .rcTrim => execRcTrim_within s
  | .refclkLost n => execRefclkLost_within n s
  | .refclkRecovered n => execRefclkRecovered_within n s
  | .holdoverExpiry => execHoldoverExpiry_within s
  | .dpllLockLoss => execDpllLockLoss_within s
  | .dpllRelock n => execDpllRelock_within n s
  | .mpllLockLoss => execMpllLockLoss_within s
  | .mpllRelock => execMpllRelock_within s
  | .sleepEvaluate d nextNs => execSleepEvaluate_within d nextNs s
  | .scheduledWake d => execScheduledWake_within d s
  | .wakeLate d => execWakeLate_within d s
  | .aonPowerOnDetect pages => execAonPowerOnDetect_within pages s
  | .porAssert => execPorAssert_within s
  | .sysResetRequest path key => execSysResetRequest_within path key s
  | .coreResetRequest path key => execCoreResetRequest_within path key s
  | .resetHoldOffDone => execResetHoldOffDone_within s
  | .domainRelease d fuseCrc => execDomainRelease_within d fuseCrc s
  | .clockWatchdogExpiry c => execClockWatchdogExpiry_within c s
  | .arrayFillDone bad => execArrayFillDone_within bad s
  | .firmwareBoot r => execFirmwareBoot_within r s
  | .holdupMeasureStart => execHoldupMeasureStart_within s
  | .holdupMeasureEnd r => execHoldupMeasureEnd_within r s
  | .holdupGo path => execHoldupGo_within path s
  | .trimPlanCompute => execTrimPlanCompute_within s
  | .planStale => execPlanStale_within s
  | .pathMonitorSample slackPs => execPathMonitorSample_within slackPs s
  | .selfTestSliceStart ticket => execSelfTestSliceStart_within ticket s
  | .selfTestSliceEnd pass => execSelfTestSliceEnd_within pass s
  | .sliceFaultEnd ownFault => execSliceFaultEnd_within ownFault s
  | .ticketCoverTimeout ticket => execTicketCoverTimeout_within ticket s
  | .hbmRecalibration stack pc eyePercent => execHbmRecalibration_within stack pc eyePercent s
  | .logRecordWrite => execLogRecordWrite_within s
  | .logWrGo path => execLogWrGo_within path s
  | .archiveCopy => execArchiveCopy_within s
  | .chainWrite => execChainWrite_within s
  | .chainStallTimeout => execChainStallTimeout_within s
  | .blockCounterAdvance verified => execBlockCounterAdvance_within verified s
  | .logbookRestore => execLogbookRestore_within s
  | .snapshotReleaseTimeout m => execSnapshotReleaseTimeout_within m s
  | .clearRetire => execClearRetire_within s
  | .recordStore id payload verified => execRecordStore_within id payload verified s
  | .recordWithdraw id => execRecordWithdraw_within id s
  | .backgroundErase => execBackgroundErase_within s
  | .rawProgram path => execRawProgram_within path s
  | .rawErase path => execRawErase_within path s
  | .counterIncrement ctr verified => execCounterIncrement_within ctr verified s
  | .counterRefill => execCounterRefill_within s
  | .seaChestSettle => execSeaChestSettle_within s
  | .eventFire source severity detail => execEventFire_within source severity detail s
  | .eventCoalesceFlush source => execEventCoalesceFlush_within source s
  | .bucketLeak cls unit => execBucketLeak_within cls unit s
  | .mstFifoRead path => execMstFifoRead_within path s
  | .addrTabClear path ch => execAddrTabClear_within path ch s
  | .addrTabHiRead path ch => execAddrTabHiRead_within path ch s
  | .alertHoldExpiry => execAlertHoldExpiry_within s
  | .pmuCycleCount cycles => execPmuCycleCount_within cycles s
  | .pmuFreeze path u => execPmuFreeze_within path u s
  | .pmuClear path u => execPmuClear_within path u s
  | .lowWordRead path addr => execLowWordRead_within path addr s
  | .timeHiWrite path data => execTimeHiWrite_within path data s
  | .lockSet path addr data => execLockSet_within path addr data s
  | .hostWindowRead p offset size => execHostWindowRead_within p offset size s
  | .registerWrite path addr data => execRegisterWrite_within path addr data s
  | .linkUp p rate width flit256 latopt ndrCredits drsCredits => execLinkUp_within p rate width flit256 latopt ndrCredits drsCredits s
  | .replayTimerTimeout p rollover => execReplayTimerTimeout_within p rollover s
  | .controllerTemperatureWarning sensor tempC => execControllerTemperatureWarning_within sensor tempC s
  | .hbmStackTemperature stack tempC => execHbmStackTemperature_within stack tempC s
  | .dailySummary => execDailySummary_within s
  | .holdupBootTimeout => execHoldupBootTimeout_within s

theorem pending_notMem_footprint (c : Instr) : Part.pending ∉ footprint c := by
  cases c <;> exact Laws.QueueFootprint.absent rfl

/-- Settles O3: each meaning changes its footprint only, and the queue is in no footprint. -/
theorem commandsChangeTheirPartsOnly : Obligations.CommandsChangeTheirPartsOnly := by
  intro c s t h
  have hwithin : Within (footprint c) s t := exec_within c s t h
  exact ⟨hwithin.same, hwithin.same .pending (pending_notMem_footprint c)⟩

/-- Settles O1: a step on a waiting command is that command's meaning, on an empty queue it is the idle step. -/
theorem stepRunsTheFrontCommand : Obligations.StepRunsTheFrontCommand := by
  refine ⟨fun _ _ => rfl, fun s h => ?_⟩
  unfold step
  rw [h]

/-- Settles O2: each value is a field of the reset state. -/
theorem resetLeavesTheStatedValues : Obligations.ResetLeavesTheStatedValues := by
  have hports : ∀ p, State.reset.port p = PortState.reset := fun p => by cases p <;> rfl
  refine ⟨rfl, rfl, rfl, rfl, fun _ => rfl, rfl, fun _ => rfl, rfl, rfl, rfl, rfl, rfl, fun p => ?_⟩
  rw [hports]
  exact ⟨rfl, rfl, rfl, rfl, rfl⟩

/-- Settles O60: both memories are empty tables at reset. -/
theorem memoriesAreCanonicalAtReset : Obligations.MemoriesAreCanonicalAtReset := ⟨rfl, rfl⟩

/-! ## What a command can answer -/

/-- What a command can answer: a next state, the fault of an ill-formed command, or the refusal of a debug write of a
factory register. -/
def Answers (c : Instr) (s : State) : Prop :=
  (∃ t, exec c s = .next t) ∨ (c.wf = false ∧ exec c s = .fault .illFormed) ∨
    ∃ a d, c = .registerWrite .debug a d ∧ exec c s = .refused .factoryRegister

theorem Answers.next {c : Instr} {s t : State} (h : exec c s = .next t) : Answers c s := .inl ⟨t, h⟩

/-- A meaning that stops ill-formed operands and completes on the others. -/
theorem Answers.of_ite {c : Instr} {s t : State}
    (h : exec c s = if c.wf then .next t else .fault .illFormed) : Answers c s := by
  by_cases hwf : c.wf = true
  · exact .inl ⟨t, by simpa [hwf] using h⟩
  · exact .inr (.inl ⟨by simpa using hwf, by simpa [hwf] using h⟩)

theorem Answers.of_ite_not {c : Instr} {s t : State}
    (h : exec c s = if !c.wf then .fault .illFormed else .next t) : Answers c s :=
  .of_ite (t := t) (by cases hwf : c.wf <;> simp [h, hwf])

/-- A write of a place that is no register completes, but for a factory register on the debug path. -/
theorem State.writePlace_next_or_refused (s : State) (path : Path) (addr : Nat) (d : Word) :
    (∃ t, s.writePlace path addr d = .next t) ∨
      (path = .debug ∧ s.writePlace path addr d = .refused .factoryRegister) := by
  unfold State.writePlace
  split
  case h_2 => split_ifs with hp <;> simp [hp]
  all_goals exact .inl ⟨_, rfl⟩

theorem answers_registerWrite (path : Path) (addr d : Word) (s : State) : Answers (.registerWrite path addr d) s := by
  change _ ∨ _ ∨ _
  have hexec : exec (.registerWrite path addr d) s = execRegisterWrite path addr d s := rfl
  simp only [hexec, execRegisterWrite]
  split_ifs
  · exact .inl ⟨_, rfl⟩
  · exact .inl ⟨_, rfl⟩
  · split
    · exact .inl ⟨_, rfl⟩
    · obtain hnext | ⟨rfl, hrefused⟩ := s.writePlace_next_or_refused path addr.toNat d
      · exact .inl hnext
      · exact .inr (.inr ⟨addr, d, rfl, hrefused⟩)

theorem exec_answers (c : Instr) (s : State) : Answers c s := by
  cases c
  case registerWrite => exact answers_registerWrite _ _ _ s
  case l0pNarrow => exact .of_ite rfl
  case handoverCutover => exact .of_ite rfl
  case recordStore id payload verified =>
    refine .of_ite_not (t := if !s.sea.settled || !s.flashUsable then s
      else (s.seaStore [(id.toNat, payload)] verified).1) ?_
    change execRecordStore id payload verified s = _
    unfold execRecordStore
    split_ifs <;> simp_all [Instr.wf]
  case state ch r report => exact .of_ite_not rfl
  case wearTreeRepair => exact .of_ite_not rfl
  case swathRetire => exact .of_ite_not rfl
  case frozenSwathDaily => exact .of_ite_not rfl
  case migrationRowConfirmed => exact .of_ite_not rfl
  case driftClockTick => exact .of_ite_not rfl
  case hbmRecalibration => exact .of_ite_not rfl
  case eventFire => exact .of_ite_not rfl
  case eventCoalesceFlush => exact .of_ite_not rfl
  case bucketLeak => exact .of_ite_not rfl
  all_goals exact .next rfl

/-- Settles O4: of the three answers that a command can give, a well-formed one meets no fault and an ill-formed one,
being no register write, no refusal. -/
theorem wellFormedCommandsComplete : Obligations.WellFormedCommandsComplete := by
  intro c s
  refine ⟨fun hwf => ?_, fun hwf => ?_⟩ <;>
    obtain hnext | ⟨hill, hfault⟩ | ⟨a, d, rfl, hrefused⟩ := exec_answers c s
  · exact .inl hnext
  · simp [hwf] at hill
  · exact .inr ⟨a, d, rfl, hrefused⟩
  · exact .inl hnext
  · exact .inr hfault
  · cases hwf

end Sys2Proof.Machine


/-! SUPPORT. The operations that most commands end with: what firing a source and settling the service level leave
alone, one field a lemma. -/

namespace Sys2Proof.Machine

open Sys2Proof

theorem Glb.eq_of_settled_eq {g h : Glb} (hs : g.settled = h.settled) (hl : g.level = h.level) : g = h := by
  cases g
  cases h
  simp_all [Glb.settled]

theorem Within.glb_eq {W : List Part} {s t : State} (h : Within W s t) (hg : Part.glb ∉ W) (hl : Part.level ∉ W) :
    t.glb = s.glb :=
  Glb.eq_of_settled_eq (h.same .glb hg) (h.same .level hl)

/-! ## Firing a source (R406) -/

@[simp] theorem State.fire_clock (s : State) (i : Nat) (v : Severity) (d : Detail) : (s.fire i v d).clock = s.clock :=
  (State.fire_within s i v d).same .clock (by decide)

@[simp] theorem State.fire_draws (s : State) (i : Nat) (v : Severity) (d : Detail) : (s.fire i v d).draws = s.draws :=
  (State.fire_within s i v d).same .draws (by decide)

@[simp] theorem State.fire_access (s : State) (i : Nat) (v : Severity) (d : Detail) :
    (s.fire i v d).access = s.access :=
  (State.fire_within s i v d).same .access (by decide)

@[simp] theorem State.fire_latches (s : State) (i : Nat) (v : Severity) (d : Detail) :
    (s.fire i v d).latches = s.latches :=
  (State.fire_within s i v d).same .latches (by decide)

@[simp] theorem State.fire_glb (s : State) (i : Nat) (v : Severity) (d : Detail) : (s.fire i v d).glb = s.glb :=
  (State.fire_within s i v d).glb_eq (by decide) (by decide)

@[simp] theorem State.fire_bly (s : State) (i : Nat) (v : Severity) (d : Detail) : (s.fire i v d).bly = s.bly :=
  (State.fire_within s i v d).same .bly (by decide)

@[simp] theorem State.fire_cache (s : State) (i : Nat) (v : Severity) (d : Detail) : (s.fire i v d).cache = s.cache :=
  (State.fire_within s i v d).same .cache (by decide)

@[simp] theorem State.fire_vbf (s : State) (i : Nat) (v : Severity) (d : Detail) : (s.fire i v d).vbf = s.vbf :=
  (State.fire_within s i v d).same .vbf (by decide)

@[simp] theorem State.fire_stp (s : State) (i : Nat) (v : Severity) (d : Detail) : (s.fire i v d).stp = s.stp :=
  (State.fire_within s i v d).same .stp (by decide)

@[simp] theorem State.fire_wlv (s : State) (i : Nat) (v : Severity) (d : Detail) : (s.fire i v d).wlv = s.wlv :=
  (State.fire_within s i v d).same .wlv (by decide)

@[simp] theorem State.fire_media (s : State) (i : Nat) (v : Severity) (d : Detail) : (s.fire i v d).media = s.media :=
  (State.fire_within s i v d).same .media (by decide)

@[simp] theorem State.fire_mch (s : State) (i : Nat) (v : Severity) (d : Detail) : (s.fire i v d).mch = s.mch :=
  (State.fire_within s i v d).same .mch (by decide)

@[simp] theorem State.fire_shr (s : State) (i : Nat) (v : Severity) (d : Detail) : (s.fire i v d).shr = s.shr :=
  (State.fire_within s i v d).same .shr (by decide)

@[simp] theorem State.fire_kce (s : State) (i : Nat) (v : Severity) (d : Detail) : (s.fire i v d).kce = s.kce :=
  (State.fire_within s i v d).same .kce (by decide)

@[simp] theorem State.fire_mst (s : State) (i : Nat) (v : Severity) (d : Detail) : (s.fire i v d).mst = s.mst :=
  (State.fire_within s i v d).same .mst (by decide)

@[simp] theorem State.fire_hly (s : State) (i : Nat) (v : Severity) (d : Detail) : (s.fire i v d).hly = s.hly :=
  (State.fire_within s i v d).same .hly (by decide)

@[simp] theorem State.fire_seq (s : State) (i : Nat) (v : Severity) (d : Detail) : (s.fire i v d).seq = s.seq :=
  (State.fire_within s i v d).same .seq (by decide)

@[simp] theorem State.fire_reef (s : State) (i : Nat) (v : Severity) (d : Detail) : (s.fire i v d).reef = s.reef :=
  (State.fire_within s i v d).same .reef (by decide)

@[simp] theorem State.fire_clk (s : State) (i : Nat) (v : Severity) (d : Detail) : (s.fire i v d).clk = s.clk :=
  (State.fire_within s i v d).same .clk (by decide)

@[simp] theorem State.fire_rst (s : State) (i : Nat) (v : Severity) (d : Detail) : (s.fire i v d).rst = s.rst :=
  (State.fire_within s i v d).same .rst (by decide)

@[simp] theorem State.fire_tel (s : State) (i : Nat) (v : Severity) (d : Detail) : (s.fire i v d).tel = s.tel :=
  (State.fire_within s i v d).same .tel (by decide)

@[simp] theorem State.fire_trm (s : State) (i : Nat) (v : Severity) (d : Detail) : (s.fire i v d).trm = s.trm :=
  (State.fire_within s i v d).same .trm (by decide)

@[simp] theorem State.fire_sea (s : State) (i : Nat) (v : Severity) (d : Detail) : (s.fire i v d).sea = s.sea :=
  (State.fire_within s i v d).same .sea (by decide)

@[simp] theorem State.fire_dty (s : State) (i : Nat) (v : Severity) (d : Detail) : (s.fire i v d).dty = s.dty :=
  (State.fire_within s i v d).same .dty (by decide)

@[simp] theorem State.fire_pmu (s : State) (i : Nat) (v : Severity) (d : Detail) : (s.fire i v d).pmu = s.pmu :=
  (State.fire_within s i v d).same .pmu (by decide)

@[simp] theorem State.fire_dbg (s : State) (i : Nat) (v : Severity) (d : Detail) : (s.fire i v d).dbg = s.dbg :=
  (State.fire_within s i v d).same .dbg (by decide)

@[simp] theorem State.ch_fire (s : State) (i : Nat) (v : Severity) (d : Detail) (k : Nat) :
    (s.fire i v d).ch k = s.ch k :=
  by simp [State.ch]

@[simp] theorem State.slot_fire (s : State) (i : Nat) (v : Severity) (d : Detail) (k : Nat) :
    (s.fire i v d).slot k = s.slot k :=
  by simp [State.slot]

@[simp] theorem State.slice_fire (s : State) (i : Nat) (v : Severity) (d : Detail) (k : Nat) :
    (s.fire i v d).slice k = s.slice k :=
  by simp [State.slice]

@[simp] theorem State.mb_fire (s : State) (i : Nat) (v : Severity) (d : Detail) (k : Nat) :
    (s.fire i v d).mb k = s.mb k :=
  by simp [State.mb]

@[simp] theorem State.keySlot_fire (s : State) (i : Nat) (v : Severity) (d : Detail) (k : Nat) :
    (s.fire i v d).keySlot k = s.keySlot k :=
  by simp [State.keySlot]

@[simp] theorem State.dom_fire (s : State) (i : Nat) (v : Severity) (d : Detail) (k : Nat) :
    (s.fire i v d).dom k = s.dom k :=
  by simp [State.dom]

theorem State.quiet_port_fire (s : State) (i : Nat) (v : Severity) (d : Detail) (p : Port) :
    ((s.fire i v d).port p).quiet = (s.port p).quiet :=
  (State.fire_within s i v d).quiet_port_eq (by decide) (by decide) p

@[simp] theorem State.linkUp_port_fire (s : State) (i : Nat) (v : Severity) (d : Detail) (p : Port) :
    ((s.fire i v d).port p).linkUp = (s.port p).linkUp :=
  (congrArg PortState.linkUp (State.quiet_port_fire s i v d p) :)

@[simp] theorem State.memEnabled_port_fire (s : State) (i : Nat) (v : Severity) (d : Detail) (p : Port) :
    ((s.fire i v d).port p).memEnabled = (s.port p).memEnabled :=
  (congrArg PortState.memEnabled (State.quiet_port_fire s i v d p) :)

@[simp] theorem State.decoders_port_fire (s : State) (i : Nat) (v : Severity) (d : Detail) (p : Port) :
    ((s.fire i v d).port p).decoders = (s.port p).decoders :=
  (congrArg PortState.decoders (State.quiet_port_fire s i v d p) :)

@[simp] theorem State.ingressReq_port_fire (s : State) (i : Nat) (v : Severity) (d : Detail) (p : Port) :
    ((s.fire i v d).port p).ingressReq = (s.port p).ingressReq :=
  (congrArg PortState.ingressReq (State.quiet_port_fire s i v d p) :)

@[simp] theorem State.ingressRwd_port_fire (s : State) (i : Nat) (v : Severity) (d : Detail) (p : Port) :
    ((s.fire i v d).port p).ingressRwd = (s.port p).ingressRwd :=
  (congrArg PortState.ingressRwd (State.quiet_port_fire s i v d p) :)

@[simp] theorem State.pathLost_port_fire (s : State) (i : Nat) (v : Severity) (d : Detail) (p : Port) :
    ((s.fire i v d).port p).pathLost = (s.port p).pathLost :=
  (congrArg PortState.pathLost (State.quiet_port_fire s i v d p) :)

/-! ## Firing a path source (R44) -/

theorem State.quiet_port_firePath (s : State) (on : Port) (i : Nat) (v : Severity) (d : Detail) (p : Port) :
    ((s.firePath on i v d).port p).quiet = (s.port p).quiet :=
  (State.firePath_within s on i v d).quiet_port_eq (by decide) (by decide) p

@[simp] theorem State.viral_port_firePath (s : State) (on : Port) (i : Nat) (v : Severity) (d : Detail) (p : Port) :
    ((s.firePath on i v d).port p).viral = (s.port p).viral :=
  (congrArg PortState.viral (State.quiet_port_firePath s on i v d p) :)

@[simp] theorem State.pathLost_port_firePath (s : State) (on : Port) (i : Nat) (v : Severity) (d : Detail) (p : Port) :
    ((s.firePath on i v d).port p).pathLost = (s.port p).pathLost :=
  (congrArg PortState.pathLost (State.quiet_port_firePath s on i v d p) :)

/-! ## Settling the service level (R24) -/

@[simp] theorem State.settleLevel_bly (s : State) : s.settleLevel.bly = s.bly :=
  (State.settleLevel_within s).same .bly (by decide)

@[simp] theorem State.settleLevel_cache (s : State) : s.settleLevel.cache = s.cache :=
  (State.settleLevel_within s).same .cache (by decide)

@[simp] theorem State.settleLevel_vbf (s : State) : s.settleLevel.vbf = s.vbf :=
  (State.settleLevel_within s).same .vbf (by decide)

@[simp] theorem State.settleLevel_stp (s : State) : s.settleLevel.stp = s.stp :=
  (State.settleLevel_within s).same .stp (by decide)

@[simp] theorem State.settleLevel_wlv (s : State) : s.settleLevel.wlv = s.wlv :=
  (State.settleLevel_within s).same .wlv (by decide)

@[simp] theorem State.settleLevel_media (s : State) : s.settleLevel.media = s.media :=
  (State.settleLevel_within s).same .media (by decide)

@[simp] theorem State.settleLevel_mch (s : State) : s.settleLevel.mch = s.mch :=
  (State.settleLevel_within s).same .mch (by decide)

@[simp] theorem State.settleLevel_shr (s : State) : s.settleLevel.shr = s.shr :=
  (State.settleLevel_within s).same .shr (by decide)

@[simp] theorem State.settleLevel_kce (s : State) : s.settleLevel.kce = s.kce :=
  (State.settleLevel_within s).same .kce (by decide)

@[simp] theorem State.settleLevel_mst (s : State) : s.settleLevel.mst = s.mst :=
  (State.settleLevel_within s).same .mst (by decide)

@[simp] theorem State.settleLevel_hly (s : State) : s.settleLevel.hly = s.hly :=
  (State.settleLevel_within s).same .hly (by decide)

@[simp] theorem State.settleLevel_seq (s : State) : s.settleLevel.seq = s.seq :=
  (State.settleLevel_within s).same .seq (by decide)

@[simp] theorem State.settleLevel_clk (s : State) : s.settleLevel.clk = s.clk :=
  (State.settleLevel_within s).same .clk (by decide)

@[simp] theorem State.settleLevel_rst (s : State) : s.settleLevel.rst = s.rst :=
  (State.settleLevel_within s).same .rst (by decide)

@[simp] theorem State.settleLevel_trm (s : State) : s.settleLevel.trm = s.trm :=
  (State.settleLevel_within s).same .trm (by decide)

@[simp] theorem State.settleLevel_dty (s : State) : s.settleLevel.dty = s.dty :=
  (State.settleLevel_within s).same .dty (by decide)

@[simp] theorem State.ch_settleLevel (s : State) (k : Nat) : s.settleLevel.ch k = s.ch k :=
  by simp [State.ch]

@[simp] theorem State.slot_settleLevel (s : State) (k : Nat) : s.settleLevel.slot k = s.slot k :=
  by simp [State.slot]

@[simp] theorem State.slice_settleLevel (s : State) (k : Nat) : s.settleLevel.slice k = s.slice k :=
  by simp [State.slice]

@[simp] theorem State.mb_settleLevel (s : State) (k : Nat) : s.settleLevel.mb k = s.mb k :=
  by simp [State.mb]

theorem State.quiet_port_settleLevel (s : State) (p : Port) : (s.settleLevel.port p).quiet = (s.port p).quiet :=
  (State.settleLevel_within s).quiet_port_eq (by decide) (by decide) p

/-! ## Reading a state written out: the accessors read the one field they speak of -/

section
variable {pending : List Instr} {clock : Nat} {draws : Nat} {access : Access} {latches : Sparse Latches} {glb : Glb}
  {port0 : PortState} {port1 : PortState} {bly : Bly} {cache : Cache} {vbf : Vbf} {stp : Stp} {wlv : Wlv} {media :
  Media} {mch : Sparse Mch} {shr : Shr} {kce : Kce} {mst : Mst} {hly : Hly} {seq : Seq} {reef : Reef} {clk : Clk}
  {rst : Rst} {tel : Tel} {trm : Trm} {log : Logb} {sea : Sea} {dty : Dty} {evt : Evt} {pmu : Pmu} {dbg : Dbg}

@[simp] theorem State.slice_mk (k : Nat) :
    (⟨pending, clock, draws, access, latches, glb, port0, port1, bly, cache, vbf, stp, wlv, media, mch, shr, kce,
      mst, hly, seq, reef, clk, rst, tel, trm, log, sea, dty, evt, pmu, dbg⟩ : State).slice k = Sparse.get
      SliceState.idle cache.slices k :=
  rfl

@[simp] theorem State.mb_mk (k : Nat) :
    (⟨pending, clock, draws, access, latches, glb, port0, port1, bly, cache, vbf, stp, wlv, media, mch, shr, kce,
      mst, hly, seq, reef, clk, rst, tel, trm, log, sea, dty, evt, pmu, dbg⟩ : State).mb k = Sparse.get Mb.reset
      hly.mb k :=
  rfl

end

@[simp] theorem State.get_slice (s : State) (k : Nat) : Sparse.get SliceState.idle s.cache.slices k = s.slice k := rfl

@[simp] theorem State.get_mb (s : State) (k : Nat) : Sparse.get Mb.reset s.hly.mb k = s.mb k := rfl

end Sys2Proof.Machine


/-! SUPPORT. Decoder commits, viral and the failure of a port (R35 to R37, R43, R44). -/

namespace Sys2Proof.Machine

open Sys2Proof

theorem portSrc_ne_portOther (p : Port) (k : Nat) : portSrc p k ≠ portSrc (portOther p) k := by
  cases p <;> simp [portSrc, portIdx, portOther]

/-! ## Viral (R35) -/

@[simp] theorem State.viral_port_goViral (s : State) (p : Port) : ((s.goViral p).port p).viral = true := by
  unfold State.goViral
  split_ifs with h <;> simp [h]

@[simp] theorem State.viral_portOther_goViral (s : State) (p : Port) :
    ((s.goViral p).port (portOther p)).viral = (s.port (portOther p)).viral := by
  unfold State.goViral
  split_ifs <;> simp

@[simp] theorem State.viral_port_goViral_portOther (s : State) (p : Port) :
    ((s.goViral (portOther p)).port p).viral = (s.port p).viral := by
  simpa using s.viral_portOther_goViral (portOther p)

/-- A port that enters viral fires its own source at CRITICAL. -/
theorem State.fired_goViral {s : State} {p : Port} (h : (s.port p).viral = false) :
    (s.goViral p).fired (portSrc p 3) .critical := by
  simp [State.goViral, h]

/-- The other port's entry fires no source of this port. -/
theorem State.fired_goViral_portOther (s : State) (p : Port) (v : Severity) :
    (s.goViral (portOther p)).fired (portSrc p 3) v ↔ s.fired (portSrc p 3) v := by
  unfold State.goViral
  split_ifs <;> simp [portSrc_ne_portOther]

@[simp] theorem State.goViral_cache (s : State) (p : Port) : (s.goViral p).cache = s.cache :=
  (State.goViral_within s p).same .cache (by decide)

@[simp] theorem State.goViral_media (s : State) (p : Port) : (s.goViral p).media = s.media :=
  (State.goViral_within s p).same .media (by decide)

theorem exec_viral_of_linkUp {p : Port} {s : State} (h : (s.port p).linkUp = true) :
    exec (.viral p) s =
      .next (if s.multipath then (s.goViral p).goViral (portOther p) else s.goViral p) := by
  change execViral p s = _
  simp [execViral, h]

theorem completes_viral {p : Port} {s : State} (h : (s.port p).linkUp = true) :
    Completes (.viral p) s fun t =>
      (t.port p).viral = true ∧
        ((s.port p).viral = false → t.fired (portSrc p 3) .critical) ∧
        (t.port (portOther p)).viral = (s.multipath || (s.port (portOther p)).viral) ∧
        t.cache = s.cache ∧ t.media = s.media := by
  refine ⟨_, exec_viral_of_linkUp h, ?_⟩
  dsimp only
  split_ifs with hm
  · simp +contextual [hm, State.fired_goViral_portOther, State.fired_goViral]
  · simp +contextual [hm, State.fired_goViral]

/-! ## Decoder commits (R36, R37) -/

theorem completes_hdmDecoderCommit (p : Port) (d : Fin 4) (c : HdmConfig) (s : State) :
    Completes (.hdmDecoderCommit p d c) s fun t =>
      let old := Sparse.get Decoder.reset (s.port p).decoders d.val
      (old.committed = true → old.lockOnCommit = true → t = s) ∧
        ((old.committed && old.lockOnCommit) = false →
          Sparse.find (t.port p).decoders d.val =
              some ⟨s.commitOk p d.val c, c.lockOnCommit, !s.commitOk p d.val c, c.base, c.size, c.skip,
                c.ways, c.granularity⟩ ∧
            (s.commitOk p d.val c = false → t.fired (portSrc p 11) .warn)) ∧
        ∀ j, j ≠ d.val → Sparse.find (t.port p).decoders j = Sparse.find (s.port p).decoders j := by
  refine ⟨_, rfl, ?_⟩
  cases hok : s.commitOk p d.val c <;> split_ifs with hlock <;> simp_all [Sparse.find_put_other]

/-! ## The failure of a port (R43, R44) -/

/-- A port that fails drops its link and what it has not accepted; its path is lost if it carried CXL.mem. -/
theorem State.port_failPort (s : State) (p : Port) :
    ((s.failPort p).port p).quiet =
      ({ (s.port p).dropLink with pathLost := (s.port p).pathLost || (s.port p).memEnabled } : PortState).quiet := by
  have horphan : ((s.orphanPort p).port p).quiet = (s.port p).quiet :=
    (State.orphanPort_within s p).quiet_port_eq (by decide) (by decide) p
  have hdrop : ∀ x y : PortState, x.quiet = y.quiet →
      ({ x.dropLink with pathLost := x.pathLost || (s.port p).memEnabled } : PortState).quiet =
        ({ y.dropLink with pathLost := y.pathLost || (s.port p).memEnabled } : PortState).quiet := by
    intro x y hxy
    simp only [PortState.quiet, PortState.mk.injEq] at hxy
    simp [PortState.quiet, PortState.dropLink, hxy]
  unfold State.failPort
  dsimp only
  rw [State.quiet_port_settleLevel]
  split_ifs
  · rw [State.quiet_port_firePath, State.port_modPort]
    exact hdrop _ _ horphan
  · rw [State.port_modPort]
    exact hdrop _ _ horphan

theorem completes_portFail {p : Port} {s : State} (how : PortDown) (h : (s.port p).linkUp = true) :
    Completes (.portFail p how) s fun t =>
      (t.port p).linkUp = false ∧ (t.port p).memEnabled = false ∧ (t.port p).ingressReq = [] ∧
        (t.port p).ingressRwd = [] ∧
        t.fired (portSrc p (if how = .surpriseDown then 7 else 1)) .fault ∧
        ((s.port p).memEnabled = true → (t.port p).pathLost = true) ∧
        t.cache = s.cache ∧ t.media = s.media := by
  refine ⟨_, rfl, ?_⟩
  dsimp only
  simp only [h, Bool.not_true, Bool.false_eq_true, ↓reduceIte]
  set u := s.modPort p _
  have hport := u.port_failPort p
  have hcache : (u.failPort p).cache = u.cache := (State.failPort_within u p).same .cache (by decide)
  have hmedia : (u.failPort p).media = u.media := (State.failPort_within u p).same .media (by decide)
  simp only [PortState.quiet, PortState.dropLink, PortState.mk.injEq] at hport
  simp +contextual [hport, hcache, hmedia, u]

theorem State.multipath_modPort {s : State} {p : Port} {f : PortState → PortState}
    (hf : (f (s.port p)).mode = (s.port p).mode) : (s.modPort p f).multipath = s.multipath := by
  cases p <;> simp_all [State.multipath, State.modPort, State.setPort, State.port]

theorem completes_pathRestored {p : Port} {s : State} (hlost : (s.port p).pathLost = true)
    (hmem : (s.port p).memEnabled = true) (hmulti : s.multipath = true)
    (hother : (s.port (portOther p)).memEnabled = true) :
    Completes (.pathRestored p) s fun t =>
      (t.port p).pathLost = false ∧ t.fired (portSrc (portOther p) 9) .note := by
  refine ⟨_, rfl, ?_⟩
  simp [hlost, hmem, hother, State.multipath_modPort, hmulti]

/-- Settles O8: the commit is one write of the port's decoders; viral enters each port by `State.goViral`; a port that
fails is left as `State.port_failPort` has it. -/
theorem decodersViralAndPortFailureKeepTheirReach : Obligations.DecodersViralAndPortFailureKeepTheirReach :=
  ⟨completes_hdmDecoderCommit, fun _ _ => completes_viral,
    fun _ _ => ⟨completes_portFail, completes_pathRestored⟩⟩

end Sys2Proof.Machine


/-! SUPPORT. Facts about the shared small operations: bits of a register, sparse tables under maps and filters, folds. -/

namespace Sys2Proof.Machine

open Sys2Proof

/-! ## Bits -/

theorem getLsbD_ofNat_two_pow (w i j : Nat) : (BitVec.ofNat w (2 ^ i)).getLsbD j = (decide (j < w) && decide (i = j)) := by
  rw [BitVec.getLsbD_ofNat, Nat.testBit_two_pow]

theorem bitOf_setBit {w : Nat} (b : BitVec w) (i j : Nat) (v : Bool) :
    bitOf (setBit b i v) j = if i = j ∧ j < w then v else bitOf b j := by
  unfold bitOf setBit
  cases v <;>
    simp only [BitVec.getLsbD_or, BitVec.getLsbD_and, BitVec.getLsbD_not, getLsbD_ofNat_two_pow, ite_true,
      Bool.false_eq_true, ite_false]
  · by_cases hw : j < w
    · by_cases hij : i = j <;> simp [hw, hij]
    · simp [hw, BitVec.getLsbD_of_ge b j (by omega)]
  · by_cases hw : j < w <;> by_cases hij : i = j <;> simp [hw, hij]

theorem bitOf_setBit_same {w i : Nat} (b : BitVec w) (v : Bool) (h : i < w) : bitOf (setBit b i v) i = v := by
  simp [bitOf_setBit, h]

theorem bitOf_setBit_other {w i j : Nat} (b : BitVec w) (v : Bool) (h : i ≠ j) :
    bitOf (setBit b i v) j = bitOf b j := by
  simp [bitOf_setBit, h]

/-! ## Folds -/

/-- What every step of a fold keeps, the fold keeps. -/
theorem foldl_keeps {σ α β : Type} (g : σ → β) {f : σ → α → σ} (h : ∀ s a, g (f s a) = g s) (l : List α) (s : σ) :
    g (l.foldl f s) = g s := by
  induction l generalizing s with
  | nil => rfl
  | cons a l ih => rw [List.foldl_cons, ih, h]

/-- The same for a property. -/
theorem foldl_invariant {σ α : Type} {P : σ → Prop} {f : σ → α → σ} (h : ∀ s a, P s → P (f s a)) (l : List α) {s : σ}
    (hs : P s) : P (l.foldl f s) := by
  induction l generalizing s with
  | nil => exact hs
  | cons a l ih => exact ih (h s a hs)

/-! ## Sparse tables -/

section
variable {α : Type}

theorem Sparse.mem_of_find {m : Sparse α} {k : Nat} {v : α} (h : Sparse.find m k = some v) : (k, v) ∈ m := by
  induction m with
  | nil => cases h
  | cons e r ih =>
    unfold Sparse.find at h
    split at h
    · rename_i hk
      cases h
      exact hk ▸ List.mem_cons_self
    · exact List.mem_cons_of_mem _ (ih h)

theorem Sparse.mem_of_mem_erase {m : Sparse α} {k : Nat} {e : Nat × α} (h : e ∈ Sparse.erase m k) : e ∈ m :=
  (List.mem_filter.mp h).1

/-- A map that keeps every key acts on the entry found. -/
theorem Sparse.find_map (m : Sparse α) {f : Nat × α → Nat × α} (hf : ∀ e, (f e).1 = e.1) (k : Nat) :
    Sparse.find (m.map f) k = (Sparse.find m k).map fun v => (f (k, v)).2 := by
  induction m with
  | nil => rfl
  | cons e r ih =>
    obtain ⟨j, v⟩ := e
    simp only [List.map_cons, Sparse.find, hf]
    split
    · rename_i hk
      subst hk
      rfl
    · exact ih

@[simp] theorem Sparse.find_mapVals (m : Sparse α) (f : α → α) (k : Nat) :
    Sparse.find (Sparse.mapVals m f) k = (Sparse.find m k).map f :=
  Sparse.find_map m (f := fun e => (e.1, f e.2)) (fun _ => rfl) k

theorem Sparse.find_adjust_same {m : Sparse α} {k : Nat} {v : α} (f : α → α) (h : Sparse.find m k = some v) :
    Sparse.find (Sparse.adjust m k f) k = some (f v) := by
  simp [Sparse.adjust, h]

theorem Sparse.find_adjust_other (m : Sparse α) {k j : Nat} (f : α → α) (h : j ≠ k) :
    Sparse.find (Sparse.adjust m k f) j = Sparse.find m j := by
  unfold Sparse.adjust
  split
  · exact Sparse.find_put_other m _ h
  · rfl

theorem Sparse.get_modify_same [DecidableEq α] (d : α) (m : Sparse α) (k : Nat) (f : α → α) :
    Sparse.get d (Sparse.modify d m k f) k = f (Sparse.get d m k) := Sparse.get_set_same _ _ _ _

theorem Sparse.get_modify_other [DecidableEq α] (d : α) (m : Sparse α) {k j : Nat} (f : α → α) (h : j ≠ k) :
    Sparse.get d (Sparse.modify d m k f) j = Sparse.get d m j := Sparse.get_set_other _ _ _ h

end

end Sys2Proof.Machine


/-! SUPPORT. Fences, failed stacks and failed slices (R16, R58, R83 to R85, R89, R95 to R98): the lookups that wait, the
units of the cache, and one clause for each failure. -/

namespace Sys2Proof.Machine

open Sys2Proof

/-! ## Waiting lookups (R58) -/

/-- No request waits at its slice. -/
def Bly.noLookup (b : Bly) : Prop := ∀ e ∈ b.entries, e.2.st ≠ .lookup

theorem State.restart_eq_self {s : State} (h : s.bly.noLookup) (i : Nat) : s.restart i = s := by
  unfold State.restart
  split
  · rfl
  · rename_i b hb
    exact if_neg (h _ (Sparse.mem_of_find hb))

/-- Where no request waits at its slice, there is nothing to take up again. -/
theorem State.retryLookups_eq_self {s : State} (h : s.bly.noLookup) : s.retryLookups = s :=
  foldl_invariant (P := (· = s)) (fun _ i hu => hu ▸ State.restart_eq_self h i) _ rfl

@[simp] theorem State.renameBelay_bly (s : State) (i k : Nat) : (s.renameBelay i k).bly = s.bly := rfl

theorem Bly.noLookup_put {b : Bly} {k : Nat} {x : Belay} (h : b.noLookup) (hx : x.st ≠ .lookup) :
    Bly.noLookup { b with entries := Sparse.put b.entries k x } := by
  intro e he
  obtain rfl | he := Sparse.mem_put he
  · exact hx
  · exact h e he

theorem Bly.noLookup_erase {b : Bly} {k : Nat} (h : b.noLookup) :
    Bly.noLookup { b with entries := Sparse.erase b.entries k } :=
  fun e he => h e (Sparse.mem_of_mem_erase he)

/-- A moved request does not wait at its slice in the table, and no bank's fence moves. -/
theorem State.noLookup_moveBelay {s : State} (h : s.bly.noLookup) (i : Nat) : (s.moveBelay i).bly.noLookup := by
  unfold State.moveBelay
  split
  · exact h
  · rename_i b hb
    have hst : b.st ≠ .lookup := h _ (Sparse.mem_of_find hb)
    dsimp only
    split
    · exact Bly.noLookup_put (b := { s.bly with entries := _ }) (Bly.noLookup_erase h) hst
    · exact Bly.noLookup_erase h

theorem State.fenced_moveBelay (s : State) (i : Nat) : (s.moveBelay i).bly.fenced = s.bly.fenced := by
  unfold State.moveBelay
  split
  · rfl
  · dsimp only
    split <;> rfl

theorem exec_belayBankFence_of_serving {b : Fin 8} {s : State} (h : bitOf s.bly.fenced b.val = false) :
    exec (.belayBankFence b) s = .next (
      let s := { s with bly := { s.bly with fenced := setBit s.bly.fenced b.val true } }
      let s := (byOrder (s.bly.entries.filter fun e => e.1 / 1024 == b.val)).foldl State.moveBelay s
      ((s.fire (1052 + b.val) .fault (Detail.ofUnit b.val)).settleLevel).retryLookups) := by
  change execBelayBankFence b s = _
  simp [execBelayBankFence, h]

theorem completes_belayBankFence {b : Fin 8} {s : State} (hb : bitOf s.bly.fenced b.val = false)
    (hl : s.bly.noLookup) :
    Completes (.belayBankFence b) s fun t =>
      t.bly.fenced = setBit s.bly.fenced b.val true ∧ t.fired (1052 + b.val) .fault := by
  refine ⟨_, exec_belayBankFence_of_serving hb, ?_⟩
  extract_lets _ u m
  have hm : m.bly.noLookup := foldl_invariant (P := fun t : State => t.bly.noLookup)
    (fun _ i h => State.noLookup_moveBelay h i) _ hl
  have hf : m.bly.fenced = u.bly.fenced := foldl_keeps (fun t : State => t.bly.fenced) State.fenced_moveBelay _ u
  rw [State.retryLookups_eq_self (by simpa using hm)]
  have hsrc : 1052 + b.val ≠ 1008 := by omega
  simp [hf, u, hsrc]

theorem completes_belayReissue {s : State} {b : Belay} {rest : List Belay} {k : Nat} (hr : s.bly.reissue = b :: rest)
    (hk : s.freshBelay = some k) (hb : b.st ≠ .lookup) (hl : s.bly.noLookup) :
    Completes .belayReissue s fun t => Sparse.find t.bly.entries k = some b ∧ t.bly.reissue = rest := by
  refine ⟨_, rfl, ?_⟩
  simp only [hr, hk]
  rw [State.retryLookups_eq_self (Bly.noLookup_put (b := { s.bly with reissue := rest }) hl hb)]
  simp

/-! ## Parity engines and victim banks (R16, R89) -/

theorem completes_parityEngineFail {e : Fin 2} {s : State} (h : bitOf s.stp.parityFailed e.val = false) :
    Completes (.parityEngineFail e) s fun t =>
      t.stp.parityFailed = setBit s.stp.parityFailed e.val true ∧ t.fired (1205 + e.val) .fault ∧
        t.stp.sets = s.stp.sets := by
  have hsrc : 1205 + e.val ≠ 1008 := by omega
  refine ⟨_, rfl, ?_⟩
  simp [h, hsrc]

theorem completes_vbfBankFence {b : Fin 8} {s : State} (h : bitOf s.vbf.fenced b.val = false) :
    Completes (.vbfBankFence b) s fun t =>
      t.vbf.fenced = setBit s.vbf.fenced b.val true ∧ t.fired (1196 + b.val) .fault ∧
        ∀ i v, Sparse.find s.vbf.entries i = some v → Sparse.find t.vbf.entries i =
          some (if i / 4096 = b.val ∧ v.st ≠ .issued then { v with rebuilding := true } else v) := by
  have hsrc : 1196 + b.val ≠ 1008 := by omega
  refine ⟨_, rfl, ?_⟩
  simp only [h, Bool.false_eq_true, ite_false, State.settleLevel_vbf, State.fire_vbf, State.fired_settleLevel _ _ _ hsrc,
    State.fired_fire, ite_true, true_and]
  intro i v hv
  rw [Sparse.find_map _ (fun e => by split_ifs <;> rfl), hv]
  simp only [Option.map_some]
  split_ifs <;> rfl

@[simp] theorem State.moveVictim_bly (s : State) (i : Nat) : (s.moveVictim i).bly = s.bly :=
  (State.moveVictim_within s i).same .bly (by decide)

theorem completes_vbfRebuildComplete {b : Fin 8} {s : State} (h : bitOf s.vbf.rebuilding b.val = true)
    (hl : s.bly.noLookup) :
    Completes (.vbfRebuildComplete b) s fun t =>
      bitOf t.vbf.rebuilding b.val = false ∧ t.fired 1204 .note := by
  refine ⟨_, rfl, ?_⟩
  simp only [h, Bool.not_true, Bool.false_eq_true, ite_false]
  rw [State.retryLookups_eq_self]
  · simp [bitOf_setBit_same]
  · rw [State.fire_bly]
    exact (foldl_keeps State.bly (fun t i => State.moveVictim_bly t i) _ s).symm ▸ hl

/-! ## The units of the cache (R84, R95) -/

/-- The cache but for its blocks, their mirror slots and their replacement bits. -/
def Cache.units (c : Cache) : Cache := { c with ways := [], plru := [], mirror := [] }

@[simp] theorem State.units_setWay (s : State) (k : Nat) (w : Way) : (s.setWay k w).cache.units = s.cache.units := rfl

@[simp] theorem State.units_dropCleanOfSet (s : State) (k : Nat) :
    (s.dropCleanOfSet k).cache.units = s.cache.units :=
  foldl_keeps (fun t : State => t.cache.units) (fun _ _ => State.units_setWay _ _ _) _ s

@[simp] theorem State.units_settleSlot (s : State) (m : Nat) : (s.settleSlot m).cache.units = s.cache.units := by
  unfold State.settleSlot
  dsimp only
  split <;> rfl

@[simp] theorem State.units_mirrorWay (s : State) (k : Nat) : (s.mirrorWay k).cache.units = s.cache.units := by
  unfold State.mirrorWay
  dsimp only
  split
  · rfl
  · rw [State.units_settleSlot, State.units_setWay]
    rfl

@[simp] theorem State.units_dropFenced (s : State) : s.dropFenced.cache.units = s.cache.units :=
  foldl_keeps (fun t : State => t.cache.units) (fun _ _ => State.units_setWay _ _ _) _ s

@[simp] theorem State.units_moveSlot (s : State) (m k : Nat) : (s.moveSlot m k).cache.units = s.cache.units := by
  unfold State.moveSlot
  split <;> rfl

@[simp] theorem State.units_remirror (s : State) : s.remirror.cache.units = s.cache.units := by
  refine foldl_keeps (fun t : State => t.cache.units) (fun t e => ?_) _ s
  dsimp only
  split
  · rfl
  · split
    · exact State.units_moveSlot _ _ _
    · rfl

@[simp] theorem State.units_loseCache (s : State) : s.loseCache.cache.units = s.cache.units := rfl

@[simp] theorem State.fireHbm_cache (s : State) (k pc : Nat) (v : Severity) (code value : Nat) :
    (s.fireHbm k pc v code value).cache = s.cache :=
  State.fire_cache _ _ _ _

@[simp] theorem State.fired_fireHbm (s : State) (k pc j : Nat) (v w : Severity) (code value : Nat) :
    (s.fireHbm k pc v code value).fired j w ↔ if j = 1132 + 32 * k + pc then v = w else s.fired j w :=
  State.fired_fire _ _ _ _ _ _

@[simp] theorem State.settleBudget_cache (s : State) : s.settleBudget.cache = s.cache :=
  (State.settleBudget_within s).same .cache (by decide)

@[simp] theorem State.settleBudget_trm (s : State) : s.settleBudget.trm = s.trm :=
  (State.settleBudget_within s).same .trm (by decide)

/-- Settling the budget fires no source but 1,010. -/
@[simp] theorem State.fired_settleBudget (s : State) (i : Nat) (v : Severity) (h : i ≠ 1010) :
    s.settleBudget.fired i v ↔ s.fired i v := by
  unfold State.settleBudget
  dsimp only
  split
  · rw [State.fired_fire, if_neg h]
    rfl
  · rfl

/-! ## HBM (R83 to R85) -/

/-- What a stack that fails leaves of the cache's units. -/
theorem State.units_stackFail {s : State} {k : Nat} (h : bitOf s.cache.stackOk k = true) :
    (s.stackFail k).cache.units = ({ s.cache with
      stackOk := setBit s.cache.stackOk k false, stackFailed := setBit s.cache.stackFailed k true } : Cache).units := by
  unfold State.stackFail
  simp only [h, Bool.not_true, Bool.false_eq_true, ite_false, State.settleLevel_cache, State.settleBudget_cache]
  split_ifs <;> simp

theorem State.due_stackFail {s : State} {k : Nat} (h : bitOf s.cache.stackOk k = true) :
    (s.stackFail k).trm.due = true := by
  simp [State.stackFail, h]

theorem State.fired_stackFail {s : State} {k : Nat} (h : bitOf s.cache.stackOk k = true) :
    (s.stackFail k).fired (1132 + 32 * k)
      (if setBit s.cache.stackOk k false = 0#2 then .critical else .fault) := by
  have h8 : 1132 + 32 * k ≠ 1008 := by omega
  have h10 : 1132 + 32 * k ≠ 1010 := by omega
  unfold State.stackFail
  simp only [h, Bool.not_true, Bool.false_eq_true, ite_false, State.fired_settleLevel _ _ _ h8,
    State.fired_settleBudget _ _ _ h10]
  split_ifs <;> exact (State.fired_fireHbm _ _ _ _ _ _ _ _).mpr (by simp)

theorem completes_hbmStackFail {k : Stack} {s : State} (h : bitOf s.cache.stackOk k.val = true) :
    Completes (.hbmStackFail k) s fun t =>
      t.cache.stackOk = setBit s.cache.stackOk k.val false ∧
        bitOf t.cache.stackFailed k.val = true ∧ t.trm.due = true ∧
        t.fired (1132 + 32 * k.val)
          (if setBit s.cache.stackOk k.val false = 0#2 then .critical else .fault) := by
  have hunits := State.units_stackFail h
  have hfailed : (s.stackFail k.val).cache.stackFailed = setBit s.cache.stackFailed k.val true :=
    (congrArg Cache.stackFailed hunits :)
  refine ⟨_, rfl, (congrArg Cache.stackOk hunits :), ?_, State.due_stackFail h, State.fired_stackFail h⟩
  rw [hfailed, bitOf_setBit_same _ _ k.isLt]

theorem completes_pseudoChannelFail {k : Stack} {pc : Fin 32} {s : State} (h : s.pcOk k.val pc.val = true) :
    Completes (.pseudoChannelFail k pc) s fun t =>
      (s.cache.stackOk = 0b11#2 → bitOf t.cache.stackOk k.val = false ∧
          bitOf t.cache.stackFailed k.val = true) ∧
        (s.cache.stackOk ≠ 0b11#2 → t.cache.stackOk = s.cache.stackOk ∧
          bitOf t.cache.pcFenced (k.val * 32 + pc.val) = true ∧
          t.fired (1132 + 32 * k.val + pc.val) .fault) := by
  have hok : bitOf s.cache.stackOk k.val = true := by
    simp only [State.pcOk, Bool.and_eq_true] at h
    exact h.1.1
  refine ⟨_, rfl, fun hboth => ?_, fun hone => ?_⟩
  · have hunits := State.units_stackFail hok
    have hstackOk : (s.stackFail k.val).cache.stackOk = setBit s.cache.stackOk k.val false :=
      (congrArg Cache.stackOk hunits :)
    have hfailed : (s.stackFail k.val).cache.stackFailed = setBit s.cache.stackFailed k.val true :=
      (congrArg Cache.stackFailed hunits :)
    simp only [State.pcFails, h, hboth, hstackOk, hfailed, bitOf_setBit_same _ _ k.isLt, Bool.not_true, Bool.false_eq_true,
      ite_false, ite_true, and_self]
  · have hunits : (s.fencePc k.val pc.val).cache.units =
        ({ s.cache with pcFenced := setBit s.cache.pcFenced (k.val * 32 + pc.val) true } : Cache).units := by
      simp [State.fencePc]
    have hstackOk : (s.fencePc k.val pc.val).cache.stackOk = s.cache.stackOk := (congrArg Cache.stackOk hunits :)
    have hfenced : (s.fencePc k.val pc.val).cache.pcFenced = setBit s.cache.pcFenced (k.val * 32 + pc.val) true :=
      (congrArg Cache.pcFenced hunits :)
    have hbit : k.val * 32 + pc.val < 64 := by omega
    simp only [State.pcFails, h, hone, Bool.not_true, Bool.false_eq_true, ite_false, hstackOk, hfenced, true_and,
      bitOf_setBit_same _ _ hbit]
    exact (State.fired_fireHbm _ _ _ _ _ _ _ _).mpr (by simp)

/-- What a change of one slice keeps of every slice. -/
theorem State.slice_modSlice_keeps {β : Type} (g : SliceState → β) {f : SliceState → SliceState} (hf : ∀ x, g (f x) = g x)
    (s : State) (k n : Nat) : g ((s.modSlice k f).slice n) = g (s.slice n) := by
  by_cases h : n = k
  · subst h
    rw [State.slice_modSlice, hf]
  · rw [State.slice_modSlice_other s f h]

/-- The slices are units of the cache. -/
theorem State.slice_eq_of_units {s t : State} (h : t.cache.units = s.cache.units) (n : Nat) : t.slice n = s.slice n :=
  congrArg (Sparse.get SliceState.idle · n) (congrArg Cache.slices h :)

@[simp] theorem State.poisonAdd_cache (s : State) (lsn : Nat) (lines : BitVec 4) (st : PoisonState) :
    (s.poisonAdd lsn lines st).cache = s.cache :=
  (State.poisonAdd_within s lsn lines st).same .cache (by decide)

@[simp] theorem State.bucketAddN_cache (s : State) (c unit k : Nat) : (s.bucketAddN c unit k).cache = s.cache :=
  (State.bucketAddN_within s c unit k).same .cache (by decide)

/-- Patrol's pointer and its count of corrected bytes. -/
def SliceState.patrol (x : SliceState) : Nat × Nat := (x.patrolPtr, x.corrected)

/-- Handling an uncorrectable error leaves the patrol of every slice (Table CACHE-6). -/
theorem State.patrol_cacheError (s : State) (key line : Nat) (err : CacheErr) (n : Nat) :
    ((s.cacheError key line err).slice n).patrol = (s.slice n).patrol := by
  unfold State.cacheError
  extract_lets ls w
  split
  · rfl
  · split_ifs
    · rfl
    · rw [State.slice_fire]
      apply State.slice_modSlice_keeps SliceState.patrol
      exact fun _ => rfl
    · extract_lets u v
      have hu : (u.slice n).patrol = (s.slice n).patrol := by
        apply State.slice_modSlice_keeps SliceState.patrol
        exact fun _ => rfl
      have hv : v.cache.units = u.cache.units := by
        simp only [v]
        split <;> simp
      rw [State.slice_fire, State.slice_eq_of_units hv, hu]

theorem completes_hbmPatrolStep {n : Slice} {ls : Nat} {s : State} (err : CacheErr) (corrected : Nat)
    (h : (s.slice n.val).serves = some ls) :
    Completes (.hbmPatrolStep n err corrected) s fun t =>
      (t.slice n.val).patrolPtr = ((s.slice n.val).patrolPtr + 1) % 10485760 ∧
        (t.slice n.val).corrected = min 0xFFFF ((s.slice n.val).corrected + corrected) := by
  refine ⟨_, rfl, ?_⟩
  simp only [h]
  set u := (s.modSlice n.val _).bucketAddN 4 _ corrected with hu
  have hpatrol : (u.slice n.val).patrol =
      (((s.slice n.val).patrolPtr + 1) % 10485760, min 0xFFFF ((s.slice n.val).corrected + corrected)) := by
    simp [hu, State.slice_eq_of_units (congrArg Cache.units (State.bucketAddN_cache _ _ _ _)), SliceState.patrol, satAdd]
  rw [← Prod.mk.injEq]
  split
  · exact (State.patrol_cacheError _ _ _ _ _).trans hpatrol
  · exact hpatrol

/-! ## Slices (R95 to R98) -/

@[simp] theorem State.units_dropCleanOfSlice (s : State) (ls : Nat) :
    (s.dropCleanOfSlice ls).cache.units = s.cache.units := by
  refine foldl_keeps (fun t : State => t.cache.units) (fun t e => ?_) _ s
  split
  · exact State.units_setWay _ _ _
  · rfl

/-- A bypass is a serving slice. -/
theorem State.serves_of_bypassHost {s : State} {ls n : Nat} (h : s.bypassHost ls = some n) :
    (s.slice n).serves ≠ none := by
  obtain ⟨i, -, hi⟩ := List.exists_of_findSome?_eq_some h
  split at hi
  · rename_i m hm
    split_ifs at hi
    cases hi
    have hserves := List.find?_some hm
    simp only [Bool.and_eq_true, beq_iff_eq] at hserves
    simp [hserves.1]
  · cases hi

/-- A bypass changes what no slice serves, and leaves a slice that serves nothing as it is. -/
theorem State.serves_assignBypass (s : State) (ls n : Nat) :
    ((s.assignBypass ls).slice n).serves = (s.slice n).serves := by
  unfold State.assignBypass
  split
  · rw [State.slice_eq_of_units (State.units_dropCleanOfSlice _ _)]
    apply State.slice_modSlice_keeps SliceState.serves
    exact fun _ => rfl
  · rfl

theorem State.slice_assignBypass_of_idle {s : State} {n : Nat} (ls : Nat) (h : (s.slice n).serves = none) :
    (s.assignBypass ls).slice n = s.slice n := by
  unfold State.assignBypass
  split
  · rename_i m hm
    have hne : n ≠ m := fun hnm => State.serves_of_bypassHost hm (hnm ▸ h)
    rw [State.slice_eq_of_units (State.units_dropCleanOfSlice _ _), State.slice_modSlice_other _ _ hne]
  · rfl

@[simp] theorem State.assignBypass_bly (s : State) (ls : Nat) : (s.assignBypass ls).bly = s.bly :=
  (State.assignBypass_within s ls).same .bly (by decide)

/-- The idle spare takes over the logical slice that fails (R95). -/
theorem State.coverSlice_of_spareReady {s : State} (ls : Nat) (h : s.spareReady = true) :
    s.coverSlice ls = (s.modSlice 16 fun x => { x with serves := some ls, role := .active }).dropTagSram ls :=
  if_pos h

theorem Bly.noLookup_mapVals {b : Bly} {f : Belay → Belay} (hf : ∀ x, (f x).st = x.st) (h : b.noLookup) :
    Bly.noLookup { b with entries := Sparse.mapVals b.entries f } := by
  intro e he
  obtain ⟨x, hx, rfl⟩ := List.mem_map.mp he
  simpa [hf] using h x hx

@[simp] theorem State.slice_setHandover (s : State) (h : Option Handover) (n : Nat) :
    ({ s with cache := { s.cache with handover := h } } : State).slice n = s.slice n := rfl

@[simp] theorem State.handover_modSlice (s : State) (n : Nat) (f : SliceState → SliceState) :
    (s.modSlice n f).cache.handover = s.cache.handover := rfl

/-- What a slice that fails leaves of the slices and of the waiting lookups, before its firing (R95, R96). -/
def State.sliceFailed (s : State) (n : Nat) : State :=
  let x := s.slice n
  let s := s.modSlice n fun x => { x with role := .failed, serves := none, bypassFor := none }
  let s := match s.cache.handover with
    | some h => if h.out = n ∨ h.inc = n then { s with cache := { s.cache with handover := none } } else s
    | none => s
  let mine (b : Belay) : Bool :=
    x.serves == some (sliceHash (lsnOf b.req.dpa)) && b.st != .respond && b.st != .fill
  let flag (b : Belay) : Belay := if mine b then { b with window := true } else b
  let s := { s with bly := { s.bly with entries := Sparse.mapVals s.bly.entries flag } }
  let s := match x.serves with
    | some ls => s.coverSlice ls
    | none => s
  match x.bypassFor with
  | some ls => s.assignBypass ls
  | none => s

theorem State.sliceFails_of_serving {s : State} {n : Nat} (h : (s.slice n).role ≠ .failed) :
    s.sliceFails n =
      (((s.sliceFailed n).fire (1064 + 4 * n + 1) .fault (Detail.ofUnit n)).settleLevel).retryLookups := by
  unfold State.sliceFails State.sliceFailed
  exact if_neg h

@[simp] theorem State.slice_dropTagSram (s : State) (ls n : Nat) : (s.dropTagSram ls).slice n = s.slice n := rfl

/-- The spare serves, the failed slice nothing, and no request has come to wait. -/
theorem State.sliceFailed_of_spareReady {s : State} {n ls : Nat} (hserves : (s.slice n).serves = some ls) (hn : n ≠ 16)
    (hspare : s.spareReady = true) (hl : s.bly.noLookup) :
    ((s.sliceFailed n).slice n).role = .failed ∧ ((s.sliceFailed n).slice n).serves = none ∧
      ((s.sliceFailed n).slice 16).serves = some ls ∧ (s.sliceFailed n).bly.noLookup := by
  obtain ⟨hidle, hnone⟩ : ((s.slice 16).role = .idle ∧ (s.slice 16).serves = none) ∧ s.cache.handover = none := by
    simpa [State.spareReady] using hspare
  unfold State.sliceFailed
  extract_lets x u _ v mine flag _ w y
  have hv : v = u := by simp [v, u, hnone]
  have hw : ∀ k, w.slice k = u.slice k := fun k => hv ▸ rfl
  have hready : w.spareReady = true := by
    have hhandover : w.cache.handover = none := by simpa [w, hv, u] using hnone
    simp [State.spareReady, hhandover, hw, u, State.slice_modSlice_other _ _ hn.symm, hidle]
  have hy : y = (w.modSlice 16 fun x => { x with serves := some ls, role := .active }).dropTagSram ls := by
    simp only [y, x, hserves]
    exact State.coverSlice_of_spareReady ls hready
  have hyn : y.slice n = u.slice n := by
    rw [hy, State.slice_dropTagSram, State.slice_modSlice_other _ _ hn, hw]
  have hy16 : (y.slice 16).serves = some ls := by simp [hy]
  have hybly : y.bly.noLookup := by
    have : w.bly.noLookup := Bly.noLookup_mapVals (b := v.bly) (fun b => by simp only [flag]; split <;> rfl)
      (by rw [hv]; exact hl)
    rw [hy]
    exact this
  have hserves : (y.slice n).serves = none := by simp [hyn, u]
  have hrole : (y.slice n).role = .failed := by simp [hyn, u]
  split
  · exact ⟨by rw [State.slice_assignBypass_of_idle _ hserves, hrole], by rw [State.serves_assignBypass, hserves],
      by rw [State.serves_assignBypass, hy16], by rwa [State.assignBypass_bly]⟩
  · exact ⟨hrole, hserves, hy16, hybly⟩

theorem completes_sliceFail {n : Slice} {ls : Nat} {s : State} (hrole : (s.slice n.val).role ≠ .failed)
    (hserves : (s.slice n.val).serves = some ls) (hn : n.val ≠ 16) (hspare : s.spareReady = true)
    (hl : s.bly.noLookup) :
    Completes (.sliceFail n) s fun t =>
      (t.slice n.val).role = .failed ∧ (t.slice n.val).serves = none ∧
        (t.slice 16).serves = some ls ∧ t.fired (1064 + 4 * n.val + 1) .fault := by
  obtain ⟨hfailed, hnone, h16, hbly⟩ := State.sliceFailed_of_spareReady hserves hn hspare hl
  have hsrc : 1064 + 4 * n.val + 1 ≠ 1008 := by omega
  refine ⟨_, rfl, ?_⟩
  rw [State.sliceFails_of_serving hrole, State.retryLookups_eq_self (by simpa using hbly)]
  simp [hfailed, hnone, h16, hsrc]

theorem completes_handoverCutover {out inc : Slice} {ls : Nat} {s : State} (hne : out ≠ inc)
    (hserves : (s.slice out.val).serves = some ls) (hactive : (s.slice out.val).role = .active)
    (hnone : s.cache.handover = none) (hfree : (s.slice inc.val).serves = none)
    (hidle : (s.slice inc.val).role = .idle) :
    Completes (.handoverCutover out inc) s fun t =>
      (t.slice out.val).serves = none ∧ (t.slice inc.val).serves = some ls ∧
        t.cache.handover = some ⟨out.val, inc.val, ls, s.clock⟩ ∧ t.cache.ways = s.cache.ways := by
  have hval : out.val ≠ inc.val := fun h => hne (Fin.ext h)
  have hexec : exec (.handoverCutover out inc) s = .next (
      let s := s.modSlice out.val fun x => { x with serves := none }
      let s := s.modSlice inc.val fun x => { x with serves := some ls, role := .active }
      { s with cache := { s.cache with handover := some ⟨out.val, inc.val, ls, s.clock⟩ } }) := by
    change execHandoverCutover out inc s = _
    simp only [execHandoverCutover, Instr.wf, bne_iff_ne.mpr hne, hserves, hactive, hnone, hfree, hidle]
    rfl
  exact ⟨_, hexec, by simp [State.slice_modSlice_other _ _ hval], by simp, rfl, rfl⟩

theorem completes_handoverEnd {h : Handover} {s : State} (hh : s.cache.handover = some h)
    (hheld : s.handoverHeld h = false) :
    Completes .handoverEnd s fun t => t.cache.handover = none ∧ (t.slice h.out).role = .idle := by
  have hexec : exec .handoverEnd s = execHandoverEnd s := rfl
  simp [Completes, hexec, execHandoverEnd, hh, hheld]

theorem completes_handoverAbandon {h : Handover} {s : State} (hh : s.cache.handover = some h)
    (hheld : s.handoverHeld h = true) (hlate : s.elapsed h.start (us 100) = true) (hne : h.out ≠ h.inc) :
    Completes .handoverAbandon s fun t =>
      t.cache.handover = none ∧ (t.slice h.out).serves = some h.lslice ∧
        (t.slice h.inc).serves = none ∧ t.fired (1064 + 4 * h.out + 2) .note := by
  have hsrc : 1064 + 4 * h.out + 2 ≠ 1008 := by omega
  have hexec : exec .handoverAbandon s = execHandoverAbandon s := rfl
  simp [Completes, hexec, execHandoverAbandon, hh, hheld, hlate, hsrc, State.slice_modSlice_other _ _ hne.symm]

/-- Settles O13: one lemma for each unit that fails. -/
theorem fencesAndFailuresKeepWhatIsInFlight : Obligations.FencesAndFailuresKeepWhatIsInFlight :=
  ⟨⟨fun _ _ => completes_belayBankFence, fun _ _ _ _ => completes_belayReissue, fun _ _ => completes_parityEngineFail,
      fun _ _ => completes_vbfBankFence, fun _ _ => completes_vbfRebuildComplete⟩,
    ⟨fun _ err corrected _ _ => completes_hbmPatrolStep err corrected, fun _ _ _ => completes_pseudoChannelFail,
      fun _ _ => completes_hbmStackFail⟩,
    ⟨fun _ _ _ => completes_sliceFail, fun _ _ _ _ => completes_handoverCutover,
      fun _ _ hh => ⟨completes_handoverEnd hh, completes_handoverAbandon hh⟩⟩⟩

end Sys2Proof.Machine


/-! SUPPORT. Cache maintenance, write-back and its cancellation (R90 to R94, R107, R108): what one block operation does
to the ways, and what a run of them over the blocks of a share leaves. -/

namespace Sys2Proof.Machine

open Sys2Proof

/-! ## One way -/

theorem allInvalid_eq_false_of_anyDirty {l : Four LineState} (h : anyDirty l = true) : allInvalid l = false := by
  simp only [anyDirty, Four.toList, List.any_cons, List.any_nil, Bool.or_false, Bool.or_eq_true] at h
  simp only [allInvalid, Four.toList, List.all_cons, List.all_nil, Bool.and_true, Bool.and_eq_false_iff, beq_eq_false_iff_ne]
  obtain h | h | h | h := h
  · exact .inl fun e => by simp [e, LineState.dirty] at h
  · exact .inr (.inl fun e => by simp [e, LineState.dirty] at h)
  · exact .inr (.inr (.inl fun e => by simp [e, LineState.dirty] at h))
  · exact .inr (.inr (.inr fun e => by simp [e, LineState.dirty] at h))

theorem State.way_of_find {s : State} {k : Nat} {w : Way} (h : Sparse.find s.cache.ways k = some w) : s.way k = w := by
  simp [State.way, h]

theorem State.way_of_absent {s : State} {k : Nat} (h : Sparse.find s.cache.ways k = none) : s.way k = Way.empty := by
  simp [State.way, h]

theorem State.find_ways_setWay_other (s : State) {k j : Nat} (w : Way) (h : j ≠ k) :
    Sparse.find (s.setWay k w).cache.ways j = Sparse.find s.cache.ways j := by
  simp only [State.setWay]
  split_ifs <;> simp [Sparse.find_erase_other _ h, Sparse.find_put_other _ _ h]

@[simp] theorem State.find_ways_setWay_empty (s : State) (k : Nat) :
    Sparse.find (s.setWay k Way.empty).cache.ways k = none := by
  have hfenced : Way.empty.fencedLines = Way.empty := rfl
  have hinvalid : (allInvalid Way.empty.lines && !Way.empty.held) = true := rfl
  simp [State.setWay, hfenced, hinvalid]

/-- A dirty way that its slice serves stands as it is written. -/
theorem State.find_ways_setWay_of_dirty {s : State} {k : Nat} {w : Way}
    (hs : s.wayServes (sliceOfKey k) (k % 16) = true) (hd : anyDirty w.lines = true) :
    Sparse.find (s.setWay k w).cache.ways k = some w := by
  simp [State.setWay, hs, allInvalid_eq_false_of_anyDirty hd]

/-- Whether a way serves depends on the stacks, the fenced pseudo-channels and the unit under test alone. -/
theorem State.wayServes_congr {s t : State} (hok : t.cache.stackOk = s.cache.stackOk)
    (hpc : t.cache.pcFenced = s.cache.pcFenced) (htrm : t.trm = s.trm) (ls w : Nat) :
    t.wayServes ls w = s.wayServes ls w := by
  simp [State.wayServes, State.pcOk, State.underTest, hok, hpc, htrm]

/-! ## A write-back (R90, R107) -/

/-- The victim entry that a write-back of a block makes. -/
def State.copied (s : State) (key : Nat) (maint : Option Nat) : Victim :=
  let w := s.way key
  { st := .held, lsn := w.lsn key, lines := w.lines, poison := w.poison, mask := w.mask
    data := w.data, mslot := w.mslot, tracker := none, trackPoison := 0#4, set := none
    order := s.vbf.nextOrder, since := s.clock, merging := none
    maint := maint, sweep := false, rebuilding := false }

theorem State.victimise_copy {s : State} {key i : Nat} (maint : Option Nat) (flush : Bool)
    (hi : s.freshVictim = some i) :
    s.victimise key true maint flush = ({ s with vbf := { s.vbf with
        entries := Sparse.put s.vbf.entries i (s.copied key maint), nextOrder := s.vbf.nextOrder + 1 } } : State).setWay
      key { s.way key with flushing := some i, written := 0#4, flush := flush } := by
  simp [State.victimise, hi, State.copied]

theorem State.vbf_victimise {s : State} {key i : Nat} (maint : Option Nat) (flush : Bool)
    (hi : s.freshVictim = some i) :
    (s.victimise key true maint flush).vbf = { s.vbf with
      entries := Sparse.put s.vbf.entries i (s.copied key maint), nextOrder := s.vbf.nextOrder + 1 } := by
  rw [State.victimise_copy maint flush hi]
  rfl

/-- A write-back leaves every other way as it is. -/
theorem State.find_ways_victimise_other (s : State) {key j : Nat} (maint : Option Nat) (flush : Bool) (h : j ≠ key) :
    Sparse.find (s.victimise key true maint flush).cache.ways j = Sparse.find s.cache.ways j := by
  cases hi : s.freshVictim with
  | none => simp [State.victimise, hi]
  | some i =>
    rw [State.victimise_copy maint flush hi, State.find_ways_setWay_other _ _ h]

/-- A write-back leaves the way valid, and its entry in flight. -/
theorem State.find_ways_victimise_same {s : State} {key i : Nat} (maint : Option Nat) (flush : Bool)
    (hi : s.freshVictim = some i) (hs : s.wayServes (sliceOfKey key) (key % 16) = true)
    (hd : anyDirty (s.way key).lines = true) :
    Sparse.find (s.victimise key true maint flush).cache.ways key =
      some { s.way key with flushing := some i, written := 0#4, flush := flush } := by
  rw [State.victimise_copy maint flush hi]
  exact State.find_ways_setWay_of_dirty hs hd

theorem State.units_victimise (s : State) (key : Nat) (maint : Option Nat) (flush : Bool) :
    (s.victimise key true maint flush).cache.units = s.cache.units := by
  cases hi : s.freshVictim with
  | none => simp [State.victimise, hi]
  | some i =>
    rw [State.victimise_copy maint flush hi, State.units_setWay]

theorem completes_writeBackStart {lsn : BitVec 40} {key i : Nat} {s : State} (hkey : s.findWay lsn.toNat = some key)
    (hd : anyDirty (s.way key).lines = true) (hf : (s.way key).flushing = none) (hdump : s.glb.dumping = false)
    (hi : s.freshVictim = some i) (hs : s.wayServes (sliceOfKey key) (key % 16) = true) :
    Completes (.writeBackStart lsn) s fun t =>
      (t.way key).lines = (s.way key).lines ∧ (t.way key).flushing = some i ∧
        ∃ v, Sparse.find t.vbf.entries i = some v ∧ v.st = .held ∧ v.lsn = (s.way key).lsn key ∧
          v.data = (s.way key).data ∧ v.mslot = (s.way key).mslot := by
  have hexec : exec (.writeBackStart lsn) s = .next (s.victimise key true none false) := by
    change execWriteBackStart lsn s = _
    simp [execWriteBackStart, hkey, hd, hf, hdump]
  have hway := State.way_of_find (State.find_ways_victimise_same none false hi hs hd)
  refine ⟨_, hexec, by rw [hway], by rw [hway], s.copied key none, ?_, rfl, rfl, rfl, rfl⟩
  rw [State.vbf_victimise none false hi]
  exact Sparse.find_put_same _ _ _

/-! ## One block operation (Table CACHE-9) -/

/-- The operation in progress of a slice. -/
def SliceState.maint (x : SliceState) : Bool × BitVec 3 := (x.maintBusy, x.maintOp)

/-- What one block operation can do: note something of the slice, invalidate a block that is not dirty, nothing, or
write a dirty block back. -/
theorem State.maintBlock_cases (s : State) (n op key : Nat) :
    (∃ f, s.maintBlock n op key = s.modSlice n f ∧ ∀ x, (f x).maint = x.maint) ∨
      (op ≠ 1 ∧ s.maintBlock n op key = s.setWay key Way.empty) ∨ s.maintBlock n op key = s ∨
      ∃ i, s.freshVictim = some i ∧ anyDirty (s.way key).lines = true ∧
        s.maintBlock n op key = s.victimise key true (some n) (op == 2) := by
  unfold State.maintBlock
  dsimp only
  split_ifs with hheld hop hd hd' hop' hwait
  · exact .inl ⟨_, rfl, fun _ => rfl⟩
  · exact .inl ⟨_, rfl, fun _ => rfl⟩
  · exact .inr (.inl ⟨by omega, rfl⟩)
  · exact .inr (.inl ⟨by omega, rfl⟩)
  · exact .inr (.inr (.inl rfl))
  · exact .inl ⟨_, rfl, fun _ => rfl⟩
  · obtain ⟨-, hfresh⟩ : s.matchVictim ((s.way key).lsn key) = none ∧ s.freshVictim ≠ none := by simpa using hwait
    obtain ⟨i, hi⟩ := Option.ne_none_iff_exists'.mp hfresh
    exact .inr (.inr (.inr ⟨i, hi, by simpa using hd', rfl⟩))

theorem State.maint_maintBlock (s : State) (n op key j : Nat) :
    ((s.maintBlock n op key).slice j).maint = (s.slice j).maint := by
  obtain ⟨f, h, hf⟩ | ⟨-, h⟩ | h | ⟨_, -, -, h⟩ := s.maintBlock_cases n op key <;> rw [h]
  · exact State.slice_modSlice_keeps SliceState.maint hf s n j
  · rw [State.slice_eq_of_units (State.units_setWay _ _ _)]
  · rw [State.slice_eq_of_units (State.units_victimise _ _ _ _)]

/-- The units that decide which ways serve stay. -/
theorem State.wayServes_maintBlock (s : State) (n op key ls w : Nat) :
    (s.maintBlock n op key).wayServes ls w = s.wayServes ls w := by
  have htrm : (s.maintBlock n op key).trm = s.trm := (State.maintBlock_within s n op key).same .trm (by decide)
  have hcache : ((s.maintBlock n op key).cache.stackOk, (s.maintBlock n op key).cache.pcFenced) =
      (s.cache.stackOk, s.cache.pcFenced) := by
    obtain ⟨f, h, -⟩ | ⟨-, h⟩ | h | ⟨_, -, -, h⟩ := s.maintBlock_cases n op key <;> rw [h]
    · rfl
    · rfl
    · have hunits := s.units_victimise key (some n) (op == 2)
      exact Prod.ext (congrArg Cache.stackOk hunits :) (congrArg Cache.pcFenced hunits :)
  exact State.wayServes_congr (congrArg Prod.fst hcache :) (congrArg Prod.snd hcache :) htrm ls w

theorem State.find_ways_maintBlock_other (s : State) (n op : Nat) {key j : Nat} (hj : j ≠ key) :
    Sparse.find (s.maintBlock n op key).cache.ways j = Sparse.find s.cache.ways j := by
  obtain ⟨f, h, -⟩ | ⟨-, h⟩ | h | ⟨_, -, -, h⟩ := s.maintBlock_cases n op key <;> rw [h]
  · rfl
  · exact State.find_ways_setWay_other s _ hj
  · exact State.find_ways_victimise_other s _ _ hj

/-- FLUSH and DROP invalidate a block that is not dirty. -/
theorem State.find_ways_maintBlock_of_clean {s : State} {n op key : Nat} (hop : op = 2 ∨ op = 3)
    (hheld : (s.way key).held = false) (hd : anyDirty (s.way key).lines = false) :
    Sparse.find (s.maintBlock n op key).cache.ways key = none := by
  obtain rfl | rfl := hop <;> simp [State.maintBlock, hheld, hd]

/-- DROP leaves a dirty block as it is. -/
theorem State.find_ways_maintBlock_of_dirty {s : State} {n key : Nat} (hheld : (s.way key).held = false)
    (hd : anyDirty (s.way key).lines = true) (j : Nat) :
    Sparse.find (s.maintBlock n 3 key).cache.ways j = Sparse.find s.cache.ways j := by
  simp only [State.maintBlock, hheld, hd, Bool.false_eq_true, ite_false, ite_true]
  rfl

/-- CLEAN leaves the lines and the data of every way that its slice serves. -/
theorem State.lines_maintBlock_clean {s : State} (n key : Nat) {j : Nat}
    (hs : s.wayServes (sliceOfKey j) (j % 16) = true) :
    ((s.maintBlock n 1 key).way j).lines = (s.way j).lines ∧ ((s.maintBlock n 1 key).way j).data = (s.way j).data := by
  obtain ⟨f, h, -⟩ | ⟨hop, -⟩ | h | ⟨i, hi, hd, h⟩ := s.maintBlock_cases n 1 key
  · rw [h]
    exact ⟨rfl, rfl⟩
  · exact absurd rfl hop
  · rw [h]
    exact ⟨rfl, rfl⟩
  · by_cases hj : j = key
    · subst hj
      rw [h, State.way_of_find (State.find_ways_victimise_same (some n) _ hi hs hd)]
      exact ⟨rfl, rfl⟩
    · have hway : (s.maintBlock n 1 key).way j = s.way j :=
        congrArg (Option.getD · Way.empty) (s.find_ways_maintBlock_other n 1 hj)
      rw [hway]
      exact ⟨rfl, rfl⟩

/-! ## An operation on a share (R92 to R94) -/

/-- One block operation after the other. -/
def State.maintBlocks (s : State) (n op : Nat) (keys : List Nat) : State :=
  keys.foldl (fun s k => s.maintBlock n op k) s

/-- FLUSH and DROP of a block that is not dirty leave it absent, whatever other blocks they take. -/
theorem State.find_ways_maintBlocks_of_clean {n op key : Nat} (hop : op = 2 ∨ op = 3) (keys : List Nat) {s : State}
    (hheld : (s.way key).held = false) (hd : anyDirty (s.way key).lines = false)
    (h : key ∈ keys ∨ Sparse.find s.cache.ways key = none) :
    Sparse.find (s.maintBlocks n op keys).cache.ways key = none := by
  induction keys generalizing s with
  | nil => simpa [State.maintBlocks] using h
  | cons k l ih =>
    by_cases hk : key = k
    · subst hk
      have habsent := State.find_ways_maintBlock_of_clean (n := n) hop hheld hd
      refine ih ?_ ?_ (.inr habsent) <;> rw [State.way_of_absent habsent] <;> rfl
    · have hother := s.find_ways_maintBlock_other n op hk
      have hway : (s.maintBlock n op k).way key = s.way key := congrArg (Option.getD · Way.empty) hother
      refine ih (hway ▸ hheld) (hway ▸ hd) ?_
      rw [hother]
      simpa [hk] using h

/-- DROP leaves a dirty block as it is, whatever other blocks it takes. -/
theorem State.find_ways_maintBlocks_of_dirty {n key : Nat} {w : Way} (hheld : w.held = false)
    (hd : anyDirty w.lines = true) (keys : List Nat) {s : State} (hw : Sparse.find s.cache.ways key = some w) :
    Sparse.find (s.maintBlocks n 3 keys).cache.ways key = some w := by
  refine foldl_invariant (P := fun t : State => Sparse.find t.cache.ways key = some w) (fun t k ht => ?_) keys hw
  by_cases hk : key = k
  · subst hk
    rw [State.find_ways_maintBlock_of_dirty (by rwa [State.way_of_find ht]) (by rwa [State.way_of_find ht]), ht]
  · rw [State.find_ways_maintBlock_other _ _ _ hk, ht]

theorem State.lines_maintBlocks_clean (n : Nat) (keys : List Nat) {s : State} {j : Nat}
    (hs : s.wayServes (sliceOfKey j) (j % 16) = true) :
    ((s.maintBlocks n 1 keys).way j).lines = (s.way j).lines ∧ ((s.maintBlocks n 1 keys).way j).data = (s.way j).data := by
  induction keys generalizing s with
  | nil => exact ⟨rfl, rfl⟩
  | cons k l ih =>
    obtain ⟨hlines, hdata⟩ := State.lines_maintBlock_clean n k hs
    obtain ⟨hlines', hdata'⟩ := ih ((s.wayServes_maintBlock n 1 k _ _).trans hs)
    exact ⟨hlines'.trans hlines, hdata'.trans hdata⟩

theorem State.maint_maintBlocks (s : State) (n op : Nat) (keys : List Nat) (j : Nat) :
    ((s.maintBlocks n op keys).slice j).maint = (s.slice j).maint :=
  foldl_keeps (fun t : State => (t.slice j).maint) (fun t k => t.maint_maintBlock n op k j) keys s

/-- The slice as an operation with code `op` makes it busy. -/
def State.maintStarted (s : State) (n op : Nat) : State :=
  s.modSlice n fun x => { x with maintOp := BitVec.ofNat 3 op, maintBusy := true, maintSkip := 0, maintWaits := [] }

theorem State.maintGo_of_busy {s : State} {n : Nat} (op : Nat) (h : (s.slice n).maintBusy = true) :
    s.maintGo n op = s.modSlice n fun x => { x with maintError := true } := by
  simp [State.maintGo, h]

section
variable {s : State} {n : Nat} (hidle : (s.slice n).maintBusy = false)
  (hrange : (s.slice n).maintAll = true ∨
    (s.slice n).maintStart.toNat + (s.slice n).maintCount.toNat ≤ s.capacity / 256)
include hidle hrange

theorem State.maintGo_of_idle (op : Nat) : s.maintGo n op = (s.maintStarted n op).maintApply n op := by
  have hok : ((s.slice n).maintBusy || (!(s.slice n).maintAll &&
      decide (s.capacity / 256 < (s.slice n).maintStart.toNat + (s.slice n).maintCount.toNat))) = false := by
    obtain h | h := hrange
    · simp [hidle, h]
    · simp [hidle, h]
  simp [State.maintGo, hok, State.maintStarted]

theorem State.maintGo_blocks {op : Nat} (hop : op ≠ 4) :
    s.maintGo n op = (s.maintStarted n op).maintBlocks n op ((s.maintStarted n op).maintKeys n) := by
  rw [State.maintGo_of_idle hidle hrange]
  exact if_neg hop

/-- PRELOAD changes nothing of the cache but the slice's registers (R169). -/
theorem State.cache_maintGo_preload : (s.maintGo n 4).cache = (s.maintStarted n 4).cache := by
  rw [State.maintGo_of_idle hidle hrange]
  exact foldl_keeps State.cache (fun t l => (State.preload_within t n l).same .cache (by decide)) _ _

/-- An operation with a code makes the slice busy with that code. -/
theorem State.maint_maintGo (op : Nat) : ((s.maintGo n op).slice n).maint = (true, BitVec.ofNat 3 op) := by
  have hstarted : ((s.maintStarted n op).slice n).maint = (true, BitVec.ofNat 3 op) := by
    simp [State.maintStarted, SliceState.maint]
  by_cases hop : op = 4
  · subst hop
    rw [State.slice_eq_of_units (congrArg Cache.units (State.cache_maintGo_preload hidle hrange)), hstarted]
  · rw [State.maintGo_blocks hidle hrange hop, State.maint_maintBlocks, hstarted]

omit hidle hrange in
/-- The blocks that an operation takes are those that its registers cover. -/
theorem State.mem_maintKeys_started {key : Nat} {w : Way} (op : Nat) (hw : Sparse.find s.cache.ways key = some w)
    (hc : s.maintCovers n (w.lsn key) = true) : key ∈ (s.maintStarted n op).maintKeys n := by
  have hcovers : (s.maintStarted n op).maintCovers n (w.lsn key) = true := by
    simpa [State.maintCovers, State.maintStarted] using hc
  exact List.mem_map.mpr ⟨(key, w), List.mem_filter.mpr ⟨Sparse.mem_of_find hw, hcovers⟩, rfl⟩

theorem completes_maintClean {c : Slice} (hc : c.val = n) : Completes (.maintClean c) s fun t =>
    (t.slice n).maintBusy = true ∧ (t.slice n).maintOp = 1#3 ∧
      ∀ key, s.wayServes (sliceOfKey key) (key % 16) = true →
        (t.way key).lines = (s.way key).lines ∧ (t.way key).data = (s.way key).data := by
  subst hc
  obtain ⟨hbusy, hop⟩ := Prod.mk.inj (State.maint_maintGo hidle hrange 1)
  refine ⟨_, rfl, hbusy, hop, fun key hs => ?_⟩
  rw [State.maintGo_blocks hidle hrange (by decide)]
  exact State.lines_maintBlocks_clean (s := s.maintStarted c.val 1) _ _ hs

theorem completes_maintFlush {c : Slice} (hc : c.val = n) : Completes (.maintFlush c) s fun t =>
    (t.slice n).maintBusy = true ∧ (t.slice n).maintOp = 2#3 ∧
      ∀ key w, Sparse.find s.cache.ways key = some w → s.maintCovers n (w.lsn key) = true →
        w.held = false → anyDirty w.lines = false → Sparse.find t.cache.ways key = none := by
  subst hc
  obtain ⟨hbusy, hop⟩ := Prod.mk.inj (State.maint_maintGo hidle hrange 2)
  refine ⟨_, rfl, hbusy, hop, fun key w hw hcov hheld hd => ?_⟩
  rw [State.maintGo_blocks hidle hrange (by decide)]
  have hway : (s.maintStarted c.val 2).way key = w := State.way_of_find hw
  exact State.find_ways_maintBlocks_of_clean (.inl rfl) _ (hway ▸ hheld) (hway ▸ hd)
    (.inl (State.mem_maintKeys_started 2 hw hcov))

theorem completes_maintDrop {c : Slice} (hc : c.val = n) : Completes (.maintDrop c) s fun t =>
    (t.slice n).maintBusy = true ∧ (t.slice n).maintOp = 3#3 ∧
      ∀ key w, Sparse.find s.cache.ways key = some w → s.maintCovers n (w.lsn key) = true →
        w.held = false → Sparse.find t.cache.ways key = if anyDirty w.lines then some w else none := by
  subst hc
  obtain ⟨hbusy, hop⟩ := Prod.mk.inj (State.maint_maintGo hidle hrange 3)
  refine ⟨_, rfl, hbusy, hop, fun key w hw hcov hheld => ?_⟩
  rw [State.maintGo_blocks hidle hrange (by decide)]
  have hway : (s.maintStarted c.val 3).way key = w := State.way_of_find hw
  split_ifs with hd
  · exact State.find_ways_maintBlocks_of_dirty hheld hd _ hw
  · exact State.find_ways_maintBlocks_of_clean (.inr rfl) _ (hway ▸ hheld) (by simpa [hway] using hd)
      (.inl (State.mem_maintKeys_started 3 hw hcov))

theorem completes_maintPreload {c : Slice} (hc : c.val = n) : Completes (.maintPreload c) s fun t =>
    (t.slice n).maintBusy = true ∧ (t.slice n).maintOp = 4#3 ∧ t.cache.ways = s.cache.ways := by
  subst hc
  obtain ⟨hbusy, hop⟩ := Prod.mk.inj (State.maint_maintGo hidle hrange 4)
  exact ⟨_, rfl, hbusy, hop, (congrArg Cache.ways (State.cache_maintGo_preload hidle hrange) :)⟩

end

theorem completes_maint_of_busy {n : Slice} {s : State} (h : (s.slice n.val).maintBusy = true) :
    ∀ c ∈ [Instr.maintClean n, .maintFlush n, .maintDrop n, .maintPreload n], Completes c s fun t =>
      (t.slice n.val).maintError = true ∧ t.cache.ways = s.cache.ways ∧ t.vbf = s.vbf ∧ t.stp = s.stp := by
  have hgo : ∀ op, (((s.maintGo n.val op).slice n.val).maintError = true ∧
      (s.maintGo n.val op).cache.ways = s.cache.ways ∧ (s.maintGo n.val op).vbf = s.vbf ∧
        (s.maintGo n.val op).stp = s.stp) := by
    intro op
    rw [State.maintGo_of_busy op h]
    exact ⟨by simp, rfl, rfl, rfl⟩
  simp only [List.forall_mem_cons, List.not_mem_nil, false_implies, implies_true, and_true]
  exact ⟨⟨_, rfl, hgo 1⟩, ⟨_, rfl, hgo 2⟩, ⟨_, rfl, hgo 3⟩, ⟨_, rfl, hgo 4⟩⟩

theorem completes_maintDone {n : Slice} {s : State} (hbusy : (s.slice n.val).maintBusy = true)
    (hwaits : (s.slice n.val).maintWaits = []) (hpend : s.maintPending n.val = false) :
    Completes (.maintDone n) s fun t =>
      (t.slice n.val).maintBusy = false ∧ (t.slice n.val).maintDone = true := by
  have hpend' : (s.modSlice n.val fun x => { x with maintWaits := [] }).maintPending n.val = false := by
    simpa [State.maintPending, hwaits] using hpend
  refine ⟨_, rfl, ?_⟩
  simp [hbusy, State.maintRetry, hwaits, hpend']

/-! ## Gathering a row (R107, R108) -/

theorem Sparse.find_of_freshFrom {α : Type} {m : Sparse α} {fuel k i : Nat} (h : Sparse.freshFrom m fuel k = some i) :
    Sparse.find m i = none := by
  induction fuel generalizing k with
  | zero => cases h
  | succ n ih =>
    unfold Sparse.freshFrom at h
    split_ifs at h with hnone
    · cases h
      simpa using hnone
    · exact ih h

/-- A fresh entry is FREE. -/
theorem State.find_of_freshVictim {s : State} {i : Nat} (h : s.freshVictim = some i) :
    Sparse.find s.vbf.entries i = none := by
  obtain ⟨b, -, hb⟩ := List.exists_of_findSome?_eq_some h
  split_ifs at hb
  split at hb
  · rename_i hk
    split_ifs at hb
    cases hb
    exact Sparse.find_of_freshFrom hk
  · cases hb

/-- What a merge read that starts changes of an entry. -/
theorem Sparse.mem_adjust {α : Type} {m : Sparse α} {k : Nat} {f : α → α} {e : Nat × α}
    (h : e ∈ Sparse.adjust m k f) : e ∈ m ∨ ∃ v, Sparse.find m k = some v ∧ e = (k, f v) := by
  unfold Sparse.adjust at h
  split at h
  · rename_i v hv
    obtain rfl | he := Sparse.mem_put h
    · exact .inr ⟨v, hv, rfl⟩
    · exact .inl he
  · exact .inl h

/-- A merge read changes its entry's merging read alone. -/
theorem State.startMerge_vbf (s : State) (i : Nat) :
    (s.startMerge i).vbf = s.vbf ∨
      (s.startMerge i).vbf = (s.modVictim i fun v => { v with merging := some s.stp.nextRead }).vbf := by
  unfold State.startMerge
  split
  · exact .inl rfl
  · split_ifs
    · exact .inl rfl
    · exact .inr rfl

/-- The victim entry `idx` of a block waits in its row to be gathered, and no older entry holds the block. -/
structure State.Gathering (v : Victim) (idx : Nat) (s : State) : Prop where
  entry : ∃ w, Sparse.find s.vbf.entries idx = some w ∧ w.lsn = v.lsn ∧ w.st = .held ∧ w.set = none ∧
    w.rebuilding = false ∧ w.order = v.order
  oldest : ∀ e ∈ s.vbf.entries, e.2.lsn = v.lsn → v.order ≤ e.2.order
  next : v.order < s.vbf.nextOrder

theorem State.Gathering.of_vbf {v : Victim} {idx : Nat} {s t : State} (h : s.Gathering v idx) (hv : t.vbf = s.vbf) :
    t.Gathering v idx :=
  ⟨hv ▸ h.entry, hv ▸ h.oldest, hv ▸ h.next⟩

theorem State.Gathering.startMerge {v : Victim} {idx : Nat} {s : State} (h : s.Gathering v idx) (i : Nat) :
    (s.startMerge i).Gathering v idx := by
  obtain hsame | hmod := s.startMerge_vbf i
  · exact h.of_vbf hsame
  · refine State.Gathering.of_vbf (s := s.modVictim i fun v => { v with merging := some s.stp.nextRead }) ?_ hmod
    obtain ⟨w, hw, hlsn, hst, hset, hreb, hord⟩ := h.entry
    refine ⟨?_, fun e he hl => ?_, h.next⟩
    · by_cases hi : idx = i
      · subst hi
        exact ⟨_, Sparse.find_adjust_same _ hw, hlsn, hst, hset, hreb, hord⟩
      · exact ⟨w, (Sparse.find_adjust_other _ _ hi).trans hw, hlsn, hst, hset, hreb, hord⟩
    · obtain he | ⟨x, hx, rfl⟩ := Sparse.mem_adjust he
      · exact h.oldest e he hl
      · exact h.oldest (i, x) (Sparse.mem_of_find hx) hl

theorem State.Gathering.victimise {v : Victim} {idx i : Nat} {s : State} (h : s.Gathering v idx) (key : Nat)
    (hi : s.freshVictim = some i) : (s.victimise key true none false).Gathering v idx := by
  obtain ⟨w, hw, hrest⟩ := h.entry
  have hne : idx ≠ i := by
    rintro rfl
    rw [State.find_of_freshVictim hi] at hw
    cases hw
  refine State.Gathering.of_vbf (s := { s with vbf := { s.vbf with
    entries := Sparse.put s.vbf.entries i (s.copied key none), nextOrder := s.vbf.nextOrder + 1 } }) ?_
    (State.vbf_victimise none false hi)
  refine ⟨⟨w, (Sparse.find_put_other _ _ hne).trans hw, hrest⟩, fun e he hl => ?_, Nat.lt_succ_of_lt h.next⟩
  obtain rfl | he := Sparse.mem_put he
  · exact h.next.le
  · exact h.oldest e he hl

theorem State.Gathering.gatherBlock {v : Victim} {idx : Nat} {s : State} (h : s.Gathering v idx) (key : Nat) :
    (s.gatherBlock key).Gathering v idx := by
  unfold State.gatherBlock
  cases hi : s.freshVictim with
  | none => simpa [State.victimise, hi] using h
  | some i => exact (h.victimise key hi).startMerge i

/-- An entry that waits to be gathered is a member of the set that its row forms. -/
theorem State.Gathering.gathers {v : Victim} {idx : Nat} {s : State} (h : s.Gathering v idx) :
    ∃ w, Sparse.find s.vbf.entries idx = some w ∧ w.lsn = v.lsn ∧ s.gathers (rowOf v.lsn) (idx, w) = true := by
  obtain ⟨w, hw, hlsn, hst, hset, hreb, hord⟩ := h.entry
  refine ⟨w, hw, hlsn, ?_⟩
  simp only [State.gathers, State.victimsOf, hlsn, hst, hset, hreb, hord, beq_self_eq_true, Option.isNone_none,
    Bool.not_false, Bool.and_true, Bool.true_and, Bool.not_eq_true', List.any_eq_false, List.mem_filter, beq_iff_eq,
    decide_eq_true_eq, not_lt, and_imp]
  exact h.oldest

/-- Fixing a set queues each of its members. -/
def State.enlist (id : Nat) (s : State) (m : Nat × Nat) : State :=
  (s.modVictim m.1 fun v => { v with set := some id, st := .queued }).startMerge m.1

/-- Entry `idx` holds the block, and is QUEUED if `q`. -/
def State.holdsBlock (s : State) (idx lsn : Nat) (q : Prop) : Prop :=
  ∃ w, Sparse.find s.vbf.entries idx = some w ∧ w.lsn = lsn ∧ (q → w.st = .queued)

theorem State.holdsBlock_startMerge {s : State} {idx lsn : Nat} {q : Prop} (h : s.holdsBlock idx lsn q) (i : Nat) :
    (s.startMerge i).holdsBlock idx lsn q := by
  obtain ⟨w, hw, hlsn, hst⟩ := h
  obtain hsame | hmod := s.startMerge_vbf i
  · exact ⟨w, hsame ▸ hw, hlsn, hst⟩
  · rw [State.holdsBlock, hmod]
    by_cases hi : idx = i
    · subst hi
      exact ⟨_, Sparse.find_adjust_same _ hw, hlsn, hst⟩
    · exact ⟨w, (Sparse.find_adjust_other _ _ hi).trans hw, hlsn, hst⟩

theorem State.holdsBlock_enlist {s : State} {idx lsn : Nat} {q : Prop} (h : s.holdsBlock idx lsn q) (id : Nat)
    (m : Nat × Nat) : (s.enlist id m).holdsBlock idx lsn (m.1 = idx ∨ q) := by
  obtain ⟨w, hw, hlsn, hst⟩ := h
  refine State.holdsBlock_startMerge ?_ m.1
  by_cases hi : idx = m.1
  · subst hi
    exact ⟨_, Sparse.find_adjust_same _ hw, hlsn, fun _ => rfl⟩
  · exact ⟨w, (Sparse.find_adjust_other _ _ hi).trans hw, hlsn, fun hq => hst (hq.resolve_left (Ne.symm hi))⟩

theorem State.holdsBlock_enlist_all (id : Nat) {idx lsn : Nat} (ms : List (Nat × Nat)) {s : State} {q : Prop}
    (h : s.holdsBlock idx lsn q) : (ms.foldl (State.enlist id) s).holdsBlock idx lsn ((∃ m ∈ ms, m.1 = idx) ∨ q) := by
  induction ms generalizing s q with
  | nil => simpa using h
  | cons m l ih =>
    simpa [or_assoc, or_comm, or_left_comm] using ih (State.holdsBlock_enlist h id m)

/-- The members of the set that a row forms. -/
def State.rowMembers (s : State) (row : Nat) : List (Nat × Nat) :=
  (s.vbf.entries.filter fun e => s.gathers row e).map fun e => (e.1, e.2.lsn)

/-- A set is fixed by enlisting the row's members, once the set stands. -/
theorem State.fixSet_vbf (s : State) (row : Nat) : ∃ u : State, u.vbf = s.vbf ∧
    (s.fixSet row).vbf = ((s.rowMembers row).foldl (State.enlist s.stp.nextSet) u).vbf := by
  refine ⟨?u, ?vbf, ?fix⟩
  case fix => exact (State.formPrograms_within _ _).same .vbf (by decide)
  case vbf => rfl

/-- The set of a row takes the entry that waits in it. -/
theorem State.Gathering.fixSet {v : Victim} {idx : Nat} {s : State} (h : s.Gathering v idx) :
    (s.fixSet (rowOf v.lsn)).holdsBlock idx v.lsn True := by
  obtain ⟨w, hw, hlsn, hg⟩ := h.gathers
  have hmem : ∃ m ∈ s.rowMembers (rowOf v.lsn), m.1 = idx :=
    ⟨(idx, w.lsn), List.mem_map.mpr ⟨(idx, w), List.mem_filter.mpr ⟨Sparse.mem_of_find hw, hg⟩, rfl⟩, rfl⟩
  obtain ⟨u, hu, hfix⟩ := s.fixSet_vbf (rowOf v.lsn)
  obtain ⟨x, hx, hxl, hxs⟩ := State.holdsBlock_enlist_all s.stp.nextSet (s.rowMembers (rowOf v.lsn)) (s := u) (q := False)
    ⟨w, hu ▸ hw, hlsn, False.elim⟩
  exact ⟨x, hfix ▸ hx, hxl, fun _ => hxs (.inl hmem)⟩

theorem completes_stripeGatherTimeout {idx : Nat} {v : Victim} {s : State} (hv : Sparse.find s.vbf.entries idx = some v)
    (hg : s.gathers (rowOf v.lsn) (idx, v) = true) (hlate : s.elapsed v.since (us 20) = true)
    (hrow : s.rowBusy (rowOf v.lsn) = false) (hdump : s.glb.dumping = false)
    (horder : ∀ e ∈ s.vbf.entries, e.2.order < s.vbf.nextOrder) :
    Completes (.stripeGatherTimeout idx) s fun t =>
      ∃ w, Sparse.find t.vbf.entries idx = some w ∧ w.st = .queued ∧ w.lsn = v.lsn := by
  have hgathering : s.Gathering v idx := by
    have hg' := hg
    simp only [State.gathers, State.victimsOf, beq_self_eq_true, Bool.true_and, Bool.and_eq_true, Bool.not_eq_true',
      beq_iff_eq, Option.isNone_iff_eq_none, List.any_eq_false, List.mem_filter, decide_eq_true_eq, not_lt,
      and_imp] at hg'
    obtain ⟨⟨⟨hst, hset⟩, hreb⟩, hold⟩ := hg'
    exact ⟨⟨v, hv, rfl, hst, hset, hreb, rfl⟩, hold, horder _ (Sparse.mem_of_find hv)⟩
  have hexec : exec (.stripeGatherTimeout idx) s =
      .next (((s.rowBlocks (rowOf v.lsn)).foldl (fun s k => s.gatherBlock k) s).fixSet (rowOf v.lsn)) := by
    change execStripeGatherTimeout idx s = _
    simp [execStripeGatherTimeout, hv, hg, hlate, hrow, hdump]
  obtain ⟨w, hw, hlsn, hst⟩ := (foldl_invariant (P := State.Gathering v idx) (fun _ k h => h.gatherBlock k)
    (s.rowBlocks (rowOf v.lsn)) hgathering).fixSet
  exact ⟨_, hexec, w, hw, hst trivial, hlsn⟩

/-! ## The cancellation of a write-back (R91) -/

theorem completes_evictionCancel_of_issued {idx : Nat} {v : Victim} {s : State}
    (hv : Sparse.find s.vbf.entries idx = some v) (h : v.st = .issued) :
    Completes (.evictionCancel idx) s fun t => t = s := by
  refine ⟨_, rfl, ?_⟩
  simp [hv, h]

theorem State.find_freeVictim (s : State) (i : Nat) : Sparse.find (s.freeVictim i).vbf.entries i = none := by
  unfold State.freeVictim
  dsimp only
  rw [show ∀ (t : State) o, (t.settleSlotOpt o).vbf = t.vbf from
    fun t o => (State.settleSlotOpt_within t o).same .vbf (by decide)]
  exact Sparse.find_erase_same _ _

theorem completes_evictionCancel {idx key : Nat} {v : Victim} {s : State}
    (hv : Sparse.find s.vbf.entries idx = some v) (hst : v.st ≠ .issued) (hm : v.merging = none)
    (hr : v.rebuilding = false) (hkey : s.findWay v.lsn = some key) :
    Completes (.evictionCancel idx) s fun t => Sparse.find t.vbf.entries idx = none := by
  have hcache : (s.cancelEviction idx).cache = s.cache := (State.cancelEviction_within s idx).same .cache (by decide)
  have hkey' : (s.cancelEviction idx).findWay v.lsn = some key := by
    unfold State.findWay
    rw [hcache]
    exact hkey
  refine ⟨_, rfl, ?_⟩
  simp only [hv, hst, hm, hr, hkey', Option.isSome_none, Bool.false_eq_true, or_self, ite_false]
  exact State.find_freeVictim _ _

/-- Settles O14: an operation is a run of block operations, each of the cases of `State.maintBlock_cases`; a gathered
row is followed entry by entry through `State.Gathering`. -/
theorem maintenanceAndWriteBackKeepTheBlock : Obligations.MaintenanceAndWriteBackKeepTheBlock := by
  refine ⟨fun n s => ⟨completes_maint_of_busy, fun hidle hrange => ⟨completes_maintClean hidle hrange rfl,
      completes_maintFlush hidle hrange rfl, completes_maintDrop hidle hrange rfl,
      completes_maintPreload hidle hrange rfl⟩, completes_maintDone⟩,
    fun _ _ _ _ => completes_writeBackStart, fun _ _ _ => completes_stripeGatherTimeout,
    fun _ _ _ hv => ⟨completes_evictionCancel_of_issued hv, fun _ => completes_evictionCancel hv⟩⟩

end Sys2Proof.Machine


/-! SUPPORT. The address translation (R124, R125, R128): the keyed permutation round by round, and start-gap. -/

namespace Sys2Proof.Machine

open Sys2Proof

/-! ## The keyed permutation (R124) -/

/-- One round on the two halves of a row. -/
def feistelStep (lr : Nat × Nat) (k : Nat) : Nat × Nat := (lr.2, lr.1 ^^^ feistelRound lr.2 k)

/-- The round taken back. -/
def feistelBack (lr : Nat × Nat) (k : Nat) : Nat × Nat := (lr.2 ^^^ feistelRound lr.1 k, lr.1)

theorem feistel_eq (keys : List Nat) (x : Nat) :
    feistel keys x =
      (keys.foldl feistelStep (x / 1024, x % 1024)).1 * 1024 + (keys.foldl feistelStep (x / 1024, x % 1024)).2 := rfl

theorem feistelInv_eq (keys : List Nat) (x : Nat) :
    feistelInv keys x =
      (keys.reverse.foldl feistelBack (x / 1024, x % 1024)).1 * 1024 +
        (keys.reverse.foldl feistelBack (x / 1024, x % 1024)).2 := rfl

@[simp] theorem feistelBack_feistelStep (lr : Nat × Nat) (k : Nat) : feistelBack (feistelStep lr k) k = lr := by
  simp [feistelBack, feistelStep]

theorem foldl_feistelBack_feistelStep (keys : List Nat) (lr : Nat × Nat) :
    keys.reverse.foldl feistelBack (keys.foldl feistelStep lr) = lr := by
  induction keys generalizing lr with
  | nil => rfl
  | cons k l ih => simp [List.foldl_append, ih]

/-- Both halves stay 10 bits wide. -/
theorem foldl_feistelStep_lt (keys : List Nat) {lr : Nat × Nat} (h1 : lr.1 < 1024) (h2 : lr.2 < 1024) :
    (keys.foldl feistelStep lr).1 < 1024 ∧ (keys.foldl feistelStep lr).2 < 1024 := by
  refine foldl_invariant (P := fun lr : Nat × Nat => lr.1 < 1024 ∧ lr.2 < 1024) (fun lr k h => ⟨h.2, ?_⟩) keys ⟨h1, h2⟩
  exact Nat.xor_lt_two_pow (n := 10) h.1 (Nat.mod_lt _ (by decide))

theorem feistelInv_feistel (keys : List Nat) {x : Nat} (h : x < 2 ^ 20) : feistelInv keys (feistel keys x) = x := by
  obtain ⟨-, hlow⟩ := foldl_feistelStep_lt keys (lr := (x / 1024, x % 1024)) (by dsimp only; omega) (by dsimp only; omega)
  rw [feistelInv_eq, feistel_eq]
  set e := keys.foldl feistelStep (x / 1024, x % 1024) with he
  have hhalves : ((e.1 * 1024 + e.2) / 1024, (e.1 * 1024 + e.2) % 1024) = e := by
    ext <;> dsimp only <;> omega
  rw [hhalves, he, foldl_feistelBack_feistelStep]
  dsimp only
  omega

/-! ## Start-gap (R125, R128) -/

theorem Region.unposition_position {r : Region} {y : Nat} (hy : y < 1048576) :
    r.unposition (r.position y) = some y := by
  have hfree : r.position y ≠ r.gap := by
    unfold Region.position
    dsimp only
    split_ifs <;> omega
  simp only [Region.unposition, if_neg hfree, Option.some.injEq]
  unfold Region.position
  dsimp only
  split_ifs <;> omega

/-- A gap move sends the row before the gap to the gap, and leaves every other row. -/
theorem Region.position_moved {r : Region} {y : Nat} (hg : r.gap ≤ 1048576) (_ : y < 1048576) :
    r.moved.position y =
      if r.position y = (if r.gap = 0 then 1048576 else r.gap - 1) then r.gap else r.position y := by
  by_cases h0 : r.gap = 0 <;> simp only [Region.moved, Region.position, h0, ite_true, ite_false]
  · split_ifs <;> omega
  · split_ifs <;> omega

/-- Settles O16: each round of the permutation is taken back by one, and start-gap is arithmetic on positions. -/
theorem translationIsOneToOne : Obligations.TranslationIsOneToOne :=
  ⟨fun keys _ => feistelInv_feistel keys,
    fun _ _ hg hy => ⟨Region.unposition_position hy, Region.position_moved hg hy⟩⟩

/-! ## STP but for its sets, programs and reads -/

/-- STP but for its sets, its programs and its reads. -/
def Stp.registers (x : Stp) : Stp :=
  { x with sets := [], nextSet := 0, progs := [], nextProg := 0, reads := [], nextRead := 0 }

theorem Stp.gapMoves_eq_of_registers {x y : Stp} (h : x.registers = y.registers) : x.gapMoves = y.gapMoves :=
  (congrArg Stp.gapMoves h :)

theorem State.registers_queuePrograms (s : State) (id row : Nat) (news : List (Nat × Stored)) :
    (s.queuePrograms id row news).stp.registers = s.stp.registers :=
  foldl_keeps (f := State.addProg) (fun t : State => t.stp.registers) (fun _ _ => rfl) _ s

theorem State.registers_formWriteThrough (s : State) (i : Nat) :
    (s.formWriteThrough i).stp.registers = s.stp.registers := by
  unfold State.formWriteThrough
  split
  · rfl
  · dsimp only
    split_ifs
    · rfl
    all_goals
      rw [State.registers_queuePrograms]
      rfl

theorem State.registers_retryWriters (s : State) : s.retryWriters.stp.registers = s.stp.registers :=
  foldl_keeps (fun t : State => t.stp.registers) (fun t i => t.registers_formWriteThrough i) _ s

theorem State.registers_copyRow (s : State) (row target : Nat) :
    (s.copyRow row target).stp.registers = s.stp.registers := by
  refine foldl_keeps (fun t : State => t.stp.registers) (fun t pos => ?_) _ s
  dsimp only
  split_ifs <;> rfl

/-! ## Gap moves (R125, R128, R129) -/

theorem State.region_congr {s t : State} (h : t.wlv = s.wlv) (g : Nat) : t.region g = s.region g := by
  simp [State.region, h]

section
variable {g : BitVec 16} {s : State} {row : Nat}

/-- The state in which a gap move has begun: the move stands, and its programs are taken off the region's count. -/
def State.gapBegun (s : State) (g : Nat) (m : GapMove) : State :=
  { s with
    stp := { s.stp with gapMoves := Sparse.put s.stp.gapMoves g m }
    wlv := { s.wlv with regions := Sparse.modify Region.reset s.wlv.regions g fun x =>
      { x with programs := x.programs - 2 ^ s.wlv.sgShift } } }

theorem State.region_gapBegun (s : State) (g : Nat) (m : GapMove) :
    (s.gapBegun g m).region g = { s.region g with programs := (s.region g).programs - 2 ^ s.wlv.sgShift } :=
  Sparse.get_modify_same Region.reset s.wlv.regions g fun x => { x with programs := x.programs - 2 ^ s.wlv.sgShift }

theorem exec_gapMoveStart (g : BitVec 16) (s : State) : exec (.gapMoveStart g) s = execGapMoveStart g s := by rfl

theorem completes_gapMoveStart
    (hrow : s.rowAtPosition g.toNat
      (if (s.region g.toNat).gap = 0 then 1048576 else (s.region g.toNat).gap - 1) = some row)
    (hg : g.toNat < s.regions) (hdue : 2 ^ s.wlv.sgShift ≤ (s.region g.toNat).programs)
    (hnone : Sparse.find s.stp.gapMoves g.toNat = none) (hbusy : s.rowBusy row = false)
    (hprogs : s.rowPrograms? row = false) (hdump : s.glb.dumping = false) (hreplay : s.glb.replayDone = true) :
    Completes (.gapMoveStart g) s fun t =>
      Sparse.find t.stp.gapMoves g.toNat =
          some ⟨if (s.region g.toNat).gap = 0 then 1048576 else (s.region g.toNat).gap - 1,
            (s.region g.toNat).gap, .reading⟩ ∧
        (t.region g.toNat).gap = (s.region g.toNat).gap ∧
        (t.region g.toNat).start = (s.region g.toNat).start := by
  have hexec : exec (.gapMoveStart g) s = .next ((s.gapBegun g.toNat
      ⟨if (s.region g.toNat).gap = 0 then 1048576 else (s.region g.toNat).gap - 1, (s.region g.toNat).gap,
        .reading⟩).copyRow row (g.toNat * 1048577 + (s.region g.toNat).gap)) := by
    have hgo : (decide (s.regions ≤ g.toNat) || decide ((s.region g.toNat).programs < 2 ^ s.wlv.sgShift) ||
        (Sparse.find s.stp.gapMoves g.toNat).isSome || s.rowBusy row || s.rowPrograms? row || s.glb.dumping ||
        !s.glb.replayDone) = false := by
      simp [hg, hdue, hnone, hbusy, hprogs, hdump, hreplay]
    simp only [exec_gapMoveStart, execGapMoveStart, hrow, hgo, Bool.false_eq_true, if_false, State.gapBegun]
  generalize g.toNat * 1048577 + (s.region g.toNat).gap = target at hexec
  refine ⟨_, hexec, ?_⟩
  beta_reduce
  rw [Stp.gapMoves_eq_of_registers (State.registers_copyRow _ row target),
    State.region_congr ((State.copyRow_within _ row target).same .wlv (by decide)), State.region_gapBegun]
  exact ⟨Sparse.find_put_same _ _ _, rfl, rfl⟩

variable {m : GapMove} (hm : Sparse.find s.stp.gapMoves g.toNat = some m)
  (hrow : s.rowAtPosition g.toNat m.source = some row)
include hm hrow

theorem State.gapRow_of_found :
    ((Sparse.find s.stp.gapMoves g.toNat).bind fun m => s.rowAtPosition g.toNat m.source) = some row := by
  rw [hm, Option.bind_some, hrow]

theorem completes_gapMoveProgramsConfirmed (hst : m.stage = .reading) (hprogs : s.rowPrograms? row = false) :
    Completes (.gapMoveProgramsConfirmed g) s fun t =>
      Sparse.find t.stp.gapMoves g.toNat = some { m with stage := .recorded } ∧
        t.stp.gapSeq = s.stp.gapSeq + 1 ∧ t.wlv = s.wlv := by
  have hgo : (decide (m.stage ≠ .reading) || s.rowPrograms? row) = false := by simp [hst, hprogs]
  refine ⟨_, rfl, ?_⟩
  dsimp only
  rw [State.gapRow_of_found hm hrow, hm]
  dsimp only
  rw [if_neg (by rw [hgo]; decide)]
  exact ⟨Sparse.find_put_same _ _ _, rfl, rfl⟩

theorem completes_gapSwitch (hst : m.stage = .recorded) :
    Completes (.gapSwitch g) s fun t =>
      t.region g.toNat = (s.region g.toNat).moved ∧ Sparse.find t.stp.gapMoves g.toNat = none := by
  refine ⟨_, rfl, ?_⟩
  dsimp only
  rw [State.gapRow_of_found hm hrow, hm]
  dsimp only
  rw [if_neg (by simp [hst])]
  set u : State := { s with
    stp := { s.stp with gapMoves := _ }
    wlv := { s.wlv with regions := _ } }
  have hstp : (u.restamp row).stp = u.stp := (State.restamp_within u row).same .stp (by decide)
  have hgaps : (u.restamp row).retryWriters.stp.gapMoves = u.stp.gapMoves := by
    have hretry : (u.restamp row).retryWriters.stp.gapMoves = (u.restamp row).stp.gapMoves :=
      Stp.gapMoves_eq_of_registers (u.restamp row).registers_retryWriters
    rw [hretry, hstp]
  have hwlv : (u.restamp row).retryWriters.wlv = u.wlv :=
    ((State.retryWriters_within _).same .wlv (by decide)).trans ((State.restamp_within u row).same .wlv (by decide))
  rw [hgaps, State.region_congr hwlv]
  exact ⟨Sparse.get_modify_same _ _ _ _, Sparse.find_erase_same _ _⟩

end

/-! ## The wear tree (R140 to R142) -/

/-- The counts of a tree added to those of another. -/
def leafSum (m : Sparse Nat) (l : Sparse Nat) : Sparse Nat :=
  l.foldl (fun m e => Sparse.modify 0 m e.1 fun v => min 4095 (v + e.2)) m

theorem get_leafSum_of_lt {lo key : Nat} (l m : Sparse Nat) (hl : Sparse.risingFrom lo l = true) (h : key < lo) :
    Sparse.get 0 (leafSum m l) key = Sparse.get 0 m key := by
  induction l generalizing lo m with
  | nil => rfl
  | cons e r ih =>
    simp only [Sparse.risingFrom, Bool.and_eq_true, decide_eq_true_eq] at hl
    refine (ih _ hl.2 (by omega)).trans (Sparse.get_modify_other _ _ _ (by omega))

/-- Each leaf counted since is added once, up to 4,095. -/
theorem get_leafSum {lo : Nat} (key : Nat) (l m : Sparse Nat) (hl : Sparse.risingFrom lo l = true) :
    Sparse.get 0 (leafSum m l) key =
      match Sparse.find l key with
      | some v => min 4095 (Sparse.get 0 m key + v)
      | none => Sparse.get 0 m key := by
  induction l generalizing lo m with
  | nil => rfl
  | cons e r ih =>
    simp only [Sparse.risingFrom, Bool.and_eq_true, decide_eq_true_eq] at hl
    unfold Sparse.find
    split_ifs with hk
    · subst hk
      exact (get_leafSum_of_lt r _ hl.2 (Nat.lt_succ_self _)).trans (Sparse.get_modify_same _ _ _ _)
    · refine (ih _ hl.2).trans ?_
      rw [Sparse.get_modify_other _ _ _ (Ne.symm hk)]

theorem completes_wearTreeLoad {s : State} (hl : s.wlv.loaded = false) (hm : s.glb.memoryActive = true)
    (hr : Sparse.rising s.wlv.leaves = true) :
    Completes .wearTreeLoad s fun t =>
      t.wlv.loaded = true ∧ ∀ key, Sparse.get 0 t.wlv.leaves key =
        match Sparse.find s.wlv.leaves key with
        | some v => min 4095 (s.mediaLeaf key + v)
        | none => s.mediaLeaf key := by
  have hexec : exec .wearTreeLoad s = .next { s with wlv := { s.wlv with
      leaves := leafSum s.wlv.mediaLeaves s.wlv.leaves, loaded := true } } := by
    change execWearTreeLoad s = _
    simp [execWearTreeLoad, hl, hm, leafSum]
  refine ⟨_, hexec, rfl, fun key => ?_⟩
  exact get_leafSum key _ _ hr

theorem completes_wearTreeRepair {k : Slot} {die : Fin 32} {swath : Nat} (loss : WearLoss) {s : State}
    (h : swath < swathsPerDie) :
    Completes (.wearTreeRepair k die swath loss) s fun t =>
      t.fired 1219 (repairSeverity loss) ∧
        (loss = .allCopies → Sparse.get 0 t.wlv.leaves (swathKey k.val die.val swath) =
          s.maxLeaf k.val die.val (swath / 1024 * 1024) (swath / 1024 * 1024 + 1024)) ∧
        (loss = .allAndGroup → Sparse.get 0 t.wlv.leaves (swathKey k.val die.val swath) =
          s.maxLeaf k.val die.val 0 (2 ^ 20)) ∧
        (loss = .leafHbm → s.wlv.loaded = true →
          Sparse.get 0 t.wlv.leaves (swathKey k.val die.val swath) =
            s.mediaLeaf (swathKey k.val die.val swath)) := by
  have hexec : exec (.wearTreeRepair k die swath loss) s = execWearTreeRepair k die swath loss s := by rfl
  simp only [Completes, hexec, execWearTreeRepair, Instr.wf, h, decide_true, Bool.not_true, Bool.false_eq_true, ite_false,
    Host.Outcome.next.injEq, exists_eq_left', State.fired_fire, ite_true, true_and, State.fire_wlv]
  refine ⟨?_, ?_, ?_⟩ <;> rintro rfl
  · exact Sparse.get_set_same _ _ _ _
  · exact Sparse.get_set_same _ _ _ _
  · intro hl
    simp [State.leafFromMedia, hl]

/-- A leaf stands on media and is not dirty. -/
def Wlv.flushed (w : Wlv) (key : Nat) : Prop :=
  Sparse.get 0 w.mediaLeaves key = Sparse.get 0 w.leaves key ∧ key ∉ w.leafDirty

theorem State.flushLeaf_loaded {s : State} (key : Nat) (h : s.wlv.loaded = true) :
    (s.flushLeaf key).wlv = { s.wlv with
      mediaLeaves := Sparse.set 0 s.wlv.mediaLeaves key (Sparse.get 0 s.wlv.leaves key)
      leafDirty := s.wlv.leafDirty.filter (· != key) } := by
  simp [State.flushLeaf, h]

/-- Flushing the leaves of a list leaves the tree, and each of them on media. -/
theorem State.flushed_foldl_flushLeaf {key : Nat} (keys : List Nat) {s : State} (hl : s.wlv.loaded = true)
    (h : key ∈ keys ∨ s.wlv.flushed key) :
    (keys.foldl (fun s k => s.flushLeaf k) s).wlv.flushed key ∧
      (keys.foldl (fun s k => s.flushLeaf k) s).wlv.leaves = s.wlv.leaves := by
  induction keys generalizing s with
  | nil => exact ⟨by simpa using h, rfl⟩
  | cons k l ih =>
    have hflush := State.flushLeaf_loaded k hl
    have hk : key = k ∨ s.wlv.flushed key → (s.flushLeaf k).wlv.flushed key := by
      intro hk
      by_cases he : key = k
      · subst he
        simp [Wlv.flushed, hflush]
      · obtain ⟨hmedia, hdirty⟩ := hk.resolve_left he
        simp [Wlv.flushed, hflush, Sparse.get_set_other _ _ _ he, hmedia, hdirty]
    obtain ⟨hdone, hleaves⟩ := ih (s := s.flushLeaf k) (by rw [hflush]; exact hl) (by
      rcases h with h | h
      · rcases List.mem_cons.mp h with h | h
        · exact .inr (hk (.inl h))
        · exact .inl h
      · exact .inr (hk (.inr h)))
    exact ⟨hdone, hleaves.trans (by rw [hflush])⟩

theorem completes_leafSectorFlush {k : Slot} {die : Fin 32} {sector key : Nat} {s : State} (hl : s.wlv.loaded = true)
    (hslots : s.presentSlots ≠ []) (hdirty : key ∈ s.wlv.leafDirty) (hdie : key / 2 ^ 20 = dieKey k.val die.val)
    (hsector : key % 2 ^ 20 / 160 = sector) :
    Completes (.leafSectorFlush k die sector) s fun t =>
      t.mediaLeaf key = Sparse.get 0 s.wlv.leaves key ∧ key ∉ t.wlv.leafDirty ∧
        t.wlv.leaves = s.wlv.leaves := by
  refine ⟨_, rfl, ?_⟩
  dsimp only
  set keys := s.wlv.leafDirty.filter _ with hkeys
  have hmem : key ∈ keys := List.mem_filter.mpr ⟨hdirty, by simp only [hdie, hsector, beq_self_eq_true, Bool.and_self]⟩
  have hsome : keys ≠ [] := List.ne_nil_of_mem hmem
  obtain ⟨⟨hmedia, hclean⟩, hleaves⟩ := State.flushed_foldl_flushLeaf keys hl (.inl hmem)
  simp only [List.isEmpty_iff, hsome, hslots, or_self, ite_false]
  exact ⟨hmedia.trans (by rw [hleaves]), hclean, hleaves⟩

/-- Settles O17: a gap move changes the region in its last step only; the wear tree is followed leaf by leaf. -/
theorem gapMovesSwitchAndWearCountsSurvive : Obligations.GapMovesSwitchAndWearCountsSurvive :=
  ⟨fun _ _ => ⟨fun _ => completes_gapMoveStart, fun _ _ hm hrow =>
      ⟨completes_gapMoveProgramsConfirmed hm hrow, completes_gapSwitch hm hrow⟩⟩,
    fun _ _ _ _ _ => completes_leafSectorFlush, fun _ => completes_wearTreeLoad,
    fun _ _ _ loss _ => completes_wearTreeRepair loss⟩

end Sys2Proof.Machine


/-! SUPPORT. Retirement of swaths and dies (O18). -/

namespace Sys2Proof.Machine

open Sys2Proof

theorem State.ch_congr {s t : State} (h : t.mch = s.mch) (k : Nat) : t.ch k = s.ch k := by
  rw [State.ch, State.ch, h]

/-! ## The end of a retirement -/

theorem State.fired_noteSpares_of_fired {s : State} (k : Nat) {i : Nat} {v : Severity} (h : s.fired i v)
    (hi : i ≠ 1217) : (s.noteSpares k).fired i v := by
  unfold State.noteSpares
  dsimp only
  split
  · rwa [State.fired_fire, if_neg hi]
  · exact h

/-- Noting the spares changes the wear state in the list of modules noted only. -/
theorem State.remap_noteSpares (s : State) (k : Nat) : (s.noteSpares k).wlv.remap = s.wlv.remap := by
  unfold State.noteSpares
  dsimp only
  split
  · rw [State.fire_wlv]
  · rfl

theorem State.leaves_noteSpares (s : State) (k : Nat) : (s.noteSpares k).wlv.leaves = s.wlv.leaves := by
  unfold State.noteSpares
  dsimp only
  split
  · rw [State.fire_wlv]
  · rfl

theorem State.countErrorRetire_of_ne (s : State) (slot die : Nat) {why : RetireWhy} (h : why ≠ .error) :
    s.countErrorRetire slot die why = s := by
  rw [State.countErrorRetire, if_pos h]

/-- A swath that finds a spare is entered in the remap table with its copy pointer at row 0, its leaf from 0. -/
theorem State.retireSwath_of_spare {s u : State} {slot die swath td ts : Nat} {why : RetireWhy}
    (hcount : s.remapCount slot die < 2048) (herr : why ≠ .error)
    (hspare : s.takeSpare slot die why = some (td, ts, u)) :
    ∃ e : Remap, e.migrating = true ∧ e.targetDie = td ∧ e.targetSwath = ts ∧ e.pointer = 0 ∧
      (s.retireSwath slot die swath why).wlv.remap = Sparse.put u.wlv.remap (swathKey slot die swath) e ∧
      Sparse.get 0 (s.retireSwath slot die swath why).wlv.leaves (swathKey slot die swath) = 0 ∧
      (s.retireSwath slot die swath why).fired 1213 .note := by
  have hroom : ¬((Sparse.find s.wlv.remap (swathKey slot die swath)).isNone ∧ 2048 ≤ s.remapCount slot die) :=
    fun h => absurd h.2 (by omega)
  unfold State.retireSwath
  dsimp only
  rw [if_neg hroom, hspare]
  dsimp only
  rw [State.countErrorRetire_of_ne _ _ _ herr, State.remap_noteSpares, State.leaves_noteSpares, State.fire_wlv]
  exact ⟨_, rfl, rfl, rfl, rfl, rfl, Sparse.get_set_same 0 u.wlv.leaves _ 0,
    State.fired_noteSpares_of_fired _ ((State.fired_fire _ _ _ _ _ _).mpr (by simp)) (by decide)⟩

/-! ## Migration -/

/-- A swath's entry once one more row stands at its target. -/
def Remap.advanced (e : Remap) : Remap :=
  { e with pointer := e.pointer + 1, migrating := decide (e.pointer + 1 < 4096) }

/-- The state with the entry `e` for the swath of `key`. -/
def State.withRemap (s : State) (key : Nat) (e : Remap) : State :=
  { s with wlv := { s.wlv with remap := Sparse.put s.wlv.remap key e } }

theorem State.remap_wearDraw (s : State) (key : Nat) : (s.wearDraw key).wlv.remap = s.wlv.remap := by
  unfold State.wearDraw State.bumpLeaf
  dsimp only
  split_ifs <;> rfl

theorem State.stp_wearDraw (s : State) (key : Nat) : (s.wearDraw key).stp = s.stp :=
  (State.wearDraw_within s key).same .stp (by decide)

/-- Without a program whose data is kept, the confirmation of a row ends none. -/
theorem State.confirmKept_eq_self {s : State} (h : ∀ x ∈ s.stp.progs, x.2.fails ≠ 2) (ch die sector : Nat) :
    s.confirmKept ch die sector = s := by
  have hnone : (s.stp.progs.filter fun e =>
      e.2.fails == 2 && e.2.ch == ch && e.2.die == die && e.2.sector == sector) = [] :=
    List.filter_eq_nil_iff.mpr fun e he => by simp [h e he]
  rw [State.confirmKept, hnone, List.foldl_nil]

/-! ## A retired die -/

theorem dieOfModule_moduleDie {dies ch d : Nat} (hd : d < dies / 4) :
    dieOfModule dies (moduleOf ch) (moduleDie dies ch d) = (ch, d) := by
  have hper : max 1 (dies / 4) = dies / 4 := by omega
  have hq : (ch % 4 * (dies / 4) + d) / (dies / 4) = ch % 4 := by
    rw [Nat.mul_comm, Nat.mul_add_div (by omega), Nat.div_eq_of_lt hd, Nat.add_zero]
  have hr : (ch % 4 * (dies / 4) + d) % (dies / 4) = d := by
    rw [Nat.mul_comm, Nat.mul_add_mod, Nat.mod_eq_of_lt hd]
  simp only [dieOfModule, moduleDie, moduleOf, hper, hq, hr, Prod.mk.injEq, and_true]
  omega

theorem State.diesFailed_markDieFailed (s : State) (ch : Nat) (d : Die) :
    bitOf ((s.markDieFailed ch d.val).ch ch).diesFailed d.val = true := by
  simp only [State.markDieFailed, State.ch_modCh]
  exact bitOf_setBit_same _ _ d.isLt

theorem Within.fired_iff {W : List Part} {s t : State} (h : Within W s t) (hevt : Part.evt ∉ W) (i : Nat) (v : Severity) :
    t.fired i v ↔ s.fired i v :=
  State.fired_of_evt (h.same .evt hevt) i v

/-- Handing out the shares of a die changes the wear state only. -/
theorem State.takeShares_within (slot n : Nat) (ds : List Nat) (a : State × List (Nat × Nat)) :
    Within [.wlv] a.1 (ds.foldl (fun (a : State × List (Nat × Nat)) d =>
      ((a.1.takeShare slot d n).1, a.2 ++ [(a.1.takeShare slot d n).2])) a).1 := by
  induction ds generalizing a with
  | nil => exact Within.refl _ _
  | cons d ds ih =>
    rw [List.foldl_cons]
    exact Within.step (ih _) (by decide) (State.takeShare_within a.1 slot d n)

theorem State.retireDie_marks {s : State} {slot die : Nat} (hadopt : s.adoption slot die = none)
    (hcount : (s.wlv.adoptions.filter fun a => a.slot == slot).length < 4) {i : Nat}
    (hsrc : i ≠ 1008 ∧ i ≠ 1214 ∧ i ≠ 1215 ∧ i ≠ 1217) (hi : i = chanSrc (dieOfModule s.wlv.dies slot die).1 4) :
    (s.retireDie slot die).mch = (s.markDieFailed (dieOfModule s.wlv.dies slot die).1
        (dieOfModule s.wlv.dies slot die).2).mch ∧ (s.retireDie slot die).fired i .fault := by
  obtain ⟨h8, h14, h15, h17⟩ := hsrc
  unfold State.retireDie
  dsimp only
  rw [hadopt, if_neg (by decide), if_neg (by omega)]
  generalize s.markDieFailed _ _ = u
  split
  · simp [← hi, h15]
  · rw [State.settleLevel_mch, (State.noteSpares_within _ _).same .mch (by decide), State.fire_mch,
      (State.moveShares_within _ _ _).same .mch (by decide), State.fired_settleLevel _ _ _ h8]
    refine ⟨?_, State.fired_noteSpares_of_fired _ ?_ h17⟩
    · exact ((State.takeShares_within slot _ _ (_, [])).same .mch (by decide)).trans (State.fire_mch _ _ _ _)
    · rw [State.fired_fire, if_neg h14, (State.moveShares_within _ _ _).fired_iff (by decide)]
      refine ((State.takeShares_within slot _ _ (_, [])).fired_iff (by decide) _ _).mpr ?_
      simp [hi]

/-- Settles O18: what each branch of a retirement leaves. -/
theorem retirementMovesSwathsToSpares : Obligations.RetirementMovesSwathsToSpares := by
  refine ⟨fun k die swath td ts why s u hload hdue hnone hcount hdie hswath hserv hadopt hwhy hspare => ?_,
    fun k die swath e s hswath hadopt hfind hmig hkept => ?_, fun k die swath s hswath hfrozen hforced => ?_,
    fun ch die s hdie hserv hadopt hcount => ?_⟩
  · have hwf : swath < swathsPerDie := Nat.lt_of_le_of_lt hswath (by decide)
    have hexec : exec (.swathRetire k die swath why) s = .next (s.retireSwath k.val die.val swath why) := by
      change execSwathRetire k die swath why s = _
      simp [execSwathRetire, Instr.wf, hwf, hload, hdue, hnone, hdie, hswath, hserv, hadopt, SlotSt.serving]
    obtain ⟨e, hmig, htd, hts, hptr, hremap, hleaf, hfired⟩ := State.retireSwath_of_spare hcount hwhy hspare
    refine ⟨_, hexec, ⟨e, ?_, hmig, htd, hts, hptr⟩, hleaf, hfired⟩
    rw [hremap]
    exact Sparse.find_put_same _ _ _
  · obtain ⟨c, d, n, hexec⟩ : ∃ c d n, exec (.migrationRowConfirmed k die swath) s =
        .next (((s.withRemap (swathKey k.val die.val swath) e.advanced).wearDraw
          (swathKey k.val die.val swath)).confirmKept c d n).retryWriters := by
      refine ⟨(dieOfModule s.wlv.dies k.val e.oldDie).1, (dieOfModule s.wlv.dies k.val e.oldDie).2,
        e.oldSwath * 4096 + e.pointer, ?_⟩
      change execMigrationRowConfirmed k die swath s = _
      simp [execMigrationRowConfirmed, Instr.wf, hswath, hadopt, hfind, hmig, State.withRemap, Remap.advanced]
    rw [State.confirmKept_eq_self (by rwa [State.stp_wearDraw])] at hexec
    refine ⟨_, hexec, ?_⟩
    beta_reduce
    rw [(State.retryWriters_within _).same .wlv (by decide), State.remap_wearDraw]
    exact Sparse.find_put_same _ _ _
  · have hexec : exec (.frozenSwathDaily k die swath) s =
        .next (s.fire 1216 .critical (Detail.ofUnit k.val)) := by
      change execFrozenSwathDaily k die swath s = _
      simp only [execFrozenSwathDaily, Instr.wf, hswath, hfrozen, hforced, decide_true, Bool.not_true, Bool.not_false,
        Bool.and_self, Bool.false_eq_true, if_false, if_true]
    exact ⟨_, hexec, by simp, State.fire_wlv _ _ _ _⟩
  · have hexec : exec (.dieRetire ch die) s =
        .next (s.retireDie (moduleOf ch.val) (moduleDie s.wlv.dies ch.val die.val)) := by
      change execDieRetire ch die s = _
      simp [execDieRetire, hdie, hserv, SlotSt.serving]
    have hsrc : 14 * ch.val + 4 ≠ 1008 ∧ 14 * ch.val + 4 ≠ 1214 ∧ 14 * ch.val + 4 ≠ 1215 ∧
      14 * ch.val + 4 ≠ 1217 := by omega
    have hat := dieOfModule_moduleDie (ch := ch.val) hdie
    obtain ⟨hmch, hfired⟩ := State.retireDie_marks hadopt hcount hsrc (by rw [hat, chanSrc])
    refine ⟨_, hexec, ?_, hfired⟩
    rw [State.ch_congr hmch, hat]
    exact State.diesFailed_markDieFailed s ch.val die

end Sys2Proof.Machine


/-! SUPPORT. Programs on a die and the drift clocks (O20). -/

namespace Sys2Proof.Machine

open Sys2Proof

/-! ## Commands on the link -/

/-- Sending a command writes the channel's last command, and no die's state. -/
theorem State.ch_sendCmd (s : State) (ch die op tag sector arg : Nat) :
    ∃ w, (s.sendCmd ch die op tag sector arg).ch ch = { s.ch ch with lastCommand := w } := by
  unfold State.sendCmd
  dsimp only
  split <;> exact ⟨_, State.ch_modCh _ _ _⟩

theorem State.die_sendCmd (s : State) (ch die op tag sector arg d : Nat) :
    ((s.sendCmd ch die op tag sector arg).ch ch).die d = (s.ch ch).die d := by
  obtain ⟨w, h⟩ := s.ch_sendCmd ch die op tag sector arg
  rw [h]
  rfl

@[simp] theorem State.die_modDie (s : State) (n d : Nat) (f : DieState → DieState) :
    ((s.modDie n d f).ch n).die d = f ((s.ch n).die d) := by
  rw [State.modDie, State.ch_modCh, Mch.die_setDie]

theorem State.mch_alertCause (s : State) (k cause : Nat) (v : Severity) : (s.alertCause k cause v).mch = s.mch :=
  ((State.alertCause_within s k cause v).same .mch (by decide))

/-- Below 105 °C a die's temperature report changes its own temperature and its hot bit only. -/
theorem State.die_dieTemp (s : State) (ch die : Nat) {t : Int} (h : t < 105) :
    ∃ hot, ((s.dieTemp ch die t).ch ch).die die = { (s.ch ch).die die with tempC := t, hot := hot } := by
  unfold State.dieTemp
  dsimp only
  rw [if_neg (by omega)]
  split
  · rw [State.ch_congr (State.mch_alertCause _ _ _ _), State.ch_fire]
    exact ⟨_, State.die_modDie _ _ _ _⟩
  · exact ⟨_, State.die_modDie _ _ _ _⟩

/-! ## The start of a program -/

theorem State.progs_markSent (s : State) (id : Nat) : (s.markSent id).stp.progs = s.stp.progs := by
  unfold State.markSent
  exact foldl_keeps (f := fun t (m : Nat × Nat) => t.modVictim m.1 fun v => { v with st := .issued })
    (fun t : State => t.stp.progs) (fun _ _ => rfl) _ _

theorem State.leaves_markSent (s : State) (id : Nat) : (s.markSent id).wlv.leaves = s.wlv.leaves :=
  congrArg Wlv.leaves ((State.markSent_within s id).same .wlv (by decide))

theorem State.leaves_countProgram (s : State) (g : Prog) : (s.countProgram g).wlv.leaves = s.wlv.leaves := by
  unfold State.countProgram
  split <;> rfl

theorem State.stp_countProgram (s : State) (g : Prog) : (s.countProgram g).stp = s.stp := by
  unfold State.countProgram
  split <;> rfl

theorem State.touchRow_cases (s : State) (row : Nat) :
    s.touchRow row = s ∨ ∃ rows, s.touchRow row = { s with stp := { s.stp with rowTouched := rows } } := by
  unfold State.touchRow
  extract_lets
  split
  · exact .inr ⟨_, rfl⟩
  · exact .inl rfl

theorem State.progs_touchRow (s : State) (row : Nat) : (s.touchRow row).stp.progs = s.stp.progs := by
  obtain h | ⟨rows, h⟩ := s.touchRow_cases row <;> rw [h]

theorem State.wlv_touchRow (s : State) (row : Nat) : (s.touchRow row).wlv = s.wlv :=
  (State.touchRow_within s row).same .wlv (by decide)

/-- The state in which the set of a program, where it has one, is marked as sent. -/
def State.setSent (s : State) (g : Prog) : State :=
  match g.set with
  | none => s
  | some id => s.markSent id

theorem State.noteStart_eq (s : State) (g : Prog) :
    s.noteStart g = ((s.setSent g).countProgram g).touchRow g.data.row := rfl

theorem State.progs_setSent (s : State) (g : Prog) : (s.setSent g).stp.progs = s.stp.progs := by
  unfold State.setSent
  split
  · rfl
  · exact State.progs_markSent _ _

theorem State.leaves_setSent (s : State) (g : Prog) : (s.setSent g).wlv.leaves = s.wlv.leaves := by
  unfold State.setSent
  split
  · rfl
  · exact State.leaves_markSent _ _

theorem State.progs_noteStart (s : State) (g : Prog) : (s.noteStart g).stp.progs = s.stp.progs := by
  rw [State.noteStart_eq, State.progs_touchRow, State.stp_countProgram, State.progs_setSent]

theorem State.leaves_noteStart (s : State) (g : Prog) : (s.noteStart g).wlv.leaves = s.wlv.leaves := by
  rw [State.noteStart_eq, State.wlv_touchRow, State.leaves_countProgram, State.leaves_setSent]

theorem State.draws_wearDraw (s : State) (key : Nat) : (s.wearDraw key).draws = s.draws + 1 := by
  unfold State.wearDraw State.bumpLeaf
  dsimp only
  split_ifs <;> rfl

theorem State.leaves_wearDraw {s : State} (h : Config.leafDraw s.draws = false) (key : Nat) :
    (s.wearDraw key).wlv.leaves = s.wlv.leaves := by
  unfold State.wearDraw
  rw [h, if_neg (by decide)]
  rfl

/-! ## The obligation -/

section
variable {ch : Chan} {die : Die} {s : State}

theorem completes_programResume {i : Nat} {g : Prog} (hfind : Sparse.find s.stp.progs i = some g)
    (hprog : s.dieProg ch.val die.val = some (i, g)) (hsusp : g.status = .suspended) (hup : (s.ch ch.val).up = true)
    (hread : s.hostReadOn ch.val die.val = false) :
    Completes (.programResume ch die) s fun t =>
      Sparse.find t.stp.progs i = some { g with status := .running, started := s.clock } ∧ t.wlv = s.wlv := by
  have hexec : exec (.programResume ch die) s =
      .next ((s.modProg i fun g => { g with status := .running, started := s.clock }).sendCmd ch.val die.val
        0x04 0 0 0) := by
    change execProgramResume ch die s = _
    simp [execProgramResume, hprog, hsusp, hup, hread]
  refine ⟨_, hexec, ?_, (State.sendCmd_within _ _ _ _ _ _ _).same .wlv (by decide)⟩
  rw [(State.sendCmd_within _ _ _ _ _ _ _).same .stp (by decide)]
  exact Sparse.find_adjust_same _ hfind

/-- A program as its die takes it, under the command slot `tag`. -/
def Prog.sent (g : Prog) (ch die sector tag clock : Nat) : Prog :=
  { g with
    ch := ch, die := die, sector := sector, status := .running, tag := tag
    started := clock, pulseRun := 0, suspends := 0 }

theorem completes_programStart {i tag : Nat} {g : Prog} (hfind : Sparse.find s.stp.progs i = some g)
    (htakes : s.dieTakes ch.val die.val = true)
    (hprog : (s.stp.progs.find? fun e => s.startable ch.val die.val e.2) = some (i, g))
    (htag : s.freeTag ch.val = some tag) :
    Completes (.programStart ch die) s fun t =>
      (∃ g', Sparse.find t.stp.progs i = some g' ∧ g'.status = .running ∧ g'.tag = tag ∧
        g'.ch = ch.val ∧ g'.die = die.val ∧ g'.suspends = 0 ∧ g'.data = g.data) ∧
        t.draws = s.draws + 1 ∧ (Config.leafDraw s.draws = false → t.wlv.leaves = s.wlv.leaves) := by
  obtain ⟨key, sector, hexec⟩ : ∃ key sector, exec (.programStart ch die) s =
      .next ((((s.modProg i fun g => g.sent ch.val die.val sector tag s.clock).sendCmd ch.val die.val 0x02 tag
        sector 0).noteStart g).wearDraw key) := by
    apply Exists.intro
    refine ⟨(s.progPlace g).2.2, ?_⟩
    change execProgramStart ch die s = _
    unfold execProgramStart
    rw [htakes, if_neg (by decide), hprog]
    dsimp only
    rw [htag]
    rfl
  generalize hu : s.modProg i _ = u at hexec
  have hsend := State.sendCmd_within u ch.val die.val 0x02 tag sector 0
  have hdraws : ((u.sendCmd ch.val die.val 0x02 tag sector 0).noteStart g).draws = s.draws := by
    rw [(State.noteStart_within _ _).same .draws (by decide), hsend.same .draws (by decide), ← hu]
    rfl
  refine ⟨_, hexec, ⟨g.sent ch.val die.val sector tag s.clock, ?_, rfl, rfl, rfl, rfl, rfl, rfl⟩, ?_, fun hleaf => ?_⟩
  · rw [State.stp_wearDraw, State.progs_noteStart, hsend.same .stp (by decide), ← hu]
    exact Sparse.find_adjust_same _ hfind
  · rw [State.draws_wearDraw, hdraws]
  · rw [State.leaves_wearDraw (by rwa [hdraws]), State.leaves_noteStart, hsend.same .wlv (by decide), ← hu]
    rfl

/-- A die's drift clock after a tick at `temp`. -/
def DieState.ticked (d : DieState) (temp : Int) (passLog2 : Nat) : DieState :=
  let b := nextBucket d.bucket temp
  let pass := d.passClk + driftAccel b
  { d with
    bucket := b, clk := d.clk + BitVec.ofNat 48 (driftAccel b), passClk := pass
    late := decide (2 * 2 ^ passLog2 * 256 < pass), reload := d.reload || b != d.bucket }

/-- The state after a tick of a die's drift clock, before its temperature report is taken. -/
def State.driftTicked (s : State) (ch die : Nat) (temp : Int) : State :=
  let d := (s.ch ch).die die
  let d' := d.ticked temp s.stp.passLog2
  let s := (s.modDie ch die fun d => d.ticked temp s.stp.passLog2).sendCmd ch die 0x06 0 0 0
  let s := if d.clk.toNat / 2 ^ 24 = d'.clk.toNat / 2 ^ 24 then s else s.saveBase ch die
  if d'.late ∧ !d.late then s.fire (chanSrc ch 12) .warn (Detail.ofUnit die) else s

theorem State.die_driftTicked (s : State) (ch die : Nat) (temp : Int) :
    ((s.driftTicked ch die temp).ch ch).die die = ((s.ch ch).die die).ticked temp s.stp.passLog2 := by
  unfold State.driftTicked
  extract_lets d d' u w
  have hu : (u.ch ch).die die = d' := (State.die_sendCmd _ _ _ _ _ _ _ _).trans (State.die_modDie _ _ _ _)
  have hw : (w.ch ch).die die = d' := by
    unfold w
    split
    · exact hu
    · rwa [State.ch_congr ((State.saveBase_within _ _ _).same .mch (by decide))]
  split
  · rwa [State.ch_fire]
  · exact hw

theorem completes_driftClockTick {temp : Int} (hlow : -128 ≤ temp) (hhigh : temp < 105) (hup : (s.ch ch.val).up = true)
    (hfailed : bitOf (s.ch ch.val).diesFailed die.val = false) :
    Completes (.driftClockTick ch die temp) s fun t =>
      ((t.ch ch.val).die die.val).bucket = nextBucket ((s.ch ch.val).die die.val).bucket temp ∧
        ((t.ch ch.val).die die.val).clk = ((s.ch ch.val).die die.val).clk +
          BitVec.ofNat 48 (32 * 2 ^ nextBucket ((s.ch ch.val).die die.val).bucket temp) ∧
        ((t.ch ch.val).die die.val).tempC = temp := by
  have hwf : (Instr.driftClockTick ch die temp).wf = true := by
    simp only [Instr.wf, decide_eq_true_eq]
    omega
  have hexec : exec (.driftClockTick ch die temp) s =
      .next ((s.driftTicked ch.val die.val temp).dieTemp ch.val die.val temp) := by
    change execDriftClockTick ch die temp s = _
    unfold execDriftClockTick
    rw [hwf, if_neg (by decide)]
    dsimp only
    rw [if_neg (by simp [hup, hfailed])]
    rfl
  obtain ⟨hot, hdie⟩ := (s.driftTicked ch.val die.val temp).die_dieTemp ch.val die.val hhigh
  refine ⟨_, hexec, ?_⟩
  simp only [hdie, State.die_driftTicked, DieState.ticked, driftAccel, and_self]

/-- A die whose drift clock is restored from a saved time and an age. -/
def DieState.restored (d : DieState) (stamp age : BitVec 40) (base : Sparse Int) (row : Nat) : DieState :=
  { d with
    clk := BitVec.ofNat 48 ((stamp.toNat + age.toNat) * 256), base := base, reload := true
    provisional := true, decoded := 0, sweepRow := row }

end

/-- Settles O20: a program's start and resume, and what each event of a die's drift clock leaves. -/
theorem programsStartAndDriftClocksTick : Obligations.ProgramsStartAndDriftClocksTick := by
  refine ⟨fun ch die i g s hfind => ⟨completes_programResume hfind, fun hprog hread => ⟨_, rfl, ?_⟩,
    fun tag => completes_programStart hfind⟩, fun ch die s => ⟨fun temp => completes_driftClockTick,
      fun hreload hup => ?_, fun stamp age hup hdone hrep => ?_⟩⟩
  · simp [hprog, hread]
  · have hexec : exec (.offsetTableReload ch die) s =
        .next ((s.modDie ch.val die.val fun d => { d with table := !d.table, reload := false }).sendCmd ch.val
          die.val 0x08 0 0 0) := by
      change execOffsetTableReload ch die s = _
      simp [execOffsetTableReload, hreload, hup]
    refine ⟨_, hexec, ?_⟩
    simp [State.die_sendCmd]
  · have hexec : exec (.driftClockRestore ch die stamp age) s =
        .next (s.modDie ch.val die.val fun d => d.restored stamp age (s.savedBase ch.val die.val)
          (Sparse.get 0 s.media.sweepPoint (driftKey ch.val die.val))) := by
      change execDriftClockRestore ch die stamp age s = _
      unfold execDriftClockRestore
      rw [if_neg (by simp [hup, hdone, hrep])]
      rfl
    refine ⟨_, hexec, ?_⟩
    simp only [State.die_modDie, DieState.restored, and_self]

end Sys2Proof.Machine


/-! SUPPORT. Deep recovery and the poison list (O22). -/

namespace Sys2Proof.Machine

open Sys2Proof

/-! ## The poison list -/

theorem State.cam_poisonAdd (s : State) (lsn : Nat) (lines : BitVec 4) (st : PoisonState) :
    (s.poisonAdd lsn lines st).wlv.cam = s.wlv.cam := by
  unfold State.poisonAdd
  split
  · rfl
  · split_ifs
    · rfl
    · rfl
    · rw [State.fire_wlv]

theorem State.cam_poisonRestore (s : State) (lsn : Nat) (lines : BitVec 4) :
    (s.poisonRestore lsn lines).wlv.cam = s.wlv.cam := by
  unfold State.poisonRestore
  split_ifs
  · rfl
  · split <;> exact State.cam_poisonAdd _ _ _ _

theorem State.cam_noteMediaPoison (s : State) (lsn : Nat) (bits : BitVec 4) :
    (s.noteMediaPoison lsn bits).wlv.cam = s.wlv.cam := by
  unfold State.noteMediaPoison
  extract_lets
  split
  · rfl
  · exact State.cam_poisonRestore _ _ _

theorem State.cam_orderMember (s : State) (r pos : Nat) (why : RetireWhy) :
    (s.orderMember r pos why).wlv.cam = s.wlv.cam := by
  unfold State.orderMember State.orderRetire
  dsimp only
  split <;> rfl

theorem State.poison_orderMember (s : State) (r pos : Nat) (why : RetireWhy) :
    (s.orderMember r pos why).wlv.poison = s.wlv.poison := by
  unfold State.orderMember State.orderRetire
  dsimp only
  split <;> rfl

/-- An entry that has room in the list stands there with the lines and the state given. -/
theorem State.find_poisonSet {s : State} {lsn : Nat}
    (h : Sparse.find s.wlv.poison lsn ≠ none ∨ s.wlv.poison.length < 1048576) (lines : BitVec 4) (st : PoisonState) :
    Sparse.find (s.poisonSet lsn lines st).wlv.poison lsn = some ⟨lines, st, s.glb.time⟩ := by
  unfold State.poisonSet State.poisonAdd
  split
  · rename_i hnone
    rw [hnone]
    dsimp only
    rw [if_pos (h.resolve_left fun hne => hne hnone)]
    exact Sparse.find_put_same _ _ _
  · exact Sparse.find_put_same _ _ _

theorem State.cell_congr {s t : State} (h : t.media = s.media) (lsn : Nat) : t.cell lsn = s.cell lsn := by
  rw [State.cell, State.cell, h]

theorem State.cell_setCell (s : State) (lsn : Nat) (c : Stored) : (s.setCell lsn c).cell lsn = c := by
  have htorn : (s.setCell lsn c).media.torn.contains lsn = false := by
    simp [State.setCell]
  rw [State.cell, htorn]
  exact Sparse.get_set_same _ _ _ _

theorem State.poison_lostSector (s : State) (lsn : Nat) : (s.lostSector lsn).poison = 0xF#4 := by
  unfold State.lostSector
  dsimp only
  split <;> rfl

/-! ## The end of deep recovery -/

theorem State.stp_noteMediaPoison (s : State) (lsn : Nat) (bits : BitVec 4) :
    (s.noteMediaPoison lsn bits).stp = s.stp :=
  (State.noteMediaPoison_within s lsn bits).same .stp (by decide)

theorem State.stp_writeLost (s : State) (lsn : Nat) : (s.writeLost lsn).stp = s.stp :=
  (State.writeLost_within s lsn).same .stp (by decide)

theorem State.registers_rewriteMember (s : State) (row pos : Nat) :
    (s.rewriteMember row pos).stp.registers = s.stp.registers := rfl

theorem Stp.recovered_eq_of_registers {x y : Stp} (h : x.registers = y.registers) : x.recovered = y.recovered :=
  (congrArg Stp.recovered h :)

theorem Stp.tier3Active_eq_of_registers {x y : Stp} (h : x.registers = y.registers) :
    x.tier3Active = y.tier3Active :=
  (congrArg Stp.tier3Active h :)

/-- A recovered sector leaves the CAM, is counted and noted. -/
theorem State.tier3Recovered_leaves (s : State) (lsn : Nat) :
    lsn ∉ (s.tier3Recovered lsn).wlv.cam ∧
      (s.tier3Recovered lsn).stp.recovered = satAdd 0xFFFF s.stp.recovered 1 ∧
      (s.tier3Recovered lsn).fired 1211 .warn ∧ (s.tier3Recovered lsn).stp.tier3Active = s.stp.tier3Active := by
  unfold State.tier3Recovered
  extract_lets t u w _ x
  have hstp : w.stp.registers = s.stp.registers := by
    rw [State.registers_rewriteMember, State.stp_noteMediaPoison]
    rfl
  have hcam : w.wlv.cam = t.wlv.cam := by
    rw [(State.rewriteMember_within _ _ _).same .wlv (by decide), State.cam_noteMediaPoison]
  refine ⟨?_, ?_, (State.fired_fire _ _ _ _ _ _).mpr (by simp), ?_⟩
  · rw [State.fire_wlv]
    change lsn ∉ w.wlv.cam
    rw [hcam]
    simp [t, State.leaveCam]
  · rw [State.fire_stp]
    change satAdd 0xFFFF w.stp.recovered 1 = _
    rw [Stp.recovered_eq_of_registers hstp]
  · rw [State.fire_stp]
    change w.stp.tier3Active = _
    exact Stp.tier3Active_eq_of_registers hstp

theorem State.fired_writeLost (s : State) (lsn : Nat) : (s.writeLost lsn).fired 1212 .critical := by
  unfold State.writeLost
  dsimp only
  rw [State.fired_fire, if_pos rfl]

theorem State.cell_writeLost (s : State) (lsn : Nat) : (s.writeLost lsn).cell lsn = s.lostSector lsn := by
  unfold State.writeLost
  dsimp only
  rw [State.cell_congr (State.fire_media _ _ _ _),
    State.cell_congr ((State.poisonSet_within _ _ _ _).same .media (by decide)), State.cell_setCell]

theorem State.find_poison_writeLost {s : State} {lsn : Nat} (hroom : s.wlv.poison.length < 1048576) :
    Sparse.find (s.writeLost lsn).wlv.poison lsn = some ⟨0xF#4, .lost, s.glb.time⟩ := by
  unfold State.writeLost
  dsimp only
  rw [State.fire_wlv]
  exact State.find_poisonSet (s := s.setCell lsn (s.lostSector lsn)) (.inr hroom) _ _

/-- A lost sector leaves the CAM, is counted, and its entry and its cell say that every line is poisoned. -/
theorem State.tier3Lost_leaves {s : State} {lsn : Nat} (hroom : s.wlv.poison.length < 1048576) :
    lsn ∉ (s.tier3Lost lsn).wlv.cam ∧ (s.tier3Lost lsn).stp.lost = satAdd 0xFFFF s.stp.lost 1 ∧
      (s.tier3Lost lsn).fired 1212 .critical ∧ ((s.tier3Lost lsn).cell lsn).poison = 0xF#4 ∧
      Sparse.find (s.tier3Lost lsn).wlv.poison lsn = some ⟨0xF#4, .lost, s.glb.time⟩ := by
  have horder (t : State) := State.orderMember_within t (t.globalRow (rowOf lsn)) (posOf lsn) .error
  have hstp := s.stp_writeLost lsn
  have hfired := s.fired_writeLost lsn
  have hcell := s.cell_writeLost lsn
  have hpoison := State.find_poison_writeLost (lsn := lsn) hroom
  unfold State.tier3Lost
  generalize s.writeLost lsn = w at *
  extract_lets t _ u
  refine ⟨?_, ?_, ?_, ?_, ?_⟩
  · rw [State.cam_orderMember]
    simp [u, t, State.leaveCam]
  · rw [(horder u).same .stp (by decide), ← hstp]
    rfl
  · rw [(horder u).fired_iff (by decide)]
    exact hfired
  · rw [State.cell_congr ((horder u).same .media (by decide)), ← s.poison_lostSector lsn, ← hcell]
    rfl
  · rw [State.poison_orderMember]
    exact hpoison

/-! ## The copy of the list -/

/-- One entry copied from the list `p` to the stored list `m`. -/
def copyPoison (p m : Sparse Poison) (lsn : Nat) : Sparse Poison :=
  match Sparse.find p lsn with
  | some e => Sparse.put m lsn e
  | none => Sparse.erase m lsn

theorem find_copyPoison_same (p m : Sparse Poison) (lsn : Nat) :
    Sparse.find (copyPoison p m lsn) lsn = Sparse.find p lsn := by
  unfold copyPoison
  split
  · rename_i e h
    rw [h]
    exact Sparse.find_put_same _ _ _
  · rename_i h
    rw [h]
    exact Sparse.find_erase_same _ _

theorem find_copyPoison_other (p m : Sparse Poison) {lsn k : Nat} (h : k ≠ lsn) :
    Sparse.find (copyPoison p m lsn) k = Sparse.find m k := by
  unfold copyPoison
  split
  · exact Sparse.find_put_other m _ h
  · exact Sparse.find_erase_other m h

/-- After a copy, every entry copied reads as the list has it, and every other as before. -/
theorem find_foldl_copyPoison (p : Sparse Poison) (l : List Nat) (m : Sparse Poison) (k : Nat) :
    Sparse.find (l.foldl (copyPoison p) m) k = if k ∈ l then Sparse.find p k else Sparse.find m k := by
  induction l generalizing m with
  | nil => rfl
  | cons a l ih =>
    rw [List.foldl_cons, ih]
    by_cases hk : k ∈ l
    · simp [hk]
    · by_cases ha : k = a
      · subst ha
        simp [hk, find_copyPoison_same]
      · simp [hk, ha, find_copyPoison_other]

/-! ## The obligation -/

/-- The state in which a sector is no longer in work. -/
def State.leftTier3 (s : State) (lsn : Nat) : State :=
  { s with stp := { s.stp with tier3Active := s.stp.tier3Active.filter fun t => t.lsn != lsn } }

section
variable {lsn : BitVec 40} {s : State} (hrun : s.mst.running = true)
  (hwork : ∃ x ∈ s.stp.tier3Active, x.lsn = lsn.toNat)
include hrun hwork

theorem exec_tier3Outcome_recovered :
    exec (.tier3Outcome lsn true) s = .next ((s.leftTier3 lsn.toNat).tier3Recovered lsn.toNat) := by
  change execTier3Outcome lsn true s = _
  unfold execTier3Outcome
  rw [if_neg (by simpa [hrun] using hwork)]
  dsimp only
  rw [if_pos rfl, State.leftTier3]

theorem exec_tier3Outcome_lost :
    exec (.tier3Outcome lsn false) s = .next ((s.leftTier3 lsn.toNat).tier3Lost lsn.toNat) := by
  change execTier3Outcome lsn false s = _
  unfold execTier3Outcome
  rw [if_neg (by simpa [hrun] using hwork)]
  dsimp only
  rw [if_neg Bool.false_ne_true, State.leftTier3]

theorem completes_tier3Outcome_recovered :
    Completes (.tier3Outcome lsn true) s fun t =>
      lsn.toNat ∉ t.wlv.cam ∧ t.stp.recovered = satAdd 0xFFFF s.stp.recovered 1 ∧
        t.fired 1211 .warn ∧ ∀ x ∈ t.stp.tier3Active, x.lsn ≠ lsn.toNat := by
  obtain ⟨hcam, hrec, hfired, hactive⟩ := (s.leftTier3 lsn.toNat).tier3Recovered_leaves lsn.toNat
  refine ⟨_, exec_tier3Outcome_recovered hrun hwork, hcam, hrec, hfired, fun x hx => ?_⟩
  rw [hactive] at hx
  simpa using (List.mem_filter.mp hx).2

theorem completes_tier3Outcome_lost (hroom : s.wlv.poison.length < 1048576) :
    Completes (.tier3Outcome lsn false) s fun t =>
      lsn.toNat ∉ t.wlv.cam ∧ t.stp.lost = satAdd 0xFFFF s.stp.lost 1 ∧ t.fired 1212 .critical ∧
        (t.cell lsn.toNat).poison = 0xF#4 ∧
        ∃ e, Sparse.find t.wlv.poison lsn.toNat = some e ∧ e.state = .lost ∧ e.lines = 0xF#4 := by
  obtain ⟨hcam, hlost, hfired, hcell, hpoison⟩ :=
    State.tier3Lost_leaves (s := s.leftTier3 lsn.toNat) (lsn := lsn.toNat) hroom
  exact ⟨_, exec_tier3Outcome_lost hrun hwork, hcam, hlost, hfired, hcell, _, hpoison, rfl, rfl⟩

end

theorem completes_tier3Start {lsn : Nat} {rest : List Nat} {s : State} (hqueue : s.stp.tier3Queue = lsn :: rest)
    (hrun : s.mst.running = true) (hroom : s.stp.tier3Active.length < 64) :
    Completes .tier3Start s fun t =>
      t.stp.tier3Queue = rest ∧ t.stp.tier3Active = s.stp.tier3Active ++ [⟨lsn, s.clock⟩] := by
  have hgo : ¬(!s.mst.running ∨ 64 ≤ s.stp.tier3Active.length) := by simp [hrun, hroom]
  refine ⟨{ s with stp := { s.stp with
    tier3Queue := rest, tier3Active := s.stp.tier3Active ++ [⟨lsn, s.clock⟩] } }, ?_, rfl, rfl⟩
  change execTier3Start s = _
  unfold execTier3Start
  rw [hqueue]
  dsimp only
  rw [if_neg hgo]

theorem completes_poisonReconcile {lsn : BitVec 40} {e : Poison} {s : State}
    (hfind : Sparse.find s.wlv.poison lsn.toNat = some e) (hdone : s.glb.replayDone = true)
    (hload : s.wlv.loaded = true) (hstate : e.state ≠ .pending) (hdirty : s.blockDirty lsn.toNat = false) :
    Completes (.poisonReconcile lsn) s fun t =>
      (Sparse.find t.wlv.poison lsn.toNat).map Poison.lines =
        if (s.cell lsn.toNat).poison = 0#4 ∧ e.lines ≠ 0#4 then none else some (s.cell lsn.toNat).poison := by
  have hexec : exec (.poisonReconcile lsn) s = .next (
      if (s.cell lsn.toNat).poison = e.lines then s
      else if (s.cell lsn.toNat).poison = 0#4 then s.poisonDrop lsn.toNat
      else s.poisonSet lsn.toNat (s.cell lsn.toNat).poison e.state) := by
    change execPoisonReconcile lsn s = _
    unfold execPoisonReconcile
    rw [hfind]
    dsimp only
    rw [if_neg (by simp [hdone, hload, hstate, hdirty])]
  refine ⟨_, hexec, ?_⟩
  beta_reduce
  generalize (s.cell lsn.toNat).poison = bits
  by_cases heq : bits = e.lines
  · rw [if_pos heq, hfind, if_neg (by rw [heq]; exact fun h => h.2 h.1), heq, Option.map_some]
  · rw [if_neg heq]
    by_cases h0 : bits = 0#4
    · rw [if_pos h0, if_pos ⟨h0, fun he => heq (h0.trans he.symm)⟩]
      exact congrArg (Option.map Poison.lines) (Sparse.find_erase_same _ _)
    · rw [if_neg h0, if_neg (fun h => h0 h.1), State.find_poisonSet (.inl (by simp [hfind])), Option.map_some]

/-- Settles O22: a waiting sector is taken, ends recovered or lost, and the list follows the metadata. -/
theorem deepRecoveryAndPoisonFollowTheMetadata : Obligations.DeepRecoveryAndPoisonFollowTheMetadata := by
  refine ⟨⟨fun _ _ _ => completes_tier3Start, fun lsn b s hrun => ⟨⟨_, rfl, ?_⟩, ⟨_, rfl, ?_⟩⟩,
    fun _ _ hrun hwork => ⟨completes_tier3Outcome_recovered hrun hwork, completes_tier3Outcome_lost hrun hwork⟩⟩,
    fun s hslots => ?_, fun _ _ _ => completes_poisonReconcile⟩
  · split
    · rfl
    · simp [hrun]
  · simp [hrun]
  · have hexec : exec .poisonListCopy s = .next { s with
        media := { s.media with poison := s.wlv.poisonDirty.foldl (copyPoison s.wlv.poison) s.media.poison }
        wlv := { s.wlv with poisonDirty := [] } } := by
      change execPoisonListCopy s = _
      unfold execPoisonListCopy
      rw [if_neg (by simpa using hslots)]
      rfl
    refine ⟨_, hexec, rfl, rfl, fun k hk => ?_⟩
    change Sparse.find (s.wlv.poisonDirty.foldl (copyPoison s.wlv.poison) s.media.poison) k = _
    rw [find_foldl_copyPoison, if_pos hk]

end Sys2Proof.Machine


/-! SUPPORT. What each response of a module does (O23). -/

namespace Sys2Proof.Machine

open Sys2Proof

/-! ## Channels but for the last command sent -/

/-- A channel but for the last command sent on it. -/
def Mch.butCommand (c : Mch) : Mch := { c with lastCommand := 0 }

theorem Mch.burstCrc_congr {c d : Mch} (h : c.butCommand = d.butCommand) : c.burstCrc = d.burstCrc :=
  (congrArg Mch.burstCrc h :)

theorem Mch.progFail_congr {c d : Mch} (h : c.butCommand = d.butCommand) : c.progFail = d.progFail :=
  (congrArg Mch.progFail h :)

theorem State.butCommand_sendCmd (s : State) (ch die op tag sector arg n : Nat) :
    ((s.sendCmd ch die op tag sector arg).ch n).butCommand = (s.ch n).butCommand := by
  by_cases hn : n = ch
  · obtain ⟨w, h⟩ := s.ch_sendCmd ch die op tag sector arg
    rw [hn, h]
    rfl
  · unfold State.sendCmd
    dsimp only
    split <;> exact congrArg Mch.butCommand (State.ch_modCh_other _ _ hn)

@[simp] theorem State.ch_modRead (s : State) (id : Nat) (f : ReadOp → ReadOp) (n : Nat) :
    (s.modRead id f).ch n = s.ch n := rfl

theorem State.butCommand_sendRead (s : State) (id n : Nat) :
    ((s.sendRead id).ch n).butCommand = (s.ch n).butCommand := by
  unfold State.sendRead
  split
  · rfl
  · split
    · rfl
    · split
      · rw [State.ch_modRead, State.butCommand_sendCmd]
      · rfl

theorem State.butCommand_releaseSuspended (s : State) (ch die n : Nat) :
    ((s.releaseSuspended ch die).ch n).butCommand = (s.ch n).butCommand :=
  foldl_keeps (f := fun t (e : Nat × ReadOp) => t.sendRead e.1) (fun t : State => (t.ch n).butCommand)
    (fun t e => t.butCommand_sendRead e.1 n) _ s

/-! ## Programs -/

theorem State.progs_modRead (s : State) (id : Nat) (f : ReadOp → ReadOp) :
    (s.modRead id f).stp.progs = s.stp.progs := rfl

theorem State.progs_sendRead (s : State) (id : Nat) : (s.sendRead id).stp.progs = s.stp.progs := by
  unfold State.sendRead
  split
  · rfl
  · split
    · rfl
    · split
      · rw [State.progs_modRead, (State.sendCmd_within _ _ _ _ _ _ _).same .stp (by decide)]
      · rfl

theorem State.progs_releaseSuspended (s : State) (ch die : Nat) :
    (s.releaseSuspended ch die).stp.progs = s.stp.progs :=
  foldl_keeps (f := fun t (e : Nat × ReadOp) => t.sendRead e.1) (fun t : State => t.stp.progs)
    (fun t e => t.progs_sendRead e.1) _ s

/-- The number `i` has been given out, and no program has it any more. -/
def State.ProgGone (i : Nat) (s : State) : Prop :=
  i < s.stp.nextProg ∧ Sparse.find s.stp.progs i = none

theorem State.ProgGone.addProg {i : Nat} {s : State} (h : s.ProgGone i) (p : Prog) : (s.addProg p).ProgGone i := by
  obtain ⟨hi, hgone⟩ := h
  refine ⟨Nat.lt_succ_of_lt hi, ?_⟩
  change Sparse.find (Sparse.put s.stp.progs s.stp.nextProg p) i = none
  rw [Sparse.find_put_other _ _ (by omega), hgone]

theorem State.ProgGone.queuePrograms {i : Nat} {s : State} (h : s.ProgGone i) (id row : Nat)
    (news : List (Nat × Stored)) : (s.queuePrograms id row news).ProgGone i :=
  foldl_invariant (P := State.ProgGone i) (fun _ p ht => ht.addProg p) (s.rowPrograms .hostWriteBack (some id) row news) h

theorem State.ProgGone.formWriteThrough {i : Nat} {s : State} (h : s.ProgGone i) (k : Nat) :
    (s.formWriteThrough k).ProgGone i := by
  unfold State.formWriteThrough
  split
  · exact h
  · dsimp only
    split
    · exact h
    · refine State.ProgGone.queuePrograms ?_ _ _ _
      exact h

theorem State.ProgGone.retryWriters {i : Nat} {s : State} (h : s.ProgGone i) : s.retryWriters.ProgGone i :=
  foldl_invariant (P := State.ProgGone i) (fun _ k ht => ht.formWriteThrough k) _ h

/-- A confirmed program of a sector is gone, and its sector holds what it wrote. -/
theorem State.confirmProgram_sector {s : State} {i : Nat} {g : Prog} {l : Nat} {c : Stored}
    (hi : i < s.stp.nextProg) (hdata : g.data = .sector l c) (hkind : g.kind ≠ .unmapped) :
    (s.confirmProgram i g).ProgGone i ∧ (s.confirmProgram i g).cell l = c := by
  obtain ⟨u, hu, hgone⟩ : ∃ u : State, s.confirmProgram i g =
      (if g.set.isNone then (u.setCell l c).retryWriters else u.setCell l c) ∧ (u.setCell l c).ProgGone i := by
    refine ⟨{ s with stp := { s.stp with
      progs := Sparse.erase s.stp.progs i
      sets := Sparse.mapVals s.stp.sets fun t => { t with outstanding := t.outstanding.filter (· != i) } } }, ?_, hi,
        Sparse.find_erase_same _ _⟩
    unfold State.confirmProgram
    rw [hdata]
    cases hk : g.kind
    case unmapped => exact absurd hk hkind
    all_goals rfl
  rw [hu]
  split
  · refine ⟨hgone.retryWriters, ?_⟩
    rw [State.cell_congr ((State.retryWriters_within _).same .media (by decide)), State.cell_setCell]
  · exact ⟨hgone, State.cell_setCell _ _ _⟩

/-! ## Responses -/

@[simp] theorem State.ch_modProg (s : State) (i : Nat) (f : Prog → Prog) (n : Nat) : (s.modProg i f).ch n = s.ch n := rfl

theorem State.find_modProg {s : State} {i : Nat} {g : Prog} (h : Sparse.find s.stp.progs i = some g) (f : Prog → Prog) :
    Sparse.find (s.modProg i f).stp.progs i = some (f g) :=
  Sparse.find_adjust_same _ h

theorem State.find_modRead {s : State} {id : Nat} {x : ReadOp} (h : Sparse.find s.stp.reads id = some x)
    (f : ReadOp → ReadOp) : Sparse.find (s.modRead id f).stp.reads id = some (f x) :=
  Sparse.find_adjust_same _ h

theorem State.ch_bucketAdd (s : State) (c unit n : Nat) : (s.bucketAdd c unit).ch n = s.ch n :=
  State.ch_congr ((State.bucketAdd_within s c unit).same .mch (by decide)) n

theorem State.burstCrc_burstFails (s : State) (ch : Nat) :
    ((s.burstFails ch).ch ch).burstCrc = satAdd 0xFFF (s.ch ch).burstCrc 1 := by
  rw [State.burstFails, State.noteCrc, State.ch_bucketAdd, State.ch_modCh, State.ch_modCh]

theorem State.packetCrc_packetFails (s : State) (ch : Nat) :
    ((s.packetFails ch).ch ch).packetCrc = satAdd 0xFF (s.ch ch).packetCrc 1 := by
  rw [State.packetFails, State.noteCrc, State.ch_bucketAdd, State.ch_modCh, State.ch_modCh]

theorem State.onResponse_of_good {s : State} {ch : Chan} {r : Resp} (hlink : (s.ch ch.val).linkUp = true)
    (hcrc : r.crcOk = true) (f : State → State) : s.onResponse ch r f = .next (f s) := by
  unfold State.onResponse
  rw [hlink, hcrc, if_neg (by decide), if_neg (by decide)]

theorem State.onResponse_of_bad {s : State} {ch : Chan} {r : Resp} (hlink : (s.ch ch.val).linkUp = true)
    (hcrc : r.crcOk = false) (f : State → State) : s.onResponse ch r f = .next (s.packetFails ch.val) := by
  unfold State.onResponse
  rw [hlink, hcrc, if_neg (by decide), if_pos (by decide)]

/-- The state in which a die that answered counts as ready, with what its report says of its program. -/
def State.reported (s : State) (ch : Chan) (r : Resp) (rep : DieReport) : State :=
  let s := s.modDie ch.val r.die.val fun d => { d with notReady := false }
  let s := match s.progOf ch.val r with
    | none => s
    | some (i, g) => s.applyReport rep i g
  if rep.prog.val = 1 then s else s.releaseSuspended ch.val r.die.val

theorem exec_state_of_wf {ch : Chan} {s : State} {r : Resp} {rep : DieReport}
    (hwf : (Instr.state ch r rep).wf = true) :
    exec (.state ch r rep) s =
      s.onResponse ch r fun s => (s.reported ch r rep).dieTemp ch.val r.die.val r.status.toInt := by
  change execState ch r rep s = _
  unfold execState
  rw [hwf, if_neg (by decide)]
  rfl

theorem State.stp_dieTemp (s : State) (ch die : Nat) {t : Int} (h : t < 105) : (s.dieTemp ch die t).stp = s.stp := by
  unfold State.dieTemp
  dsimp only
  rw [if_neg (by omega)]
  split
  · rw [(State.alertCause_within _ _ _ _).same .stp (by decide), State.fire_stp]
    rfl
  · rfl

/-- A program whose verify failed waits to be sent again; after its second failure its data is kept, and the failure
is counted and recorded. -/
theorem State.verifyFailed_leaves {s : State} {i : Nat} {g : Prog} (hfind : Sparse.find s.stp.progs i = some g) :
    Sparse.find (s.verifyFailed i g).stp.progs i = some { g with
      status := .queued, suspends := 0, pulseRun := 0, fails := if g.fails = 0 then 1 else 2 } ∧
      (s.verifyFailed i g).media = s.media ∧
      (g.fails ≠ 0 → (s.verifyFailed i g).fired (chanSrc g.ch 9) .fault ∧
        ((s.verifyFailed i g).ch g.ch).progFail = satAdd 0xF (s.ch g.ch).progFail 1) := by
  unfold State.verifyFailed
  extract_lets again u md key
  by_cases h0 : g.fails = 0
  · rw [if_pos h0, if_pos h0]
    exact ⟨State.find_modProg hfind _, rfl, fun h => absurd h0 h⟩
  · rw [if_neg h0, if_neg h0]
    have horder := State.orderRetire_within u (moduleOf g.ch) (key / 2 ^ 20 % 32) (key % 2 ^ 20) .error
    refine ⟨?_, ?_, fun _ => ⟨(State.fired_fire _ _ _ _ _ _).mpr (by simp), ?_⟩⟩
    · rw [State.fire_stp, horder.same .stp (by decide)]
      exact State.find_modProg hfind _
    · rw [State.fire_media, horder.same .media (by decide)]
      rfl
    · rw [State.ch_fire, State.ch_congr (horder.same .mch (by decide)), State.ch_modCh]
      rfl

section
variable {ch : Chan} {s : State} {r : Resp} (hlink : (s.ch ch.val).linkUp = true)
include hlink

theorem completes_of_badResponse (hcrc : r.crcOk = false) {c : Instr}
    (hc : c ∈ [Instr.ack ch r, .nack ch r, .ready ch r, .done ch r, .fail ch r, .suspended ch r,
      .state ch r ⟨0, 0, 0#16⟩]) :
    Completes c s fun t =>
      (t.ch ch.val).packetCrc = satAdd 0xFF (s.ch ch.val).packetCrc 1 ∧ t.stp = s.stp ∧
        t.seq = s.seq ∧ t.media = s.media := by
  have hexec : exec c s = .next (s.packetFails ch.val) := by
    simp only [List.mem_cons, List.not_mem_nil, or_false] at hc
    obtain rfl | rfl | rfl | rfl | rfl | rfl | rfl := hc
    · exact (State.onResponse_of_bad hlink hcrc _ : execAck ch r s = _)
    · exact (State.onResponse_of_bad hlink hcrc _ : execNack ch r s = _)
    · exact (State.onResponse_of_bad hlink hcrc _ : execReady ch r s = _)
    · exact (State.onResponse_of_bad hlink hcrc _ : execDone ch r s = _)
    · exact (State.onResponse_of_bad hlink hcrc _ : execFail ch r s = _)
    · exact (State.onResponse_of_bad hlink hcrc _ : execSuspended ch r s = _)
    · rw [exec_state_of_wf rfl]
      exact State.onResponse_of_bad hlink hcrc _
  have hwithin := s.packetFails_within ch.val
  exact ⟨_, hexec, s.packetCrc_packetFails ch.val, hwithin.same .stp (by decide), hwithin.same .seq (by decide),
    hwithin.same .media (by decide)⟩

theorem completes_readBurst_whole {tag : Fin 64} {id : Nat} {x : ReadOp}
    (htag : s.readOfTag ch.val tag.val = some (id, x)) (hfind : Sparse.find s.stp.reads id = some x)
    (hst : x.status = .ready) :
    Completes (.readBurst ch tag true) s fun t =>
      Sparse.find t.stp.reads id = some { x with status := .transferred, resends := 0 } := by
  have hexec : exec (.readBurst ch tag true) s =
      .next (s.modRead id fun x => { x with status := .transferred, resends := 0 }) := by
    change execReadBurst ch tag true s = _
    simp [execReadBurst, htag, hst, hlink]
  exact ⟨_, hexec, State.find_modRead hfind _⟩

theorem completes_readBurst_broken {tag : Fin 64} {id : Nat} {x : ReadOp}
    (htag : s.readOfTag ch.val tag.val = some (id, x)) (hfind : Sparse.find s.stp.reads id = some x)
    (hst : x.status = .ready) (hresends : x.resends = 0) :
    Completes (.readBurst ch tag false) s fun t =>
      Sparse.find t.stp.reads id = some { x with resends := 1 } ∧
        (t.ch ch.val).burstCrc = satAdd 0xFFF (s.ch ch.val).burstCrc 1 := by
  have hexec : exec (.readBurst ch tag false) s =
      .next (((s.burstFails ch.val).sendCmd x.ch x.die 0x0A 0 0 x.tag).modRead id fun x => { x with resends := 1 }) := by
    change execReadBurst ch tag false s = _
    simp [execReadBurst, htag, hst, hlink, State.burstLost, hresends]
  refine ⟨_, hexec, State.find_modRead ?_ _, ?_⟩
  · rwa [(State.sendCmd_within _ _ _ _ _ _ _).same .stp (by decide),
      (State.burstFails_within _ _).same .stp (by decide)]
  · rw [State.ch_modRead, Mch.burstCrc_congr (State.butCommand_sendCmd _ _ _ _ _ _ _ _),
      State.burstCrc_burstFails]

variable (hcrc : r.crcOk = true)
include hcrc

theorem completes_ack :
    Completes (.ack ch r) s fun t => ((t.ch ch.val).die r.die.val).ackResent = false ∧ t.stp = s.stp := by
  refine ⟨_, (State.onResponse_of_good hlink hcrc _ : execAck ch r s = _), ?_⟩
  simp [State.modDie]

theorem completes_nack {i : Nat} {g : Prog} (hst : r.status = 0x02#8)
    (hprog : s.dieProg ch.val r.die.val = some (i, g)) (hfind : Sparse.find s.stp.progs i = some g)
    (htag : g.tag = r.tag.val) :
    Completes (.nack ch r) s fun t =>
      Sparse.find t.stp.progs i = some { g with started := s.clock, pulseRun := 0 } ∧
        (t.ch ch.val).burstCrc = satAdd 0xFFF (s.ch ch.val).burstCrc 1 := by
  have hexec : exec (.nack ch r) s = .next ((((s.modDie ch.val r.die.val fun d =>
      { d with ackResent := false }).burstFails ch.val).modProg i fun g =>
        { g with started := s.clock, pulseRun := 0 }).sendCmd ch.val r.die.val 0x02 g.tag g.sector 0) := by
    refine (State.onResponse_of_good hlink hcrc _ : execNack ch r s = _).trans ?_
    dsimp only
    rw [show (s.modDie ch.val r.die.val fun d => { d with ackResent := false }).progOf ch.val r = some (i, g) from hprog]
    simp [hst, htag]
  refine ⟨_, hexec, ?_, ?_⟩
  · rw [(State.sendCmd_within _ _ _ _ _ _ _).same .stp (by decide)]
    refine State.find_modProg ?_ _
    rwa [(State.burstFails_within _ _).same .stp (by decide)]
  · rw [Mch.burstCrc_congr (State.butCommand_sendCmd _ _ _ _ _ _ _ _)]
    refine (State.burstCrc_burstFails _ _).trans ?_
    rw [State.modDie, State.ch_modCh]
    rfl

theorem completes_ready {id : Nat} {x : ReadOp} (htag : s.readOfTag ch.val r.tag.val = some (id, x))
    (hfind : Sparse.find s.stp.reads id = some x) (hst : x.status = .sensing) :
    Completes (.ready ch r) s fun t =>
      Sparse.find t.stp.reads id = some { x with status := .ready, bucket := r.status.toNat } := by
  have hexec : exec (.ready ch r) s =
      .next (s.modRead id fun x => { x with status := .ready, bucket := r.status.toNat }) := by
    refine (State.onResponse_of_good hlink hcrc _ : execReady ch r s = _).trans ?_
    simp [htag, hst]
  exact ⟨_, hexec, State.find_modRead hfind _⟩

variable {i : Nat} {g : Prog} (hprog : s.dieProg ch.val r.die.val = some (i, g))
include hprog

theorem completes_done_running (hnew : i < s.stp.nextProg) {l : Nat} {c : Stored} (hst : g.status = .running)
    (hdata : g.data = .sector l c) (hkind : g.kind ≠ .unmapped) :
    Completes (.done ch r) s fun t => Sparse.find t.stp.progs i = none ∧ t.cell l = c := by
  have hexec : exec (.done ch r) s =
      .next (((s.notePulse g).confirmProgram i g).releaseSuspended ch.val r.die.val) := by
    refine (State.onResponse_of_good hlink hcrc _ : execDone ch r s = _).trans ?_
    rw [show s.progOf ch.val r = some (i, g) from hprog]
    simp [hst]
  obtain ⟨⟨-, hgone⟩, hcell⟩ := State.confirmProgram_sector (s := s.notePulse g) hnew hdata hkind
  refine ⟨_, hexec, ?_, ?_⟩
  · rw [State.progs_releaseSuspended, hgone]
  · rw [State.cell_congr ((State.releaseSuspended_within _ _ _).same .media (by decide)), hcell]

variable (hfind : Sparse.find s.stp.progs i = some g)
include hfind

theorem completes_done_withdrawn (hst : g.status = .withdrawn) :
    Completes (.done ch r) s fun t =>
      Sparse.find t.stp.progs i = some { g with status := .queued, suspends := 0, pulseRun := 0 } ∧
        t.media = s.media := by
  have hexec : exec (.done ch r) s = .next ((s.confirmWithdraw i).releaseSuspended ch.val r.die.val) := by
    refine (State.onResponse_of_good hlink hcrc _ : execDone ch r s = _).trans ?_
    rw [show s.progOf ch.val r = some (i, g) from hprog]
    simp [hst]
  refine ⟨_, hexec, ?_, (State.releaseSuspended_within _ _ _).same .media (by decide)⟩
  rw [State.progs_releaseSuspended]
  exact State.find_modProg hfind _

theorem completes_suspended (hst : g.status = .suspending) :
    Completes (.suspended ch r) s fun t =>
      Sparse.find t.stp.progs i = some { g with
        status := .suspended, pulseRun := g.pulseRun + (s.clock - g.started) / 2 } := by
  have hexec : exec (.suspended ch r) s = .next ((s.confirmSuspend i g).releaseSuspended ch.val r.die.val) := by
    refine (State.onResponse_of_good hlink hcrc _ : execSuspended ch r s = _).trans ?_
    rw [show s.progOf ch.val r = some (i, g) from hprog]
    simp [hst]
  refine ⟨_, hexec, ?_⟩
  beta_reduce
  rw [State.progs_releaseSuspended]
  exact State.find_modProg hfind _

theorem completes_fail (hst : g.status = .running) (hcode : r.status = 0x10#8) :
    Completes (.fail ch r) s fun t =>
      Sparse.find t.stp.progs i = some { g with
        status := .queued, suspends := 0, pulseRun := 0, fails := if g.fails = 0 then 1 else 2 } ∧
        t.media = s.media ∧
        (g.fails ≠ 0 → t.fired (chanSrc g.ch 9) .fault ∧
          (t.ch g.ch).progFail = satAdd 0xF (s.ch g.ch).progFail 1) := by
  have hexec : exec (.fail ch r) s = .next ((s.verifyFailed i g).releaseSuspended ch.val r.die.val) := by
    refine (State.onResponse_of_good hlink hcrc _ : execFail ch r s = _).trans ?_
    rw [show s.progOf ch.val r = some (i, g) from hprog]
    simp [hst, hcode]
  obtain ⟨hprogs, hmedia, hcounted⟩ := State.verifyFailed_leaves hfind
  have hwithin := State.releaseSuspended_within (s.verifyFailed i g) ch.val r.die.val
  refine ⟨_, hexec, ?_, (hwithin.same .media (by decide)).trans hmedia, fun hfails => ?_⟩
  · rw [State.progs_releaseSuspended, hprogs]
  · obtain ⟨hfired, hcount⟩ := hcounted hfails
    exact ⟨(hwithin.fired_iff (by decide) _ _).mpr hfired,
      (Mch.progFail_congr (State.butCommand_releaseSuspended _ _ _ _)).trans hcount⟩

theorem completes_state {rep : DieReport} (hrep : rep.prog.val = 1) (hst : g.status ≠ .withdrawn)
    (htemp : r.status.toInt < 105) :
    Completes (.state ch r rep) s fun t =>
      Sparse.find t.stp.progs i = some { g with
        status := .running, suspends := rep.suspends.val, started := s.clock
        pulseRun := 14000 - rep.remaining.toNat * 64 } ∧
        ((t.ch ch.val).die r.die.val).tempC = r.status.toInt ∧
        ((t.ch ch.val).die r.die.val).notReady = false := by
  have hwf : (Instr.state ch r rep).wf = true := by simp [Instr.wf, hrep]
  have hexec : exec (.state ch r rep) s =
      .next ((s.reported ch r rep).dieTemp ch.val r.die.val r.status.toInt) := by
    rw [exec_state_of_wf hwf]
    exact State.onResponse_of_good hlink hcrc _
  have hreported : s.reported ch r rep = (s.modDie ch.val r.die.val fun d => { d with notReady := false }).modProg i
      fun g => { g with
        status := .running, suspends := rep.suspends.val, started := s.clock
        pulseRun := 14000 - rep.remaining.toNat * 64 } := by
    unfold State.reported
    dsimp only
    rw [show (s.modDie ch.val r.die.val fun d => { d with notReady := false }).progOf ch.val r = some (i, g) from hprog]
    simp [State.applyReport, hrep, hst]
  obtain ⟨hot, hdie⟩ := (s.reported ch r rep).die_dieTemp ch.val r.die.val htemp
  have hdie' : ((s.reported ch r rep).ch ch.val).die r.die.val =
      { (s.ch ch.val).die r.die.val with notReady := false } := by
    rw [hreported, State.ch_modProg]
    exact State.die_modDie _ _ _ _
  refine ⟨_, hexec, ?_⟩
  beta_reduce
  rw [State.stp_dieTemp _ _ _ htemp, hdie, hdie', hreported]
  exact ⟨State.find_modProg hfind _, rfl, rfl⟩

end

/-- Settles O23: one clause for each response, from the state of the read or program that it names. -/
theorem moduleResponsesEndReadsAndPrograms : Obligations.ModuleResponsesEndReadsAndPrograms :=
  ⟨fun _ _ hlink => ⟨fun _ hcrc _ hc => completes_of_badResponse hlink hcrc hc, fun _ hcrc => completes_ack hlink hcrc,
      fun _ _ _ hcrc hst hprog hfind htag => completes_nack hlink hcrc hst hprog hfind htag,
      fun _ _ _ hcrc htag hfind hst => completes_ready hlink hcrc htag hfind hst,
      fun _ _ _ htag hfind hst => ⟨completes_readBurst_whole hlink htag hfind hst,
        completes_readBurst_broken hlink htag hfind hst⟩⟩,
    fun _ _ _ _ _ hlink hcrc hprog hfind hnew =>
      ⟨fun _ _ hst hdata hkind => completes_done_running hlink hcrc hprog hnew hst hdata hkind,
        completes_done_withdrawn hlink hcrc hprog hfind,
        fun hcode hst => completes_fail hlink hcrc hprog hfind hst hcode,
        completes_suspended hlink hcrc hprog hfind,
        fun _ hrep hst htemp => completes_state hlink hcrc hprog hfind hrep hst htemp⟩⟩

end Sys2Proof.Machine


/-! SUPPORT. The time limits of the link (O24): what routing a read leaves of a channel, and what an expiry counts. -/

namespace Sys2Proof.Machine

open Sys2Proof

/-! ## Channels but for what reads count -/

/-- A channel but for its last command, its counters of reads and its table of addresses. -/
def Mch.link (c : Mch) : Mch :=
  { c with
    lastCommand := 0, suspends := 0, withdrawals := 0, readArounds := 0, dualReads := 0, dcnt := []
    errSector := 0, errValid := false, errOutcome := 0, errDie := 0, addrTab := [], addrMade := 0, ringHead := 0
    addrOverflow := 0 }

theorem Mch.link_congr {c d : Mch} (h : c.butCommand = d.butCommand) : c.link = d.link :=
  (congrArg Mch.link h :)

theorem Mch.timeouts_congr {c d : Mch} (h : c.link = d.link) : c.timeouts = d.timeouts :=
  (congrArg Mch.timeouts h :)

theorem Mch.dies_congr {c d : Mch} (h : c.link = d.link) : c.dies = d.dies :=
  (congrArg Mch.dies h :)

/-- Every channel has the same link in both states. -/
def SameLinks (s t : State) : Prop := ∀ n, (t.ch n).link = (s.ch n).link

theorem SameLinks.of_within {W : List Part} {s t : State} (h : Within W s t) (hmch : Part.mch ∉ W) : SameLinks s t :=
  fun n => congrArg Mch.link (State.ch_congr (h.same .mch hmch) n)

theorem SameLinks.refl (s : State) : SameLinks s s := fun _ => rfl

theorem SameLinks.trans {s t u : State} (h : SameLinks s t) (h' : SameLinks t u) : SameLinks s u :=
  fun n => (h' n).trans (h n)

theorem State.sameLinks_modCh (s : State) (k : Nat) {f : Mch → Mch} (hf : ∀ c, (f c).link = c.link) :
    SameLinks s (s.modCh k f) := by
  intro n
  by_cases hn : n = k
  · rw [hn, State.ch_modCh, hf]
  · rw [State.ch_modCh_other _ _ hn]

theorem State.sameLinks_sendCmd (s : State) (ch die op tag sector arg : Nat) :
    SameLinks s (s.sendCmd ch die op tag sector arg) :=
  fun n => Mch.link_congr (s.butCommand_sendCmd ch die op tag sector arg n)

theorem State.sameLinks_sendRead (s : State) (id : Nat) : SameLinks s (s.sendRead id) :=
  fun n => Mch.link_congr (s.butCommand_sendRead id n)

theorem State.sameLinks_fire (s : State) (i : Nat) (v : Severity) (d : Detail) : SameLinks s (s.fire i v d) :=
  fun n => congrArg Mch.link (s.ch_fire i v d n)

theorem SameLinks.foldl {α : Type} {f : State → α → State} (h : ∀ s a, SameLinks s (f s a)) (l : List α) (s : State) :
    SameLinks s (l.foldl f s) :=
  foldl_invariant (P := SameLinks s) (fun t a ht => ht.trans (h t a)) l (SameLinks.refl s)

theorem State.sameLinks_suspendDie (s : State) (ch die : Nat) : SameLinks s (s.suspendDie ch die) := by
  unfold State.suspendDie
  split
  · exact SameLinks.refl s
  · split
    · exact SameLinks.refl s
    · extract_lets u
      have hu : SameLinks s u := fun _ => rfl
      exact (hu.trans (u.sameLinks_sendCmd _ _ _ _ _ _)).trans (State.sameLinks_modCh _ _ fun _ => rfl)

theorem State.sameLinks_withdrawDie (s : State) (ch die : Nat) : SameLinks s (s.withdrawDie ch die) := by
  unfold State.withdrawDie
  split
  · exact SameLinks.refl s
  · split
    · exact SameLinks.refl s
    · extract_lets u w
      have hu : SameLinks s u := fun _ => rfl
      have hw : SameLinks s w :=
        (hu.trans (u.sameLinks_sendCmd _ _ _ _ _ _)).trans (State.sameLinks_modCh _ _ fun _ => rfl)
      split
      · exact hw.trans (w.sameLinks_fire _ _ _)
      · exact hw

theorem State.sameLinks_readyMember (s : State) (row pos : Nat) : SameLinks s (s.readyMember row pos) := by
  unfold State.readyMember
  extract_lets p
  split
  · exact s.sameLinks_suspendDie _ _
  · exact s.sameLinks_withdrawDie _ _
  · exact SameLinks.refl s

theorem State.sameLinks_aroundWith (s : State) (id : Nat) (r : ReadOp) (ms : List Nat) :
    SameLinks s (s.aroundWith id r ms) := by
  have hmembers : SameLinks s (ms.foldl (fun s q => s.readyMember (rowOf r.lsn) q) s) :=
    SameLinks.foldl (fun t q => t.sameLinks_readyMember (rowOf r.lsn) q) ms s
  unfold State.aroundWith
  extract_lets row held u w
  have hw : SameLinks u w :=
    State.sameLinks_modCh ((u.occ 0x030 (ms.length - held.length)).occ 0x031 1) r.ch fun _ => rfl
  exact hmembers.trans hw

theorem State.sameLinks_directRead (s : State) (id : Nat) (r : ReadOp) : SameLinks s (s.directRead id r) := by
  unfold State.directRead
  split
  · exact s.sameLinks_sendRead id
  · split
    · exact s.sameLinks_sendRead id
    · extract_lets u
      have hu : SameLinks s u := by
        unfold u
        split
        · exact s.sameLinks_suspendDie _ _
        · exact s.sameLinks_withdrawDie _ _
      exact hu

theorem State.sameLinks_addrEntry (s : State) (ch die sector outcome : Nat) :
    SameLinks s (s.addrEntry ch die sector outcome) := by
  unfold State.addrEntry
  extract_lets c ring i old lost e u
  have hu : SameLinks s u := by
    intro n
    by_cases hn : n = ch
    · rw [hn, show u.ch ch = _ from s.ch_setCh ch _]
      rfl
    · exact congrArg Mch.link (s.ch_modCh_other (fun _ => _) hn)
  split
  · exact hu.trans (u.sameLinks_fire _ _ _)
  · exact hu

theorem State.sameLinks_makePending (s : State) (lsn : Nat) : SameLinks s (s.makePending lsn) := by
  unfold State.makePending
  extract_lets known p u _ v _ w x
  split
  · exact SameLinks.refl s
  · have hu : SameLinks s u := SameLinks.of_within (s.poisonSet_within _ _ _) (by decide)
    have hv : SameLinks u v := by
      unfold v
      split <;> exact fun _ => rfl
    have hw : SameLinks v w := by
      unfold w
      split <;> exact fun _ => rfl
    have hx : SameLinks w x := (w.sameLinks_addrEntry _ _ _ _).trans (State.sameLinks_modCh _ _ fun _ => rfl)
    exact (((hu.trans hv).trans hw).trans hx).trans (x.sameLinks_fire _ _ _)

theorem State.sameLinks_aroundRead (s : State) (id : Nat) (r : ReadOp) (force : Bool) :
    SameLinks s (s.aroundRead id r force) := by
  unfold State.aroundRead
  extract_lets row pos ms
  split
  · exact s.sameLinks_aroundWith _ _ _
  · split
    · exact fun _ => rfl
    · exact (s.sameLinks_makePending _).trans (SameLinks.of_within (State.failRead_within _ _) (by decide))

/-- Routing a read whose sector is neither lost nor held: to its die, around it, or both (R151 to R156). -/
def State.routeToDies (s : State) (id : Nat) (r : ReadOp) : State :=
  let p := s.place r.lsn
  let r : ReadOp := { r with ch := p.ch, die := p.die, sector := p.sector }
  let s := s.modRead id fun _ => r
  if p.absent || !(s.ch p.ch).up || s.underTest 3 (p.ch * 8 + p.die) then s.aroundRead id r true
  else
    let s := (s.wake (domainKey (.channel (Fin.ofNat 72 p.ch)))).wake
      (domainKey (.die (Fin.ofNat 72 p.ch) (Fin.ofNat 8 p.die)))
    let reach := s.reach (rowOf r.lsn) (posOf r.lsn)
    let direct := reach == .free || reach == .suspend
    let ms := s.candidates (rowOf r.lsn) (posOf r.lsn) [] false
    let around := decide (16 ≤ ms.length)
    if s.atRisk p && direct && around then
      let s := s.modCh p.ch fun c => { c with dualReads := satAdd 0xFFFF c.dualReads 1 }
      let s := s.modRead id fun r => { r with dual := true }
      (s.directRead id r).aroundWith id { r with direct := true } (ms.take 16)
    else if direct then s.directRead id r
    else if around then s.aroundWith id r (ms.take 16)
    else if reach == .withdraw then s.directRead id r
    else s

theorem State.routeRead_eq (s : State) (id : Nat) (r : ReadOp) :
    s.routeRead id r = if s.wlv.cam.contains r.lsn then s.failRead id
      else match s.heldCell r.lsn with
        | some c => s.finishRead id c
        | none => s.routeToDies id r := by rfl

theorem State.sameLinks_routeToDies (s : State) (id : Nat) (r : ReadOp) : SameLinks s (s.routeToDies id r) := by
  unfold State.routeToDies
  extract_lets p r' u v reach direct ms around w x
  have hu : SameLinks s u := SameLinks.of_within (s.modRead_within id _) (by decide)
  have hv : SameLinks s v :=
    (hu.trans (SameLinks.of_within (u.wake_within _) (by decide))).trans
      (SameLinks.of_within (State.wake_within _ _) (by decide))
  have hw : SameLinks v w := by
    refine v.sameLinks_modCh p.ch ?_
    exact fun _ => rfl
  have hx : SameLinks s x := (hv.trans hw).trans (SameLinks.of_within (w.modRead_within id _) (by decide))
  split
  · exact hu.trans (u.sameLinks_aroundRead _ _ _)
  · split
    · exact (hx.trans (x.sameLinks_directRead _ _)).trans (State.sameLinks_aroundWith _ _ _ _)
    · split
      · exact hv.trans (v.sameLinks_directRead _ _)
      · split
        · exact hv.trans (v.sameLinks_aroundWith _ _ _)
        · split
          · exact hv.trans (v.sameLinks_directRead _ _)
          · exact hv

theorem State.sameLinks_routeRead (s : State) (id : Nat) (r : ReadOp) : SameLinks s (s.routeRead id r) := by
  rw [State.routeRead_eq]
  split
  · exact SameLinks.of_within (s.failRead_within id) (by decide)
  · split
    · exact SameLinks.of_within (s.finishRead_within id _) (by decide)
    · exact s.sameLinks_routeToDies id r

theorem State.sameLinks_rerouteWaiting (s : State) (ch die : Nat) : SameLinks s (s.rerouteWaiting ch die) := by
  refine SameLinks.foldl (fun t e => ?_) _ s
  dsimp only
  split
  · exact SameLinks.refl t
  · split
    · exact fun _ => rfl
    · exact State.sameLinks_routeRead (t.modRead _ _) _ _

/-! ## Expiries (R205) -/

/-- The expiries of a die within the last second, this one with them. -/
def State.recentExpiries (s : State) (ch die : Nat) : List Nat :=
  (((s.ch ch).die die).expiries.filter fun t => decide (s.clock < t + sec 1)) ++ [s.clock]

/-- The state in which an expiry of a die is counted. -/
def State.expired (s : State) (ch die : Nat) : State :=
  ((s.modCh ch fun c => { c with timeouts := satAdd 0xFF c.timeouts 1 }).modDie ch die fun d =>
    { d with expiries := s.recentExpiries ch die }).bucketAdd 3 ch

theorem State.expiry_eq (s : State) (ch die : Nat) :
    s.expiry ch die = if 4 ≤ (s.recentExpiries ch die).length then
      (s.expired ch die).retireDie (moduleOf ch) (moduleDie (s.expired ch die).wlv.dies ch die)
    else s.expired ch die := rfl

theorem State.expired_within (s : State) (ch die : Nat) : Within [.mch, .hostLogs, .log, .evt] s (s.expired ch die) :=
  Within.step (State.bucketAdd_within _ _ _) (by decide)
    (Within.step (State.modDie_within _ _ _ _) (by decide)
      (Within.step (State.modCh_within _ _ _) (by decide) (Within.refl _ _)))

theorem State.ch_expired (s : State) (ch die : Nat) :
    (s.expired ch die).ch ch = Mch.setDie { s.ch ch with timeouts := satAdd 0xFF (s.ch ch).timeouts 1 } die
      { (s.ch ch).die die with expiries := s.recentExpiries ch die } := by
  rw [State.expired, State.ch_bucketAdd, State.modDie, State.ch_modCh, State.ch_modCh]
  rfl

theorem State.recentExpiries_lt {s : State} {ch die : Nat} (h : ((s.ch ch).die die).expiries.length < 3) :
    (s.recentExpiries ch die).length < 4 := by
  have hle := List.length_filter_le (fun t => decide (s.clock < t + sec 1)) ((s.ch ch).die die).expiries
  rw [State.recentExpiries, List.length_append, List.length_singleton]
  omega

theorem State.expiry_of_few {s : State} {ch die : Nat} (h : ((s.ch ch).die die).expiries.length < 3) :
    s.expiry ch die = s.expired ch die := by
  have hlt := State.recentExpiries_lt h
  rw [State.expiry_eq, if_neg (by omega)]

theorem SameLinks.few {s t : State} (h : SameLinks s t) {ch die : Nat}
    (hfew : ((s.ch ch).die die).expiries.length < 3) : ((t.ch ch).die die).expiries.length < 3 := by
  rwa [Mch.die, Mch.dies_congr (h ch)]

theorem SameLinks.timeouts_expired {s t : State} (h : SameLinks s t) (ch die : Nat) :
    ((t.expired ch die).ch ch).timeouts = satAdd 0xFF (s.ch ch).timeouts 1 := by
  rw [State.ch_expired]
  exact congrArg (satAdd 0xFF · 1) (Mch.timeouts_congr (h ch))

section
variable {ch : Chan} {die : Die} {s : State}

/-- The state in which an unanswered command is sent again, or, a second time, a quick retrain starts. -/
def State.ackExpired (s : State) (ch die : Nat) : State :=
  let again := ((s.ch ch).die die).ackResent
  let s := s.modDie ch die fun d => { d with ackResent := !again }
  if again then s.modCh ch fun c => { c with train := 0b10#2 } else s

theorem exec_ackTimeout (hup : (s.ch ch.val).up = true) :
    exec (.ackTimeout ch die) s = .next ((s.ackExpired ch.val die.val).expiry ch.val die.val) := by
  change execAckTimeout ch die s = _
  unfold execAckTimeout
  dsimp only
  rw [hup, if_neg (by decide)]
  rfl

theorem State.ch_ackExpired (s : State) (ch die : Nat) :
    (s.ackExpired ch die).ch ch =
      { Mch.setDie (s.ch ch) die { (s.ch ch).die die with ackResent := !((s.ch ch).die die).ackResent } with
        train := if ((s.ch ch).die die).ackResent then 0b10#2 else (s.ch ch).train } := by
  unfold State.ackExpired
  cases h : ((s.ch ch).die die).ackResent
  · simp [State.modDie, Mch.setDie]
  · simp [State.modDie, Mch.setDie]

theorem State.die_ackExpired (s : State) (ch die : Nat) :
    ((s.ackExpired ch die).ch ch).die die =
      { (s.ch ch).die die with ackResent := !((s.ch ch).die die).ackResent } := by
  rw [State.ch_ackExpired]
  exact Mch.die_setDie _ _ _

theorem completes_ackTimeout (hfew : ((s.ch ch.val).die die.val).expiries.length < 3)
    (hup : (s.ch ch.val).up = true) :
    Completes (.ackTimeout ch die) s fun t =>
      (t.ch ch.val).timeouts = satAdd 0xFF (s.ch ch.val).timeouts 1 ∧
        ((t.ch ch.val).die die.val).ackResent = !((s.ch ch.val).die die.val).ackResent ∧
        (t.ch ch.val).train = if ((s.ch ch.val).die die.val).ackResent then 0b10#2 else (s.ch ch.val).train := by
  refine ⟨_, exec_ackTimeout hup, ?_⟩
  beta_reduce
  rw [State.expiry_of_few (by rwa [State.die_ackExpired]), State.ch_expired, Mch.die_setDie, State.die_ackExpired,
    State.ch_ackExpired]
  exact ⟨rfl, rfl, rfl⟩

theorem completes_readBurstTimeout (hfew : ((s.ch ch.val).die die.val).expiries.length < 3) {tag : Fin 64} {id : Nat}
    {x : ReadOp} (htag : s.readOfTag ch.val tag.val = some (id, x)) (hfind : Sparse.find s.stp.reads id = some x)
    (hst : x.status = .ready) (hresends : x.resends = 0) (hdie : x.die = die.val) :
    Completes (.readBurstTimeout ch tag) s fun t =>
      (t.ch ch.val).timeouts = satAdd 0xFF (s.ch ch.val).timeouts 1 ∧
        Sparse.find t.stp.reads id = some { x with resends := 1 } := by
  have hexec : exec (.readBurstTimeout ch tag) s =
      .next (((s.sendCmd x.ch x.die 0x0A 0 0 x.tag).modRead id fun x => { x with resends := 1 }).expiry
        ch.val die.val) := by
    change execReadBurstTimeout ch tag s = _
    simp [execReadBurstTimeout, htag, hst, State.burstLost, hresends, hdie]
  have hlinks : SameLinks s ((s.sendCmd x.ch x.die 0x0A 0 0 x.tag).modRead id fun x => { x with resends := 1 }) :=
    s.sameLinks_sendCmd x.ch x.die 0x0A 0 0 x.tag
  refine ⟨_, hexec, ?_⟩
  beta_reduce
  rw [State.expiry_of_few (hlinks.few hfew), (State.expired_within _ _ _).same .stp (by decide)]
  refine ⟨hlinks.timeouts_expired ch.val die.val, State.find_modRead ?_ _⟩
  rwa [(State.sendCmd_within _ _ _ _ _ _ _).same .stp (by decide)]

theorem completes_suspendTimeout (hfew : ((s.ch ch.val).die die.val).expiries.length < 3) {i : Nat} {g : Prog}
    (hprog : s.dieProg ch.val die.val = some (i, g)) (hst : g.status = .suspending) :
    Completes (.suspendTimeout ch die) s fun t =>
      (t.ch ch.val).timeouts = satAdd 0xFF (s.ch ch.val).timeouts 1 ∧
        ((t.ch ch.val).die die.val).notReady = true := by
  have hexec : exec (.suspendTimeout ch die) s =
      .next ((((s.modDie ch.val die.val fun d => { d with notReady := true }).sendCmd ch.val die.val 0x06 0 0
        0).rerouteWaiting ch.val die.val).expiry ch.val die.val) := by
    change execSuspendTimeout ch die s = _
    simp [execSuspendTimeout, hprog, hst]
  generalize hu : (s.modDie ch.val die.val fun d => { d with notReady := true }) = u at hexec
  have hdie : (u.ch ch.val).die die.val = { (s.ch ch.val).die die.val with notReady := true } := by
    rw [← hu, State.die_modDie]
  have hlinks : SameLinks u ((u.sendCmd ch.val die.val 0x06 0 0 0).rerouteWaiting ch.val die.val) :=
    (u.sameLinks_sendCmd ch.val die.val 0x06 0 0 0).trans (State.sameLinks_rerouteWaiting _ ch.val die.val)
  refine ⟨_, hexec, ?_⟩
  beta_reduce
  rw [State.expiry_of_few (hlinks.few (by rwa [hdie]))]
  refine ⟨?_, ?_⟩
  · rw [hlinks.timeouts_expired, ← hu, State.modDie, State.ch_modCh]
    rfl
  · rw [State.ch_expired, Mch.die_setDie, Mch.die, Mch.dies_congr (hlinks ch.val)]
    exact congrArg DieState.notReady hdie

theorem completes_programTimeout_poll (hfew : ((s.ch ch.val).die die.val).expiries.length < 3) {i : Nat} {g : Prog}
    (hprog : s.dieProg ch.val die.val = some (i, g)) (hst : g.status = .running) (hlow : 16000 ≤ s.pulseTime g)
    (hhigh : s.pulseTime g < 28000) :
    Completes (.programTimeout ch die) s fun t =>
      (t.ch ch.val).timeouts = satAdd 0xFF (s.ch ch.val).timeouts 1 ∧ t.stp.progs = s.stp.progs := by
  have hexec : exec (.programTimeout ch die) s =
      .next ((s.sendCmd ch.val die.val 0x06 0 0 0).expiry ch.val die.val) := by
    change execProgramTimeout ch die s = _
    unfold execProgramTimeout
    rw [hprog]
    dsimp only
    rw [if_neg (by simp [hst, hlow]), if_neg (by omega)]
  have hlinks := s.sameLinks_sendCmd ch.val die.val 0x06 0 0 0
  refine ⟨_, hexec, ?_⟩
  beta_reduce
  rw [State.expiry_of_few (hlinks.few hfew), (State.expired_within _ _ _).same .stp (by decide),
    (State.sendCmd_within _ _ _ _ _ _ _).same .stp (by decide)]
  exact ⟨hlinks.timeouts_expired ch.val die.val, rfl⟩

end

/-! ## A die that fails with its expiry -/

theorem State.adoption_isSome_iff (s : State) (k d : Nat) :
    (s.adoption k d).isSome ↔ ∃ a ∈ s.wlv.adoptions, a.slot = k ∧ a.die = d := by
  simp [State.adoption]

/-- One adopter of a failing die hands its share on, or nothing changes. -/
theorem State.adoption_isSome_of_moved {s t : State} {a : Adoption} {adopters : List (Nat × Nat)} {k d : Nat}
    (h : (s.adoption k d).isSome)
    (ht : t.wlv.adoptions = s.wlv.adoptions.map fun x =>
      if x = a then { a with adopters := adopters, pointer := 0 } else x) :
    (t.adoption k d).isSome := by
  obtain ⟨x, hx, hslot, hdie⟩ := (s.adoption_isSome_iff k d).mp h
  refine (t.adoption_isSome_iff k d).mpr ⟨_, ht ▸ List.mem_map_of_mem hx, ?_⟩
  split
  · rename_i hxa
    exact ⟨hxa ▸ hslot, hxa ▸ hdie⟩
  · exact ⟨hslot, hdie⟩

/-- Moving a die's shares keeps a die's adoption. -/
theorem State.adoption_isSome_moveShares {s : State} {slot die k d : Nat} (h : (s.adoption k d).isSome) :
    ((s.moveShares slot die).adoption k d).isSome := by
  refine foldl_invariant (P := fun t : State => (t.adoption k d).isSome) (fun t a ht => ?_) _ h
  dsimp only
  split
  · split
    · exact ht
    · exact State.adoption_isSome_of_moved ht rfl
  · exact ht

theorem State.adoptions_noteSpares (s : State) (k : Nat) : (s.noteSpares k).wlv.adoptions = s.wlv.adoptions := by
  unfold State.noteSpares
  dsimp only
  split
  · rw [State.fire_wlv]
  · rfl

theorem State.adoption_congr {s t : State} (h : t.wlv.adoptions = s.wlv.adoptions) (k d : Nat) :
    t.adoption k d = s.adoption k d := by
  rw [State.adoption, State.adoption, h]

/-- A die that fails is adopted, or, where the module has no room for its swaths, the wear state stays. -/
theorem State.retireDie_adopts {s : State} {slot die : Nat} (hadopt : s.adoption slot die = none)
    (hcount : (s.wlv.adoptions.filter fun a => a.slot == slot).length < 4) :
    (s.retireDie slot die).wlv = s.wlv ∨ ((s.retireDie slot die).adoption slot die).isSome := by
  unfold State.retireDie
  dsimp only
  rw [hadopt, if_neg (by decide), if_neg (by omega)]
  have hwlv := (State.markDieFailed_within s (dieOfModule s.wlv.dies slot die).1
    (dieOfModule s.wlv.dies slot die).2).same .wlv (by decide)
  generalize s.markDieFailed _ _ = u at *
  split
  · refine .inl ?_
    rw [State.fire_wlv, State.fire_wlv]
    exact hwlv
  · refine .inr ?_
    rw [State.adoption_congr (congrArg Wlv.adoptions (State.settleLevel_wlv _)),
      State.adoption_congr (State.adoptions_noteSpares _ _),
      State.adoption_congr (congrArg Wlv.adoptions (State.fire_wlv _ _ _ _))]
    exact State.adoption_isSome_moveShares ((State.adoption_isSome_iff _ _ _).mpr
      ⟨⟨slot, die, _, 0⟩, List.mem_append_right _ List.mem_cons_self, rfl, rfl⟩)

section
variable {ch : Chan} {die : Die} {s : State} (hdie : die.val < s.wlv.dies / 4)
  (hadopt : s.adoption (moduleOf ch.val) (moduleDie s.wlv.dies ch.val die.val) = none)
  (hcount : (s.wlv.adoptions.filter fun a => a.slot == moduleOf ch.val).length < 4)
include hdie hadopt hcount

theorem State.diesFailed_retireDie :
    bitOf ((s.retireDie (moduleOf ch.val) (moduleDie s.wlv.dies ch.val die.val)).ch ch.val).diesFailed
      die.val = true := by
  have hat := dieOfModule_moduleDie (ch := ch.val) hdie
  have hsrc : 14 * ch.val + 4 ≠ 1008 ∧ 14 * ch.val + 4 ≠ 1214 ∧ 14 * ch.val + 4 ≠ 1215 ∧
    14 * ch.val + 4 ≠ 1217 := by omega
  obtain ⟨hmch, -⟩ := State.retireDie_marks hadopt hcount hsrc (by rw [hat, chanSrc])
  rw [State.ch_congr hmch, hat]
  exact State.diesFailed_markDieFailed s ch.val die

/-- A die that fails twice stands failed, whether or not the first failure found it adopters. -/
theorem State.diesFailed_retireDie_retireDie :
    bitOf (((s.retireDie (moduleOf ch.val) (moduleDie s.wlv.dies ch.val die.val)).retireDie (moduleOf ch.val)
      (moduleDie s.wlv.dies ch.val die.val)).ch ch.val).diesFailed die.val = true := by
  have hfirst := State.diesFailed_retireDie hdie hadopt hcount
  obtain hwlv | hsome := State.retireDie_adopts hadopt hcount
  · generalize s.retireDie _ _ = t at *
    have hagain := State.diesFailed_retireDie (ch := ch) (die := die) (s := t) (by rwa [hwlv])
      (by rwa [State.adoption_congr (congrArg Wlv.adoptions hwlv), hwlv]) (by rwa [hwlv])
    rwa [hwlv] at hagain
  · rwa [State.retireDie, if_pos hsome]

theorem completes_programTimeout_over {i : Nat} {g : Prog} (hprog : s.dieProg ch.val die.val = some (i, g))
    (hst : g.status = .running) (hpulse : 28000 ≤ s.pulseTime g) :
    Completes (.programTimeout ch die) s fun t => bitOf (t.ch ch.val).diesFailed die.val = true := by
  have hexec : exec (.programTimeout ch die) s = .next ((s.expiry ch.val die.val).retireDie (moduleOf ch.val)
      (moduleDie s.wlv.dies ch.val die.val)) := by
    change execProgramTimeout ch die s = _
    unfold execProgramTimeout
    rw [hprog]
    dsimp only
    rw [if_neg (by simp [hst]; omega), if_pos hpulse]
  have hwlv := (s.expired_within ch.val die.val).same .wlv (by decide)
  refine ⟨_, hexec, ?_⟩
  rw [State.expiry_eq]
  generalize s.expired ch.val die.val = t at *
  have hadopt' := (State.adoption_congr (congrArg Wlv.adoptions hwlv) _ _).trans hadopt
  rw [← hwlv] at hdie hcount hadopt' ⊢
  split
  · exact State.diesFailed_retireDie_retireDie hdie hadopt' hcount
  · exact State.diesFailed_retireDie hdie hadopt' hcount

theorem completes_ackTimeout_fourth
    (hmany : 3 ≤ (((s.ch ch.val).die die.val).expiries.filter fun t => decide (s.clock < t + sec 1)).length)
    (hup : (s.ch ch.val).up = true) :
    Completes (.ackTimeout ch die) s fun t => bitOf (t.ch ch.val).diesFailed die.val = true := by
  have hacked : Within [.mch] s (s.ackExpired ch.val die.val) := by
    unfold State.ackExpired
    dsimp only
    split
    · exact Within.step (State.modCh_within _ _ _) (by decide) (State.modDie_within _ _ _ _)
    · exact State.modDie_within _ _ _ _
  have hmany' : 4 ≤ ((s.ackExpired ch.val die.val).recentExpiries ch.val die.val).length := by
    rw [State.recentExpiries, State.die_ackExpired, hacked.same .clock (by decide), List.length_append,
      List.length_singleton]
    exact Nat.succ_le_succ hmany
  refine ⟨_, exec_ackTimeout hup, ?_⟩
  rw [State.expiry_eq, if_pos hmany']
  have hwlv := ((State.expired_within _ ch.val die.val).same .wlv (by decide)).trans (hacked.same .wlv (by decide))
  generalize (s.ackExpired ch.val die.val).expired ch.val die.val = t at *
  have hadopt' := (State.adoption_congr (congrArg Wlv.adoptions hwlv) _ _).trans hadopt
  rw [← hwlv] at hdie hcount hadopt'
  exact State.diesFailed_retireDie hdie hadopt' hcount

end

/-- Settles O24: every expiry is counted by `State.expired`, and a die that fails is marked on its channel. -/
theorem linkExpiriesAreCountedAndActedOn : Obligations.LinkExpiriesAreCountedAndActedOn :=
  fun _ _ _ => ⟨fun hfew => ⟨completes_ackTimeout hfew, fun _ _ _ => completes_readBurstTimeout hfew,
      fun _ _ hprog => ⟨completes_suspendTimeout hfew hprog, completes_programTimeout_poll hfew hprog⟩⟩,
    fun hdie hadopt hcount => ⟨fun _ _ => completes_programTimeout_over hdie hadopt hcount,
      completes_ackTimeout_fourth hdie hadopt hcount⟩⟩

end Sys2Proof.Machine


/-! SUPPORT. Channel training and the rebuild of a module (O25). -/

namespace Sys2Proof.Machine

open Sys2Proof

theorem State.slot_congr {s t : State} (h : t.seq = s.seq) (k : Nat) : t.slot k = s.slot k := by
  rw [State.slot, State.slot, h]

theorem State.fireSlot_eq (s : State) (k : Nat) (v : Severity) (st : SlotSt) :
    s.fireSlot k v st = s.fire (slotSrc k) v ⟨k, 0, 0x10 + st.code, 0⟩ := rfl

/-! ## Training (R208, R209) -/

/-- A channel that has trained. -/
def Mch.trainedNow (c : Mch) (dies : Nat) : Mch :=
  { c with
    linkUp := true, train := 0b11#2, trained := true, trainFails := 0, crcTimes := []
    diesReady := c.readyDies dies
    retrains := if c.trained then satAdd 0xFF c.retrains 1 else 0 }

/-- What follows a training touches no channel. -/
theorem State.ch_trained (s : State) (ch : Nat) : (s.trained ch).ch ch = (s.ch ch).trainedNow s.wlv.dies := by
  unfold State.trained
  extract_lets again u _ v _ w
  have hu : u.ch ch = (s.ch ch).trainedNow s.wlv.dies := s.ch_modCh ch _
  have hv : v.mch = u.mch := by
    unfold v
    split
    · exact u.fire_mch _ _ _
    · rfl
  have hw : w.mch = v.mch := by
    unfold w
    split <;> rfl
  rw [← hu]
  refine State.ch_congr (Eq.trans ?_ (hw.trans hv)) ch
  split
  · exact (w.takeStanding_within _).same .mch (by decide)
  · rfl

/-- A failed channel whose module has another channel left is down, and its source fires. -/
theorem State.failChannel_leaves {s : State} {ch : Chan}
    (hothers : ∀ n ∈ channelsOf (moduleOf ch.val), n ≠ ch.val → (s.ch n).failed = false) :
    ((s.failChannel ch.val).ch ch.val).failed = true ∧ ((s.failChannel ch.val).ch ch.val).linkUp = false ∧
      (s.failChannel ch.val).fired (chanSrc ch.val 0) .fault := by
  unfold State.failChannel
  extract_lets u v w x
  have hx : x.mch = u.mch := by
    rw [State.fire_mch, (v.dropPrograms_within _).same .mch (by decide), (u.rerouteReads_within _).same .mch (by decide)]
  have hch : x.ch ch.val = { s.ch ch.val with failed := true, linkUp := false, train := 0b00#2, diesReady := 0#8 } :=
    (State.ch_congr hx _).trans (s.ch_modCh ch.val _)
  obtain ⟨n, hn, hne⟩ : ∃ n ∈ channelsOf (moduleOf ch.val), n ≠ ch.val := by
    by_cases h : 4 * moduleOf ch.val = ch.val
    · exact ⟨4 * moduleOf ch.val + 1, by simp [channelsOf], by omega⟩
    · exact ⟨4 * moduleOf ch.val, by simp [channelsOf], h⟩
  have hleft : ((channelsOf (moduleOf ch.val)).all fun n => (x.ch n).failed) = false := by
    rw [List.all_eq_false]
    refine ⟨n, hn, ?_⟩
    rw [State.ch_congr hx, show u.ch n = s.ch n from s.ch_modCh_other _ hne, hothers n hn hne]
    decide
  have hsrc : chanSrc ch.val 0 ≠ 1008 := by
    have := ch.isLt
    unfold chanSrc
    omega
  rw [hleft, if_neg Bool.false_ne_true, State.ch_settleLevel, hch, State.fired_settleLevel _ _ _ hsrc]
  exact ⟨rfl, rfl, (State.fired_fire _ _ _ _ _ _).mpr (by simp)⟩

section
variable {ch : Chan} {s : State}

section
variable (hrst : (s.slot (moduleOf ch.val)).rst = false) (hpower : (s.slot (moduleOf ch.val)).powerGood = true)
  (hfailed : (s.ch ch.val).failed = false) (hclk : bitOf s.clk.chiutFailed (moduleOf ch.val) = false)
  (htrain : (s.ch ch.val).train.toNat < 2)
include hrst hpower hfailed hclk htrain

theorem exec_channelTraining (ok : Bool) :
    exec (.channelTraining ch ok) s = .next (
      if ok then s.trained ch.val
      else if (s.ch ch.val).trainFails = 0 then s.modCh ch.val fun c => { c with trainFails := 1, train := 0b01#2 }
      else s.failChannel ch.val) := by
  have h3 : (s.ch ch.val).train ≠ 0b11#2 := fun h => by simp [h] at htrain
  have h2 : (s.ch ch.val).train ≠ 0b10#2 := fun h => by simp [h] at htrain
  change execChannelTraining ch ok s = _
  unfold execChannelTraining
  dsimp only
  rw [if_neg (by simp [hrst, hpower, hfailed, hclk, h3, h2])]

theorem completes_channelTraining_passes :
    Completes (.channelTraining ch true) s fun t =>
      (t.ch ch.val).linkUp = true ∧ (t.ch ch.val).train = 0b11#2 ∧ (t.ch ch.val).trainFails = 0 := by
  refine ⟨_, exec_channelTraining hrst hpower hfailed hclk htrain true, ?_⟩
  beta_reduce
  rw [if_pos rfl, State.ch_trained]
  exact ⟨rfl, rfl, rfl⟩

theorem completes_channelTraining_fails (hfirst : (s.ch ch.val).trainFails = 0) :
    Completes (.channelTraining ch false) s fun t =>
      (t.ch ch.val).trainFails = 1 ∧ (t.ch ch.val).failed = false := by
  refine ⟨_, exec_channelTraining hrst hpower hfailed hclk htrain false, ?_⟩
  beta_reduce
  rw [if_neg Bool.false_ne_true, if_pos hfirst, State.ch_modCh]
  exact ⟨rfl, hfailed⟩

theorem completes_channelTraining_failsAgain (hagain : (s.ch ch.val).trainFails ≠ 0)
    (hothers : ∀ n ∈ channelsOf (moduleOf ch.val), n ≠ ch.val → (s.ch n).failed = false) :
    Completes (.channelTraining ch false) s fun t =>
      (t.ch ch.val).failed = true ∧ (t.ch ch.val).linkUp = false ∧ t.fired (chanSrc ch.val 0) .fault := by
  refine ⟨_, exec_channelTraining hrst hpower hfailed hclk htrain false, ?_⟩
  beta_reduce
  rw [if_neg Bool.false_ne_true, if_neg hagain]
  exact State.failChannel_leaves hothers

end

theorem completes_quickRetrain {why : RetrainWhy} {closingOk : Bool} (hup : (s.ch ch.val).linkUp = true)
    (hdue : s.retrainDue ch.val why = true) :
    Completes (.quickRetrain ch why closingOk) s fun t =>
      (t.ch ch.val).retrains = satAdd 0xFF (s.ch ch.val).retrains 1 ∧
        (t.ch ch.val).train = (if closingOk then 0b11#2 else 0b01#2) ∧ t.fired (chanSrc ch.val 1) .note := by
  refine ⟨_, rfl, ?_⟩
  simp [hup, hdue]

theorem completes_recentring {eye : Nat} {inRange : Bool} (hup : (s.ch ch.val).up = true) :
    Completes (.recentring ch eye inRange) s fun t =>
      (t.ch ch.val).retrains = (s.ch ch.val).retrains ∧ (t.ch ch.val).eyeMv = eye ∧
        (t.ch ch.val).train = (if inRange then (s.ch ch.val).train else 0b10#2) ∧ t.evt.src = s.evt.src := by
  refine ⟨_, rfl, ?_⟩
  dsimp only
  rw [hup, if_neg (by decide)]
  generalize hu : s.modCh ch.val _ = u
  have hch : u.ch ch.val =
      { s.ch ch.val with eyeMv := eye, train := if inRange then (s.ch ch.val).train else 0b10#2 } := by
    rw [← hu, State.ch_modCh]
  have hevt : u.evt = s.evt := hu ▸ rfl
  split
  · have hwithin := u.warnRecord_within ch.val eye
    rw [State.ch_congr (hwithin.same .mch (by decide)), hwithin.same .evt (by decide), hch, hevt]
    exact ⟨rfl, rfl, rfl, rfl⟩
  · rw [hch, hevt]
    exact ⟨rfl, rfl, rfl, rfl⟩

end

/-! ## Rebuild (R216 to R219) -/

theorem Stp.rebuildRow_eq_of_registers {x y : Stp} (h : x.registers = y.registers) : x.rebuildRow = y.rebuildRow :=
  (congrArg Stp.rebuildRow h :)

theorem Stp.rebuildModule_eq_of_registers {x y : Stp} (h : x.registers = y.registers) :
    x.rebuildModule = y.rebuildModule :=
  (congrArg Stp.rebuildModule h :)

section
variable {k : Slot} {s : State}

theorem State.dies_wearDraw (s : State) (key : Nat) : (s.wearDraw key).wlv.dies = s.wlv.dies := by
  unfold State.wearDraw State.bumpLeaf
  dsimp only
  split_ifs <;> rfl

theorem State.dies_wearBatch (s : State) (k row : Nat) : (s.wearBatch k row).wlv.dies = s.wlv.dies :=
  foldl_keeps (fun t : State => t.wlv.dies)
    (fun t _ => foldl_keeps (fun t : State => t.wlv.dies) (fun t _ => t.dies_wearDraw _) (List.range 32) t) _ s

theorem completes_rebuildStart (hpermit : s.rebuildPermit = true) (hpresent : 16 ≤ s.presentSlots.length)
    (hwaiting : (s.slot k.val).state = .waiting) (hfree : s.stp.rebuildModule = none) :
    Completes (.rebuildStart k) s fun t =>
      (t.slot k.val).state = .rebuilding ∧ t.stp.rebuildModule = some k.val ∧ t.stp.rebuildRow = 0 ∧
        t.fired 1209 .note := by
  have hgo : ¬((decide ((s.slot k.val).state ≠ .waiting) || s.stp.rebuildModule.isSome || !s.rebuildPermit ||
      decide (s.presentSlots.length < 16)) = true) := by
    simp [hpermit, hwaiting, hfree, hpresent]
  refine ⟨_, rfl, ?_⟩
  dsimp only
  rw [if_neg hgo, State.slot_fire, State.fire_stp]
  exact ⟨congrArg ModState.state (State.slot_modSlot _ _ _), rfl, rfl, (State.fired_fire _ _ _ _ _ _).mpr (by simp)⟩

theorem completes_rebuildStart_busy (hbusy : s.stp.rebuildModule ≠ none) :
    Completes (.rebuildStart k) s fun t => t = s := by
  have hsome : s.stp.rebuildModule.isSome = true := Option.isSome_iff_ne_none.mpr hbusy
  refine ⟨_, rfl, ?_⟩
  simp [hsome]

/-- The state after a batch, its rows counted and its pointer moved to `n`. -/
def State.batchDone (s : State) (k n : Nat) (times : List Nat) : State :=
  let s := s.wearBatch k s.stp.rebuildRow
  { s with stp := { s.stp with rebuildRow := n, rebuildTimes := times } }

theorem State.totalRows_batchDone (s : State) (k n : Nat) (times : List Nat) :
    (s.batchDone k n times).totalRows = s.totalRows := by
  have h : (s.batchDone k n times).wlv.dies = s.wlv.dies := s.dies_wearBatch k s.stp.rebuildRow
  rw [State.totalRows, State.totalRows, State.regions, State.regions, h]

theorem State.batchDone_within (s : State) (k n : Nat) (times : List Nat) :
    Within [.draws, .wlv, .stp] s (s.batchDone k n times) :=
  (Within.set_stp (by decide)).mpr (Within.step (s.wearBatch_within _ _) (by decide) (Within.refl _ _))

/-- The checkpoint of a rebuild that goes on at row `n`, every 2^20 rows. -/
def State.batchKept (s : State) (k old n : Nat) : State :=
  if n / 1048576 = old / 1048576 then s else s.setMember k (.rebuilding n)

theorem State.batchKept_within (s : State) (k old n : Nat) : Within [.media] s (s.batchKept k old n) := by
  unfold State.batchKept
  split
  · exact Within.refl _ _
  · exact s.setMember_within _ _

/-- The end of a rebuild leaves the module in service, in its record too, and is noted. -/
theorem State.endRebuild_leaves (s : State) (k : Slot) :
    ((s.endRebuild k.val).slot k.val).state = .inService ∧ (s.endRebuild k.val).stp.rebuildModule = none ∧
      (s.endRebuild k.val).fired 1210 .note ∧
      (Sparse.find (s.endRebuild k.val).media.members k.val).map MemberRec.standing = some .inService ∧
      (s.endRebuild k.val).bly = s.bly := by
  have hsrc : 1210 ≠ slotSrc k.val := by
    have := k.isLt
    unfold slotSrc
    omega
  unfold State.endRebuild
  dsimp only
  rw [State.slot_settleLevel, State.settleLevel_stp, State.fired_settleLevel _ _ _ (by decide),
    State.settleLevel_media, State.settleLevel_bly, State.fireSlot_eq, State.slot_fire, State.fire_stp,
    State.fired_fire, if_neg hsrc, State.fire_media, State.fire_bly, State.slot_fire, State.fire_stp,
    State.fired_fire, if_pos rfl, State.fire_media, State.fire_bly]
  refine ⟨congrArg ModState.state (State.slot_modSlot _ _ _), rfl, rfl, ?_, rfl⟩
  exact congrArg (Option.map MemberRec.standing) (Sparse.find_put_same _ _ _)

/-- Where no request waits at its slice and none waits for a set, nothing is tried again. -/
theorem State.retryLookups_retryWriters {s : State} (h : s.bly.noLookup) :
    s.retryWriters.retryLookups = s.retryWriters :=
  State.retryLookups_eq_self (by rwa [(State.retryWriters_within s).same .bly (by decide)])

section
variable {n : Nat} (hpermit : s.rebuildPermit = true) (hpresent : 16 ≤ s.presentSlots.length)
  (hmodule : s.stp.rebuildModule = some k.val) (hst : (s.slot k.val).state = .rebuilding)
  (hbly : ∀ e ∈ s.bly.entries, e.2.st ≠ .lookup ∧ e.2.st ≠ .write) (hn : n = s.stp.rebuildRow + 32 * s.wlv.dies)
include hpermit hpresent hmodule hst hn

theorem exec_rebuildBatchConfirmed :
    ∃ times, exec .rebuildBatchConfirmed s = .next (
      (if s.totalRows ≤ n then (s.batchDone k.val n times).endRebuild k.val
        else (s.batchDone k.val n times).batchKept k.val s.stp.rebuildRow n).retryWriters.retryLookups) := by
  refine ⟨(s.stp.rebuildTimes.filter fun t => decide (s.clock < t + sec 1)) ++ [s.clock], ?_⟩
  rw [← s.totalRows_batchDone k.val n
    ((s.stp.rebuildTimes.filter fun t => decide (s.clock < t + sec 1)) ++ [s.clock])]
  change execRebuildBatchConfirmed s = _
  unfold execRebuildBatchConfirmed
  rw [hmodule]
  dsimp only
  rw [if_neg (by simp [hpermit, hpresent, hst]), ← hn]
  rfl

include hbly

theorem completes_rebuildBatchConfirmed_more (hmore : n < s.totalRows) :
    Completes .rebuildBatchConfirmed s fun t => t.stp.rebuildRow = n ∧ (t.slot k.val).state = .rebuilding := by
  obtain ⟨times, hexec⟩ := exec_rebuildBatchConfirmed hpermit hpresent hmodule hst hn
  have hdone := s.batchDone_within k.val n times
  have hrow : (s.batchDone k.val n times).stp.rebuildRow = n := rfl
  refine ⟨_, hexec, ?_⟩
  rw [if_neg (by omega)]
  generalize s.batchDone k.val n times = u at *
  have hkept := u.batchKept_within k.val s.stp.rebuildRow n
  generalize u.batchKept k.val s.stp.rebuildRow n = w at *
  have hlookup : w.bly.noLookup := by
    rw [hkept.same .bly (by decide), hdone.same .bly (by decide)]
    exact fun e he => (hbly e he).1
  rw [State.retryLookups_retryWriters hlookup, Stp.rebuildRow_eq_of_registers (State.registers_retryWriters w),
    State.slot_congr ((State.retryWriters_within w).same .seq (by decide)), hkept.same .stp (by decide),
    State.slot_congr (hkept.same .seq (by decide)), State.slot_congr (hdone.same .seq (by decide))]
  exact ⟨hrow, hst⟩

theorem completes_rebuildBatchConfirmed_last (hlast : s.totalRows ≤ n) :
    Completes .rebuildBatchConfirmed s fun t =>
      (t.slot k.val).state = .inService ∧ t.stp.rebuildModule = none ∧ t.fired 1210 .note ∧
        (Sparse.find t.media.members k.val).map MemberRec.standing = some .inService := by
  obtain ⟨times, hexec⟩ := exec_rebuildBatchConfirmed hpermit hpresent hmodule hst hn
  have hdone := s.batchDone_within k.val n times
  refine ⟨_, hexec, ?_⟩
  rw [if_pos hlast]
  generalize s.batchDone k.val n times = u at *
  obtain ⟨hslot, hmod, hfired, hmember, hbly'⟩ := u.endRebuild_leaves k
  generalize u.endRebuild k.val = w at *
  have hlookup : w.bly.noLookup := by
    rw [hbly', hdone.same .bly (by decide)]
    exact fun e he => (hbly e he).1
  have hretry := State.retryWriters_within w
  rw [State.retryLookups_retryWriters hlookup, Stp.rebuildModule_eq_of_registers (State.registers_retryWriters w),
    State.slot_congr (hretry.same .seq (by decide)), hretry.fired_iff (by decide), hretry.same .media (by decide)]
  exact ⟨hslot, hmod, hfired, hmember⟩

end

end

/-- Settles O25: the branches of a training, and of the rebuild that a member goes through. -/
theorem trainingAndRebuildBringMembersBack : Obligations.TrainingAndRebuildBringMembersBack :=
  ⟨fun _ _ => ⟨fun hrst hpower hfailed hclk htrain =>
      ⟨completes_channelTraining_passes hrst hpower hfailed hclk htrain,
        completes_channelTraining_fails hrst hpower hfailed hclk htrain,
        completes_channelTraining_failsAgain hrst hpower hfailed hclk htrain⟩,
      fun _ _ => completes_quickRetrain, fun _ _ => completes_recentring⟩,
    fun _ _ hpermit hpresent => ⟨completes_rebuildStart hpermit hpresent, completes_rebuildStart_busy,
      fun hmodule hst hbly => ⟨completes_rebuildBatchConfirmed_more hpermit hpresent hmodule hst hbly rfl,
        completes_rebuildBatchConfirmed_last hpermit hpresent hmodule hst hbly rfl⟩⟩⟩

end Sys2Proof.Machine


/-! SUPPORT. The states of the module slots (O26). -/

namespace Sys2Proof.Machine

open Sys2Proof

/-! ## Failure and removal (R214) -/

theorem State.seq_completeBg (s : State) (m : Nat) (rc : RetCode) (v : Vendor) (out : Output) :
    (s.completeBg m rc v out).seq = s.seq :=
  (s.completeBg_within m rc v out).same .seq (by decide)

theorem State.slot_endRetire (s : State) (k : Nat) (v : Vendor) :
    (s.endRetire k v).slot k = { s.slot k with retireMbox := none, admitMbox := none } := by
  unfold State.endRetire
  extract_lets x u w
  have hu : u.seq = s.seq := by
    unfold u
    split
    · exact s.seq_completeBg _ _ _ _
    · rfl
  have hw : w.seq = u.seq := by
    unfold w
    split
    · exact u.seq_completeBg _ _ _ _
    · rfl
  rw [State.slot_modSlot, State.slot_congr (hw.trans hu)]

theorem State.slot_memberOut (s : State) (k n : Nat) : (s.memberOut k).slot n = s.slot n :=
  State.slot_congr ((s.memberOut_within k).same .seq (by decide)) n

/-- A member that the set knows is recorded out. -/
theorem State.standing_memberOut {s : State} {k : Nat} {m : MemberRec} (h : Sparse.find s.media.members k = some m) :
    (Sparse.find (s.memberOut k).media.members k).map MemberRec.standing = some .out := by
  have hsome : (Sparse.find s.media.members k).isSome := by rw [h]; rfl
  unfold State.memberOut
  rw [if_pos hsome]
  exact congrArg (Option.map MemberRec.standing) (Sparse.find_put_same _ _ _)

/-- A module in use that fails is held in reset with its rails off, and recorded out of the set. -/
theorem State.failModule_leaves {s : State} {k : Nat} (hpresent : (s.slot k).present = true)
    (hst : (s.slot k).state ≠ .failed ∧ (s.slot k).state ≠ .safe ∧ (s.slot k).state ≠ .empty) :
    (((s.failModule k).slot k).state = .failed ∧ ((s.failModule k).slot k).rst = true ∧
      ((s.failModule k).slot k).railsOn = false) ∧
      ∀ m, Sparse.find s.media.members k = some m →
        (Sparse.find (s.failModule k).media.members k).map MemberRec.standing = some .out := by
  obtain ⟨hfailed, hsafe, hempty⟩ := hst
  unfold State.failModule
  extract_lets x u v w
  have hgo : ¬(!x.present ∨ x.state = .failed ∨ x.state = .safe ∨ x.state = .empty) := by
    simp [x, hpresent, hfailed, hsafe, hempty]
  rw [if_neg hgo]
  have hlose := u.loseModule_within k
  have hretry := State.retryLookups_within w.settleLevel
  have hu : v.slot k = u.slot k := (State.slot_memberOut _ _ _).trans (State.slot_congr (hlose.same .seq (by decide)) k)
  have hw : w.slot k = { u.slot k with retireMbox := none, admitMbox := none } := by
    rw [State.slot_endRetire, State.fireSlot_eq, State.slot_fire, hu]
  rw [State.slot_congr (hretry.same .seq (by decide)), State.slot_settleLevel, hw, State.slot_modSlot,
    hretry.same .media (by decide), State.settleLevel_media, (State.endRetire_within _ _ _).same .media (by decide),
    State.fireSlot_eq, State.fire_media]
  refine ⟨⟨rfl, rfl, rfl⟩, fun m hm => State.standing_memberOut (m := m) ?_⟩
  rwa [hlose.same .media (by decide)]

theorem State.emptySlot_leaves {s : State} {k : Nat} (h : (s.slot k).state = .failed ∨ (s.slot k).state = .safe) :
    ((s.emptySlot k).slot k).state = .empty ∧ ((s.emptySlot k).slot k).present = false ∧
      (s.emptySlot k).fired (slotSrc k) .note := by
  unfold State.emptySlot
  rw [if_pos h, State.fireSlot_eq, State.slot_fire, State.slot_modSlot]
  exact ⟨rfl, rfl, (State.fired_fire _ _ _ _ _ _).mpr (by simp)⟩

section
variable {k : Slot} {s : State}

theorem completes_moduleRemoval (hpresent : (s.slot k.val).present = true) (hst : (s.slot k.val).state ≠ .empty) :
    Completes (.moduleRemoval k) s fun t =>
      (t.slot k.val).state = .empty ∧ (t.slot k.val).present = false ∧ t.fired (slotSrc k.val) .note := by
  refine ⟨_, rfl, State.emptySlot_leaves ?_⟩
  by_cases hout : (s.slot k.val).state = .failed ∨ (s.slot k.val).state = .safe
  · have hsame : s.failModule k.val = s := by
      unfold State.failModule
      exact if_pos (.inr (hout.elim .inl fun h => .inr (.inl h)))
    rwa [hsame]
  · rw [not_or] at hout
    exact .inl (State.failModule_leaves hpresent ⟨hout.1, hout.2, hst⟩).1.1

/-! ## Alerts (R211, Table CHIUT-9) -/

/-- The state in which a module's part of the power budget is halved. -/
def State.capHalvedAt (s : State) (k : Nat) : State :=
  ({ s with reef := { s.reef with capHalved := setBit s.reef.capHalved k true } }).modSlot k fun x =>
    { x with coolSince := none }

theorem State.slot_alertCause (s : State) (k cause : Nat) (v : Severity) (n : Nat) :
    (s.alertCause k cause v).slot n =
      if n = k then { s.slot k with alertCause := BitVec.ofNat 8 cause } else s.slot n := by
  rw [State.alertCause, State.slot_fire]
  split
  · rename_i h
    rw [h, State.slot_modSlot]
  · rw [State.slot_modSlot_other _ _ ‹_›]

theorem State.fired_alertCause (s : State) (k cause : Nat) (v : Severity) :
    (s.alertCause k cause v).fired (slotSrc k) v :=
  (State.fired_fire _ _ _ _ _ _).mpr (by simp)

/-- An alert moves no slot's state, and so no module in or out of service. -/
theorem State.modulesOut_alertCause (s : State) (k cause : Nat) (v : Severity) :
    (s.alertCause k cause v).modulesOut = s.modulesOut := by
  refine List.countP_congr fun n _ => ?_
  rw [State.slot_alertCause]
  split
  · rename_i h
    rw [h]
  · rfl

theorem State.state_beginRetire (s : State) (k : Nat) (mbox : Option Mbox) :
    ((s.beginRetire k mbox).slot k).state = .retiring := by
  unfold State.beginRetire
  rw [State.slot_settleLevel, State.slot_congr ((State.rerouteReads_within _ _).same .seq (by decide)),
    State.slot_modSlot]

section
variable (hpresent : (s.slot k.val).present = true) (hst : (s.slot k.val).state = .inService)

include hpresent

theorem exec_moduleAlert (cause : Fin 8) :
    exec (.moduleAlert k cause) s = .next (match cause.val with
      | 1 => (s.capHalvedAt k.val).alertCause k.val 1 .warn
      | 3 => (s.alertCause k.val 3 .critical).failModule k.val
      | 4 => (s.alertCause k.val 4 .fault).failModule k.val
      | 5 =>
        let s := s.alertCause k.val 5 .note
        if (s.slot k.val).state = .inService && !s.retireRefused then s.beginRetire k.val none else s
      | 6 => s.alertCause k.val 6 .warn
      | _ => s) := by
  change execModuleAlert k cause s = _
  unfold execModuleAlert
  rw [hpresent, if_neg (by decide)]
  rfl

theorem completes_moduleAlert_cap :
    Completes (.moduleAlert k 1) s fun t =>
      bitOf t.reef.capHalved k.val = true ∧ t.fired (slotSrc k.val) .warn ∧ (t.slot k.val).alertCause = 1#8 := by
  have hexec : exec (.moduleAlert k 1) s = .next ((s.capHalvedAt k.val).alertCause k.val 1 .warn) :=
    exec_moduleAlert hpresent 1
  refine ⟨_, hexec, ?_, State.fired_alertCause _ _ _ _, ?_⟩
  · rw [(State.alertCause_within _ _ _ _).same .reef (by decide)]
    exact bitOf_setBit_same _ _ k.isLt
  · rw [State.slot_alertCause, if_pos rfl]

theorem completes_moduleAlert_temperature : Completes (.moduleAlert k 2) s fun t => t = s :=
  ⟨_, exec_moduleAlert hpresent 2, rfl⟩

include hst

/-- A module that fails by an alert of its own fails as one that fails without. -/
theorem State.failModule_of_alert (cause : Nat) (v : Severity) :
    let t := (s.alertCause k.val cause v).failModule k.val
    (t.slot k.val).state = .failed ∧ (t.slot k.val).rst = true ∧ (t.slot k.val).railsOn = false ∧
      ∀ m, Sparse.find s.media.members k.val = some m →
        (Sparse.find t.media.members k.val).map MemberRec.standing = some .out := by
  have hslot := s.slot_alertCause k.val cause v k.val
  rw [if_pos rfl] at hslot
  have hmedia := (s.alertCause_within k.val cause v).same .media (by decide)
  generalize s.alertCause k.val cause v = u at *
  obtain ⟨⟨hfailed, hrst, hrails⟩, hmember⟩ := State.failModule_leaves (s := u) (k := k.val) (by rwa [hslot])
    (by rw [hslot, hst]; decide)
  exact ⟨hfailed, hrst, hrails, fun m hm => hmember m (by rwa [hmedia])⟩

theorem completes_moduleFails {c : Instr} (hc : c ∈ [Instr.moduleAlert k 3, .moduleAlert k 4, .moduleFailure k]) :
    Completes c s fun t =>
      (t.slot k.val).state = .failed ∧ (t.slot k.val).rst = true ∧ (t.slot k.val).railsOn = false ∧
        ∀ m, Sparse.find s.media.members k.val = some m →
          (Sparse.find t.media.members k.val).map MemberRec.standing = some .out := by
  simp only [List.mem_cons, List.not_mem_nil, or_false] at hc
  obtain rfl | rfl | rfl := hc
  · exact ⟨_, exec_moduleAlert hpresent 3, State.failModule_of_alert hpresent hst 3 .critical⟩
  · exact ⟨_, exec_moduleAlert hpresent 4, State.failModule_of_alert hpresent hst 4 .fault⟩
  · obtain ⟨⟨hfailed, hrst, hrails⟩, hmember⟩ := State.failModule_leaves hpresent (by rw [hst]; decide)
    exact ⟨_, rfl, hfailed, hrst, hrails, hmember⟩

theorem completes_moduleAlert_other :
    Completes (.moduleAlert k 6) s (fun t =>
      t.fired (slotSrc k.val) .warn ∧ (t.slot k.val).state = .inService) := by
  have hexec : exec (.moduleAlert k 6) s = .next (s.alertCause k.val 6 .warn) := exec_moduleAlert hpresent 6
  refine ⟨_, hexec, State.fired_alertCause _ _ _ _, ?_⟩
  rw [State.slot_alertCause, if_pos rfl]
  exact hst

theorem completes_moduleAlert_retire (hrefused : s.retireRefused = false) :
    Completes (.moduleAlert k 5) s fun t => (t.slot k.val).state = .retiring := by
  have hgo : (decide (((s.alertCause k.val 5 .note).slot k.val).state = .inService) &&
      !(s.alertCause k.val 5 .note).retireRefused) = true := by
    rw [State.slot_alertCause, if_pos rfl, State.retireRefused, State.modulesOut_alertCause, ← State.retireRefused,
      hrefused]
    simp [hst]
  have hexec : exec (.moduleAlert k 5) s = .next ((s.alertCause k.val 5 .note).beginRetire k.val none) :=
    (exec_moduleAlert hpresent 5).trans (congrArg Host.Outcome.next (if_pos hgo))
  exact ⟨_, hexec, State.state_beginRetire _ _ _⟩

end

/-! ## Retirement, insertion and admission (R213, R215, R216) -/

theorem State.mch_foldl_dropLink_within (s : State) (l : List Nat) :
    Within [.mch] s (l.foldl (fun s n => s.modCh n Mch.dropLink) s) :=
  Within.foldl (fun _ _ h => Within.step (State.modCh_within _ _ _) (by decide) h) (Within.refl _ s)

/-- A module that no command waits for enters SAFE in reset, with its rails off. -/
theorem State.enterSafe_leaves {s : State} {k : Nat} (hmbox : (s.slot k).retireMbox = none) :
    ((s.enterSafe k).slot k).state = .safe ∧ ((s.enterSafe k).slot k).rst = true ∧
      ((s.enterSafe k).slot k).railsOn = false ∧ (s.enterSafe k).fired (slotSrc k) .note := by
  unfold State.enterSafe
  extract_lets m u v w x
  have hm : m = none := hmbox
  have hx : x.slot k = u.slot k := by
    unfold x
    rw [State.fireSlot_eq, State.slot_fire, State.slot_memberOut,
      State.slot_congr ((v.mch_foldl_dropLink_within _).same .seq (by decide)),
      State.slot_congr ((u.dropPrograms_within _).same .seq (by decide))]
  rw [hm]
  dsimp only
  rw [hx, State.slot_modSlot]
  exact ⟨rfl, rfl, rfl, (State.fired_fire _ _ _ _ _ _).mpr (by simp)⟩

section
variable (hpresent : (s.slot k.val).present = true) (hquiet : s.moduleQuiet k.val = true)
include hpresent hquiet

theorem completes_moduleProgramsEnded_safe (hstrike : s.seq.state ≠ .strike)
    (hst : (s.slot k.val).state = .retiring) (hmbox : (s.slot k.val).retireMbox = none) :
    Completes (.moduleProgramsEnded k) s fun t =>
      (t.slot k.val).state = .safe ∧ (t.slot k.val).rst = true ∧ (t.slot k.val).railsOn = false ∧
        t.fired (slotSrc k.val) .note := by
  have hexec : exec (.moduleProgramsEnded k) s = .next (s.enterSafe k.val).settleLevel := by
    change execModuleProgramsEnded k s = _
    simp [execModuleProgramsEnded, hpresent, hquiet, hstrike, hst]
  have hsrc : slotSrc k.val ≠ 1008 := by
    unfold slotSrc
    omega
  refine ⟨_, hexec, ?_⟩
  beta_reduce
  rw [State.slot_settleLevel, State.fired_settleLevel _ _ _ hsrc]
  exact State.enterSafe_leaves hmbox

theorem completes_moduleProgramsEnded_strike (hstrike : s.seq.state = .strike) :
    Completes (.moduleProgramsEnded k) s fun t => (t.slot k.val).rst = true := by
  have hexec : exec (.moduleProgramsEnded k) s = .next ((channelsOf k.val).foldl (fun s n => s.modCh n Mch.dropLink)
      (s.modSlot k.val fun x => { x with rst := true })) := by
    change execModuleProgramsEnded k s = _
    simp [execModuleProgramsEnded, hpresent, hquiet, hstrike]
  refine ⟨_, hexec, ?_⟩
  beta_reduce
  rw [State.slot_congr ((State.mch_foldl_dropLink_within _ _).same .seq (by decide)), State.slot_modSlot]

end

section
variable {ident : Identity} (hst : (s.slot k.val).state = .empty) (hdata : s.rst.datapath = true)
include hst hdata

theorem exec_moduleInsert :
    exec (.moduleInsert k ident) s =
      .next ((s.modSlot k.val fun x => { x with state := .powering, present := true }).checkIdentity k.val ident
        false) := by
  change execModuleInsert k ident s = _
  simp [execModuleInsert, hst, hdata]

theorem completes_moduleInsert_refused (hrefused : s.identRefused ident = true ∨ s.foreignSet ident = true) :
    Completes (.moduleInsert k ident) s fun t =>
      (t.slot k.val).state = .failed ∧ (t.slot k.val).rst = true ∧ t.fired (slotSrc k.val) .warn := by
  refine ⟨_, exec_moduleInsert hst hdata, ?_⟩
  unfold State.checkIdentity
  extract_lets u other foreign v w x
  have hgo : other ∨ foreign := by
    refine hrefused.imp (fun h => h) fun h => ?_
    change (s.foreignSet ident && !false) = true
    simp [h]
  rw [if_pos hgo, State.fireSlot_eq]
  beta_reduce
  rw [State.slot_fire, State.slot_modSlot]
  exact ⟨rfl, rfl, (State.fired_fire _ _ _ _ _ _).mpr (by simp)⟩

theorem completes_moduleInsert_powers (hident : s.identRefused ident = false) (hset : s.foreignSet ident = false) :
    Completes (.moduleInsert k ident) s fun t =>
      (t.slot k.val).state = .powering ∧ (t.slot k.val).present = true ∧ (t.slot k.val).ident = some ident := by
  refine ⟨_, exec_moduleInsert hst hdata, ?_⟩
  unfold State.checkIdentity
  extract_lets u other foreign v _ w
  have hgo : ¬(other ∨ foreign) := by
    have hother : other = false := hident
    have hforeign : foreign = false := by
      change (s.foreignSet ident && !false) = false
      rw [hset, Bool.false_and]
    rw [hother, hforeign]
    decide
  have hw : w.slot k.val = u.slot k.val := by
    unfold w
    split <;> rfl
  rw [if_neg hgo]
  beta_reduce
  rw [State.slot_modSlot, hw, State.slot_modSlot, State.slot_modSlot]
  exact ⟨rfl, rfl, rfl⟩

end

theorem completes_moduleAutoAdmit (hst : (s.slot k.val).state = .training) (hauto : s.seq.autoAdmit = true)
    (htrained : s.moduleTrained k.val = true)
    (hstanding : s.standing k.val = none ∨ s.standing k.val = some .out) (hset : s.media.setId.isSome) :
    Completes (.moduleAutoAdmit k) s fun t =>
      (t.slot k.val).state = .waiting ∧ (t.slot k.val).ident.map Identity.setId =
        (s.slot k.val).ident.map fun _ => s.media.setId.getD 0#128 := by
  have hexec : exec (.moduleAutoAdmit k) s = .next (s.admitModule k.val) := by
    change execModuleAutoAdmit k s = _
    obtain h | h := hstanding <;> simp [execModuleAutoAdmit, hst, hauto, htrained, h, hset]
  refine ⟨_, hexec, ?_⟩
  unfold State.admitModule
  extract_lets id m u v w
  have hu : u.slot k.val = s.slot k.val := State.slot_congr ((s.freshMetadata_within _).same .seq (by decide)) _
  have hw : w.slot k.val = v.slot k.val := State.slot_congr ((v.setMember_within _ _).same .seq (by decide)) _
  have hslot : w.slot k.val = { s.slot k.val with
      ident := (s.slot k.val).ident.map fun i => { i with setId := s.media.setId.getD 0#128 }
      state := .waiting, admitMbox := none } := by
    rw [hw, State.slot_modSlot, hu]
  have hend (m : Mbox) : (w.completeBg m.val .success .none .empty).slot k.val = w.slot k.val :=
    State.slot_congr (w.seq_completeBg _ _ _ _) _
  clear_value m
  cases m
  all_goals
    dsimp only
    simp only [hend, hslot, Option.map_map, true_and]
    rfl

end

/-- Settles O26: a lemma for each way in which a slot changes its state. -/
theorem moduleSlotsFollowTheirStates : Obligations.ModuleSlotsFollowTheirStates :=
  fun _ _ => ⟨fun hpresent hst => ⟨completes_moduleAlert_cap hpresent, fun _ => completes_moduleFails hpresent hst,
      completes_moduleAlert_retire hpresent hst, completes_moduleAlert_other hpresent hst,
      completes_moduleAlert_temperature hpresent⟩,
    completes_moduleRemoval,
    fun hpresent hquiet => ⟨completes_moduleProgramsEnded_safe hpresent hquiet,
      completes_moduleProgramsEnded_strike hpresent hquiet⟩,
    fun _ hst hdata => ⟨completes_moduleInsert_refused hst hdata, completes_moduleInsert_powers hst hdata⟩,
    completes_moduleAutoAdmit⟩

end Sys2Proof.Machine


/-! SUPPORT. Ports with nothing at their ingress, and the key commands of the Shroud (O27). -/

namespace Sys2Proof.Machine

open Sys2Proof

/-! ## Ingress -/

/-- What waits at the ingress of a port. -/
def PortState.ingress (x : PortState) : List PortReq × List PortReq := (x.ingressReq, x.ingressRwd)

theorem PortState.ingress_congr {x y : PortState} (h : x.quiet = y.quiet) : x.ingress = y.ingress :=
  (congrArg PortState.ingress h :)

/-- Nothing waits at the ingress of a port. -/
def State.NoIngress (s : State) : Prop := ∀ p, (s.port p).ingress = ([], [])

theorem State.noIngress_of {s : State} (h0 : s.port0.ingressReq = []) (h1 : s.port0.ingressRwd = [])
    (h2 : s.port1.ingressReq = []) (h3 : s.port1.ingressRwd = []) : s.NoIngress
  | .hp0 => Prod.ext h0 h1
  | .hp1 => Prod.ext h2 h3

theorem Within.ingress_eq {W : List Part} {s t : State} (h : Within W s t) (h0 : Part.port0 ∉ W)
    (h1 : Part.port1 ∉ W) (p : Port) : (t.port p).ingress = (s.port p).ingress :=
  PortState.ingress_congr (h.quiet_port_eq h0 h1 p)

theorem Within.noIngress {W : List Part} {s t : State} (h : Within W s t) (hs : s.NoIngress)
    (h0 : Part.port0 ∉ W) (h1 : Part.port1 ∉ W) : t.NoIngress :=
  fun p => (h.ingress_eq h0 h1 p).trans (hs p)

theorem State.pump_eq_self {s : State} (h : s.NoIngress) (p : Port) : s.pump p = s := by
  have hreq : (s.port p).ingressReq = [] := congrArg Prod.fst (h p)
  have hrwd : (s.port p).ingressRwd = [] := congrArg Prod.snd (h p)
  unfold State.pump
  split
  · rfl
  · dsimp only
    rw [hreq]
    change s.pumpRwd p (s.port p).ingressRwd.length = s
    rw [hrwd]
    rfl

theorem State.pumpAll_eq_self {s : State} (h : s.NoIngress) : s.pumpAll = s := by
  rw [State.pumpAll, State.pump_eq_self h, State.pump_eq_self h]

/-- A change of the request counts of a port leaves what waits at its ingress. -/
theorem State.ingress_modPort (s : State) (q p : Port) {f : PortState → PortState}
    (hf : ∀ x, (f x).ingress = x.ingress) : ((s.modPort q f).port p).ingress = (s.port p).ingress := by
  cases q <;> cases p <;> simp [State.modPort, State.setPort, State.port, hf]

theorem State.ingress_retirePrefetch (s : State) (i : Nat) (p : Port) :
    ((s.retirePrefetch i).port p).ingress = (s.port p).ingress := by
  unfold State.retirePrefetch
  split
  · rfl
  · rw [(State.freeBelay_within _ _).ingress_eq (by decide) (by decide)]
    split
    · rfl
    · exact s.ingress_modPort _ p fun _ => rfl

theorem State.ingress_answerReads (s : State) (belays : List Nat) (plain : Four Line) (poison : BitVec 4) (p : Port) :
    ((s.answerReads belays plain poison).port p).ingress = (s.port p).ingress := by
  refine foldl_keeps (fun t : State => (t.port p).ingress) (fun t i => ?_) belays s
  dsimp only
  split
  · rfl
  · split_ifs
    · exact t.ingress_retirePrefetch i p
    · exact (t.toRespond_within _ _ _).ingress_eq (by decide) (by decide) p
    · rfl

theorem State.ingress_finishRead (s : State) (id : Nat) (c : Stored) (p : Port) :
    ((s.finishRead id c).port p).ingress = (s.port p).ingress := by
  unfold State.finishRead
  split
  · rfl
  · extract_lets plain poison u v w
    have hw : (w.port p).ingress = (v.port p).ingress := by
      unfold w
      split <;> rfl
    exact hw.trans (((u.fillWay_within _ _ _).ingress_eq (by decide) (by decide) p).trans
      (s.ingress_answerReads _ _ _ p))

theorem State.ingress_drainReads (s : State) (p : Port) : (s.drainReads.port p).ingress = (s.port p).ingress :=
  foldl_keeps (f := fun t (e : Nat × ReadOp) => t.finishRead e.1 (t.cell e.2.lsn))
    (fun t : State => (t.port p).ingress) (fun t e => t.ingress_finishRead e.1 _ p) _ s

/-! ## The key slots -/

theorem State.keySlot_congr {s t : State} (h : t.shr = s.shr) (i : Nat) : t.keySlot i = s.keySlot i := by
  rw [State.keySlot, State.keySlot, h]

theorem State.keySlot_of_slots {s t : State} (h : t.shr.slots = s.shr.slots) (i : Nat) : t.keySlot i = s.keySlot i := by
  rw [State.keySlot, State.keySlot, h]

/-- New keys leave the key map, and every slot in its state. -/
theorem State.freshKeys_leaves (s : State) :
    s.freshKeys.shr.keyMap = s.shr.keyMap ∧ s.freshKeys.shr.keyMapDefault = s.shr.keyMapDefault ∧
      ∀ i, (s.freshKeys.keySlot i).state = (s.keySlot i).state := by
  unfold State.freshKeys
  generalize List.range 64 = l
  refine foldl_invariant (P := fun t : State => t.shr.keyMap = s.shr.keyMap ∧
    t.shr.keyMapDefault = s.shr.keyMapDefault ∧ ∀ i, (t.keySlot i).state = (s.keySlot i).state)
    (fun t n ht => ?_) _ ⟨rfl, rfl, fun _ => rfl⟩
  obtain ⟨hmap, hdef, hslots⟩ := ht
  split
  · exact ⟨hmap, hdef, hslots⟩
  · refine ⟨hmap, hdef, fun i => ?_⟩
    rw [← hslots i]
    change ((t.modKeySlot n _).keySlot i).state = _
    by_cases hi : i = n
    · rw [hi, State.keySlot_modKeySlot]
    · rw [State.keySlot_modKeySlot_other _ _ hi]

theorem State.shr_formatKeys (s : State) :
    s.formatKeys.shr =
      { s.shr with slots := Sparse.put [] 0 ⟨.active, s.draw⟩, keyMap := [], keyMapDefault := 0 } := by
  unfold State.formatKeys State.saveKeyMap State.drawn
  rfl

theorem State.formatKeys_leaves (s : State) :
    s.formatKeys.shr.keyMap = [] ∧ s.formatKeys.shr.keyMapDefault = 0 ∧ (s.formatKeys.keySlot 0).state = .active := by
  rw [State.keySlot, State.shr_formatKeys]
  refine ⟨rfl, rfl, ?_⟩
  rw [Sparse.get, Sparse.find_put_same, Option.getD_some]

/-- The key slots as ERASE leaves them, in the format form or in place. -/
def State.newKeys (s : State) (fmt : Bool) : State := if fmt then s.formatKeys else s.freshKeys

theorem State.newKeys_within (s : State) (fmt : Bool) : Within [.draws, .media, .shr] s (s.newKeys fmt) := by
  unfold State.newKeys
  split
  · exact s.formatKeys_within
  · exact Within.step s.freshKeys_within (by decide) (Within.refl _ s)

/-- With no rekey and no request at the ports, ERASE empties the cache and leaves the slots of `newKeys`. -/
theorem State.erase_leaves {s : State} (fmt : Bool) (hidle : s.shr.rkState = .idle) (hin : s.NoIngress) :
    (s.erase fmt).cache.ways = [] ∧ (s.erase fmt).cache.mirror = [] ∧
      (s.erase fmt).shr = ((s.drainReads.emptyCache).newKeys fmt).shr ∧ (s.erase fmt).NoIngress ∧
      (s.drainReads.emptyCache).shr = s.shr := by
  unfold State.erase
  rw [if_pos hidle]
  extract_lets _ u v w x
  have hw : Within [.sea] v w := by
    refine Within.foldl (fun t n ht => ?_) (Within.refl _ v)
    split
    · exact Within.step (t.seaWithdraw_within _) (by decide) ht
    · exact ht
  have hu : u.NoIngress :=
    (s.drainReads.emptyCache_within).noIngress (fun p => (s.ingress_drainReads p).trans (hin p)) (by decide) (by decide)
  have hv : v = u.newKeys fmt := rfl
  have hx : Within [.hostLogs, .log, .evt, .sea, .draws, .media, .shr] u (x.keyRecord .warn 0 (b2n fmt) 3) :=
    Within.step (x.keyRecord_within _ _ _ _) (by decide)
      (Within.step (w.seaStore_within _ _) (by decide)
        (Within.step hw (by decide) (hv ▸ Within.step (u.newKeys_within fmt) (by decide) (Within.refl _ u))))
  have hxin : (x.keyRecord .warn 0 (b2n fmt) 3).NoIngress := hx.noIngress hu (by decide) (by decide)
  have hshr : (x.keyRecord .warn 0 (b2n fmt) 3).shr = v.shr :=
    ((x.keyRecord_within _ _ _ _).same .shr (by decide)).trans
      (((w.seaStore_within _ _).same .shr (by decide)).trans (hw.same .shr (by decide)))
  rw [State.pumpAll_eq_self hxin, hx.same .cache (by decide), hshr]
  exact ⟨rfl, rfl, rfl, hxin, ((State.emptyCache_within _).same .shr (by decide)).trans
    (s.drainReads_within.same .shr (by decide))⟩

/-! ## The key commands (R226, R227, R239) -/

section
variable {path : Path} {s : State}

theorem State.shr_pumpAll (s : State) : s.pumpAll.shr = s.shr :=
  s.pumpAll_within.same .shr (by decide)

theorem State.shr_keyRecord (s : State) (v : Severity) (target index op : Nat) :
    (s.keyRecord v target index op).shr = s.shr :=
  (s.keyRecord_within v target index op).same .shr (by decide)

theorem State.shrKeyCmd_of_other (h : s.kce.isOwner path = false) (op : BitVec 2) (f : State → Option State) :
    s.shrKeyCmd path op f = s.shrRefuse := by
  rw [State.shrKeyCmd, h, if_pos (by decide)]

/-- The end of a key command: the key written is zeroed, and the operation stands in its register. -/
def State.keyCmdDone (s : State) (op : BitVec 2) : State :=
  { s with shr := { s.shr with keyData := [], op := op } }

theorem State.keySlot_keyCmdDone (s : State) (op : BitVec 2) (i : Nat) : (s.keyCmdDone op).keySlot i = s.keySlot i :=
  State.keySlot_of_slots rfl i

theorem State.shrKeyCmd_of_owner (h : s.kce.isOwner path = true) (op : BitVec 2) (f : State → Option State) :
    s.shrKeyCmd path op f = ((f s).getD s.shrRefuse).keyCmdDone op := by
  unfold State.shrKeyCmd
  rw [h, if_neg (by decide)]
  cases f s <;> rfl

theorem completes_shrKey_of_other (hother : s.kce.isOwner path = false) {c : Instr}
    (hc : c ∈ [Instr.shrKeyLoad path, .shrKeyZeroize path, .shrKeyErase path]) :
    Completes c s fun t =>
      t.shr.cmdError = true ∧ t.shr.slots = s.shr.slots ∧ t.shr.keyMap = s.shr.keyMap := by
  simp only [List.mem_cons, List.not_mem_nil, or_false] at hc
  obtain rfl | rfl | rfl := hc <;> refine ⟨_, rfl, ?_⟩ <;> dsimp only
  · rw [State.shr_pumpAll, State.shrKeyCmd_of_other hother]
    exact ⟨rfl, rfl, rfl⟩
  · rw [State.shrKeyCmd_of_other hother]
    exact ⟨rfl, rfl, rfl⟩
  · rw [State.shrKeyCmd_of_other hother]
    exact ⟨rfl, rfl, rfl⟩

variable (howner : s.kce.isOwner path = true)
include howner

theorem completes_shrKeyLoad :
    Completes (.shrKeyLoad path) s fun t =>
      t.shr.keyData = [] ∧
        (if (s.keySlot s.shr.slot.toNat).state = .empty ∧
            (xtsKeys s.shr.keyInput).1 ≠ (xtsKeys s.shr.keyInput).2 then
          t.keySlot s.shr.slot.toNat = ⟨s.shr.heldState s.shr.slot.toNat, s.shr.keyInput⟩
        else t.shr.cmdError = true ∧ t.shr.slots = s.shr.slots) := by
  refine ⟨_, rfl, ?_⟩
  dsimp only
  rw [State.keySlot_congr (State.shr_pumpAll _), State.shr_pumpAll, State.shrKeyCmd_of_owner howner, State.shrLoad]
  refine ⟨rfl, ?_⟩
  by_cases hgo : (s.keySlot s.shr.slot.toNat).state = .empty ∧
      (xtsKeys s.shr.keyInput).1 ≠ (xtsKeys s.shr.keyInput).2
  · rw [if_pos hgo, if_neg (by simp [hgo])]
    rw [Option.getD_some, State.keySlot_keyCmdDone, State.keySlot_congr (State.shr_keyRecord _ _ _ _ _),
      State.keySlot_modKeySlot]
  · rw [if_neg hgo, if_pos (by simpa [imp_iff_not_or] using hgo)]
    exact ⟨rfl, rfl⟩

theorem completes_shrKeyZeroize :
    Completes (.shrKeyZeroize path) s fun t =>
      t.shr.keyData = [] ∧
        (if (s.keySlot s.shr.slot.toNat).state = .loaded then
          t.keySlot s.shr.slot.toNat = KeySlot.empty
        else t.shr.cmdError = true ∧ t.shr.slots = s.shr.slots) := by
  refine ⟨_, rfl, ?_⟩
  dsimp only
  rw [State.shrKeyCmd_of_owner howner, State.shrZeroize]
  refine ⟨rfl, ?_⟩
  by_cases hgo : (s.keySlot s.shr.slot.toNat).state = .loaded
  · rw [if_pos hgo, if_neg (by simp [hgo])]
    rw [Option.getD_some, State.keySlot_keyCmdDone, State.keySlot_congr (State.shr_keyRecord _ _ _ _ _),
      State.keySlot_modKeySlot]
  · rw [if_neg hgo, if_pos hgo]
    exact ⟨rfl, rfl⟩

theorem completes_shrKeyErase (hidle : s.shr.rkState = .idle) (hin : s.NoIngress) :
    Completes (.shrKeyErase path) s fun t =>
      t.cache.ways = [] ∧ t.cache.mirror = [] ∧
        (s.shr.fmt = true → t.shr.keyMap = [] ∧ t.shr.keyMapDefault = 0 ∧ (t.keySlot 0).state = .active) ∧
        (s.shr.fmt = false → t.shr.keyMap = s.shr.keyMap ∧ t.shr.keyMapDefault = s.shr.keyMapDefault ∧
          ∀ i, (t.keySlot i).state = (s.keySlot i).state) := by
  obtain ⟨hways, hmirror, hshr, -, hsame⟩ := State.erase_leaves s.shr.fmt hidle hin
  refine ⟨_, rfl, ?_⟩
  dsimp only
  rw [State.shrKeyCmd_of_owner howner, Option.getD_some]
  generalize s.erase s.shr.fmt = w at *
  generalize s.drainReads.emptyCache = u at *
  refine ⟨hways, hmirror, fun hfmt => ?_, fun hfmt => ?_⟩
  · rw [State.keySlot_keyCmdDone, State.keySlot_congr hshr, State.newKeys, hfmt, if_pos rfl]
    obtain ⟨hmap, hdef, hslot⟩ := u.formatKeys_leaves
    rw [State.newKeys, hfmt, if_pos rfl] at hshr
    exact ⟨(congrArg Shr.keyMap hshr).trans hmap, (congrArg Shr.keyMapDefault hshr).trans hdef, hslot⟩
  · obtain ⟨hmap, hdef, hslots⟩ := u.freshKeys_leaves
    rw [State.newKeys, hfmt, if_neg Bool.false_ne_true] at hshr
    refine ⟨?_, ?_, fun i => ?_⟩
    · exact (congrArg Shr.keyMap hshr).trans (hmap.trans (congrArg Shr.keyMap hsame))
    · exact (congrArg Shr.keyMapDefault hshr).trans (hdef.trans (congrArg Shr.keyMapDefault hsame))
    · rw [State.keySlot_keyCmdDone, State.keySlot_congr hshr, hslots, State.keySlot_congr hsame]

end

/-- Settles O27: a key command of another path, and each command of the owner by the state of its slot. -/
theorem shroudKeyCommandsObeyTheirSlots : Obligations.ShroudKeyCommandsObeyTheirSlots :=
  fun _ _ => ⟨fun hother _ => completes_shrKey_of_other hother, fun howner =>
    ⟨completes_shrKeyLoad howner, completes_shrKeyZeroize howner, fun hidle h0 h1 h2 h3 =>
      completes_shrKeyErase howner hidle (State.noIngress_of h0 h1 h2 h3)⟩⟩

end Sys2Proof.Machine


/-! SUPPORT. The rekey (O28): what moving the entries of a range gives, and the steps of the sweep. -/

namespace Sys2Proof.Machine

open Sys2Proof

/-! ## Entries of a range -/

section
variable {α : Type}

theorem Sparse.find_of_lt {m : Sparse α} {lo k : Nat} (hm : Sparse.risingFrom lo m = true) (h : k < lo) :
    Sparse.find m k = none := by
  induction m generalizing lo with
  | nil => rfl
  | cons e r ih =>
    simp only [Sparse.risingFrom, Bool.and_eq_true, decide_eq_true_eq] at hm
    obtain ⟨hlo, hr⟩ := hm
    rw [Sparse.find, if_neg (by omega)]
    exact ih hr (by omega)

/-- In a table of rising keys a filter drops the entry found, or keeps it. -/
theorem Sparse.find_filter {m : Sparse α} (hm : Sparse.rising m = true) (p : Nat × α → Bool) (k : Nat) :
    Sparse.find (m.filter p) k = (Sparse.find m k).filter fun v => p (k, v) := by
  unfold Sparse.rising at hm
  generalize 0 = lo at hm
  induction m generalizing lo with
  | nil => rfl
  | cons e r ih =>
    simp only [Sparse.risingFrom, Bool.and_eq_true, decide_eq_true_eq] at hm
    obtain ⟨hlo, hr⟩ := hm
    have ih := ih _ hr
    obtain ⟨j, v⟩ := e
    by_cases hk : j = k
    · subst hk
      rw [Sparse.find_of_lt hr (Nat.lt_succ_self j)] at ih
      by_cases hp : p (j, v) = true
      · rw [List.filter_cons_of_pos hp, Sparse.find, if_pos rfl, Sparse.find, if_pos rfl, Option.filter_some, if_pos hp]
      · rw [List.filter_cons_of_neg hp, Sparse.find, if_pos rfl, Option.filter_some, if_neg hp, ih, Option.filter_none]
    · by_cases hp : p (j, v) = true
      · rw [List.filter_cons_of_pos hp, Sparse.find, Sparse.find, if_neg hk, if_neg hk, ih]
      · rw [List.filter_cons_of_neg hp, Sparse.find, if_neg hk, ih]

end

/-- One entry of the range moved from slot `a` to slot `b`. -/
def moveEntry (d a b : Nat) (m : Sparse Nat) (e : Nat) : Sparse Nat :=
  if Sparse.get d m e = a then Sparse.set d m e b else m

theorem get_moveEntry (d a b : Nat) (m : Sparse Nat) (e k : Nat) :
    Sparse.get d (moveEntry d a b m e) k = if k = e ∧ Sparse.get d m k = a then b else Sparse.get d m k := by
  unfold moveEntry
  by_cases hk : k = e
  · subst hk
    by_cases ha : Sparse.get d m k = a
    · rw [if_pos ha, if_pos ⟨rfl, ha⟩, Sparse.get_set_same]
    · rw [if_neg ha, if_neg fun h => ha h.2]
  · rw [if_neg (fun h => hk h.1 : ¬(k = e ∧ Sparse.get d m k = a))]
    by_cases ha : Sparse.get d m e = a
    · rw [if_pos ha, Sparse.get_set_other _ _ _ hk]
    · rw [if_neg ha]

theorem get_foldl_moveEntry (d a b lo n : Nat) (m : Sparse Nat) (k : Nat) :
    Sparse.get d ((List.range n).foldl (fun m i => moveEntry d a b m (lo + i)) m) k =
      if lo ≤ k ∧ k < lo + n ∧ Sparse.get d m k = a then b else Sparse.get d m k := by
  induction n with
  | zero => rw [if_neg (by omega)]; rfl
  | succ n ih =>
    rw [List.range_succ, List.foldl_append, List.foldl_cons, List.foldl_nil, get_moveEntry, ih]
    by_cases hk : k = lo + n
    · rw [if_neg (by omega : ¬(lo ≤ k ∧ k < lo + n ∧ Sparse.get d m k = a))]
      by_cases ha : Sparse.get d m k = a
      · rw [if_pos ⟨hk, ha⟩, if_pos (by omega)]
      · rw [if_neg fun h => ha h.2, if_neg fun h => ha h.2.2]
    · rw [if_neg fun h => hk h.1]
      by_cases ha : lo ≤ k ∧ k < lo + n ∧ Sparse.get d m k = a
      · rw [if_pos ha, if_pos (by omega)]
      · rw [if_neg ha, if_neg (by omega)]

/-- An entry of the range that names slot `a` names slot `b` once the range is moved. -/
theorem Shr.get_moveEntries {x : Shr} {a b lo hi e : Nat} (hrising : Sparse.rising x.keyMap = true)
    (hlo : lo ≤ e) (hhi : e ≤ hi) (ha : Sparse.get x.keyMapDefault x.keyMap e = a) :
    Sparse.get (x.moveEntries a b lo hi).keyMapDefault (x.moveEntries a b lo hi).keyMap e = b := by
  unfold Shr.moveEntries
  by_cases hall : lo = 0 ∧ 1048575 ≤ hi ∧ x.keyMapDefault = a
  · rw [if_pos hall]
    change ((Sparse.find (x.keyMap.filter fun e => e.2 != a && e.2 != b) e).getD b) = b
    rw [Sparse.find_filter hrising]
    obtain hnone | ⟨v, hv⟩ := Option.eq_none_or_eq_some (Sparse.find x.keyMap e)
    · rw [hnone]
      rfl
    · have hva : v = a := by rwa [Sparse.get, hv, Option.getD_some] at ha
      rw [hv, hva]
      simp [Option.filter]
  · rw [if_neg hall]
    change Sparse.get x.keyMapDefault ((List.range (hi + 1 - lo)).foldl
      (fun m i => moveEntry x.keyMapDefault a b m (lo + i)) x.keyMap) e = b
    rw [get_foldl_moveEntry, if_pos ⟨hlo, by omega, ha⟩]

/-! ## The end of a rekey -/

theorem State.settleKeySlot_leaves (s : State) (slot : Nat) :
    (s.settleKeySlot slot).shr.keyMap = s.shr.keyMap ∧
      (s.settleKeySlot slot).shr.keyMapDefault = s.shr.keyMapDefault ∧
      (s.settleKeySlot slot).shr.rkState = s.shr.rkState ∧ (s.settleKeySlot slot).shr.rkDone = s.shr.rkDone :=
  ⟨rfl, rfl, rfl, rfl⟩

/-- The key map once the range up to `hi` is moved; without one it stays. -/
def Shr.movedTo (x : Shr) : Option Nat → Shr
  | some h => x.moveEntries x.rkA x.rkB x.rkLo h
  | none => x

/-- The end of a rekey leaves the key map moved as far as its range reaches, and no rekey. -/
theorem State.rekeyFinish_leaves (s : State) (hi : Option Nat) :
    (s.rekeyFinish hi).shr.keyMap = (s.shr.movedTo hi).keyMap ∧
      (s.rekeyFinish hi).shr.keyMapDefault = (s.shr.movedTo hi).keyMapDefault ∧
      (s.rekeyFinish hi).shr.rkState = .idle ∧ (s.rekeyFinish hi).shr.rkDone = true := by
  unfold State.rekeyFinish
  extract_lets x u v _ w
  have hu : u.shr = s.shr.movedTo hi := by
    unfold u
    cases hi <;> rfl
  have hv : v.shr = u.shr := (State.seaWithdraw_within _ _).same .shr (by decide)
  obtain ⟨hmap, hdef, hst, hdone⟩ := (w.settleKeySlot x.rkA).settleKeySlot_leaves x.rkB
  obtain ⟨hmap', hdef', hst', hdone'⟩ := w.settleKeySlot_leaves x.rkA
  rw [hmap, hdef, hst, hdone, hmap', hdef', hst', hdone', ← hu, ← hv]
  exact ⟨rfl, rfl, rfl, rfl⟩

section
variable {s : State}

theorem completes_rekeyEnd_waits (hrun : s.shr.rkState = .running) (hdone : s.shr.sweepDone = true)
    (hsets : s.sweepSets = 0) (hmst : s.mst.running = false) :
    Completes .rekeyEnd s fun t => t.shr.rkState = .finishing ∧ t.shr.keyMap = s.shr.keyMap := by
  refine ⟨_, rfl, ?_⟩
  simp [hrun, hdone, hsets, hmst]

theorem completes_rekeyEnd (hrun : s.shr.rkState = .running) (hdone : s.shr.sweepDone = true)
    (hsets : s.sweepSets = 0) (hmst : s.mst.running = true) (hrising : Sparse.rising s.shr.keyMap = true) :
    Completes .rekeyEnd s fun t =>
      t.shr.rkState = .idle ∧ t.shr.rkDone = true ∧ t.fired 1222 .note ∧
        ∀ e < 1048576, s.shr.rkLo ≤ e → e ≤ s.shr.rkHi →
          Sparse.get s.shr.keyMapDefault s.shr.keyMap e = s.shr.rkA →
          Sparse.get t.shr.keyMapDefault t.shr.keyMap e = s.shr.rkB := by
  have hexec : exec .rekeyEnd s = .next ((s.rekeyFinish (some s.shr.rkHi)).fire 1222 .note Detail.none) := by
    change execRekeyEnd s = _
    simp [execRekeyEnd, hrun, hdone, hsets, hmst]
  obtain ⟨hmap, hdef, hst, hrk⟩ := s.rekeyFinish_leaves (some s.shr.rkHi)
  refine ⟨_, hexec, ?_⟩
  beta_reduce
  rw [State.fire_shr, State.fired_fire, if_pos rfl, hst, hrk, hmap, hdef]
  exact ⟨rfl, rfl, rfl, fun e _ hlo hhi ha => Shr.get_moveEntries hrising hlo hhi ha⟩

theorem completes_rekeyCut (habort : s.shr.rkState = .aborting) (hsets : s.sweepSets = 0) :
    Completes .rekeyCut s fun t => t.shr.rkState = .idle ∧ t.shr.rkDone = true ∧ t.fired 1223 .warn := by
  have hexec : exec .rekeyCut s = .next s.rekeyCutNow := by
    change execRekeyCut s = _
    simp [execRekeyCut, habort, hsets]
  obtain ⟨-, -, hst, hrk⟩ := s.rekeyFinish_leaves (s.shr.cutEntry s.rekeyPoint)
  refine ⟨_, hexec, ?_⟩
  rw [State.rekeyCutNow]
  beta_reduce
  rw [State.fire_shr, State.fired_fire, if_pos rfl]
  exact ⟨hst, hrk, rfl⟩

/-! ## A claimed row -/

/-- Forming the programs of a set leaves its row, its form and its kind. -/
theorem State.find_sets_formPrograms {s : State} {id : Nat} {x : StripeSet} (h : Sparse.find s.stp.sets id = some x) :
    ∃ y, Sparse.find (s.formPrograms id).stp.sets id = some y ∧ y.row = x.row ∧ y.sweep = x.sweep ∧ y.form = x.form := by
  unfold State.formPrograms
  rw [h]
  dsimp only
  split
  · unfold State.queuePrograms
    extract_lets ps first u
    have hu : u.stp.sets = s.stp.sets := foldl_keeps (f := State.addProg) (fun t : State => t.stp.sets) (fun _ _ => rfl) ps _
    refine ⟨_, Sparse.find_adjust_same _ (by rw [hu]; exact h), rfl, rfl, rfl⟩
  · exact ⟨x, h, rfl, rfl, rfl⟩

/-- A claim moves the hemline on and forms the full-stripe set of its row. -/
theorem State.claimRow_leaves (s : State) :
    s.claimRow.shr.hemline = s.shr.nextRow (s.shr.hemline + 1) ∧
      ∃ id x, Sparse.find s.claimRow.stp.sets id = some x ∧ x.row = s.shr.hemline ∧ x.sweep = true ∧
        x.form = .full := by
  unfold State.claimRow
  extract_lets row _ u v ms id t _ _ w
  have hv : v.shr = u.shr := by
    refine foldl_invariant (P := fun x : State => x.shr = u.shr) (fun x j hx => ?_) _ rfl
    exact ((x.claimMember_within _).same .shr (by decide)).trans hx
  clear_value v
  have hset : Sparse.find w.stp.sets id = some t := Sparse.find_put_same v.stp.sets id t
  have hcheck := (w.formPrograms id).checkpointSweep_within
  obtain ⟨x, hx, hrow, hsweep, hform⟩ := State.find_sets_formPrograms hset
  rw [hcheck.same .shr (by decide), (w.formPrograms_within _).same .shr (by decide), hcheck.same .stp (by decide)]
  exact ⟨congrArg Shr.hemline hv, id, x, hx, hrow, hsweep, hform⟩

/-! ## Starts, aborts and fences -/

/-- A record that fits is stored. -/
theorem State.seaStore_of_fits {s : State} {new : List (Nat × List Byte)} (h : s.sea.fits new = true) :
    ∃ u, s.seaStore new true = (u, true) := by
  unfold State.seaStore
  rw [h, if_pos (by decide)]
  exact ⟨_, rfl⟩

variable {path : Path}

theorem completes_shroudEngineFence {e : Fin 20} (h : bitOf s.shr.enginesFenced e.val = false) :
    Completes (.shroudEngineFence e) s fun t =>
      bitOf t.shr.enginesFenced e.val = true ∧ t.fired 1221 .fault ∧ t.shr.slots = s.shr.slots := by
  refine ⟨_, rfl, ?_⟩
  unfold State.fenceEngine
  rw [h, if_neg Bool.false_ne_true]
  extract_lets inside u _ v
  have hu : u.shr = s.shr := foldl_keeps (f := fun t i => t.modBelay i fun b => { b with window := true })
    (fun t : State => t.shr) (fun _ _ => rfl) inside s
  beta_reduce
  rw [State.settleLevel_shr, State.fire_shr, State.fired_settleLevel _ _ _ (by decide), State.fired_fire, if_pos rfl]
  refine ⟨bitOf_setBit_same _ _ e.isLt, rfl, ?_⟩
  change u.shr.slots = s.shr.slots
  rw [hu]

/-- A rekey begins with its old slot RETIRING, its new one ACTIVE. -/
theorem State.rekeyBegin_leaves (s : State) {a b : Nat} (hab : a ≠ b) (lo hi rate : Nat) :
    (s.rekeyBegin a b lo hi rate).shr.rkState = .running ∧
      ((s.rekeyBegin a b lo hi rate).keySlot a).state = .retiring ∧
      ((s.rekeyBegin a b lo hi rate).keySlot b).state = .active ∧ (s.rekeyBegin a b lo hi rate).fired 1222 .note := by
  unfold State.rekeyBegin
  extract_lets u v _ x _ w
  rw [State.fire_shr, State.keySlot_fire, State.keySlot_fire, State.fired_fire, if_pos rfl]
  have hw (i : Nat) : w.keySlot i = v.keySlot i := State.keySlot_of_slots rfl i
  rw [hw, hw]
  refine ⟨rfl, ?_, ?_, rfl⟩
  · rw [show v.keySlot a = u.keySlot a from State.keySlot_modKeySlot_other _ _ hab]
    exact congrArg KeySlot.state (s.keySlot_modKeySlot a _)
  · exact congrArg KeySlot.state (u.keySlot_modKeySlot b _)

section
variable (hopen : s.pathOpen path = true)
include hopen

theorem completes_shrRekeyGo_refused
    (h : s.rekeyRefused s.shr.rkOld.toNat s.shr.rkNew.toNat s.shr.rkFirst.toNat s.shr.rkLast.toNat = true) :
    Completes (.shrRekeyGo path) s fun t =>
      t.shr.rkError = true ∧ t.shr.slots = s.shr.slots ∧ t.shr.rkState = s.shr.rkState := by
  refine ⟨_, rfl, ?_⟩
  simp [hopen, h]

theorem completes_shrRekeyGo
    (h : s.rekeyRefused s.shr.rkOld.toNat s.shr.rkNew.toNat s.shr.rkFirst.toNat s.shr.rkLast.toNat = false)
    (hfits : s.sea.fits [(0x0301, rekeyRecord s.shr.rkOld.toNat s.shr.rkNew.toNat s.shr.rkFirst.toNat
      s.shr.rkLast.toNat)] = true) :
    Completes (.shrRekeyGo path) s fun t =>
      t.shr.rkState = .running ∧ (t.keySlot s.shr.rkOld.toNat).state = .retiring ∧
        (t.keySlot s.shr.rkNew.toNat).state = .active ∧ t.fired 1222 .note := by
  have hne : s.shr.rkOld.toNat ≠ s.shr.rkNew.toNat := by
    intro heq
    simp [State.rekeyRefused, heq] at h
  obtain ⟨u, hstore⟩ := State.seaStore_of_fits hfits
  have hexec : exec (.shrRekeyGo path) s =
      .next (u.rekeyBegin s.shr.rkOld.toNat s.shr.rkNew.toNat s.shr.rkFirst.toNat s.shr.rkLast.toNat
        u.shr.rkRate) := by
    change execShrRekeyGo path s = _
    simp [execShrRekeyGo, hopen, h, hstore]
  exact ⟨_, hexec, State.rekeyBegin_leaves u hne _ _ _⟩

theorem completes_shrRekeyAbort (h : s.shr.abortable = true) :
    Completes (.shrRekeyAbort path) s fun t =>
      t.shr.rkState = .aborting ∧ t.shr.keyMap = s.shr.keyMap ∧ t.stp = s.stp := by
  refine ⟨_, rfl, ?_⟩
  simp [hopen, State.rekeyAbortNow, h]

end

end

/-- Settles O28: a start, a claim, an end and an abort of a rekey, and a fenced engine. -/
theorem rekeyMovesItsRangeFromOneSlotToAnother : Obligations.RekeyMovesItsRangeFromOneSlotToAnother := by
  refine ⟨fun _ _ => completes_shroudEngineFence, fun _ _ hopen => ⟨completes_shrRekeyGo_refused hopen,
    completes_shrRekeyGo hopen, completes_shrRekeyAbort hopen⟩, fun s => ⟨fun hmay => ⟨_, rfl, ?_⟩,
    fun hmay => ⟨_, rfl, ?_⟩, fun hrun hdone hsets => ⟨completes_rekeyEnd_waits hrun hdone hsets,
      completes_rekeyEnd hrun hdone hsets⟩, completes_rekeyCut⟩⟩
  · rw [if_pos hmay]
    exact s.claimRow_leaves
  · rw [hmay]
    rfl

end Sys2Proof.Machine


/-! SUPPORT. The key registers of the keyed check engine and the cipher lock (O29). -/

namespace Sys2Proof.Machine

open Sys2Proof

/-! ## Key registers (R244, R246) -/

theorem State.kce_kceKeyChanged (s : State) (r op : Nat) : (s.kceKeyChanged r op).kce = s.kce :=
  (s.kceKeyChanged_within r op).same .kce (by decide)

/-- A LOAD takes the key into an empty register; a new key of register 0 starts the chain anew. -/
theorem State.kceLoad_of_empty {s : State} {r : Nat} {key : BitVec 256} (hempty : bitOf s.kce.loaded r = false)
    (hkey : key ≠ 0#256) :
    ∃ t, s.kceLoad r key = some t ∧ t.kce.loaded = setBit s.kce.loaded r true ∧ t.kce.key r = key ∧
      (r = 0 → t.log.chainIndex = 0) := by
  unfold State.kceLoad
  rw [if_neg (by simp [hempty, hkey])]
  refine ⟨_, rfl, ?_⟩
  dsimp only
  rw [State.kce_kceKeyChanged]
  refine ⟨rfl, Sparse.get_set_same _ _ _ _, fun hr => ?_⟩
  rw [State.kceKeyChanged, if_pos hr]
  rfl

theorem State.kceZeroize_of_loaded {s : State} {r : Nat} (hloaded : bitOf s.kce.loaded r = true) :
    ∃ t, s.kceZeroize r = some t ∧ t.kce.loaded = setBit s.kce.loaded r false ∧ t.kce.key r = 0#256 := by
  unfold State.kceZeroize
  rw [if_neg (by simp [hloaded])]
  refine ⟨_, rfl, ?_⟩
  dsimp only
  rw [State.kce_kceKeyChanged]
  refine ⟨rfl, ?_⟩
  unfold Kce.key Sparse.get
  rw [Sparse.find_erase_same, Option.getD_none]

section
variable {path : Path} {s : State}

/-- What KEY_CMD does with a register that it may reach. -/
def State.kceEffect (s : State) (op : BitVec 2) : Option State :=
  if op = 0b01#2 then s.kceLoad s.kce.reg.toNat s.kce.keyInput
  else if op = 0b10#2 then s.kceZeroize s.kce.reg.toNat
  else none

theorem State.kceKeyCmd_of_allowed (htakes : s.kce.takesKeyCmd path = true) (hallowed : s.kce.keyCmdAllowed = true)
    (op : BitVec 2) : s.kceKeyCmd path op = s.kceCommand op (s.kceEffect op) := by
  unfold State.kceKeyCmd
  rw [htakes, hallowed, if_neg (by decide)]
  dsimp only
  rw [if_neg (by decide)]
  rfl

theorem State.kceCommand_none (s : State) (op : BitVec 2) :
    (s.kceCommand op none).kce = { s.kce with cmdError := true, keyData := [], op := op } := rfl

theorem State.kceCommand_some (s t : State) (op : BitVec 2) :
    s.kceCommand op (some t) = { t with kce := { t.kce with keyData := [], op := op } } := rfl

theorem completes_kceKeyCmd_of_other (h : s.kce.takesKeyCmd path = false) {c : Instr}
    (hc : c ∈ [Instr.kceKeyLoad path, .kceKeyZeroize path]) : Completes c s fun t => t = s.notOwner := by
  have hcmd (op : BitVec 2) : s.kceKeyCmd path op = s.notOwner := by
    rw [State.kceKeyCmd, h, if_pos (by decide)]
  simp only [List.mem_cons, List.not_mem_nil, or_false] at hc
  obtain rfl | rfl := hc
  · exact ⟨_, rfl, hcmd _⟩
  · exact ⟨_, rfl, hcmd _⟩

section
variable (htakes : s.kce.takesKeyCmd path = true) (hallowed : s.kce.keyCmdAllowed = true)
include htakes hallowed

theorem completes_kceKeyLoad :
    Completes (.kceKeyLoad path) s fun t =>
      t.kce.keyData = [] ∧
        (if bitOf s.kce.loaded s.kce.reg.toNat = false ∧ s.kce.keyInput ≠ 0#256 then
          bitOf t.kce.loaded s.kce.reg.toNat = true ∧ t.kce.key s.kce.reg.toNat = s.kce.keyInput ∧
            (s.kce.reg = 0#3 → t.log.chainIndex = 0)
        else t.kce.cmdError = true ∧ t.kce.keys = s.kce.keys ∧ t.kce.loaded = s.kce.loaded) := by
  refine ⟨_, rfl, ?_⟩
  dsimp only
  rw [State.kceKeyCmd_of_allowed htakes hallowed, State.kceEffect, if_pos rfl]
  by_cases hgo : bitOf s.kce.loaded s.kce.reg.toNat = false ∧ s.kce.keyInput ≠ 0#256
  · obtain ⟨t, ht, hloaded, hkey, hchain⟩ := State.kceLoad_of_empty hgo.1 hgo.2
    rw [if_pos hgo, ht, State.kceCommand_some]
    refine ⟨rfl, ?_, hkey, fun hr => hchain (by rw [hr]; rfl)⟩
    change bitOf t.kce.loaded _ = true
    rw [hloaded, bitOf_setBit_same _ _ s.kce.reg.isLt]
  · have hnone : s.kceLoad s.kce.reg.toNat s.kce.keyInput = none := by
      rw [State.kceLoad, if_pos]
      rw [not_and_or, Bool.not_eq_false, not_not] at hgo
      exact hgo
    rw [if_neg hgo, hnone, State.kceCommand_none]
    exact ⟨rfl, rfl, rfl, rfl⟩

theorem completes_kceKeyZeroize :
    Completes (.kceKeyZeroize path) s fun t =>
      t.kce.keyData = [] ∧
        (if bitOf s.kce.loaded s.kce.reg.toNat = true then
          bitOf t.kce.loaded s.kce.reg.toNat = false ∧ t.kce.key s.kce.reg.toNat = 0#256
        else t.kce.cmdError = true ∧ t.kce.keys = s.kce.keys) := by
  refine ⟨_, rfl, ?_⟩
  dsimp only
  rw [State.kceKeyCmd_of_allowed htakes hallowed, State.kceEffect, if_neg (by decide), if_pos rfl]
  by_cases hgo : bitOf s.kce.loaded s.kce.reg.toNat = true
  · obtain ⟨t, ht, hloaded, hkey⟩ := State.kceZeroize_of_loaded hgo
    rw [if_pos hgo, ht, State.kceCommand_some]
    refine ⟨rfl, ?_, hkey⟩
    change bitOf t.kce.loaded _ = false
    rw [hloaded, bitOf_setBit_same _ _ s.kce.reg.isLt]
  · have hnone : s.kceZeroize s.kce.reg.toNat = none := by
      rw [State.kceZeroize, if_pos (by simpa using hgo)]
    rw [if_neg hgo, hnone, State.kceCommand_none]
    exact ⟨rfl, rfl, rfl⟩

end

/-! ## The cipher lock (R245, R247) -/

/-- The least of a list is what `min` folds it to. -/
theorem foldl_min_eq {l : List Nat} {a c : Nat} (hc : c ∈ a :: l) (hle : ∀ d ∈ a :: l, c ≤ d) : l.foldl min a = c := by
  induction l generalizing a with
  | nil => exact (List.mem_singleton.mp hc).symm
  | cons b l ih =>
    refine ih ?_ fun d hd => ?_
    · have ha := hle a List.mem_cons_self
      have hb := hle b (List.mem_cons_of_mem _ List.mem_cons_self)
      simp only [List.mem_cons] at hc ⊢
      obtain rfl | rfl | h := hc
      · exact .inl (by omega)
      · exact .inl (by omega)
      · exact .inr h
    · simp only [List.mem_cons] at hd
      obtain rfl | h := hd
      · exact Nat.le_min.mpr ⟨hle a List.mem_cons_self, hle b (List.mem_cons_of_mem _ List.mem_cons_self)⟩
      · exact hle d (List.mem_cons_of_mem _ (List.mem_cons_of_mem _ h))

theorem completes_lockRequest {codes : List (Fin 8)} {c : Fin 8} (hfree : s.kce.owner = .none) (hc : c ∈ codes)
    (hmay : s.mayRequest c.val = true) (hleast : ∀ d ∈ codes, s.mayRequest d.val = true → c.val ≤ d.val) :
    Completes (.lockRequest codes) s fun t => t.kce.owner = ownerOf c.val ∧ t.kce.gen = s.kce.gen + 1#16 := by
  have hmem : c.val ∈ (codes.map Fin.val).filter s.mayRequest :=
    List.mem_filter.mpr ⟨List.mem_map_of_mem hc, hmay⟩
  have hle : ∀ d ∈ (codes.map Fin.val).filter s.mayRequest, c.val ≤ d := by
    intro d hd
    obtain ⟨hd, hreq⟩ := List.mem_filter.mp hd
    obtain ⟨e, he, rfl⟩ := List.mem_map.mp hd
    exact hleast e he hreq
  have hexec : exec (.lockRequest codes) s = .next (s.grantLock (ownerOf c.val)) := by
    change execLockRequest codes s = _
    unfold execLockRequest
    cases hcs : (codes.map Fin.val).filter s.mayRequest with
    | nil =>
      rw [hcs] at hmem
      exact absurd hmem List.not_mem_nil
    | cons a l =>
      rw [hcs] at hmem hle
      dsimp only
      rw [if_pos hfree, foldl_min_eq hmem hle]
  exact ⟨_, hexec, rfl, rfl⟩

theorem completes_lockRequest_taken {codes : List (Fin 8)} (hheld : s.kce.owner ≠ .none) :
    Completes (.lockRequest codes) s fun t => t = s := by
  refine ⟨_, rfl, ?_⟩
  split
  · rfl
  · exact if_neg hheld

/-- A dropped lock is free, and a message in progress has ended with ABORTED. -/
theorem State.dropLock_leaves (s : State) :
    s.dropLock.kce.owner = .none ∧ s.dropLock.kce.busy = false ∧
      (s.kce.busy = true → s.dropLock.kce.err = .aborted) := by
  unfold State.dropLock
  cases h : s.kce.busy
  · exact ⟨rfl, h, fun hb => absurd hb Bool.false_ne_true⟩
  · exact ⟨rfl, rfl, fun _ => rfl⟩

theorem completes_lockRelease {code : Fin 8} (hheld : s.kce.owner ≠ .none) (hcode : s.kce.owner.code = code.val) :
    Completes (.lockRelease code) s fun t =>
      t.kce.owner = .none ∧ t.kce.busy = false ∧ (s.kce.busy = true → t.kce.err = .aborted) := by
  refine ⟨_, rfl, ?_⟩
  rw [if_pos ⟨hheld, hcode⟩]
  exact s.dropLock_leaves

theorem completes_lockRelease_other {code : Fin 8} (hcode : s.kce.owner.code ≠ code.val) :
    Completes (.lockRelease code) s fun t => t = s := by
  refine ⟨_, rfl, ?_⟩
  rw [if_neg fun h => hcode h.2]

theorem completes_lockRevoke (hover : s.lockOverdue = true) :
    Completes .lockRevoke s fun t => t.kce.owner = .none ∧ t.kce.busy = false ∧ t.fired 1229 .warn := by
  obtain ⟨howner, hbusy, -⟩ := s.dropLock_leaves
  refine ⟨_, rfl, ?_⟩
  rw [if_pos hover]
  dsimp only
  rw [State.fire_kce, State.fired_fire, if_pos rfl]
  exact ⟨howner, hbusy, rfl⟩

theorem completes_lockRevoke_early (hover : s.lockOverdue = false) :
    Completes .lockRevoke s fun t => t = s := by
  refine ⟨_, rfl, ?_⟩
  rw [hover]
  rfl

end

/-- Settles O29: key commands by path and register state, and the lock's grant, release and revocation. -/
theorem cipherLockHasOneOwner : Obligations.CipherLockHasOneOwner :=
  ⟨fun _ _ => ⟨fun hother _ => completes_kceKeyCmd_of_other hother, fun htakes hallowed =>
      ⟨completes_kceKeyLoad htakes hallowed, completes_kceKeyZeroize htakes hallowed⟩⟩,
    fun _ _ _ => completes_lockRequest, fun _ _ => completes_lockRequest_taken, fun _ _ => completes_lockRelease,
    fun _ _ => completes_lockRelease_other, fun _ => ⟨completes_lockRevoke, completes_lockRevoke_early⟩⟩

end Sys2Proof.Machine


/-! SUPPORT. Seals and verify-reads (O31). -/

namespace Sys2Proof.Machine

open Sys2Proof

/-! ## The end of a message and of a background command -/

/-- Dropping the lock leaves the extents, their registry and the runs. -/
theorem State.dropLock_keeps (s : State) :
    s.dropLock.kce.extents = s.kce.extents ∧ s.dropLock.kce.registry = s.kce.registry ∧
      s.dropLock.kce.sealing = s.kce.sealing ∧ s.dropLock.kce.verify = s.kce.verify := by
  unfold State.dropLock
  cases s.kce.busy <;> exact ⟨rfl, rfl, rfl, rfl⟩

theorem State.kce_completeBg (s : State) (m : Nat) (rc : RetCode) (v : Vendor) (out : Output) :
    (s.completeBg m rc v out).kce = s.kce :=
  (s.completeBg_within m rc v out).same .kce (by decide)

theorem State.kce_fireOutcome (s : State) (v : Severity) (kind id outcome delivered seq : Nat) :
    (s.fireOutcome v kind id outcome delivered seq).kce = s.kce :=
  (s.fireOutcome_within v kind id outcome delivered seq).same .kce (by decide)

theorem State.kce_bgProgress (s : State) (m percent : Nat) : (s.bgProgress m percent).kce = s.kce :=
  (s.bgProgress_within m percent).same .kce (by decide)

theorem State.kce_retireBg (s : State) (m : Nat) : (s.retireBg m).kce = s.kce :=
  (s.retireBg_within m).same .kce (by decide)

theorem State.kce_seaWithdraw (s : State) (id : Nat) : (s.seaWithdraw id).kce = s.kce :=
  (s.seaWithdraw_within id).same .kce (by decide)

/-- A seal that fails leaves no extent of its own and a free lock, and its outcome is recorded at FAULT. -/
theorem State.sealFails_leaves {s : State} {r : SealRun} (h : s.kce.sealing = some r) (v : Vendor) :
    (s.sealFails v).kce.sealing = none ∧ Sparse.find (s.sealFails v).kce.extents r.id = none ∧
      (s.sealFails v).kce.owner = .none ∧ (s.sealFails v).fired 1228 .fault := by
  unfold State.sealFails
  simp -zeta only [h]
  extract_lets _ _ u w x
  obtain ⟨hext, -, hseal, -⟩ := u.dropLock_keeps
  obtain ⟨howner, -⟩ := u.dropLock_leaves
  have hx : x.kce = u.dropLock.kce := w.kce_completeBg _ _ _ _
  rw [State.kce_fireOutcome, hx, hext, hseal, howner]
  exact ⟨rfl, Sparse.find_erase_same _ _, rfl, (State.fired_fireOutcome _ _ _ _ _ _ _ _ _).mpr (by simp)⟩

/-- A verify-read that fails is over, its lock free, and its outcome is recorded at FAULT. -/
theorem State.verifyFails_leaves {s : State} {r : VerifyRun} (h : s.kce.verify = some r) (v : Vendor) :
    (s.verifyFails v).kce.verify = none ∧ (s.verifyFails v).kce.owner = .none ∧
      (s.verifyFails v).fired 1228 .fault := by
  unfold State.verifyFails
  simp -zeta only [h]
  extract_lets seq u _ w x y
  obtain ⟨-, -, -, hver⟩ := w.dropLock_keeps
  obtain ⟨howner, -⟩ := w.dropLock_leaves
  have hy : y.kce = w.dropLock.kce := (x.kce_completeBg _ _ _ _).trans (State.kce_seaWithdraw _ _)
  rw [State.kce_fireOutcome, hy, hver, howner]
  exact ⟨rfl, rfl, (State.fired_fireOutcome _ _ _ _ _ _ _ _ _).mpr (by simp)⟩

theorem State.cmac_feedLine (s : State) (l : Line) :
    (s.feedLine l).kce.cmac = cmacFeed s.kce.cmac (bytesOf 64 l) := by
  rw [State.feedLine]

/-! ## A seal (R252, R253) -/

section
variable {r : SealRun} {s : State} (hseal : s.kce.sealing = some r)
include hseal

section
variable {u : State} {stored : Bool} (hstarted : r.started = false) (hwrites : s.writesTo r.base r.len = false)
include hstarted hwrites

theorem completes_sealDrainDone (hcount : s.counterInc 3 stored = (u, true)) :
    Completes (.sealDrainDone stored) s fun t =>
      t.kce.sealing = some { r with started := true, seq := BitVec.ofNat 64 (u.sea.counter 3) } ∧
        t.kce.busy = true ∧ t.kce.msgLen = BitVec.ofNat 41 (64 + r.len * 2 ^ 20) := by
  refine ⟨_, rfl, ?_⟩
  rw [hseal]
  dsimp only
  rw [if_neg (by simp [hstarted, hwrites]), hcount]
  exact ⟨rfl, rfl, rfl⟩

theorem completes_sealDrainDone_unstored (hcount : s.counterInc 3 stored = (u, false)) :
    Completes (.sealDrainDone stored) s fun t =>
      t.kce.sealing = none ∧ Sparse.find t.kce.extents r.id = none ∧ t.kce.owner = .none ∧ t.fired 1228 .fault := by
  have hkce : u.kce = s.kce := by
    have h := (s.counterInc_within 3 stored).same .kce (by decide)
    rwa [hcount] at h
  refine ⟨_, rfl, ?_⟩
  rw [hseal]
  dsimp only
  rw [if_neg (by simp [hstarted, hwrites]), hcount]
  exact State.sealFails_leaves (hkce ▸ hseal) .storeFailed

end

section
variable (hstarted : r.started = true) (htag : r.tagDone = false) (hstall : s.kce.stallG = false)
include hstarted htag hstall

theorem completes_sealLineFeed_poison
    (hline : s.streamLine (r.base * 2 ^ 20 + 64 * r.nextLine) = some none) :
    Completes .sealLineFeed s fun t =>
      t.kce.sealing = none ∧ Sparse.find t.kce.extents r.id = none ∧ t.kce.owner = .none ∧ t.fired 1228 .fault := by
  refine ⟨_, rfl, ?_⟩
  rw [hseal]
  dsimp only
  rw [if_neg (by simp [hstarted, htag, hstall]), hline]
  exact State.sealFails_leaves hseal .poisoned

variable {d : Line} (hline : s.streamLine (r.base * 2 ^ 20 + 64 * r.nextLine) = some (some d))
include hline

theorem completes_sealLineFeed (hmore : r.nextLine + 1 ≠ r.len * 16384) :
    Completes .sealLineFeed s fun t =>
      t.kce.sealing = some { r with nextLine := r.nextLine + 1 } ∧
        t.kce.cmac = cmacFeed s.kce.cmac (bytesOf 64 d) := by
  refine ⟨_, rfl, ?_⟩
  rw [hseal]
  dsimp only
  rw [if_neg (by simp [hstarted, htag, hstall]), hline]
  dsimp only
  rw [if_neg hmore]
  generalize 100 * (r.nextLine + 1) / (r.len * 16384 + 1) = percent
  have hkce := (s.feedLine d).kce_bgProgress r.mbox.val percent
  generalize (s.feedLine d).bgProgress r.mbox.val percent = u at *
  exact ⟨rfl, (congrArg Kce.cmac hkce).trans (s.cmac_feedLine d)⟩

theorem completes_sealLineFeed_last (hlast : r.nextLine + 1 = r.len * 16384) :
    Completes .sealLineFeed s fun t =>
      t.kce.sealing = some { r with
        nextLine := r.nextLine + 1, tagDone := true
        tag := cmacTag (cmacFeed s.kce.cmac (bytesOf 64 d)) } := by
  refine ⟨_, rfl, ?_⟩
  rw [hseal]
  dsimp only
  rw [if_neg (by simp [hstarted, htag, hstall]), hline]
  dsimp only
  rw [if_pos hlast]
  generalize 100 * (r.nextLine + 1) / (r.len * 16384 + 1) = percent
  have hkce := (s.feedLine d).kce_bgProgress r.mbox.val percent
  generalize (s.feedLine d).bgProgress r.mbox.val percent = u at *
  have htag : u.finishStream.2 = cmacTag (cmacFeed s.kce.cmac (bytesOf 64 d)) := by
    rw [State.finishStream, hkce, State.cmac_feedLine]
  rw [← htag]

end

theorem completes_sealRegistryConfirmed (htag : r.tagDone = true) (habort : (s.mb r.mbox.val).bgAborted = false) :
    Completes (.sealRegistryConfirmed true) s fun t =>
      t.kce.sealing = none ∧ Sparse.find t.kce.extents r.id = some ⟨r.base, r.len, true⟩ ∧
        Sparse.find t.kce.registry r.id =
          some ⟨r.keyReg, r.base * 2 ^ 20, r.len, r.seq, r.time, r.tag, 1⟩ ∧
        Sparse.find t.sea.extents r.id = some ⟨r.base, r.len, true⟩ ∧ t.kce.owner = .none := by
  refine ⟨_, rfl, ?_⟩
  rw [hseal]
  dsimp only
  rw [if_neg (by simp [htag, habort]), if_neg (by decide)]
  generalize r.base * 2 ^ 20 = base
  generalize (⟨r.keyReg, base, r.len, r.seq, r.time, r.tag, 1⟩ : Registry) = g
  generalize hw : ({ s with
    kce := { s.kce with registry := Sparse.put s.kce.registry r.id g }
    media := { s.media with registry := Sparse.put s.media.registry r.id (registryImage r.id g) } } : State) = w
  have hlog := w.logPut_within .note .sealDone true (sealPayload r.id g)
  have hregistry : (w.logPut .note .sealDone true (sealPayload r.id g)).kce.registry =
      Sparse.put s.kce.registry r.id g := by
    rw [hlog.same .kce (by decide), ← hw]
  generalize w.logPut .note .sealDone true (sealPayload r.id g) = u at *
  generalize hx : ({ u with
    sea := { u.sea with extents := Sparse.put u.sea.extents r.id ⟨r.base, r.len, true⟩ }
    kce := { u.kce with
      extents := Sparse.put u.kce.extents r.id ⟨r.base, r.len, true⟩, sealing := none } } : State) = x
  have hretire := (x.retireBg_within r.mbox.val).same .sea (by decide)
  have hretire' := x.kce_retireBg r.mbox.val
  generalize x.retireBg r.mbox.val = y at *
  obtain ⟨hextents, hregs, hsealing, -⟩ := y.dropLock_keeps
  obtain ⟨howner, -⟩ := y.dropLock_leaves
  have hsea : y.dropLock.sea = y.sea := y.dropLock_within.same .sea (by decide)
  have hdone := (State.completeBg_within y.dropLock r.mbox.val .success .none
    (.bytes (leBytes 2 r.id ++ List.replicate 6 0#8 ++ bytesOf 8 r.seq ++ bytesOf 16 r.tag)))
  rw [hdone.same .kce (by decide), hdone.same .sea (by decide), hsea, hretire, hextents, hregs, hsealing, howner,
    hretire', ← hx]
  refine ⟨rfl, Sparse.find_put_same _ _ _, ?_, Sparse.find_put_same _ _ _, rfl⟩
  exact (congrArg (Sparse.find · r.id) hregistry).trans (Sparse.find_put_same _ _ _)

end

/-! ## A verify-read (R259, R260) -/

section
variable {r : VerifyRun} {g : Registry} {s : State} (hver : s.kce.verify = some r)
  (hreg : Sparse.find s.kce.registry r.id = some g)
include hver hreg

theorem State.find_verify : (s.kce.verify.bind fun r => Sparse.find s.kce.registry r.id) = some g := by
  rw [hver, Option.bind_some, hreg]

section
variable (htag : r.tag = none) (hstall : s.kce.stallG = false)
include htag hstall

theorem completes_verifyLineFeed_poison (hline : s.streamLine (g.base + 64 * r.nextLine) = some none) :
    Completes .verifyLineFeed s fun t => t.kce.verify = none ∧ t.kce.owner = .none ∧ t.fired 1228 .fault := by
  refine ⟨_, rfl, ?_⟩
  rw [State.find_verify hver hreg, hver]
  dsimp only
  rw [if_neg (by simp [htag, hstall]), hline]
  exact State.verifyFails_leaves hver .mediaError

theorem completes_verifyLineFeed {d : Line} (hline : s.streamLine (g.base + 64 * r.nextLine) = some (some d))
    (hmore : r.nextLine + 1 ≠ g.len * 16384) :
    Completes .verifyLineFeed s fun t =>
      (∃ v, t.kce.verify = some v ∧ v.nextLine = r.nextLine + 1 ∧ v.tag = none) ∧
        t.kce.cmac = cmacFeed s.kce.cmac (bytesOf 64 d) := by
  refine ⟨_, rfl, ?_⟩
  rw [State.find_verify hver hreg, hver]
  dsimp only
  rw [if_neg (by simp [htag, hstall]), hline]
  dsimp only
  rw [if_neg hmore]
  generalize 100 * (r.nextLine + 1) / (g.len * 16384 + 1) = percent
  have hkce (u : State) (hu : u.kce = (s.feedLine d).kce) (v : VerifyRun)
      (hv : v.nextLine = r.nextLine + 1 ∧ v.tag = none) :
      (∃ v', some v = some v' ∧ v'.nextLine = r.nextLine + 1 ∧ v'.tag = none) ∧
        (u.bgProgress r.mbox.val percent).kce.cmac = cmacFeed s.kce.cmac (bytesOf 64 d) :=
    ⟨⟨v, rfl, hv⟩, (congrArg Kce.cmac ((u.kce_bgProgress r.mbox.val percent).trans hu)).trans (s.cmac_feedLine d)⟩
  cases r.buffer with
  | some a =>
    have hstore := ((s.feedLine d).storeLine_within (a + 64 * r.nextLine) d none).same .kce (by decide)
    dsimp only
    generalize (s.feedLine d).storeLine (a + 64 * r.nextLine) d none = u at *
    exact hkce u hstore _ ⟨rfl, htag⟩
  | none =>
    dsimp only
    exact hkce (s.feedLine d) rfl _ ⟨rfl, htag⟩

end

theorem completes_verifyRetire {tag : BitVec 128} (htag : r.tag = some tag) :
    Completes .verifyRetire s fun t =>
      t.kce.verify = none ∧ t.kce.owner = .none ∧ t.fired 1228 (if tag = g.tag then .note else .fault) := by
  refine ⟨_, rfl, ?_⟩
  rw [State.find_verify hver hreg, hver]
  dsimp only
  rw [htag]
  dsimp only
  by_cases heq : tag = g.tag
  · rw [if_pos heq, if_pos heq]
    generalize hu : ({ s.retireBg r.mbox.val with kce := { (s.retireBg r.mbox.val).kce with verify := none } } : State) = u
    have hnone : u.kce.verify = none := by rw [← hu]
    obtain ⟨-, -, -, hkeeps⟩ := u.dropLock_keeps
    obtain ⟨howner, -⟩ := u.dropLock_leaves
    rw [State.kce_fireOutcome, State.kce_completeBg, State.kce_seaWithdraw, hkeeps, hnone, howner]
    exact ⟨rfl, rfl, (State.fired_fireOutcome _ _ _ _ _ _ _ _ _).mpr (by simp)⟩
  · rw [if_neg heq, if_neg heq]
    refine State.verifyFails_leaves (r := r) ?_ .macFail
    rwa [State.kce_retireBg]

end

/-- Settles O31: a seal's stored sequence, each fed line and its stored extent as R252 and R253 state, a failed one
leaving no extent; a verify-read ends at NOTE exactly where the tags are equal. -/
theorem sealsCommitOrLeaveNoExtent : Obligations.SealsCommitOrLeaveNoExtent := by
  unfold Obligations.SealsCommitOrLeaveNoExtent
  refine ⟨fun r s hseal => ⟨fun u stored hstarted hwrites => ⟨?_, ?_⟩, fun d hstarted htag hstall =>
    ⟨?_, fun hline => ⟨?_, ?_⟩⟩, ?_⟩, fun r g s hver hreg => ⟨fun htag hstall => ⟨?_, fun d hline hmore => ?_⟩, ?_⟩⟩
  · exact completes_sealDrainDone hseal hstarted hwrites
  · exact completes_sealDrainDone_unstored hseal hstarted hwrites
  · exact completes_sealLineFeed_poison hseal hstarted htag hstall
  · exact completes_sealLineFeed hseal hstarted htag hstall hline
  · exact completes_sealLineFeed_last hseal hstarted htag hstall hline
  · exact completes_sealRegistryConfirmed hseal
  · exact completes_verifyLineFeed_poison hver hreg htag hstall
  · exact completes_verifyLineFeed hver hreg htag hstall hline hmore
  · exact fun tag htag => completes_verifyRetire hver hreg htag

end Sys2Proof.Machine


/-! SUPPORT. What the request path (R55, R56) leaves alone, once for every projection of the state: a projection that its
small steps keep is kept when lookups are tried again and when waiting requests are presented. Used for the mailboxes, the
owner of the cipher lock, the ports' locks, the global state but for its reserved units, and the event sources above those
that requests fire. -/

namespace Sys2Proof.Machine

open Sys2Proof

/-- The parts that the steps of the request path write, the ports apart. -/
def requestParts : List Part := [.hostLogs, .bly, .cache, .vbf, .stp, .wlv, .pmu]

/-- A projection of the state that the steps of the request path keep: it reads none of `requestParts`, no source below
1,230, neither the units reserved nor the count of dropped requests, and of a port its lock at most. -/
structure RequestKeeps {β : Type} (π : State → β) : Prop where
  parts : ∀ s t : State, Within requestParts s t → π t = π s
  modPort : ∀ (s : State) (p : Port) (f : PortState → PortState), (∀ x, (f x).lock = x.lock) → π (s.modPort p f) = π s
  fireSub : ∀ (s : State) (i sub : Nat) (v : Severity) (d : Detail), i < 1230 → π (s.fireSub i sub v d) = π s
  reserved : ∀ (s : State) (n : Nat) (v : Vbf), π { s with glb := { s.glb with reserved := n }, vbf := v } = π s
  drops : ∀ (s : State) (n : Nat), π { s with kce := { s.kce with drops := n } } = π s

/-- The slice that serves a logical slice is one of the seventeen. -/
theorem State.serving_lt {s : State} {ls n : Nat} {b : Bool} (h : s.serving ls = some (n, b)) : n < 17 := by
  unfold State.serving at h
  split at h
  next n' hn =>
    cases h
    exact List.mem_range.mp (List.mem_of_find?_eq_some hn)
  · split at h
    next n' hn =>
      cases h
      exact List.mem_range.mp (List.mem_of_find?_eq_some hn)
    · cases h

section
variable {β : Type} {π : State → β} (hπ : RequestKeeps π)
include hπ

theorem RequestKeeps.of_within {W : List Part} {s t : State} (h : Within W s t) (hW : ∀ p, p ∈ W → p ∈ requestParts) :
    π t = π s :=
  hπ.parts s t (Within.step h hW (Within.refl _ s))

theorem RequestKeeps.fire (s : State) (i : Nat) (v : Severity) (d : Detail) (hi : i < 1230) : π (s.fire i v d) = π s :=
  hπ.fireSub s i 0 v d hi

theorem RequestKeeps.reserve (s : State) (b : Belay) : π (s.returnReservation b) = π s := by
  unfold State.returnReservation
  split
  · rfl
  · exact hπ.reserved s _ _

theorem RequestKeeps.occ (s : State) (code n : Nat) : π (s.occ code n) = π s :=
  hπ.of_within (s.occ_within _ _) (by decide)

theorem RequestKeeps.freeBelay (s : State) (i : Nat) : π (s.freeBelay i) = π s :=
  hπ.of_within (s.freeBelay_within _) (by decide)

theorem RequestKeeps.modBelay (s : State) (i : Nat) (f : Belay → Belay) : π (s.modBelay i f) = π s :=
  hπ.of_within (s.modBelay_within _ _) (by decide)

theorem RequestKeeps.modRead (s : State) (id : Nat) (f : ReadOp → ReadOp) : π (s.modRead id f) = π s :=
  hπ.of_within (s.modRead_within _ _) (by decide)

theorem RequestKeeps.newRead (s : State) (cls : ReadClass) (lsn : Nat) (belays : List Nat) (way victim : Option Nat) :
    π (s.newRead cls lsn belays way victim) = π s :=
  hπ.of_within (s.newRead_within _ _ _ _ _) (by decide)

theorem RequestKeeps.setWay (s : State) (key : Nat) (w : Way) : π (s.setWay key w) = π s :=
  hπ.of_within (s.setWay_within _ _) (by decide)

theorem RequestKeeps.snapshot (s : State) (i line : Nat) (lines : Four LineState) (data : Four Line)
    (mask : Four Mask) : π (s.snapshot i line lines data mask) = π s :=
  hπ.of_within (s.snapshot_within _ _ _ _ _) (by decide)

theorem RequestKeeps.cancelEviction (s : State) (i : Nat) : π (s.cancelEviction i) = π s :=
  hπ.of_within (s.cancelEviction_within _) (by decide)

theorem RequestKeeps.touchTagSram (s : State) (lsn : Nat) : π (s.touchTagSram lsn) = π s :=
  hπ.of_within (s.touchTagSram_within _) (by decide)

theorem RequestKeeps.touchWay (s : State) (key : Nat) : π (s.touchWay key) = π s :=
  hπ.of_within (s.touchWay_within _) (by decide)

theorem RequestKeeps.mirrorWay (s : State) (key : Nat) : π (s.mirrorWay key) = π s :=
  hπ.of_within (s.mirrorWay_within _) (by decide)

theorem RequestKeeps.recallInto (s : State) (i key : Nat) (fromTracker : Bool) :
    π (s.recallInto i key fromTracker) = π s :=
  hπ.of_within (s.recallInto_within _ _ _) (by decide)

theorem RequestKeeps.freeVictim (s : State) (i : Nat) : π (s.freeVictim i) = π s :=
  hπ.of_within (s.freeVictim_within _) (by decide)

theorem RequestKeeps.writeThrough (s : State) (i lsn : Nat) : π (s.writeThrough i lsn) = π s :=
  hπ.of_within (s.writeThrough_within _ _) (by decide)

theorem RequestKeeps.allocWrite (s : State) (lsn : Nat) (allowed : Nat → Bool) :
    π ((s.allocWrite lsn allowed).1) = π s :=
  hπ.of_within (s.allocWrite_within _ _) (by decide)

theorem RequestKeeps.allocFill (s : State) (lsn : Nat) : π ((s.allocFill lsn).1) = π s :=
  hπ.of_within (s.allocFill_within _) (by decide)

theorem RequestKeeps.poisonClear (s : State) (lsn line : Nat) : π (s.poisonClear lsn line) = π s :=
  hπ.of_within (s.poisonClear_within _ _) (by decide)

theorem RequestKeeps.modSlice (s : State) (n : Nat) (f : SliceState → SliceState) : π (s.modSlice n f) = π s :=
  hπ.of_within (s.modSlice_within _ _) (by decide)

theorem RequestKeeps.dropCleanOfSet (s : State) (key : Nat) : π (s.dropCleanOfSet key) = π s :=
  hπ.of_within (s.dropCleanOfSet_within _) (by decide)

theorem RequestKeeps.poisonAdd (s : State) (lsn : Nat) (lines : BitVec 4) (st : PoisonState) :
    π (s.poisonAdd lsn lines st) = π s := by
  have hwlv (w : Wlv) : π { s with wlv := w } = π s :=
    hπ.of_within (W := [.wlv]) ((Within.set_wlv (by decide)).mpr (Within.refl _ s)) (by decide)
  unfold State.poisonAdd
  split
  · exact hwlv _
  · split
    · exact hwlv _
    · split
      · rfl
      · rw [hπ.fire _ _ _ _ (by decide), hwlv]

theorem RequestKeeps.cacheError (s : State) (key line : Nat) (err : CacheErr) :
    π (s.cacheError key line err) = π s := by
  unfold State.cacheError
  dsimp only
  split
  · rfl
  next n b hn =>
    have hlt := State.serving_lt hn
    split
    · rfl
    · split
      · rw [hπ.fire _ _ _ _ (by omega), hπ.modSlice]
      · rw [hπ.fire _ _ _ _ (by omega)]
        split <;> simp only [hπ.dropCleanOfSet, hπ.setWay, hπ.poisonAdd, hπ.mirrorWay, hπ.modSlice]

theorem RequestKeeps.toRespond (s : State) (i : Nat) (data : Line) (poison : Bool) :
    π (s.toRespond i data poison) = π s := by
  have hlate (t : State) (d : Detail) : π (t.fire 1063 .note d) = π t := hπ.fire t 1063 .note d (by decide)
  unfold State.toRespond
  repeat' split
  all_goals simp only [hlate, hπ.freeBelay, hπ.modBelay, hπ.occ]

theorem RequestKeeps.readMiss (s : State) (i lsn : Nat) (way : Option Nat) : π (s.readMiss i lsn way) = π s := by
  unfold State.readMiss
  dsimp only
  repeat' split
  all_goals simp only [hπ.occ, hπ.modPort, implies_true, hπ.modBelay, hπ.setWay, hπ.modRead, hπ.toRespond, hπ.newRead]

theorem RequestKeeps.readVictim (s : State) (i lsn line k : Nat) (v : Victim) :
    π (s.readVictim i lsn line k v) = π s := by
  unfold State.readVictim
  dsimp only
  repeat' split
  all_goals simp only [hπ.occ, hπ.toRespond, hπ.readMiss, hπ.cancelEviction, hπ.allocWrite, hπ.recallInto,
    hπ.freeVictim, hπ.snapshot]

theorem RequestKeeps.startRead (s : State) (i : Nat) : π (s.startRead i) = π s := by
  unfold State.startRead
  dsimp only
  repeat' split
  all_goals simp only [hπ.modBelay, hπ.readVictim, hπ.readMiss, hπ.touchTagSram, hπ.cacheError, hπ.touchWay, hπ.occ,
    hπ.toRespond, hπ.snapshot, hπ.allocFill]

theorem RequestKeeps.releaseWaiters (s : State) (dpa : Nat) : π (s.releaseWaiters dpa) = π s :=
  foldl_keeps π (f := fun t (e : Nat × Belay) => t.startRead e.1) (fun t e => hπ.startRead t e.1) _ s

theorem RequestKeeps.completeWrite (s : State) (i : Nat) : π (s.completeWrite i) = π s := by
  unfold State.completeWrite
  split
  · rfl
  · simp only [hπ.releaseWaiters, hπ.toRespond, hπ.modBelay, hπ.occ, hπ.reserve]

theorem RequestKeeps.poisonOfWrite (s : State) (b : Belay) : π (s.poisonOfWrite b) = π s := by
  have hsource : 1017 + 20 * portIdx b.port < 1230 := by cases b.port <;> decide
  unfold State.poisonOfWrite
  dsimp only
  split
  · rw [hπ.fire _ _ _ _ hsource, hπ.poisonAdd]
  · split
    · exact hπ.poisonClear _ _ _
    · rfl

theorem RequestKeeps.landWrite (s : State) (i key : Nat) (fresh : Bool) (b : Belay) :
    π (s.landWrite i key fresh b) = π s := by
  unfold State.landWrite
  simp only [hπ.completeWrite, hπ.poisonOfWrite, hπ.touchWay, hπ.mirrorWay, hπ.setWay]

theorem RequestKeeps.writeVictim (s : State) (i lsn k : Nat) (v : Victim) (b : Belay) :
    π (s.writeVictim i lsn k v b) = π s := by
  unfold State.writeVictim
  dsimp only
  repeat' split
  all_goals simp only [hπ.landWrite, hπ.recallInto, hπ.allocWrite, hπ.modRead, hπ.cancelEviction, hπ.freeVictim]

theorem RequestKeeps.startWrite (s : State) (i : Nat) : π (s.startWrite i) = π s := by
  unfold State.startWrite
  dsimp only
  repeat' split
  all_goals simp only [hπ.completeWrite, hπ.writeThrough, hπ.landWrite, hπ.writeVictim, hπ.touchTagSram, hπ.allocWrite,
    hπ.setWay]

theorem RequestKeeps.restart (s : State) (i : Nat) : π (s.restart i) = π s := by
  unfold State.restart
  repeat' split
  all_goals simp only [hπ.startRead, hπ.startWrite]

theorem RequestKeeps.retryLookups (s : State) : π s.retryLookups = π s :=
  foldl_keeps π (f := fun t i => t.restart i) hπ.restart _ s

theorem RequestKeeps.retirePrefetch (s : State) (i : Nat) : π (s.retirePrefetch i) = π s := by
  unfold State.retirePrefetch
  dsimp only
  repeat' split
  all_goals simp only [hπ.freeBelay, hπ.modPort, implies_true]

theorem RequestKeeps.startPrefetch (s : State) (i : Nat) : π (s.startPrefetch i) = π s := by
  unfold State.startPrefetch
  dsimp only
  repeat' split
  all_goals simp only [hπ.retirePrefetch, hπ.newRead, hπ.modPort, implies_true]

theorem RequestKeeps.accept (s : State) (p : Port) (r : PortReq) (k : Nat) : π (s.accept p r k) = π s := by
  have hbly (b : Bly) : π { s with bly := b } = π s :=
    hπ.of_within (W := [.bly]) ((Within.set_bly (by decide)).mpr (Within.refl _ s)) (by decide)
  have hreserving (b : Bly) (n : Nat) (v : Vbf) :
      π { s with bly := b, glb := { s.glb with reserved := n }, vbf := v } = π s :=
    (hπ.reserved { s with bly := b } n v).trans (hbly b)
  unfold State.accept
  dsimp only
  repeat' split
  all_goals simp only [hπ.startRead, hπ.startPrefetch, hπ.startWrite, hπ.modPort, implies_true, hπ.occ, hreserving]

theorem RequestKeeps.answer (s : State) (p : Port) (isData rwd : Bool) : π (s.answer p isData rwd) = π s := by
  unfold State.answer
  exact hπ.modPort _ _ _ fun _ => rfl

theorem RequestKeeps.discardWrite (s : State) (p : Port) (dpa cause : Nat) : π (s.discardWrite p dpa cause) = π s :=
  hπ.fire s _ _ _ (by cases p <;> decide)

theorem RequestKeeps.portAnswer (s : State) (p : Port) (r : PortReq) : π (s.portAnswer p r) = π s := by
  have hsource : 1016 + 20 * portIdx p < 1230 := by cases p <;> decide
  have hunsupported (u : State) (d : Detail) : π (u.fire (1016 + 20 * portIdx p) .warn d) = π u :=
    hπ.fire u _ _ d hsource
  have hdropped (u : State) (e n : Nat) (d : Detail) :
      π (State.fireSub { u with kce := { u.kce with drops := n } } 1227 e .warn d) = π u := by
    rw [hπ.fireSub _ _ _ _ _ (by decide), hπ.drops]
  unfold State.portAnswer
  dsimp only
  repeat' split
  all_goals simp only [hunsupported, hdropped, hπ.discardWrite, hπ.answer, hπ.modPort, implies_true, hπ.occ]

theorem RequestKeeps.present (s : State) (p : Port) (r : PortReq) : π (s.present p r).1 = π s := by
  unfold State.present
  repeat' split
  all_goals simp only [hπ.portAnswer, hπ.modPort, implies_true, hπ.occ, hπ.accept]

theorem RequestKeeps.pumpReq (s : State) (p : Port) (n : Nat) : π (s.pumpReq p n) = π s := by
  induction n generalizing s with
  | zero => rfl
  | succ n ih =>
    unfold State.pumpReq
    dsimp only
    repeat' split
    all_goals simp only [ih, hπ.modPort, implies_true, hπ.present]

theorem RequestKeeps.pumpRwd (s : State) (p : Port) (n : Nat) : π (s.pumpRwd p n) = π s := by
  induction n generalizing s with
  | zero => rfl
  | succ n ih =>
    unfold State.pumpRwd
    dsimp only
    repeat' split
    all_goals simp only [ih, hπ.modPort, implies_true, hπ.present]

theorem RequestKeeps.pumpAll (s : State) : π s.pumpAll = π s := by
  unfold State.pumpAll State.pump
  dsimp only
  repeat' split
  all_goals simp only [hπ.pumpRwd, hπ.pumpReq]

end

/-! ## The mailboxes, the owner of the cipher lock and the ports' locks -/

theorem requestKeeps_hly : RequestKeeps State.hly where
  parts s t h := h.same .hly (by decide)
  fireSub s i sub v d _ := (s.fireSub_within i sub v d).same .hly (by decide)
  modPort s p f _ := by cases p <;> rfl
  reserved _ _ _ := rfl
  drops _ _ := rfl

theorem requestKeeps_owner : RequestKeeps fun s : State => s.kce.owner where
  parts s t h := congrArg Kce.owner (h.same .kce (by decide))
  fireSub s i sub v d _ := congrArg Kce.owner ((s.fireSub_within i sub v d).same .kce (by decide))
  modPort s p f _ := by cases p <;> rfl
  reserved _ _ _ := rfl
  drops _ _ := rfl

/-- The lock of each port's mode and partition fields. -/
def State.portLocks (s : State) : Bool × Bool := (s.port0.lock, s.port1.lock)

theorem Within.portLocks_eq {W : List Part} {s t : State} (h : Within W s t) (h0 : .port0 ∉ W) (h1 : .port1 ∉ W) :
    t.portLocks = s.portLocks := by
  have hq0 : t.port0.quiet = s.port0.quiet := h.same .port0 h0
  have hq1 : t.port1.quiet = s.port1.quiet := h.same .port1 h1
  exact Prod.ext (congrArg PortState.lock hq0 :) (congrArg PortState.lock hq1 :)

theorem requestKeeps_portLocks : RequestKeeps State.portLocks where
  parts s t h := h.portLocks_eq (by decide) (by decide)
  fireSub s i sub v d _ := (s.fireSub_within i sub v d).portLocks_eq (by decide) (by decide)
  modPort s p f hf := by
    cases p
    · exact Prod.ext (hf s.port0) rfl
    · exact Prod.ext rfl (hf s.port1)
  reserved _ _ _ := rfl
  drops _ _ := rfl

theorem State.pumpAll_hly (s : State) : s.pumpAll.hly = s.hly := requestKeeps_hly.pumpAll s

theorem State.pumpAll_owner (s : State) : s.pumpAll.kce.owner = s.kce.owner := requestKeeps_owner.pumpAll s

/-! ## The global state and the event sources -/

/-- The global state with the reserved units left out. -/
def Glb.butReserved (g : Glb) : Glb := { g with reserved := 0 }

theorem requestKeeps_butReserved : RequestKeeps fun s : State => s.glb.butReserved where
  parts s t h := congrArg Glb.butReserved (h.glb_eq (by decide) (by decide))
  fireSub s i sub v d _ :=
    congrArg Glb.butReserved ((s.fireSub_within i sub v d).glb_eq (by decide) (by decide))
  modPort s p f _ := by cases p <;> rfl
  reserved _ _ _ := rfl
  drops _ _ := rfl

theorem requestKeeps_fired {i : Nat} (hi : 1230 ≤ i) (v : Severity) : RequestKeeps fun s : State => s.fired i v where
  parts s t h := propext (State.fired_of_evt (h.same .evt (by decide)) i v)
  fireSub s j sub w d hj := by
    rw [State.fired_fireSub, if_neg (by omega)]
  modPort s p f _ := by cases p <;> rfl
  reserved _ _ _ := rfl
  drops _ _ := rfl

end Sys2Proof.Machine


/-! SUPPORT. Debug sessions, the watchdog, the CORE reset and the roll-back of an activation (O32). -/

namespace Sys2Proof.Machine

open Sys2Proof

/-! ## What the end of a command keeps -/

/-- What a host sees of a mailbox: whether it is idle, and its return code. -/
def Mb.front (x : Mb) : MbState × BitVec 16 := (x.st, x.rc)

/-- Mainmast's state with the command journal left out. -/
def Mst.butJournal (m : Mst) : Mst := { m with journal := [] }

/-- `t` follows `s` by ends of background commands: no mailbox changes its front, Mainmast changes in its journal only,
and a free cipher lock stays free. -/
structure Undone (s t : State) : Prop where
  front : ∀ k, (t.mb k).front = (s.mb k).front
  mst : t.mst.butJournal = s.mst.butJournal
  owner : s.kce.owner = .none → t.kce.owner = .none

theorem Undone.trans {s t u : State} (h : Undone s t) (k : Undone t u) : Undone s u :=
  ⟨fun i => (k.front i).trans (h.front i), k.mst.trans h.mst, k.owner ∘ h.owner⟩

theorem State.mb_of_hly {s t : State} (h : t.hly = s.hly) (k : Nat) : t.mb k = s.mb k := by
  rw [State.mb, h, ← State.mb]

/-- A step that leaves the mailboxes, Mainmast and the lock. -/
theorem Undone.of_eq {s t : State} (hly : t.hly = s.hly) (hmst : t.mst = s.mst) (hkce : t.kce.owner = s.kce.owner) :
    Undone s t :=
  ⟨fun k => by rw [State.mb_of_hly hly], by rw [hmst], fun h => hkce.trans h⟩

theorem Undone.of_within {W : List Part} {s t : State} (h : Within W s t) (hly : Part.hly ∉ W) (hmst : Part.mst ∉ W)
    (hkce : Part.kce ∉ W) : Undone s t :=
  Undone.of_eq (h.same .hly hly) (h.same .mst hmst) (congrArg Kce.owner (h.same .kce hkce))

/-- Writing a mailbox without its front. -/
theorem State.front_modMb (s : State) (m : Nat) {f : Mb → Mb} (hf : ∀ x, (f x).front = x.front) (k : Nat) :
    ((s.modMb m f).mb k).front = (s.mb k).front := by
  by_cases hk : k = m
  · subst hk
    rw [State.mb_modMb, hf]
  · rw [State.mb_modMb_other s f hk]

theorem State.hly_sendMsix (s : State) (p : Port) (v : Nat) : (s.sendMsix p v).hly = s.hly :=
  (s.sendMsix_within p v).same .hly (by decide)

theorem State.mb_mbInterrupt (s : State) (m : Nat) :
    (s.mbInterrupt m).mb m = { s.mb m with interrupts := (s.mb m).interrupts + 1 } := by
  have h := s.mb_modMb m fun x => { x with interrupts := x.interrupts + 1 }
  unfold State.mbInterrupt
  cases mboxPort m with
  | some p => exact (State.mb_of_hly (State.hly_sendMsix _ p 0) m).trans h
  | none => exact h

theorem State.mb_mbInterrupt_other (s : State) {m k : Nat} (hk : k ≠ m) : (s.mbInterrupt m).mb k = s.mb k := by
  have h := s.mb_modMb_other (fun x => { x with interrupts := x.interrupts + 1 }) hk
  unfold State.mbInterrupt
  cases mboxPort m with
  | some p => exact (State.mb_of_hly (State.hly_sendMsix _ p 0) k).trans h
  | none => exact h

theorem State.front_mbInterrupt (s : State) (m k : Nat) : ((s.mbInterrupt m).mb k).front = (s.mb k).front := by
  by_cases hk : k = m
  · subst hk
    rw [State.mb_mbInterrupt]
    rfl
  · rw [State.mb_mbInterrupt_other s hk]

theorem State.completeBgCode_undone (s : State) (m : Nat) (rc v : BitVec 16) (out : Output) :
    Undone s (s.completeBgCode m rc v out) := by
  have hkce : (s.completeBgCode m rc v out).kce = s.kce :=
    (s.completeBgCode_within m rc v out).same .kce (by decide)
  refine ⟨fun k => ?_, ?_, fun h => by rw [hkce, h]⟩
  · unfold State.completeBgCode
    split
    · rw [State.front_mbInterrupt]
      refine State.front_modMb (s.journalDrop m (s.mb m).bgOpcode) m ?_ k
      exact fun _ => rfl
    · rfl
  · unfold State.completeBgCode
    split
    · rw [(State.mbInterrupt_within _ _).same .mst (by decide)]
      rfl
    · rfl

theorem State.completeBg_undone (s : State) (m : Nat) (rc : RetCode) (v : Vendor) (out : Output) :
    Undone s (s.completeBg m rc v out) := s.completeBgCode_undone _ _ _ _

theorem State.dropLock_owner (s : State) : s.dropLock.kce.owner = .none := s.dropLock_leaves.1

theorem State.dropLock_undone (s : State) : Undone s s.dropLock :=
  ⟨fun k => by rw [State.mb_of_hly (s.dropLock_within.same .hly (by decide))],
    by rw [s.dropLock_within.same .mst (by decide)], fun _ => s.dropLock_owner⟩

theorem State.fireOutcome_undone (s : State) (v : Severity) (kind id outcome delivered seq : Nat) :
    Undone s (s.fireOutcome v kind id outcome delivered seq) :=
  .of_within (s.fireOutcome_within v kind id outcome delivered seq) (by decide) (by decide) (by decide)

theorem State.sealFails_undone (s : State) (v : Vendor) : Undone s (s.sealFails v) := by
  unfold State.sealFails
  split
  · exact .of_eq rfl rfl rfl
  · refine Undone.trans ?_ (State.fireOutcome_undone _ _ _ _ _ _ _)
    refine Undone.trans ?_ (State.completeBg_undone _ _ _ _ _)
    refine Undone.trans ?_ (State.dropLock_undone _)
    exact .of_eq rfl rfl rfl

theorem State.verifyFails_undone (s : State) (v : Vendor) : Undone s (s.verifyFails v) := by
  unfold State.verifyFails
  split
  · exact .of_eq rfl rfl rfl
  next r hr =>
    extract_lets seq u _ w x y
    have hu : Undone s u := by
      unfold u
      split
      · exact .of_within (State.fillLines_within _ _ _ _) (by decide) (by decide) (by decide)
      · exact .of_eq rfl rfl rfl
    have hw : Undone u w := .of_eq rfl rfl rfl
    have hx : Undone w x := (w.dropLock_undone).trans
      (.of_within (State.seaWithdraw_within _ _) (by decide) (by decide) (by decide))
    exact (((hu.trans hw).trans hx).trans (State.completeBg_undone _ _ _ _ _)).trans
      (State.fireOutcome_undone _ _ _ _ _ _ _)

theorem State.endErase_undone (s : State) (zero : Bool) : Undone s (s.endErase zero) :=
  .of_within (s.endErase_within zero) (by decide) (by decide) (by decide)

theorem State.settled_pumped_undone (s : State) : Undone s s.settleBudget.settleLevel.pumpAll := by
  have hbudget := s.settleBudget_within
  refine .of_eq ?_ ?_ ?_
  · rw [State.pumpAll_hly, State.settleLevel_hly, hbudget.same .hly (by decide)]
  · rw [(State.pumpAll_within _).same .mst (by decide), State.settleLevel_mst, hbudget.same .mst (by decide)]
  · rw [State.pumpAll_owner, State.settleLevel_kce, hbudget.same .kce (by decide)]

theorem State.endFormat_undone (s : State) : Undone s s.endFormat := by
  unfold State.endFormat
  extract_lets u v
  have hu : Undone s u := .trans (.of_within s.zeroMedia_within (by decide) (by decide) (by decide))
    (.of_within (State.clearPoisonList_within _) (by decide) (by decide) (by decide))
  have hv : Undone u v := .of_within (u.seaStore_within _ _) (by decide) (by decide) (by decide)
  refine Undone.trans ?_ (State.settled_pumped_undone _)
  exact (hu.trans hv).trans (.of_eq rfl rfl rfl)

theorem State.modSlot_undone (s : State) (k : Nat) (f : ModState → ModState) : Undone s (s.modSlot k f) :=
  .of_within (s.modSlot_within k f) (by decide) (by decide) (by decide)

theorem State.undoRetry_undone (s : State) (m : Nat) : Undone s (s.undoRetry m) := by
  unfold State.undoRetry
  refine (s.completeBg_undone m .retryRequired .none .empty).trans ?_
  dsimp only
  split
  · exact State.endErase_undone _ _
  · exact State.endErase_undone _ _
  · exact State.endFormat_undone _
  · split
    · exact State.modSlot_undone _ _ _
    · exact .of_eq rfl rfl rfl
  · exact State.sealFails_undone _ _
  · exact State.verifyFails_undone _ _
  · split
    · exact State.modSlot_undone _ _ _
    · exact .of_eq rfl rfl rfl
  · exact .of_eq rfl rfl rfl

/-! ## Mailboxes after a restart (R279) -/

theorem State.mst_completeCode (s : State) (m : Nat) (keep : Bool) (rc v : BitVec 16) (out : Output) (len : Nat) :
    (s.completeCode m keep rc v out len).mst = if keep then s.mst else (s.journalDrop m (s.mb m).opcode).mst := by
  unfold State.completeCode
  rw [(State.mbInterrupt_within _ _).same .mst (by decide)]
  cases keep <;> rfl

/-- The mailbox that a completion leaves (R286). -/
theorem State.mb_completeCode (s : State) (m : Nat) (keep : Bool) (rc v : BitVec 16) (out : Output) (len : Nat) :
    (s.completeCode m keep rc v out len).mb m =
      { s.mb m with
        st := .idle, rc := rc, vendor := v, output := out, outLen := len, rcReg := rc, vendorReg := v
        interrupts := (s.mb m).interrupts + 1 } := by
  unfold State.completeCode
  rw [State.mb_mbInterrupt, State.mb_modMb]
  cases keep <;> rfl

theorem State.mb_completeCode_other (s : State) {m k : Nat} (keep : Bool) (rc v : BitVec 16) (out : Output) (len : Nat)
    (hk : k ≠ m) : (s.completeCode m keep rc v out len).mb k = s.mb k := by
  unfold State.completeCode
  rw [State.mb_mbInterrupt_other _ hk, State.mb_modMb_other _ _ hk]
  cases keep <;> rfl

/-- A mailbox settled after a restart: only its own front may change, and an executing one reads Retry Required. -/
theorem State.settleMailbox_leaves (s : State) (m : Nat) :
    (s.settleMailbox m).mst.butJournal = s.mst.butJournal ∧
      (s.kce.owner = .none → (s.settleMailbox m).kce.owner = .none) ∧
      (∀ k, k ≠ m → ((s.settleMailbox m).mb k).front = (s.mb k).front) ∧
      ((s.settleMailbox m).mb m).front =
        (if (s.mb m).st = .executing then (.idle, 0x5#16) else (s.mb m).front) := by
  unfold State.settleMailbox
  extract_lets x u _ v
  have hu : Undone s u := by
    unfold u
    split
    · split
      · exact s.completeBg_undone _ _ _ _
      · exact s.undoRetry_undone m
    · exact .of_eq rfl rfl rfl
  have hv : Undone u v := by
    unfold v
    split <;> exact .of_eq rfl rfl rfl
  obtain ⟨hfront, hmst, howner⟩ := hu.trans hv
  by_cases hx : x.st = .executing
  · rw [if_pos hx, if_pos hx]
    refine ⟨?_, ?_, fun k hk => ?_, ?_⟩
    · rw [State.refuseRc, State.complete, State.mst_completeCode, if_neg (by decide)]
      exact hmst
    · rw [(v.refuseRc_within m .retryRequired).same .kce (by decide)]
      exact howner
    · rw [State.refuseRc, State.complete, State.mb_completeCode_other _ _ _ _ _ _ hk, hfront]
    · rw [State.refuseRc, State.complete, State.mb_completeCode]
      rfl
  · rw [if_neg hx, if_neg hx]
    exact ⟨hmst, howner, fun k _ => hfront k, hfront m⟩

/-- Every mailbox of a list without repetition settled: each executing one reads Retry Required. -/
theorem State.settleAll_leaves {l : List Nat} (hl : l.Nodup) (s : State) :
    (l.foldl State.settleMailbox s).mst.butJournal = s.mst.butJournal ∧
      (s.kce.owner = .none → (l.foldl State.settleMailbox s).kce.owner = .none) ∧
      ∀ k, ((l.foldl State.settleMailbox s).mb k).front =
        (if k ∈ l ∧ (s.mb k).st = .executing then (.idle, 0x5#16) else (s.mb k).front) := by
  induction l generalizing s with
  | nil => exact ⟨rfl, id, fun k => (if_neg (by simp)).symm⟩
  | cons m l ih =>
    obtain ⟨hm, hl⟩ := List.nodup_cons.mp hl
    obtain ⟨hmst, howner, hother, hsame⟩ := s.settleMailbox_leaves m
    obtain ⟨hmst', howner', hfront'⟩ := ih hl (s.settleMailbox m)
    refine ⟨hmst'.trans hmst, howner' ∘ howner, fun k => (hfront' k).trans ?_⟩
    by_cases hk : k = m
    · subst hk
      rw [if_neg (by simp [hm]), hsame]
      simp
    · have hst : ((s.settleMailbox m).mb k).st = (s.mb k).st := congrArg Prod.fst (hother k hk)
      rw [hother k hk, hst]
      simp [hk]

/-- A mailbox without a background command, settled after a restart, leaves the stored lines alone. -/
theorem State.settleMailbox_lines (s : State) {m : Nat} (h : (s.mb m).bgActive = false) :
    (s.settleMailbox m).cache = s.cache ∧ (s.settleMailbox m).media = s.media ∧ (s.settleMailbox m).vbf = s.vbf ∧
      ∀ k, ((s.settleMailbox m).mb k).bgActive = (s.mb k).bgActive := by
  unfold State.settleMailbox
  extract_lets x w _ u
  have hw : w = s := if_neg (Bool.eq_false_iff.mp h)
  have hu (k : Nat) : u.mb k = s.mb k ∧ u.cache = s.cache ∧ u.media = s.media ∧ u.vbf = s.vbf := by
    rw [← hw]
    unfold u
    split <;> exact ⟨rfl, rfl, rfl, rfl⟩
  obtain ⟨-, hcache, hmedia, hvbf⟩ := hu 0
  split
  · have hx := u.refuseRc_within m .retryRequired
    refine ⟨(hx.same .cache (by decide)).trans hcache, (hx.same .media (by decide)).trans hmedia,
      (hx.same .vbf (by decide)).trans hvbf, fun k => ?_⟩
    rw [State.refuseRc, State.complete]
    by_cases hk : k = m
    · subst hk
      rw [State.mb_completeCode, ← (hu k).1]
    · rw [State.mb_completeCode_other _ _ _ _ _ _ hk, (hu k).1]
  · exact ⟨hcache, hmedia, hvbf, fun k => by rw [(hu k).1]⟩

/-- Without a background command in any mailbox of the list, settling it leaves the stored lines alone. -/
theorem State.settleAll_lines (l : List Nat) (s : State) (h : ∀ m ∈ l, (s.mb m).bgActive = false) :
    (l.foldl State.settleMailbox s).cache = s.cache ∧ (l.foldl State.settleMailbox s).media = s.media ∧
      (l.foldl State.settleMailbox s).vbf = s.vbf := by
  induction l generalizing s with
  | nil => exact ⟨rfl, rfl, rfl⟩
  | cons m l ih =>
    obtain ⟨hcache, hmedia, hvbf, hbg⟩ := s.settleMailbox_lines (h m List.mem_cons_self)
    obtain ⟨hcache', hmedia', hvbf'⟩ := ih (s.settleMailbox m) fun k hk => by
      rw [hbg, h k (List.mem_cons_of_mem _ hk)]
    exact ⟨hcache'.trans hcache, hmedia'.trans hmedia, hvbf'.trans hvbf⟩

/-! ## The CORE reset (R279 to R283, R351) -/

/-- A takeover forced and the reset recorded: the first steps of a CORE reset. -/
def State.coreTaken (s : State) (source : Nat) : State :=
  let u := s.forceTakeover
  let v : State := { u with
    latches := Sparse.erase u.latches (pathKey .mainmast)
    rst := { u.rst.record .core source with request := none }
    mst := u.mst.coreReset (s.slotSwitches source) u.clock }
  { v with dty := { v.dty with bootLevel := 0x03#8 } }

/-- A lock that firmware held is free after its reset (R247). -/
def State.freeFirmwareLock (s : State) : State := if s.kce.owner = .firmware then s.dropLock else s

/-- The state of a CORE reset before its mailboxes are settled. -/
def State.coreBegun (s : State) (source : Nat) : State :=
  let u := ((s.coreTaken source).bootStage 0x07).cutSlice.freeFirmwareLock
  u.fire 1234 (coreSeverity source (s.slotSwitches source)) ⟨b2n u.mst.slot + 1, 0, source, 0⟩

theorem State.coreResetNow_eq (s : State) (source : Nat) :
    s.coreResetNow source = ((List.range 5).foldl State.settleMailbox (s.coreBegun source)).settleLevel := rfl

theorem State.forceTakeover_mst (s : State) :
    ∃ n, s.forceTakeover.mst = { s.mst with takeovers := n } := by
  unfold State.forceTakeover
  split
  · exact ⟨_, rfl⟩
  · unfold State.fireTakeover
    rw [State.fire_mst]
    exact ⟨_, rfl⟩

/-- A slice cut short frees the lock that it held, and no other. -/
theorem State.cutSlice_owner (s : State) : s.cutSlice.kce.owner = s.kce.owner ∨ s.cutSlice.kce.owner = .none := by
  unfold State.cutSlice
  cases s.trm.slice with
  | none => exact .inl rfl
  | some x =>
    by_cases h : s.kce.owner = .selfTest
    · exact .inr (by rw [if_pos h]; exact s.dropLock_owner)
    · exact .inl (by rw [if_neg h])

theorem State.freeFirmwareLock_within (s : State) : Within [.kce] s s.freeFirmwareLock := by
  unfold State.freeFirmwareLock
  split
  · exact s.dropLock_within
  · exact Within.refl _ s

theorem State.freeFirmwareLock_owner (s : State) (h : s.kce.owner = .firmware ∨ s.kce.owner = .none) :
    s.freeFirmwareLock.kce.owner = .none := by
  unfold State.freeFirmwareLock
  split
  · exact s.dropLock_owner
  next hf => exact h.resolve_left hf

theorem State.coreTaken_within (s : State) (source : Nat) :
    Within [.hostLogs, .latches, .mst, .rst, .log, .dty, .evt] s (s.coreTaken source) := by
  unfold State.coreTaken
  refine (Within.set_dty (by decide)).mpr ?_
  refine (Within.set_latches_mst_rst (by decide) (by decide) (by decide)).mpr ?_
  exact Within.step s.forceTakeover_within (by decide) (Within.refl _ s)

theorem State.coreBegun_within (s : State) (source : Nat) :
    Within [.hostLogs, .latches, .kce, .mst, .rst, .trm, .log, .dty, .evt] s (s.coreBegun source) := by
  refine Within.step (State.fire_within _ _ _ _) (by decide) ?_
  refine Within.step (State.freeFirmwareLock_within _) (by decide) ?_
  refine Within.step (State.cutSlice_within _) (by decide) ?_
  refine Within.step (State.bootStage_within _ _) (by decide) ?_
  exact Within.step (s.coreTaken_within source) (by decide) (Within.refl _ s)

/-- What a CORE reset begins with: the reset recorded, Mainmast restarted, a lock of firmware's free. -/
theorem State.coreBegun_leaves (s : State) (source : Nat) :
    (s.coreBegun source).rst = { s.rst.record .core source with request := none } ∧
      (∃ n, (s.coreBegun source).mst =
        Mst.coreReset { s.mst with takeovers := n } (s.slotSwitches source) s.forceTakeover.clock) ∧
      (s.kce.owner = .firmware → (s.coreBegun source).kce.owner = .none) := by
  have hlock := State.freeFirmwareLock_within ((s.coreTaken source).bootStage 0x07).cutSlice
  have hcut := State.cutSlice_within ((s.coreTaken source).bootStage 0x07)
  have hrst : (s.coreTaken source).rst = { s.rst.record .core source with request := none } := by
    rw [State.coreTaken, s.forceTakeover_within.same .rst (by decide)]
  have hkce : (s.coreTaken source).kce = s.kce := (s.coreTaken_within source).same .kce (by decide)
  refine ⟨?_, ?_, fun h => ?_⟩
  · rw [State.coreBegun, State.fire_rst, hlock.same .rst (by decide), hcut.same .rst (by decide)]
    exact hrst
  · obtain ⟨n, hn⟩ := s.forceTakeover_mst
    refine ⟨n, ?_⟩
    rw [State.coreBegun, State.fire_mst, hlock.same .mst (by decide), hcut.same .mst (by decide), ← hn]
    rfl
  · rw [State.coreBegun, State.fire_kce]
    apply State.freeFirmwareLock_owner
    exact (State.cutSlice_owner _).imp_left fun hc => hc.trans ((congrArg Kce.owner hkce).trans h)

/-! ## The commands of O32 -/

theorem completes_coreReset {src : CoreSource} {w : Bool} {s : State}
    (hreq : s.rst.request = some ⟨.core, coreCode src, w⟩) (hset : s.configSettled = true)
    (hlead : s.mst.lead.isSome) (hrel : s.mst.released = true) :
    Completes (.coreReset src) s fun t =>
      t.rst.request = none ∧ t.rst.level = .core ∧ t.rst.source = BitVec.ofNat 5 (coreCode src) ∧
        t.rst.prevLevel = s.rst.level ∧ t.rst.prevSource = s.rst.source ∧
        t.mst.running = true ∧ t.mst.coreResets = satAdd 0xFF s.mst.coreResets 1 ∧ t.mst.banks = [] ∧
        t.mst.retired = s.mst.retired ∧
        (s.kce.owner = .firmware → t.kce.owner = .none) ∧
        (∀ m < 5, (s.mb m).st = .executing → (t.mb m).st = .idle ∧ (t.mb m).rc = 0x5#16) ∧
        ((∀ m < 5, (s.mb m).bgActive = false) → t.cache = s.cache ∧ t.media = s.media ∧ t.vbf = s.vbf) := by
  refine ⟨s.coreResetNow (coreCode src), ?_, ?_⟩
  · have hlead : s.mst.lead.isNone = false := by rw [← Option.not_isSome, hlead]; rfl
    change execCoreReset src s = _
    simp [execCoreReset, hreq, hset, hlead, hrel]
  have hwithin := s.coreBegun_within (coreCode src)
  obtain ⟨hrst, ⟨n, hmst⟩, howner⟩ := s.coreBegun_leaves (coreCode src)
  have hsettle := (s.coreBegun (coreCode src)).settleMailboxes_within
  dsimp only
  rw [State.coreResetNow_eq, State.settleLevel_rst, State.settleLevel_mst, State.settleLevel_kce,
    State.settleLevel_cache, State.settleLevel_media, State.settleLevel_vbf]
  simp only [State.mb_settleLevel]
  generalize s.coreBegun (coreCode src) = u at *
  obtain ⟨hbut, hfree, hfront⟩ := u.settleAll_leaves (List.nodup_range (n := 5))
  have hmb (k : Nat) : u.mb k = s.mb k := State.mb_of_hly (hwithin.same .hly (by decide)) k
  have hall : ((List.range 5).foldl State.settleMailbox u).rst = u.rst := hsettle.same .rst (by decide)
  rw [hall, hrst]
  have hlines := u.settleAll_lines (List.range 5)
  generalize (List.range 5).foldl State.settleMailbox u = t at *
  generalize s.slotSwitches (coreCode src) = sw at *
  generalize s.forceTakeover.clock = now at *
  rw [hmst] at hbut
  have hretired := congrArg Mst.retired hbut
  refine ⟨rfl, rfl, rfl, rfl, rfl, congrArg Mst.running hbut, congrArg Mst.coreResets hbut, congrArg Mst.banks hbut,
    hretired, hfree ∘ howner, fun m hm hst => ?_, fun hbg => ?_⟩
  · have h := hfront m
    rw [hmb, if_pos ⟨List.mem_range.mpr hm, hst⟩] at h
    exact ⟨congrArg Prod.fst h, congrArg Prod.snd h⟩
  · obtain ⟨hcache, hmedia, hvbf⟩ := hlines fun m hm => by rw [hmb, hbg m (List.mem_range.mp hm)]
    exact ⟨hcache.trans (hwithin.same .cache (by decide)), hmedia.trans (hwithin.same .media (by decide)),
      hvbf.trans (hwithin.same .vbf (by decide))⟩

/-! ## The watchdog and the time limit of an activation (R279, R283) -/

theorem completes_wdogKick {path : Path} {s : State} (h : (s.resetPath path).isSome) :
    Completes (.wdogKick path) s fun t => t.mst.kickedAt = s.clock ∧ t.mst.expiries = s.mst.expiries := by
  obtain ⟨b, hb⟩ := Option.isSome_iff_exists.mp h
  refine ⟨_, rfl, ?_⟩
  rw [hb]
  exact ⟨rfl, rfl⟩

/-- A CORE request where none is pending stands at once (R350). -/
theorem State.requestReset_core {s : State} (h : s.rst.request = none) (source : Nat) :
    ∃ waits, s.requestReset .core source = { s with rst := { s.rst with request := some ⟨.core, source, waits⟩ } } := by
  unfold State.requestReset
  simp -zeta only [h]
  exact ⟨_, rfl⟩

theorem completes_wdogExpiry {s : State} (hrun : s.mst.running = true) (hpaused : s.mst.wdPaused = false)
    (hdue : s.elapsed s.mst.kickedAt (ms s.mst.timeoutMs) = true) (hreq : s.rst.request = none) :
    Completes .wdogExpiry s fun t =>
      t.mst.expiries = satAdd 0x3F s.mst.expiries 1 ∧ t.mst.wdPaused = true ∧ t.fired 1233 .fault ∧
        t.rst.request.map ResetReq.level = some .core ∧ t.rst.request.map ResetReq.source = some 0x08 := by
  refine ⟨_, rfl, ?_⟩
  dsimp only
  rw [if_neg (by simp [hrun, hpaused, hdue])]
  generalize s.clock :: s.mst.expiryTimes.filter _ = times
  generalize hu : State.fire { s with mst := _ } 1233 .fault Detail.none = u
  have hmst : u.mst.expiries = satAdd 0x3F s.mst.expiries 1 ∧ u.mst.wdPaused = true := by
    rw [← hu, State.fire_mst]
    exact ⟨rfl, rfl⟩
  have hrst : u.rst.request = none := by rw [← hu, State.fire_rst, hreq]
  have hfired : u.fired 1233 .fault := by
    rw [← hu]
    exact (State.fired_fire _ _ _ _ _ _).mpr (by rw [if_pos rfl])
  obtain ⟨w, hw⟩ := State.requestReset_core hrst 0x08
  rw [hw]
  exact ⟨hmst.1, hmst.2, hfired, rfl, rfl⟩

theorem State.rollBack_leaves {s : State} (h : s.mst.activating = true) :
    s.rollBack.mst.activating = false ∧ s.rollBack.mst.running = true ∧ s.rollBack.mst.slot = s.mst.slot ∧
      s.rollBack.mst.activateMbox = none ∧ s.rollBack.fired 1236 .warn := by
  unfold State.rollBack
  rw [if_pos h, State.fire_mst, State.fired_fire]
  simp [h]

theorem completes_activationTimeout {s : State} (hact : s.mst.activating = true) (htake : s.mst.takeover = false)
    (hdue : s.elapsed s.mst.activateAt (ms 100) = true) :
    Completes .activationTimeout s fun t =>
      t.mst.activating = false ∧ t.mst.running = true ∧ t.mst.slot = s.mst.slot ∧ t.mst.activateMbox = none ∧
        t.fired 1236 .warn := by
  have hleaves := State.rollBack_leaves hact
  refine ⟨_, rfl, ?_⟩
  dsimp only
  rw [if_neg (by simp [hact, htake, hdue])]
  generalize s.rollBack = u at *
  cases s.mst.activateMbox with
  | none => exact hleaves
  | some m =>
    have hmst := (u.completeBg_undone m.val .activationFailedRolledBack .none .empty).mst
    have hevt := (u.completeBg_within m.val .activationFailedRolledBack .none .empty).same .evt (by decide)
    dsimp only
    generalize u.completeBg m.val .activationFailedRolledBack .none .empty = v at *
    obtain ⟨hactive, hrunning, hslot, hmbox, hfired⟩ := hleaves
    exact ⟨(congrArg Mst.activating hmst).trans hactive, (congrArg Mst.running hmst).trans hrunning,
      (congrArg Mst.slot hmst).trans hslot, (congrArg Mst.activateMbox hmst).trans hmbox,
      (State.fired_of_evt hevt _ _).mpr hfired⟩

/-! ## Debug sessions (R271, R272, R247) -/

@[simp] theorem State.noteWear_sea (s : State) (was : Nat) : (s.noteWear was).sea = s.sea := by
  unfold State.noteWear
  dsimp only
  split
  · exact State.fire_sea _ _ _ _
  · rfl

@[simp] theorem State.storeFails_sea (s : State) : s.storeFails.sea = { s.sea with storeFailed := true } :=
  State.fire_sea _ _ _ _

theorem Sea.compact_counters (x : Sea) : x.compact.counters = x.counters := by
  unfold Sea.compact Sea.eraseOther
  split <;> rfl

/-- Storing records leaves every counter: compaction and the append touch the log sectors only. -/
theorem State.counters_seaStore (s : State) (new : List (Nat × List Byte)) (verified : Bool) :
    (s.seaStore new verified).1.sea.counters = s.sea.counters := by
  unfold State.seaStore
  split
  · dsimp only
    rw [State.noteWear_sea]
    split
    · exact s.sea.compact_counters
    · rfl
  · dsimp only
    rw [State.storeFails_sea]

/-- A refill of the counter sector leaves every counter (R399). -/
theorem State.counters_refillCounters (s : State) : s.refillCounters.sea.counters = s.sea.counters := by
  unfold State.refillCounters
  dsimp only
  split
  · rw [State.noteWear_sea]
    exact s.counters_seaStore _ _
  · exact s.counters_seaStore _ _

/-- A counter below its largest value, with its program verified, rises by one (R399). -/
theorem State.counterInc_verified {s : State} {c : Nat} (h : s.sea.saturated c = false) (hmax : counterMax c < 2 ^ 64) :
    (s.counterInc c true).2 = true ∧ (s.counterInc c true).1.sea.counter c = s.sea.counter c + 1 := by
  have hlt : s.sea.counter c + 1 < 2 ^ 64 := by
    have hc : ¬counterMax c ≤ s.sea.counter c := of_decide_eq_false h
    omega
  unfold State.counterInc
  rw [if_neg (by simp [h]), if_pos rfl]
  refine ⟨rfl, ?_⟩
  extract_lets u v
  have hv : v = s.sea.counter c := by
    unfold v u
    split
    · rw [Sea.counter, State.counters_refillCounters, ← Sea.counter]
    · rfl
  rw [Sea.counter, Sparse.get_set_same, BitVec.toNat_ofNat, hv, Nat.mod_eq_of_lt hlt]

/-- A counter whose program fails stays (R399). -/
theorem State.counterInc_failed {s : State} {c : Nat} (h : s.sea.saturated c = false) :
    s.counterInc c false = (s.storeFails, false) := by
  unfold State.counterInc
  rw [if_neg (by simp [h]), if_neg (by decide)]

section
variable {s : State} (haon : s.rst.aon = true) (hseq : s.seq.state ≠ .down) (hgranted : s.dbg.granted = false)
  (hstrap : s.dbg.strap = false) (hsettled : s.sea.settled = true) (hsat : s.sea.saturated 2 = false)
include haon hseq hgranted hstrap hsettled hsat

theorem completes_debugEntry_stored :
    Completes (.debugEntry true) s fun t =>
      t.dbg.granted = true ∧ t.dbg.epoch = BitVec.ofNat 24 (s.sea.counter 2 + 1) ∧ t.dty.dbgEpoch = t.dbg.epoch ∧
        t.dty.dbgStart = s.glb.time ∧ t.dbg.storeFailed = false ∧ t.fired 1278 .warn := by
  obtain ⟨hok, hcount⟩ := State.counterInc_verified hsat (by decide)
  have hglb := (s.counterInc_within 2 true).glb_eq (by decide) (by decide)
  refine ⟨_, rfl, ?_⟩
  dsimp only
  rw [if_neg (by simp [haon, hseq, hgranted, hstrap]), if_neg (by simp [hsettled]), if_neg (by simp [hsat]), hok]
  generalize (s.counterInc 2 true).1 = u at *
  rw [← hcount, ← hglb]
  simp

theorem completes_debugEntry_unstored :
    Completes (.debugEntry false) s fun t =>
      t.dbg.granted = true ∧ t.dbg.epoch = BitVec.ofNat 24 (s.sea.counter 2) ∧ t.dty.dbgEpoch = t.dbg.epoch ∧
        t.dbg.storeFailed = true ∧ t.fired 1278 .critical := by
  have hcount : s.storeFails.sea.counter 2 = s.sea.counter 2 := by
    rw [State.storeFails_sea]
    rfl
  refine ⟨_, rfl, ?_⟩
  dsimp only
  rw [if_neg (by simp [haon, hseq, hgranted, hstrap]), if_neg (by simp [hsettled]), if_neg (by simp [hsat]),
    State.counterInc_failed hsat]
  dsimp only
  generalize s.storeFails = u at *
  rw [← hcount]
  simp

end

theorem State.fired_debugExitRecord (s : State) (boot : Bool) (i : Nat) (v : Severity) :
    (s.debugExitRecord boot).fired i v ↔ if i = 1279 then .note = v else s.fired i v := by
  rw [State.debugExitRecord, State.fired_fire, State.fired_logPut]

/-- The lock of a debug session revoked at its exit (R247). -/
def State.freeDebugLock (s : State) : State :=
  if s.kce.owner = .debug then s.dropLock.fire 1229 .warn (Detail.ofUnit (LockOwner.code .debug)) else s

theorem State.freeDebugLock_leaves (s : State) :
    s.freeDebugLock.dbg = s.dbg ∧
      (s.kce.owner = .debug → s.freeDebugLock.kce.owner = .none ∧ s.freeDebugLock.fired 1229 .warn) ∧
      (s.kce.owner ≠ .debug → s.freeDebugLock.kce = s.kce) := by
  unfold State.freeDebugLock
  split
  next h =>
    rw [State.fire_kce, s.dropLock_owner, State.fire_dbg, s.dropLock_within.same .dbg (by decide)]
    exact ⟨rfl, fun _ => ⟨rfl, (State.fired_fire _ _ _ _ _ _).mpr (by rw [if_pos rfl])⟩, fun hn => absurd h hn⟩
  next h => exact ⟨rfl, fun hd => absurd hd h, fun _ => rfl⟩

/-- Debug access withdrawn. -/
def State.debugClosed (s : State) : State :=
  { s with dbg := { s.dbg with granted := false, strap := false, entering := false } }

theorem completes_debugExit {s : State} (hgranted : s.dbg.granted = true) :
    Completes .debugExit s fun t =>
      t.dbg.granted = false ∧ t.dbg.strap = false ∧ t.fired 1279 .note ∧
        (s.kce.owner = .debug → t.kce.owner = .none ∧ t.fired 1229 .warn) ∧
        (s.kce.owner ≠ .debug → t.kce = s.kce) := by
  have hexec : exec .debugExit s = .next (s.debugClosed.freeDebugLock.debugExitRecord false) := by
    change execDebugExit s = _
    rw [execDebugExit]
    dsimp only
    rw [if_pos hgranted]
    rfl
  refine ⟨_, hexec, ?_⟩
  have hkce : s.debugClosed.kce = s.kce := rfl
  have hopen : s.debugClosed.dbg.granted = false := rfl
  have hstrap : s.debugClosed.dbg.strap = false := rfl
  generalize s.debugClosed = u at *
  obtain ⟨hsame, hlock, hfree⟩ := u.freeDebugLock_leaves
  have hrecord := u.freeDebugLock.debugExitRecord_within false
  dsimp only
  rw [hrecord.same .dbg (by decide), hrecord.same .kce (by decide), State.fired_debugExitRecord,
    State.fired_debugExitRecord, if_pos rfl, if_neg (by decide), hsame, ← hkce]
  exact ⟨hopen, hstrap, rfl, hlock, hfree⟩

theorem completes_debugExit_closed {s : State} (hgranted : s.dbg.granted = false) :
    Completes .debugExit s fun t => t.dbg.entering = false ∧ t.log = s.log ∧ t.evt = s.evt := by
  refine ⟨_, rfl, ?_⟩
  dsimp only
  rw [if_neg (by simp [hgranted])]
  exact ⟨rfl, rfl, rfl⟩

/-- Settles O32: R271 and R272 for a debug session, R279 to R283 and R351 for the watchdog, the CORE reset and the
roll-back of an activation. -/
theorem debugWatchdogAndCoreResetSpareTheDatapath : Obligations.DebugWatchdogAndCoreResetSpareTheDatapath := by
  unfold Obligations.DebugWatchdogAndCoreResetSpareTheDatapath
  refine ⟨fun s => ⟨fun haon hseq hgranted hstrap hsettled hsat => ⟨?_, ?_⟩, completes_debugExit,
    completes_debugExit_closed⟩, fun _ _ => completes_wdogKick, fun s => ⟨completes_wdogExpiry,
    completes_activationTimeout⟩, fun src w s => completes_coreReset⟩
  · exact completes_debugEntry_stored haon hseq hgranted hstrap hsettled hsat
  · exact completes_debugEntry_unstored haon hseq hgranted hstrap hsettled hsat

end Sys2Proof.Machine


/-! SUPPORT. Lockstep and takeover (O33). -/

namespace Sys2Proof.Machine

open Sys2Proof

/-- The level that settling leaves is the one that the units' present state gives (R19). -/
theorem State.settleLevel_level (s : State) : s.settleLevel.glb.level = s.levelOf := by
  unfold State.settleLevel
  dsimp only
  split
  next h => exact h.symm
  · rw [State.fire_glb]
    rfl

/-- Without a leading core the minimum set is not met (Table ARCH-6). -/
theorem State.levelOf_of_noLead {s : State} (h : s.mst.lead = none) : s.levelOf = .outOfService := by
  have hmin : s.minimumSet = false := by simp [State.minimumSet, h]
  have hout : s.outOfService = true := by simp [State.outOfService, hmin]
  rw [State.levelOf, if_pos hout]

/-- The completions that a takeover posts change Mainmast's journal only. -/
theorem State.postRetired_butJournal (s : State) : s.postRetired.mst.butJournal = s.mst.butJournal := by
  unfold State.postRetired
  refine foldl_keeps (fun t : State => t.mst.butJournal) (fun t m => ?_) _ s
  split
  · exact (t.completeBgCode_undone _ _ _ _).mst
  · rfl

section
variable {s : State}

/-! ## Checkpoints and mismatch (R274, R275) -/

theorem completes_taskCheckpoint (hrun : s.mst.running = true) :
    Completes .taskCheckpoint s fun t =>
      t.mst.bank = !s.mst.bank ∧ t.mst.tasks = s.mst.tasks + 1 ∧
        Sparse.find t.mst.banks (b2n (!s.mst.bank)) = some (s.mst.tasks + 1) ∧
        (s.mst.activateMbox = none → t.mst.running = true) ∧
        (s.mst.activateMbox ≠ none → t.mst.running = false ∧ t.mst.activating = true) := by
  refine ⟨_, rfl, ?_⟩
  dsimp only
  rw [if_neg (by simp [hrun])]
  cases h : s.mst.activateMbox with
  | none => exact ⟨rfl, rfl, Sparse.find_put_same _ _ _, fun _ => hrun, fun hn => absurd rfl hn⟩
  | some m => exact ⟨rfl, rfl, Sparse.find_put_same _ _ _, fun hn => absurd hn (by simp), fun _ => ⟨rfl, rfl⟩⟩

theorem completes_lockstepMismatch (hrun : s.mst.running = true) (htake : s.mst.takeover = false)
    (hchecker : s.mst.checker.isSome) :
    Completes .lockstepMismatch s fun t =>
      t.mst.running = false ∧ t.mst.takeover = true ∧ t.mst.wdPaused = true ∧ t.fired 1230 .fault := by
  obtain ⟨c, hc⟩ := Option.isSome_iff_exists.mp hchecker
  refine ⟨_, rfl, ?_⟩
  dsimp only
  rw [if_neg (by simp [hrun, htake, hc])]
  simp

theorem completes_lockstepMismatch_unchecked (hchecker : s.mst.checker = none) :
    Completes .lockstepMismatch s fun t => t = s := by
  refine ⟨_, rfl, ?_⟩
  dsimp only
  rw [if_pos (by simp [hchecker])]

/-! ## The configuration chosen (Table MAST-1) -/

section
variable {l c : Nat} {lp cp : Bool} (hlead : s.mst.lead = some l) (hchecker : s.mst.checker = some c)
  (htake : s.mst.takeover = true) (hrow : s.mst.row = 0)
include hlead hchecker htake hrow

/-- A choice that leaves a leading core is recorded; it comes into force at the resume. -/
theorem exec_configChosen {x : Nat} (hx : (s.mst.choose l c lp cp).lead = some x) :
    exec (.configChosen lp cp) s = .next { s with mst := s.mst.choose l c lp cp } := by
  change execConfigChosen lp cp s = _
  simp [execConfigChosen, hlead, hchecker, htake, hrow, hx]

theorem completes_configChosen_spare {x : Nat} (hspare : s.mst.spare = some x) (hpass : (lp || cp) = true) :
    Completes (.configChosen lp cp) s fun t =>
      t.mst.lead = some (min (if lp then l else c) x) ∧ t.mst.checker = some (max (if lp then l else c) x) ∧
        t.mst.spare = none := by
  refine ⟨_, exec_configChosen hlead hchecker htake hrow (by simp [Mst.choose, takeoverRow, hspare, hpass]; rfl), ?_⟩
  simp [Mst.choose, takeoverRow, hspare, hpass]

theorem completes_configChosen_spareAlone {x : Nat} (hspare : s.mst.spare = some x) (hpass : (lp || cp) = false) :
    Completes (.configChosen lp cp) s fun t =>
      t.mst.lead = some x ∧ t.mst.checker = none ∧ t.mst.spare = none ∧ t.mst.unchecked = true := by
  refine ⟨_, exec_configChosen hlead hchecker htake hrow (by simp [Mst.choose, takeoverRow, hspare, hpass]; rfl), ?_⟩
  simp [Mst.choose, takeoverRow, hspare, hpass]

theorem completes_configChosen_alone (hspare : s.mst.spare = none) (hpass : (lp || cp) = true) :
    Completes (.configChosen lp cp) s fun t =>
      t.mst.lead = some (if lp then l else c) ∧ t.mst.checker = none ∧ t.mst.unchecked = true := by
  refine ⟨_, exec_configChosen hlead hchecker htake hrow (by simp [Mst.choose, takeoverRow, hspare, hpass]; rfl), ?_⟩
  simp [Mst.choose, takeoverRow, hspare, hpass]

theorem completes_configChosen_none (hspare : s.mst.spare = none) (hpass : (lp || cp) = false) :
    Completes (.configChosen lp cp) s fun t =>
      t.mst.lead = none ∧ t.mst.checker = none ∧ t.glb.level = .outOfService ∧ t.fired 1231 .critical := by
  have hchoose : (s.mst.choose l c lp cp).lead = none ∧ (s.mst.choose l c lp cp).checker = none := by
    simp [Mst.choose, takeoverRow, hspare, hpass]
  refine ⟨_, rfl, ?_⟩
  rw [hlead, hchecker]
  dsimp only
  rw [if_neg (by simp [htake, hrow]), if_pos (by simp [hchoose.1])]
  rw [State.settleLevel_level, State.settleLevel_mst, State.fireTakeover, State.levelOf_of_noLead]
  · simp [hchoose]
  · simp [hchoose]

end

/-! ## The resume and the spare's self-test (R276 to R278) -/

theorem completes_takeoverResume {valid : BitVec 2} {b n : Nat} (htake : s.mst.takeover = true) (hrow : s.mst.row ≠ 0)
    (hnew : s.mst.newest valid = some (b, n)) :
    Completes (.takeoverResume valid) s fun t =>
      t.mst.takeover = false ∧ (t.mst.running = !s.mst.activating) ∧ t.mst.tasks = n ∧
        t.mst.takeovers = satAdd 0xFF s.mst.takeovers 1 ∧ t.mst.wdPaused = false ∧ t.mst.kickedAt = s.clock := by
  refine ⟨_, rfl, ?_⟩
  dsimp only
  rw [if_neg (by simp [htake, hrow]), hnew]
  dsimp only
  rw [State.settleLevel_mst]
  generalize hm : ({ s.mst with
    takeover := false, row := 0, running := !s.mst.activating
    takeovers := satAdd 0xFF s.mst.takeovers 1
    bank := b == 1, tasks := n, wdPaused := false, kickedAt := s.clock } : Mst) = m
  have hbut := (State.fireTakeover { s with mst := m } s.mst.row).postRetired_butJournal
  rw [(State.fireTakeover_within { s with mst := m } s.mst.row).same .mst (by decide)] at hbut
  generalize (State.fireTakeover { s with mst := m } s.mst.row).postRetired = v at *
  subst hm
  exact ⟨congrArg Mst.takeover hbut, congrArg Mst.running hbut, congrArg Mst.tasks hbut, congrArg Mst.takeovers hbut,
    congrArg Mst.wdPaused hbut, congrArg Mst.kickedAt hbut⟩

theorem completes_spareSelfTest_pass {c : Nat} (hspare : s.mst.spare = some c) :
    Completes (.spareSelfTest true) s fun t => t = s := by
  refine ⟨_, rfl, ?_⟩
  rw [hspare]
  rfl

theorem completes_spareSelfTest_fail {c : Nat} (hspare : s.mst.spare = some c) (htake : s.mst.takeover = false)
    (hrel : s.mst.released = true) :
    Completes (.spareSelfTest false) s fun t =>
      t.mst.spare = none ∧ t.mst.lead = s.mst.lead ∧ t.fired 1232 .fault := by
  refine ⟨_, rfl, ?_⟩
  rw [hspare]
  dsimp only
  rw [if_neg (by simp [htake, hrel])]
  simp [Mst.retire]

end

/-- Settles O33: the four rows of Table MAST-1 for the configuration that takeover chooses, with the checkpoint, the
mismatch, the resume and the spare's self-test about it. -/
theorem takeoverChoosesTheTableConfiguration : Obligations.TakeoverChoosesTheTableConfiguration := by
  unfold Obligations.TakeoverChoosesTheTableConfiguration
  refine fun s => ⟨completes_taskCheckpoint, completes_lockstepMismatch, completes_lockstepMismatch_unchecked,
    fun l c lp cp hlead hchecker htake hrow => ⟨fun x => ?_, fun x => ?_, ?_, ?_⟩,
    fun valid b n => completes_takeoverResume, fun c hspare htake hrel => ⟨?_, ?_⟩⟩
  · exact completes_configChosen_spare hlead hchecker htake hrow
  · exact completes_configChosen_spareAlone hlead hchecker htake hrow
  · exact completes_configChosen_alone hlead hchecker htake hrow
  · exact completes_configChosen_none hlead hchecker htake hrow
  · exact completes_spareSelfTest_pass hspare
  · exact completes_spareSelfTest_fail hspare htake hrel

end Sys2Proof.Machine


/-! SUPPORT. The completion of a mailbox command (R286, R291): what it leaves in its mailbox, and what it leaves alone. -/

namespace Sys2Proof.Machine

open Sys2Proof

/-! ## The parts that a completion leaves alone -/

@[simp] theorem State.complete_draws (s : State) (m : Nat) (rc : RetCode) (v : Vendor) (out : Output) (len : Nat) :
    (s.complete m rc v out len).draws = s.draws :=
  (s.complete_within m rc v out len).same .draws (by decide)

@[simp] theorem State.complete_glb (s : State) (m : Nat) (rc : RetCode) (v : Vendor) (out : Output) (len : Nat) :
    (s.complete m rc v out len).glb = s.glb :=
  (s.complete_within m rc v out len).glb_eq (by decide) (by decide)

@[simp] theorem State.complete_wlv (s : State) (m : Nat) (rc : RetCode) (v : Vendor) (out : Output) (len : Nat) :
    (s.complete m rc v out len).wlv = s.wlv :=
  (s.complete_within m rc v out len).same .wlv (by decide)

@[simp] theorem State.complete_shr (s : State) (m : Nat) (rc : RetCode) (v : Vendor) (out : Output) (len : Nat) :
    (s.complete m rc v out len).shr = s.shr :=
  (s.complete_within m rc v out len).same .shr (by decide)

@[simp] theorem State.complete_kce (s : State) (m : Nat) (rc : RetCode) (v : Vendor) (out : Output) (len : Nat) :
    (s.complete m rc v out len).kce = s.kce :=
  (s.complete_within m rc v out len).same .kce (by decide)

@[simp] theorem State.complete_seq (s : State) (m : Nat) (rc : RetCode) (v : Vendor) (out : Output) (len : Nat) :
    (s.complete m rc v out len).seq = s.seq :=
  (s.complete_within m rc v out len).same .seq (by decide)

@[simp] theorem State.complete_reef (s : State) (m : Nat) (rc : RetCode) (v : Vendor) (out : Output) (len : Nat) :
    (s.complete m rc v out len).reef = s.reef :=
  (s.complete_within m rc v out len).same .reef (by decide)

@[simp] theorem State.complete_trm (s : State) (m : Nat) (rc : RetCode) (v : Vendor) (out : Output) (len : Nat) :
    (s.complete m rc v out len).trm = s.trm :=
  (s.complete_within m rc v out len).same .trm (by decide)

@[simp] theorem State.complete_log (s : State) (m : Nat) (rc : RetCode) (v : Vendor) (out : Output) (len : Nat) :
    (s.complete m rc v out len).log = s.log :=
  (s.complete_within m rc v out len).same .log (by decide)

@[simp] theorem State.complete_sea (s : State) (m : Nat) (rc : RetCode) (v : Vendor) (out : Output) (len : Nat) :
    (s.complete m rc v out len).sea = s.sea :=
  (s.complete_within m rc v out len).same .sea (by decide)

@[simp] theorem State.complete_evt (s : State) (m : Nat) (rc : RetCode) (v : Vendor) (out : Output) (len : Nat) :
    (s.complete m rc v out len).evt = s.evt :=
  (s.complete_within m rc v out len).same .evt (by decide)

@[simp] theorem State.complete_pmu (s : State) (m : Nat) (rc : RetCode) (v : Vendor) (out : Output) (len : Nat) :
    (s.complete m rc v out len).pmu = s.pmu :=
  (s.complete_within m rc v out len).same .pmu (by decide)

/-! ## The other operations that end a command are completions -/

@[simp] theorem State.refuse_eq (s : State) (m : Nat) (v : Vendor) : s.refuse m v = s.complete m v.rc v .empty 0 := rfl

@[simp] theorem State.refuseRc_eq (s : State) (m : Nat) (rc : RetCode) :
    s.refuseRc m rc = s.complete m rc .none .empty 0 := rfl

/-- The length that a command's success reports: that of its bytes. -/
def Output.byteLength : Output → Nat
  | .bytes b => b.length
  | _ => 0

@[simp] theorem State.succeed_eq (s : State) (m : Nat) (out : Output) :
    s.succeed m out = s.complete m .success .none out out.byteLength := by
  unfold State.succeed Output.byteLength
  rfl

/-! ## The mailbox that a completion leaves -/

theorem State.mb_complete (s : State) (m : Nat) (rc : RetCode) (v : Vendor) (out : Output) (len : Nat) :
    (s.complete m rc v out len).mb m =
      { s.mb m with
        st := .idle, rc := BitVec.ofNat 16 rc.code, vendor := BitVec.ofNat 16 v.code, output := out, outLen := len
        rcReg := BitVec.ofNat 16 rc.code, vendorReg := BitVec.ofNat 16 v.code
        interrupts := (s.mb m).interrupts + 1 } := s.mb_completeCode m _ _ _ out len

@[simp] theorem State.answered_complete (s : State) (m : Mbox) (rc : RetCode) (v : Vendor) (out : Output) (len : Nat) :
    (s.complete m.val rc v out len).answered m rc v out := by
  unfold State.answered
  rw [State.mb_complete]
  exact ⟨rfl, rfl, rfl, rfl⟩

/-- What a completion does not change of its mailbox: the background command. -/
@[simp] theorem State.bgActive_complete (s : State) (m : Nat) (rc : RetCode) (v : Vendor) (out : Output) (len : Nat) :
    ((s.complete m rc v out len).mb m).bgActive = (s.mb m).bgActive := by rw [State.mb_complete]

/-! ## Mainmast and the mailbox registers after a completion -/

@[simp] theorem State.complete_butJournal (s : State) (m : Nat) (rc : RetCode) (v : Vendor) (out : Output) (len : Nat) :
    (s.complete m rc v out len).mst.butJournal = s.mst.butJournal := by
  unfold State.complete
  rw [State.mst_completeCode]
  split <;> rfl

/-- The mailbox registers and settings with the mailboxes themselves left out. -/
def Hly.butMb (h : Hly) : Hly := { h with mb := [] }

@[simp] theorem State.modMb_butMb (s : State) (m : Nat) (f : Mb → Mb) : (s.modMb m f).hly.butMb = s.hly.butMb := rfl

theorem State.mbInterrupt_butMb (s : State) (m : Nat) : (s.mbInterrupt m).hly.butMb = s.hly.butMb := by
  unfold State.mbInterrupt
  cases mboxPort m with
  | some p =>
    dsimp only
    rw [State.hly_sendMsix, State.modMb_butMb]
  | none => rfl

@[simp] theorem State.complete_butMb (s : State) (m : Nat) (rc : RetCode) (v : Vendor) (out : Output) (len : Nat) :
    (s.complete m rc v out len).hly.butMb = s.hly.butMb := by
  unfold State.complete State.completeCode
  rw [State.mbInterrupt_butMb, State.modMb_butMb]
  split <;> rfl

/-! ## A command sent to the background -/

theorem State.inBackground_startBg {s : State} {m : Mbox} {op : Nat} (hop : (s.mb m.val).opcode.toNat = op)
    (abortable : Bool) (slot : Option Nat) : (s.startBg m.val abortable slot).inBackground m op := by
  unfold State.inBackground State.answered State.startBg
  rw [State.mb_modMb, State.mb_complete]
  refine ⟨⟨rfl, rfl, rfl, rfl⟩, rfl, ?_, rfl⟩
  rw [← hop, BitVec.ofNat_toNat, BitVec.setWidth_eq]

/-! ## Commands that firmware holds in EXECUTING -/

theorem State.executing_of_taken {s : State} {m op : Nat} (h : s.taken m op = true) :
    (s.mb m).st = .executing ∧ (s.mb m).opcode.toNat = op := by
  simpa [State.taken] using h

theorem completes_onCommand {s : State} {c : Instr} {m : Mbox} {op : Nat} {f : State → State} {Q : State → Prop}
    (hexec : exec c s = s.onCommand m op f) (htaken : s.taken m.val op = true) (h : Q (f s)) : Completes c s Q :=
  ⟨f s, by rw [hexec, State.onCommand, htaken, if_pos rfl], h⟩

theorem completes_onCommand_untaken {s : State} {c : Instr} {m : Mbox} {op : Nat} {f : State → State} {Q : State → Prop}
    (hexec : exec c s = s.onCommand m op f) (htaken : s.taken m.val op = false) (h : Q s) : Completes c s Q :=
  ⟨s, by rw [hexec, State.onCommand, htaken, if_neg (by decide)], h⟩

end Sys2Proof.Machine


/-! SUPPORT. Doorbells and the completions that firmware posts (O34). -/

namespace Sys2Proof.Machine

open Sys2Proof

section
variable {m : Mbox} {op : BitVec 16} {p : List Byte} {s : State}

/-! ## A doorbell (R285, R286, R290) -/

/-- A command in PENDING, before it is taken or answered. -/
def State.rung (s : State) (m : Mbox) (op : BitVec 16) (p : List Byte) : State :=
  s.modMb m.val fun x => { x with st := .pending, opcode := op, payload := p, output := .empty }

theorem exec_mailboxDoorbell {port : Port} (hport : mboxPort m.val = some port) (hlink : (s.port port).linkUp = true)
    (hidle : (s.mb m.val).st = .idle) : exec (.mailboxDoorbell m op p) s = .next (s.takeCommand m op p) := by
  change execMailboxDoorbell m op p s = _
  rw [execMailboxDoorbell, hport]
  dsimp only
  rw [if_pos ⟨hidle, hlink⟩]

theorem completes_mailboxDoorbell_ignored {port : Port} (hport : mboxPort m.val = some port)
    (hbusy : (s.mb m.val).st ≠ .idle) : Completes (.mailboxDoorbell m op p) s fun t => t = s := by
  refine ⟨s, ?_, rfl⟩
  change execMailboxDoorbell m op p s = _
  rw [execMailboxDoorbell, hport]
  dsimp only
  rw [if_neg fun h => hbusy h.1]

theorem State.takeCommand_tooLong (hlen : mailboxSize m < p.length) :
    ((s.takeCommand m op p).mb m.val).st = .idle ∧ ((s.takeCommand m op p).mb m.val).rc = 0x16#16 := by
  unfold State.takeCommand
  dsimp only
  rw [if_pos hlen, State.refuseRc_eq, State.mb_complete]
  exact ⟨rfl, rfl⟩

section
variable (hlen : p.length ≤ mailboxSize m)
include hlen

theorem State.takeCommand_noFirmware (hrun : s.mst.running = false) :
    ((s.takeCommand m op p).mb m.val).st = .idle ∧ ((s.takeCommand m op p).mb m.val).rc = 0x6#16 := by
  unfold State.takeCommand
  dsimp only
  rw [if_neg (Nat.not_lt.mpr hlen), if_pos, State.refuseRc_eq, State.mb_complete]
  · exact ⟨rfl, rfl⟩
  · exact (Bool.not_eq_true' _).mpr hrun

theorem State.takeCommand_eq (hrun : s.mst.running = true) :
    s.takeCommand m op p = (s.rung m op p).firmwareTakes m op p := by
  have hrung : (s.rung m op p).mst.running = true := hrun
  unfold State.takeCommand
  change (if mailboxSize m < p.length then _ else if !(s.rung m op p).mst.running then _ else _) = _
  rw [if_neg (Nat.not_lt.mpr hlen), if_neg (by simp [hrung])]
  rfl

end

/-- A command in EXECUTING and in the journal, before firmware looks at its class and its length. -/
def State.journalled (s : State) (m : Mbox) (op : BitVec 16) : State :=
  let s := s.modMb m.val fun x => { x with st := .executing }
  { s with mst := { s.mst with journal := s.mst.journal ++ [⟨m, op, false⟩] } }

/-- A command in EXECUTING reads the opcode and the payload of its doorbell. -/
theorem State.journalled_rung (s : State) (m : Mbox) (op : BitVec 16) (p : List Byte) :
    (((s.rung m op p).journalled m op).mb m.val).st = .executing ∧
      (((s.rung m op p).journalled m op).mb m.val).opcode = op ∧
      (((s.rung m op p).journalled m op).mb m.val).payload = p ∧
      ((s.rung m op p).journalled m op).mst.journal = s.mst.journal ++ [⟨m, op, false⟩] := by
  have hmb : ((s.rung m op p).journalled m op).mb m.val = { (s.rung m op p).mb m.val with st := .executing } :=
    (s.rung m op p).mb_modMb m.val fun x => { x with st := .executing }
  rw [hmb, State.rung, State.mb_modMb]
  exact ⟨rfl, rfl, rfl, rfl⟩

theorem State.classAllowed_journalled (s : State) (m : Mbox) (op : BitVec 16) (p : List Byte) (k : Nat)
    (c : CmdClass) : ((s.rung m op p).journalled m op).classAllowed k c = s.classAllowed k c := rfl

section
variable {c : CmdClass} (hclass : opClass op = some c)
include hclass

theorem State.firmwareTakes_refused {u : State} (hallowed : (u.journalled m op).classAllowed m.val c = false) :
    u.firmwareTakes m op p = ((u.journalled m op).refuse m.val .permission).fire 1237 .warn (Detail.ofUnit m.val) := by
  unfold State.firmwareTakes
  rw [hclass]
  exact if_pos ((Bool.not_eq_true' _).mpr hallowed)

theorem State.firmwareTakes_taken {u : State} (hallowed : (u.journalled m op).classAllowed m.val c = true)
    (hok : lengthOk op p = true) : u.firmwareTakes m op p = u.journalled m op := by
  unfold State.firmwareTakes
  rw [hclass]
  refine (if_neg ?_).trans (if_neg ?_)
  · exact (Bool.not_eq_true _).mpr ((Bool.not_eq_false' _).mpr hallowed)
  · simp [hok]

end

/-! ## The completion that firmware posts (R286) -/

theorem completes_mbDoneGo_idle {path : Path} (h : (s.mb m.val).st ≠ .executing) :
    Completes (.mbDoneGo path m) s fun t => t = s := by
  refine ⟨_, rfl, ?_⟩
  dsimp only
  rw [if_pos (.inr h)]

section
variable {path : Path} (hopen : s.pathOpen path = true) (hexec : (s.mb m.val).st = .executing)
include hopen hexec

theorem completes_mbDoneGo (hfg : (s.mb m.val).background = false) :
    Completes (.mbDoneGo path m) s fun t =>
      (t.mb m.val).st = .idle ∧ (t.mb m.val).rc = (s.mb m.val).rcReg ∧ (t.mb m.val).vendor = (s.mb m.val).vendorReg ∧
        (t.mb m.val).outLen = (s.mb m.val).outLen := by
  refine ⟨_, rfl, ?_⟩
  dsimp only
  rw [if_neg (by simp [hopen, hexec]), if_pos (by simp [hfg]), State.mb_completeCode]
  exact ⟨rfl, rfl, rfl, rfl⟩

theorem completes_mbDoneGo_background (hbg : (s.mb m.val).background = true) (hidle : (s.mb m.val).bgActive = false) :
    Completes (.mbDoneGo path m) s fun t =>
      (t.mb m.val).st = .idle ∧ (t.mb m.val).rc = 0x1#16 ∧ (t.mb m.val).bgActive = true ∧
        (t.mb m.val).bgOpcode = (s.mb m.val).opcode := by
  refine ⟨_, rfl, ?_⟩
  dsimp only
  rw [if_neg (by simp [hopen, hexec]), if_neg (by simp [hbg]), if_neg (by simp [hidle]), State.startBg, State.mb_modMb,
    State.mb_complete]
  exact ⟨rfl, rfl, rfl, rfl⟩

end

theorem completes_unsupportedCommand (hexec : (s.mb m.val).st = .executing)
    (hclass : opClass (s.mb m.val).opcode = none) :
    Completes (.unsupportedCommand m) s fun t => (t.mb m.val).st = .idle ∧ (t.mb m.val).rc = 0x3#16 := by
  refine ⟨_, rfl, ?_⟩
  dsimp only
  rw [if_pos ⟨hexec, by rw [hclass]; rfl⟩, State.refuseRc_eq, State.mb_complete]
  exact ⟨rfl, rfl⟩

end

/-- Settles O34: what a doorbell does in each case of R285, R286 and R290, and the completions posted after it. -/
theorem doorbellsAreTakenOrAnswered : Obligations.DoorbellsAreTakenOrAnswered := by
  unfold Obligations.DoorbellsAreTakenOrAnswered
  refine ⟨fun m port op p s hport hlink => ⟨completes_mailboxDoorbell_ignored hport, fun hidle => ?_⟩, fun m s =>
    ⟨fun path => completes_mbDoneGo_idle, fun path hopen hexec => ⟨completes_mbDoneGo hopen hexec,
      completes_mbDoneGo_background hopen hexec⟩, completes_unsupportedCommand⟩⟩
  have hexec := exec_mailboxDoorbell (op := op) (p := p) hport hlink hidle
  refine ⟨fun hlong => ⟨_, hexec, State.takeCommand_tooLong hlong⟩, fun hlen hrun =>
    ⟨_, hexec, State.takeCommand_noFirmware hlen hrun⟩, fun c hlen hrun hclass => ⟨fun hallowed => ?_,
    fun hallowed hok => ?_⟩⟩
  · refine ⟨_, hexec, ?_⟩
    beta_reduce
    rw [State.takeCommand_eq hlen hrun, State.firmwareTakes_refused hclass (by rwa [State.classAllowed_journalled]),
      State.mb_fire, State.refuse_eq, State.mb_complete, State.fired_fire]
    exact ⟨rfl, rfl, by simp⟩
  · refine ⟨_, hexec, ?_⟩
    rw [State.takeCommand_eq hlen hrun, State.firmwareTakes_taken hclass (by rwa [State.classAllowed_journalled]) hok]
    exact s.journalled_rung m op p

end Sys2Proof.Machine


/-! SUPPORT. Retire and abort of background commands, and the sideband (O35). -/

namespace Sys2Proof.Machine

open Sys2Proof

/-! ## The end of a background command -/

theorem State.bgEnded_completeBg {s : State} {m : Mbox} (h : (s.mb m.val).bgActive = true) (rc : RetCode) (v : Vendor)
    (out : Output) : (s.completeBg m.val rc v out).bgEnded m rc v := by
  unfold State.bgEnded State.completeBg State.completeBgCode
  rw [if_pos h, State.mb_mbInterrupt, State.mb_modMb]
  exact ⟨rfl, rfl, rfl⟩

@[simp] theorem State.completeBg_butMb (s : State) (m : Nat) (rc : RetCode) (v : Vendor) (out : Output) :
    (s.completeBg m rc v out).hly.butMb = s.hly.butMb := by
  unfold State.completeBg State.completeBgCode
  split
  · rw [State.mbInterrupt_butMb, State.modMb_butMb]
    rfl
  · rfl

/-- The commands whose abort rule is their own (Table MAST-5). -/
def ownAbortRule : List Nat := [0x0202, 0xC020, 0xC021, 0xC051]

theorem State.undoBg_eq {s : State} {m : Nat} (h : (s.mb m).bgOpcode.toNat ∉ ownAbortRule) :
    s.undoBg m =
      (s.modMb m fun x => { x with bgAborted := true }).completeBg m .aborted .aborted .empty := by
  obtain ⟨hactivate, hseal, hverify, hadmit⟩ : (s.mb m).bgOpcode.toNat ≠ 0x0202 ∧ (s.mb m).bgOpcode.toNat ≠ 0xC020 ∧
      (s.mb m).bgOpcode.toNat ≠ 0xC021 ∧ (s.mb m).bgOpcode.toNat ≠ 0xC051 := by simpa [ownAbortRule] using h
  unfold State.undoBg
  dsimp only
  split
  · exact absurd ‹_› hactivate
  · exact absurd ‹_› hseal
  · exact absurd ‹_› hverify
  · exact absurd ‹_› hadmit
  · rfl

section
variable {m : Mbox} {s : State}

/-! ## Retire and abort (R288) -/

section
variable (hrun : s.mst.running = true)
include hrun

theorem completes_hlyRetireRequest (hactive : (s.mb m.val).bgActive = true) (habort : (s.mb m.val).bgAborted = false) :
    Completes (.hlyRetireRequest m) s fun t =>
      t.hly.retireGranted = true ∧ t.hly.retireLost = false ∧ (t.mb m.val).bgRetired = true := by
  refine ⟨_, rfl, ?_⟩
  dsimp only
  rw [if_neg (by simp [hrun]), if_neg (by simp [hactive, habort]), if_pos hactive, State.retireBg,
    if_neg (by simp [hactive, habort])]
  refine ⟨?_, ?_, ?_⟩
  · simp [State.modMb, hactive, habort]
  · simp [State.modMb, habort]
  · exact congrArg Mb.bgRetired (State.mb_modMb _ _ _)

theorem completes_hlyRetireRequest_lost (habort : (s.mb m.val).bgAborted = true)
    (hidle : (s.mb m.val).st ≠ .executing) :
    Completes (.hlyRetireRequest m) s fun t =>
      t.hly.retireGranted = false ∧ t.hly.retireLost = true ∧ t.hly.mb = s.hly.mb := by
  refine ⟨_, rfl, ?_⟩
  dsimp only
  rw [if_neg (by simp [hrun]), if_pos (by simp [habort, hidle])]
  simp [habort, hidle]

theorem completes_hlyAbortRequest_nothing (h : (s.mb m.val).bgActive = false ∨ (s.mb m.val).bgRetired = true) :
    Completes (.hlyAbortRequest m) s fun t =>
      t.hly.abortGranted = false ∧ t.hly.abortNothing = true ∧ t.hly.mb = s.hly.mb := by
  refine ⟨_, rfl, ?_⟩
  dsimp only
  have hnothing : (!(s.mb m.val).bgActive || (s.mb m.val).bgRetired) = true := by
    rcases h with h | h <;> simp [h]
  rw [if_neg (by simp [hrun]), hnothing, if_neg (by simp)]
  exact ⟨rfl, rfl, rfl⟩

section
variable (hactive : (s.mb m.val).bgActive = true) (hretired : (s.mb m.val).bgRetired = false)
include hactive hretired

theorem completes_hlyAbortRequest_unabortable (hfixed : (s.mb m.val).bgAbortable = false) :
    Completes (.hlyAbortRequest m) s fun t =>
      t.hly.abortGranted = false ∧ t.hly.abortNothing = false ∧ t.hly.mb = s.hly.mb := by
  refine ⟨_, rfl, ?_⟩
  dsimp only
  rw [if_neg (by simp [hrun]), if_neg (by simp [hfixed])]
  simp [hactive, hretired, hfixed]

theorem completes_hlyAbortRequest (habortable : (s.mb m.val).bgAbortable = true)
    (hop : (s.mb m.val).bgOpcode.toNat ∉ ownAbortRule) :
    Completes (.hlyAbortRequest m) s fun t =>
      t.hly.abortGranted = true ∧ (t.mb m.val).bgActive = false ∧ (t.mb m.val).bgRc = 0x12#16 := by
  refine ⟨_, rfl, ?_⟩
  dsimp only
  rw [if_neg (by simp [hrun]), if_pos (by simp [hactive, hretired, habortable])]
  generalize hu : ({ s with hly := _ } : State) = u
  have hmb : u.mb m.val = s.mb m.val := by rw [← hu]; rfl
  have hgrant : u.hly.butMb.abortGranted = true := by
    rw [← hu]
    simp [Hly.butMb, hactive, hretired, habortable]
  rw [State.undoBg_eq (by rwa [hmb])]
  obtain ⟨hdone, hrc, -⟩ := State.bgEnded_completeBg (s := u.modMb m.val fun x => { x with bgAborted := true }) (m := m)
    (by rw [State.mb_modMb, hmb, hactive]) .aborted .aborted .empty
  refine ⟨?_, hdone, hrc⟩
  exact (congrArg Hly.abortGranted (State.completeBg_butMb _ _ _ _ _)).trans hgrant

end

end

/-! ## The sideband (R289) -/

section
variable (hon : s.hly.sidebandOn = true)
include hon

theorem completes_sidebandRequest_busy {op : BitVec 16} {p : List Byte} (hbusy : (s.mb 4).st ≠ .idle) :
    Completes (.sidebandRequest op p) s fun t => t.hly.mctpOut = some (.busy op) ∧ t.hly.mb = s.hly.mb := by
  refine ⟨_, rfl, ?_⟩
  rw [if_neg (by simp [hon]), if_neg hbusy]
  exact ⟨rfl, rfl⟩

theorem completes_sidebandRequest {op : BitVec 16} {p : List Byte} (hidle : (s.mb 4).st = .idle)
    (hrun : s.mst.running = true) (hlen : p.length ≤ mailboxSize 4) (hclass : (opClass op).isSome)
    (hok : lengthOk op p = true) :
    Completes (.sidebandRequest op p) s fun t =>
      (t.mb 4).st = .executing ∧ (t.mb 4).opcode = op ∧ (t.mb 4).payload = p := by
  obtain ⟨c, hc⟩ := Option.isSome_iff_exists.mp hclass
  refine ⟨s.takeCommand 4 op p, ?_, ?_⟩
  · change execSidebandRequest op p s = _
    rw [execSidebandRequest, if_neg (by simp [hon]), if_pos hidle]
  · rw [State.takeCommand_eq hlen hrun, State.firmwareTakes_taken hc rfl hok]
    obtain ⟨hst, hopcode, hpayload, -⟩ := s.journalled_rung 4 op p
    exact ⟨hst, hopcode, hpayload⟩

theorem completes_setEndpointId {eid : Byte} (hnull : eid ≠ 0x00#8) (hall : eid ≠ 0xFF#8) :
    Completes (.setEndpointId eid) s fun t => t.hly.eid = eid ∧ t.hly.mctpOut = some (.setEid true eid) := by
  refine ⟨_, rfl, ?_⟩
  rw [if_neg (by simp [hon]), if_neg (by simp [hnull, hall])]
  exact ⟨rfl, rfl⟩

theorem completes_getEndpointId :
    Completes .getEndpointId s fun t => t.hly.mctpOut = some (.getEid s.hly.eid) ∧ t.hly.eid = s.hly.eid := by
  refine ⟨_, rfl, ?_⟩
  rw [if_pos hon]
  exact ⟨rfl, rfl⟩

theorem completes_getMctpVersionSupport :
    Completes (.getMctpVersionSupport 0x08#8) s fun t =>
      (∃ v, t.hly.mctpOut = some (.version 0x08#8 true v)) ∧ t.draws = s.draws + 1 := by
  refine ⟨_, rfl, ?_⟩
  rw [if_neg (by simp [hon]), if_pos (by decide)]
  exact ⟨⟨_, rfl⟩, rfl⟩

theorem completes_getMessageTypeSupport :
    Completes .getMessageTypeSupport s fun t => t.hly.mctpOut = some (.messageTypes [0x08#8]) := by
  refine ⟨_, rfl, ?_⟩
  rw [if_pos hon]
  rfl

end

end

/-- Settles O35: the first of retire and abort wins (R288), and each answer of the sideband (R289). -/
theorem retireExcludesAbortAndSidebandAnswers : Obligations.RetireExcludesAbortAndSidebandAnswers := by
  unfold Obligations.RetireExcludesAbortAndSidebandAnswers
  refine ⟨fun m s hrun => ⟨completes_hlyRetireRequest hrun, completes_hlyRetireRequest_lost hrun,
    completes_hlyAbortRequest_nothing hrun, fun hactive hretired =>
      ⟨completes_hlyAbortRequest_unabortable hrun hactive hretired, completes_hlyAbortRequest hrun hactive hretired⟩⟩,
    fun s => ⟨⟨_, rfl, rfl, rfl⟩, fun hon => ⟨fun op p => completes_sidebandRequest_busy hon, fun op p =>
      completes_sidebandRequest hon, fun eid => completes_setEndpointId hon, completes_getEndpointId hon,
      completes_getMctpVersionSupport hon, completes_getMessageTypeSupport hon⟩⟩⟩

end Sys2Proof.Machine


/-! SUPPORT. The commands that report state (O36). -/

namespace Sys2Proof.Machine

open Sys2Proof

section
variable {m : Mbox} {s : State}

/-! ## Commands that only report -/

/-- A command that answers with Success and an output, and does nothing else. -/
theorem completes_report {c : Instr} {op : Nat} {f : State → State} {out : Output}
    (hexec : exec c s = s.onCommand m op f) (hf : f s = s.succeed m.val out) :
    (s.taken m.val op = true → Completes c s fun t =>
      t.answered m .success .none out ∧ t.glb = s.glb ∧ t.mst.slot = s.mst.slot ∧ t.evt = s.evt ∧
        t.hly.alertCfg = s.hly.alertCfg ∧ t.hly.shutdownClean = s.hly.shutdownClean) ∧
    (s.taken m.val op = false → Completes c s fun t => t = s) := by
  refine ⟨fun htaken => completes_onCommand hexec htaken ?_, fun htaken => completes_onCommand_untaken hexec htaken rfl⟩
  rw [hf, State.succeed_eq]
  have hmst := s.complete_butJournal m.val .success .none out out.byteLength
  have hhly := s.complete_butMb m.val .success .none out out.byteLength
  have hslot := congrArg Mst.slot hmst
  have halert := congrArg Hly.alertCfg hhly
  have hclean := congrArg Hly.shutdownClean hhly
  exact ⟨s.answered_complete m _ _ _ _, s.complete_glb _ _ _ _ _, hslot, s.complete_evt _ _ _ _ _,
    halert, hclean⟩

theorem succeed_getEventRecords (log : Nat) :
    (let l := s.mboxLog m.val log
     let out := l.recs.take (recordsFit m)
     s.succeed m.val (.events out (decide (out.length < l.recs.length)) l.overflow l.firstOverflow l.lastOverflow)) =
      s.succeed m.val (.events ((s.mboxLog m.val log).recs.take (recordsFit m))
        (decide (recordsFit m < (s.mboxLog m.val log).recs.length)) (s.mboxLog m.val log).overflow
        (s.mboxLog m.val log).firstOverflow (s.mboxLog m.val log).lastOverflow) := by
  have hlen {α : Type} (l : List α) (n : Nat) : decide ((l.take n).length < l.length) = decide (n < l.length) := by
    rw [List.length_take]
    exact decide_eq_decide.mpr (by omega)
  dsimp only
  rw [hlen]

/-! ## Reports with a condition -/

theorem completes_backgroundOperationStatus (htaken : s.taken m.val 0x0002 = true) (heven : m.val % 2 = 0) :
    Completes (.backgroundOperationStatus m) s fun t =>
      t.answered m .success .none (.background (s.mb m.val).bgOpcode (s.mb m.val).bgPercent (s.mb m.val).bgActive
        (s.mb m.val).bgRc (s.mb m.val).bgVendor) := by
  refine completes_onCommand (show execBackgroundOperationStatus m s = _ from rfl) htaken ?_
  dsimp only
  rw [if_neg (by omega), State.succeed_eq]
  exact s.answered_complete m _ _ _ _

theorem completes_backgroundOperationStatus_secondary (htaken : s.taken m.val 0x0002 = true) (hodd : m.val % 2 = 1) :
    Completes (.backgroundOperationStatus m) s fun t => t.answered m .unsupported .none .empty := by
  refine completes_onCommand (show execBackgroundOperationStatus m s = _ from rfl) htaken ?_
  dsimp only
  rw [if_pos hodd, State.refuseRc_eq]
  exact s.answered_complete m _ _ _ _

theorem completes_getHealthInfo (htaken : s.taken m.val 0x4200 = true) :
    Completes (.getHealthInfo m) s fun t =>
      t.draws = s.draws + 1 ∧ ∃ h, t.answered m .success .none (.health h) ∧
        (h.maintenanceNeeded = true ↔ s.glb.level ≠ .full) ∧ (h.performanceDegraded = true ↔ 2 ≤ s.glb.level.code) ∧
        h.replacementNeeded = s.replacementNeeded ∧ h.lifeUsed = s.lifeUsed ∧ h.dirtyShutdowns = s.sea.counter 4 := by
  refine completes_onCommand (show execGetHealthInfo m s = _ from rfl) htaken ?_
  rw [State.succeed_eq, State.complete_draws]
  refine ⟨rfl, s.health, s.drawn.answered_complete m _ _ _ _, ?_, decide_eq_true_iff, rfl, rfl, rfl⟩
  refine decide_eq_true_iff.trans ?_
  cases s.glb.level <;> decide

theorem completes_getPoisonList_beyond {dpa : BitVec 48} {lines : Nat} (htaken : s.taken m.val 0x4300 = true)
    (hbeyond : s.mboxSize m.val < dpa.toNat + 64 * lines) :
    Completes (.getPoisonList m dpa lines) s fun t => t.answered m .invalidPhysicalAddress .none .empty := by
  refine completes_onCommand (show execGetPoisonList m dpa lines s = _ from rfl) htaken ?_
  dsimp only
  split
  · exact s.answered_complete m _ _ _ _
  · rw [if_pos hbeyond]
    exact s.answered_complete m _ _ _ _

/-- Every run of a poison list has a line. -/
theorem poisonRuns_lines (l : List (Nat × PoisonState)) : ∀ r ∈ poisonRuns l, 1 ≤ r.lines := by
  induction l with
  | nil => exact fun r hr => absurd hr List.not_mem_nil
  | cons x l ih =>
    intro r hr
    unfold poisonRuns at ih hr
    rw [List.foldr_cons] at hr
    split at hr
    next r' t heq =>
      rw [heq] at ih
      split at hr
      · rcases List.mem_cons.mp hr with rfl | hr
        · exact Nat.le_add_left 1 _
        · exact ih r (List.mem_cons_of_mem _ hr)
      · rcases List.mem_cons.mp hr with rfl | hr
        · exact Nat.le_refl 1
        · exact ih r (heq ▸ hr)
    next =>
      rcases List.mem_cons.mp hr with rfl | hr
      · exact Nat.le_refl 1
      · exact absurd hr List.not_mem_nil

theorem completes_getPoisonList {dpa : BitVec 48} {lines a : Nat} (htaken : s.taken m.val 0x4300 = true)
    (hdpa : s.mboxDpa m.val dpa.toNat = some a) (hin : dpa.toNat + 64 * lines ≤ s.mboxSize m.val) :
    Completes (.getPoisonList m dpa lines) s fun t =>
      t.wlv = s.wlv ∧ ∃ runs more,
        t.answered m .success .none (.poison runs more s.wlv.overflow s.wlv.overflowAt) ∧ (∀ r ∈ runs, 1 ≤ r.lines) ∧
        runs = ((poisonRuns (s.poisonLines a (a + 64 * lines))).map fun r =>
          { r with dpa := s.fromDevice m.val r.dpa }).take (poisonFit m) := by
  refine completes_onCommand (show execGetPoisonList m dpa lines s = _ from rfl) htaken ?_
  dsimp only
  rw [hdpa]
  dsimp only
  rw [if_neg (Nat.not_lt.mpr hin), State.succeed_eq, State.complete_wlv]
  refine ⟨rfl, _, _, s.answered_complete m _ _ _ _, fun r hr => ?_, rfl⟩
  obtain ⟨r', hr', rfl⟩ := List.mem_map.mp (List.mem_of_mem_take hr)
  exact poisonRuns_lines _ r' hr'

theorem completes_getSealRecord {e : Extent} {g : Registry} (htaken : s.taken m.val 0xC003 = true)
    (hzero : reservedZero (s.payload m.val) [2, 3] = true)
    (hext : Sparse.find s.kce.extents (leField (s.payload m.val) 0 2) = some e) (hsealed : e.sealed = true)
    (hreg : Sparse.find s.kce.registry (leField (s.payload m.val) 0 2) = some g) :
    Completes (.getSealRecord m) s fun t =>
      t.kce = s.kce ∧ t.answered m .success .none (.bytes (registryImage (leField (s.payload m.val) 0 2) g)) := by
  refine completes_onCommand (show execGetSealRecord m s = _ from rfl) htaken ?_
  dsimp only
  rw [if_neg (by simp [hzero, hext, hsealed]), hreg]
  dsimp only
  rw [State.succeed_eq, State.complete_kce]
  exact ⟨rfl, s.answered_complete m _ _ _ _⟩

theorem completes_getSealRecord_unsealed (htaken : s.taken m.val 0xC003 = true)
    (hext : Sparse.find s.kce.extents (leField (s.payload m.val) 0 2) = none) :
    Completes (.getSealRecord m) s fun t => t.kce = s.kce ∧ t.answered m .invalidInput .range .empty := by
  refine completes_onCommand (show execGetSealRecord m s = _ from rfl) htaken ?_
  dsimp only
  rw [if_pos (by simp [hext]), State.refuse_eq, State.complete_kce]
  exact ⟨rfl, s.answered_complete m _ _ _ _⟩

theorem completes_getTrimPlan_beyond (htaken : s.taken m.val 0xC011 = true)
    (hbeyond : margins.length ≤ leField (s.payload m.val) 0 2) :
    Completes (.getTrimPlan m) s fun t => t.answered m .invalidInput .range .empty := by
  refine completes_onCommand (show execGetTrimPlan m s = _ from rfl) htaken ?_
  dsimp only
  rw [if_pos (by simp [hbeyond]), State.refuse_eq]
  exact s.answered_complete m _ _ _ _

theorem completes_getTrimPlan (htaken : s.taken m.val 0xC011 = true)
    (hin : leField (s.payload m.val) 0 2 < margins.length) (hzero : reservedZero (s.payload m.val) [2, 3] = true) :
    Completes (.getTrimPlan m) s fun t =>
      t.trm = s.trm ∧ t.answered m .success .none
        (.bytes (leBytes 4 s.trm.generation.toNat ++ bytesOf 8 s.trm.appliedT ++ leBytes 2 margins.length ++
          leBytes 2 (min (entriesFit m) (margins.length - leField (s.payload m.val) 0 2)) ++
          (((margins.drop (leField (s.payload m.val) 0 2)).take (entriesFit m)).map s.trimEntry).flatten)) := by
  refine completes_onCommand (show execGetTrimPlan m s = _ from rfl) htaken ?_
  dsimp only
  rw [if_neg (by simp [hzero, hin]), State.succeed_eq, State.complete_trm, List.length_take, List.length_drop]
  exact ⟨rfl, s.answered_complete m _ _ _ _⟩

end

/-- Settles O36: each reporting command answers with the state asked for and changes none of it. -/
theorem queryCommandsReportState : Obligations.QueryCommandsReportState := by
  unfold Obligations.QueryCommandsReportState
  refine ⟨fun m log s => ?_, fun m s htaken => ⟨completes_backgroundOperationStatus htaken,
    completes_backgroundOperationStatus_secondary htaken⟩, fun m s => completes_getHealthInfo,
    fun m dpa lines s htaken => ⟨completes_getPoisonList_beyond htaken, fun a => completes_getPoisonList htaken⟩,
    fun m s => ⟨fun htaken => ⟨fun e g => completes_getSealRecord htaken, completes_getSealRecord_unsealed htaken⟩,
      fun htaken => ⟨completes_getTrimPlan_beyond htaken, completes_getTrimPlan htaken⟩⟩⟩
  simp only [List.forall_mem_cons]
  exact ⟨
    completes_report (show execIdentify m s = _ from rfl) rfl,
    completes_report (show execGetEventRecords m log s = _ from rfl) (succeed_getEventRecords log.val),
    completes_report (show execGetEventInterruptPolicy m s = _ from rfl) rfl,
    completes_report (show execGetFwInfo m s = _ from rfl) rfl,
    completes_report (show execGetTimestamp m s = _ from rfl) rfl,
    completes_report (show execGetSupportedLogs m s = _ from rfl) rfl,
    completes_report (show execGetLog m s = _ from rfl) rfl,
    completes_report (show execIdentifyMemoryDevice m s = _ from rfl) rfl,
    completes_report (show execGetPartitionInfo m s = _ from rfl) rfl,
    completes_report (show execGetAlertConfiguration m s = _ from rfl) rfl,
    completes_report (show execGetShutdownState m s = _ from rfl) rfl,
    completes_report (show execGetDeviceStatus m s = _ from rfl) rfl,
    completes_report (show execGetDirtyBudget m s = _ from rfl) rfl,
    fun q hq => absurd hq List.not_mem_nil⟩

end Sys2Proof.Machine


/-! SUPPORT. The commands that set a value or a record (O37). -/

namespace Sys2Proof.Machine

open Sys2Proof

/-! ## Ports through a completion -/

/-- A message-signalled interrupt sets a bit of the port and changes nothing else of any port. -/
theorem State.port_sendMsix (s : State) (q p : Port) (n : Nat) :
    ∃ v, (s.sendMsix q n).port p = { s.port p with msixSent := v } := by
  cases p <;> cases q <;> exact ⟨_, rfl⟩

theorem State.port_mbInterrupt (s : State) (m : Nat) (p : Port) :
    ∃ v, (s.mbInterrupt m).port p = { s.port p with msixSent := v } := by
  unfold State.mbInterrupt
  cases mboxPort m with
  | some q => exact State.port_sendMsix (s.modMb m fun x => { x with interrupts := x.interrupts + 1 }) q p 0
  | none => exact ⟨(s.port p).msixSent, rfl⟩

theorem State.port_complete (s : State) (m : Nat) (rc : RetCode) (v : Vendor) (out : Output) (len : Nat) (p : Port) :
    ∃ w, (s.complete m rc v out len).port p = { s.port p with msixSent := w } := by
  unfold State.complete State.completeCode
  obtain ⟨w, hw⟩ := State.port_mbInterrupt
    ((if (rc == .backgroundStarted) = true then s else s.journalDrop m (s.mb m).opcode).modMb m fun x => { x with
      st := .idle, rc := BitVec.ofNat 16 rc.code, vendor := BitVec.ofNat 16 v.code, output := out, outLen := len
      rcReg := BitVec.ofNat 16 rc.code, vendorReg := BitVec.ofNat 16 v.code }) m p
  refine ⟨w, hw.trans ?_⟩
  split <;> rfl

/-- The mailbox of the sideband interrupts no host. -/
theorem State.port_complete_sideband {s : State} {m : Nat} (h : mboxPort m = none) (rc : RetCode) (v : Vendor)
    (out : Output) (len : Nat) (p : Port) : (s.complete m rc v out len).port p = s.port p := by
  unfold State.complete State.completeCode State.mbInterrupt
  rw [h]
  dsimp only
  split <;> rfl

theorem State.logs_complete (s : State) (m : Nat) (rc : RetCode) (v : Vendor) (out : Output) (len : Nat) (p : Port) :
    ((s.complete m rc v out len).port p).logs = (s.port p).logs := by
  obtain ⟨w, hw⟩ := s.port_complete m rc v out len p
  rw [hw]

theorem State.logVector_complete (s : State) (m : Nat) (rc : RetCode) (v : Vendor) (out : Output) (len : Nat)
    (p : Port) : ((s.complete m rc v out len).port p).logVector = (s.port p).logVector := by
  obtain ⟨w, hw⟩ := s.port_complete m rc v out len p
  rw [hw]

/-! ## Event logs of a mailbox -/

theorem State.mboxLog_complete (s : State) (m : Nat) (rc : RetCode) (v : Vendor) (out : Output) (len k l : Nat) :
    (s.complete m rc v out len).mboxLog k l = s.mboxLog k l := by
  unfold State.mboxLog
  cases mboxPort k with
  | some p => exact congrArg (Sparse.get EvLog.reset · l) (s.logs_complete m rc v out len p)
  | none => exact congrArg (fun e : Evt => Sparse.get EvLog.reset e.logs l) (s.complete_evt m rc v out len)

theorem State.mboxLog_modMboxLog (s : State) (m l : Nat) (f : EvLog → EvLog) :
    (s.modMboxLog m l f).mboxLog m l = f (s.mboxLog m l) := by
  unfold State.modMboxLog State.mboxLog
  cases mboxPort m with
  | some p =>
    dsimp only
    rw [State.modPortLog, State.port_modPort, Sparse.get_modify_same]
  | none => exact Sparse.get_modify_same _ _ _ _

theorem State.mboxLog_settleAlert (s : State) (m l : Nat) : s.settleAlert.mboxLog m l = s.mboxLog m l := by
  unfold State.settleAlert
  split <;> rfl

section
variable {m : Mbox} {log : Fin 4} {hs : List Nat} {s : State}

theorem completes_clearEventRecords (htaken : s.taken m.val 0x0101 = true)
    (hheld : ∀ h ∈ hs, ∃ r ∈ (s.mboxLog m.val log.val).recs, r.handle = h) :
    Completes (.clearEventRecords m log hs) s fun t =>
      t.answered m .success .none .empty ∧
        (t.mboxLog m.val log.val).recs =
          (if hs = [] then [] else (s.mboxLog m.val log.val).recs.filter fun r => !hs.contains r.handle) ∧
        (t.mboxLog m.val log.val).overflow = 0 := by
  refine completes_onCommand (show execClearEventRecords m log hs s = _ from rfl) htaken ?_
  dsimp only
  rw [if_neg, State.succeed_eq, State.mboxLog_complete, State.mboxLog_settleAlert, State.mboxLog_modMboxLog]
  · refine ⟨State.answered_complete _ m _ _ _ _, ?_, rfl⟩
    cases hs <;> rfl
  · simpa using hheld

theorem completes_clearEventRecords_absent (htaken : s.taken m.val 0x0101 = true)
    (habsent : ∃ h ∈ hs, ∀ r ∈ (s.mboxLog m.val log.val).recs, r.handle ≠ h) :
    Completes (.clearEventRecords m log hs) s fun t =>
      t.answered m .invalidInput .none .empty ∧ t.mboxLog m.val log.val = s.mboxLog m.val log.val := by
  refine completes_onCommand (show execClearEventRecords m log hs s = _ from rfl) htaken ?_
  dsimp only
  rw [if_pos (by simpa using habsent), State.refuseRc_eq, State.mboxLog_complete]
  exact ⟨State.answered_complete _ m _ _ _ _, rfl⟩

section
variable {msix : Bool} {v : Fin 32} (htaken : s.taken m.val 0x0103 = true)
include htaken

theorem completes_setEventInterruptPolicy {p : Port} (hport : mboxPort m.val = some p) :
    Completes (.setEventInterruptPolicy m log msix v) s fun t =>
      t.answered m .success .none .empty ∧ (t.port p).logVec log.val = if msix then v.val else 255 := by
  refine completes_onCommand (show execSetEventInterruptPolicy m log msix v s = _ from rfl) htaken ?_
  rw [hport]
  dsimp only
  rw [State.succeed_eq, PortState.logVec, State.logVector_complete, State.port_modPort]
  exact ⟨State.answered_complete _ m _ _ _ _, Sparse.get_set_same _ _ _ _⟩

theorem completes_setEventInterruptPolicy_sideband (hport : mboxPort m.val = none) :
    Completes (.setEventInterruptPolicy m log msix v) s fun t =>
      t.answered m .unsupported .none .empty ∧ t.port0 = s.port0 ∧ t.port1 = s.port1 := by
  refine completes_onCommand (show execSetEventInterruptPolicy m log msix v s = _ from rfl) htaken ?_
  rw [hport]
  dsimp only
  rw [State.refuseRc_eq]
  exact ⟨State.answered_complete _ m _ _ _ _, State.port_complete_sideband hport _ _ _ _ .hp0,
    State.port_complete_sideband hport _ _ _ _ .hp1⟩

end

end

/-! ## Volatile values -/

section
variable {m : Mbox} {s : State}

theorem completes_setTimestamp {time : BitVec 64} (htaken : s.taken m.val 0x0301 = true) :
    Completes (.setTimestamp m time) s fun t => t.glb.time = time ∧ t.answered m .success .none .empty := by
  refine completes_onCommand (show execSetTimestamp m time s = _ from rfl) htaken ?_
  rw [State.succeed_eq, State.complete_glb]
  exact ⟨rfl, State.answered_complete _ m _ _ _ _⟩

theorem completes_setAlertConfiguration {l : Nat} {o u : Int} {ve pe : Nat} (htaken : s.taken m.val 0x4202 = true) :
    Completes (.setAlertConfiguration m l o u ve pe) s fun t =>
      t.hly.alertCfg = ⟨l, o, u, ve, pe⟩ ∧ t.answered m .success .none .empty := by
  refine completes_onCommand (show execSetAlertConfiguration m l o u ve pe s = _ from rfl) htaken ?_
  rw [State.succeed_eq]
  exact ⟨congrArg Hly.alertCfg (State.complete_butMb _ m.val .success .none .empty 0),
    State.answered_complete _ m _ _ _ _⟩

theorem completes_setShutdownState {c : Bool} (htaken : s.taken m.val 0x4204 = true) :
    Completes (.setShutdownState m c) s fun t => t.hly.shutdownClean = c ∧ t.answered m .success .none .empty := by
  refine completes_onCommand (show execSetShutdownState m c s = _ from rfl) htaken ?_
  rw [State.succeed_eq]
  exact ⟨congrArg Hly.shutdownClean (State.complete_butMb _ m.val .success .none .empty 0),
    State.answered_complete _ m _ _ _ _⟩

/-! ## Configuration records in the sea chest (R299, R300) -/

/-- The records of one transaction. -/
def newRecs (txn : Nat) (new : List (Nat × List Byte)) : List SRec :=
  new.map fun e => ⟨BitVec.ofNat 15 e.1, e.2, txn, false⟩

/-- The records that hold an identifier now. -/
def holding (id : Nat) (l : List SRec) : List SRec := l.filter fun r => r.id.toNat == id && !r.withdrawn

theorem holding_newRecs_cons (txn id : Nat) (e : Nat × List Byte) (he : e.1 < 2 ^ 15) (l : List (Nat × List Byte)) :
    holding id (newRecs txn (e :: l)) =
      if e.1 = id then ⟨BitVec.ofNat 15 e.1, e.2, txn, false⟩ :: holding id (newRecs txn l)
      else holding id (newRecs txn l) := by
  have hid : (BitVec.ofNat 15 e.1).toNat = e.1 := by rw [BitVec.toNat_ofNat, Nat.mod_eq_of_lt he]
  unfold holding newRecs
  rw [List.map_cons, List.filter_cons, hid]
  by_cases h : e.1 = id <;> simp [h]

theorem holding_newRecs_absent (txn : Nat) {id : Nat} {new : List (Nat × List Byte)}
    (hsmall : ∀ e ∈ new, e.1 < 2 ^ 15) (h : id ∉ new.map Prod.fst) : holding id (newRecs txn new) = [] := by
  induction new with
  | nil => rfl
  | cons e l ih =>
    obtain ⟨hne, hl⟩ := List.ne_and_not_mem_of_not_mem_cons h
    rw [holding_newRecs_cons _ _ _ (hsmall e List.mem_cons_self), if_neg (Ne.symm hne)]
    exact ih (fun e he => hsmall e (List.mem_cons_of_mem _ he)) hl

theorem holding_newRecs (txn : Nat) {id : Nat} {p : List Byte} {new : List (Nat × List Byte)}
    (hsmall : ∀ e ∈ new, e.1 < 2 ^ 15) (hnodup : (new.map Prod.fst).Nodup) (hmem : (id, p) ∈ new) :
    holding id (newRecs txn new) = [⟨BitVec.ofNat 15 id, p, txn, false⟩] := by
  induction new with
  | nil => exact absurd hmem List.not_mem_nil
  | cons e l ih =>
    obtain ⟨hhead, hl⟩ := List.nodup_cons.mp hnodup
    have hsmall' : ∀ e ∈ l, e.1 < 2 ^ 15 := fun e he => hsmall e (List.mem_cons_of_mem _ he)
    rw [holding_newRecs_cons _ _ _ (hsmall e List.mem_cons_self)]
    rcases List.mem_cons.mp hmem with rfl | hin
    · rw [if_pos rfl, holding_newRecs_absent txn hsmall' hhead]
    · have hne : e.1 ≠ id := fun he => hhead (he ▸ List.mem_map_of_mem (f := Prod.fst) hin)
      rw [if_neg hne, ih hsmall' hl hin]

/-- The record of an identifier that a transaction stores once is its value from then on. -/
theorem Sea.value_append {x : Sea} {new : List (Nat × List Byte)} {id : Nat} {p : List Byte}
    (hsmall : ∀ e ∈ new, e.1 < 2 ^ 15) (hnodup : (new.map Prod.fst).Nodup) (hmem : (id, p) ∈ new) :
    (x.append new).value id = some p := by
  have hvalue : (x.append new).value id = ((holding id x.recs ++ holding id (newRecs (x.txn + 1) new)).getLast?).map
      SRec.payload := by
    rw [holding, holding, ← List.filter_append]
    rfl
  rw [hvalue, holding_newRecs _ hsmall hnodup hmem, List.getLast?_append]
  rfl

/-- A transaction that fits is appended whole, after a compaction where room is short (R392, R395). -/
theorem State.seaStore_appends {s : State} {new : List (Nat × List Byte)} (h : s.sea.fits new = true) :
    ∃ u x, s.seaStore new true = (u, true) ∧ u.sea = Sea.append x new := by
  unfold State.seaStore
  rw [h, if_pos (by decide)]
  exact ⟨_, _, rfl, State.noteWear_sea _ _⟩

/-- The groups of a mask, each under its own record identifier. -/
def groupRecords (s : State) (mask : Nat) : List (Nat × List Byte) :=
  (groupsOf mask).map fun b => (recGroup b, s.groupPayload b)

theorem groupRecords_fst (s : State) (mask : Nat) : (groupRecords s mask).map Prod.fst = (groupsOf mask).map recGroup := by
  rw [groupRecords, List.map_map]
  rfl

theorem groupRecords_small (s : State) (mask : Nat) : ∀ e ∈ groupRecords s mask, e.1 < 2 ^ 15 := by
  intro e he
  obtain ⟨b, hb, rfl⟩ := List.mem_map.mp he
  have hlt : b < 11 := List.mem_range.mp (List.mem_of_mem_filter hb)
  change 0x0100 + b < 2 ^ 15
  omega

theorem groupRecords_nodup (s : State) (mask : Nat) : ((groupRecords s mask).map Prod.fst).Nodup := by
  rw [groupRecords_fst]
  exact (List.nodup_range.filter _).map fun a b h => Nat.add_left_cancel h

theorem mem_groupRecords (s : State) {mask b : Nat} (hb : b < 11) (hbit : mask.testBit b = true) :
    (recGroup b, s.groupPayload b) ∈ groupRecords s mask :=
  List.mem_map_of_mem (List.mem_filter.mpr ⟨List.mem_range.mpr hb, hbit⟩)

theorem completes_seaChestStore_range {stored : Bool} (htaken : s.taken m.val 0xC010 = true)
    (hmask : 2048 ≤ leField (s.payload m.val) 0 4) :
    Completes (.seaChestStore m stored) s fun t => t.sea = s.sea ∧ t.answered m .invalidInput .range .empty := by
  refine completes_onCommand (show execSeaChestStore m stored s = _ from rfl) htaken ?_
  dsimp only
  rw [if_pos hmask, State.refuse_eq, State.complete_sea]
  exact ⟨rfl, State.answered_complete _ m _ _ _ _⟩

theorem completes_seaChestStore_failed (htaken : s.taken m.val 0xC010 = true)
    (hmask : leField (s.payload m.val) 0 4 < 2048) :
    Completes (.seaChestStore m false) s fun t =>
      t.sea.recs = s.sea.recs ∧ t.fired 1275 .fault ∧ t.answered m .internalError .storeFailed .empty := by
  have hstore (new : List (Nat × List Byte)) : s.seaStore new false = (s.storeFails, false) := rfl
  refine completes_onCommand (show execSeaChestStore m false s = _ from rfl) htaken ?_
  dsimp only
  rw [if_neg (Nat.not_le.mpr hmask), hstore, if_neg (by simp), State.refuse_eq, State.complete_sea,
    State.storeFails_sea, State.fired_of_evt (State.complete_evt _ _ _ _ _ _)]
  exact ⟨rfl, (State.fired_fire _ _ _ _ _ _).mpr (by rw [if_pos rfl]), State.answered_complete _ m _ _ _ _⟩

theorem completes_seaChestStore (htaken : s.taken m.val 0xC010 = true)
    (hmask : leField (s.payload m.val) 0 4 < 2048)
    (hfits : s.sea.fits (groupRecords s (leField (s.payload m.val) 0 4)) = true) :
    Completes (.seaChestStore m true) s fun t =>
      ∃ out, t.answered m .success .none (.bytes out) ∧
        ∀ b < 11, (leField (s.payload m.val) 0 4).testBit b = true →
          t.sea.value (recGroup b) = some (s.groupPayload b) := by
  refine completes_onCommand (show execSeaChestStore m true s = _ from rfl) htaken ?_
  dsimp only
  rw [if_neg (Nat.not_le.mpr hmask)]
  generalize leField (s.payload m.val) 0 4 = mask at *
  obtain ⟨u, x, hstore, hsea⟩ := State.seaStore_appends hfits
  rw [groupRecords] at hstore
  rw [hstore, if_pos (by rfl), State.succeed_eq, State.complete_sea, hsea]
  exact ⟨_, State.answered_complete _ m _ _ _ _, fun b hb hbit =>
    Sea.value_append (groupRecords_small s mask) (groupRecords_nodup s mask) (mem_groupRecords s hb hbit)⟩

/-! ## Trim overrides (R364) -/

theorem completes_setTrimOverride_range (htaken : s.taken m.val 0xC012 = true)
    (hbad : (List.range (leField (s.payload m.val) 0 2)).all (overrideOk (s.payload m.val)) = false) :
    Completes (.setTrimOverride m) s fun t => t.trm = s.trm ∧ t.answered m .invalidInput .range .empty := by
  refine completes_onCommand (show execSetTrimOverride m s = _ from rfl) htaken ?_
  dsimp only
  rw [if_pos (by simp [hbad]), State.refuse_eq, State.complete_trm]
  exact ⟨rfl, State.answered_complete _ m _ _ _ _⟩

theorem State.find_override (s : State) (e : TrimEntry) :
    Sparse.find (s.override e).trm.overrides e.margin = if e.release then none else some e.value := by
  unfold State.override
  cases e.release with
  | false => exact Sparse.find_put_same _ _ _
  | true => exact Sparse.find_erase_same _ _

theorem completes_setTrimOverride (htaken : s.taken m.val 0xC012 = true) (hone : leField (s.payload m.val) 0 2 = 1)
    (hzero : reservedZero (s.payload m.val) [2, 3] = true) (hok : overrideOk (s.payload m.val) 0 = true) :
    Completes (.setTrimOverride m) s fun t =>
      t.trm.due = true ∧ t.answered m .success .none .empty ∧
        Sparse.find t.trm.overrides (overrideAt (s.payload m.val) 0).margin =
          if (overrideAt (s.payload m.val) 0).release then none else some (overrideAt (s.payload m.val) 0).value := by
  refine completes_onCommand (show execSetTrimOverride m s = _ from rfl) htaken ?_
  dsimp only
  rw [hone, if_neg (by simp [hzero, hok, List.range_succ]), State.succeed_eq, State.complete_trm]
  exact ⟨rfl, State.answered_complete _ m _ _ _ _, s.find_override _⟩

/-! ## Reef's budget (R305) -/

section
variable (htaken : s.taken m.val 0xC013 = true)
include htaken

theorem completes_reefBudget_read (hzero : reservedZero (s.payload m.val) [1] = true)
    (hop : leField (s.payload m.val) 0 1 = 0) :
    Completes (.reefBudget m) s fun t =>
      t.reef = s.reef ∧ t.answered m .success .none (.bytes (leBytes 2 s.reef.budgetW ++ leBytes 2 s.storedBudget)) := by
  refine completes_onCommand (show execReefBudget m s = _ from rfl) htaken ?_
  dsimp only
  rw [hop, if_neg (by simp [hzero]), if_neg (by decide), State.succeed_eq, State.complete_reef]
  exact ⟨rfl, State.answered_complete _ m _ _ _ _⟩

theorem completes_reefBudget_set (hzero : reservedZero (s.payload m.val) [1] = true)
    (hop : leField (s.payload m.val) 0 1 = 1) (hlo : 100 ≤ leField (s.payload m.val) 2 2)
    (hhi : leField (s.payload m.val) 2 2 ≤ 280) :
    Completes (.reefBudget m) s fun t =>
      t.reef.budgetW = leField (s.payload m.val) 2 2 ∧ t.answered m .success .none
        (.bytes (leBytes 2 (leField (s.payload m.val) 2 2) ++ leBytes 2 s.storedBudget)) := by
  refine completes_onCommand (show execReefBudget m s = _ from rfl) htaken ?_
  dsimp only
  rw [hop, if_neg (by simp [hzero, hlo, hhi]), if_pos rfl, State.succeed_eq, State.complete_reef]
  exact ⟨rfl, State.answered_complete _ m _ _ _ _⟩

theorem completes_reefBudget_range (hop : leField (s.payload m.val) 0 1 = 1)
    (hout : leField (s.payload m.val) 2 2 < 100 ∨ 280 < leField (s.payload m.val) 2 2) :
    Completes (.reefBudget m) s fun t => t.reef = s.reef ∧ t.answered m .invalidInput .range .empty := by
  refine completes_onCommand (show execReefBudget m s = _ from rfl) htaken ?_
  dsimp only
  rw [hop, if_pos (by simp [hout]), State.refuse_eq, State.complete_reef]
  exact ⟨rfl, State.answered_complete _ m _ _ _ _⟩

end

/-! ## Self-test tickets (R305) and counter grants (R306) -/

section
variable (htaken : s.taken m.val 0xC060 = true) (hop : leField (s.payload m.val) 0 1 = 0)
  (hok : testUnitOk (leField (s.payload m.val) 1 1) (leField (s.payload m.val) 2 2) = true)
include htaken hop hok

theorem completes_selfTest_full (hopen : 32 ≤ s.trm.tickets.countP Ticket.isOpen) :
    Completes (.selfTest m) s fun t => t.trm = s.trm ∧ t.answered m .busy .queueFull .empty := by
  refine completes_onCommand (show execSelfTest m s = _ from rfl) htaken ?_
  dsimp only
  rw [if_pos hop, if_neg (by simp [hok]), if_pos hopen, State.refuse_eq, State.complete_trm]
  exact ⟨rfl, State.answered_complete _ m _ _ _ _⟩

theorem completes_selfTest (hopen : s.trm.tickets.countP Ticket.isOpen < 32) :
    Completes (.selfTest m) s fun t =>
      t.trm.nextTicket = s.trm.nextTicket + 1 ∧ (∃ out, t.answered m .success .none (.bytes out)) ∧
        ∃ k ∈ t.trm.tickets, k.id = s.trm.nextTicket ∧ k.state = .waiting ∧
          k.test = leField (s.payload m.val) 1 1 ∧ k.unit = leField (s.payload m.val) 2 2 := by
  refine completes_onCommand (show execSelfTest m s = _ from rfl) htaken ?_
  dsimp only
  rw [if_pos hop, if_neg (by simp [hok]), if_neg (Nat.not_le.mpr hopen), State.succeed_eq, State.complete_trm]
  exact ⟨rfl, ⟨_, State.answered_complete _ m _ _ _ _⟩, _, List.mem_append_right _ List.mem_cons_self, rfl, rfl, rfl, rfl⟩

end

/-- Counter units granted to the hosts of a port (R306). -/
def State.granted (s : State) (port : Nat) (b : BitVec 4) : State :=
  if port = 0 then { s with pmu := { s.pmu with grant0 := s.pmu.grant0 ||| b } }
  else { s with pmu := { s.pmu with grant1 := s.pmu.grant1 ||| b } }

section
variable (htaken : s.taken m.val 0xC061 = true) (hzero : reservedZero (s.payload m.val) [3] = true)
  (hmask : leField (s.payload m.val) 2 1 ≤ 15) (hop : leField (s.payload m.val) 1 1 = 1)
  (hmode : ∀ q, mboxPort m.val = some q → (s.port q).mode ≠ 0b01#2)
include htaken hzero hmask hop hmode

theorem exec_pmuGrant (hport : leField (s.payload m.val) 0 1 ≤ 1) :
    exec (.pmuGrant m) s = .next
      ((s.granted (leField (s.payload m.val) 0 1) (BitVec.ofNat 4 (leField (s.payload m.val) 2 1))).succeed m.val
        .empty) := by
  change execPmuGrant m s = _
  rw [execPmuGrant, State.onCommand, htaken, if_pos rfl]
  dsimp only
  rw [if_neg (by simp [hport, hop, hmask, hzero]), if_neg, if_pos hop]
  · unfold State.granted
    split <;> rfl
  · cases hq : mboxPort m.val with
    | none => simp
    | some q => simp [hmode q hq]

theorem completes_pmuGrant_port0 (hport : leField (s.payload m.val) 0 1 = 0) :
    Completes (.pmuGrant m) s fun t =>
      t.pmu.grant0 = s.pmu.grant0 ||| BitVec.ofNat 4 (leField (s.payload m.val) 2 1) ∧
        t.pmu.grant1 = s.pmu.grant1 ∧ t.answered m .success .none .empty := by
  refine ⟨_, exec_pmuGrant htaken hzero hmask hop hmode (by omega), ?_⟩
  dsimp only
  rw [hport, State.granted, if_pos rfl, State.succeed_eq, State.complete_pmu]
  exact ⟨rfl, rfl, State.answered_complete _ m _ _ _ _⟩

theorem completes_pmuGrant_port1 (hport : leField (s.payload m.val) 0 1 = 1) :
    Completes (.pmuGrant m) s fun t =>
      t.pmu.grant1 = s.pmu.grant1 ||| BitVec.ofNat 4 (leField (s.payload m.val) 2 1) ∧
        t.pmu.grant0 = s.pmu.grant0 ∧ t.answered m .success .none .empty := by
  refine ⟨_, exec_pmuGrant htaken hzero hmask hop hmode (by omega), ?_⟩
  dsimp only
  rw [hport, State.granted, if_neg (by decide), State.succeed_eq, State.complete_pmu]
  exact ⟨rfl, rfl, State.answered_complete _ m _ _ _ _⟩

end

end

/-- Settles O37: each command takes the value of its payload, or is refused with what it names unchanged. -/
theorem settingCommandsChangeWhatTheyName : Obligations.SettingCommandsChangeWhatTheyName := by
  unfold Obligations.SettingCommandsChangeWhatTheyName
  refine ⟨fun m log hs s htaken => ⟨completes_clearEventRecords htaken, completes_clearEventRecords_absent htaken⟩,
    fun m log msix v s htaken => ⟨fun p => completes_setEventInterruptPolicy htaken,
      completes_setEventInterruptPolicy_sideband htaken⟩,
    fun m time l o u ve pe c s => ⟨completes_setTimestamp, completes_setAlertConfiguration,
      completes_setShutdownState⟩,
    fun m stored s htaken => ⟨completes_seaChestStore_range htaken, fun hmask => ⟨?_, ?_⟩⟩,
    fun m s => ⟨fun htaken => ⟨completes_setTrimOverride_range htaken, completes_setTrimOverride htaken⟩,
      fun htaken hzero => ⟨completes_reefBudget_read htaken hzero, completes_reefBudget_set htaken hzero,
        completes_reefBudget_range htaken⟩,
      fun htaken hop hok => ⟨completes_selfTest_full htaken hop hok, completes_selfTest htaken hop hok⟩,
      fun htaken hzero hmask hop hmode => ⟨completes_pmuGrant_port0 htaken hzero hmask hop hmode,
        completes_pmuGrant_port1 htaken hzero hmask hop hmode⟩⟩⟩
  · rintro rfl
    exact completes_seaChestStore_failed htaken hmask
  · rintro rfl hfits
    exact completes_seaChestStore htaken hmask hfits

end Sys2Proof.Machine


/-! SUPPORT. Firmware images, and aborts of background commands (O38). -/

namespace Sys2Proof.Machine

open Sys2Proof

section
variable {m : Mbox} {s : State}

/-! ## Transfers (R282) -/

section
variable {slot : Fin 2} {off : Nat} {data : List Byte} (htaken : s.taken m.val 0x0201 = true)
include htaken

theorem completes_transferFw_active (hslot : slot.val = s.activeSlot) :
    Completes (.transferFw m slot off data) s fun t =>
      t.mst.fw = s.mst.fw ∧ t.sea = s.sea ∧ t.answered m .invalidSlot .none .empty := by
  refine completes_onCommand (show execTransferFw m slot off data s = _ from rfl) htaken ?_
  dsimp only
  rw [if_pos hslot, State.refuseRc_eq, State.complete_sea]
  have hfw := congrArg Mst.fw (s.complete_butJournal m.val .invalidSlot .none .empty 0)
  exact ⟨hfw, rfl, State.answered_complete _ m _ _ _ _⟩

variable (hslot : slot.val ≠ s.activeSlot) (hlen : 128 * off + data.length ≤ fwSlotBytes)
include hslot hlen

theorem completes_transferFw_outOfOrder (hoff : off ≠ 0)
    (horder : 128 * off ≠ (Sparse.get FwSlot.empty s.mst.fw slot.val).bytes) :
    Completes (.transferFw m slot off data) s fun t =>
      t.mst.fw = s.mst.fw ∧ t.sea = s.sea ∧ t.answered m .fwOutOfOrder .none .empty := by
  refine completes_onCommand (show execTransferFw m slot off data s = _ from rfl) htaken ?_
  dsimp only
  rw [if_neg hslot, if_neg (Nat.not_lt.mpr hlen), if_pos ⟨by omega, horder⟩, State.refuseRc_eq, State.complete_sea]
  have hfw := congrArg Mst.fw (s.complete_butJournal m.val .fwOutOfOrder .none .empty 0)
  exact ⟨hfw, rfl, State.answered_complete _ m _ _ _ _⟩

theorem completes_transferFw (horder : off = 0 ∨ 128 * off = (Sparse.get FwSlot.empty s.mst.fw slot.val).bytes) :
    Completes (.transferFw m slot off data) s fun t =>
      t.answered m .success .none .empty ∧
        (Sparse.get FwSlot.empty t.mst.fw slot.val).bytes = 128 * off + data.length := by
  refine completes_onCommand (show execTransferFw m slot off data s = _ from rfl) htaken ?_
  dsimp only
  rw [if_neg hslot, if_neg (Nat.not_lt.mpr hlen), if_neg (by omega), State.succeed_eq]
  generalize hu : ({ s.openSlot slot.val off with sea := _, mst := _ } : State) = u
  have hbytes : (Sparse.get FwSlot.empty u.mst.fw slot.val).bytes = 128 * off + data.length := by
    rw [← hu]
    exact congrArg FwSlot.bytes (Sparse.get_set_same _ _ _ _)
  have hfw := congrArg Mst.fw (u.complete_butJournal m.val .success .none .empty Output.empty.byteLength)
  refine ⟨State.answered_complete _ m _ _ _ _, ?_⟩
  exact (congrArg (fun f => (Sparse.get FwSlot.empty f slot.val).bytes) hfw).trans hbytes

end

/-! ## Activations (R282, R283) -/

section
variable {slot : Fin 2} {acc : Bool} (htaken : s.taken m.val 0x0202 = true)
include htaken

theorem exec_activateFw (online digestOk accepts : Bool) :
    exec (.activateFw m slot online digestOk accepts) s = .next (s.startActivation m slot online digestOk accepts) := by
  change execActivateFw m slot online digestOk accepts s = _
  rw [execActivateFw, htaken, if_pos rfl]

variable (hslot : slot.val ≠ s.activeSlot)
include hslot

theorem completes_activateFw_bad :
    Completes (.activateFw m slot false false acc) s fun t =>
      t.mst.staged = s.mst.staged ∧ t.mst.slot = s.mst.slot ∧ t.answered m .fwAuthFailed .none .empty := by
  refine ⟨_, exec_activateFw htaken false false acc, ?_⟩
  dsimp only
  rw [State.startActivation, if_neg hslot, if_neg (by simp), if_pos (by decide), State.refuseRc_eq]
  have hmst := s.complete_butJournal m.val .fwAuthFailed .none .empty 0
  have hstaged := congrArg Mst.staged hmst
  have hactive := congrArg Mst.slot hmst
  exact ⟨hstaged, hactive, State.answered_complete _ m _ _ _ _⟩

theorem completes_activateFw_offline :
    Completes (.activateFw m slot false true acc) s fun t =>
      t.mst.staged = some (slot.val == 1) ∧ t.mst.slot = s.mst.slot ∧ t.answered m .success .none .empty := by
  refine ⟨_, exec_activateFw htaken false true acc, ?_⟩
  dsimp only
  rw [State.startActivation, if_neg hslot, if_neg (by simp), if_neg (by decide)]
  dsimp only
  rw [if_pos (by decide), State.succeed_eq]
  generalize hu : ({ s.imageValid slot.val with mst := _ } : State) = u
  have hmst := u.complete_butJournal m.val .success .none .empty Output.empty.byteLength
  have hstaged := congrArg Mst.staged hmst
  have hactive := congrArg Mst.slot hmst
  subst hu
  exact ⟨hstaged, hactive, State.answered_complete _ m _ _ _ _⟩

theorem completes_activateFw_online (hbg : s.anyBg = false) :
    Completes (.activateFw m slot true true true) s fun t =>
      t.mst.activateMbox = some m ∧ t.mst.slot = s.mst.slot ∧ t.inBackground m 0x0202 := by
  have hop := (State.executing_of_taken htaken).2
  refine ⟨_, exec_activateFw htaken true true true, ?_⟩
  dsimp only
  rw [State.startActivation, if_neg hslot, if_neg (by simp [hbg]), if_neg (by decide)]
  dsimp only
  rw [if_neg (by decide), if_neg (by decide)]
  generalize hu : ({ s.imageValid slot.val with mst := _ } : State) = u
  have hmst := u.complete_butJournal m.val .backgroundStarted .none .empty 0
  have hmbox := congrArg Mst.activateMbox hmst
  have hactive := congrArg Mst.slot hmst
  have hmb : (u.mb m.val).opcode.toNat = 0x0202 := by
    rw [← hu]
    exact hop
  have hstarted := State.inBackground_startBg hmb true (some slot.val)
  subst hu
  exact ⟨hmbox, hactive, hstarted⟩

end

/-! ## The end of an activation (R283) -/

theorem State.activeSlot_of_slot {t : State} {k : Fin 2} (h : t.mst.slot = (k.val == 1)) : t.activeSlot = k.val := by
  rw [State.activeSlot, h]
  clear h
  revert k
  decide

/-- The image of a slot in force after its activation. -/
def State.activated (s : State) (slot : Nat) : State :=
  { s with mst := { s.mst with
    running := true, activating := false, activateMbox := none, slot := slot == 1, staged := none
    kickedAt := s.clock } }

theorem State.finishActivation_eq {u : State} {slot : Nat} (hbg : (s.mb m.val).bgSlot = some slot)
    (hstore : s.seaStore [(0x0304, leBytes 1 slot)] true = (u, true)) :
    s.finishActivation m =
      (((u.retireBg m.val).activated slot).completeBg m.val .success .none .empty).fire 1235 .note
        (Detail.ofUnit (slot + 1)) := by
  unfold State.finishActivation
  rw [hbg]
  dsimp only [Option.getD_some]
  rw [hstore]
  rfl

theorem State.bgActive_retireBg (s : State) (m : Nat) : ((s.retireBg m).mb m).bgActive = (s.mb m).bgActive := by
  unfold State.retireBg
  split
  · rfl
  · have h := congrArg Mb.bgActive (s.mb_modMb m fun x => { x with bgRetired := true })
    exact h

theorem completes_activateFw_done {slot k : Fin 2} {x y z : Bool} (htaken : s.taken m.val 0x0202 = false)
    (hactive : (s.mb m.val).bgActive = true) (hop : (s.mb m.val).bgOpcode = 0x0202#16)
    (hact : s.mst.activating = true) (htake : s.mst.takeover = false) (hbg : (s.mb m.val).bgSlot = some k.val)
    (hfits : s.sea.fits [(0x0304, leBytes 1 k.val)] = true) :
    Completes (.activateFw m slot x y z) s fun t =>
      t.activeSlot = k.val ∧ t.mst.running = true ∧ t.mst.activating = false ∧ t.mst.staged = none ∧
        t.sea.value 0x0304 = some (leBytes 1 k.val) ∧ t.bgEnded m .success .none ∧ t.fired 1235 .note := by
  have hexec : exec (.activateFw m slot x y z) s = .next (s.finishActivation m) := by
    change execActivateFw m slot x y z s = _
    simp [execActivateFw, htaken, hactive, hop, hact, htake]
  obtain ⟨u, x, hstore, hsea⟩ := State.seaStore_appends hfits
  have hu : (u.mb m.val).bgActive = true := by
    have h := (s.seaStore_within [(0x0304, leBytes 1 k.val)] true).same .hly (by decide)
    rw [hstore] at h
    rw [State.mb_of_hly h, hactive]
  refine ⟨_, hexec, ?_⟩
  beta_reduce
  rw [State.finishActivation_eq hbg hstore]
  generalize hw : (u.retireBg m.val).activated k.val = w
  have hbut := (w.completeBg_undone m.val .success .none .empty).mst
  have hsea' := (w.completeBg_within m.val .success .none .empty).same .sea (by decide)
  have hended := State.bgEnded_completeBg (s := w) (m := m) (by rw [← hw]; exact (u.bgActive_retireBg m.val).trans hu)
    .success .none .empty
  have hwsea : w.sea = Sea.append x [(0x0304, leBytes 1 k.val)] := by
    rw [← hsea, ← hw]
    exact (u.retireBg_within m.val).same .sea (by decide)
  have hwmst : w.mst.running = true ∧ w.mst.activating = false ∧ w.mst.staged = none ∧ w.mst.slot = (k.val == 1) := by
    rw [← hw]
    exact ⟨rfl, rfl, rfl, rfl⟩
  generalize w.completeBg m.val .success .none .empty = v at *
  obtain ⟨hrun, hidle, hstaged, hslot⟩ := hwmst
  rw [State.fire_mst, State.fire_sea, hsea', hwsea, State.bgEnded, State.mb_fire, State.fired_fire]
  refine ⟨?_, (congrArg Mst.running hbut).trans hrun, (congrArg Mst.activating hbut).trans hidle,
    (congrArg Mst.staged hbut).trans hstaged, ?_, hended, by rw [if_pos rfl]⟩
  · exact State.activeSlot_of_slot ((congrArg Mst.slot (State.fire_mst v _ _ _)).trans
      ((congrArg Mst.slot hbut).trans hslot))
  · exact Sea.value_append (by simp) (by simp) List.mem_cons_self

/-! ## Aborts (R288) -/

section
variable (htaken : s.taken m.val 0x0005 = true)
include htaken

theorem completes_requestAbort_nothing (h : (s.mb m.val).bgActive = false ∨ (s.mb m.val).bgRetired = true) :
    Completes (.requestAbortBackgroundOperation m) s fun t =>
      t.answered m .success .nothingToAbort .empty ∧ (t.mb m.val).bgActive = (s.mb m.val).bgActive := by
  refine completes_onCommand (show execRequestAbortBackgroundOperation m s = _ from rfl) htaken ?_
  dsimp only
  rw [if_pos (by rcases h with h | h <;> simp [h]), State.refuse_eq]
  exact ⟨State.answered_complete _ m _ _ _ _, State.bgActive_complete _ _ _ _ _ _⟩

variable (hactive : (s.mb m.val).bgActive = true) (hretired : (s.mb m.val).bgRetired = false)
include hactive hretired

theorem completes_requestAbort_unabortable (hfixed : (s.mb m.val).bgAbortable = false) :
    Completes (.requestAbortBackgroundOperation m) s fun t =>
      t.answered m .unsupported .none .empty ∧ (t.mb m.val).bgActive = true := by
  refine completes_onCommand (show execRequestAbortBackgroundOperation m s = _ from rfl) htaken ?_
  dsimp only
  rw [if_neg (by simp [hactive, hretired]), if_pos (by simp [hfixed]), State.refuseRc_eq, State.bgActive_complete]
  exact ⟨State.answered_complete _ m _ _ _ _, hactive⟩

theorem completes_requestAbort (habortable : (s.mb m.val).bgAbortable = true)
    (hop : (s.mb m.val).bgOpcode.toNat ∉ ownAbortRule) :
    Completes (.requestAbortBackgroundOperation m) s fun t =>
      t.answered m .success .none .empty ∧ t.bgEnded m .aborted .aborted := by
  refine completes_onCommand (show execRequestAbortBackgroundOperation m s = _ from rfl) htaken ?_
  dsimp only
  rw [if_neg (by simp [hactive, hretired]), if_neg (by simp [habortable]), State.undoBg_eq hop, State.succeed_eq]
  have hended := State.bgEnded_completeBg (s := s.modMb m.val fun x => { x with bgAborted := true }) (m := m)
    (by rw [State.mb_modMb, hactive]) .aborted .aborted .empty
  generalize (s.modMb m.val fun x => { x with bgAborted := true }).completeBg m.val .aborted .aborted .empty = u at *
  refine ⟨State.answered_complete _ m _ _ _ _, ?_⟩
  rw [State.bgEnded, State.mb_complete]
  exact hended

end

end

/-- Settles O38: transfers, activations and their end as R282 and R283 state, aborts as R288 does. -/
theorem firmwareImagesActivateAndAbortsAnswer : Obligations.FirmwareImagesActivateAndAbortsAnswer := by
  unfold Obligations.FirmwareImagesActivateAndAbortsAnswer
  refine ⟨fun m slot off data s htaken => ⟨completes_transferFw_active htaken, fun hslot hlen =>
      ⟨completes_transferFw_outOfOrder htaken hslot hlen, completes_transferFw htaken hslot hlen⟩⟩,
    fun m slot s htaken hslot => ⟨fun acc => completes_activateFw_bad htaken hslot,
      fun acc => completes_activateFw_offline htaken hslot, completes_activateFw_online htaken hslot⟩,
    fun m slot k x y z s => completes_activateFw_done,
    fun m s htaken => ⟨completes_requestAbort_nothing htaken, fun hactive hretired =>
      ⟨completes_requestAbort_unabortable htaken hactive hretired, completes_requestAbort htaken hactive hretired⟩⟩⟩

end Sys2Proof.Machine


/-! SUPPORT. The commands on extents, keys and modules (O40). -/

namespace Sys2Proof.Machine

open Sys2Proof

section
variable {m : Mbox} {s : State}

theorem State.inBackground_congr {s t : State} {op : Nat} (h : t.hly = s.hly) (hs : s.inBackground m op) :
    t.inBackground m op := by
  unfold State.inBackground State.answered at hs ⊢
  rw [State.mb_of_hly h]
  exact hs

/-! ## Seals (R251, R252) -/

/-- The payload of a seal command is in range: what R251 asks of its fields. -/
structure SealFields (s : State) (m : Mbox) (a : Nat) : Prop where
  dpa : s.mboxDpa m.val (leField (s.payload m.val) 0 8) = some a
  regLo : 1 ≤ leField (s.payload m.val) 12 1
  regHi : leField (s.payload m.val) 12 1 ≤ 7
  zero : reservedZero (s.payload m.val) [13, 14, 15] = true
  aligned : leField (s.payload m.val) 0 8 % 2 ^ 20 = 0
  lenLo : 1 ≤ leField (s.payload m.val) 8 4
  lenHi : leField (s.payload m.val) 8 4 ≤ 1048575
  inPort : leField (s.payload m.val) 0 8 + leField (s.payload m.val) 8 4 * 2 ^ 20 ≤ s.mboxSize m.val
  inMedia : a + leField (s.payload m.val) 8 4 * 2 ^ 20 ≤ s.capacity

/-- What a seal command does once its fields are in range and its extent overlaps no other. -/
def State.sealFor (s : State) (m : Mbox) (id a len reg : Nat) : State :=
  if !bitOf s.kce.loaded reg then s.refuse m.val .keyAbsent
  else if s.kce.owner ≠ .none then s.refuse m.val .lockBusy
  else if s.bgBusy m.val then s.refuseRc m.val .busy
  else if !s.sealLevel then s.refuse m.val .unavailable
  else if s.kce.coreGFenced then s.refuse m.val .engine
  else s.startSeal m id a len reg

section
variable {a : Nat} (htaken : s.taken m.val 0xC020 = true) (hf : SealFields s m a)
include htaken hf

theorem completes_sealExtent_overlap (h : s.kce.overlaps a (leField (s.payload m.val) 8 4 * 2 ^ 20) = true) :
    Completes (.sealExtent m) s fun t => t.kce = s.kce ∧ t.answered m .invalidInput .overlap .empty := by
  obtain ⟨hdpa, hregLo, hregHi, hzero, halign, hlenLo, hlenHi, hport, hmedia⟩ := hf
  refine completes_onCommand (show execSealExtent m s = _ from rfl) htaken ?_
  dsimp only
  rw [hdpa]
  dsimp only
  rw [if_neg, if_pos h]
  · exact ⟨s.complete_kce _ _ _ _ _, s.answered_complete m _ _ _ _⟩
  · simp [hzero]
    omega

theorem exec_sealExtent {id : Nat} (h : s.kce.overlaps a (leField (s.payload m.val) 8 4 * 2 ^ 20) = false)
    (hid : s.kce.freeId = some id) :
    exec (.sealExtent m) s = .next
      (s.sealFor m id a (leField (s.payload m.val) 8 4) (leField (s.payload m.val) 12 1)) := by
  obtain ⟨hdpa, hregLo, hregHi, hzero, halign, hlenLo, hlenHi, hport, hmedia⟩ := hf
  change execSealExtent m s = _
  rw [execSealExtent, State.onCommand, htaken, if_pos rfl]
  dsimp only
  rw [hdpa, hid]
  dsimp only
  rw [if_neg, if_neg (Bool.eq_false_iff.mp h)]
  · rfl
  · simp [hzero]
    omega

variable {id : Nat} (hover : s.kce.overlaps a (leField (s.payload m.val) 8 4 * 2 ^ 20) = false)
  (hid : s.kce.freeId = some id)
include hover hid

theorem completes_sealExtent_keyAbsent (hkey : bitOf s.kce.loaded (leField (s.payload m.val) 12 1) = false) :
    Completes (.sealExtent m) s fun t => t.kce = s.kce ∧ t.answered m .invalidInput .keyAbsent .empty := by
  refine ⟨_, exec_sealExtent htaken hf hover hid, ?_⟩
  dsimp only
  rw [State.sealFor, if_pos (by simp [hkey]), State.refuse_eq, State.complete_kce]
  exact ⟨rfl, s.answered_complete m _ _ _ _⟩

variable (hkey : bitOf s.kce.loaded (leField (s.payload m.val) 12 1) = true)
include hkey

theorem completes_sealExtent_lockBusy (howner : s.kce.owner ≠ .none) :
    Completes (.sealExtent m) s fun t => t.kce = s.kce ∧ t.answered m .busy .lockBusy .empty := by
  refine ⟨_, exec_sealExtent htaken hf hover hid, ?_⟩
  dsimp only
  rw [State.sealFor, if_neg (by simp [hkey]), if_pos howner, State.refuse_eq, State.complete_kce]
  exact ⟨rfl, s.answered_complete m _ _ _ _⟩

theorem completes_sealExtent (howner : s.kce.owner = .none) (hbusy : s.bgBusy m.val = false)
    (hlevel : s.sealLevel = true) (hfenced : s.kce.coreGFenced = false) :
    Completes (.sealExtent m) s fun t =>
      t.kce.owner = .seal ∧ t.kce.gen = s.kce.gen + 1#16 ∧
        Sparse.find t.kce.extents id = some ⟨a / 2 ^ 20, leField (s.payload m.val) 8 4, false⟩ ∧
        t.inBackground m 0xC020 := by
  have hop := (State.executing_of_taken htaken).2
  refine ⟨_, exec_sealExtent htaken hf hover hid, ?_⟩
  dsimp only
  rw [State.sealFor, if_neg (by simp [hkey]), if_neg (by simp [howner]), if_neg (by simp [hbusy]),
    if_neg (by simp [hlevel]), if_neg (by simp [hfenced])]
  generalize leField (s.payload m.val) 8 4 = len
  generalize leField (s.payload m.val) 12 1 = reg
  have hkce : (s.startBg m.val true none).kce = s.kce := (s.startBg_within _ _ _).same .kce (by decide)
  have hbg := State.inBackground_startBg hop true none
  unfold State.startSeal
  generalize s.startBg m.val true none = u at *
  generalize 2 ^ 20 = mib
  refine ⟨rfl, ?_, Sparse.find_put_same _ _ _, State.inBackground_congr rfl hbg⟩
  rw [← hkce]
  rfl

end

/-! ## Verify-reads (R258, R259) -/

section
variable {stored : Bool} (htaken : s.taken m.val 0xC021 = true)
include htaken

theorem completes_verifyRead_absent (hext : Sparse.find s.kce.extents (leField (s.payload m.val) 0 2) = none) :
    Completes (.verifyRead m stored) s fun t => t.kce = s.kce ∧ t.answered m .invalidInput .range .empty := by
  refine completes_onCommand (show execVerifyRead m stored s = _ from rfl) htaken ?_
  dsimp only
  rw [hext]
  exact ⟨s.complete_kce _ _ _ _ _, s.answered_complete m _ _ _ _⟩

theorem completes_verifyRead {e : Extent} {g : Registry}
    (hext : Sparse.find s.kce.extents (leField (s.payload m.val) 0 2) = some e) (hsealed : e.sealed = true)
    (hzero : reservedZero (s.payload m.val) [3, 4, 5, 6, 7] = true) (hbuffer : leField (s.payload m.val) 2 1 = 0)
    (hreg : Sparse.find s.kce.registry (leField (s.payload m.val) 0 2) = some g)
    (hkey : bitOf s.kce.loaded g.keyReg = true) (howner : s.kce.owner = .none) (hbusy : s.bgBusy m.val = false)
    (hlevel : s.sealLevel = true) (hfenced : s.kce.coreGFenced = false) :
    Completes (.verifyRead m stored) s fun t =>
      t.kce.owner = .verify ∧ t.kce.busy = true ∧ t.kce.extents = s.kce.extents ∧ t.inBackground m 0xC021 := by
  have hop := (State.executing_of_taken htaken).2
  refine completes_onCommand (show execVerifyRead m stored s = _ from rfl) htaken ?_
  dsimp only
  rw [hext]
  dsimp only
  rw [State.verifyBuffer, if_pos hbuffer]
  dsimp only
  rw [if_neg (by simp [hbuffer, hzero, hsealed]), if_neg (by simp [howner]), if_neg (by simp [hbusy]), hreg]
  dsimp only
  rw [if_neg (by simp [hkey]), if_neg (by simp [hlevel]), if_neg (by simp [hfenced])]
  have hkce : (s.startBg m.val true none).kce = s.kce := (s.startBg_within _ _ _).same .kce (by decide)
  have hbg := State.inBackground_startBg hop true none
  unfold State.startVerify
  generalize 2 ^ 20 = mib
  dsimp only
  rw [if_neg (by decide)]
  generalize s.startBg m.val true none = u at *
  refine ⟨rfl, rfl, ?_, State.inBackground_congr rfl hbg⟩
  rw [← hkce]
  rfl

end

/-! ## Keys (R302, R303) -/

theorem keyOfPayload {x : Nat} (h : BitVec.ofNat 256 x ≠ 0#256) :
    BitVec.ofNat 512 x ≠ 0#512 ∧ (BitVec.ofNat 512 x).setWidth 256 = BitVec.ofNat 256 x := by
  have hset : (BitVec.ofNat 512 x).setWidth 256 = BitVec.ofNat 256 x := BitVec.setWidth_ofNat_of_le (by decide) x
  refine ⟨fun h' => h ?_, hset⟩
  rw [← hset, h', BitVec.setWidth_zero]

/-- Dropping the lock leaves the key registers. -/
theorem State.dropLock_keys (s : State) :
    s.dropLock.kce.keys = s.kce.keys ∧ s.dropLock.kce.loaded = s.kce.loaded := by
  unfold State.dropLock
  cases s.kce.busy <;> exact ⟨rfl, rfl⟩

section
variable {stored : Bool} {r : Nat} (htaken : s.taken m.val 0xC030 = true) (htarget : leField (s.payload m.val) 0 1 = 1)
  (hindex : leField (s.payload m.val) 1 1 = r) (hlo : 1 ≤ r) (hhi : r ≤ 7) (hpersist : leField (s.payload m.val) 2 1 = 0)
  (hzero : reservedZero (s.payload m.val) [3, 4, 5, 6, 7] = true) (hupper : leField (s.payload m.val) 40 32 = 0)
include htaken htarget hindex hlo hhi hpersist hzero hupper

theorem completes_keyLoad_zeroKey (hkey : leField (s.payload m.val) 8 64 = 0) :
    Completes (.keyLoad m stored) s fun t => t.kce = s.kce ∧ t.answered m .invalidInput .keyValue .empty := by
  refine completes_onCommand (show execKeyLoad m stored s = _ from rfl) htaken ?_
  dsimp only
  rw [htarget, hindex, hpersist, hupper, hkey, if_neg (by simp [targetOk, hzero]; omega), if_pos (by simp)]
  exact ⟨s.complete_kce _ _ _ _ _, s.answered_complete m _ _ _ _⟩

section
variable {key : BitVec 512} (hread : BitVec.ofNat 512 (leField (s.payload m.val) 8 64) = key) (hkey : key ≠ 0#512)
  (howner : s.kce.owner = .none)
include hread hkey howner

theorem exec_keyLoad :
    exec (.keyLoad m stored) s = .next ((s.grantLock .firmware).loadKey m 1 r false key stored) := by
  change execKeyLoad m stored s = _
  rw [execKeyLoad, State.onCommand, htaken, if_pos rfl]
  dsimp only
  rw [hread, htarget, hindex, hpersist, hupper, if_neg (by simp [targetOk, hzero]; omega), if_neg (by simp [hkey]),
    if_neg (by simp [howner]), State.lockFor, if_neg (by omega)]
  have hpersistent : (1 == 0 || r == 0 || 0 == 1) = false := by simp; omega
  rw [hpersistent]

theorem completes_keyLoad_held (hloaded : bitOf s.kce.loaded r = true) :
    Completes (.keyLoad m stored) s fun t =>
      t.kce.keys = s.kce.keys ∧ t.answered m .invalidInput .keyState .empty := by
  refine ⟨_, exec_keyLoad htaken htarget hindex hlo hhi hpersist hzero hupper hread hkey howner, ?_⟩
  have hnone : (s.grantLock .firmware).loadTarget 1 r key = none := by
    rw [State.loadTarget, if_neg (by decide), State.kceLoad, if_pos (.inl hloaded)]
  dsimp only
  rw [State.loadKey, hnone]
  dsimp only
  rw [State.unlockFor, if_neg (by omega), State.refuse_eq, State.complete_kce]
  exact ⟨(State.dropLock_keys _).1, State.answered_complete _ m _ _ _ _⟩

omit htaken htarget hindex hlo hhi hpersist hzero hupper hread hkey howner in
/-- A key that is not to be stored is loaded, and the lock freed again. -/
theorem State.loadKey_volatile {target index : Nat} {u : State} (h : s.loadTarget target index key = some u) :
    s.loadKey m target index false key stored = ((u.unlockFor target index).succeed m.val .empty).pumpAll := by
  rw [State.loadKey, h]
  rfl

theorem completes_keyLoad (hnonzero : key.setWidth 256 ≠ 0#256) (hin : s.NoIngress)
    (hloaded : bitOf s.kce.loaded r = false) :
    Completes (.keyLoad m stored) s fun t =>
      bitOf t.kce.loaded r = true ∧ t.kce.key r = key.setWidth 256 ∧ t.kce.owner = .none ∧
        t.answered m .success .none .empty := by
  refine ⟨_, exec_keyLoad htaken htarget hindex hlo hhi hpersist hzero hupper hread hkey howner, ?_⟩
  obtain ⟨u, hload, hset, hread, -⟩ := State.kceLoad_of_empty (s := s.grantLock .firmware) hloaded hnonzero
  have hwithin : Within [.kce, .log] s u :=
    Within.step ((s.grantLock .firmware).kceLoad_within r _ u hload) (by decide)
      (Within.step (s.grantLock_within .firmware) (by decide) (Within.refl _ s))
  have hsome : (s.grantLock .firmware).loadTarget 1 r key = some u := by
    rw [State.loadTarget, if_neg (by decide), hload]
  have hquiet : (u.dropLock.succeed m.val .empty).NoIngress :=
    (State.succeed_within _ _ _).noIngress
      (u.dropLock_within.noIngress (hwithin.noIngress hin (by decide) (by decide)) (by decide) (by decide))
      (by decide) (by decide)
  rw [State.loadKey_volatile hsome, State.unlockFor, if_neg (by omega), State.pumpAll_eq_self hquiet, State.succeed_eq,
    State.complete_kce, Kce.key, u.dropLock_keys.1, u.dropLock_keys.2, hset, ← Kce.key, hread]
  exact ⟨bitOf_setBit_same _ _ (by omega), rfl, u.dropLock_owner, State.answered_complete _ m _ _ _ _⟩

end

end

section
variable {stored : Bool} {i : Nat} (htaken : s.taken m.val 0xC031 = true) (htarget : leField (s.payload m.val) 0 1 = 0)
  (hindex : leField (s.payload m.val) 1 1 = i) (hlt : i < 64) (hzero : reservedZero (s.payload m.val) [2, 3] = true)
  (hrecord : s.sea.value (recShroudKey i) = none)
include htaken htarget hindex hlt hzero hrecord

/-- What Key Zeroize of a Shroud slot without a stored key does, by the slot's state. -/
theorem exec_keyZeroize :
    exec (.keyZeroize m stored) s = .next
      (if (s.keySlot i).state = .empty then s.succeed m.val .empty
       else if (s.keySlot i).state = .loaded then
        ((s.seaWithdraw (recShroudKey i)).zeroizeTarget 0 i).succeed m.val .empty
       else s.refuse m.val .keyState) := by
  have hkey : recKey 0 i = recShroudKey i := rfl
  change execKeyZeroize m stored s = _
  rw [execKeyZeroize, State.onCommand, htaken, if_pos rfl]
  dsimp only
  rw [htarget, hindex, if_neg (by simp [targetOk, hzero, hlt]), hkey, hrecord]
  cases (s.keySlot i).state <;> simp

theorem completes_keyZeroize_empty (hst : (s.keySlot i).state = .empty) :
    Completes (.keyZeroize m stored) s fun t => t.shr = s.shr ∧ t.answered m .success .none .empty := by
  refine ⟨_, exec_keyZeroize htaken htarget hindex hlt hzero hrecord, ?_⟩
  dsimp only
  rw [if_pos hst, State.succeed_eq]
  exact ⟨s.complete_shr _ _ _ _ _, s.answered_complete m _ _ _ _⟩

theorem completes_keyZeroize_active (hst : (s.keySlot i).state = .active) :
    Completes (.keyZeroize m stored) s fun t => t.shr = s.shr ∧ t.answered m .invalidInput .keyState .empty := by
  refine ⟨_, exec_keyZeroize htaken htarget hindex hlt hzero hrecord, ?_⟩
  dsimp only
  rw [if_neg (by simp [hst]), if_neg (by simp [hst]), State.refuse_eq]
  exact ⟨s.complete_shr _ _ _ _ _, s.answered_complete m _ _ _ _⟩

theorem completes_keyZeroize_loaded (hst : (s.keySlot i).state = .loaded) :
    Completes (.keyZeroize m stored) s fun t =>
      t.keySlot i = KeySlot.empty ∧ t.answered m .success .none .empty := by
  refine ⟨_, exec_keyZeroize htaken htarget hindex hlt hzero hrecord, ?_⟩
  dsimp only
  rw [if_neg (by simp [hst]), if_pos hst, State.succeed_eq]
  refine ⟨?_, State.answered_complete _ m _ _ _ _⟩
  generalize hu : s.seaWithdraw (recShroudKey i) = u
  have hslot : (u.keySlot i).state = .loaded := by rw [← hu]; exact hst
  rw [State.keySlot_congr (State.complete_shr _ _ _ _ _ _), State.zeroizeTarget, if_pos rfl, State.shrZeroize,
    if_neg (by simp [hslot]), Option.getD_some, State.keySlot_congr (State.shr_keyRecord _ _ _ _ _),
    State.keySlot_modKeySlot]

end

/-! ## Rekeys (R230, R238, R304) -/

section
variable {a b rate lo hi : Nat}

/-- The payload of a rekey command is in range. -/
structure RekeyFields (s : State) (m : Mbox) (a b rate lo hi : Nat) : Prop where
  old : leField (s.payload m.val) 0 1 = a
  new : leField (s.payload m.val) 1 1 = b
  share : leField (s.payload m.val) 2 1 = rate
  first : leField (s.payload m.val) 4 4 = lo
  last : leField (s.payload m.val) 8 4 = hi
  zero : reservedZero (s.payload m.val) [3] = true
  inRange : a < 64 ∧ b < 64 ∧ 1 ≤ rate ∧ rate ≤ 64 ∧ lo < 1048576 ∧ hi < 1048576

section
variable (htaken : s.taken m.val 0xC032 = true) (hf : RekeyFields s m a b rate lo hi)
include htaken hf

theorem completes_rekeyStart_refused (hrefused : s.rekeyRefused a b lo hi = true) (stored : Bool) :
    Completes (.rekeyStart m stored) s fun t => t.shr = s.shr ∧ t.answered m .invalidInput .rekeyState .empty := by
  obtain ⟨ha, hb, hrate, hlo, hhi, hzero, hrange⟩ := hf
  refine completes_onCommand (show execRekeyStart m stored s = _ from rfl) htaken ?_
  dsimp only
  rw [ha, hb, hrate, hlo, hhi, if_neg (by simp [hzero]; omega), if_pos hrefused]
  exact ⟨s.complete_shr _ _ _ _ _, s.answered_complete m _ _ _ _⟩

theorem completes_rekeyStart (hrefused : s.rekeyRefused a b lo hi = false)
    (hfits : s.sea.fits [(0x0301, rekeyRecord a b lo hi)] = true) :
    Completes (.rekeyStart m true) s fun t =>
      t.shr.rkState = .running ∧ (t.keySlot a).state = .retiring ∧ (t.keySlot b).state = .active ∧
        t.fired 1222 .note ∧ t.answered m .success .none .empty := by
  obtain ⟨ha, hb, hrate, hlo, hhi, hzero, hrange⟩ := hf
  have hab : a ≠ b := fun h => by simp [State.rekeyRefused, h] at hrefused
  obtain ⟨u, hstore⟩ := State.seaStore_of_fits hfits
  refine completes_onCommand (show execRekeyStart m true s = _ from rfl) htaken ?_
  dsimp only
  rw [ha, hb, hrate, hlo, hhi, if_neg (by simp [hzero]; omega), if_neg (by simp [hrefused]), hstore, if_pos rfl,
    State.succeed_eq]
  obtain ⟨hrun, hold, hnew, hfired⟩ := u.rekeyBegin_leaves hab lo hi rate
  generalize u.rekeyBegin a b lo hi rate = v at *
  rw [State.keySlot_congr (State.complete_shr _ _ _ _ _ _), State.keySlot_congr (State.complete_shr _ _ _ _ _ _),
    State.complete_shr, State.fired_of_evt (State.complete_evt _ _ _ _ _ _)]
  exact ⟨hrun, hold, hnew, hfired, State.answered_complete _ m _ _ _ _⟩

end

section
variable (htaken : s.taken m.val 0xC033 = true)
include htaken

theorem completes_rekeyAbort_idle (hidle : s.shr.rkState = .idle) :
    Completes (.rekeyAbort m) s fun t => t.shr = s.shr ∧ t.answered m .invalidInput .rekeyState .empty := by
  refine completes_onCommand (show execRekeyAbort m s = _ from rfl) htaken ?_
  rw [if_pos (.inl hidle)]
  exact ⟨s.complete_shr _ _ _ _ _, s.answered_complete m _ _ _ _⟩

theorem completes_rekeyAbort (hrun : s.shr.rkState = .running) (habortable : s.shr.abortable = true) :
    Completes (.rekeyAbort m) s fun t =>
      t.shr.rkState = .aborting ∧ t.answered m .success .none (.bytes (leBytes 8 s.shr.hemline)) := by
  refine completes_onCommand (show execRekeyAbort m s = _ from rfl) htaken ?_
  rw [if_neg (by simp [hrun]), State.rekeyAbortNow, if_pos habortable, State.succeed_eq, State.complete_shr]
  exact ⟨rfl, State.answered_complete _ m _ _ _ _⟩

end

end

/-! ## Modules (R213, R216) -/

/-- A slot that begins to retire, and the mailbox that waits for its end. -/
theorem State.slot_beginRetire (s : State) (k : Nat) (mbox : Option Mbox) :
    (s.beginRetire k mbox).slot k = { s.slot k with state := .retiring, retireMbox := mbox } := by
  unfold State.beginRetire
  rw [State.slot_settleLevel, State.slot_congr ((State.rerouteReads_within _ _).same .seq (by decide)),
    State.slot_modSlot]
  rfl

/-- A module admitted waits for its rebuild, and the command that asked for it ends with Success (R216). -/
theorem State.admitModule_leaves {u : State} {k : Nat} (hmbox : (u.slot k).admitMbox = some m)
    (hactive : (u.mb m.val).bgActive = true) :
    ((u.admitModule k).slot k).state = .waiting ∧ ((u.admitModule k).slot k).admitMbox = none ∧
      (u.admitModule k).bgEnded m .success .none := by
  unfold State.admitModule
  rw [hmbox]
  extract_lets id mbox v w x
  have hx : x.slot k = { v.slot k with
      ident := (v.slot k).ident.map fun i => { i with setId := id }, state := .waiting, admitMbox := none } :=
    (State.slot_congr (s := w) (t := x) rfl k).trans (State.slot_modSlot _ _ _)
  have hmb : x.mb m.val = u.mb m.val := rfl
  clear_value x
  rw [State.slot_congr ((x.completeBg_within m.val .success .none .empty).same .seq (by decide)), hx]
  exact ⟨rfl, rfl, State.bgEnded_completeBg (by rw [hmb, hactive]) _ _ _⟩

section
variable {k : Nat} (hslot : leField (s.payload m.val) 0 1 = k) (hk : k ≤ 17) (hbg : (s.mb m.val).bgActive = false)
include hslot hk hbg

section
variable (htaken : s.taken m.val 0xC050 = true) (hzero : reservedZero (s.payload m.val) [1, 2, 3] = true)
include htaken hzero

theorem completes_moduleRetire_state (hst : (s.slot k).state ≠ .inService) :
    Completes (.moduleRetire m) s fun t => t.seq = s.seq ∧ t.answered m .invalidInput .moduleState .empty := by
  refine completes_onCommand (show execModuleRetire m s = _ from rfl) htaken ?_
  dsimp only
  rw [hslot, if_neg (by simp [hzero, hk]), if_neg (by simp [hbg]), if_pos hst]
  exact ⟨s.complete_seq _ _ _ _ _, s.answered_complete m _ _ _ _⟩

theorem completes_moduleRetire_modulesOut (hst : (s.slot k).state = .inService) (hout : 2 ≤ s.modulesOut) :
    Completes (.moduleRetire m) s fun t => t.seq = s.seq ∧ t.answered m .invalidInput .modulesOut .empty := by
  refine completes_onCommand (show execModuleRetire m s = _ from rfl) htaken ?_
  dsimp only
  rw [hslot, if_neg (by simp [hzero, hk]), if_neg (by simp [hbg]), if_neg (by simp [hst]),
    if_pos (by simp [State.retireRefused, hout])]
  exact ⟨s.complete_seq _ _ _ _ _, s.answered_complete m _ _ _ _⟩

theorem completes_moduleRetire (hst : (s.slot k).state = .inService) (hout : s.modulesOut < 2) :
    Completes (.moduleRetire m) s fun t =>
      (t.slot k).state = .retiring ∧ (t.slot k).retireMbox = some m ∧ t.inBackground m 0xC050 := by
  have hop := (State.executing_of_taken htaken).2
  refine completes_onCommand (show execModuleRetire m s = _ from rfl) htaken ?_
  dsimp only
  rw [hslot, if_neg (by simp [hzero, hk]), if_neg (by simp [hbg]), if_neg (by simp [hst]),
    if_neg (by simp [State.retireRefused, hout]), State.slot_beginRetire]
  exact ⟨rfl, rfl, State.inBackground_congr ((State.beginRetire_within _ _ _).same .hly (by decide))
    (State.inBackground_startBg hop _ _)⟩

end

section
variable (htaken : s.taken m.val 0xC051 = true) (hflag : leField (s.payload m.val) 1 1 = 0)
  (hzero : reservedZero (s.payload m.val) [2, 3] = true)
include htaken hflag hzero

theorem completes_moduleAdmit_state (hadmit : s.admissible k false = false) :
    Completes (.moduleAdmit m) s fun t => t.seq = s.seq ∧ t.answered m .invalidInput .moduleState .empty := by
  refine completes_onCommand (show execModuleAdmit m s = _ from rfl) htaken ?_
  dsimp only
  rw [hslot, hflag, if_neg (by simp [hzero, hk]), if_neg (by simp [hbg]), if_pos]
  · exact ⟨s.complete_seq _ _ _ _ _, s.answered_complete m _ _ _ _⟩
  · exact (Bool.not_eq_true' _).mpr hadmit

theorem completes_moduleAdmit (hadmit : s.admissible k false = true) (htrained : s.moduleTrained k = true) :
    Completes (.moduleAdmit m) s fun t =>
      (t.slot k).state = .waiting ∧ (t.slot k).admitMbox = none ∧ t.bgEnded m .success .none := by
  have hst : (s.slot k).state = .training := by
    simp [State.admissible] at hadmit
    exact hadmit.2.1
  have hop := (State.executing_of_taken htaken).2
  have hstarted := State.inBackground_startBg hop true (some k)
  have hsame := s.startBg_within m.val true (some k)
  refine completes_onCommand (show execModuleAdmit m s = _ from rfl) htaken ?_
  dsimp only
  rw [hslot, hflag, if_neg (by simp [hzero, hk]), if_neg (by simp [hbg]), if_neg, State.startAdmit]
  · generalize s.startBg m.val true (some k) = u at *
    have hust : (u.slot k).state = .training := by rw [State.slot_congr (hsame.same .seq (by decide)), hst]
    have hutrained : u.moduleTrained k = true := by
      rw [← htrained]
      unfold State.moduleTrained
      exact List.all_congr rfl fun n => by rw [State.ch_congr (hsame.same .mch (by decide))]
    generalize hv : (u.modSlot k fun x => { x with admitMbox := some m }) = v
    have hvslot : v.slot k = { u.slot k with admitMbox := some m } := by rw [← hv, State.slot_modSlot]
    have hvtrained : v.moduleTrained k = true := by rw [← hv]; exact hutrained
    have hvactive : (v.mb m.val).bgActive = true := by rw [← hv]; exact hstarted.2.1
    have hleaves := State.admitModule_leaves (by rw [hvslot]) hvactive
    have hvst : (v.slot k).state = .training := by rw [hvslot]; exact hust
    rw [hvst, hvtrained]
    cases (v.slot k).ident <;> exact hleaves
  · simp [hadmit]

end

end

end

/-- Settles O40: each of the commands on extents, keys and modules is refused with the status of its rule, or starts
its work. -/
theorem extentKeyAndModuleCommandsStartTheirWork : Obligations.ExtentKeyAndModuleCommandsStartTheirWork := by
  unfold Obligations.ExtentKeyAndModuleCommandsStartTheirWork
  refine ⟨fun m a id s htaken hdpa hregLo hregHi hzero halign hlenLo hlenHi hport hmedia => ?_,
    fun m stored s htaken => ⟨completes_verifyRead_absent htaken, fun e g => completes_verifyRead htaken⟩,
    fun m stored r s htaken htarget hindex hlo hhi hpersist hzero hupper =>
      ⟨completes_keyLoad_zeroKey htaken htarget hindex hlo hhi hpersist hzero hupper,
        fun hkey howner h0 h1 h2 h3 => ?_⟩,
    fun m stored i s htaken htarget hindex hlt hzero hrecord =>
      ⟨completes_keyZeroize_empty htaken htarget hindex hlt hzero hrecord,
        completes_keyZeroize_loaded htaken htarget hindex hlt hzero hrecord,
        completes_keyZeroize_active htaken htarget hindex hlt hzero hrecord⟩,
    fun m a b rate lo hi s => ⟨fun htaken ha hb hrate hlo hhi hab hbb hrl hrh hzero hlob hhib => ?_, fun htaken =>
      ⟨completes_rekeyAbort_idle htaken, completes_rekeyAbort htaken⟩⟩,
    fun m k s hslot hk hbg => ⟨fun htaken hzero => ⟨completes_moduleRetire_state hslot hk hbg htaken hzero,
        completes_moduleRetire_modulesOut hslot hk hbg htaken hzero, completes_moduleRetire hslot hk hbg htaken hzero⟩,
      fun htaken hflag hzero => ⟨completes_moduleAdmit_state hslot hk hbg htaken hflag hzero,
        completes_moduleAdmit hslot hk hbg htaken hflag hzero⟩⟩⟩
  · have hf : SealFields s m a := ⟨hdpa, hregLo, hregHi, hzero, halign, hlenLo, hlenHi, hport, hmedia⟩
    exact ⟨completes_sealExtent_overlap htaken hf, fun hover hid => ⟨completes_sealExtent_keyAbsent htaken hf hover hid,
      fun hkey => ⟨completes_sealExtent_lockBusy htaken hf hover hid hkey, completes_sealExtent htaken hf hover hid hkey⟩⟩⟩
  · obtain ⟨hne, hset⟩ := keyOfPayload hkey
    rw [← hset] at hkey ⊢
    exact ⟨completes_keyLoad_held htaken htarget hindex hlo hhi hpersist hzero hupper rfl hne howner,
      completes_keyLoad htaken htarget hindex hlo hhi hpersist hzero hupper rfl hne howner hkey
        (State.noIngress_of h0 h1 h2 h3)⟩
  · have hf : RekeyFields s m a b rate lo hi := ⟨ha, hb, hrate, hlo, hhi, hzero, hab, hbb, hrl, hrh, hlob, hhib⟩
    exact ⟨completes_rekeyStart_refused htaken hf, completes_rekeyStart htaken hf⟩

end Sys2Proof.Machine


/-! SUPPORT. The input, the rails and the sequencer (O41). -/

namespace Sys2Proof.Machine

open Sys2Proof

/-! ## The start of a dump and of a shutdown (R308, R314) -/

/-- A dump that starts closes admission and takes the next epoch. -/
theorem State.dumpStart_leaves {s : State} (h : s.glb.dumping = false) :
    s.dumpStart.glb.butReserved =
        { s.glb with
          admitOpen := false, dumping := true, dumpInflight := s.inflightList, reserved := 0
          epochCounter := satAdd 0xFFFFFFFF s.glb.epochCounter 1 } ∧
      s.dumpStart.seq = { s.seq with epochTaken := s.glb.epochCounter } ∧ s.dumpStart.media = s.media ∧
      ∀ i v, 1230 ≤ i → (s.dumpStart.fired i v ↔ s.fired i v) := by
  unfold State.dumpStart
  rw [if_neg (by simp [h])]
  extract_lets e _ _ u
  have hu : Within [.vbf, .stp] u u.cancelUnsent.cancelMerges :=
    Within.step (State.cancelMerges_within _) (by decide)
      (Within.step u.cancelUnsent_within (by decide) (Within.refl _ u))
  have hretry := u.cancelUnsent.cancelMerges.retryLookups_within
  have hfired (i : Nat) (v : Severity) : u.fired i v = s.fired i v := rfl
  have hseq : u.seq = { s.seq with epochTaken := s.glb.epochCounter } := rfl
  have hmedia : u.media = s.media := rfl
  refine ⟨?_, ?_, ?_, fun i v hi => ?_⟩
  · rw [requestKeeps_butReserved.retryLookups, hu.glb_eq (by decide) (by decide)]
    rfl
  · rw [hretry.same .seq (by decide), hu.same .seq (by decide), hseq]
  · rw [hretry.same .media (by decide), hu.same .media (by decide), hmedia]
  · rw [(requestKeeps_fired hi v).retryLookups, State.fired_of_evt (hu.same .evt (by decide)), hfired]

/-- The sequencer's registers in a dump that a cause starts. -/
def Seq.dumping (q : Seq) (c : Cause) (now epoch : Nat) : Seq :=
  { q with state := .dump, cause := c, shutAt := now, dumpDoneAt := none, epochTaken := epoch }

/-- A hold-up measurement ends at a warning or a request to shut down (R360). -/
def State.holdupCut (s : State) (c : Cause) : State := if c = .warning ∨ c = .shdn then s.holdupAbort else s

theorem State.holdupCut_within (s : State) (c : Cause) : Within [.tel] s (s.holdupCut c) := by
  unfold State.holdupCut
  split
  · exact s.holdupAbort_within
  · exact Within.refl _ s

/-- The sequencer in DUMP under a cause, before the epoch is taken. -/
def State.toDump (s : State) (c : Cause) : State :=
  { s with seq := { s.seq with state := .dump, cause := c, shutAt := s.clock, dumpDoneAt := none } }

theorem State.shutdown_of_replayed {s : State} (c : Cause) (hrun : s.seq.state = .run)
    (hreplay : s.glb.replayDone = true) :
    s.shutdown c =
      (let u := ((s.holdupCut c).toDump c).dumpStart
       let u := u.fire 1261 c.severity { Detail.none with addr := u.seq.epochTaken, code := c.code }
       if u.dumpSealed then u.afterDump else u) := by
  have hreplay' : (s.holdupCut c).glb.replayDone = true :=
    (congrArg Glb.replayDone ((s.holdupCut_within c).glb_eq (by decide) (by decide))).trans hreplay
  unfold State.shutdown
  rw [if_neg (by simp [hrun])]
  change (if !(s.holdupCut c).glb.replayDone then _ else _) = _
  rw [if_neg (by simp [hreplay'])]
  rfl

/-- A shutdown from RUN after replay: the dump starts with the next epoch, recorded under its cause. -/
theorem State.shutdown_dumps {s : State} (c : Cause) (hrun : s.seq.state = .run) (hreplay : s.glb.replayDone = true)
    (hdump : s.glb.dumping = false) (hjournal : ∀ e, s.media.journal = some e → e.epoch ≠ s.glb.epochCounter) :
    (s.shutdown c).seq = s.seq.dumping c s.clock s.glb.epochCounter ∧ (s.shutdown c).glb.admitOpen = false ∧
      (s.shutdown c).glb.dumping = true ∧ (s.shutdown c).glb.epochCounter = satAdd 0xFFFFFFFF s.glb.epochCounter 1 ∧
      (s.shutdown c).fired 1261 c.severity ∧
      ∀ i v, 1230 ≤ i → i ≠ 1261 → ((s.shutdown c).fired i v ↔ s.fired i v) := by
  rw [State.shutdown_of_replayed c hrun hreplay]
  have hcut := s.holdupCut_within c
  have hu : ((s.holdupCut c).toDump c).glb = s.glb := hcut.glb_eq (by decide) (by decide)
  have hseq : (s.holdupCut c).seq = s.seq := hcut.same .seq (by decide)
  have hclock : (s.holdupCut c).clock = s.clock := hcut.same .clock (by decide)
  have huseq : ((s.holdupCut c).toDump c).seq =
      { s.seq with state := .dump, cause := c, shutAt := s.clock, dumpDoneAt := none } := by
    rw [State.toDump, hseq, hclock]
  have humedia : ((s.holdupCut c).toDump c).media = s.media := hcut.same .media (by decide)
  have hufired (i : Nat) (v : Severity) : ((s.holdupCut c).toDump c).fired i v ↔ s.fired i v :=
    State.fired_of_evt (hcut.same .evt (by decide)) i v
  generalize (s.holdupCut c).toDump c = u at *
  obtain ⟨hglb, hdseq, hmedia, hfired⟩ := State.dumpStart_leaves (s := u) (by rw [hu, hdump])
  generalize u.dumpStart = w at *
  rw [hu, huseq] at hdseq
  rw [hu] at hglb
  rw [humedia] at hmedia
  have hunsealed (d : Detail) : (w.fire 1261 c.severity d).dumpSealed = false := by
    unfold State.dumpSealed
    rw [State.fire_media, hmedia, State.fire_seq, hdseq]
    cases hj : s.media.journal with
    | none => simp
    | some e => simp [hjournal e hj]
  dsimp only
  rw [if_neg (by rw [hunsealed]; decide), State.fire_seq, State.fire_glb, hdseq]
  exact ⟨rfl, congrArg Glb.admitOpen hglb, congrArg Glb.dumping hglb, congrArg Glb.epochCounter hglb,
    (State.fired_fire _ _ _ _ _ _).mpr (by rw [if_pos rfl]), fun i v hi hne =>
      ((State.fired_fire _ _ _ _ _ _).trans (by rw [if_neg hne])).trans ((hfired i v hi).trans (hufired i v))⟩

/-! ## The input (R308, R309, R324) -/

/-- A ramp that starts without a reset pending enables the first rail; a later one passes a SYS reset (R345). -/
theorem State.powerUp_leaves {s : State} (h : s.rst.request = none) :
    s.powerUp.seq.state = .ramp ∧ s.powerUp.seq.railsEn = 0b1#7 ∧ s.powerUp.seq.rampNext = 0 ∧
      s.powerUp.seq.stable = s.seq.stable ∧
      (s.seq.started = true → s.powerUp.rst.level = .sys ∧ s.powerUp.rst.source = 0x03#5) := by
  unfold State.powerUp
  rw [h]
  dsimp only
  cases hst : s.seq.started with
  | true => exact ⟨rfl, rfl, rfl, rfl, fun _ => ⟨rfl, rfl⟩⟩
  | false => exact ⟨rfl, rfl, rfl, rfl, fun hn => absurd hn (by decide)⟩

section
variable {s : State}

/-- The registers of a stable input. -/
def State.inputUp (s : State) : State :=
  { s with seq := { s.seq with
    stable := true, atResume := true, warn := false, belowStrike := false, shdn := false } }

theorem exec_inputStable :
    exec .inputStable s = .next (if s.inputUp.mayRamp then s.inputUp.powerUp else s.inputUp) := rfl

theorem completes_inputStable (hdown : s.seq.state = .down) (haon : s.rst.aon = true)
    (hblocked : s.seq.rampBlocked = false) (hfails : s.seq.rampFails = 0) (hreq : s.rst.request = none) :
    Completes .inputStable s fun t =>
      t.seq.state = .ramp ∧ t.seq.railsEn = 0b1#7 ∧ t.seq.rampNext = 0 ∧ t.seq.stable = true ∧
        (s.seq.started = true → t.rst.level = .sys ∧ t.rst.source = 0x03#5) := by
  have hmay : s.inputUp.mayRamp = true := by
    simp [State.mayRamp, State.inputUp, hdown, haon, hblocked, hfails]
  obtain ⟨hstate, hrails, hnext, hstable, hstarted⟩ := State.powerUp_leaves (s := s.inputUp) hreq
  refine ⟨_, exec_inputStable, ?_⟩
  dsimp only
  rw [if_pos hmay]
  exact ⟨hstate, hrails, hnext, hstable, hstarted⟩

theorem completes_inputStable_other (hstate : s.seq.state ≠ .down) :
    Completes .inputStable s fun t =>
      t.seq.state = s.seq.state ∧ t.seq.stable = true ∧ t.seq.railsEn = s.seq.railsEn := by
  have hmay : s.inputUp.mayRamp = false := by simp [State.mayRamp, State.inputUp, hstate]
  refine ⟨_, exec_inputStable, ?_⟩
  dsimp only
  rw [if_neg (by rw [hmay]; decide)]
  exact ⟨rfl, rfl, rfl⟩

section
variable (hdown : s.seq.state = .down) (haon : s.rst.aon = true) (hstable : s.seq.stable = true)
  (hblocked : s.seq.rampBlocked = false) (hfails : 0 < s.seq.rampFails) (hreq : s.rst.request = none)
include hdown haon hstable hblocked hfails hreq

theorem completes_rampRetry (hdue : s.elapsed s.seq.downAt (sec 1) = true) :
    Completes .rampRetry s fun t => t.seq.state = .ramp ∧ t.seq.railsEn = 0b1#7 := by
  obtain ⟨hstate, hrails, -⟩ := State.powerUp_leaves hreq
  refine ⟨_, rfl, ?_⟩
  dsimp only
  rw [if_neg (by simp [State.mayRamp, hdown, haon, hstable, hblocked, hdue]; omega)]
  exact ⟨hstate, hrails⟩

omit hdown haon hstable hblocked hreq in
theorem completes_rampRetry_early (hdue : s.elapsed s.seq.downAt (sec 1) = false) :
    Completes .rampRetry s fun t => t = s := by
  refine ⟨_, rfl, ?_⟩
  dsimp only
  rw [if_pos]
  refine .inr ?_
  simp [State.mayRamp, hdue]
  omega

end

theorem completes_overVoltage (hdue : s.elapsedOpt s.seq.overAt (hours 1) = true) :
    Completes .overVoltage s fun t =>
      t.seq.overVolt = true ∧ t.fired 1260 .warn ∧ t.seq.state = s.seq.state := by
  refine ⟨_, rfl, ?_⟩
  dsimp only
  rw [if_pos]
  · rw [State.fire_seq, State.fired_fire, if_pos rfl]
    exact ⟨rfl, rfl, rfl⟩
  · exact hdue

theorem completes_overVoltage_noted (hdue : s.elapsedOpt s.seq.overAt (hours 1) = false) :
    Completes .overVoltage s fun t => t.seq.overVolt = true ∧ t.evt = s.evt := by
  refine ⟨_, rfl, ?_⟩
  dsimp only
  rw [if_neg]
  · exact ⟨rfl, rfl⟩
  · exact Bool.eq_false_iff.mp hdue

end

/-! ## The rails (R311, R312, R446) -/

theorem State.beginHoldOff_idle {s : State} (h : s.rst.request = none) : s.beginHoldOff = s := by
  unfold State.beginHoldOff
  rw [h]

/-- Powering the module group changes neither the sequencer's state nor its counts. -/
theorem State.groupOn_seq (s : State) : ∃ mods, s.groupOn.seq = { s.seq with mods := mods } := by
  unfold State.groupOn
  split
  · exact ⟨s.seq.mods, rfl⟩
  · exact ⟨_, rfl⟩

/-- RUN entered without a reset or a shutdown pending (R311). -/
theorem State.enterRun_leaves {s : State} (hreq : s.rst.request = none) (hshdn : s.seq.shdn = false) :
    s.enterRun.seq.state = .run ∧ s.enterRun.seq.rampFails = 0 ∧ s.enterRun.dty.stage = 0x02#8 := by
  unfold State.enterRun
  extract_lets _ u v w
  obtain ⟨mods, hmods⟩ := (u.bootStage 0x02).groupOn_seq
  have hseq : v.seq = { u.seq with mods := mods } := hmods
  have hgroup := (u.bootStage 0x02).groupOn_within
  have hdty : v.dty.stage = 0x02#8 := congrArg Dty.stage (hgroup.same .dty (by decide))
  have hrst : v.rst.request = none := (congrArg Rst.request (hgroup.same .rst (by decide))).trans hreq
  have hw : w = v := if_neg (by rw [hseq]; exact Bool.eq_false_iff.mp hshdn)
  rw [hw, State.beginHoldOff_idle hrst, hseq]
  exact ⟨rfl, rfl, hdty⟩

section
variable {r : Fin 7} {s : State} (hen : bitOf s.seq.railsEn r.val = true)
include hen

section
variable (hin : bitOf s.seq.railIn r.val = true)
include hin

theorem completes_railWarning :
    Completes (.railWarning r) s fun t =>
      bitOf t.seq.railWarn r.val = true ∧ t.fired 1256 .warn ∧ t.seq.state = s.seq.state := by
  refine ⟨_, rfl, ?_⟩
  dsimp only
  rw [if_neg (by simp [Seq.railUp, hen, hin]), (State.fireSub_within _ _ _ _ _).same .seq (by decide),
    State.fired_fireSub, if_pos rfl]
  exact ⟨bitOf_setBit_same _ _ r.isLt, rfl, rfl⟩

/-- The rail's registers once its monitor has seen the fault. -/
def State.railLost (s : State) (r : Nat) : State :=
  { s with seq := { s.seq with
    railFault := setBit s.seq.railFault r true, railIn := setBit s.seq.railIn r false } }

theorem completes_railFault_masked (hstate : s.seq.state = .ramp ∨ s.seq.state = .strike) :
    Completes (.railFault r) s fun t =>
      bitOf t.seq.railFault r.val = true ∧ t.seq.state = s.seq.state ∧ t.evt = s.evt := by
  have hrun : s.seq.state ≠ .run := by rcases hstate with h | h <;> simp [h]
  refine ⟨s.railLost r.val, ?_, bitOf_setBit_same _ _ r.isLt, rfl, rfl⟩
  change execRailFault r s = _
  rw [execRailFault, if_neg (by simp [Seq.railUp, hen, hin])]
  dsimp only
  rw [if_pos hstate, State.shutdown, if_pos]
  · rfl
  · exact hrun

theorem completes_railFault (hrun : s.seq.state = .run) (hreplay : s.glb.replayDone = true)
    (hdump : s.glb.dumping = false) (hjournal : ∀ e, s.media.journal = some e → e.epoch ≠ s.glb.epochCounter) :
    Completes (.railFault r) s fun t =>
      t.seq.state = .dump ∧ t.seq.cause = .railFault ∧ t.seq.epochTaken = s.glb.epochCounter ∧
        bitOf t.seq.railFault r.val = true ∧ t.fired 1257 .fault ∧ t.fired 1261 .fault := by
  have hexec : exec (.railFault r) s = .next
      (((s.railLost r.val).fire 1257 .fault (Detail.ofUnit r.val)).shutdown .railFault) := by
    change execRailFault r s = _
    rw [execRailFault, if_neg (by simp [Seq.railUp, hen, hin])]
    dsimp only
    rw [if_neg]
    · rfl
    · simp [hrun]
  refine ⟨_, hexec, ?_⟩
  generalize hu : (s.railLost r.val).fire 1257 .fault (Detail.ofUnit r.val) = u
  have huseq : u.seq = (s.railLost r.val).seq := by rw [← hu, State.fire_seq]
  have huglb : u.glb = s.glb := by rw [← hu, State.fire_glb]; rfl
  have humedia : u.media = s.media := by rw [← hu, State.fire_media]; rfl
  have hufired : u.fired 1257 .fault := by rw [← hu, State.fired_fire, if_pos rfl]
  obtain ⟨hseq, -, -, -, hfired, hkept⟩ := State.shutdown_dumps (s := u) .railFault (by rw [huseq]; exact hrun)
    (by rw [huglb, hreplay]) (by rw [huglb, hdump]) (by rw [humedia, huglb]; exact hjournal)
  rw [hseq, huseq, huglb]
  exact ⟨rfl, rfl, rfl, bitOf_setBit_same _ _ r.isLt, (hkept 1257 .fault (by decide) (by decide)).mpr hufired, hfired⟩

end

section
variable (hramp : s.seq.state = .ramp)
include hramp

section
variable (hnext : s.seq.rampNext = r.val)
include hnext

theorem completes_railInWindow (hlt : r.val < 6) :
    Completes (.railInWindow r) s fun t =>
      t.seq.state = .ramp ∧ bitOf t.seq.railIn r.val = true ∧ bitOf t.seq.railsEn (r.val + 1) = true ∧
        t.seq.rampNext = r.val + 1 := by
  refine ⟨_, rfl, ?_⟩
  dsimp only
  rw [if_neg (by simp [hramp, hnext, hen]), if_neg (by omega)]
  exact ⟨hramp, bitOf_setBit_same _ _ r.isLt, bitOf_setBit_same _ _ (by omega), rfl⟩

theorem completes_railInWindow_last (hlast : r.val = 6) (hreq : s.rst.request = none) (hshdn : s.seq.shdn = false) :
    Completes (.railInWindow r) s fun t =>
      t.seq.state = .run ∧ t.seq.rampFails = 0 ∧ t.dty.stage = 0x02#8 := by
  refine ⟨_, rfl, ?_⟩
  dsimp only
  rw [if_neg (by simp [hramp, hnext, hen]), if_pos hlast]
  exact State.enterRun_leaves hreq hshdn

end

theorem completes_rampRailFail (us : Nat) :
    Completes (.rampRailFail r us) s fun t =>
      t.seq.state = .down ∧ t.seq.railsEn = 0#7 ∧ t.seq.rampFails = s.seq.rampFails + 1 ∧
        (2 ≤ s.seq.rampFails → t.seq.rampBlocked = true) ∧ t.dty.evValid = true ∧
        (s.dty.evValid = false → t.dty.evPhase = 0b001#3 ∧ t.dty.evRail = BitVec.ofNat 4 r.val ∧
          t.dty.evTime = BitVec.ofNat 16 (min 0xFFFF us)) := by
  have hseq : (s.powerEvent 1 r.val 0x1F us).seq = s.seq := by
    unfold State.powerEvent
    split <;> rfl
  have hdty : (s.powerEvent 1 r.val 0x1F us).dty.evValid = true ∧ (s.dty.evValid = false →
      (s.powerEvent 1 r.val 0x1F us).dty.evPhase = 0b001#3 ∧
      (s.powerEvent 1 r.val 0x1F us).dty.evRail = BitVec.ofNat 4 r.val ∧
      (s.powerEvent 1 r.val 0x1F us).dty.evTime = BitVec.ofNat 16 (min 0xFFFF us)) := by
    unfold State.powerEvent
    split
    next h => exact ⟨h, fun hn => absurd h (by rw [hn]; decide)⟩
    · exact ⟨rfl, fun _ => ⟨rfl, rfl, rfl⟩⟩
  refine ⟨_, rfl, ?_⟩
  dsimp only
  rw [if_neg (by simp [hramp, hen])]
  generalize s.powerEvent 1 r.val 0x1F us = u at *
  rw [hseq]
  refine ⟨rfl, rfl, rfl, fun h => ?_, hdty.1, hdty.2⟩
  change (s.seq.rampBlocked || decide (2 ≤ s.seq.rampFails)) = true
  simp [h]

end

end

/-! ## The causes of a shutdown (R314, R315, R322, R324) -/

/-- The registers of a power-fail warning. -/
def State.warned (s : State) : State :=
  { s with
    seq := { s.seq with warn := true, stable := false, atResume := false, overVolt := false }
    tel := { s.tel with inputHighAt := none } }

section
variable {s : State}

theorem exec_powerFailWarning :
    exec .powerFailWarning s = .next (match s.warned.seq.state with
      | .run => s.warned.shutdown .warning
      | .ramp => s.warned.enterDown.railsOff
      | .resume => s.warned.warnInResume
      | .down => { s.warned with seq := { s.warned.seq with rampFails := 0, rampBlocked := false } }
      | _ => s.warned) := by
  change execPowerFailWarning s = _
  unfold execPowerFailWarning
  rfl

section
variable (hrun : s.seq.state = .run) (hreplay : s.glb.replayDone = true) (hdump : s.glb.dumping = false)
  (hjournal : ∀ e, s.media.journal = some e → e.epoch ≠ s.glb.epochCounter)
include hrun hreplay hdump hjournal

omit hrun in
/-- A cause that leaves the clock, the global state and the media, with the sequencer still in RUN, starts the dump. -/
theorem State.shutdown_begins {u : State} {c : Cause} (hclock : u.clock = s.clock) (hglb : u.glb = s.glb)
    (hmedia : u.media = s.media) (hstate : u.seq.state = .run) :
    (u.shutdown c).seq.state = .dump ∧ (u.shutdown c).seq.cause = c ∧ (u.shutdown c).seq.shutAt = s.clock ∧
      (u.shutdown c).glb.admitOpen = false ∧ (u.shutdown c).glb.dumping = true ∧
      (u.shutdown c).seq.epochTaken = s.glb.epochCounter ∧
      (u.shutdown c).glb.epochCounter = satAdd 0xFFFFFFFF s.glb.epochCounter 1 ∧
      (u.shutdown c).fired 1261 c.severity := by
  obtain ⟨hseq, hadmit, hdumping, hepoch, hfired, -⟩ := State.shutdown_dumps (s := u) c hstate
    (by rw [hglb, hreplay]) (by rw [hglb, hdump]) (by rw [hmedia, hglb]; exact hjournal)
  rw [hseq, hclock, hglb]
  exact ⟨rfl, rfl, rfl, hadmit, hdumping, rfl, by rw [hepoch, hglb], hfired⟩

theorem completes_shutdownCause :
    ∀ q ∈ [(Instr.powerFailWarning, Cause.warning, Severity.warn), (.shutdownRequest, .shdn, .note),
        (.overTemperature 0 115, .overTemp, .critical)],
      Completes q.1 s fun t =>
        t.seq.state = .dump ∧ t.seq.cause = q.2.1 ∧ t.seq.shutAt = s.clock ∧ t.glb.admitOpen = false ∧
          t.glb.dumping = true ∧ t.seq.epochTaken = s.glb.epochCounter ∧
          t.glb.epochCounter = satAdd 0xFFFFFFFF s.glb.epochCounter 1 ∧ t.fired 1261 q.2.2 := by
  simp only [List.forall_mem_cons]
  refine ⟨⟨s.warned.shutdown .warning, ?_, State.shutdown_begins hreplay hdump hjournal rfl rfl rfl hrun⟩,
    ⟨_, rfl, State.shutdown_begins hreplay hdump hjournal rfl rfl rfl hrun⟩,
    ⟨(s.fire 1011 .critical ⟨0, 0, 1, 115⟩).shutdown .overTemp, ?_, State.shutdown_begins hreplay hdump hjournal
      (s.fire_clock _ _ _) (s.fire_glb _ _ _) (s.fire_media _ _ _) (by rw [State.fire_seq, hrun])⟩,
    fun q hq => absurd hq List.not_mem_nil⟩
  · rw [exec_powerFailWarning]
    have hwarned : s.warned.seq.state = .run := hrun
    rw [hwarned]
  · change execOverTemperature 0 115 s = _
    rw [execOverTemperature, if_neg (by simp [hrun])]
    rfl

end

theorem completes_powerFailWarning_unreplayed (hrun : s.seq.state = .run) (hreplay : s.glb.replayDone = false) :
    Completes .powerFailWarning s fun t =>
      t.seq.state = .strike ∧ t.seq.cause = .warnBeforeReplay ∧ t.media = s.media ∧
        t.glb.epochCounter = s.glb.epochCounter ∧ t.seq.brdRst = true ∧ t.fired 1261 .warn := by
  have hwarned : s.warned.seq.state = .run := hrun
  have hunreplayed : s.warned.holdupAbort.glb.replayDone = false := hreplay
  refine ⟨_, exec_powerFailWarning, ?_⟩
  dsimp only
  rw [hwarned]
  dsimp only
  rw [State.shutdown, if_neg (by simp [hwarned])]
  dsimp only
  rw [if_pos (.inl rfl : Cause.warning = .warning ∨ Cause.warning = .shdn), if_pos (by rw [hunreplayed]; rfl),
    State.fire_seq, State.fire_media, State.fire_glb,
    State.fired_fire, if_pos rfl]
  exact ⟨rfl, rfl, rfl, rfl, rfl, rfl⟩

theorem completes_powerFailWarning_ramp (hramp : s.seq.state = .ramp) :
    Completes .powerFailWarning s fun t =>
      t.seq.state = .down ∧ t.seq.railsEn = 0#7 ∧ t.mst.running = false := by
  have hwarned : s.warned.seq.state = .ramp := hramp
  refine ⟨_, exec_powerFailWarning, ?_⟩
  dsimp only
  rw [hwarned]
  exact ⟨rfl, rfl, rfl⟩

theorem completes_powerFailWarning_down (hdown : s.seq.state = .down) :
    Completes .powerFailWarning s fun t =>
      t.seq.rampFails = 0 ∧ t.seq.rampBlocked = false ∧ t.seq.state = .down := by
  have hwarned : s.warned.seq.state = .down := hdown
  refine ⟨_, exec_powerFailWarning, ?_⟩
  dsimp only
  rw [hwarned]
  exact ⟨rfl, rfl, rfl⟩

theorem completes_powerFailWarning_resume (hresume : s.seq.state = .resume) :
    Completes .powerFailWarning s fun t =>
      t.seq.state = .dump ∧ t.seq.cause = .warning ∧ t.glb.dumping = true ∧
        t.seq.epochTaken = s.glb.epochCounter := by
  have hwarned : s.warned.seq.state = .resume := hresume
  refine ⟨_, exec_powerFailWarning, ?_⟩
  dsimp only
  rw [hwarned]
  dsimp only
  unfold State.warnInResume
  extract_lets _ _ u
  obtain ⟨hglb, hseq, -⟩ := State.dumpStart_leaves (s := u) rfl
  rw [hseq]
  exact ⟨rfl, rfl, congrArg Glb.dumping hglb, rfl⟩

theorem completes_overTemperature_ignored {sensor : Fin 16} {temp : Nat} (h : temp < 115 ∨ s.seq.state ≠ .run) :
    Completes (.overTemperature sensor temp) s fun t => t = s := by
  refine ⟨_, rfl, ?_⟩
  rw [if_pos h]

end

/-- Settles O41: the input, the rails and the causes of a shutdown as the states of the sequencer meet them. -/
theorem inputAndRailsDriveTheSequencer : Obligations.InputAndRailsDriveTheSequencer := by
  unfold Obligations.InputAndRailsDriveTheSequencer
  refine ⟨fun s => ⟨completes_inputStable, completes_inputStable_other, fun hdown haon hstable hblocked hfails hreq =>
      ⟨completes_rampRetry hdown haon hstable hblocked hfails hreq, completes_rampRetry_early hfails⟩,
      completes_overVoltage, completes_overVoltage_noted⟩,
    fun r s hen => ⟨fun hin => ⟨completes_railWarning hen hin, completes_railFault_masked hen hin⟩, fun hramp =>
      ⟨fun hnext => ⟨completes_railInWindow hen hramp hnext, completes_railInWindow_last hen hramp hnext⟩,
        completes_rampRailFail hen hramp⟩⟩,
    fun s => completes_shutdownCause, fun r s hrun hreplay hdump hen hin => completes_railFault hen hin hrun hreplay hdump,
    fun s => ⟨completes_powerFailWarning_unreplayed, completes_powerFailWarning_ramp, completes_powerFailWarning_down,
      completes_powerFailWarning_resume, fun sensor temp => completes_overTemperature_ignored⟩⟩

end Sys2Proof.Machine


/-! SUPPORT. The strike point, the resume before it, and the power-down (O42). -/

namespace Sys2Proof.Machine

open Sys2Proof

/-! ## The strike point and the resume (R315, R316, R319) -/

section
variable {below : Bool} {pages : Nat} {s : State}

/-- The strike point's comparator taken into SEQ. -/
def State.struck (s : State) (below : Bool) : State :=
  { s with seq := { s.seq with belowStrike := s.seq.belowStrike || below } }

theorem exec_strikePoint (hstate : s.seq.state = .dump ∨ s.seq.state = .hold) :
    exec (.strikePoint below pages) s =
      .next (if s.strikeReached below then ((s.struck below).dumpStops pages).enterStrike else s.struck below) := by
  change Host.Outcome.next (if _ then _ else _) = _
  rw [if_neg fun h => hstate.elim h.1 h.2]
  rfl

/-- A dump that stops leaves media as it stands, or the partial epoch where it was not sealed (R315). -/
theorem State.dumpStops_leaves :
    (s.dumpStops pages).seq = s.seq ∧
      (s.dumpSealed = true → (s.dumpStops pages).media = s.media) ∧
      (s.glb.dumping = true → s.dumpSealed = false → pages ≠ 0 →
        ∃ e, (s.dumpStops pages).media.journal = some e ∧ e.epoch = s.seq.epochTaken ∧ e.sealed = false ∧
          e.abandoned = false) := by
  unfold State.dumpStops
  split
  next h => exact ⟨rfl, fun _ => rfl, fun hd hs hp => by simp [hd, hs, hp] at h⟩
  next h => exact ⟨rfl, fun hs => by simp [hs] at h, fun _ _ _ => ⟨_, rfl, rfl, rfl, rfl⟩⟩

theorem completes_strikePoint (hstate : s.seq.state = .dump ∨ s.seq.state = .hold)
    (h : s.strikeReached below = true) :
    Completes (.strikePoint below pages) s fun t =>
      t.seq.state = .strike ∧ t.seq.brdRst = true ∧ t.glb.admitOpen = false ∧
        t.seq.cause = s.seq.cause ∧
        (s.dumpSealed = true → t.media = s.media) ∧
        (s.glb.dumping = true → s.dumpSealed = false → pages ≠ 0 →
          ∃ e, t.media.journal = some e ∧ e.epoch = s.seq.epochTaken ∧ e.sealed = false ∧
            e.abandoned = false) := by
  obtain ⟨hseq, hmedia, hepoch⟩ := State.dumpStops_leaves (s := s.struck below) (pages := pages)
  refine ⟨_, exec_strikePoint hstate, ?_⟩
  dsimp only
  rw [if_pos h]
  exact ⟨rfl, rfl, rfl, (congrArg Seq.cause hseq :), hmedia, hepoch⟩

theorem completes_strikePoint_early (hstate : s.seq.state = .dump ∨ s.seq.state = .hold)
    (h : s.strikeReached below = false) :
    Completes (.strikePoint below pages) s fun t => t.seq.state = s.seq.state ∧ t.media = s.media := by
  refine ⟨_, exec_strikePoint hstate, ?_⟩
  dsimp only
  rw [if_neg (by simp [h])]
  exact ⟨rfl, rfl⟩

theorem completes_resumeQualified (hstate : s.seq.state = .dump ∨ s.seq.state = .hold)
    (hcause : s.seq.cause = .warning) (hepoch : s.seq.epochTaken ≠ 0xFFFFFFFF) (h : s.strikeReached false = false) :
    Completes .resumeQualified s fun t =>
      t.seq.state = .resume ∧ t.cache = s.cache ∧ t.mst = s.mst ∧ t.port0 = s.port0 ∧ t.port1 = s.port1 := by
  refine ⟨_, rfl, ?_⟩
  dsimp only
  rw [if_neg]
  · exact ⟨rfl, rfl, rfl, rfl, rfl⟩
  · rintro (⟨hdump, hhold⟩ | hc | he | hr)
    · exact hstate.elim hdump hhold
    · exact hc hcause
    · exact hepoch he
    · simp [h] at hr

theorem completes_resumeQualified_not
    (h : s.seq.cause ≠ .warning ∨ s.seq.epochTaken = 0xFFFFFFFF ∨ s.strikeReached false = true ∨
      (s.seq.state ≠ .dump ∧ s.seq.state ≠ .hold)) :
    Completes .resumeQualified s fun t => t = s := by
  refine ⟨_, rfl, ?_⟩
  dsimp only
  rw [if_pos (by tauto)]

end

/-! ## The end of a resume (R115, R320) -/

section
variable {s : State}

/-- The ABANDON epoch on media and SEQ in RUN. -/
def State.abandoned (s : State) : State :=
  { s with
    media := { s.media with journal := some ⟨s.seq.epochTaken, [], [], false, true, 0⟩ }
    seq := { s.seq with state := .run, dumpDoneAt := none } }

/-- Reopening ends the dump and opens admission, and leaves the rest of the global state but the reserved units. -/
theorem State.reopen_butReserved :
    s.reopen.glb.butReserved =
      { s.glb.butReserved with dumping := false, dumpInflight := [], admitOpen := true } := by
  unfold State.reopen
  dsimp only
  rw [requestKeeps_butReserved.pumpAll,
    foldl_keeps (fun u : State => u.glb) (f := fun (u : State) id => u.reformSet id)
      fun u id => (u.reformSet_within id).glb_eq (by decide) (by decide)]
  rfl

/-- Admission open again and the resume recorded (R115). -/
def State.resumed (s : State) : State :=
  s.abandoned.reopen.fire 1261 .warn
    { Detail.none with addr := s.abandoned.seq.epochTaken, code := 0x10, value := s.abandoned.outOfRun }

theorem exec_abandonConfirmed (hstate : s.seq.state = .resume) (hquiet : s.diesQuiet = true) :
    exec .abandonConfirmed s =
      .next (if s.resumed.seq.shdn then s.resumed.shutdown .shdn else s.resumed).beginHoldOff := by
  change Host.Outcome.next (if _ then _ else _) = _
  rw [if_neg (by simp [hstate, hquiet])]
  rfl

theorem completes_abandonConfirmed (hstate : s.seq.state = .resume) (hquiet : s.diesQuiet = true)
    (hshdn : s.seq.shdn = false) (hreq : s.rst.request = none) :
    Completes .abandonConfirmed s fun t =>
      t.seq.state = .run ∧ t.glb.dumping = false ∧ t.glb.admitOpen = true ∧ t.fired 1261 .warn ∧
        ∃ e, t.media.journal = some e ∧ e.epoch = s.seq.epochTaken ∧ e.abandoned = true := by
  have hopen := s.abandoned.reopen_within
  have hseq : s.abandoned.reopen.seq = s.abandoned.seq := hopen.same .seq (by decide)
  have hmedia : s.abandoned.reopen.media = s.abandoned.media := hopen.same .media (by decide)
  have hrst : s.abandoned.reopen.rst = s.rst := hopen.same .rst (by decide)
  have hglb := State.reopen_butReserved (s := s.abandoned)
  have hdumping : s.abandoned.reopen.glb.dumping = false := congrArg Glb.dumping hglb
  have hadmit : s.abandoned.reopen.glb.admitOpen = true := congrArg Glb.admitOpen hglb
  refine ⟨_, exec_abandonConfirmed hstate hquiet, ?_⟩
  dsimp only
  rw [if_neg (by rw [State.resumed, State.fire_seq, hseq]; simp [State.abandoned, hshdn]),
    State.beginHoldOff_idle (by rw [State.resumed, State.fire_rst, hrst, hreq]), State.resumed, State.fire_seq, State.fire_glb,
    State.fire_media, hseq,
    hmedia]
  exact ⟨rfl, hdumping, hadmit, (State.fired_fire _ _ _ _ _ _).mpr (by rw [if_pos rfl]), _, rfl, rfl, rfl⟩

theorem completes_abandonConfirmed_early (hquiet : s.diesQuiet = false) :
    Completes .abandonConfirmed s fun t => t = s := by
  refine ⟨_, rfl, ?_⟩
  dsimp only
  rw [if_pos (by simp [hquiet])]

end

/-! ## The rails off (R321, R323) -/

section
variable {s : State}

theorem State.softOff_rails : s.softOff.seq.railsEn = s.seq.railsEn := by
  unfold State.softOff
  split <;> rfl

theorem State.softOff_topRail : s.softOff.seq.topRail = s.seq.topRail := by
  unfold Seq.topRail
  rw [State.softOff_rails]

/-- The modules' rails go off with the bus (R321). -/
theorem State.softOff_railsOn (h : s.seq.busFailed = false) (k : Nat) : (s.softOff.slot k).railsOn = false := by
  unfold State.softOff
  rw [if_neg (by simp [h])]
  unfold State.slot State.railsOff Sparse.get
  dsimp only
  rw [Sparse.find_mapVals]
  cases Sparse.find s.seq.mods k <;> rfl

theorem State.softOff_leaves :
    s.softOff.seq.state = s.seq.state ∧ s.softOff.clock = s.clock ∧ s.softOff.dbg = s.dbg := by
  unfold State.softOff
  split <;> exact ⟨rfl, rfl, rfl⟩

theorem completes_railDisableStep_held (h : s.allModReset = false) :
    Completes .railDisableStep s fun t => t = s := by
  refine ⟨_, rfl, ?_⟩
  dsimp only
  rw [if_pos (by simp [h])]

section
variable (hstate : s.seq.state = .strike) (h : s.allModReset = true)
include hstate h

/-- The topmost rail of `u` off. -/
def State.railDown (u : State) (r : Nat) : State :=
  { u with seq := { u.seq with
    railsEn := setBit u.seq.railsEn r false, railIn := setBit u.seq.railIn r false } }

theorem exec_railDisableStep {r : Nat} (htop : s.seq.topRail = some r) :
    exec .railDisableStep s =
      .next (if setBit s.seq.railsEn r false = 0#7 then (s.softOff.railDown r).enterDown else s.softOff.railDown r) := by
  change Host.Outcome.next (if _ then _ else _) = _
  rw [if_neg (by simp [hstate, h])]
  dsimp only
  rw [State.softOff_topRail, htop, State.softOff_rails]
  dsimp only
  rw [← State.softOff_rails]
  rfl

theorem completes_railDisableStep_next {r : Nat} (htop : s.seq.topRail = some r)
    (hleft : setBit s.seq.railsEn r false ≠ 0#7) :
    Completes .railDisableStep s fun t =>
      t.seq.state = .strike ∧ t.seq.railsEn = setBit s.seq.railsEn r false := by
  obtain ⟨hsoft, -⟩ := State.softOff_leaves (s := s)
  refine ⟨_, exec_railDisableStep hstate h htop, ?_⟩
  dsimp only
  rw [if_neg hleft]
  exact ⟨hsoft.trans hstate, congrArg (fun en => setBit en r false) State.softOff_rails⟩

theorem completes_railDisableStep_last {r : Nat} (htop : s.seq.topRail = some r)
    (hleft : setBit s.seq.railsEn r false = 0#7) :
    Completes .railDisableStep s fun t =>
      t.seq.state = .down ∧ t.seq.railsEn = 0#7 ∧ t.seq.downAt = s.clock ∧
        t.glb.memoryActive = false ∧ t.mst.running = false ∧ t.dbg.granted = false ∧
        (s.dbg.granted = true → t.dty.dbgOwed = true) := by
  obtain ⟨-, hclock, hdbg⟩ := State.softOff_leaves (s := s)
  refine ⟨_, exec_railDisableStep hstate h htop, ?_⟩
  dsimp only
  rw [if_pos hleft]
  exact ⟨rfl, rfl, hclock, rfl, rfl, rfl, fun hg => by simp [State.enterDown, State.railDown, hdbg, hg]⟩

theorem completes_railDisableStep_modules (hbus : s.seq.busFailed = false) (htop : s.seq.topRail = none) :
    Completes .railDisableStep s fun t => t.seq.state = .down ∧ ∀ k < 18, (t.slot k).railsOn = false := by
  have hexec : exec .railDisableStep s = .next s.softOff.enterDown := by
    change Host.Outcome.next (if _ then _ else _) = _
    rw [if_neg (by simp [hstate, h])]
    dsimp only
    rw [State.softOff_topRail, htop]
  exact ⟨_, hexec, rfl, fun k _ => State.softOff_railsOn hbus k⟩

end

/-! ## A rail that fails while power goes (R323) -/

section
variable (hstate : s.seq.state = .strike) (hevent : s.dty.evValid = false) (us : Nat)
include hstate hevent

theorem completes_powerdownRailFail_device {r : Fin 7} (hen : bitOf s.seq.railsEn r.val = true)
    (hin : bitOf s.seq.railIn r.val = true) :
    Completes (.powerdownRailFail (.device r) us) s fun t =>
      t.seq.railsEn = 0#7 ∧ t.dty.evValid = true ∧ t.dty.evPhase = 0b010#3 ∧
        t.dty.evRail = BitVec.ofNat 4 r.val ∧ t.dty.evSlot = 0x1F#5 := by
  refine ⟨_, rfl, ?_⟩
  dsimp only
  rw [if_neg (by simp [hstate]), if_neg (by simp [Seq.railUp, hen, hin]), State.powerEvent, if_neg (by simp [hevent])]
  exact ⟨rfl, rfl, rfl, rfl, rfl⟩

theorem completes_powerdownRailFail_module {k : Slot} (hon : (s.slot k.val).railsOn = true) :
    Completes (.powerdownRailFail (.module k) us) s fun t =>
      t.seq.railsEn = 0#7 ∧ (t.slot k.val).railsOn = false ∧ t.dty.evValid = true ∧
        t.dty.evRail = 0x8#4 ∧ t.dty.evSlot = BitVec.ofNat 5 k.val := by
  have hoff := congrArg ModState.railsOn
    (State.slot_modSlot s k.val fun x => { x with railsOn := false, powerGood := false })
  refine ⟨_, rfl, ?_⟩
  dsimp only
  rw [if_neg (by simp [hstate]), if_neg (by simp [hon]), State.powerEvent, if_neg (by simp [State.modSlot, hevent])]
  exact ⟨rfl, hoff, rfl, rfl, rfl⟩

end

/-! ## The end of a reset output's stretch (R328) -/

section
variable (hrun : s.seq.state = .run)
include hrun

theorem completes_resetStretchEnd_board : Completes (.resetStretchEnd .board) s fun t => t.seq.brdRst = false := by
  refine ⟨_, rfl, ?_⟩
  dsimp only
  rw [if_neg (by simp [hrun])]

theorem completes_resetStretchEnd_module {k : Slot} (hstate : (s.slot k.val).state = .powering)
    (hgood : (s.slot k.val).powerGood = true) (hdp : s.rst.datapath = true) :
    Completes (.resetStretchEnd (.module k)) s fun t =>
      (t.slot k.val).state = .training ∧ (t.slot k.val).rst = false := by
  refine ⟨_, rfl, ?_⟩
  dsimp only
  rw [if_neg (by simp [hrun]), if_pos ⟨hstate, hgood, hdp⟩, State.slot_modSlot]
  exact ⟨rfl, rfl⟩

theorem completes_resetStretchEnd_unpowered {k : Slot} (hgood : (s.slot k.val).powerGood = false) :
    Completes (.resetStretchEnd (.module k)) s fun t => t = s := by
  refine ⟨_, rfl, ?_⟩
  dsimp only
  rw [if_neg (by simp [hrun]), if_neg (by simp [hgood])]

end
end

/-- Settles O42: `shutdown` stops at the strike point, resumes before it through the ABANDON epoch, or takes the rails
down one after the other. -/
theorem shutdownsRunToStrikeOrResume : Obligations.ShutdownsRunToStrikeOrResume := by
  unfold Obligations.ShutdownsRunToStrikeOrResume
  exact ⟨fun below pages s hstate => ⟨completes_strikePoint hstate, completes_strikePoint_early hstate⟩,
    fun s => ⟨completes_resumeQualified, completes_resumeQualified_not, completes_abandonConfirmed,
      fun _ => completes_abandonConfirmed_early⟩,
    fun s hstate => ⟨completes_railDisableStep_held, fun h =>
      ⟨fun r htop => ⟨completes_railDisableStep_next hstate h htop, completes_railDisableStep_last hstate h htop⟩,
        completes_railDisableStep_modules hstate h⟩⟩,
    fun us s hstate hevent => ⟨fun r => completes_powerdownRailFail_device hstate hevent us,
      fun k => completes_powerdownRailFail_module hstate hevent us⟩,
    fun s hrun => ⟨completes_resetStretchEnd_board hrun, fun k =>
      ⟨completes_resetStretchEnd_module hrun, completes_resetStretchEnd_unpowered hrun⟩⟩⟩

end Sys2Proof.Machine


/-! SUPPORT. Errors of the sequencer bus (O43). -/

namespace Sys2Proof.Machine

open Sys2Proof

/-! ## A failed transaction (R327, Table PWR-7) -/

/-- A failed transaction counted, and its slot's retries. -/
def State.busCounted (s : State) (k n : Nat) : State :=
  State.modSlot { s with seq := { s.seq with busErrors := satAdd 0x1FFF s.seq.busErrors 1 } } k
    fun x => { x with retries := n }

theorem State.slot_busCounted (s : State) (k n : Nat) : (s.busCounted k n).slot k = { s.slot k with retries := n } :=
  State.slot_modSlot _ _ _

/-- The marks of the last 100 ms, before the one made now. -/
def State.recentMarks (s : State) : List Nat := s.seq.unrespTimes.filter fun t => decide (s.clock < t + ms 100)

/-- The slot marked and the mark recorded. -/
def State.busMarked (s : State) (k : Nat) : State :=
  State.fire { s with seq := { s.seq with
    unresponsive := setBit s.seq.unresponsive k true, unrespTimes := s.clock :: s.recentMarks } }
    1258 .fault (Detail.ofUnit k)

/-- What follows the `n`-th transaction that failed. -/
def State.busTally (s : State) (k n : Nat) : State :=
  if n < 4 ∨ bitOf s.seq.unresponsive k then s
  else if 3 ≤ s.recentMarks.length + 1 then ((s.busMarked k).endRetire k .moduleState).busFails
  else (s.busMarked k).endRetire k .moduleState

theorem State.busError_eq (s : State) (k : Nat) :
    s.busError k =
      (s.busCounted k (if (s.slot k).retries + 1 < 4 then (s.slot k).retries + 1 else 0)).busTally k
        ((s.slot k).retries + 1) := rfl

theorem State.busError_retried {s : State} {k : Nat} (h : (s.slot k).retries < 3) :
    s.busError k = s.busCounted k ((s.slot k).retries + 1) := by
  have hlt : (s.slot k).retries + 1 < 4 := by omega
  rw [State.busError_eq, if_pos hlt, State.busTally, if_pos (Or.inl hlt)]

theorem State.busError_marked {s : State} {k : Nat} (h : (s.slot k).retries = 3)
    (hmark : bitOf s.seq.unresponsive k = false) :
    s.busError k = if 3 ≤ s.recentMarks.length + 1 then (((s.busCounted k 0).busMarked k).endRetire k .moduleState).busFails
      else ((s.busCounted k 0).busMarked k).endRetire k .moduleState := by
  have hcounted : bitOf (s.busCounted k 0).seq.unresponsive k = false := hmark
  rw [State.busError_eq, h, if_neg (by decide), State.busTally, if_neg (by simp [hcounted])]
  rfl

theorem State.busFails_leaves {s : State} (h : s.seq.busFailed = false) :
    s.busFails.seq = { s.seq with busFailed := true } ∧ s.busFails.fired 1259 .fault ∧
      ∀ i v, i ≠ 1259 → i ≠ 1008 → (s.busFails.fired i v ↔ s.fired i v) := by
  unfold State.busFails
  rw [if_neg (by simp [h]), State.settleLevel_seq, State.fire_seq]
  refine ⟨rfl, ?_, fun i v hi hlevel => ?_⟩
  · rw [State.fired_settleLevel _ _ _ (by decide), State.fired_fire, if_pos rfl]
  · rw [State.fired_settleLevel _ _ _ hlevel, State.fired_fire, if_neg hi]
    rfl

theorem State.endRetire_bus (s : State) (k : Nat) (v : Vendor) :
    (s.endRetire k v).seq.unresponsive = s.seq.unresponsive ∧
      (s.endRetire k v).seq.busFailed = s.seq.busFailed := by
  unfold State.endRetire
  extract_lets x u w
  have hu : u.seq = s.seq := by
    unfold u
    split
    · exact s.seq_completeBg _ _ _ _
    · rfl
  have hw : w.seq = s.seq := by
    unfold w
    split
    · exact (u.seq_completeBg _ _ _ _).trans hu
    · exact hu
  exact ⟨(congrArg Seq.unresponsive hw :), (congrArg Seq.busFailed hw :)⟩

theorem State.busMarked_leaves (s : State) (k : Slot) :
    (s.busMarked k.val).slot k.val = s.slot k.val ∧ bitOf (s.busMarked k.val).seq.unresponsive k.val = true ∧
      (s.busMarked k.val).fired 1258 .fault ∧ (s.busMarked k.val).seq.busFailed = s.seq.busFailed := by
  unfold State.busMarked
  rw [State.slot_fire, State.fire_seq, State.fired_fire, if_pos rfl]
  exact ⟨rfl, bitOf_setBit_same _ _ k.isLt, rfl, rfl⟩

section
variable {k : Slot} {s : State} (hbus : s.seq.busFailed = false)
include hbus

section
variable (hretries : (s.slot k.val).retries = 0) (why : BusErr)
include hretries

theorem exec_busTransactionError (low : Bool) :
    exec (.busTransactionError k why low) s =
      .next (if low then (s.busCounted k.val 1).busFails else s.busCounted k.val 1) := by
  change Host.Outcome.next (if _ then _ else _) = _
  rw [if_neg (by simp [hbus, hretries]), State.busError_retried (by omega), hretries]

theorem completes_busTransactionError :
    Completes (.busTransactionError k why false) s fun t =>
      t.seq.busErrors = satAdd 0x1FFF s.seq.busErrors 1 ∧ (t.slot k.val).retries = 1 ∧
        t.seq.unresponsive = s.seq.unresponsive ∧ (t.slot k.val).state = (s.slot k.val).state := by
  refine ⟨_, exec_busTransactionError hbus hretries why false, ?_⟩
  dsimp only
  rw [if_neg (by decide), State.slot_busCounted]
  exact ⟨rfl, rfl, rfl, rfl⟩

theorem completes_busTransactionError_stuck :
    Completes (.busTransactionError k why true) s fun t => t.seq.busFailed = true ∧ t.fired 1259 .fault := by
  obtain ⟨hseq, hfired, -⟩ := State.busFails_leaves (s := s.busCounted k.val 1) hbus
  exact ⟨_, exec_busTransactionError hbus hretries why true, congrArg Seq.busFailed hseq, hfired⟩

end

/-! ## The retries -/

section
variable (hretries : 0 < (s.slot k.val).retries)
include hretries

theorem completes_busRetry_answered :
    Completes (.busRetry k true) s fun t => (t.slot k.val).retries = 0 ∧ t.seq.busErrors = s.seq.busErrors := by
  refine ⟨_, rfl, ?_⟩
  dsimp only
  rw [if_neg (by simp [hbus]; omega), if_pos rfl, State.slot_modSlot]
  exact ⟨rfl, rfl⟩

theorem exec_busRetry_failed : exec (.busRetry k false) s = .next (s.busError k.val) := by
  change Host.Outcome.next (if _ then _ else _) = _
  rw [if_neg (by simp [hbus]; omega), if_neg (by decide)]

theorem completes_busRetry_failed (hmore : (s.slot k.val).retries < 3) :
    Completes (.busRetry k false) s fun t =>
      (t.slot k.val).retries = (s.slot k.val).retries + 1 ∧
        t.seq.busErrors = satAdd 0x1FFF s.seq.busErrors 1 ∧ t.seq.unresponsive = s.seq.unresponsive := by
  refine ⟨_, exec_busRetry_failed hbus hretries, ?_⟩
  dsimp only
  rw [State.busError_retried hmore, State.slot_busCounted]
  exact ⟨rfl, rfl, rfl⟩

end

theorem completes_busRetry_marked (hretries : (s.slot k.val).retries = 3)
    (hmark : bitOf s.seq.unresponsive k.val = false) :
    Completes (.busRetry k false) s fun t =>
      bitOf t.seq.unresponsive k.val = true ∧ t.fired 1258 .fault ∧
        (t.slot k.val).state = (s.slot k.val).state ∧ (t.slot k.val).retireMbox = none ∧
        (t.slot k.val).admitMbox = none ∧
        (t.seq.busFailed = true ↔
          2 ≤ (s.seq.unrespTimes.filter fun x => decide (s.clock < x + ms 100)).length) := by
  obtain ⟨hslot, hmarked, hfired, hfails⟩ := State.busMarked_leaves (s.busCounted k.val 0) k
  refine ⟨_, exec_busRetry_failed hbus (by omega), ?_⟩
  dsimp only
  rw [State.busError_marked hretries hmark]
  generalize (s.busCounted k.val 0).busMarked k.val = u at *
  have hslot' : (u.endRetire k.val .moduleState).slot k.val =
      { s.slot k.val with retries := 0, retireMbox := none, admitMbox := none } := by
    rw [State.slot_endRetire, hslot, State.slot_busCounted]
  obtain ⟨hmark', hfails'⟩ := u.endRetire_bus k.val .moduleState
  have hfired' : (u.endRetire k.val .moduleState).fired 1258 .fault :=
    (State.fired_of_evt ((u.endRetire_within k.val .moduleState).same .evt (by decide)) _ _).mpr hfired
  rw [← hmark'] at hmarked
  have hbus' : (u.endRetire k.val .moduleState).seq.busFailed = false := (hfails'.trans hfails).trans hbus
  have hslots : ∀ v : State, v.slot k.val = (u.endRetire k.val .moduleState).slot k.val →
      (v.slot k.val).state = (s.slot k.val).state ∧ (v.slot k.val).retireMbox = none ∧
        (v.slot k.val).admitMbox = none := by
    intro v hv
    rw [hv, hslot']
    exact ⟨rfl, rfl, rfl⟩
  change _ ∧ _ ∧ _ ∧ _ ∧ _ ∧ (_ ↔ 2 ≤ s.recentMarks.length)
  split_ifs with hthird
  · obtain ⟨hfailed, -, hothers⟩ := State.busFails_leaves hbus'
    obtain ⟨hstate, hretire, hadmit⟩ := hslots _ (congrArg (fun q : Seq => Sparse.get ModState.reset q.mods k.val) hfailed :)
    exact ⟨(congrArg (fun q : Seq => bitOf q.unresponsive k.val) hfailed :).trans hmarked,
      (hothers _ _ (by decide) (by decide)).mpr hfired', hstate, hretire, hadmit,
      fun _ => by omega, fun _ => congrArg Seq.busFailed hfailed⟩
  · obtain ⟨hstate, hretire, hadmit⟩ := hslots _ rfl
    exact ⟨hmarked, hfired', hstate, hretire, hadmit, fun h => by simp [hbus'] at h, fun h => by omega⟩

end

/-! ## The slots that answer again -/

theorem completes_unresponsiveRetry_answered {k : Slot} {s : State} (hmark : bitOf s.seq.unresponsive k.val = true) :
    Completes (.unresponsiveRetry k true) s fun t =>
      bitOf t.seq.unresponsive k.val = false ∧ t.fired 1258 .note := by
  refine ⟨_, rfl, ?_⟩
  dsimp only
  rw [if_neg (by simp [hmark]), if_pos rfl, State.fire_seq, State.fired_fire, if_pos rfl]
  exact ⟨bitOf_setBit_same _ _ k.isLt, rfl⟩

theorem completes_unresponsiveRetry_silent {k : Slot} {s : State} (hmark : bitOf s.seq.unresponsive k.val = true) :
    Completes (.unresponsiveRetry k false) s fun t =>
      t.seq.unresponsive = s.seq.unresponsive ∧ t.seq.busErrors = satAdd 0x1FFF s.seq.busErrors 1 := by
  refine ⟨_, rfl, ?_⟩
  dsimp only
  rw [if_neg (by simp [hmark]), if_neg (by decide)]
  exact ⟨rfl, rfl⟩

theorem completes_busClearRetry {s : State} (h : s.seq.busFailed = true) :
    Completes (.busClearRetry true) s fun t => t.seq.busFailed = false ∧ t.fired 1259 .note := by
  refine ⟨_, rfl, ?_⟩
  dsimp only
  rw [if_neg (by simp [h]), State.settleLevel_seq, State.fire_seq, State.fired_settleLevel _ _ _ (by decide),
    State.fired_fire, if_pos rfl]
  exact ⟨rfl, rfl⟩

theorem completes_busClearRetry_failed {s : State} : Completes (.busClearRetry false) s fun t => t = s := by
  refine ⟨_, rfl, ?_⟩
  dsimp only
  rw [if_pos (Or.inr (by decide))]

theorem completes_moduleTempRead {k : Slot} {s : State} (hbus : s.seq.busFailed = false)
    (hmark : bitOf s.seq.unresponsive k.val = false) (hpresent : (s.slot k.val).present = true) (c : Byte) :
    Completes (.moduleTempRead k c) s fun t =>
      (t.slot k.val).tempMax = c ∧ ((t.slot k.val).coolSince = none ↔ 80 ≤ c.toInt) := by
  refine ⟨_, rfl, ?_⟩
  dsimp only
  rw [if_neg (by simp [hbus, hmark, hpresent]), State.slot_modSlot]
  refine ⟨rfl, ?_⟩
  dsimp only
  by_cases hc : c.toInt < 80
  · rw [if_pos hc]
    cases hsince : (s.slot k.val).coolSince <;> simp [hc]
  · simpa [hc] using Int.not_lt.mp hc

theorem completes_statusWordPoll {k : Slot} {s : State} (hbus : s.seq.busFailed = false)
    (hstate : (s.slot k.val).state = .powering) (hon : (s.slot k.val).railsOn = true) (g : Bool) :
    Completes (.statusWordPoll k g) s fun t => (t.slot k.val).powerGood = g := by
  refine ⟨_, rfl, ?_⟩
  dsimp only
  rw [if_neg (by simp [hbus, hstate, hon]), State.slot_modSlot]

/-- Settles O43: errors, retries, marks and the recovery of the sequencer bus. -/
theorem busErrorsMarkSlotsAndFailTheBus : Obligations.BusErrorsMarkSlotsAndFailTheBus := by
  unfold Obligations.BusErrorsMarkSlotsAndFailTheBus
  exact fun k s => ⟨fun hbus hretries why => ⟨completes_busTransactionError hbus hretries why,
      completes_busTransactionError_stuck hbus hretries why⟩,
    fun hbus hretries => ⟨completes_busRetry_answered hbus hretries, completes_busRetry_failed hbus hretries,
      completes_busRetry_marked hbus⟩,
    fun hmark => ⟨completes_unresponsiveRetry_answered hmark, completes_unresponsiveRetry_silent hmark⟩,
    fun h => ⟨completes_busClearRetry h, completes_busClearRetry_failed⟩,
    completes_moduleTempRead, completes_statusWordPoll⟩

end Sys2Proof.Machine


/-! SUPPORT. The clocks, and sleep (O45). -/

namespace Sys2Proof.Machine

open Sys2Proof

/-! ## The crystal and the RC (R336, R337) -/

section
variable {s : State}

theorem completes_xtalLost (haon : s.rst.aon = true) (hrc : s.clk.onRc = false) (hok : s.clk.xtalOk = true) :
    Completes .xtalLost s fun t => t.clk.onRc = true ∧ t.clk.xtalOk = false ∧ t.fired 1264 .fault := by
  refine ⟨_, rfl, ?_⟩
  dsimp only
  rw [if_neg (by simp [haon, hrc, hok]), State.settleLevel_clk, State.fire_clk,
    State.fired_settleLevel _ _ _ (by decide), State.fired_fire, if_pos rfl]
  exact ⟨rfl, rfl, rfl⟩

theorem completes_xtalReturn (haon : s.rst.aon = true) (hok : s.clk.xtalOk = false) (hrc : s.clk.onRc = true) :
    Completes .xtalReturn s fun t => t.clk.onRc = false ∧ t.clk.xtalOk = true ∧ t.fired 1264 .note := by
  refine ⟨_, rfl, ?_⟩
  dsimp only
  rw [if_neg (by simp [haon, hok]), if_pos hrc, State.settleLevel_clk, State.fire_clk,
    State.fired_settleLevel _ _ _ (by decide), State.fired_fire, if_pos rfl]
  exact ⟨rfl, rfl, rfl⟩

theorem completes_rcTrim (href : s.clk.refOk ≠ 0#2) (hdue : s.elapsedOpt s.clk.rcTrimAt (sec 1) = true) :
    Completes .rcTrim s fun t => t.clk.rcTrimAt = some s.clock := by
  refine ⟨_, rfl, ?_⟩
  dsimp only
  rw [if_neg (by simp [href, hdue])]

theorem completes_rcTrim_noRef (href : s.clk.refOk = 0#2) : Completes .rcTrim s fun t => t = s := by
  refine ⟨_, rfl, ?_⟩
  dsimp only
  rw [if_pos (by simp [href])]

end

/-! ## The references (R338) -/

/-- One PLL put on the reference that is not `a`. -/
def pllPut (a : Nat) (m : Sparse Nat) (i : Nat) : Sparse Nat :=
  if pllHome i = 1 - a then Sparse.erase m i else Sparse.put m i (1 - a)

theorem find_pllPut_other (a : Nat) (m : Sparse Nat) {i j : Nat} (h : j ≠ i) :
    Sparse.find (pllPut a m i) j = Sparse.find m j := by
  unfold pllPut
  split
  · exact Sparse.find_erase_other m h
  · exact Sparse.find_put_other _ _ h

theorem get_pllPut_same (a : Nat) (m : Sparse Nat) (i : Nat) : Sparse.get (pllHome i) (pllPut a m i) i = 1 - a := by
  unfold pllPut Sparse.get
  split
  next h => rw [Sparse.find_erase_same, h]; rfl
  next h => rw [Sparse.find_put_same]; rfl

theorem get_foldl_pllPut (a : Nat) (l : List Nat) (m : Sparse Nat) (i : Nat) :
    Sparse.get (pllHome i) (l.foldl (pllPut a) m) i = if i ∈ l then 1 - a else Sparse.get (pllHome i) m i := by
  induction l generalizing m with
  | nil => simp
  | cons j l ih =>
    rw [List.foldl_cons, ih]
    by_cases hl : i ∈ l
    · simp [hl]
    · by_cases hj : i = j
      · subst hj
        simp [hl, get_pllPut_same]
      · simp [hl, hj, Sparse.get, find_pllPut_other a m hj]

/-- A move takes every PLL on the reference to the other one, and counts them (R339). -/
theorem Clk.movePlls_leaves (c : Clk) {a : Nat} (ha : a < 2) :
    (∀ i < 23, (c.movePlls a).pllRef i ≠ a) ∧
      (c.movePlls a).refSwitches = satAdd 0xFF c.refSwitches ((List.range 23).countP fun i => c.pllRef i == a) := by
  refine ⟨fun i hi => ?_, congrArg (satAdd 0xFF c.refSwitches) (List.countP_eq_length_filter).symm⟩
  change Sparse.get (pllHome i) (List.foldl (pllPut a) c.plls _) i ≠ a
  rw [get_foldl_pllPut]
  by_cases hon : c.pllRef i = a
  · rw [if_pos (List.mem_filter.mpr ⟨List.mem_range.mpr hi, by simp [hon]⟩)]
    omega
  · rw [if_neg (by simp [hon])]
    exact hon

section
variable {n : Fin 2} {s : State}

section
variable (hok : bitOf s.clk.refOk n.val = true)
include hok

theorem completes_refclkLost (hother : bitOf s.clk.refOk (1 - n.val) = true) :
    Completes (.refclkLost n) s fun t =>
      bitOf t.clk.refOk n.val = false ∧ bitOf t.clk.refOk (1 - n.val) = true ∧
        (∀ i < 23, t.clk.pllRef i ≠ n.val) ∧
        t.clk.refSwitches = satAdd 0xFF s.clk.refSwitches
          ((List.range 23).countP fun i => s.clk.pllRef i == n.val) ∧
        t.fired (1265 + n.val) .fault := by
  have hleft : bitOf (setBit s.clk.refOk n.val false) (1 - n.val) = true := by
    rwa [bitOf_setBit_other _ _ (by omega)]
  have hsome : setBit s.clk.refOk n.val false ≠ 0#2 := by
    intro h
    rw [h] at hleft
    simp [bitOf] at hleft
  obtain ⟨hmoved, hcount⟩ := Clk.movePlls_leaves { s.clk with refOk := setBit s.clk.refOk n.val false } n.isLt
  refine ⟨_, rfl, ?_⟩
  dsimp only
  rw [if_neg (by simp [hok]), if_neg hsome, State.settleLevel_clk, State.fire_clk,
    State.fired_settleLevel _ _ _ (by omega), State.fired_fire, if_pos rfl]
  exact ⟨bitOf_setBit_same _ _ n.isLt, hleft, hmoved, hcount, rfl⟩

theorem completes_refclkLost_both (hother : bitOf s.clk.refOk (1 - n.val) = false) :
    Completes (.refclkLost n) s fun t =>
      t.clk.refOk = 0#2 ∧ t.clk.holdover = some s.clock ∧ t.clk.plls = s.clk.plls ∧
        t.fired (1265 + n.val) .critical := by
  have hnone : setBit s.clk.refOk n.val false = 0#2 := by
    generalize s.clk.refOk = r at *
    revert r
    revert n
    decide
  refine ⟨_, rfl, ?_⟩
  dsimp only
  rw [if_neg (by simp [hok]), if_pos hnone, State.settleLevel_clk, State.fire_clk,
    State.fired_settleLevel _ _ _ (by omega), State.fired_fire, if_pos rfl]
  exact ⟨hnone, rfl, rfl, rfl⟩

end

theorem completes_refclkRecovered (hlost : bitOf s.clk.refOk n.val = false) :
    Completes (.refclkRecovered n) s fun t =>
      bitOf t.clk.refOk n.val = true ∧ t.clk.holdover = none ∧ t.clk.freeRun = false ∧
        (bitOf s.clk.refOk (1 - n.val) = true → t.clk.plls = s.clk.plls) := by
  refine ⟨_, rfl, ?_⟩
  dsimp only
  rw [if_neg (by simp [hlost]), State.settleLevel_clk]
  dsimp only
  have hback : bitOf (setBit s.clk.refOk n.val true) n.val = true := bitOf_setBit_same _ _ n.isLt
  split
  next h => exact ⟨hback, rfl, rfl, fun _ => rfl⟩
  next h =>
    refine ⟨hback, rfl, rfl, fun hother => absurd ?_ h⟩
    rw [bitOf_setBit_other _ _ (by omega), hother]
    rfl

/-- Free-running PLLs leave the minimum set (Table ARCH-6). -/
theorem State.levelOf_of_freeRun {s : State} (h : s.clk.freeRun = true) : s.levelOf = .outOfService := by
  have hmin : s.minimumSet = false := by simp [State.minimumSet, h]
  have hout : s.outOfService = true := by simp [State.outOfService, hmin]
  rw [State.levelOf, if_pos hout]

section
variable {c : Nat} (hhold : s.clk.holdover = some c)
include hhold

theorem completes_holdoverExpiry (hdue : s.elapsed c (ms 1) = true) :
    Completes .holdoverExpiry s fun t =>
      t.clk.freeRun = true ∧ t.clk.holdover = none ∧ t.glb.level = .outOfService := by
  refine ⟨_, rfl, ?_⟩
  dsimp only
  rw [hhold]
  dsimp only
  rw [if_pos hdue, State.settleLevel_clk, State.settleLevel_level, State.levelOf_of_freeRun rfl]
  exact ⟨rfl, rfl, rfl⟩

theorem completes_holdoverExpiry_early (hdue : s.elapsed c (ms 1) = false) :
    Completes .holdoverExpiry s fun t => t = s := by
  refine ⟨_, rfl, ?_⟩
  dsimp only
  rw [hhold]
  dsimp only
  rw [if_neg (by simp [hdue])]

end
end

/-! ## The PLLs' locks (R339, Table ARCH-5) -/

/-- A SYS reset that no other request is ahead of is the one requested. -/
theorem State.requestReset_sys {s : State} (h : s.rst.request = none) (source : Nat) :
    (s.requestReset .sys source).rst.request.map ResetReq.level = some .sys ∧
      (s.requestReset .sys source).rst.request.map ResetReq.source = some source := by
  unfold State.requestReset
  rw [h]
  dsimp only
  rw [if_neg (by decide), State.beginHoldOff]
  dsimp only
  split
  · exact ⟨rfl, rfl⟩
  · split
    · rw [(State.dumpStart_within _).same .rst (by decide)]
      exact ⟨rfl, rfl⟩
    · exact ⟨rfl, rfl⟩

theorem b2n_beq_one : ∀ n : Fin 2, b2n (n.val == 1) = n.val := by decide

theorem Clk.active_lt (c : Clk) : c.active < 2 := by
  unfold Clk.active
  cases c.dpllActive <;> decide

section
variable {s : State} (hdp : s.rst.datapath = true)
include hdp

section
variable (hlock : bitOf s.clk.dpllLock s.clk.active = true)
include hlock

theorem completes_dpllLockLoss (hspare : bitOf s.clk.dpllLock (1 - s.clk.active) = true) :
    Completes .dpllLockLoss s fun t =>
      t.clk.active = 1 - s.clk.active ∧ bitOf t.clk.dpllLock s.clk.active = false ∧
        t.clk.dpStopped = s.clk.dpStopped ∧ t.clk.dpllSpareLost = true ∧ t.fired 1267 .fault := by
  have hlt := s.clk.active_lt
  have hleft : bitOf (setBit s.clk.dpllLock s.clk.active false) (1 - s.clk.active) = true := by
    rwa [bitOf_setBit_other _ _ (by omega)]
  refine ⟨_, rfl, ?_⟩
  dsimp only
  rw [if_neg (by simp [hdp, hlock]), if_pos hleft, State.settleLevel_clk, State.fire_clk,
    State.fired_settleLevel _ _ _ (by decide), State.fired_fire, if_pos rfl]
  refine ⟨?_, bitOf_setBit_same _ _ hlt, rfl, rfl, rfl⟩
  unfold Clk.active
  dsimp only
  cases s.clk.dpllActive <;> rfl

theorem completes_dpllLockLoss_last (hspare : bitOf s.clk.dpllLock (1 - s.clk.active) = false) :
    Completes .dpllLockLoss s fun t => t.clk.dpStopped = true ∧ t.fired 1267 .critical := by
  have hlt := s.clk.active_lt
  have hleft : bitOf (setBit s.clk.dpllLock s.clk.active false) (1 - s.clk.active) = false := by
    rwa [bitOf_setBit_other _ _ (by omega)]
  refine ⟨_, rfl, ?_⟩
  dsimp only
  rw [if_neg (by simp [hdp, hlock]), if_neg (by simp [hleft]), State.settleLevel_clk, State.fire_clk,
    State.fired_settleLevel _ _ _ (by decide), State.fired_fire, if_pos rfl]
  exact ⟨rfl, rfl⟩

end

section
variable {n : Fin 2} (hlock : bitOf s.clk.dpllLock n.val = false) (hfailed : bitOf s.clk.dpllFailed n.val = false)
  (href : s.clk.refOk ≠ 0#2)
include hlock hfailed href

theorem completes_dpllRelock (hrun : s.clk.dpStopped = false) :
    Completes (.dpllRelock n) s fun t =>
      bitOf t.clk.dpllLock n.val = true ∧ t.clk.dpllSpareLost = false ∧ t.clk.active = s.clk.active := by
  refine ⟨_, rfl, ?_⟩
  dsimp only
  rw [if_neg (by simp [hdp, hlock, hfailed, href]), if_neg (by simp [hrun]), State.settleLevel_clk]
  exact ⟨bitOf_setBit_same _ _ n.isLt, rfl, rfl⟩

theorem completes_dpllRelock_stopped (hstop : s.clk.dpStopped = true) (hreq : s.rst.request = none) :
    Completes (.dpllRelock n) s fun t =>
      t.clk.dpStopped = false ∧ t.clk.active = n.val ∧ t.rst.request.map ResetReq.level = some .sys ∧
        t.rst.request.map ResetReq.source = some 0x06 := by
  refine ⟨_, rfl, ?_⟩
  dsimp only
  rw [if_neg (by simp [hdp, hlock, hfailed, href]), if_pos hstop, (State.requestReset_within _ _ _).same .clk (by decide),
    State.settleLevel_clk]
  exact ⟨rfl, b2n_beq_one n, State.requestReset_sys (by rw [State.settleLevel_rst]; exact hreq) _⟩

end

theorem completes_mpllRelock (hlock : s.clk.mpllLock = false) (hfailed : s.clk.mpllFailed = false)
    (href : s.clk.refOk ≠ 0#2) (hreq : s.rst.request = none) :
    Completes .mpllRelock s fun t =>
      t.clk.mpllLock = true ∧ t.rst.request.map ResetReq.level = some .core ∧
        t.rst.request.map ResetReq.source = some 0x09 := by
  obtain ⟨w, hw⟩ := State.requestReset_core
    (s := State.settleLevel { s with clk := { s.clk with mpllLock := true } })
    (by rw [State.settleLevel_rst]; exact hreq) 0x09
  refine ⟨_, rfl, ?_⟩
  dsimp only
  rw [if_neg (by simp [hdp, hlock, hfailed, href]), hw]
  refine ⟨?_, rfl, rfl⟩
  rw [State.settleLevel_clk]

end

theorem completes_mpllLockLoss {s : State} (hlock : s.clk.mpllLock = true) :
    Completes .mpllLockLoss s fun t =>
      t.clk.mpllLock = false ∧ t.mst.running = false ∧ t.mst.wdPaused = true ∧ t.cache = s.cache ∧
        t.bly = s.bly ∧ t.fired 1268 .fault := by
  refine ⟨_, rfl, ?_⟩
  dsimp only
  rw [if_neg (by simp [hlock]), State.settleLevel_clk, State.fire_clk, State.settleLevel_mst, State.fire_mst,
    State.settleLevel_cache, State.fire_cache, State.settleLevel_bly, State.fire_bly,
    State.fired_settleLevel _ _ _ (by decide), State.fired_fire, if_pos rfl]
  exact ⟨rfl, rfl, rfl, rfl, rfl, rfl⟩

/-! ## Sleep (R340 to R342, Tables BUD-4 and BUD-5) -/

/-- The deepest of the sleep states of `l` that satisfy `p`, 0 where none does. -/
def deepestSleep (p : Nat → Bool) (l : List Nat) : Nat := ((l.filter p).head?).getD 0

theorem deepestSleep_mem {p : Nat → Bool} {l : List Nat} (h : deepestSleep p l ≠ 0) :
    deepestSleep p l ∈ l ∧ p (deepestSleep p l) = true := by
  unfold deepestSleep at h ⊢
  cases hf : (l.filter p).head? with
  | none => simp [hf] at h
  | some st => exact List.mem_filter.mp (List.mem_of_head? hf)

theorem deepestSleep_deepest {p : Nat → Bool} {l : List Nat} (hl : l.Pairwise (· > ·)) {st : Nat} (hst : st ∈ l)
    (h : deepestSleep p l < st) : p st = false := by
  induction l with
  | nil => simp at hst
  | cons a l ih =>
    obtain ⟨ha, hl⟩ := List.pairwise_cons.mp hl
    unfold deepestSleep at h
    cases hp : p a with
    | true =>
      rw [List.filter_cons_of_pos hp] at h
      rcases List.mem_cons.mp hst with rfl | hmem
      · exact absurd h (lt_irrefl _)
      · exact absurd h (lt_asymm (ha st hmem))
    | false =>
      rw [List.filter_cons_of_neg (by simp [hp])] at h
      rcases List.mem_cons.mp hst with rfl | hmem
      · exact hp
      · exact ih hl hmem h

/-- A sleep state that the domain has, and that fits before the next event if one is known. -/
def sleepFits (d : Domain) (next : Option Nat) (st : Nat) : Prop :=
  ∃ w, wakeNs d st = some w ∧ ∀ n, next = some n → stayNs st + w ≤ n

/-- The choice is the deepest state that is permitted and fits, and Trim where none does. -/
theorem State.sleepChoice_spec (s : State) (d : Domain) (next : Option Nat) :
    (s.sleepChoice d next ≠ 0 → s.sleepChoice d next ≤ 4 ∧ s.sleepChoice d next ≤ s.deepest d ∧
        sleepFits d next (s.sleepChoice d next)) ∧
      ∀ st, s.sleepChoice d next < st → st ≤ s.deepest d → st ≤ 4 → ¬sleepFits d next st := by
  let fits (st : Nat) : Bool :=
    decide (st ≤ s.deepest d) && (match wakeNs d st with
      | none => false
      | some w =>
        match next with
        | none => true
        | some t => decide (stayNs st + w ≤ t))
  have hfits (st : Nat) : fits st = true ↔ st ≤ s.deepest d ∧ sleepFits d next st := by
    unfold fits sleepFits
    rw [Bool.and_eq_true, decide_eq_true_eq]
    cases wakeNs d st <;> cases next <;> simp
  have hchoice : s.sleepChoice d next = deepestSleep fits [4, 3, 2, 1] := rfl
  rw [hchoice]
  refine ⟨fun h => ?_, fun st hlt hle h4 hf => ?_⟩
  · obtain ⟨hmem, hp⟩ := deepestSleep_mem h
    obtain ⟨hle, hf⟩ := (hfits _).mp hp
    refine ⟨?_, hle, hf⟩
    simp only [List.mem_cons, List.not_mem_nil, or_false] at hmem
    omega
  · have hno := deepestSleep_deepest (by decide) (show st ∈ [4, 3, 2, 1] by simp; omega) hlt
    simp [(hfits st).mpr ⟨hle, hf⟩] at hno

theorem Sleep.code_ofCode {n : Nat} (h : n ≤ 4) : (Sleep.ofCode n).code = n := by
  interval_cases n <;> rfl

theorem Sleep.code_eq_zero {x : Sleep} : x.code = 0 ↔ x = .trim := by
  cases x <;> decide

theorem State.sleepChoice_le (s : State) (d : Domain) (next : Option Nat) :
    s.sleepChoice d next ≤ 4 ∧ s.sleepChoice d next ≤ s.deepest d := by
  obtain ⟨hfits, -⟩ := s.sleepChoice_spec d next
  by_cases h : s.sleepChoice d next = 0
  · omega
  · exact ⟨(hfits h).1, (hfits h).2.1⟩

section
variable {d : Domain} {s : State}

theorem completes_sleepEvaluate_busy (hbusy : s.domBusy d = true) (next : Option Nat) :
    Completes (.sleepEvaluate d next) s fun t => (t.dom (domainKey d)).state = .trim := by
  refine ⟨_, rfl, ?_⟩
  dsimp only
  rw [if_pos hbusy, State.wake, State.dom_modDom]

section
variable (hidle : s.domBusy d = false)
include hidle

/-- An idle domain takes the state chosen, with its wake scheduled for the next known event. -/
theorem exec_sleepEvaluate_idle (next : Option Nat) :
    ∃ t, exec (.sleepEvaluate d next) s = .next t ∧ (t.dom (domainKey d)).state.code = s.sleepChoice d next ∧
      (t.dom (domainKey d)).wakeAt =
        if s.sleepChoice d next = 0 then none
        else next.map fun n => s.clock + ns (n - (wakeNs d (s.sleepChoice d next)).getD 0) := by
  refine ⟨_, rfl, ?_⟩
  dsimp only
  rw [if_neg (by simp [hidle]), State.dom_modDom]
  exact ⟨Sleep.code_ofCode (s.sleepChoice_le d next).1, rfl⟩

theorem completes_sleepEvaluate (n : Nat) :
    Completes (.sleepEvaluate d (some n)) s fun t =>
      (t.dom (domainKey d)).state.code ≤ s.deepest d ∧
        ((t.dom (domainKey d)).state ≠ .trim → ∃ w,
          wakeNs d (t.dom (domainKey d)).state.code = some w ∧
            stayNs (t.dom (domainKey d)).state.code + w ≤ n ∧
            (t.dom (domainKey d)).wakeAt = some (s.clock + ns (n - w))) ∧
        ∀ st, (t.dom (domainKey d)).state.code < st → st ≤ s.deepest d → st ≤ 4 →
          ∀ w, wakeNs d st = some w → n < stayNs st + w := by
  obtain ⟨t, hexec, hcode, hwake⟩ := exec_sleepEvaluate_idle hidle (some n)
  obtain ⟨hfits, hdeepest⟩ := s.sleepChoice_spec d (some n)
  refine ⟨t, hexec, ?_⟩
  dsimp only
  rw [hwake, hcode]
  refine ⟨(s.sleepChoice_le d _).2, fun hne => ?_, fun st hlt hle h4 w hw => ?_⟩
  · have hchosen : s.sleepChoice d (some n) ≠ 0 := fun h => hne (Sleep.code_eq_zero.mp (hcode.trans h))
    obtain ⟨-, -, w, hw, hn⟩ := hfits hchosen
    refine ⟨w, hw, hn n rfl, ?_⟩
    rw [if_neg hchosen, hw]
    rfl
  · by_contra hge
    refine hdeepest st hlt hle h4 ⟨w, hw, fun m hm => ?_⟩
    cases hm
    omega

theorem completes_sleepEvaluate_noEvent :
    Completes (.sleepEvaluate d none) s fun t =>
      (t.dom (domainKey d)).wakeAt = none ∧ (t.dom (domainKey d)).state.code ≤ s.deepest d ∧
        ∀ st, (t.dom (domainKey d)).state.code < st → st ≤ s.deepest d → st ≤ 4 → wakeNs d st = none := by
  obtain ⟨t, hexec, hcode, hwake⟩ := exec_sleepEvaluate_idle hidle none
  obtain ⟨-, hdeepest⟩ := s.sleepChoice_spec d none
  refine ⟨t, hexec, ?_⟩
  dsimp only
  rw [hwake, hcode]
  refine ⟨by split <;> rfl, (s.sleepChoice_le d _).2, fun st hlt hle h4 => ?_⟩
  cases hw : wakeNs d st with
  | none => rfl
  | some w => exact absurd ⟨w, hw, fun n hn => by cases hn⟩ (hdeepest st hlt hle h4)

end

section
variable {c : Nat} (hwake : (s.dom (domainKey d)).wakeAt = some c)
include hwake

theorem completes_scheduledWake (hdue : c ≤ s.clock) :
    Completes (.scheduledWake d) s fun t =>
      (t.dom (domainKey d)).state = .trim ∧ (t.dom (domainKey d)).wakeAt = none := by
  refine ⟨_, rfl, ?_⟩
  dsimp only
  rw [hwake]
  dsimp only
  rw [if_pos hdue, State.wake, State.dom_modDom]
  exact ⟨rfl, rfl⟩

theorem completes_scheduledWake_early (hdue : s.clock < c) : Completes (.scheduledWake d) s fun t => t = s := by
  refine ⟨_, rfl, ?_⟩
  dsimp only
  rw [hwake]
  dsimp only
  rw [if_neg (by omega)]

end

theorem completes_wakeLate_awake (h : (s.dom (domainKey d)).state = .trim) :
    Completes (.wakeLate d) s fun t => t = s := by
  refine ⟨_, rfl, ?_⟩
  dsimp only
  rw [if_pos h]

/-- The domain awake, and its limit one state shallower (R342). -/
def DomSleep.late (x : DomSleep) (was : Sleep) : DomSleep :=
  { x with
    state := .trim, wakeAt := none
    limit := if (shallower was).code < x.limit.code then shallower was else x.limit }

theorem DomSleep.limit_late (x : DomSleep) (was : Sleep) : (x.late was).limit.code ≤ was.code - 1 := by
  have hcode : (shallower was).code = was.code - 1 := by cases was <;> rfl
  unfold DomSleep.late
  dsimp only
  split <;> omega

/-- The record of a late wake: the port's own source where the domain is a port's. -/
def State.noteLateWake (s : State) : Domain → State
  | .port p => s.fire (portSrc p 12) .warn (Detail.ofUnit (portIdx p))
  | _ => s.warnRecord 0xFF 0

theorem State.dom_noteLateWake (s : State) (d : Domain) (k : Nat) : (s.noteLateWake d).dom k = s.dom k := by
  have hwarn : (s.warnRecord 0xFF 0).dom k = s.dom k :=
    congrArg (fun c : Clk => Sparse.get DomSleep.reset c.sleep k) ((s.warnRecord_within 0xFF 0).same .clk (by decide))
  cases d with
  | port p => exact State.dom_fire _ _ _ _ _
  | _ => exact hwarn

theorem exec_wakeLate (h : (s.dom (domainKey d)).state ≠ .trim) :
    exec (.wakeLate d) s =
      .next ((s.modDom (domainKey d) fun x => x.late (s.dom (domainKey d)).state).noteLateWake d) := by
  change Host.Outcome.next (if _ then _ else _) = _
  rw [if_neg h]
  cases d <;> rfl

theorem completes_wakeLate (h : (s.dom (domainKey d)).state ≠ .trim) :
    Completes (.wakeLate d) s fun t =>
      (t.dom (domainKey d)).state = .trim ∧
        (t.dom (domainKey d)).limit.code ≤ (s.dom (domainKey d)).state.code - 1 ∧
        (∀ p, d = .port p → t.fired (portSrc p 12) .warn) := by
  refine ⟨_, exec_wakeLate h, ?_⟩
  dsimp only
  rw [State.dom_noteLateWake, State.dom_modDom]
  refine ⟨rfl, DomSleep.limit_late _ _, ?_⟩
  rintro p rfl
  exact (State.fired_fire _ _ _ _ _ _).mpr (by rw [if_pos rfl])

end

/-- Settles O45: the clocks by their losses and returns, and sleep by the deepest state that fits. -/
theorem clocksFallBackAndSleepFits : Obligations.ClocksFallBackAndSleepFits := by
  unfold Obligations.ClocksFallBackAndSleepFits
  exact ⟨⟨fun s haon => ⟨completes_xtalLost haon, completes_xtalReturn haon, completes_rcTrim, completes_rcTrim_noRef⟩,
      fun n s => ⟨fun hok => ⟨completes_refclkLost hok, completes_refclkLost_both hok⟩, completes_refclkRecovered⟩,
      fun c s hhold => ⟨completes_holdoverExpiry hhold, completes_holdoverExpiry_early hhold⟩,
      fun s hdp => ⟨fun hlock => ⟨completes_dpllLockLoss hdp hlock, completes_dpllLockLoss_last hdp hlock⟩,
        fun n hlock hfailed href => ⟨completes_dpllRelock hdp hlock hfailed href,
          completes_dpllRelock_stopped hdp hlock hfailed href⟩, completes_mpllRelock hdp⟩,
      fun s => completes_mpllLockLoss⟩,
    fun d s => ⟨completes_sleepEvaluate_busy, fun hidle => ⟨completes_sleepEvaluate hidle,
        completes_sleepEvaluate_noEvent hidle⟩,
      fun c hwake => ⟨completes_scheduledWake hwake, completes_scheduledWake_early hwake⟩,
      completes_wakeLate_awake, completes_wakeLate⟩⟩

end Sys2Proof.Machine


/-! SUPPORT. The clock watchdog, the release of the domains and the fill (O47). -/

namespace Sys2Proof.Machine

open Sys2Proof

/-! ## The clock watchdog (R348) -/

theorem setBit_eq_three : ∀ (f : BitVec 2) (n : Fin 2), setBit f n.val true = 0b11#2 ↔ bitOf f (1 - n.val) = true := by
  decide

section
variable {s : State} (haon : s.rst.aon = true) (hup : s.seq.state = .run ∨ s.seq.state = .ramp)
include haon hup

/-- What the watchdog finds while the rails are up. -/
theorem watchdog_runs : ¬((!s.rst.aon) = true ∨ s.seq.state ≠ .run ∧ s.seq.state ≠ .ramp) := by
  rw [haon]
  rintro (h | ⟨hrun, hramp⟩)
  · cases h
  · exact hup.elim hrun hramp

theorem completes_clockWatchdogExpiry_dpll {n : Fin 2} (hfailed : bitOf s.clk.dpllFailed n.val = false)
    (hlock : bitOf s.clk.dpllLock n.val = false) :
    Completes (.clockWatchdogExpiry (.dpll n)) s fun t =>
      bitOf t.clk.dpllFailed n.val = true ∧
        t.fired 1267 (if bitOf s.clk.dpllFailed (1 - n.val) then .critical else .fault) := by
  refine ⟨_, rfl, ?_⟩
  dsimp only
  rw [if_neg (watchdog_runs haon hup), if_neg (by simp [hfailed, hlock]), State.fire_clk, State.fired_fire, if_pos rfl]
  refine ⟨bitOf_setBit_same _ _ n.isLt, ?_⟩
  simp only [setBit_eq_three]

theorem completes_clockWatchdogExpiry_mpll (hfailed : s.clk.mpllFailed = false) (hlock : s.clk.mpllLock = false) :
    Completes (.clockWatchdogExpiry .mpll) s fun t => t.clk.mpllFailed = true ∧ t.fired 1268 .critical := by
  refine ⟨_, rfl, ?_⟩
  dsimp only
  rw [if_neg (watchdog_runs haon hup), if_neg (by simp [hfailed, hlock]), State.fire_clk, State.fired_fire, if_pos rfl]
  exact ⟨rfl, rfl⟩

theorem completes_clockWatchdogExpiry_port {p : Port} (hfailed : bitOf s.clk.portFailed (portIdx p) = false)
    (hrel : (s.port p).released = false) :
    Completes (.clockWatchdogExpiry (.port p)) s fun t =>
      bitOf t.clk.portFailed (portIdx p) = true ∧ t.fired (portSrc p 1) .fault := by
  refine ⟨_, rfl, ?_⟩
  dsimp only
  rw [if_neg (watchdog_runs haon hup), if_neg (by simp [hfailed, hrel]), State.fire_clk, State.fired_fire, if_pos rfl]
  exact ⟨bitOf_setBit_same _ _ (by cases p <;> decide), rfl⟩

theorem completes_clockWatchdogExpiry_hbm {n : Stack} (hfailed : bitOf s.clk.hbmFailed n.val = false)
    (hfill : s.rst.filled = false) :
    Completes (.clockWatchdogExpiry (.hbm n)) s fun t =>
      bitOf t.clk.hbmFailed n.val = true ∧ bitOf t.cache.stackFailed n.val = true := by
  refine ⟨_, rfl, ?_⟩
  dsimp only
  rw [if_neg (watchdog_runs haon hup), if_neg (by simp [hfailed, hfill]), State.fireHbm_cache, State.fireHbm,
    State.fire_clk]
  exact ⟨bitOf_setBit_same _ _ n.isLt, bitOf_setBit_same _ _ n.isLt⟩

end

/-! ## The release of the domains (R347, R354) -/

section
variable {crc : BitVec 2} {s : State}

theorem completes_domainRelease_aon (haon : s.rst.aon = false) :
    Completes (.domainRelease .aon crc) s fun t =>
      t.rst.aon = true ∧ t.dty.stage = 0x01#8 ∧ t.rst.bootAt = s.clock := by
  refine ⟨_, rfl, ?_⟩
  dsimp only
  rw [if_neg (by simp [haon])]
  exact ⟨rfl, rfl, rfl⟩

/-- Some DPLL locks unless the watchdog has failed both. -/
theorem Clk.lockAll_dpllLock {c : Clk} (h : c.dpllFailed ≠ 0b11#2) : c.lockAll.dpllLock ≠ 0#2 := by
  unfold Clk.lockAll
  split
  next hlock => exact hlock
  next hlock =>
    intro hnone
    apply h
    change ~~~c.dpllFailed = 0#2 at hnone
    generalize c.dpllFailed = f at *
    clear hlock h
    revert f
    decide

theorem completes_domainRelease_datapath (hrun : s.seq.state = .run) (hdp : s.rst.datapath = false)
    (href : s.clk.refOk ≠ 0#2) (hdpll : s.clk.dpllFailed ≠ 0b11#2) :
    Completes (.domainRelease .datapath crc) s fun t =>
      t.rst.datapath = true ∧ t.rst.darn = true ∧ t.clk.dpllLock ≠ 0#2 ∧ t.dty.stage = 0x04#8 ∧
        (crc = 0#2 → t.clk.fuseFailed = true) := by
  refine ⟨_, rfl, ?_⟩
  dsimp only
  rw [State.releaseDatapath, if_neg (by simp [hrun, hdp, href, hdpll])]
  exact ⟨rfl, rfl, Clk.lockAll_dpllLock hdpll, rfl, fun hcrc => by simp [hcrc]⟩

theorem completes_domainRelease_datapath_not (h : s.seq.state ≠ .run ∨ s.clk.refOk = 0#2 ∨ s.clk.dpllFailed = 0b11#2) :
    Completes (.domainRelease .datapath crc) s fun t => t = s := by
  refine ⟨_, rfl, ?_⟩
  dsimp only
  rw [State.releaseDatapath, if_pos (by tauto)]

theorem completes_domainRelease_mainmast (hfill : s.rst.filled = true) (hrel : s.mst.released = false)
    (hlock : s.clk.mpllLock = true) (hlead : s.mst.lead.isSome) :
    Completes (.domainRelease .mainmast crc) s fun t => t.mst.released = true ∧ t.dty.stage = 0x06#8 := by
  refine ⟨_, rfl, ?_⟩
  dsimp only
  rw [if_neg (by simp [hfill, hrel, hlock, Option.isSome_iff_ne_none.mp hlead])]
  exact ⟨rfl, rfl⟩

theorem completes_domainRelease_mainmast_not (h : s.rst.filled = false ∨ s.clk.mpllLock = false) :
    Completes (.domainRelease .mainmast crc) s fun t => t = s := by
  refine ⟨_, rfl, ?_⟩
  dsimp only
  rw [if_pos (by rcases h with h | h <;> simp [h])]

theorem completes_domainRelease_port {p : Port} (hboot : s.rst.booted = true) (hrel : (s.port p).released = false)
    (hlock : (s.port p).lock = true) (hfailed : bitOf s.clk.portFailed (portIdx p) = false) :
    Completes (.domainRelease (.port p) crc) s fun t =>
      (t.port p).released = true ∧ (t.port p).releasedAt = s.clock ∧ t.dty.stage = 0x08#8 ∧
        t.port (portOther p) = s.port (portOther p) := by
  refine ⟨_, rfl, ?_⟩
  dsimp only
  rw [if_neg (by simp [hboot, hrel, hlock, hfailed])]
  cases p <;> exact ⟨rfl, rfl, rfl, rfl⟩

theorem completes_domainRelease_port_not {p : Port}
    (h : s.rst.booted = false ∨ (s.port p).lock = false ∨ bitOf s.clk.portFailed (portIdx p) = true) :
    Completes (.domainRelease (.port p) crc) s fun t => t = s := by
  refine ⟨_, rfl, ?_⟩
  dsimp only
  rw [if_pos (by rcases h with h | h | h <;> simp [h])]

end

/-! ## The fill (R355) -/

section
variable {s : State} (hdp : s.rst.datapath = true) (hfill : s.rst.filled = false) (hfuse : s.clk.fuseFailed = false)

/-- The arrays filled, and the stacks that serve. -/
def State.filledArrays (s : State) : State :=
  { s with
    rst := { s.rst with filled := true }
    cache := { s.cache with stackOk := ~~~(s.cache.stackFailed ||| s.clk.hbmFailed) } }

include hdp hfill hfuse

theorem exec_arrayFillDone (bad : List FillFail) :
    exec (.arrayFillDone bad) s =
      .next (((bad.foldl State.fillFails s.filledArrays).bootStage 0x05).settleBudget.settleLevel) := by
  change Host.Outcome.next (if _ then _ else _) = _
  rw [if_neg (by simp [hdp, hfill])]
  change Host.Outcome.next
    (State.settleLevel (State.settleBudget (State.bootStage (if s.clk.fuseFailed then _ else _) _))) = _
  rw [if_neg (by simp [hfuse])]
  rfl

omit hdp hfill hfuse in
theorem State.filled_leaves (u : State) :
    ((u.bootStage 0x05).settleBudget.settleLevel).rst = u.rst ∧
      ((u.bootStage 0x05).settleBudget.settleLevel).dty.stage = 0x05#8 ∧
      ((u.bootStage 0x05).settleBudget.settleLevel).bly = u.bly ∧
      ((u.bootStage 0x05).settleBudget.settleLevel).vbf = u.vbf ∧
      ((u.bootStage 0x05).settleBudget.settleLevel).cache = u.cache ∧
      ∀ i v, i ≠ 1008 → i ≠ 1010 → (((u.bootStage 0x05).settleBudget.settleLevel).fired i v ↔ u.fired i v) := by
  have hbudget := (u.bootStage 0x05).settleBudget_within
  rw [State.settleLevel_rst, State.settleLevel_dty, State.settleLevel_bly, State.settleLevel_vbf, State.settleLevel_cache,
    hbudget.same .dty (by decide)]
  refine ⟨hbudget.same .rst (by decide), rfl, hbudget.same .bly (by decide), hbudget.same .vbf (by decide),
    hbudget.same .cache (by decide), fun i v hlevel hbud => ?_⟩
  rw [State.fired_settleLevel _ _ _ hlevel, State.fired_settleBudget _ _ _ hbud]
  rfl

omit hdp hfill hfuse in
theorem stackOk_filledArrays {n : Nat} (hn : n < 2) :
    bitOf s.filledArrays.cache.stackOk n = (!bitOf s.cache.stackFailed n && !bitOf s.clk.hbmFailed n) := by
  change (~~~(s.cache.stackFailed ||| s.clk.hbmFailed)).getLsbD n = _
  rw [BitVec.getLsbD_not, BitVec.getLsbD_or, decide_eq_true hn, Bool.true_and, Bool.not_or]
  rfl

theorem completes_arrayFillDone_good :
    Completes (.arrayFillDone []) s fun t =>
      t.rst.filled = true ∧ t.dty.stage = 0x05#8 ∧ t.bly.fenced = s.bly.fenced ∧
        (∀ n < 2, bitOf t.cache.stackOk n = (!bitOf s.cache.stackFailed n && !bitOf s.clk.hbmFailed n)) := by
  obtain ⟨hrst, hstage, hbly, -, hcache, -⟩ := s.filledArrays.filled_leaves
  refine ⟨_, exec_arrayFillDone hdp hfill hfuse [], ?_⟩
  dsimp only [List.foldl_nil]
  rw [hrst, hbly, hcache]
  exact ⟨rfl, hstage, rfl, fun n hn => stackOk_filledArrays hn⟩

theorem completes_arrayFillDone_belay (b : Fin 8) :
    Completes (.arrayFillDone [.belayBank b]) s fun t =>
      t.rst.filled = true ∧ bitOf t.bly.fenced b.val = true ∧ t.fired (1052 + b.val) .fault := by
  obtain ⟨hrst, -, hbly, -, -, hfired⟩ := (s.filledArrays.fillFails (.belayBank b)).filled_leaves
  refine ⟨_, exec_arrayFillDone hdp hfill hfuse [.belayBank b], ?_⟩
  dsimp only [List.foldl_cons, List.foldl_nil]
  rw [hrst, hbly, hfired _ _ (by omega) (by omega), State.fillFails, State.fire_rst, State.fire_bly, State.fired_fire,
    if_pos rfl]
  exact ⟨rfl, bitOf_setBit_same _ _ b.isLt, rfl⟩

theorem completes_arrayFillDone_victims (b : Fin 8) :
    Completes (.arrayFillDone [.vbfBank b]) s fun t =>
      t.rst.filled = true ∧ bitOf t.vbf.fenced b.val = true ∧ t.fired (1196 + b.val) .fault := by
  obtain ⟨hrst, -, -, hvbf, -, hfired⟩ := (s.filledArrays.fillFails (.vbfBank b)).filled_leaves
  refine ⟨_, exec_arrayFillDone hdp hfill hfuse [.vbfBank b], ?_⟩
  dsimp only [List.foldl_cons, List.foldl_nil]
  rw [hrst, hvbf, hfired _ _ (by omega) (by omega), State.fillFails, State.fire_rst, State.fire_vbf, State.fired_fire,
    if_pos rfl]
  exact ⟨rfl, bitOf_setBit_same _ _ b.isLt, rfl⟩

end
end Sys2Proof.Machine


/-! SUPPORT. The boot of firmware (O47). -/

namespace Sys2Proof.Machine

open Sys2Proof

/-! ## The steps of the boot (R356) -/

section
variable (s : State) (r : BootResult)

/-- The active image verified and running. -/
def State.imageRuns : State :=
  State.bootStage { s with
    mst := { s.mst with
      running := true, kickedAt := s.clock
      fw := Sparse.modify FwSlot.empty s.mst.fw (if s.mst.slot then 1 else 0) fun x => { x with valid := true } }
    rst := { s.rst with booted := true } } 0x07

/-- The settings of the sea chest in place and the ports locked (R42, R299). -/
def State.bootSettings : State := s.imageRuns.loadSettings.applyBank.applyStrike.lockPorts

/-- What the sea chest and the metadata hold, brought up. -/
def State.bootLoaded : State := ((s.bootSettings.bootKeys r).loadPoison.drawWearKey).loadBump

/-- The sideband on and the debug epoch read. -/
def State.bootOpen : State :=
  { s.bootLoaded r with
    hly := { (s.bootLoaded r).hly with sidebandOn := true }
    dbg := { (s.bootLoaded r).dbg with
      epoch := BitVec.ofNat 24 ((s.bootLoaded r).sea.counter 2), saturated := (s.bootLoaded r).sea.saturated 2 } }

/-- What a shutdown owed, recorded. -/
def State.bootSettled : State := ((s.copyPowerEvent).payDebugExit).noteSaturated

end

section
variable {s : State} {r : BootResult} (hrel : s.mst.released = true) (hboot : s.rst.booted = false)
  (hsettled : s.sea.settled = true)

theorem completes_firmwareBoot_badImage (hbad : r.imageOk = false) : Completes (.firmwareBoot r) s fun t => t = s := by
  refine ⟨_, rfl, ?_⟩
  dsimp only
  rw [if_pos (by simp [hbad])]

include hrel hboot hsettled in
theorem exec_firmwareBoot (hok : r.imageOk = true) :
    exec (.firmwareBoot r) s = .next (s.bootOpen r).bootSettled.bootPlan := by
  change Host.Outcome.next (if _ then _ else _) = _
  rw [if_neg (by simp [hrel, hboot, hsettled, hok])]
  unfold State.bootOpen State.bootLoaded State.bootSettings State.imageRuns State.bootSettled
  rfl

end

/-! ## The settings -/

theorem State.loadSettings_running (s : State) : s.loadSettings.mst.running = s.mst.running := by
  have hload (u : State) (b : Nat) (p : List Byte) : (u.loadGroup b p).mst.running = u.mst.running := by
    unfold State.loadGroup
    split <;> rfl
  have hlock (u : State) (b : Nat) : (u.lockGroup b).mst.running = u.mst.running := by
    unfold State.lockGroup
    split <;> rfl
  unfold State.loadSettings
  refine foldl_keeps (fun u : State => u.mst.running) (fun u b => ?_) _ s
  unfold State.loadStored
  repeat' split
  · rfl
  · rw [hlock, hload]
  · rfl

theorem State.bootSettings_within (s : State) :
    Within [.port0, .port1, .hostLogs, .stp, .wlv, .mst, .hly, .seq, .reef, .trm, .tel] s.imageRuns s.bootSettings :=
  Within.step (State.lockPorts_within _) (by decide) (Within.step (State.applyStrike_within _) (by decide)
    (Within.step (State.applyBank_within _) (by decide) (Within.step (State.loadSettings_within _) (by decide)
      (Within.refl _ _))))

theorem State.bootSettings_running (s : State) : s.bootSettings.mst.running = true := by
  have hrest : Within [.port0, .port1, .hostLogs, .seq, .tel] s.imageRuns.loadSettings s.bootSettings :=
    Within.step (State.lockPorts_within _) (by decide) (Within.step (State.applyStrike_within _) (by decide)
      (Within.step (State.applyBank_within _) (by decide) (Within.refl _ _)))
  rw [hrest.same .mst (by decide), State.loadSettings_running]
  rfl

/-! ## The keys (R227, R266) -/

/-- A fold that reaches `a` leaves what the step at `a` gives and every step keeps, while `I` holds. -/
theorem foldl_reaches {σ α : Type} {P I : σ → Prop} {f : σ → α → σ} {a : α} {l : List α} (ha : a ∈ l)
    (hI : ∀ s b, I s → I (f s b)) (hset : ∀ s, I s → P (f s a)) (hkeep : ∀ s b, I s → P s → P (f s b)) {s : σ}
    (hs : I s) : P (l.foldl f s) := by
  obtain ⟨l₁, l₂, rfl⟩ := List.append_of_mem ha
  have hbefore : I (l₁.foldl f s) := foldl_invariant hI l₁ hs
  rw [List.foldl_append, List.foldl_cons]
  exact (foldl_invariant (P := fun u => I u ∧ P u) (fun u b h => ⟨hI u b h.1, hkeep u b h.1 h.2⟩) l₂
    ⟨hI _ a hbefore, hset _ hbefore⟩).2

section
variable {bad : BitVec 64} {n : Nat} {p : List Byte}

theorem State.unwrapSlot_keyMapLoaded (s : State) (m : Nat) :
    (s.unwrapSlot bad m).shr.keyMapLoaded = s.shr.keyMapLoaded := by
  unfold State.unwrapSlot
  repeat' split
  all_goals rfl

theorem State.keySlot_unwrapSlot (s : State) (hp : s.sea.value (recShroudKey n) = some p) (hgood : bitOf bad n = false) :
    ((s.unwrapSlot bad n).keySlot n).key = BitVec.ofNat 512 (leNat (p.take 64)) := by
  unfold State.unwrapSlot
  rw [hp]
  dsimp only
  rw [if_neg (by simp [hgood]), State.keySlot_modKeySlot]

theorem State.keySlot_unwrapSlot_other (s : State) {m : Nat} (hm : n ≠ m) :
    (s.unwrapSlot bad m).keySlot n = s.keySlot n := by
  unfold State.unwrapSlot
  repeat' split
  · rfl
  · exact State.keySlot_congr ((s.keyRecord_within _ _ _ _).same .shr (by decide)) n
  · exact State.keySlot_modKeySlot_other _ _ hm

theorem State.keySlot_unwrapSlots {s : State} {l : List Nat} (hn : n ∈ l) (hp : s.sea.value (recShroudKey n) = some p)
    (hgood : bitOf bad n = false) :
    ((l.foldl (fun u m => u.unwrapSlot bad m) s).keySlot n).key = BitVec.ofNat 512 (leNat (p.take 64)) := by
  refine foldl_reaches (P := fun u : State => (u.keySlot n).key = BitVec.ofNat 512 (leNat (p.take 64)))
    (I := fun u : State => u.sea.value (recShroudKey n) = some p) hn (fun u m hu => ?_)
    (fun u hu => u.keySlot_unwrapSlot hu hgood) (fun u m hu hkey => ?_) hp
  · rwa [(u.unwrapSlot_within bad m).same .sea (by decide)]
  · by_cases hm : n = m
    · exact hm ▸ u.keySlot_unwrapSlot hu hgood
    · rwa [u.keySlot_unwrapSlot_other hm]

end

section
variable {bad : BitVec 8} {n : Nat} {p : List Byte}

/-- A KCE register loaded with a key. -/
def Kce.holds (k : Kce) (n : Nat) (key : BitVec 256) : Prop := bitOf k.loaded n = true ∧ k.key n = key

theorem State.holds_unwrapReg (s : State) (hn : n < 8) (hp : s.sea.value (recKceKey n) = some p)
    (hgood : bitOf bad n = false) :
    (s.unwrapReg bad n).kce.holds n (BitVec.ofNat 256 (leNat (p.take 32))) := by
  unfold State.unwrapReg
  rw [hp]
  dsimp only
  rw [if_neg (by simp [hgood])]
  exact ⟨bitOf_setBit_same _ _ hn, Sparse.get_set_same _ _ _ _⟩

theorem State.holds_unwrapReg_other (s : State) {m : Nat} (hm : n ≠ m) (key : BitVec 256)
    (h : s.kce.holds n key) : (s.unwrapReg bad m).kce.holds n key := by
  obtain ⟨hloaded, hkey⟩ := h
  unfold State.unwrapReg
  repeat' split
  · exact ⟨hloaded, hkey⟩
  · rw [(s.keyRecord_within _ _ _ _).same .kce (by decide)]
    exact ⟨hloaded, hkey⟩
  · exact ⟨(bitOf_setBit_other _ _ (Ne.symm hm)).trans hloaded, (Sparse.get_set_other _ _ _ hm).trans hkey⟩

theorem State.holds_unwrapRegs {s : State} {l : List Nat} (hn : n ∈ l) (hn8 : n < 8)
    (hp : s.sea.value (recKceKey n) = some p) (hgood : bitOf bad n = false) :
    (l.foldl (fun u m => u.unwrapReg bad m) s).kce.holds n (BitVec.ofNat 256 (leNat (p.take 32))) := by
  refine foldl_reaches (P := fun u : State => u.kce.holds n (BitVec.ofNat 256 (leNat (p.take 32))))
    (I := fun u : State => u.sea.value (recKceKey n) = some p) hn (fun u m hu => ?_)
    (fun u hu => u.holds_unwrapReg hn8 hu hgood) (fun u m hu hkey => ?_) hp
  · rwa [(u.unwrapReg_within bad m).same .sea (by decide)]
  · by_cases hm : n = m
    · exact hm ▸ u.holds_unwrapReg hn8 hu hgood
    · exact u.holds_unwrapReg_other hm _ hkey

end

/-- A rekey that goes on changes states of slots, and no key. -/
theorem State.resumeRekey_leaves (s : State) :
    s.resumeRekey.shr.keyMapLoaded = s.shr.keyMapLoaded ∧
      ∀ n, (s.resumeRekey.keySlot n).key = (s.keySlot n).key := by
  have hhold (u : State) (m n : Nat) (st : SlotState) :
      ((u.modKeySlot m fun k => if k.state = .empty then k else { k with state := st }).keySlot n).key =
        (u.keySlot n).key := by
    by_cases hm : n = m
    · subst hm
      rw [State.keySlot_modKeySlot]
      split <;> rfl
    · rw [State.keySlot_modKeySlot_other _ _ hm]
  unfold State.resumeRekey
  split
  · exact ⟨rfl, fun n => rfl⟩
  · refine ⟨rfl, fun n => ?_⟩
    dsimp only
    rw [hhold, hhold]
    rfl

theorem State.holds_loadExtent (s : State) (e : Nat × Extent) (n : Nat) (key : BitVec 256) :
    (s.loadExtent e).kce.holds n key ↔ s.kce.holds n key := by
  unfold State.loadExtent
  dsimp only
  split
  · rfl
  · rw [(State.fireOutcome_within _ _ _ _ _ _ _).same .kce (by decide)]
    rfl

theorem State.bootKeys_leaves (s : State) (r : BootResult) :
    (s.bootKeys r).shr.keyMapLoaded = true ∧
      (∀ n < 64, ∀ p, s.sea.value (recShroudKey n) = some p → bitOf r.badSlots n = false →
        ((s.bootKeys r).keySlot n).key = BitVec.ofNat 512 (leNat (p.take 64))) ∧
      ∀ n < 8, ∀ p, s.sea.value (recKceKey n) = some p → bitOf r.badRegs n = false →
        (s.bootKeys r).kce.holds n (BitVec.ofNat 256 (leNat (p.take 32))) := by
  unfold State.bootKeys
  extract_lets u v w x
  have hv : Within [.shr, .log] u v :=
    Within.foldl (fun y m h => Within.step (y.unwrapSlot_within _ _) (by decide) h) (Within.refl _ u)
  have hw : Within [.kce, .log] v w :=
    Within.foldl (fun y m h => Within.step (y.unwrapReg_within _ _) (by decide) h) (Within.refl _ v)
  have hseals : Within [.media, .log] x (x.media.registry.foldl State.discardSeal x) :=
    Within.foldl (fun y e h => Within.step (y.discardSeal_within _) (by decide) h) (Within.refl _ x)
  have hextents : Within [.hostLogs, .kce, .log, .evt] (x.media.registry.foldl State.discardSeal x)
      (x.sea.extents.foldl State.loadExtent (x.media.registry.foldl State.discardSeal x)) :=
    Within.foldl (fun y e h => Within.step (y.loadExtent_within _) (by decide) h) (Within.refl _ _)
  have husea : u.sea = s.sea := s.loadKeyMap_within.same .sea (by decide)
  have hvsea : v.sea = s.sea := (hv.same .sea (by decide)).trans husea
  have hloaded : v.shr.keyMapLoaded = u.shr.keyMapLoaded := by
    unfold v
    exact foldl_keeps (fun y : State => y.shr.keyMapLoaded) (f := fun (y : State) m => y.unwrapSlot r.badSlots m)
      (fun y m => y.unwrapSlot_keyMapLoaded m) _ u
  have hslots (n : Nat) (hn : n < 64) (p : List Byte) (hp : s.sea.value (recShroudKey n) = some p)
      (hgood : bitOf r.badSlots n = false) : (v.keySlot n).key = BitVec.ofNat 512 (leNat (p.take 64)) :=
    State.keySlot_unwrapSlots (List.mem_range.mpr hn) (husea ▸ hp) hgood
  have hregs (n : Nat) (hn : n < 8) (p : List Byte) (hp : s.sea.value (recKceKey n) = some p)
      (hgood : bitOf r.badRegs n = false) : w.kce.holds n (BitVec.ofNat 256 (leNat (p.take 32))) := by
    unfold w
    exact State.holds_unwrapRegs (List.mem_range.mpr hn) hn (by rw [hvsea]; exact hp) hgood
  obtain ⟨hxloaded, hxkey⟩ := w.resumeRekey_leaves
  have hxkce := w.resumeRekey_within.same .kce (by decide)
  have hx : w.resumeRekey = x := rfl
  clear_value x w v
  rw [hx] at hxloaded hxkey hxkce
  have hshr : (x.sea.extents.foldl State.loadExtent (x.media.registry.foldl State.discardSeal x)).shr = x.shr :=
    (hextents.same .shr (by decide)).trans (hseals.same .shr (by decide))
  have hwshr : w.shr = v.shr := hw.same .shr (by decide)
  refine ⟨?_, fun n hn p hp hgood => ?_, fun n hn p hp hgood => ?_⟩
  · rw [hshr, hxloaded, hwshr, hloaded]
    rfl
  · rw [State.keySlot_congr hshr]
    refine (hxkey n).trans ?_
    rw [State.keySlot_congr hwshr]
    exact hslots n hn p hp hgood
  · refine foldl_invariant (P := fun y : State => y.kce.holds n (BitVec.ofNat 256 (leNat (p.take 32))))
      (fun y e h => (y.holds_loadExtent e n _).mpr h) _ ?_
    rw [hseals.same .kce (by decide), hxkce]
    exact hregs n hn p hp hgood

/-! ## The wear bump and what a shutdown owed (R141, R272, R323) -/

/-- The wear bump rises without another counter changing (R399). -/
theorem State.loadBump_counter (s : State) {c : Nat} (hc : c ≠ 5) : s.loadBump.sea.counter c = s.sea.counter c := by
  have hinc : (s.counterInc 5 true).1.sea.counter c = s.sea.counter c := by
    unfold State.counterInc Sea.counter
    split
    · rw [State.fire_sea]
    · rw [if_pos rfl]
      dsimp only
      rw [Sparse.get_set_other _ _ _ hc]
      split
      · rw [State.counters_refillCounters]
      · rfl
  unfold State.loadBump
  dsimp only
  split
  · exact hinc
  · rfl

theorem State.copyPowerEvent_dty (s : State) : s.copyPowerEvent.dty = { s.dty with evValid := false } := by
  unfold State.copyPowerEvent
  split
  next h =>
    have hno : s.dty.evValid = false := by simpa using h
    rw [← hno]
  · exact State.fire_dty _ _ _ _

theorem State.payDebugExit_dty (s : State) : s.payDebugExit.dty = { s.dty with dbgOwed := false } := by
  unfold State.payDebugExit
  split
  next h =>
    have hno : s.dty.dbgOwed = false := by simpa using h
    rw [← hno]
  · exact (State.debugExitRecord_within _ _).same .dty (by decide)

theorem State.fired_payDebugExit (s : State) {i : Nat} {v : Severity} (hi : i ≠ 1279) :
    s.payDebugExit.fired i v ↔ s.fired i v := by
  unfold State.payDebugExit State.debugExitRecord
  split
  · rfl
  · rw [State.fired_fire, if_neg hi]
    exact State.fired_of_evt ((State.logPut_within _ _ _ _ _).same .evt (by decide)) i v

theorem State.fired_noteSaturated (s : State) {i : Nat} {v : Severity} (hi : i ≠ 1277) :
    s.noteSaturated.fired i v ↔ s.fired i v := by
  unfold State.noteSaturated
  rw [← eq_iff_iff]
  refine foldl_keeps (fun u : State => u.fired i v) (fun u c => ?_) _ s
  split
  · rw [State.fired_fireSub, if_neg hi]
  · rfl

theorem State.bootSettled_leaves (s : State) :
    s.bootSettled.dty.evValid = false ∧ s.bootSettled.dty.dbgOwed = false ∧
      (s.dty.evValid = true → s.bootSettled.fired 1257 .fault) ∧
      (s.dty.dbgOwed = true → s.bootSettled.fired 1279 .note) := by
  have hdty : s.bootSettled.dty = { s.dty with evValid := false, dbgOwed := false } := by
    unfold State.bootSettled
    rw [(State.noteSaturated_within _).same .dty (by decide), State.payDebugExit_dty, State.copyPowerEvent_dty]
  refine ⟨congrArg Dty.evValid hdty, congrArg Dty.dbgOwed hdty, fun hev => ?_, fun howed => ?_⟩
  · unfold State.bootSettled
    rw [State.fired_noteSaturated _ (by decide), State.fired_payDebugExit _ (by decide), State.copyPowerEvent,
      if_neg (by simp [hev])]
    exact (State.fired_fire _ _ _ _ _ _).mpr (by rw [if_pos rfl])
  · have howed' : s.copyPowerEvent.dty.dbgOwed = true := by rw [State.copyPowerEvent_dty]; exact howed
    unfold State.bootSettled
    rw [State.fired_noteSaturated _ (by decide), State.payDebugExit, if_neg (by simp [howed'])]
    exact (State.fired_fire _ _ _ _ _ _).mpr (by rw [if_pos rfl])

/-! ## The plan at boot (R106, R363) -/

/-- The KCE but for its count of dropped requests. -/
def Kce.butDrops (k : Kce) : Kce := { k with drops := 0 }

theorem requestKeeps_butDrops : RequestKeeps fun s : State => s.kce.butDrops where
  parts s t h := congrArg Kce.butDrops (h.same .kce (by decide))
  fireSub s i sub v d _ := congrArg Kce.butDrops ((s.fireSub_within i sub v d).same .kce (by decide))
  modPort s p f _ := by cases p <;> rfl
  reserved _ _ _ := rfl
  drops _ _ := rfl

/-- A new plan presents waiting requests: what the request path keeps, and the budget and the level leave, it keeps. -/
theorem RequestKeeps.bootPlan {β : Type} {π : State → β} (hπ : RequestKeeps π)
    (hplan : ∀ (s : State) (g : Glb) (x : Tel), π { s with glb := g, tel := x } = π s)
    (hbudget : ∀ s : State, π s.settleBudget = π s) (hlevel : ∀ s : State, π s.settleLevel = π s) (s : State) :
    π s.bootPlan = π s := by
  unfold State.bootPlan
  split
  · unfold State.replan
    rw [hπ.pumpAll, hlevel, hbudget]
    exact hplan s _ _
  · rfl

theorem State.bootPlan_portLocks (s : State) : s.bootPlan.portLocks = s.portLocks :=
  requestKeeps_portLocks.bootPlan (fun _ _ _ => rfl)
    (fun u => u.settleBudget_within.portLocks_eq (by decide) (by decide))
    (fun u => u.settleLevel_within.portLocks_eq (by decide) (by decide)) s

theorem State.bootPlan_hly (s : State) : s.bootPlan.hly = s.hly :=
  requestKeeps_hly.bootPlan (fun _ _ _ => rfl) (fun u => u.settleBudget_within.same .hly (by decide))
    State.settleLevel_hly s

theorem State.bootPlan_butDrops (s : State) : s.bootPlan.kce.butDrops = s.kce.butDrops :=
  requestKeeps_butDrops.bootPlan (fun _ _ _ => rfl)
    (fun u => congrArg Kce.butDrops (u.settleBudget_within.same .kce (by decide)))
    (fun u => congrArg Kce.butDrops u.settleLevel_kce) s

theorem State.fired_bootPlan (s : State) {i : Nat} (hi : 1230 ≤ i) (v : Severity) : s.bootPlan.fired i v ↔ s.fired i v :=
  Iff.of_eq ((requestKeeps_fired hi v).bootPlan (fun _ _ _ => rfl)
    (fun u => propext (u.fired_settleBudget _ _ (by omega))) (fun u => propext (u.fired_settleLevel _ _ (by omega))) s)

/-! ## The boot as a whole -/

/-- What the sea chest and the metadata hold, and what they leave as the settings left it. -/
theorem State.bootLoaded_within (s : State) (r : BootResult) :
    Within [.hostLogs, .media, .shr, .kce, .log, .evt, .stp, .wlv, .draws, .sea] s.bootSettings (s.bootLoaded r) :=
  Within.step (State.loadBump_within _) (by decide) (Within.step (State.drawWearKey_within _) (by decide)
    (Within.step (State.loadPoison_within _) (by decide)
      (Within.step (State.bootKeys_within _ _) (by decide) (Within.refl _ _))))

/-- After the keys, neither they nor the key map change until the plan. -/
theorem State.bootLoaded_keys (s : State) (r : BootResult) :
    (s.bootLoaded r).shr = (s.bootSettings.bootKeys r).shr ∧ (s.bootLoaded r).kce = (s.bootSettings.bootKeys r).kce ∧
      (s.bootLoaded r).sea.counter 2 = s.bootSettings.sea.counter 2 := by
  have hw : Within [.stp, .wlv, .draws, .media] (s.bootSettings.bootKeys r)
      (s.bootSettings.bootKeys r).loadPoison.drawWearKey :=
    Within.step (State.drawWearKey_within _) (by decide) (Within.step (State.loadPoison_within _) (by decide)
      (Within.refl _ _))
  have hb := State.loadBump_within (s.bootSettings.bootKeys r).loadPoison.drawWearKey
  refine ⟨(hb.same .shr (by decide)).trans (hw.same .shr (by decide)),
    (hb.same .kce (by decide)).trans (hw.same .kce (by decide)), ?_⟩
  refine (State.loadBump_counter _ (by decide)).trans ?_
  rw [hw.same .sea (by decide), (s.bootSettings.bootKeys_within r).same .sea (by decide)]

theorem State.bootSettled_within (s : State) : Within [.hostLogs, .log, .dty, .evt] s s.bootSettled :=
  Within.step (State.noteSaturated_within _) (by decide) (Within.step (State.payDebugExit_within _) (by decide)
    (Within.step (State.copyPowerEvent_within _) (by decide) (Within.refl _ _)))

theorem State.bootPlan_keeps (s : State) :
    s.bootPlan.mst = s.mst ∧ s.bootPlan.rst = s.rst ∧ s.bootPlan.dbg = s.dbg ∧ s.bootPlan.shr = s.shr ∧
      s.bootPlan.dty = s.dty :=
  ⟨s.bootPlan_within.same .mst (by decide), s.bootPlan_within.same .rst (by decide),
    s.bootPlan_within.same .dbg (by decide), s.bootPlan_within.same .shr (by decide),
    s.bootPlan_within.same .dty (by decide)⟩

theorem Kce.holds_of_butDrops {k l : Kce} (h : k.butDrops = l.butDrops) {n : Nat} {key : BitVec 256}
    (hl : l.holds n key) : k.holds n key := by
  have hloaded : k.loaded = l.loaded := (congrArg Kce.loaded h :)
  have hkeys : k.keys = l.keys := (congrArg Kce.keys h :)
  unfold Kce.holds Kce.key
  rw [hloaded, hkeys]
  exact hl

theorem State.locked_of_portLocks {s : State} (h : s.portLocks = (true, true)) :
    s.port0.lock = true ∧ s.port1.lock = true :=
  ⟨congrArg Prod.fst h, congrArg Prod.snd h⟩

/-- What the boot opens, before what a shutdown owed is recorded. -/
theorem State.bootOpen_leaves (s : State) (r : BootResult) :
    (s.bootOpen r).mst.running = true ∧ (s.bootOpen r).rst.booted = true ∧ (s.bootOpen r).portLocks = (true, true) ∧
      (s.bootOpen r).hly.sidebandOn = true ∧ (s.bootOpen r).dbg.epoch = BitVec.ofNat 24 (s.sea.counter 2) ∧
      (s.bootOpen r).dty.evValid = s.dty.evValid ∧ (s.bootOpen r).dty.dbgOwed = s.dty.dbgOwed ∧
      (s.bootOpen r).shr.keyMapLoaded = true ∧
      (∀ n < 64, ∀ p, s.sea.value (recShroudKey n) = some p → bitOf r.badSlots n = false →
        ((s.bootOpen r).keySlot n).key = BitVec.ofNat 512 (leNat (p.take 64))) ∧
      ∀ n < 8, ∀ p, s.sea.value (recKceKey n) = some p → bitOf r.badRegs n = false →
        (s.bootOpen r).kce.holds n (BitVec.ofNat 256 (leNat (p.take 32))) := by
  have hloaded := s.bootLoaded_within r
  have hset := s.bootSettings_within
  obtain ⟨hshr, hkce, hcounter⟩ := s.bootLoaded_keys r
  obtain ⟨hmap, hslots, hregs⟩ := s.bootSettings.bootKeys_leaves r
  have hsea : s.bootSettings.sea = s.sea := hset.same .sea (by decide)
  have hdty : (s.bootLoaded r).dty = s.imageRuns.dty := (hloaded.same .dty (by decide)).trans (hset.same .dty (by decide))
  have hrst : (s.bootLoaded r).rst = s.imageRuns.rst := (hloaded.same .rst (by decide)).trans (hset.same .rst (by decide))
  rw [hsea] at hcounter hslots hregs
  have hmst : (s.bootLoaded r).mst = s.bootSettings.mst := hloaded.same .mst (by decide)
  have hlocks : (s.bootLoaded r).portLocks = s.bootSettings.portLocks := hloaded.portLocks_eq (by decide) (by decide)
  have hrun : (s.bootLoaded r).mst.running = true := by rw [hmst, s.bootSettings_running]
  have hbooted : (s.bootLoaded r).rst.booted = true := by rw [hrst]; rfl
  have hev : (s.bootLoaded r).dty.evValid = s.dty.evValid := by rw [hdty]; rfl
  have howed : (s.bootLoaded r).dty.dbgOwed = s.dty.dbgOwed := by rw [hdty]; rfl
  rw [← hshr] at hmap
  rw [← hkce] at hregs
  have hslots' (n : Nat) (hn : n < 64) (p : List Byte) (hp : s.sea.value (recShroudKey n) = some p)
      (hgood : bitOf r.badSlots n = false) :
      ((s.bootLoaded r).keySlot n).key = BitVec.ofNat 512 (leNat (p.take 64)) := by
    rw [State.keySlot_congr hshr]
    exact hslots n hn p hp hgood
  unfold State.bootOpen
  generalize s.bootLoaded r = u at *
  exact ⟨hrun, hbooted, hlocks.trans rfl, rfl, congrArg (BitVec.ofNat 24) hcounter, hev, howed, hmap, hslots', hregs⟩

theorem completes_firmwareBoot {s : State} {r : BootResult} (hrel : s.mst.released = true)
    (hboot : s.rst.booted = false) (hsettled : s.sea.settled = true) (hok : r.imageOk = true) :
    Completes (.firmwareBoot r) s fun t =>
      t.mst.running = true ∧ t.rst.booted = true ∧ t.port0.lock = true ∧ t.port1.lock = true ∧
        t.hly.sidebandOn = true ∧ t.dbg.epoch = BitVec.ofNat 24 (s.sea.counter 2) ∧
        t.shr.keyMapLoaded = true ∧ t.dty.dbgOwed = false ∧ t.dty.evValid = false ∧
        (s.dty.evValid = true → t.fired 1257 .fault) ∧
        (s.dty.dbgOwed = true → t.fired 1279 .note) ∧
        (∀ n < 64, ∀ p, s.sea.value (recShroudKey n) = some p → bitOf r.badSlots n = false →
          (t.keySlot n).key = BitVec.ofNat 512 (leNat (p.take 64))) ∧
        (∀ n < 8, ∀ p, s.sea.value (recKceKey n) = some p → bitOf r.badRegs n = false →
          bitOf t.kce.loaded n = true ∧ t.kce.key n = BitVec.ofNat 256 (leNat (p.take 32))) := by
  obtain ⟨hrun, hbooted, hlocks, hside, hepoch, hev, howed, hmap, hslots, hregs⟩ := s.bootOpen_leaves r
  refine ⟨_, exec_firmwareBoot hrel hboot hsettled hok, ?_⟩
  generalize s.bootOpen r = u at *
  obtain ⟨hev', howed', hfires, hexits⟩ := u.bootSettled_leaves
  have hsettles := u.bootSettled_within
  have hlocks' : u.bootSettled.bootPlan.portLocks = (true, true) :=
    (State.bootPlan_portLocks _).trans ((hsettles.portLocks_eq (by decide) (by decide)).trans hlocks)
  obtain ⟨hmst, hrst, hdbg, hshr, hdty⟩ := u.bootSettled.bootPlan_keeps
  have hkce : u.bootSettled.bootPlan.kce.butDrops = u.kce.butDrops :=
    (State.bootPlan_butDrops _).trans (congrArg Kce.butDrops (hsettles.same .kce (by decide)))
  have hshr' : u.bootSettled.bootPlan.shr = u.shr := hshr.trans (hsettles.same .shr (by decide))
  rw [hmst, hsettles.same .mst (by decide), hrst, hsettles.same .rst (by decide), State.bootPlan_hly,
    hsettles.same .hly (by decide), hdbg, hsettles.same .dbg (by decide), hshr', hdty,
    State.fired_bootPlan _ (i := 1257) (by decide), State.fired_bootPlan _ (i := 1279) (by decide)]
  obtain ⟨hlock0, hlock1⟩ := State.locked_of_portLocks hlocks'
  refine ⟨hrun, hbooted, hlock0, hlock1, hside, hepoch, hmap, howed', hev',
    fun h => hfires (hev.trans h), fun h => hexits (howed.trans h), fun n hn p hp hgood => ?_,
    fun n hn p hp hgood => Kce.holds_of_butDrops hkce (hregs n hn p hp hgood)⟩
  rw [State.keySlot_congr hshr']
  exact hslots n hn p hp hgood

/-- Settles O47: the watchdog, the release of the domains, the fill, and the boot as the chain of its steps. -/
theorem bringUpReleasesDomainsInOrder : Obligations.BringUpReleasesDomainsInOrder := by
  unfold Obligations.BringUpReleasesDomainsInOrder
  exact ⟨fun s haon hup => ⟨fun n => completes_clockWatchdogExpiry_dpll haon hup,
      completes_clockWatchdogExpiry_mpll haon hup, fun p => completes_clockWatchdogExpiry_port haon hup,
      fun n => completes_clockWatchdogExpiry_hbm haon hup⟩,
    fun crc s => ⟨completes_domainRelease_aon, completes_domainRelease_datapath, completes_domainRelease_datapath_not,
      completes_domainRelease_mainmast, completes_domainRelease_mainmast_not, fun p => completes_domainRelease_port,
      fun p => completes_domainRelease_port_not⟩,
    fun s hdp hfill hfuse => ⟨completes_arrayFillDone_good hdp hfill hfuse, completes_arrayFillDone_belay hdp hfill hfuse,
      completes_arrayFillDone_victims hdp hfill hfuse⟩,
    fun r s hrel hboot hsettled => ⟨completes_firmwareBoot_badImage, completes_firmwareBoot hrel hboot hsettled⟩⟩

end Sys2Proof.Machine


/-! SUPPORT. Hold-up measurements, the trim plan and the monitors (O48). -/

namespace Sys2Proof.Machine

open Sys2Proof

/-! ## A new plan (R105, R367) -/

/-- The dirty budget and the usable energy that are published. -/
def Glb.plan (g : Glb) : Nat × Nat := (g.budget, g.energyMj)

theorem State.settleLevel_plan (s : State) : s.settleLevel.glb.plan = s.glb.plan := by
  have h : s.settleLevel.glb.settled = s.glb.settled := s.settleLevel_within.same .glb (by decide)
  exact (congrArg Glb.plan h :)

theorem State.settleBudget_plan (s : State) : s.settleBudget.glb.plan = s.glb.plan := by
  unfold State.settleBudget
  dsimp only
  split
  · rw [State.fire_glb]
    rfl
  · rfl

theorem State.pumpAll_plan (s : State) : s.pumpAll.glb.plan = s.glb.plan :=
  (congrArg Glb.plan (requestKeeps_butReserved.pumpAll s) :)

/-- A new plan publishes the budget and the energy, and leaves the tell-tales, the plan and the sources above those
that requests fire. -/
theorem State.replan_leaves (s : State) :
    s.replan.glb.plan = (s.plannedBudget, min 0xFFFF s.tel.euMj) ∧ s.replan.tel = s.tel ∧ s.replan.trm = s.trm ∧
      ∀ i v, 1230 ≤ i → (s.replan.fired i v ↔ s.fired i v) := by
  refine ⟨?_, s.replan_within.same .tel (by decide), s.replan_within.same .trm (by decide), fun i v hi => ?_⟩
  · unfold State.replan
    rw [State.pumpAll_plan, State.settleLevel_plan, State.settleBudget_plan]
    rfl
  · unfold State.replan
    refine (Iff.of_eq ((requestKeeps_fired hi v).pumpAll _)).trans ?_
    rw [State.fired_settleLevel _ _ _ (by omega), State.fired_settleBudget _ _ _ (by omega)]
    rfl

/-- Memory that becomes active leaves the plan (R363). -/
theorem State.activateMemory_leaves (s : State) :
    s.activateMemory.glb.plan = s.glb.plan ∧ s.activateMemory.glb.memoryActive = true ∧
      s.activateMemory.dty.stage = 0x0C#8 ∧ ∀ i v, 1230 ≤ i → (s.activateMemory.fired i v ↔ s.fired i v) := by
  unfold State.activateMemory
  extract_lets _ u
  have hlevel : (u.bootStage 0x0C).settleLevel.glb.settled = u.glb.settled :=
    (u.bootStage 0x0C).settleLevel_within.same .glb (by decide)
  refine ⟨?_, ?_, ?_, fun i v hi => ?_⟩
  · rw [State.pumpAll_plan, State.settleLevel_plan]
    rfl
  · have hactive : (u.bootStage 0x0C).settleLevel.pumpAll.glb.memoryActive =
        (u.bootStage 0x0C).settleLevel.glb.memoryActive :=
      (congrArg Glb.memoryActive (requestKeeps_butReserved.pumpAll _) :)
    exact hactive.trans (congrArg Glb.memoryActive hlevel :)
  · rw [(State.pumpAll_within _).same .dty (by decide), State.settleLevel_dty]
    rfl
  · refine (Iff.of_eq ((requestKeeps_fired hi v).pumpAll _)).trans ?_
    rw [State.fired_settleLevel _ _ _ (by omega)]
    rfl

/-! ## The start of a measurement (R360) -/

section
variable {path : Path} {s : State}

theorem State.startMeasure_leaves (s : State) :
    s.startMeasure.tel.busy = true ∧ s.startMeasure.tel.measuredAt = some s.clock := ⟨rfl, rfl⟩

theorem completes_holdupGo (hmay : s.mayMeasure = true) (hpath : s.resetPath path ≠ none) :
    Completes (.holdupGo path) s fun t => t.tel.busy = true ∧ t.tel.measuredAt = some s.clock := by
  obtain ⟨b, hb⟩ := Option.ne_none_iff_exists'.mp hpath
  refine ⟨_, rfl, ?_⟩
  dsimp only
  rw [hb]
  dsimp only
  rw [if_pos hmay]
  exact s.startMeasure_leaves

theorem completes_holdupMeasureStart (hmay : s.mayMeasure = true) (hrun : s.mst.running = true)
    (hdue : s.measureDue = true) :
    Completes .holdupMeasureStart s fun t => t.tel.busy = true ∧ t.tel.measuredAt = some s.clock := by
  refine ⟨_, rfl, ?_⟩
  dsimp only
  rw [if_pos (by simp [hrun, hdue, hmay])]
  exact s.startMeasure_leaves

theorem completes_holdupGo_not (hmay : s.mayMeasure = false) : Completes (.holdupGo path) s fun t => t = s := by
  refine ⟨_, rfl, ?_⟩
  dsimp only
  split
  · rw [if_neg (by simp [hmay])]
  · rfl

theorem completes_holdupMeasureStart_not (hmay : s.mayMeasure = false) :
    Completes .holdupMeasureStart s fun t => t = s := by
  refine ⟨_, rfl, ?_⟩
  dsimp only
  rw [if_neg (by simp [hmay])]

theorem State.mayMeasure_of_early (h : s.seq.state ≠ .run ∨ s.elapsedOpt s.tel.measuredAt (sec 600) = false) :
    s.mayMeasure = false := by
  unfold State.mayMeasure
  rcases h with h | h <;> simp [h]

end

/-! ## The end of a measurement (R361, R362) -/

section
variable {r : HoldupRead} {s : State}

theorem completes_holdupMeasureEnd_idle (hbusy : s.tel.busy = false) :
    Completes (.holdupMeasureEnd r) s fun t => t = s := by
  refine ⟨_, rfl, ?_⟩
  dsimp only
  rw [if_pos (by simp [hbusy])]

section
variable (hbusy : s.tel.busy = true)

/-- The measurement over. -/
def State.measured (s : State) : State := { s with tel := { s.tel with busy := false } }

include hbusy in
theorem exec_holdupMeasureEnd :
    exec (.holdupMeasureEnd r) s =
      .next (if s.tel.invalid r then s.measured.invalidMeasure else s.measured.validMeasure r) := by
  change Host.Outcome.next (if _ then _ else _) = _
  rw [if_neg (by simp [hbusy])]
  rfl

include hbusy in
theorem completes_holdupMeasureEnd_invalid (hbad : s.tel.invalid r = true) (hrow : s.tel.invalidRun ≠ 2) :
    Completes (.holdupMeasureEnd r) s fun t =>
      t.tel.busy = false ∧ t.tel.valid = false ∧ t.tel.invalidRun = s.tel.invalidRun + 1 ∧
        t.tel.euMj = s.tel.euMj ∧ t.glb.budget = s.glb.budget ∧ t.fired 1269 .warn := by
  refine ⟨_, exec_holdupMeasureEnd hbusy, ?_⟩
  dsimp only
  rw [if_pos hbad, State.invalidMeasure, if_neg (by change ¬s.tel.invalidRun + 1 = 3; omega), State.fire_tel, State.fire_glb,
    State.fired_fire, if_pos rfl]
  exact ⟨rfl, rfl, rfl, rfl, rfl, rfl⟩

include hbusy in
theorem completes_holdupMeasureEnd_third (hbad : s.tel.invalid r = true) (hrow : s.tel.invalidRun = 2) :
    Completes (.holdupMeasureEnd r) s fun t =>
      t.tel.invalidRun = 3 ∧ t.tel.euMj = s.tel.euMj * 9 / 10 ∧ t.fired 1269 .fault ∧ t.trm.due = true := by
  refine ⟨_, exec_holdupMeasureEnd hbusy, ?_⟩
  dsimp only
  rw [if_pos hbad, State.invalidMeasure, if_pos (by change s.tel.invalidRun + 1 = 3; omega)]
  extract_lets _ _ _ u
  obtain ⟨-, htel, htrm, hfired⟩ :=
    (u.fire 1269 .fault ⟨0xFF, u.trm.generation.toNat, 3, u.tel.euMj⟩).replan_leaves
  rw [htel, htrm, hfired _ _ (by decide), State.fire_tel, State.fire_trm, State.fired_fire, if_pos rfl]
  exact ⟨congrArg (· + 1) hrow, rfl, rfl, rfl⟩

/-- A valid reading taken. -/
def State.readingTaken (s : State) (r : HoldupRead) : State :=
  { s with
    tel := { s.tel with
      valid := true, measured := true, invalidRun := 0, capMf := r.capMf, esr := r.esr, planTime := s.glb.time
      euMj := usableEnergy r.capMf r.esr s.tel.dropoutDv s.tel.strings }
    trm := { s.trm with due := true } }

theorem usableEnergy_single (c e dv : Nat) : usableEnergy c e dv 1 = 0 := by simp [usableEnergy]

end
end

/-- The history takes a record, and the record is counted under its source (R368). -/
theorem State.history_leaves (s : State) (summary : Bool) :
    (s.history summary).fired 1269 .note ∧ (s.history summary).trm = s.trm ∧
      ∃ h : Hist, h.summary = summary ∧ h.time = s.glb.time ∧
        (s.history summary).tel = { s.tel with
          history := (s.tel.history ++ [h]).drop ((s.tel.history ++ [h]).length - 1024) } := by
  unfold State.history
  extract_lets _ _ h _ _ u
  rw [State.fire_trm, State.fire_tel, State.fired_fire, if_pos rfl]
  exact ⟨rfl, rfl, h, rfl, rfl, rfl⟩

theorem State.project_leaves (s : State) :
    (∃ x, s.project.tel = { s.tel with projectAt := x }) ∧ s.project.trm = s.trm ∧
      ∀ i v, i ≠ 1271 → (s.project.fired i v ↔ s.fired i v) := by
  unfold State.project
  split
  · exact ⟨⟨s.tel.projectAt, rfl⟩, rfl, fun _ _ _ => Iff.rfl⟩
  · split
    · exact ⟨⟨s.tel.projectAt, rfl⟩, rfl, fun _ _ _ => Iff.rfl⟩
    · rw [State.fire_tel, State.fire_trm]
      refine ⟨⟨_, rfl⟩, rfl, fun i v hi => ?_⟩
      rw [State.fired_fire, if_neg hi]
      rfl

theorem State.tryActivate_leaves (s : State) :
    s.tryActivate.glb.plan = s.glb.plan ∧ s.tryActivate.tel = s.tel ∧ s.tryActivate.trm = s.trm ∧
      ∀ i v, 1230 ≤ i → (s.tryActivate.fired i v ↔ s.fired i v) := by
  refine ⟨?_, s.tryActivate_within.same .tel (by decide), s.tryActivate_within.same .trm (by decide), fun i v hi => ?_⟩
  · unfold State.tryActivate
    split
    · exact s.activateMemory_leaves.1
    · rfl
  · unfold State.tryActivate
    split
    · exact s.activateMemory_leaves.2.2.2 i v hi
    · rfl

/-- A lost capacitor recorded before the reading enters the history. -/
def State.readingNoted (s : State) (r : HoldupRead) : State :=
  if s.tel.capMf != 0 && decide (s.tel.capMf < (s.tel.capMf - r.capMf) * 2 * s.tel.strings) then
    (s.readingTaken r).fire 1270 .fault Detail.none
  else s.readingTaken r

theorem State.validMeasure_eq (s : State) (r : HoldupRead) :
    s.validMeasure r = (((s.readingNoted r).history false).project.replan).tryActivate := rfl

theorem State.readingNoted_leaves (s : State) (r : HoldupRead) :
    (s.readingNoted r).tel = (s.readingTaken r).tel ∧ (s.readingNoted r).trm = (s.readingTaken r).trm := by
  unfold State.readingNoted
  split
  · exact ⟨State.fire_tel _ _ _ _, State.fire_trm _ _ _ _⟩
  · exact ⟨rfl, rfl⟩

theorem State.validMeasure_leaves (s : State) (r : HoldupRead) :
    (∃ l x, (s.validMeasure r).tel = { (s.readingTaken r).tel with history := l, projectAt := x }) ∧
      (s.validMeasure r).glb.energyMj = min 0xFFFF (s.readingTaken r).tel.euMj ∧
      (Sparse.find s.trm.overrides 0x0001 = none →
        (s.validMeasure r).glb.budget = budgetFor (s.readingTaken r).tel.euMj) ∧
      (s.validMeasure r).fired 1269 .note := by
  rw [State.validMeasure_eq]
  obtain ⟨htel, htrm⟩ := s.readingNoted_leaves r
  obtain ⟨hfired, hhtrm, h, -, -, hhtel⟩ := (s.readingNoted r).history_leaves false
  rw [htel] at hhtel
  rw [htrm] at hhtrm
  generalize (s.readingNoted r).history false = u at *
  obtain ⟨⟨x, hptel⟩, hptrm, hpfired⟩ := u.project_leaves
  obtain ⟨hplan, hrtel, hrtrm, hrfired⟩ := u.project.replan_leaves
  obtain ⟨haplan, hatel, -, hafired⟩ := u.project.replan.tryActivate_leaves
  have heu : u.project.tel.euMj = (s.readingTaken r).tel.euMj := by rw [hptel, hhtel]
  rw [heu] at hplan
  have hplan' := haplan.trans hplan
  refine ⟨⟨u.tel.history, x, ?_⟩, congrArg Prod.snd hplan', fun hover => ?_, ?_⟩
  · rw [hatel, hrtel, hptel, hhtel]
  · refine (congrArg Prod.fst hplan').trans ?_
    have hnone : Sparse.find u.project.trm.overrides 0x0001 = none := by rw [hptrm, hhtrm]; exact hover
    unfold State.plannedBudget
    rw [hnone, heu]
  · rw [hafired _ _ (by decide), hrfired _ _ (by decide), hpfired _ _ (by decide)]
    exact hfired

theorem completes_holdupMeasureEnd_valid {r : HoldupRead} {s : State} (hbusy : s.tel.busy = true)
    (hgood : s.tel.invalid r = false) :
    Completes (.holdupMeasureEnd r) s fun t =>
      t.tel.valid = true ∧ t.tel.invalidRun = 0 ∧ t.tel.capMf = r.capMf ∧ t.tel.esr = r.esr ∧
        t.tel.euMj = usableEnergy r.capMf r.esr s.tel.dropoutDv s.tel.strings ∧
        t.glb.energyMj = min 0xFFFF t.tel.euMj ∧
        (Sparse.find s.trm.overrides 0x0001 = none → t.glb.budget = budgetFor t.tel.euMj) ∧
        (s.tel.strings = 1 → t.tel.euMj = 0) ∧ t.fired 1269 .note := by
  obtain ⟨⟨l, x, htel⟩, henergy, hbudget, hfired⟩ := s.measured.validMeasure_leaves r
  refine ⟨_, exec_holdupMeasureEnd hbusy, ?_⟩
  dsimp only
  rw [if_neg (by simp [hgood]), htel]
  refine ⟨rfl, rfl, rfl, rfl, rfl, henergy, hbudget, fun hone => ?_, hfired⟩
  change usableEnergy r.capMf r.esr s.tel.dropoutDv s.tel.strings = 0
  rw [hone, usableEnergy_single]

/-! ## A device without history (R363) -/

section
variable {c : Nat} {s : State} (hup : s.rst.mediaUpAt = some c)
include hup

theorem completes_holdupBootTimeout (hreplay : s.glb.replayDone = true) (hactive : s.glb.memoryActive = false)
    (hhist : s.tel.history = []) (hvalid : s.tel.valid = false) (hbusy : s.tel.busy = false)
    (hdue : s.elapsed c (sec 15) = true) :
    Completes .holdupBootTimeout s fun t => t.glb.memoryActive = true ∧ t.glb.budget = 0 ∧ t.dty.stage = 0x0C#8 := by
  refine ⟨_, rfl, ?_⟩
  dsimp only
  rw [hup]
  dsimp only
  rw [if_neg (by simp [hreplay, hactive, hhist, hvalid, hbusy, hdue])]
  generalize hu : ({ s with tel := { s.tel with euMj := 0 } } : State) = u
  obtain ⟨hplan, -, -, -⟩ := u.replan_leaves
  obtain ⟨haplan, hmem, hstage, -⟩ := u.replan.activateMemory_leaves
  refine ⟨hmem, (congrArg Prod.fst (haplan.trans hplan)).trans ?_, hstage⟩
  have heu : u.tel.euMj = 0 := hu ▸ rfl
  unfold State.plannedBudget
  rw [heu]
  dsimp only
  split <;> simp [budgetFor]

theorem completes_holdupBootTimeout_early (hdue : s.elapsed c (sec 15) = false) :
    Completes .holdupBootTimeout s fun t => t = s := by
  refine ⟨_, rfl, ?_⟩
  dsimp only
  rw [hup]
  dsimp only
  rw [if_pos (by simp [hdue])]

end
/-! ## The trim plan (R364 to R367) -/

section
variable (f : Margin → Int)

theorem find_foldl_put_other {l : List Margin} {k : Nat} (h : ∀ m ∈ l, m.id ≠ k) (v : Sparse Int) :
    Sparse.find (l.foldl (fun v m => Sparse.put v m.id (f m)) v) k = Sparse.find v k := by
  induction l generalizing v with
  | nil => rfl
  | cons a l ih =>
    obtain ⟨ha, hl⟩ := List.forall_mem_cons.mp h
    rw [List.foldl_cons, ih hl, Sparse.find_put_other _ _ (Ne.symm ha)]

/-- A table that takes a value for every margin of a list holds each of them. -/
theorem find_foldl_put {l : List Margin} (hl : (l.map Margin.id).Nodup) {m : Margin} (hm : m ∈ l) (v : Sparse Int) :
    Sparse.find (l.foldl (fun v m => Sparse.put v m.id (f m)) v) m.id = some (f m) := by
  induction l generalizing v with
  | nil => simp at hm
  | cons a l ih =>
    rw [List.map_cons, List.nodup_cons] at hl
    obtain ⟨ha, hl⟩ := hl
    rw [List.foldl_cons]
    rcases List.mem_cons.mp hm with rfl | hm
    · rw [find_foldl_put_other f fun b hb hid => ha (List.mem_map.mpr ⟨b, hb, hid⟩), Sparse.find_put_same]
    · exact ih hl hm _

end

theorem margins_nodup : (margins.map Margin.id).Nodup := by decide

/-- The margins of a list that the plan chooses, in force. -/
def Trm.putInForce (t : Trm) (l : List Margin) (changed : Bool) (now : Nat) (time : BitVec 64) : Trm :=
  { t with
    applied := l.foldl (fun (v : Sparse Int) m => Sparse.put v m.id (t.chosen m)) []
    computedAt := now, stale := false, due := false
    generation := if changed then t.generation + 1 else t.generation
    appliedT := if changed then time else t.appliedT }

/-- The plan in force, before the margins reach their registers. -/
def State.planned (s : State) (l : List Margin) : State :=
  { s with trm := s.trm.putInForce l (l.any fun m => s.margin m.id != s.trm.chosen m) s.clock s.glb.time }

/-- The usable energy computed again where the bank's figures changed. -/
def State.planEnergy (s : State) (strings dv : Nat) : State :=
  if s.tel.strings = strings ∧ s.tel.dropoutDv = dv then s else s.refreshEnergy

theorem State.computePlan_eq (s : State) :
    s.computePlan =
      ((s.computeMargins.planned margins).applyMargins.planEnergy s.computeMargins.tel.strings
        s.computeMargins.tel.dropoutDv).replan := rfl

theorem State.planEnergy_trm (s : State) (strings dv : Nat) : (s.planEnergy strings dv).trm = s.trm := by
  unfold State.planEnergy
  split
  · rfl
  · exact s.refreshEnergy_within.same .trm (by decide)

theorem State.margin_of_applied {s t : State} (h : t.trm.applied = s.trm.applied) (id : Nat) :
    t.margin id = s.margin id := by
  unfold State.margin
  rw [h]

/-- A margin in force is the one chosen. -/
theorem State.margin_planned (s : State) {l : List Margin} (hl : (l.map Margin.id).Nodup) {m : Margin} (hm : m ∈ l) :
    (s.planned l).margin m.id = s.trm.chosen m := by
  have happlied : (s.planned l).trm.applied =
      l.foldl (fun (v : Sparse Int) m => Sparse.put v m.id (s.trm.chosen m)) [] := rfl
  unfold State.margin
  rw [happlied, find_foldl_put s.trm.chosen hl hm]

theorem State.computeMargins_leaves (s : State) :
    s.computeMargins.clock = s.clock ∧ s.computeMargins.trm.overrides = s.trm.overrides ∧
      s.computeMargins.trm.generation = s.trm.generation ∧ ∀ id, s.computeMargins.margin id = s.margin id := by
  have hclock := s.computeMargins_within.same .clock (by decide)
  refine ⟨hclock, ?_⟩
  clear hclock
  unfold State.computeMargins
  extract_lets temps drift vals used
  exact ⟨rfl, rfl, fun id => State.margin_of_applied rfl id⟩

/-- What a plan leaves: the trim plan's own registers, the margins that it chose, and a budget that R105 covers. -/
theorem State.planned_leaves (u : State) {l : List Margin} (hl : (l.map Margin.id).Nodup) (strings dv : Nat) :
    let t := ((u.planned l).applyMargins.planEnergy strings dv).replan
    t.trm.stale = false ∧ t.trm.due = false ∧ t.trm.computedAt = u.clock ∧ t.trm.overrides = u.trm.overrides ∧
      t.glb.budget ≤ budgetFor t.tel.euMj ∧ (∀ m ∈ l, t.margin m.id = u.trm.chosen m) ∧
      t.trm.generation =
        if l.any fun m => u.margin m.id != u.trm.chosen m then u.trm.generation + 1 else u.trm.generation := by
  intro t
  have hw := (u.planned l).applyMargins.planEnergy_trm strings dv
  obtain ⟨hplan, htel, hrtrm, -⟩ := ((u.planned l).applyMargins.planEnergy strings dv).replan_leaves
  have htrm : t.trm = (u.planned l).applyMargins.trm := hrtrm.trans hw
  have happlied : t.trm.applied = (u.planned l).trm.applied := (congrArg Trm.applied htrm :)
  have hbudget : t.glb.budget = ((u.planned l).applyMargins.planEnergy strings dv).plannedBudget :=
    congrArg Prod.fst hplan
  refine ⟨congrArg Trm.stale htrm, congrArg Trm.due htrm, congrArg Trm.computedAt htrm, (congrArg Trm.overrides htrm :), ?_,
    fun m hm => ?_, congrArg Trm.generation htrm⟩
  · rw [hbudget, htel]
    unfold State.plannedBudget
    dsimp only
    split
    · exact Nat.min_le_left _ _
    · exact le_refl _
  · rw [State.margin_of_applied happlied, u.margin_planned hl hm]

theorem State.computePlan_leaves (s : State) :
    s.computePlan.trm.stale = false ∧ s.computePlan.trm.due = false ∧ s.computePlan.trm.computedAt = s.clock ∧
      s.computePlan.trm.overrides = s.trm.overrides ∧
      s.computePlan.glb.budget ≤ budgetFor s.computePlan.tel.euMj ∧
      (∀ m ∈ margins, s.computePlan.margin m.id = s.computeMargins.trm.chosen m) ∧
      s.computePlan.trm.generation =
        if margins.any fun m => s.margin m.id != s.computeMargins.trm.chosen m then s.trm.generation + 1
        else s.trm.generation := by
  obtain ⟨hclock, hover, hgen, hmargin⟩ := s.computeMargins_leaves
  have h := State.planned_leaves s.computeMargins margins_nodup s.computeMargins.tel.strings
    s.computeMargins.tel.dropoutDv
  rw [← State.computePlan_eq] at h
  simp only [hclock, hover, hgen, hmargin] at h
  exact h

/-- A margin that an override pins takes the override's value (R367). -/
theorem Trm.chosen_of_override {t : Trm} {m : Margin} {v : Int} (hid : m.id ≠ 0x0001)
    (h : Sparse.find t.overrides m.id = some v) : t.chosen m = v := by
  unfold Trm.chosen
  rw [h]
  dsimp only
  rw [if_neg hid]

section
variable {s : State}

theorem exec_trimPlanCompute (hrun : s.mst.running = true) (hboot : s.rst.booted = true)
    (hdue : s.trm.due = true ∨ s.elapsed s.trm.computedAt (hours 1) = true) :
    exec .trimPlanCompute s = .next s.computePlan := by
  have hgo : (!s.mst.running || !s.rst.booted || (!s.trm.due && !s.elapsed s.trm.computedAt (hours 1))) = false := by
    rw [hrun, hboot]
    rcases hdue with h | h <;> rw [h]
    · rfl
    · rw [Bool.not_true, Bool.and_false]
      rfl
  change Host.Outcome.next (if _ then _ else _) = _
  rw [hgo]
  rfl

theorem completes_trimPlanCompute (hrun : s.mst.running = true) (hboot : s.rst.booted = true)
    (hdue : s.trm.due = true ∨ s.elapsed s.trm.computedAt (hours 1) = true) :
    Completes .trimPlanCompute s fun t =>
      t.trm.stale = false ∧ t.trm.due = false ∧ t.trm.computedAt = s.clock ∧
        t.trm.overrides = s.trm.overrides ∧ t.glb.budget ≤ budgetFor t.tel.euMj ∧
        (∀ m ∈ margins, ∀ v, m.id ≠ 0x0001 → Sparse.find s.trm.overrides m.id = some v →
          t.margin m.id = v) ∧
        ((∀ m ∈ margins, t.margin m.id = s.margin m.id) → t.trm.generation = s.trm.generation) ∧
        ((∃ m ∈ margins, t.margin m.id ≠ s.margin m.id) →
          t.trm.generation = s.trm.generation + 1) := by
  obtain ⟨hstale, hdone, hat, hover, hbudget, hmargin, hgen⟩ := s.computePlan_leaves
  refine ⟨_, exec_trimPlanCompute hrun hboot hdue, ?_⟩
  have hover' : s.computeMargins.trm.overrides = s.trm.overrides := s.computeMargins_leaves.2.1
  generalize s.computePlan = t at *
  generalize s.computeMargins.trm = u at *
  refine ⟨hstale, hdone, hat, hover, hbudget, fun m hm v hid hv => ?_, fun hsame => ?_, ?_⟩
  · rw [hmargin m hm]
    exact Trm.chosen_of_override hid (hover' ▸ hv)
  · rw [hgen, if_neg]
    simp only [List.any_eq_true, bne_iff_ne, not_exists, not_and, not_not]
    exact fun m hm => (hsame m hm).symm.trans (hmargin m hm)
  · rintro ⟨m, hm, hne⟩
    rw [hgen, if_pos]
    exact List.any_eq_true.mpr ⟨m, hm, bne_iff_ne.mpr fun h => hne ((hmargin m hm).trans h.symm)⟩

theorem completes_trimPlanCompute_down (hrun : s.mst.running = false) :
    Completes .trimPlanCompute s fun t => t = s := by
  refine ⟨_, rfl, ?_⟩
  dsimp only
  rw [if_pos (by simp [hrun])]

theorem completes_planStale (hdue : s.elapsed s.trm.computedAt (hours 2) = true) :
    Completes .planStale s fun t => t.trm.stale = true := by
  refine ⟨_, rfl, ?_⟩
  dsimp only
  rw [if_pos hdue]

theorem completes_planStale_fresh (hdue : s.elapsed s.trm.computedAt (hours 2) = false) :
    Completes .planStale s fun t => t = s := by
  refine ⟨_, rfl, ?_⟩
  dsimp only
  rw [if_neg (by simp [hdue])]

/-! ## The monitors and the daily summary (R368, Table TEL-1) -/

/-- The worst slack kept. -/
def State.slackKept (s : State) (ps : Nat) : State :=
  { s with tel := { s.tel with slack := some (match s.tel.slack with
      | some w => min w ps
      | none => ps) } }

theorem exec_pathMonitorSample (ps : Nat) :
    exec (.pathMonitorSample ps) s =
      .next (if (ps : Int) < s.margin 0x0300 ∧ s.elapsedOpt s.tel.slackAt (hours 24) = true then
        State.warnRecord { s.slackKept ps with tel := { (s.slackKept ps).tel with slackAt := some s.clock } } 0xFF ps
      else s.slackKept ps) := rfl

theorem completes_pathMonitorSample (ps : Nat) :
    Completes (.pathMonitorSample ps) s fun t =>
      t.tel.slack = some (match s.tel.slack with
        | some w => min w ps
        | none => ps) ∧
      ((ps : Int) < s.margin 0x0300 → s.elapsedOpt s.tel.slackAt (hours 24) = true →
        t.tel.slackAt = some s.clock ∧ t.draws = s.draws + 1) ∧
      (s.margin 0x0300 ≤ (ps : Int) → t.draws = s.draws ∧ t.log = s.log) := by
  refine ⟨_, exec_pathMonitorSample ps, ?_⟩
  beta_reduce
  split
  next h => exact ⟨rfl, fun _ _ => ⟨rfl, rfl⟩, fun hge => absurd h.1 (not_lt.mpr hge)⟩
  next h => exact ⟨rfl, fun hlt hday => absurd ⟨hlt, hday⟩ h, fun _ => ⟨rfl, rfl⟩⟩

theorem exec_dailySummary (hrun : s.mst.running = true) (hdue : s.elapsedOpt s.tel.summaryAt (hours 24) = true) :
    exec .dailySummary s =
      .next { s.history true with
        tel := { (s.history true).tel with summaryAt := some (s.history true).clock, slack := none } } := by
  change Host.Outcome.next (if !s.mst.running || !s.elapsedOpt s.tel.summaryAt (hours 24) then _ else _) = _
  rw [hrun, hdue]
  rfl

theorem completes_dailySummary (hrun : s.mst.running = true) (hdue : s.elapsedOpt s.tel.summaryAt (hours 24) = true) :
    Completes .dailySummary s fun t =>
      t.tel.summaryAt = some s.clock ∧ t.tel.slack = none ∧ t.fired 1269 .note ∧
        t.tel.history.length = min 1024 (s.tel.history.length + 1) ∧
        ∃ h, t.tel.history.getLast? = some h ∧ h.summary = true ∧ h.time = s.glb.time := by
  obtain ⟨hfired, -, h, hsum, htime, htel⟩ := s.history_leaves true
  have hclock : (s.history true).clock = s.clock := (s.history_within true).same .clock (by decide)
  have hlog : (s.history true).tel.history =
      (s.tel.history ++ [h]).drop ((s.tel.history ++ [h]).length - 1024) := by rw [htel]
  refine ⟨_, exec_dailySummary hrun hdue, ?_⟩
  generalize s.history true = u at *
  refine ⟨congrArg some hclock, rfl, hfired, ?_, h, ?_, hsum, htime⟩
  · dsimp only
    rw [hlog, List.length_drop, List.length_append, List.length_singleton]
    omega
  · dsimp only
    rw [hlog, List.getLast?_drop, if_neg (by simp), List.getLast?_append]
    rfl

end

/-- Settles O48: the measurements by R360 to R363, the plan by what it chooses, and the monitors. -/
theorem measurementsSetTheBudgetAndThePlan : Obligations.MeasurementsSetTheBudgetAndThePlan := by
  unfold Obligations.MeasurementsSetTheBudgetAndThePlan
  refine ⟨fun path s => ⟨fun hmay => ⟨completes_holdupGo hmay, completes_holdupMeasureStart hmay⟩, fun hmay c hc => ?_,
      State.mayMeasure_of_early⟩,
    fun r s => ⟨completes_holdupMeasureEnd_idle, fun hbusy => ⟨completes_holdupMeasureEnd_invalid hbusy,
      completes_holdupMeasureEnd_third hbusy, completes_holdupMeasureEnd_valid hbusy⟩⟩,
    fun c s hup hreplay hactive hhist hvalid hbusy =>
      ⟨completes_holdupBootTimeout hup hreplay hactive hhist hvalid hbusy, completes_holdupBootTimeout_early hup⟩,
    fun s => ⟨completes_trimPlanCompute, completes_trimPlanCompute_down, completes_planStale, completes_planStale_fresh,
      completes_pathMonitorSample, completes_dailySummary⟩⟩
  simp only [List.mem_cons, List.not_mem_nil, or_false] at hc
  rcases hc with rfl | rfl
  · exact completes_holdupGo_not hmay
  · exact completes_holdupMeasureStart_not hmay

end Sys2Proof.Machine


/-! SUPPORT. Self-test slices and recalibration (O49). -/

namespace Sys2Proof.Machine

open Sys2Proof

/-! ## A core that fails stays fenced (Table ARCH-3) -/

theorem State.coreGFenced_dropLock (s : State) : s.dropLock.kce.coreGFenced = s.kce.coreGFenced := by
  unfold State.dropLock
  dsimp only
  split <;> rfl

theorem State.coreGFenced_sealFails (s : State) (v : Vendor) : (s.sealFails v).kce.coreGFenced = s.kce.coreGFenced := by
  unfold State.sealFails
  split
  · rfl
  · dsimp only
    rw [State.kce_fireOutcome, State.kce_completeBg, State.coreGFenced_dropLock]

theorem State.coreGFenced_verifyFails (s : State) (v : Vendor) :
    (s.verifyFails v).kce.coreGFenced = s.kce.coreGFenced := by
  unfold State.verifyFails
  split
  · rfl
  next r _ =>
    dsimp only
    rw [State.kce_fireOutcome, State.kce_completeBg, State.kce_seaWithdraw, State.coreGFenced_dropLock]
    dsimp only
    split
    · rw [(State.fillLines_within _ _ _ _).same .kce (by decide)]
    · rfl

theorem State.failCoreG_fenced (s : State) : s.failCoreG.kce.coreGFenced = true := by
  unfold State.failCoreG State.streamFails
  dsimp only
  rw [State.coreGFenced_verifyFails, State.coreGFenced_sealFails]
  split
  · rw [State.fire_kce]
    rfl
  · rw [State.fire_kce]

/-! ## Tickets -/

/-- Every ticket of a number takes what `f` gives. -/
theorem Trm.mem_setTicket {t : Trm} {id : Nat} {f : Ticket → Ticket} {P : Ticket → Prop}
    (hf : ∀ k, P (f k)) : ∀ x ∈ (t.setTicket id f).tickets, x.id = id → P x := by
  intro x hx hxid
  obtain ⟨y, -, rfl⟩ := List.mem_map.mp hx
  by_cases h : y.id = id
  · rw [if_pos h]
    exact hf y
  · rw [if_neg h] at hxid
    exact absurd hxid h

theorem State.endTicket_leaves (s : State) (id : Nat) (st : TicketState) (detail : Nat) :
    (s.endTicket id st detail).trm.slice = s.trm.slice ∧
      ∀ x ∈ (s.endTicket id st detail).trm.tickets, x.id = id → x.state = st ∧ x.detail = detail :=
  ⟨rfl, Trm.mem_setTicket fun _ => ⟨rfl, rfl⟩⟩

/-! ## The start of a slice (R370) -/

section
variable {id : Nat} {k : Ticket} {s : State}
  (hfind : (s.trm.tickets.find? fun k => k.id == id && k.state == .waiting) = some k)

include hfind in
theorem Ticket.id_of_find : k.id = id := by
  have h := List.find?_some hfind
  simp only [Bool.and_eq_true, beq_iff_eq] at h
  exact h.1

theorem State.beginSlice_leaves (s : State) (k : Ticket) :
    (s.beginSlice k).trm.slice = some ⟨k.test, k.unit, some k.id⟩ ∧
      (∀ x ∈ (s.beginSlice k).trm.tickets, x.id = k.id → x.state = .running) ∧
      (k.test = 5 → (s.beginSlice k).kce.owner = .selfTest) ∧ (k.test = 7 → (s.beginSlice k).tel.busy = true) := by
  unfold State.beginSlice
  extract_lets t u
  have hslice : u.trm.slice = some ⟨k.test, k.unit, some k.id⟩ := rfl
  have htickets : ∀ x ∈ u.trm.tickets, x.id = k.id → x.state = .running :=
    Trm.mem_setTicket fun _ => rfl
  clear_value u
  split
  next h => exact ⟨hslice, htickets, fun h5 => by omega, fun h7 => by omega⟩
  next h => exact ⟨hslice, htickets, fun _ => rfl, fun h7 => by omega⟩
  next h => exact ⟨hslice, htickets, fun h5 => by omega, fun _ => rfl⟩
  next h2 h5 h7 => exact ⟨hslice, htickets, fun h => absurd h h5, fun h => absurd h h7⟩

section
variable (htime : k.notBefore ≤ s.glb.time.toNat)

section
variable (hrun : s.mst.running = true) (hslice : s.trm.slice = none)
include hfind htime hrun hslice

theorem exec_selfTestSliceStart :
    exec (.selfTestSliceStart id) s =
      .next (if s.unitGone k.test k.unit then s.endTicket k.id .failed 3
        else if !s.levelForSlices || !s.coverOk k.test k.unit || !s.testPermit ((testCost k.test).getD 0) ||
          ((List.range 64).any fun u => s.recalDue u) then s
        else s.beginSlice k) := by
  change Host.Outcome.next (match s.trm.tickets.find? _ with | none => _ | some k => _) = _
  rw [hfind]
  dsimp only
  rw [if_neg (by simp [hrun, hslice]; omega)]

theorem completes_selfTestSliceStart_gone (hgone : s.unitGone k.test k.unit = true) :
    Completes (.selfTestSliceStart id) s fun t =>
      t.trm.slice = none ∧ ∀ x ∈ t.trm.tickets, x.id = id → x.state = .failed ∧ x.detail = 3 := by
  obtain ⟨hkeep, htickets⟩ := s.endTicket_leaves k.id .failed 3
  refine ⟨_, exec_selfTestSliceStart hfind htime hrun hslice, ?_⟩
  dsimp only
  rw [if_pos hgone]
  exact ⟨hkeep.trans hslice, Ticket.id_of_find hfind ▸ htickets⟩

theorem completes_selfTestSliceStart (hgone : s.unitGone k.test k.unit = false) (hlevel : s.levelForSlices = true)
    (hcover : s.coverOk k.test k.unit = true) (hpermit : s.testPermit ((testCost k.test).getD 0) = true)
    (hrecal : ∀ u < 64, s.recalDue u = false) :
    Completes (.selfTestSliceStart id) s fun t =>
      t.trm.slice = some ⟨k.test, k.unit, some id⟩ ∧
        (∀ x ∈ t.trm.tickets, x.id = id → x.state = .running) ∧
        (k.test = 5 → t.kce.owner = .selfTest) ∧ (k.test = 7 → t.tel.busy = true) := by
  have hnone : ((List.range 64).any fun u => s.recalDue u) = false :=
    List.any_eq_false.mpr fun u hu => by simp [hrecal u (List.mem_range.mp hu)]
  refine ⟨_, exec_selfTestSliceStart hfind htime hrun hslice, ?_⟩
  dsimp only
  rw [if_neg (by simp [hgone]), if_neg (by rw [hlevel, hcover, hpermit, hnone]; decide)]
  exact Ticket.id_of_find hfind ▸ s.beginSlice_leaves k

theorem completes_selfTestSliceStart_waits (hgone : s.unitGone k.test k.unit = false)
    (h : s.levelForSlices = false ∨ s.coverOk k.test k.unit = false ∨
      s.testPermit ((testCost k.test).getD 0) = false) :
    Completes (.selfTestSliceStart id) s fun t => t = s := by
  refine ⟨_, exec_selfTestSliceStart hfind htime hrun hslice, ?_⟩
  dsimp only
  rw [if_neg (by simp [hgone]), if_pos]
  rcases h with h | h | h <;> rw [h] <;> simp

end

include hfind in
theorem completes_selfTestSliceStart_busy (hslice : s.trm.slice.isSome) :
    Completes (.selfTestSliceStart id) s fun t => t = s := by
  have hexec : exec (.selfTestSliceStart id) s = .next s := by
    change Host.Outcome.next (match s.trm.tickets.find? _ with | none => _ | some k => _) = _
    rw [hfind]
    dsimp only
    rw [if_pos (by simp [hslice])]
  exact ⟨s, hexec, rfl⟩

include hfind htime in
theorem completes_ticketCoverTimeout (hcover : s.coverOk k.test k.unit = false)
    (hdue : s.elapsed k.since (hours 24) = true) :
    Completes (.ticketCoverTimeout id) s fun t =>
      ∀ x ∈ t.trm.tickets, x.id = id → x.state = .failed ∧ x.detail = 2 := by
  have hexec : exec (.ticketCoverTimeout id) s = .next (s.endTicket k.id .failed 2) := by
    change Host.Outcome.next (match s.trm.tickets.find? _ with | none => _ | some k => _) = _
    rw [hfind]
    dsimp only
    rw [hcover, hdue, if_neg (by simp; omega)]
  exact ⟨_, hexec, Ticket.id_of_find hfind ▸ (s.endTicket_leaves k.id .failed 2).2⟩

include hfind in
theorem completes_ticketCoverTimeout_covered (hcover : s.coverOk k.test k.unit = true) :
    Completes (.ticketCoverTimeout id) s fun t => t = s := by
  have hexec : exec (.ticketCoverTimeout id) s = .next s := by
    change Host.Outcome.next (match s.trm.tickets.find? _ with | none => _ | some k => _) = _
    rw [hfind]
    dsimp only
    rw [if_pos (by simp [hcover])]
  exact ⟨s, hexec, rfl⟩

end
end
/-! ## The end of a slice (R371, R372) -/

theorem State.endSlice_leaves (s : State) (x : SliceRun) :
    (s.endSlice x).trm = { s.trm with slice := none } ∧ (x.test = 5 → (s.endSlice x).kce.owner ≠ .selfTest) := by
  unfold State.endSlice
  extract_lets u _ w
  have hu : u.trm = s.trm := by
    unfold u
    split
    · exact s.dropLock_within.same .trm (by decide)
    · rfl
  have hw : w.trm = { s.trm with slice := none } := congrArg (fun t : Trm => { t with slice := none }) hu
  have howner : x.test = 5 → w.kce.owner ≠ .selfTest := by
    intro h
    change u.kce.owner ≠ .selfTest
    unfold u
    split
    · rw [s.dropLock_owner]
      decide
    next hn => exact fun ho => hn ⟨h, ho⟩
  split
  · exact ⟨hw, howner⟩
  · have hback := w.returnPermit_within (.selfTest ((testCost x.test).getD 0))
    rw [hback.same .trm (by decide), hback.same .kce (by decide)]
    exact ⟨hw, howner⟩

/-- A ticket whose test is over takes its result. -/
theorem State.closeTicket_leaves (s : State) {x : SliceRun} {id : Nat} (hx : x.ticket = some id) (pass : Bool) :
    (s.closeTicket x pass).trm.slice = s.trm.slice ∧ (s.closeTicket x pass).kce = s.kce ∧
      ∀ y ∈ (s.closeTicket x pass).trm.tickets, y.id = id →
        if s.trm.tickets.any (fun k => k.id == id && k.cancel) then y.state = .cancelled ∧ y.detail = 4
        else if pass then y.state = .passed ∧ y.detail = 0 else y.state = .failed ∧ y.detail = 1 := by
  unfold State.closeTicket
  rw [hx]
  dsimp only
  split
  · exact ⟨rfl, rfl, (s.endTicket_leaves id .cancelled 4).2⟩
  · split
    · exact ⟨rfl, rfl, (s.endTicket_leaves id .passed 0).2⟩
    · exact ⟨rfl, rfl, (s.endTicket_leaves id .failed 1).2⟩

section
variable {x : SliceRun} {id : Nat} {s : State} (hslice : s.trm.slice = some x) (hx : x.ticket = some id)

section
variable (hfree : x.test ≠ 7 ∨ s.tel.busy = false)
include hslice hfree

/-- The recalibration that a passed test of a pseudo-channel counts as. -/
def State.testRecal (s : State) (x : SliceRun) (pass : Bool) : State :=
  if x.test = 2 ∧ pass then
    { s with cache := { s.cache with recalAt := Sparse.put s.cache.recalAt x.unit s.clock } } else s

omit hslice hfree in
theorem State.testRecal_within (s : State) (x : SliceRun) (pass : Bool) : Within [.cache] s (s.testRecal x pass) := by
  unfold State.testRecal
  split
  · exact (Within.set_cache (by decide)).mpr (Within.refl _ s)
  · exact Within.refl _ s

theorem exec_selfTestSliceEnd (pass : Bool) :
    exec (.selfTestSliceEnd pass) s =
      .next (if pass then ((s.endSlice x).closeTicket x pass).testRecal x pass
        else (((s.endSlice x).closeTicket x pass).testRecal x pass).unitFault x.test x.unit) := by
  change Host.Outcome.next (match s.trm.slice with | none => _ | some x => _) = _
  rw [hslice]
  dsimp only
  rw [if_neg (fun h => hfree.elim (fun h7 => h7 h.1) fun hb => by rw [hb] at h; exact absurd h.2 (by decide))]
  rfl

include hx

theorem completes_selfTestSliceEnd_passed :
    Completes (.selfTestSliceEnd true) s fun t =>
      t.trm.slice = none ∧ (x.test = 5 → t.kce.owner ≠ .selfTest) ∧
        (∀ y ∈ t.trm.tickets, y.id = id →
          if s.trm.tickets.any (fun k => k.id == id && k.cancel) then
            y.state = .cancelled ∧ y.detail = 4
          else y.state = .passed ∧ y.detail = 0) := by
  obtain ⟨htrm, howner⟩ := s.endSlice_leaves x
  obtain ⟨hkeep, hkce, htickets⟩ := (s.endSlice x).closeTicket_leaves hx true
  have hrecal := ((s.endSlice x).closeTicket x true).testRecal_within x true
  refine ⟨_, exec_selfTestSliceEnd hslice hfree true, ?_⟩
  dsimp only
  rw [if_pos rfl, hrecal.same .trm (by decide), hrecal.same .kce (by decide), hkeep, hkce, htrm]
  rw [htrm] at htickets
  exact ⟨rfl, howner, htickets⟩

theorem completes_selfTestSliceEnd_coreFailed (h5 : x.test = 5)
    (hgo : (s.trm.tickets.any fun k => k.id == id && k.cancel) = false) :
    Completes (.selfTestSliceEnd false) s fun t =>
      t.trm.slice = none ∧ t.kce.coreGFenced = true ∧
        ∀ y ∈ t.trm.tickets, y.id = id → y.state = .failed ∧ y.detail = 1 := by
  obtain ⟨htrm, -⟩ := s.endSlice_leaves x
  obtain ⟨hkeep, -, htickets⟩ := (s.endSlice x).closeTicket_leaves hx false
  have hrecal := ((s.endSlice x).closeTicket x false).testRecal_within x false
  generalize hu : ((s.endSlice x).closeTicket x false).testRecal x false = u at *
  have hfail : (u.unitFault x.test x.unit) = u.failCoreG := by rw [h5]; rfl
  refine ⟨_, exec_selfTestSliceEnd hslice hfree false, ?_⟩
  dsimp only
  rw [if_neg (by decide), hu, hfail, u.failCoreG_within.same .trm (by decide), hrecal.same .trm (by decide), hkeep, htrm]
  refine ⟨rfl, u.failCoreG_fenced, fun y hy hyid => ?_⟩
  have hend := htickets y hy hyid
  rw [htrm, if_neg (by rw [hgo]; decide), if_neg (by decide)] at hend
  exact hend

end

/-- A slice cut by a fault, and its record. -/
def State.sliceCut (s : State) (x : SliceRun) : State :=
  (if x.test = 7 then (s.endSlice x).holdupAbort else s.endSlice x).fire 1272 .fault (Detail.ofUnit (x.unit % 256))

theorem State.sliceCut_leaves (s : State) (x : SliceRun) :
    (s.sliceCut x).trm = (s.endSlice x).trm ∧ (s.sliceCut x).fired 1272 .fault := by
  unfold State.sliceCut
  rw [State.fire_trm]
  refine ⟨?_, (State.fired_fire _ _ _ _ _ _).mpr (by rw [if_pos rfl])⟩
  split <;> rfl

include hslice hx in
theorem exec_sliceFaultEnd :
    exec (.sliceFaultEnd false) s =
      .next { s.sliceCut x with
        trm := (s.sliceCut x).trm.setTicket id fun k => { k with state := .waiting, since := (s.sliceCut x).clock } } := by
  change Host.Outcome.next (match s.trm.slice with | none => _ | some x => _) = _
  rw [hslice]
  dsimp only
  rw [if_neg (by decide), hx]
  rfl

include hslice hx in
theorem completes_sliceFaultEnd :
    Completes (.sliceFaultEnd false) s fun t =>
      t.trm.slice = none ∧ t.fired 1272 .fault ∧ ∀ y ∈ t.trm.tickets, y.id = id → y.state = .waiting := by
  obtain ⟨htrm, -⟩ := s.endSlice_leaves x
  obtain ⟨hkeep, hfired⟩ := s.sliceCut_leaves x
  rw [htrm] at hkeep
  refine ⟨_, exec_sliceFaultEnd hslice hx, ?_⟩
  generalize s.sliceCut x = u at *
  exact ⟨congrArg Trm.slice hkeep, hfired, Trm.mem_setTicket fun _ => rfl⟩

end

theorem completes_selfTestSliceEnd_idle {s : State} (pass : Bool) (hslice : s.trm.slice = none) :
    Completes (.selfTestSliceEnd pass) s fun t => t = s := by
  refine ⟨_, rfl, ?_⟩
  dsimp only
  rw [hslice]

theorem completes_sliceFaultEnd_idle {s : State} (own : Bool) (hslice : s.trm.slice = none) :
    Completes (.sliceFaultEnd own) s fun t => t = s := by
  refine ⟨_, rfl, ?_⟩
  dsimp only
  rw [hslice]

/-! ## Recalibration (R359) -/

/-- A permit of a holder that holds one is returned. -/
theorem State.returnPermit_held {s : State} {h : Holder} (hheld : (s.reef.held.any fun e => e.2.holder == h) = true) :
    (s.returnPermit h).reef.held.length < s.reef.held.length := by
  obtain ⟨e, he, hholder⟩ := List.any_eq_true.mp hheld
  have hsome : (s.reef.held.find? fun e => e.2.holder == h).isSome := List.find?_isSome.mpr ⟨e, he, hholder⟩
  obtain ⟨e', he'⟩ := Option.isSome_iff_exists.mp hsome
  unfold State.returnPermit Sparse.findKey
  rw [he']
  exact List.length_filter_lt_length_iff_exists.mpr ⟨e', List.mem_of_find?_eq_some he', by simp⟩

section
variable {stack : Stack} {pc : Fin 32} {eye : Nat} {s : State} (heye : eye ≤ 100)
include heye

theorem completes_hbmRecalibration (hdue : s.recalDue (stack.val * 32 + pc.val) = true) (hslice : s.trm.slice = none)
    (hlevel : s.levelForSlices = true) (hok : s.cache.stackOk = 0b11#2)
    (hempty : s.pcEmptied stack.val pc.val = true) (hheld : (s.reef.held.any fun e => e.2.holder == .hbmRecal) = true) :
    Completes (.hbmRecalibration stack pc eye) s fun t =>
      Sparse.find t.cache.eyes (stack.val * 32 + pc.val) = some eye ∧
        Sparse.find t.cache.recalAt (stack.val * 32 + pc.val) = some s.clock ∧
        (∀ e ∈ t.cache.ways, inPc stack.val pc.val e = false) ∧
        t.reef.held.length < s.reef.held.length := by
  have hexec : exec (.hbmRecalibration stack pc eye) s =
      .next (let u := (s.dropPc stack.val pc.val).returnPermit .hbmRecal
        { u with cache := { u.cache with
          eyes := Sparse.put u.cache.eyes (stack.val * 32 + pc.val) eye
          recalAt := Sparse.put u.cache.recalAt (stack.val * 32 + pc.val) u.clock } }) := by
    change (if _ then _ else Host.Outcome.next (if _ then _ else _)) = _
    rw [if_neg (by simp [eyeOk, heye]), if_neg (by rw [hdue, hslice, hlevel, hok, hempty, hheld]; decide)]
  have hback := (s.dropPc stack.val pc.val).returnPermit_within .hbmRecal
  have hless : ((s.dropPc stack.val pc.val).returnPermit .hbmRecal).reef.held.length < s.reef.held.length :=
    State.returnPermit_held (s := s.dropPc stack.val pc.val) hheld
  refine ⟨_, hexec, ?_⟩
  dsimp only
  rw [hback.same .cache (by decide), hback.same .clock (by decide)]
  exact ⟨Sparse.find_put_same _ _ _, Sparse.find_put_same _ _ _,
    fun e he => by simpa using (List.mem_filter.mp he).2, hless⟩

theorem completes_hbmRecalibration_early (hdue : s.recalDue (stack.val * 32 + pc.val) = false) :
    Completes (.hbmRecalibration stack pc eye) s fun t => t = s := by
  have hexec : exec (.hbmRecalibration stack pc eye) s = .next s := by
    change (if _ then _ else Host.Outcome.next (if _ then _ else _)) = _
    rw [if_neg (by simp [eyeOk, heye]), hdue, if_pos (by simp)]
  exact ⟨s, hexec, rfl⟩

end

/-- Settles O49: slices start with their conditions met, end with their tickets settled, and recalibration keeps the eye. -/
theorem selfTestSlicesTakeOneUnitOut : Obligations.SelfTestSlicesTakeOneUnitOut := by
  unfold Obligations.SelfTestSlicesTakeOneUnitOut
  refine ⟨fun id k s hfind htime => ⟨fun hrun hslice => ⟨completes_selfTestSliceStart_gone hfind htime hrun hslice,
        completes_selfTestSliceStart hfind htime hrun hslice, completes_selfTestSliceStart_waits hfind htime hrun hslice⟩,
      completes_selfTestSliceStart_busy hfind, completes_ticketCoverTimeout hfind htime,
      completes_ticketCoverTimeout_covered hfind⟩,
    fun x id s hslice hx => ⟨fun hfree => ⟨completes_selfTestSliceEnd_passed hslice hx hfree,
      completes_selfTestSliceEnd_coreFailed hslice hx hfree⟩, completes_sliceFaultEnd hslice hx⟩,
    fun pass own s hslice c hc => ?_,
    fun stack pc eye s heye => ⟨completes_hbmRecalibration heye, completes_hbmRecalibration_early heye⟩⟩
  simp only [List.mem_cons, List.not_mem_nil, or_false] at hc
  rcases hc with rfl | rfl
  · exact completes_selfTestSliceEnd_idle pass hslice
  · exact completes_sliceFaultEnd_idle own hslice

end Sys2Proof.Machine


/-! SUPPORT. The logbook: its writer, its archive and its chain (O50). -/

namespace Sys2Proof.Machine

open Sys2Proof

/-! ## What an offer to the writer queue leaves (R376, R381) -/

/-- The logbook but for its queue and its losses. -/
def Logb.butQueue (l : Logb) : Logb :=
  { l with
    queue := [], lostNote := 0, lostWarn := 0, lostFault := 0, lostCritical := 0, lostTotal := 0
    owed := [], owedUnknown := 0, lostAfter := 0 }

theorem Logb.butQueue_lose (l : Logb) (v : Severity) : (l.lose v).butQueue = l.butQueue := by
  cases v <;> rfl

theorem Logb.ring_lose (l : Logb) (v : Severity) : (l.lose v).ring = l.ring := by
  cases v <;> rfl

theorem Logb.butQueue_offer (l : Logb) (r : LogRec) : (l.offer r).butQueue = l.butQueue := by
  unfold Logb.offer
  split
  · rfl
  · exact l.butQueue_lose _

theorem Logb.offer_fits {l : Logb} {r : LogRec} (h : slotsOf l.queue + r.slots ≤ 512) :
    l.offer r = { l with queue := l.queue ++ [r] } := if_pos h

theorem State.logPut_butQueue (s : State) (v : Severity) (t : RecType) (pair : Bool) (p : List Byte) :
    (s.logPut v t pair p).log.butQueue = s.log.butQueue := Logb.butQueue_offer _ _

theorem State.flushKey_butQueue (s : State) (k : Nat) : (s.flushKey k).log.butQueue = s.log.butQueue := by
  unfold State.flushKey
  dsimp only
  repeat' split
  all_goals simp only [State.modSrc_log, State.logPut_butQueue]

theorem State.recordFiring_butQueue (s : State) (i k : Nat) (v : Severity) (d : Detail) :
    (s.recordFiring i k v d).log.butQueue = s.log.butQueue := by
  unfold State.recordFiring
  dsimp only
  repeat' split
  all_goals simp only [State.modSrc_log, State.logPut_butQueue, State.flushKey_butQueue]

/-- A firing changes the logbook in its queue and its losses only. -/
theorem State.fireSub_butQueue (s : State) (i sub : Nat) (v : Severity) (d : Detail) :
    (s.fireSub i sub v d).log.butQueue = s.log.butQueue := by
  unfold State.fireSub
  rw [(State.routeFiring_within _ _ _ _).same .log (by decide), State.recordFiring_butQueue,
    (State.markFired_within _ _ _).same .log (by decide)]

theorem State.fire_butQueue (s : State) (i : Nat) (v : Severity) (d : Detail) :
    (s.fire i v d).log.butQueue = s.log.butQueue := s.fireSub_butQueue i 0 v d

/-! ## The writer (R375, R376) -/

theorem Logb.ringRoom_fits {l : Logb} {v : Severity} {need : Nat} (h : slotsOf l.ring + need ≤ 65536) (fuel : Nat) :
    l.ringRoom v need fuel = some l := by
  cases fuel <;> exact if_pos h

/-- The record `r` with its number, the ring and the ditty bag holding it. -/
def State.recorded (s : State) (r : LogRec) : State :=
  { s with
    log := { s.log.advance r.slots with
      ring := (s.log.advance r.slots).ring ++ [{ r with seq := s.log.nextSeq }]
      chainCount := if r.type = .chain then (s.log.advance r.slots).chainCount
        else (s.log.advance r.slots).chainCount + r.slots }
    dty := { s.dty with recs := newest448 (s.dty.recs ++ [{ r with seq := s.log.nextSeq }]) } }

theorem State.writeRec_fits {s : State} {r : LogRec} (hnum : s.log.canNumber r.slots = true)
    (hroom : slotsOf s.log.ring + r.slots ≤ 65536) : s.writeRec r = some (s.recorded r) := by
  unfold State.writeRec
  rw [if_neg (by simp [hnum]), Logb.ringRoom_fits hroom]
  rfl

theorem State.writeRec_unnumbered {s : State} {r : LogRec} (hnum : s.log.canNumber r.slots = false) :
    s.writeRec r = none := by
  unfold State.writeRec
  rw [if_pos (by simp [hnum])]

theorem State.payLost_none {s : State} (h : s.log.owes = false) : s.payLost = s := by
  unfold State.payLost
  dsimp only
  rw [if_pos (by simp [h])]

/-- The newest record of the ditty bag's copy is the one written last. -/
theorem newest448_getLast? (l : List LogRec) (r : LogRec) : (newest448 (l ++ [r])).getLast? = some r := by
  have hslots : r.slots ≤ 448 := by
    unfold LogRec.slots
    split <;> decide
  unfold newest448
  rw [List.foldr_append, List.foldr_cons, List.foldr_nil, if_pos (by omega)]
  generalize 0 + r.slots = n
  suffices h : ∀ a : List LogRec × Nat, a.1.getLast? = some r →
      ((l.foldr (fun r (a : List LogRec × Nat) =>
        if a.2 + r.slots ≤ 448 then (r :: a.1, a.2 + r.slots) else (a.1, 448)) a).1).getLast? = some r from
    h ([r], n) rfl
  intro a ha
  induction l with
  | nil => exact ha
  | cons x l ih =>
    rw [List.foldr_cons]
    split
    · rw [List.getLast?_cons, ih]
      rfl
    · exact ih

theorem Logb.advance_ring (l : Logb) (k : Nat) : (l.advance k).ring = l.ring := by
  unfold Logb.advance
  repeat' split
  all_goals rfl

theorem Logb.advance_lostTotal (l : Logb) (k : Nat) : (l.advance k).lostTotal = l.lostTotal := by
  unfold Logb.advance
  repeat' split
  all_goals rfl

theorem Logb.nextSeq_advance {l : Logb} {k : Nat} (hsat : l.saturated = false) (hin : l.n + k ≤ 2 ^ 20) :
    (l.advance k).nextSeq = l.nextSeq + k := by
  unfold Logb.advance
  rw [if_neg (by simp [hsat]), if_pos hin]
  unfold Logb.nextSeq
  rw [if_neg (by simp [hsat]), if_neg (by simp [hsat])]
  dsimp only
  omega

section
variable {r : LogRec} {q : List LogRec} {s : State} (hqueue : s.log.queue = r :: q) (howes : s.log.owes = false)
include hqueue howes

theorem completes_logRecordWrite (hrest : s.log.restored = true) (hnum : s.log.canNumber r.slots = true)
    (hroom : slotsOf s.log.ring + r.slots ≤ 65536) :
    Completes .logRecordWrite s fun t =>
      t.log.queue = q ∧ t.log.ring = s.log.ring ++ [{ r with seq := s.log.nextSeq }] ∧
        t.dty.recs.getLast? = some { r with seq := s.log.nextSeq } ∧
        (s.log.saturated = false → s.log.n + r.slots ≤ 2 ^ 20 →
          t.log.nextSeq = s.log.nextSeq + r.slots) ∧
        t.log.lostTotal = s.log.lostTotal := by
  have hexec : exec .logRecordWrite s =
      .next { s.recorded r with log := { (s.recorded r).log with queue := q } } := by
    change Host.Outcome.next (if s.log.restored then s.writeHead else s) = _
    rw [if_pos hrest, State.writeHead, State.payLost_none howes]
    dsimp only
    rw [hqueue]
    dsimp only
    rw [State.writeRec_fits hnum hroom]
  refine ⟨_, hexec, rfl, congrArg (· ++ _) (Logb.advance_ring _ _), newest448_getLast? _ _,
    fun hsat hin => (Logb.nextSeq_advance hsat hin : (s.log.advance r.slots).nextSeq = _), Logb.advance_lostTotal _ _⟩

theorem completes_logRecordWrite_waits (h : s.log.restored = false ∨ s.log.canNumber r.slots = false) :
    Completes .logRecordWrite s fun t => t = s := by
  have hexec : exec .logRecordWrite s = .next s := by
    change Host.Outcome.next (if s.log.restored then s.writeHead else s) = _
    split
    next hrest =>
      have hnum : s.log.canNumber r.slots = false := h.resolve_left (by simp [hrest])
      rw [State.writeHead, State.payLost_none howes]
      dsimp only
      rw [hqueue]
      dsimp only
      rw [State.writeRec_unnumbered hnum]
    · rfl
  exact ⟨s, hexec, rfl⟩

end

/-! ## A firmware record (R376) -/

theorem Logb.length_wrPayload (l : Logb) : l.wrPayload.length = 48 := by
  simp [Logb.wrPayload, bytesOf, List.length_flatten, Function.comp_def]

theorem padTo_of_le {n : Nat} {l : List Byte} (h : n ≤ l.length) : padTo n l = l.take n := by
  unfold padTo
  rw [List.take_append_of_le_length h]

section
variable {path : Path} {s : State}

theorem completes_logWrGo (hpath : s.pathOpen path = true) (h3 : s.log.wrType ≠ 0x03#8) (h4 : s.log.wrType ≠ 0x04#8)
    (hroom : slotsOf s.log.queue + (if s.log.wrPair then 2 else 1) ≤ 512) :
    Completes (.logWrGo path) s fun t =>
      t.log.queue = s.log.queue ++ [⟨0, Severity.ofCode s.log.wrSev.toNat, RecType.ofCode s.log.wrType,
        s.glb.time, s.log.wrPayload.take (if s.log.wrPair then 46 else 16), s.log.wrPair, false⟩] := by
  refine ⟨_, rfl, ?_⟩
  dsimp only
  rw [if_neg (by simp [hpath, h3, h4]), State.logPut, Logb.offer_fits hroom]
  dsimp only
  rw [padTo_of_le (by rw [Logb.length_wrPayload]; split <;> decide)]

theorem completes_logWrGo_refused (h : s.pathOpen path = false ∨ s.log.wrType = 0x03#8 ∨ s.log.wrType = 0x04#8) :
    Completes (.logWrGo path) s fun t => t = s := by
  refine ⟨_, rfl, ?_⟩
  dsimp only
  rw [if_pos (by rcases h with h | h | h <;> simp [h])]

end

/-! ## The archive (R378) -/

theorem slotsOf_append (l m : List LogRec) : slotsOf (l ++ m) = slotsOf l + slotsOf m := by
  have hfrom (m : List LogRec) (n : Nat) : m.foldl (fun n r => n + r.slots) n = n + slotsOf m := by
    induction m generalizing n with
    | nil => rfl
    | cons r m ih =>
      unfold slotsOf
      rw [List.foldl_cons, List.foldl_cons, ih, ih (0 + r.slots)]
      omega
  unfold slotsOf
  rw [List.foldl_append, hfrom]
  rfl

theorem slotsOf_cons (r : LogRec) (l : List LogRec) : slotsOf (r :: l) = r.slots + slotsOf l := by
  rw [← List.singleton_append, slotsOf_append]
  congr 1
  exact Nat.zero_add _

/-- A ring record marked as archived. -/
def markArchived (r x : LogRec) : LogRec := if x = r then { x with archived := true } else x

theorem Logb.archiveRoom_ring {l k : Logb} {v : Severity} {need fuel : Nat} (h : l.archiveRoom v need fuel = some k) :
    k.ring = l.ring := by
  induction fuel generalizing l with
  | zero =>
    unfold Logb.archiveRoom at h
    split at h
    · cases h
      rfl
    · cases h
  | succ fuel ih =>
    unfold Logb.archiveRoom at h
    split at h
    · cases h
      rfl
    · split at h
      next r _ =>
        exact (ih h).trans (Logb.ring_lose _ _)
      · cases h

theorem Logb.ring_archiveOne (l : Logb) (r : LogRec) : (l.archiveOne r).ring = l.ring.map (markArchived r) := by
  unfold Logb.archiveOne
  dsimp only
  split
  · rfl
  · split
    next k hk => exact congrArg (List.map (markArchived r)) (Logb.archiveRoom_ring hk)
    · exact congrArg (List.map (markArchived r)) (l.ring_lose r.sev)

/-- After the copies of a list of records, a ring record is archived or was not on the list. -/
theorem Logb.archived_of_mem_ring {rs : List LogRec} {l : Logb} {x : LogRec} (hx : x ∈ (rs.foldl Logb.archiveOne l).ring) :
    x.archived = true ∨ x ∈ l.ring ∧ x ∉ rs := by
  induction rs generalizing l with
  | nil => exact .inr ⟨hx, by simp⟩
  | cons r rs ih =>
    rcases ih hx with harch | ⟨hring, hnot⟩
    · exact .inl harch
    · rw [Logb.ring_archiveOne] at hring
      obtain ⟨y, hy, rfl⟩ := List.mem_map.mp hring
      unfold markArchived at hnot ⊢
      split at hnot
      next h => exact .inl (by rw [if_pos h])
      next h =>
        rw [if_neg h]
        exact .inr ⟨hy, by simp [h, hnot]⟩

theorem Logb.length_ring_archived (rs : List LogRec) (l : Logb) :
    (rs.foldl Logb.archiveOne l).ring.length = l.ring.length :=
  foldl_keeps (fun l : Logb => l.ring.length) (fun l r => by rw [Logb.ring_archiveOne, List.length_map]) rs l

theorem Logb.archiveOne_fits {l : Logb} {r : LogRec} (h : slotsOf l.archive + r.slots ≤ archiveSlots) :
    (l.archiveOne r).clearBound = l.clearBound ∧
      (l.archiveOne r).archive =
        if r.last ≤ l.clearBound then l.archive else l.archive ++ [{ r with archived := true }] := by
  have hroom : l.archiveRoom r.sev r.slots 3 = some l := if_pos h
  unfold Logb.archiveOne
  dsimp only
  split
  · exact ⟨rfl, rfl⟩
  · rw [hroom]
    exact ⟨rfl, rfl⟩

/-- Records that all fit are in the archive after their copies, but those at or below the bound of a clear. -/
theorem Logb.mem_archive_of_fits {rs : List LogRec} {l : Logb} (h : slotsOf l.archive + slotsOf rs ≤ archiveSlots) :
    (∀ x ∈ l.archive, x ∈ (rs.foldl Logb.archiveOne l).archive) ∧
      ∀ r ∈ rs, l.clearBound < r.last → { r with archived := true } ∈ (rs.foldl Logb.archiveOne l).archive := by
  induction rs generalizing l with
  | nil => exact ⟨fun x hx => hx, fun r hr => by simp at hr⟩
  | cons a rs ih =>
    rw [slotsOf_cons] at h
    obtain ⟨hbound, harch⟩ := Logb.archiveOne_fits (l := l) (r := a) (by omega)
    have hslots : slotsOf (l.archiveOne a).archive + slotsOf rs ≤ archiveSlots := by
      rw [harch]
      split
      · omega
      · rw [slotsOf_append, slotsOf_cons]
        change slotsOf l.archive + (a.slots + 0) + slotsOf rs ≤ archiveSlots
        omega
    obtain ⟨hkeep, hnew⟩ := ih hslots
    rw [List.foldl_cons]
    refine ⟨fun x hx => hkeep x ?_, fun r hr hlast => ?_⟩
    · rw [harch]
      split
      · exact hx
      · exact List.mem_append_left _ hx
    · rcases List.mem_cons.mp hr with rfl | hr
      · refine hkeep _ ?_
        rw [harch, if_neg (by omega)]
        exact List.mem_append_right _ (List.mem_singleton_self _)
      · exact hnew r hr (by rwa [hbound])

section
variable {s : State}

theorem completes_archiveCopy (hrun : s.mst.running = true) (hreach : s.archiveReachable = true) :
    Completes .archiveCopy s fun t =>
      (∀ r ∈ t.log.ring, r.archived = true) ∧ t.log.ring.length = s.log.ring.length ∧
        (slotsOf s.log.archive + slotsOf s.log.unarchived ≤ archiveSlots →
          ∀ r ∈ s.log.ring, r.archived = false → s.log.clearBound < r.last →
            { r with archived := true } ∈ t.log.archive) := by
  refine ⟨_, rfl, ?_⟩
  dsimp only
  rw [if_pos (by simp [hrun, hreach])]
  refine ⟨fun r hr => ?_, Logb.length_ring_archived _ _, fun hfits r hr hun hlast => ?_⟩
  · rcases Logb.archived_of_mem_ring hr with harch | ⟨hring, hnot⟩
    · exact harch
    · by_contra hun
      exact hnot (List.mem_filter.mpr ⟨hring, by simpa using hun⟩)
  · exact (Logb.mem_archive_of_fits hfits).2 r (List.mem_filter.mpr ⟨hr, by simp [hun]⟩) hlast

theorem completes_archiveCopy_not (h : s.mst.running = false ∨ s.archiveReachable = false) :
    Completes .archiveCopy s fun t => t = s := by
  refine ⟨_, rfl, ?_⟩
  dsimp only
  rw [if_neg (by rcases h with h | h <;> simp [h])]

end

/-! ## The block counter (R375) -/

section
variable {s : State} (hrest : s.log.restored = true)

section
variable (hsat : s.log.saturated = false) (hblock : s.log.nextBlock = none) (hn : 0xF0000 ≤ s.log.n)
  (hcounter : s.sea.saturated 1 = false)
include hrest hsat hblock hn

theorem exec_blockCounterAdvance (ok : Bool) :
    exec (.blockCounterAdvance ok) s =
      .next (if (s.counterInc 1 ok).2 then
        { (s.counterInc 1 ok).1 with
          log := { (s.counterInc 1 ok).1.log with nextBlock := some ((s.counterInc 1 ok).1.sea.counter 1) } }
        else (s.counterInc 1 ok).1) := by
  change Host.Outcome.next (if _ then _ else _) = _
  rw [if_neg (by simp [hrest, hsat, hblock]; omega)]

include hcounter

theorem completes_blockCounterAdvance :
    Completes (.blockCounterAdvance true) s fun t =>
      t.log.nextBlock = some (s.sea.counter 1 + 1) ∧ t.sea.counter 1 = s.sea.counter 1 + 1 := by
  obtain ⟨hok, hval⟩ := State.counterInc_verified hcounter (by decide)
  refine ⟨_, exec_blockCounterAdvance hrest hsat hblock hn true, ?_⟩
  dsimp only
  rw [if_pos hok]
  exact ⟨congrArg some hval, hval⟩

theorem completes_blockCounterAdvance_failed :
    Completes (.blockCounterAdvance false) s fun t =>
      t.log.nextBlock = none ∧ t.sea.counter 1 = s.sea.counter 1 ∧ t.fired 1275 .fault := by
  refine ⟨_, exec_blockCounterAdvance hrest hsat hblock hn false, ?_⟩
  dsimp only
  rw [State.counterInc_failed hcounter]
  dsimp only
  rw [if_neg (by decide), State.storeFails_sea]
  have hlog := State.fire_butQueue { s with sea := { s.sea with storeFailed := true } } 1275 .fault Detail.none
  exact ⟨(congrArg Logb.nextBlock hlog :).trans hblock, rfl, (State.fired_fire _ _ _ _ _ _).mpr (by rw [if_pos rfl])⟩

end

omit hrest in
theorem completes_blockCounterAdvance_early (hn : s.log.n < 0xF0000) (ok : Bool) :
    Completes (.blockCounterAdvance ok) s fun t => t = s := by
  refine ⟨_, rfl, ?_⟩
  dsimp only
  rw [if_pos (by simp [hn])]

/-! ## The chain (R385, R386) -/

/-- What a CHAIN pair leaves of the chain: its tag, and the number of its place. -/
def Logb.chained (l k : Logb) (tag : BitVec 128) : Prop :=
  l.chainTag = tag ∧ l.prevTag = k.chainTag ∧ l.chainSeq = k.nextSeq ∧ l.chainIndex = k.chainIndex + 1 ∧
    l.chainFrom = k.nextSeq + 2 ∧ l.chainCount = 0

/-- A record that has a number is written or lost. -/
theorem State.writeRec_isSome {r : LogRec} (hnum : s.log.canNumber r.slots = true) : (s.writeRec r).isSome := by
  unfold State.writeRec
  rw [if_neg (by simp [hnum])]
  split <;> rfl

theorem State.chainPut_chained (hnum : s.log.canNumber 2 = true) (flags : Nat) (tag : BitVec 128) :
    (s.chainPut flags tag).log.chained s.log tag := by
  unfold State.chainPut
  extract_lets l c first lastN p r q
  obtain ⟨t, ht⟩ := Option.isSome_iff_exists.mp (State.writeRec_isSome (r := r) hnum)
  rw [ht]
  exact ⟨rfl, rfl, rfl, rfl, rfl, rfl⟩

theorem Logb.chained_of_butQueue {l m k : Logb} {tag : BitVec 128} (h : l.butQueue = m.butQueue) (hm : m.chained k tag) :
    l.chained k tag := by
  obtain ⟨htag, hprev, hseq, hindex, hfrom, hcount⟩ := hm
  exact ⟨(congrArg Logb.chainTag h :).trans htag, (congrArg Logb.prevTag h :).trans hprev,
    (congrArg Logb.chainSeq h :).trans hseq, (congrArg Logb.chainIndex h :).trans hindex,
    (congrArg Logb.chainFrom h :).trans hfrom, (congrArg Logb.chainCount h :).trans hcount⟩

section
variable (hdue : s.chainDue = true) (hnum : s.log.canNumber 2 = true)
include hrest hdue

theorem exec_chainWrite :
    exec .chainWrite s =
      .next (if s.kce.coreLFenced then s.chainPut 4 0#128
        else if !bitOf s.kce.loaded 0 then s.chainPut 1 0#128
        else if s.kce.stallL.isSome then s
        else s.chainPut 0 s.chainCmac) := by
  change Host.Outcome.next (if _ then _ else _) = _
  rw [if_neg (by simp [hrest, hdue])]

include hnum in
theorem completes_chainWrite_unkeyed (h : s.kce.coreLFenced = true ∨ bitOf s.kce.loaded 0 = false) :
    Completes .chainWrite s fun t =>
      t.log.chainTag = 0#128 ∧ t.log.prevTag = s.log.chainTag ∧ t.log.chainSeq = s.log.nextSeq ∧
        t.log.chainIndex = s.log.chainIndex + 1 ∧ t.log.chainCount = 0 := by
  have hput (flags : Nat) : (s.chainPut flags 0#128).log.chained s.log 0#128 := State.chainPut_chained hnum flags _
  refine ⟨_, exec_chainWrite hrest hdue, ?_⟩
  dsimp only
  split
  · obtain ⟨htag, hprev, hseq, hindex, -, hcount⟩ := hput 4
    exact ⟨htag, hprev, hseq, hindex, hcount⟩
  next hcore =>
    have hload : bitOf s.kce.loaded 0 = false := h.resolve_left hcore
    obtain ⟨htag, hprev, hseq, hindex, -, hcount⟩ := hput 1
    rw [if_pos (by simp [hload])]
    exact ⟨htag, hprev, hseq, hindex, hcount⟩

section
variable (hcore : s.kce.coreLFenced = false) (hload : bitOf s.kce.loaded 0 = true)
include hcore hload

include hnum in
theorem completes_chainWrite_keyed (hstall : s.kce.stallL = none) :
    Completes .chainWrite s fun t =>
      t.log.chainTag = s.chainCmac ∧ t.log.prevTag = s.log.chainTag ∧
        t.log.chainSeq = s.log.nextSeq ∧ t.log.chainIndex = s.log.chainIndex + 1 ∧
        t.log.chainFrom = s.log.nextSeq + 2 ∧ t.log.chainCount = 0 := by
  refine ⟨_, exec_chainWrite hrest hdue, ?_⟩
  dsimp only
  rw [if_neg (by simp [hcore]), if_neg (by simp [hload]), if_neg (by simp [hstall])]
  exact State.chainPut_chained hnum 0 s.chainCmac

variable {c : Nat} (hstall : s.kce.stallL = some c)
include hstall

theorem completes_chainWrite_stalled : Completes .chainWrite s fun t => t = s := by
  refine ⟨_, exec_chainWrite hrest hdue, ?_⟩
  dsimp only
  rw [if_neg (by simp [hcore]), if_neg (by simp [hload]), if_pos (by simp [hstall])]

include hnum in
theorem completes_chainStallTimeout (hlate : s.elapsed c (sec 10) = true) :
    Completes .chainStallTimeout s fun t =>
      t.log.chainTag = 0#128 ∧ t.log.chainSeq = s.log.nextSeq ∧ t.fired 1274 .warn := by
  have hexec : exec .chainStallTimeout s = .next ((s.chainPut 2 0#128).fire 1274 .warn Detail.none) := by
    change Host.Outcome.next (match s.kce.stallL with | some t => _ | none => _) = _
    rw [hstall]
    dsimp only
    rw [hrest, hdue, hcore, hload, hlate]
    rfl
  have hchained := Logb.chained_of_butQueue (State.fire_butQueue (s.chainPut 2 0#128) 1274 .warn Detail.none)
    (State.chainPut_chained hnum 2 0#128)
  obtain ⟨htag, -, hseq, -⟩ := hchained
  exact ⟨_, hexec, htag, hseq, (State.fired_fire _ _ _ _ _ _).mpr (by rw [if_pos rfl])⟩

omit hrest hdue hcore hload in
theorem completes_chainStallTimeout_early (hlate : s.elapsed c (sec 10) = false) :
    Completes .chainStallTimeout s fun t => t = s := by
  have hexec : exec .chainStallTimeout s = .next s := by
    change Host.Outcome.next (match s.kce.stallL with | some t => _ | none => _) = _
    rw [hstall]
    dsimp only
    rw [hlate, if_pos (by simp)]
  exact ⟨s, hexec, rfl⟩

end
end

omit hrest in
theorem completes_chainWrite_early (hdue : s.chainDue = false) : Completes .chainWrite s fun t => t = s := by
  refine ⟨_, rfl, ?_⟩
  dsimp only
  rw [if_pos (by simp [hdue])]

end

/-! ## Bring-up (R379) -/

/-- The BOOT pair is queued and the rest of the logbook stays. -/
theorem State.bootRecord_leaves {s : State} (h : slotsOf s.log.queue ≤ 510) (first last restored : Nat) :
    (∃ r ∈ (s.bootRecord first last restored).log.queue, r.type = .boot ∧ r.pair = true) ∧
      (s.bootRecord first last restored).log.butQueue = s.log.butQueue ∧
      (s.bootRecord first last restored).sea = s.sea := by
  refine ⟨?_, State.logPut_butQueue _ _ _ _ _, rfl⟩
  unfold State.bootRecord State.logPut
  dsimp only
  rw [Logb.offer_fits (show slotsOf s.log.queue + 2 ≤ 512 by omega)]
  exact ⟨_, List.mem_append_right _ (List.mem_singleton_self _), rfl, rfl⟩

/-- The logbook restored, before the BOOT record. -/
def State.reloaded (s : State) : State := { s with log := { s.log.reload s.clock with restored := true } }

section
variable {s : State}

theorem completes_logbookRestore_again (hrest : s.log.restored = true) :
    Completes .logbookRestore s fun t => t = s := by
  refine ⟨_, rfl, ?_⟩
  dsimp only
  rw [if_pos (by simp [hrest])]

section
variable (hrest : s.log.restored = false) (haon : s.rst.aon = true) (hsea : s.sea.settled = true)
include hrest haon hsea

theorem exec_logbookRestore :
    exec .logbookRestore s =
      .next (if s.rst.level = .pon || s.dty.recs.isEmpty then
        ((s.newBlock s.log.archiveTop).1.reloaded).bootRecord (s.newBlock s.log.archiveTop).2.1
          (s.newBlock s.log.archiveTop).2.2 0
        else ((s.restoreRing s.log.archiveTop).1.reloaded).bootRecord 0 0 (s.restoreRing s.log.archiveTop).2) := by
  change Host.Outcome.next (if _ then _ else _) = _
  rw [if_neg (by simp [hrest, haon, hsea])]
  dsimp only
  split <;> rfl

variable (hroom : slotsOf s.log.queue ≤ 510)
include hroom

theorem completes_logbookRestore_pon (hpon : s.rst.level = .pon) (hsat : s.sea.saturated 1 = false)
    (hslots : s.sea.ctrSlots < 1024) :
    Completes .logbookRestore s fun t =>
      t.log.restored = true ∧ t.log.block = s.sea.counter 1 + 1 ∧ t.log.n = 0 ∧
        t.sea.counter 1 = s.sea.counter 1 + 1 ∧ ∃ r ∈ t.log.queue, r.type = .boot ∧ r.pair = true := by
  obtain ⟨-, hval⟩ := State.counterInc_verified hsat (by decide)
  have hlog : (s.counterInc 1 true).1.log = s.log := by
    unfold State.counterInc
    rw [if_neg (by simp [hsat]), if_pos rfl, if_neg (by omega)]
  refine ⟨_, exec_logbookRestore hrest haon hsea, ?_⟩
  dsimp only
  rw [if_pos (by simp [hpon])]
  have hqueue : slotsOf (s.newBlock s.log.archiveTop).1.reloaded.log.queue ≤ 510 := by
    change slotsOf (s.counterInc 1 true).1.log.queue ≤ 510
    rwa [hlog]
  obtain ⟨hboot, hbut, hsea'⟩ := State.bootRecord_leaves hqueue (s.newBlock s.log.archiveTop).2.1
    (s.newBlock s.log.archiveTop).2.2 0
  exact ⟨(congrArg Logb.restored hbut :), (congrArg Logb.block hbut :).trans hval, (congrArg Logb.n hbut :),
    (congrArg (fun x : Sea => x.counter 1) hsea' :).trans hval, hboot⟩

theorem completes_logbookRestore_sys (hlevel : s.rst.level ≠ .pon) (hrecs : s.dty.recs ≠ []) :
    Completes .logbookRestore s fun t =>
      t.log.restored = true ∧
        (∀ r ∈ s.dty.recs, s.log.archiveTop < r.seq → r ∈ t.log.ring) ∧
        t.log.block = (s.dty.recs.map LogRec.last).foldl max 0 / 2 ^ 20 ∧
        t.log.n = (s.dty.recs.map LogRec.last).foldl max 0 % 2 ^ 20 + 1 ∧ t.sea = s.sea ∧
        ∃ r ∈ t.log.queue, r.type = .boot ∧ r.pair = true := by
  refine ⟨_, exec_logbookRestore hrest haon hsea, ?_⟩
  dsimp only
  rw [if_neg (by simp [hlevel, hrecs])]
  obtain ⟨hboot, hbut, hsea'⟩ := State.bootRecord_leaves (s := (s.restoreRing s.log.archiveTop).1.reloaded) hroom 0 0
    (s.restoreRing s.log.archiveTop).2
  have hring : (((s.restoreRing s.log.archiveTop).1.reloaded).bootRecord 0 0 (s.restoreRing s.log.archiveTop).2).log.ring =
      s.dty.recs.filter fun r => decide (s.log.archiveTop < r.seq) := (congrArg Logb.ring hbut :)
  refine ⟨(congrArg Logb.restored hbut :), fun r hr hlt => ?_, (congrArg Logb.block hbut :), (congrArg Logb.n hbut :),
    hsea', hboot⟩
  rw [hring]
  exact List.mem_filter.mpr ⟨hr, decide_eq_true hlt⟩

end
end

/-- Settles O50: the writer, the archive, the block counter, the chain and the restore of the logbook. -/
theorem logbookNumbersChainsAndArchives : Obligations.LogbookNumbersChainsAndArchives := by
  unfold Obligations.LogbookNumbersChainsAndArchives
  exact ⟨fun r q s hqueue howes => ⟨completes_logRecordWrite hqueue howes, completes_logRecordWrite_waits hqueue howes⟩,
    fun path s => ⟨completes_logWrGo, completes_logWrGo_refused⟩,
    fun s => ⟨completes_archiveCopy, completes_archiveCopy_not,
      fun hrest hsat hblock hn hcounter => ⟨completes_blockCounterAdvance hrest hsat hblock hn hcounter,
        completes_blockCounterAdvance_failed hrest hsat hblock hn hcounter⟩,
      completes_blockCounterAdvance_early,
      fun hrest hdue hnum => ⟨completes_chainWrite_unkeyed hrest hdue hnum, fun hcore hload =>
        ⟨completes_chainWrite_keyed hrest hdue hnum hcore hload, fun c hstall =>
          ⟨completes_chainWrite_stalled hrest hdue hcore hload hstall,
            completes_chainStallTimeout hrest hdue hnum hcore hload hstall,
            completes_chainStallTimeout_early hstall⟩⟩⟩,
      completes_chainWrite_early⟩,
    fun s => ⟨completes_logbookRestore_again, fun hrest haon hsea hroom =>
      ⟨completes_logbookRestore_pon hrest haon hsea hroom, completes_logbookRestore_sys hrest haon hsea hroom⟩⟩⟩

end Sys2Proof.Machine


/-! SUPPORT. Reading and clearing the logbook (O51). -/

namespace Sys2Proof.Machine

open Sys2Proof

/-! ## Snapshots (R382, R383) -/

theorem mem_of_mem_takeSlots {l : List LogRec} {n : Nat} {r : LogRec} (h : r ∈ takeSlots n l) : r ∈ l := by
  induction l generalizing n with
  | nil => simp [takeSlots] at h
  | cons x l ih =>
    unfold takeSlots at h
    split at h
    · rcases List.mem_cons.mp h with rfl | h
      · exact List.mem_cons_self
      · exact List.mem_cons_of_mem _ (ih h)
    · simp at h

theorem slotsOf_takeSlots_le (l : List LogRec) (n : Nat) : slotsOf (takeSlots n l) ≤ n := by
  induction l generalizing n with
  | nil => exact Nat.zero_le n
  | cons x l ih =>
    unfold takeSlots
    split
    next h =>
      rw [slotsOf_cons]
      have := ih (n - x.slots)
      omega
    · exact Nat.zero_le n

theorem Logb.mem_readable {l : Logb} {source mode stop : Nat} {r : LogRec} (h : r ∈ l.readable source mode stop) :
    l.clearBound < r.last ∧ (mode = 1 → r.last ≤ stop) := by
  obtain ⟨-, hr⟩ := List.mem_filter.mp h
  simp only [Bool.and_eq_true, Bool.or_eq_true, decide_eq_true_eq, beq_iff_eq] at hr
  obtain ⟨hbound, hmode⟩ := hr
  exact ⟨hbound, fun h1 => hmode.resolve_left (by omega)⟩

section
variable {m : Mbox} {s : State} (htaken : s.taken m.val 0xC040 = true)
include htaken

theorem completes_logbookSnapshot_refused
    (h : 1 < leField (s.payload m.val) 10 1 ∨ 1 < leField (s.payload m.val) 11 1) :
    Completes (.logbookSnapshot m) s fun t => t.log = s.log ∧ t.answered m .invalidInput .range .empty := by
  refine completes_onCommand (show execLogbookSnapshot m s = _ from rfl) htaken ?_
  dsimp only
  rw [if_pos (by rcases h with h | h <;> simp [h]), State.refuse_eq]
  exact ⟨s.complete_log _ _ _ _ _, s.answered_complete m _ _ _ _⟩

/-- The end that a snapshot read keeps (R383). -/
def State.snapshotStop (s : State) (m : Mbox) : Nat :=
  ((Sparse.find s.log.snapshots m.val).map Prod.fst).getD (s.log.nextSeq - 1)

/-- The records held that a read asks for (R382). -/
def State.snapshotHeld (s : State) (m : Mbox) : List LogRec :=
  (s.log.readable (leField (s.payload m.val) 10 1) (leField (s.payload m.val) 11 1) (s.snapshotStop m)).filter
    fun r => decide (leField (s.payload m.val) 0 8 ≤ r.last)

/-- Those of them that the count and the payload take. -/
def State.snapshotOut (s : State) (m : Mbox) : List LogRec :=
  takeSlots (min (leField (s.payload m.val) 8 2) (slotsFit m)) (s.snapshotHeld m)

/-- Whether more remain. -/
def State.snapshotMore (s : State) (m : Mbox) : Bool := decide ((s.snapshotOut m).length < (s.snapshotHeld m).length)

/-- The snapshots after a read: its end kept while more records remain, released otherwise. -/
def State.snapshotsAfter (s : State) (m : Mbox) (keep : Bool) : Sparse (Nat × Nat) :=
  if keep then Sparse.put s.log.snapshots m.val (s.snapshotStop m, s.clock) else Sparse.erase s.log.snapshots m.val

def State.snapshotTaken (s : State) (m : Mbox) (keep : Bool) : State :=
  { s with log := { s.log with snapshots := s.snapshotsAfter m keep } }

theorem exec_logbookSnapshot (hsource : leField (s.payload m.val) 10 1 ≤ 1)
    (hmode : leField (s.payload m.val) 11 1 ≤ 1) (hzero : reservedZero (s.payload m.val) [12, 13, 14, 15] = true) :
    exec (.logbookSnapshot m) s =
      .next ((s.snapshotTaken m (leField (s.payload m.val) 11 1 = 1 && s.snapshotMore m)).succeed m.val
        (.bytes (snapshotOutput (s.snapshotOut m) (s.snapshotMore m) s.log.lostTotal))) := by
  change execLogbookSnapshot m s = _
  rw [execLogbookSnapshot, State.onCommand, htaken, if_pos rfl]
  dsimp only
  rw [if_neg (by rw [hzero]; simp; omega)]
  unfold State.snapshotTaken State.snapshotsAfter State.snapshotMore State.snapshotOut State.snapshotHeld
    State.snapshotStop
  cases Sparse.find s.log.snapshots m.val <;> rfl

theorem completes_logbookSnapshot (hsource : leField (s.payload m.val) 10 1 ≤ 1)
    (hmode : leField (s.payload m.val) 11 1 ≤ 1) (hzero : reservedZero (s.payload m.val) [12, 13, 14, 15] = true)
    {stop : Nat} (hstop : stop = ((Sparse.find s.log.snapshots m.val).map Prod.fst).getD (s.log.nextSeq - 1)) :
    Completes (.logbookSnapshot m) s fun t => ∃ out more,
      t.answered m .success .none (.bytes (snapshotOutput out more s.log.lostTotal)) ∧
      out = takeSlots (min (leField (s.payload m.val) 8 2) (slotsFit m))
        ((s.log.readable (leField (s.payload m.val) 10 1) (leField (s.payload m.val) 11 1) stop).filter
          fun r => decide (leField (s.payload m.val) 0 8 ≤ r.last)) ∧
      (∀ r ∈ out, s.log.clearBound < r.last ∧ leField (s.payload m.val) 0 8 ≤ r.last ∧
        (leField (s.payload m.val) 11 1 = 1 → r.last ≤ stop)) ∧
      slotsOf out ≤ min (leField (s.payload m.val) 8 2) (slotsFit m) ∧
      (leField (s.payload m.val) 11 1 = 1 → more = true →
        Sparse.find t.log.snapshots m.val = some (stop, s.clock)) ∧
      (leField (s.payload m.val) 11 1 = 0 ∨ more = false →
        Sparse.find t.log.snapshots m.val = none) := by
  obtain rfl : stop = s.snapshotStop m := hstop
  refine ⟨_, exec_logbookSnapshot htaken hsource hmode hzero, s.snapshotOut m, s.snapshotMore m,
    State.answered_complete _ m _ _ _ _, rfl, fun r hr => ?_, slotsOf_takeSlots_le _ _, fun h1 hmore => ?_, fun hdone => ?_⟩
  · obtain ⟨hread, hfirst⟩ := List.mem_filter.mp (mem_of_mem_takeSlots hr)
    obtain ⟨hbound, hend⟩ := Logb.mem_readable hread
    exact ⟨hbound, of_decide_eq_true hfirst, hend⟩
  · rw [State.succeed_eq, State.complete_log, hmore, h1]
    exact Sparse.find_put_same _ _ _
  · have hrelease : (decide (leField (s.payload m.val) 11 1 = 1) && s.snapshotMore m) = false := by
      rcases hdone with h | h <;> rw [h]
      · rfl
      · exact Bool.and_false _
    rw [State.succeed_eq, State.complete_log, hrelease]
    exact Sparse.find_erase_same _ _

end

section
variable {m : Mbox} {e c : Nat} {s : State} (hsnap : Sparse.find s.log.snapshots m.val = some (e, c))
include hsnap

theorem completes_snapshotReleaseTimeout (hdue : s.elapsed c (sec 60) = true) :
    Completes (.snapshotReleaseTimeout m) s fun t => Sparse.find t.log.snapshots m.val = none := by
  refine ⟨_, rfl, ?_⟩
  dsimp only
  rw [hsnap]
  dsimp only
  rw [if_pos hdue]
  exact Sparse.find_erase_same _ _

theorem completes_snapshotReleaseTimeout_early (hdue : s.elapsed c (sec 60) = false) :
    Completes (.snapshotReleaseTimeout m) s fun t => t = s := by
  refine ⟨_, rfl, ?_⟩
  dsimp only
  rw [hsnap]
  dsimp only
  rw [if_neg (by simp [hdue])]

end

theorem Logb.clearBound_lose (l : Logb) (v : Severity) : (l.lose v).clearBound = l.clearBound := by
  cases v <;> rfl

theorem Logb.advance_archive (l : Logb) (k : Nat) : (l.advance k).archive = l.archive := by
  unfold Logb.advance
  repeat' split
  all_goals rfl

theorem Logb.advance_clearBound (l : Logb) (k : Nat) : (l.advance k).clearBound = l.clearBound := by
  unfold Logb.advance
  repeat' split
  all_goals rfl

/-- The first bytes of a padded payload are its own. -/
theorem take_padTo {n k : Nat} (hk : k ≤ n) (l rest : List Byte) (hl : l.length = k) : (padTo n (l ++ rest)).take k = l := by
  unfold padTo
  rw [List.take_take, Nat.min_eq_left hk, List.append_assoc, List.take_left' hl]

theorem Logb.clearBound_archiveRoom {l k : Logb} {v : Severity} {need fuel : Nat}
    (h : l.archiveRoom v need fuel = some k) : k.clearBound = l.clearBound := by
  induction fuel generalizing l with
  | zero =>
    unfold Logb.archiveRoom at h
    split at h
    · cases h
      rfl
    · cases h
  | succ fuel ih =>
    unfold Logb.archiveRoom at h
    split at h
    · cases h
      rfl
    · split at h
      next r _ => exact (ih h).trans (Logb.clearBound_lose _ _)
      · cases h

theorem Logb.clearBound_archiveAll (l : Logb) : l.archiveAll.clearBound = l.clearBound := by
  unfold Logb.archiveAll
  refine foldl_keeps Logb.clearBound (fun l r => ?_) _ l
  unfold Logb.archiveOne
  dsimp only
  split
  · rfl
  · split
    next k hk =>
      have hkept : k.clearBound = l.clearBound := Logb.clearBound_archiveRoom hk
      exact hkept
    · exact l.clearBound_lose r.sev

/-! ## The authorised clear (R387, R388) -/

section
variable {m : Mbox} {bound : Nat} {auth : BitVec 128} {s : State} (htaken : s.taken m.val 0xC041 = true)
  (hpending : s.log.clearPending = none) (hbound : leField (s.payload m.val) 0 8 = bound)
  (hauth : BitVec.ofNat 128 (leField (s.payload m.val) 8 16) = auth)
include htaken hpending hbound

theorem completes_logbookClear_range (h : bound = 0 ∨ s.log.nextSeq ≤ bound) :
    Completes (.logbookClear m) s fun t => t.log = s.log ∧ t.answered m .invalidInput .range .empty := by
  refine completes_onCommand (show execLogbookClear m s = _ from rfl) htaken ?_
  dsimp only
  rw [hbound, hpending, if_neg (by simp), if_pos h, State.refuse_eq]
  exact ⟨s.complete_log _ _ _ _ _, s.answered_complete m _ _ _ _⟩

section
variable (hzero : bound ≠ 0) (hlt : bound < s.log.nextSeq)
include hzero hlt hauth

theorem completes_logbookClear_unauthorised
    (h : bitOf s.kce.loaded 0 = false ∨ s.kce.coreLFenced = true ∨
      (s.clearAuth bound s.log.chainTag ≠ auth ∧ s.clearAuth bound s.log.prevTag ≠ auth)) :
    Completes (.logbookClear m) s fun t => t.log = s.log ∧ t.answered m .invalidInput .authFail .empty := by
  have hrange : ¬(bound = 0 ∨ s.log.nextSeq ≤ bound) := by omega
  refine completes_onCommand (show execLogbookClear m s = _ from rfl) htaken ?_
  dsimp only
  rw [hbound, hauth, hpending, if_neg (by simp), if_neg hrange]
  have hanswer : ∀ u : State, u = s.refuse m.val .authFail →
      u.log = s.log ∧ u.answered m .invalidInput .authFail .empty := by
    rintro u rfl
    rw [State.refuse_eq]
    exact ⟨s.complete_log _ _ _ _ _, s.answered_complete m _ _ _ _⟩
  split
  · exact hanswer _ rfl
  next hkey =>
    obtain ⟨hchain, hprev⟩ : s.clearAuth bound s.log.chainTag ≠ auth ∧ s.clearAuth bound s.log.prevTag ≠ auth := by
      rcases h with h | h | h
      · simp [h] at hkey
      · simp [h] at hkey
      · exact h
    rw [State.authPair, if_neg hchain, if_neg hprev]
    exact hanswer _ rfl

theorem completes_logbookClear (hload : bitOf s.kce.loaded 0 = true) (hcore : s.kce.coreLFenced = false)
    (h : s.clearAuth bound s.log.chainTag = auth ∨ s.clearAuth bound s.log.prevTag = auth)
    (hqueue : s.log.queue = []) (_howes : s.log.owes = false) (hnum : s.log.canNumber 2 = true)
    (hroom : slotsOf s.log.ring + 2 ≤ 65536) :
    Completes (.logbookClear m) s fun t =>
      t.log.clearPending = some ⟨bound, s.log.nextSeq, m⟩ ∧ (t.mb m.val).st = .executing ∧
        t.log.archive = s.log.archive ∧ t.log.clearBound = s.log.clearBound ∧
        ∃ r ∈ t.log.ring, r.type = .clear ∧ r.seq = s.log.nextSeq ∧ r.sev = .warn ∧
          r.payload.take 6 = leBytes 6 bound := by
  have hrange : ¬(bound = 0 ∨ s.log.nextSeq ≤ bound) := by omega
  obtain ⟨c, hc⟩ : ∃ c, s.authPair bound auth = some c := by
    unfold State.authPair
    split
    · exact ⟨_, rfl⟩
    next hchain => exact ⟨_, if_pos (h.resolve_left hchain)⟩
  refine completes_onCommand (show execLogbookClear m s = _ from rfl) htaken ?_
  dsimp only
  rw [hbound, hauth, hpending, if_neg (by simp), if_neg hrange, if_neg (by simp [hload, hcore]), hc, hqueue]
  dsimp only [List.length_nil, State.drainLog]
  rw [State.writeRec_fits (r := ⟨0, .warn, .clear, _, _, true, false⟩) hnum hroom]
  refine ⟨rfl, (State.executing_of_taken htaken).1, Logb.advance_archive _ _, Logb.advance_clearBound _ _, _,
    List.mem_append_right _ (List.mem_singleton_self _), rfl, rfl, rfl, ?_⟩
  exact take_padTo (by decide) (leBytes 6 bound) _ rfl

end
end

/-! ## The clear takes effect (R388) -/

section
variable {x : ClearRun} {s : State} (hpending : s.log.clearPending = some x)
include hpending

/-- The logbook after a clear. -/
def State.cleared (s : State) (x : ClearRun) : State :=
  { s with log := { s.log.archiveAll with
    clearBound := max s.log.archiveAll.clearBound x.bound, clearPending := none
    archive := s.log.archiveAll.archive.filter fun r => decide (x.bound < r.last) } }

theorem exec_clearRetire (hrun : s.mst.running = true) (hreach : s.archiveReachable = true) :
    exec .clearRetire s =
      .next (if s.taken x.mbox.val 0xC041 then (s.cleared x).succeed x.mbox.val (.bytes (leBytes 8 x.seq))
        else s.cleared x) := by
  change Host.Outcome.next (match s.log.clearPending with | none => _ | some c => _) = _
  rw [hpending]
  dsimp only
  rw [if_neg (by simp [hrun, hreach])]
  rfl

theorem completes_clearRetire (hrun : s.mst.running = true) (hreach : s.archiveReachable = true) :
    Completes .clearRetire s fun t =>
      t.log.clearPending = none ∧ t.log.clearBound = max s.log.clearBound x.bound ∧
        (∀ r ∈ t.log.archive, x.bound < r.last) ∧
        (s.taken x.mbox.val 0xC041 = true →
          t.answered x.mbox .success .none (.bytes (leBytes 8 x.seq))) := by
  have hlog : (s.cleared x).log.clearPending = none ∧ (s.cleared x).log.clearBound = max s.log.clearBound x.bound ∧
      ∀ r ∈ (s.cleared x).log.archive, x.bound < r.last :=
    ⟨rfl, congrArg (max · x.bound) (Logb.clearBound_archiveAll _), fun r hr => of_decide_eq_true (List.mem_filter.mp hr).2⟩
  refine ⟨_, exec_clearRetire hpending hrun hreach, ?_⟩
  dsimp only
  obtain ⟨hnone, hbound, harch⟩ := hlog
  split
  · rw [State.succeed_eq, State.complete_log]
    exact ⟨hnone, hbound, harch, fun _ => State.answered_complete _ _ _ _ _ _⟩
  next h => exact ⟨hnone, hbound, harch, fun ht => absurd ht h⟩

theorem completes_clearRetire_waits (h : s.mst.running = false ∨ s.archiveReachable = false) :
    Completes .clearRetire s fun t => t = s := by
  refine ⟨_, rfl, ?_⟩
  dsimp only
  rw [hpending]
  dsimp only
  rw [if_pos (by rcases h with h | h <;> simp [h])]

end

/-- Settles O51: snapshot reads by the records held, and clears by their two steps. -/
theorem logbookReadsAndClears : Obligations.LogbookReadsAndClears := by
  unfold Obligations.LogbookReadsAndClears
  exact ⟨fun m s htaken => ⟨completes_logbookSnapshot_refused htaken, fun hsource hmode hzero stop hstop =>
      completes_logbookSnapshot htaken hsource hmode hzero hstop⟩,
    fun m e c s hsnap => ⟨completes_snapshotReleaseTimeout hsnap, completes_snapshotReleaseTimeout_early hsnap⟩,
    fun m bound auth s htaken hpending hbound hauth => ⟨completes_logbookClear_range htaken hpending hbound,
      fun hzero hlt => ⟨completes_logbookClear_unauthorised htaken hpending hbound hauth hzero hlt,
        completes_logbookClear htaken hpending hbound hauth hzero hlt⟩⟩,
    fun x s hpending => ⟨completes_clearRetire hpending, completes_clearRetire_waits hpending⟩⟩

end Sys2Proof.Machine


/-! SUPPORT. The sea chest: records, raw operations, counters and erases (O52). -/

namespace Sys2Proof.Machine

open Sys2Proof

/-! ## Records (R392 to R395) -/

theorem Sea.value_eq_holding (x : Sea) (id : Nat) : x.value id = ((holding id x.recs).getLast?).map SRec.payload := rfl

theorem holding_cons (id : Nat) (r : SRec) (l : List SRec) :
    holding id (r :: l) = if (r.id.toNat == id && !r.withdrawn) = true then r :: holding id l else holding id l :=
  List.filter_cons

theorem holding_append (id : Nat) (l r : List SRec) : holding id (l ++ r) = holding id l ++ holding id r :=
  List.filter_append ..

/-- A record with a later live one of the same identifier is not the last. -/
theorem getLast?_holding_superseded {id : Nat} {r : SRec} {l : List SRec} (hid : r.id.toNat = id)
    (h : (l.any fun x => x.id == r.id && !x.withdrawn) = true) : (r :: holding id l).getLast? = (holding id l).getLast? := by
  obtain ⟨x, hx, hlive⟩ := List.any_eq_true.mp h
  obtain ⟨hsame, hkept⟩ := Bool.and_eq_true_iff.mp hlive
  have hin : x ∈ holding id l :=
    List.mem_filter.mpr ⟨hx, by rw [eq_of_beq hsame, hid, hkept, beq_self_eq_true]; rfl⟩
  obtain ⟨y, ys, hys⟩ := List.exists_cons_of_ne_nil (List.ne_nil_of_mem hin)
  rw [hys, List.getLast?_cons_cons]

/-- Compaction drops no present value (R395). -/
theorem getLast?_holding_liveRecs (id : Nat) (l : List SRec) :
    (holding id (liveRecs l)).getLast? = (holding id l).getLast? := by
  induction l with
  | nil => rfl
  | cons r l ih =>
    unfold liveRecs
    rw [holding_cons]
    split
    next hdrop =>
      rw [ih]
      split
      next hlive =>
        obtain ⟨hid, hkept⟩ := Bool.and_eq_true_iff.mp hlive
        have hlater := hdrop.resolve_left (by simpa using hkept)
        exact (getLast?_holding_superseded (eq_of_beq hid) hlater).symm
      · rfl
    · rw [holding_cons]
      split
      · rw [List.getLast?_cons, List.getLast?_cons, ih]
      · exact ih

theorem Sea.value_compact (x : Sea) (id : Nat) : x.compact.value id = x.value id := by
  have hrecs : x.compact.recs = liveRecs x.recs := by
    unfold Sea.compact Sea.eraseOther
    split <;> rfl
  rw [Sea.value_eq_holding, Sea.value_eq_holding, hrecs, getLast?_holding_liveRecs]

theorem Sea.txn_compact (x : Sea) : x.compact.txn = x.txn := by
  unfold Sea.compact Sea.eraseOther
  split <;> rfl

/-- The sea chest with room for a transaction of a length (R395). -/
def Sea.roomFor (x : Sea) (total : Nat) : Sea := if x.freeBytes < total + 2048 then x.compact else x

@[simp] theorem Sea.value_roomFor (x : Sea) (total id : Nat) : (x.roomFor total).value id = x.value id := by
  unfold Sea.roomFor
  split
  · exact x.value_compact id
  · rfl

@[simp] theorem Sea.txn_roomFor (x : Sea) (total : Nat) : (x.roomFor total).txn = x.txn := by
  unfold Sea.roomFor
  split
  · exact x.txn_compact
  · rfl

/-- Both copies of every record of a transaction. -/
def transactionBytes (new : List (Nat × List Byte)) : Nat := (new.map fun e => recordBytes e.2.length).sum

theorem State.seaStore_fits_sea {s : State} {new : List (Nat × List Byte)} (h : s.sea.fits new = true) :
    (s.seaStore new true).1.sea = (s.sea.roomFor (transactionBytes new)).append new := by
  unfold State.seaStore
  rw [h, if_pos (by decide)]
  exact State.noteWear_sea _ _

theorem State.seaStore_unverified (s : State) (new : List (Nat × List Byte)) :
    s.seaStore new false = (s.storeFails, false) := rfl

theorem State.seaStore_unfit {s : State} {new : List (Nat × List Byte)} (h : s.sea.fits new = false) :
    s.seaStore new true = (s.storeFails, false) := by
  unfold State.seaStore
  rw [h]
  rfl

theorem Sea.value_append_other (x : Sea) {id j : Nat} (p : List Byte) (hid : id < 2 ^ 15) (h : j ≠ id) :
    (x.append [(id, p)]).value j = x.value j := by
  have habsent : holding j (newRecs (x.txn + 1) [(id, p)]) = [] :=
    holding_newRecs_absent _ (by simpa using hid) (by simpa using h)
  have hrecs : (x.append [(id, p)]).recs = x.recs ++ newRecs (x.txn + 1) [(id, p)] := rfl
  rw [Sea.value_eq_holding, hrecs, holding_append, habsent, List.append_nil, Sea.value_eq_holding]

theorem State.fired_storeFails (s : State) : s.storeFails.fired 1275 .fault :=
  (State.fired_fire _ _ _ _ _ _).mpr (by rw [if_pos rfl])

/-- A record cleared where its identifier is the one withdrawn (R394). -/
def withdraw (id : Nat) (r : SRec) : SRec := if r.id.toNat = id then { r with withdrawn := true } else r

theorem withdraw_same {id : Nat} {r : SRec} (h : r.id.toNat = id) : withdraw id r = { r with withdrawn := true } :=
  if_pos h

theorem withdraw_other {id : Nat} {r : SRec} (h : r.id.toNat ≠ id) : withdraw id r = r := if_neg h

theorem holding_withdraw_same (id : Nat) (l : List SRec) : holding id (l.map (withdraw id)) = [] := by
  refine List.filter_eq_nil_iff.mpr fun r hr => ?_
  obtain ⟨q, -, rfl⟩ := List.mem_map.mp hr
  by_cases h : q.id.toNat = id
  · simp [withdraw_same h]
  · simp [withdraw_other h, h]

theorem holding_withdraw_other {id j : Nat} (h : j ≠ id) (l : List SRec) :
    holding j (l.map (withdraw id)) = holding j l := by
  induction l with
  | nil => rfl
  | cons r l ih =>
    rw [List.map_cons, holding_cons, holding_cons, ih]
    by_cases hr : r.id.toNat = id
    · have hj : (r.id.toNat == j) = false := beq_false_of_ne fun hj => h (hj.symm.trans hr)
      rw [withdraw_same hr]
      simp [hj]
    · rw [withdraw_other hr]

section
variable {s : State} {id : BitVec 15} {p : List Byte} (hp : p.length ≤ 480)

theorem exec_recordStore (hp : p.length ≤ 480) (hsettled : s.sea.settled = true) (hstrike : s.seq.state ≠ .strike)
    (v : Bool) : exec (.recordStore id p v) s = .next (s.seaStore [(id.toNat, p)] v).1 := by
  have hfits : recordFits p = true := decide_eq_true hp
  change execRecordStore id p v s = _
  rw [execRecordStore, if_neg (by simp [hfits]), if_neg (by simp [hsettled, State.flashUsable, hstrike])]

theorem completes_recordStore (hp : p.length ≤ 480) (hsettled : s.sea.settled = true) (hstrike : s.seq.state ≠ .strike)
    (hfits : s.sea.fits [(id.toNat, p)] = true) :
    Completes (.recordStore id p true) s fun t =>
      t.sea.value id.toNat = some p ∧ t.sea.txn = s.sea.txn + 1 ∧ ∀ j ≠ id.toNat, t.sea.value j = s.sea.value j := by
  refine ⟨_, exec_recordStore hp hsettled hstrike true, ?_⟩
  dsimp only
  rw [State.seaStore_fits_sea hfits]
  refine ⟨Sea.value_append (by simpa using id.isLt) (List.nodup_singleton _) List.mem_cons_self,
    congrArg (· + 1) (s.sea.txn_roomFor _), fun j hj => ?_⟩
  rw [Sea.value_append_other _ p id.isLt hj, Sea.value_roomFor]

theorem completes_recordStore_failed (hp : p.length ≤ 480) (hsettled : s.sea.settled = true)
    (hstrike : s.seq.state ≠ .strike) {v : Bool} (h : s.seaStore [(id.toNat, p)] v = (s.storeFails, false)) :
    Completes (.recordStore id p v) s fun t =>
      t.sea.recs = s.sea.recs ∧ t.sea.storeFailed = true ∧ t.fired 1275 .fault := by
  refine ⟨_, exec_recordStore hp hsettled hstrike v, ?_⟩
  dsimp only
  rw [h]
  dsimp only
  rw [State.storeFails_sea]
  exact ⟨rfl, rfl, s.fired_storeFails⟩

theorem completes_recordStore_closed (hp : p.length ≤ 480) (h : s.sea.settled = false ∨ s.seq.state = .strike)
    (v : Bool) : Completes (.recordStore id p v) s fun t => t = s := by
  have hfits : recordFits p = true := decide_eq_true hp
  refine ⟨s, ?_, rfl⟩
  change execRecordStore id p v s = _
  rw [execRecordStore, if_neg (by simp [hfits]), if_pos (by rcases h with h | h <;> simp [h, State.flashUsable])]

theorem completes_recordWithdraw (hsettled : s.sea.settled = true) (hstrike : s.seq.state ≠ .strike) :
    Completes (.recordWithdraw id) s fun t =>
      t.sea.value id.toNat = none ∧ ∀ j ≠ id.toNat, t.sea.value j = s.sea.value j := by
  have hrecs : (s.seaWithdraw id.toNat).sea.recs = s.sea.recs.map (withdraw id.toNat) := rfl
  refine ⟨_, rfl, ?_⟩
  dsimp only
  rw [if_neg (by simp [hsettled, State.flashUsable, hstrike])]
  refine ⟨?_, fun j hj => ?_⟩
  · rw [Sea.value_eq_holding, hrecs, holding_withdraw_same]
    rfl
  · rw [Sea.value_eq_holding, hrecs, holding_withdraw_other hj, Sea.value_eq_holding]

theorem completes_recordWithdraw_closed (h : s.sea.settled = false ∨ s.seq.state = .strike) :
    Completes (.recordWithdraw id) s fun t => t = s := by
  refine ⟨_, rfl, ?_⟩
  dsimp only
  rw [if_pos (by rcases h with h | h <;> simp [h, State.flashUsable])]

end

/-! ## Raw operations (R390, R391) -/

@[simp] theorem State.touchSector_sea (s : State) (k : Nat) : (s.touchSector k).sea = s.sea := by
  unfold State.touchSector
  split <;> rfl

theorem Sea.rawBytes_nodup (x : Sea) : (x.rawBytes.map Prod.fst).Nodup := by
  have hlen : x.rawLen.toNat < 512 := x.rawLen.isLt
  rw [Sea.rawBytes, List.map_map]
  refine List.Nodup.map_on (fun a ha b hb h => ?_) List.nodup_range
  have ha' := List.mem_range.mp ha
  have hb' := List.mem_range.mp hb
  have hmod : x.rawPage.toNat * 512 + (x.rawOffset.toNat + a) % 512 =
      x.rawPage.toNat * 512 + (x.rawOffset.toNat + b) % 512 := h
  omega

theorem Sea.program_cons (x : Sea) (e : Nat × Byte) (l : List (Nat × Byte)) :
    x.program (e :: l) = (x.programByte e.1 e.2).program l := rfl

/-- A program leaves the bytes that it does not name. -/
theorem Sea.read_program_other {l : List (Nat × Byte)} {a : Nat} (h : ∀ e ∈ l, e.1 ≠ a) (x : Sea) :
    Memory.read 0xFF#8 (x.program l).flash a = Memory.read 0xFF#8 x.flash a := by
  induction l generalizing x with
  | nil => rfl
  | cons e l ih =>
    rw [Sea.program_cons, ih fun f hf => h f (List.mem_cons_of_mem _ hf)]
    exact Memory.read_write_other _ _ _ (h e List.mem_cons_self).symm

/-- A program changes bits from 1 to 0 only, in the bytes that it names (R391). -/
theorem Sea.read_program_mem {l : List (Nat × Byte)} (hl : (l.map Prod.fst).Nodup) {e : Nat × Byte} (he : e ∈ l)
    (x : Sea) : Memory.read 0xFF#8 (x.program l).flash e.1 = Memory.read 0xFF#8 x.flash e.1 &&& e.2 := by
  induction l generalizing x with
  | nil => exact absurd he List.not_mem_nil
  | cons f l ih =>
    obtain ⟨hhead, htail⟩ := List.nodup_cons.mp hl
    rw [Sea.program_cons]
    rcases List.mem_cons.mp he with rfl | hin
    · rw [Sea.read_program_other fun g hg h =>
        hhead (List.mem_map.mpr ⟨g, hg, h⟩)]
      exact Memory.read_write_same _ _ _ _
    · have hne : e.1 ≠ f.1 := fun h => hhead (h ▸ List.mem_map_of_mem (f := Prod.fst) hin)
      rw [ih htail hin]
      exact congrArg (· &&& e.2) (Memory.read_write_other _ _ _ hne)

theorem Sea.rawError_program (x : Sea) (l : List (Nat × Byte)) : (x.program l).rawError = x.rawError := by
  induction l generalizing x with
  | nil => rfl
  | cons e l ih => exact ih _

/-- A filter by the key leaves the entries of the keys kept. -/
theorem Sparse.find_filter_key {α : Type} (p : Nat → Bool) (m : Sparse α) (k : Nat) :
    Sparse.find (m.filter fun e => p e.1) k = if p k = true then Sparse.find m k else none := by
  induction m with
  | nil => simp [Sparse.find]
  | cons e m ih =>
    rw [List.filter_cons]
    by_cases hk : e.1 = k
    · subst hk
      by_cases hp : p e.1 = true
      · simp [Sparse.find, hp]
      · rw [if_neg hp, ih, if_neg hp, if_neg hp]
    · have hcons : Sparse.find (e :: m) k = Sparse.find m k := by simp [Sparse.find, hk]
      rw [hcons, ← ih]
      split
      · simp [Sparse.find, hk]
      · rfl

theorem Sea.read_eraseSector (x : Sea) (k a : Nat) :
    Memory.read 0xFF#8 (x.eraseSector k).flash a = if a / 32768 = k then 0xFF#8 else Memory.read 0xFF#8 x.flash a := by
  have hfind := Sparse.find_filter_key (fun a => !decide (a / sectorBytes = k)) x.flash a
  change (Sparse.find (x.flash.filter fun c => !decide (c.1 / sectorBytes = k)) a).getD 0xFF#8 = _
  rw [hfind]
  by_cases h : a / 32768 = k
  · simp [sectorBytes, h]
  · simp [sectorBytes, h, Memory.read, Sparse.get]

section
variable {s : State} {path : Path} (hstrike : s.seq.state ≠ .strike) (hopen : s.pathOpen path = true)

/-- A raw operation with its code in SEA.RAW_CTRL. -/
def State.withRawOp (s : State) (op : BitVec 2) : State := { s with sea := { s.sea with rawOp := op } }

include hstrike hopen

theorem exec_rawProgram : exec (.rawProgram path) s = .next (s.withRawOp 0b01#2).rawProgram := by
  change Host.Outcome.next (if _ then _ else _) = _
  rw [if_neg (by simp [hopen]), State.rawGo, if_neg (by simp [State.flashUsable, hstrike])]
  rfl

theorem exec_rawErase : exec (.rawErase path) s = .next (s.withRawOp 0b10#2).rawErase := by
  change Host.Outcome.next (if _ then _ else _) = _
  rw [if_neg (by simp [hopen]), State.rawGo, if_neg (by simp [State.flashUsable, hstrike])]
  rfl

theorem completes_rawProgram (hsector : 5 ≤ s.sea.rawSector)
    (hcan : s.sea.canProgram (s.sea.rawBytes.map Prod.fst) = true) :
    Completes (.rawProgram path) s fun t =>
      t.sea.rawError = s.sea.rawError ∧
      (∀ e ∈ s.sea.rawBytes, Memory.read 0xFF#8 t.sea.flash e.1 = Memory.read 0xFF#8 s.sea.flash e.1 &&& e.2) ∧
      ∀ a, (∀ e ∈ s.sea.rawBytes, e.1 ≠ a) →
        Memory.read 0xFF#8 t.sea.flash a = Memory.read 0xFF#8 s.sea.flash a := by
  have hcan' : (s.withRawOp 0b01#2).sea.canProgram ((s.withRawOp 0b01#2).sea.rawBytes.map Prod.fst) = true := hcan
  have hsector' : 5 ≤ (s.withRawOp 0b01#2).sea.rawSector := hsector
  refine ⟨_, exec_rawProgram hstrike hopen, ?_⟩
  dsimp only
  rw [State.rawProgram, if_neg (by simp [hcan', hsector']), State.touchSector_sea]
  exact ⟨Sea.rawError_program _ _, fun e he => Sea.read_program_mem s.sea.rawBytes_nodup he _,
    fun a ha => Sea.read_program_other ha _⟩

theorem completes_rawProgram_refused
    (h : s.sea.rawSector < 5 ∨ s.sea.canProgram (s.sea.rawBytes.map Prod.fst) = false) :
    Completes (.rawProgram path) s fun t => t.sea.rawError = true ∧ t.sea.flash = s.sea.flash := by
  have hrefused : (s.withRawOp 0b01#2).sea.rawSector < 5 ∨
      (!(s.withRawOp 0b01#2).sea.canProgram ((s.withRawOp 0b01#2).sea.rawBytes.map Prod.fst)) = true :=
    h.imp_right fun hcan => by
      rw [Bool.not_eq_true']
      exact hcan
  refine ⟨_, exec_rawProgram hstrike hopen, ?_⟩
  rw [State.rawProgram, if_pos hrefused]
  exact ⟨rfl, rfl⟩

theorem completes_rawErase (hsector : 5 ≤ s.sea.rawSector) :
    Completes (.rawErase path) s fun t =>
      (∀ a, Memory.read 0xFF#8 t.sea.flash a =
        if a / 32768 = s.sea.rawSector then 0xFF#8 else Memory.read 0xFF#8 s.sea.flash a) ∧
      Sparse.get 0 t.sea.erases s.sea.rawSector = Sparse.get 0 s.sea.erases s.sea.rawSector + 1 := by
  have hsector' : ¬(s.withRawOp 0b10#2).sea.rawSector < 5 := Nat.not_lt.mpr hsector
  refine ⟨_, exec_rawErase hstrike hopen, ?_⟩
  dsimp only
  rw [State.rawErase, if_neg hsector', State.noteWear_sea, State.touchSector_sea]
  exact ⟨fun a => Sea.read_eraseSector _ _ a,
    Sparse.get_modify_same 0 s.sea.erases s.sea.rawSector (· + 1)⟩

theorem completes_rawErase_refused (hsector : s.sea.rawSector < 5) :
    Completes (.rawErase path) s fun t => t.sea.rawError = true ∧ t.sea.flash = s.sea.flash := by
  have hsector' : (s.withRawOp 0b10#2).sea.rawSector < 5 := hsector
  refine ⟨_, exec_rawErase hstrike hopen, ?_⟩
  rw [State.rawErase, if_pos hsector']
  exact ⟨rfl, rfl⟩

end

theorem completes_rawProgram_closed {s : State} {path : Path} (hclosed : s.pathOpen path = false) :
    Completes (.rawProgram path) s fun t => t = s := by
  refine ⟨_, rfl, ?_⟩
  dsimp only
  rw [if_pos (by simp [hclosed])]

theorem completes_rawErase_closed {s : State} {path : Path} (hclosed : s.pathOpen path = false) :
    Completes (.rawErase path) s fun t => t = s := by
  refine ⟨_, rfl, ?_⟩
  dsimp only
  rw [if_pos (by simp [hclosed])]

/-! ## Counters (R401 to R404) -/

theorem State.counterInc_verified_others {s : State} {c j : Nat} (h : s.sea.saturated c = false) (hj : j ≠ c) :
    (s.counterInc c true).1.sea.counter j = s.sea.counter j := by
  unfold State.counterInc
  rw [if_neg (by simp [h]), if_pos rfl]
  extract_lets u v
  have hu : u.sea.counters = s.sea.counters := by
    unfold u
    split
    · exact s.counters_refillCounters
    · rfl
  rw [Sea.counter, Sparse.get_set_other _ _ _ hj, hu, ← Sea.counter]

theorem State.counterInc_saturated {s : State} {c : Nat} (h : s.sea.saturated c = true) (v : Bool) :
    s.counterInc c v = (s.fire 1277 .critical (Detail.ofUnit c), true) := by
  unfold State.counterInc
  rw [if_pos h]

section
variable {c : Fin 8} {s : State}

theorem exec_counterIncrement (hlow : 1 ≤ c.val) (hhigh : c.val ≤ 5) (hsettled : s.sea.settled = true)
    (hstrike : s.seq.state ≠ .strike) (v : Bool) :
    exec (.counterIncrement c v) s = .next (s.counterInc c.val v).1 := by
  change Host.Outcome.next (s.counterGo c.val v) = _
  have hnamed : ¬c.val < 1 := Nat.not_lt.mpr hlow
  rw [State.counterGo, if_neg (by simp [hnamed, hhigh, hsettled, State.flashUsable, hstrike])]

theorem completes_counterIncrement (hlow : 1 ≤ c.val) (hhigh : c.val ≤ 5) (hsettled : s.sea.settled = true)
    (hstrike : s.seq.state ≠ .strike) (hsat : s.sea.saturated c.val = false) :
    Completes (.counterIncrement c true) s fun t =>
      t.sea.counter c.val = s.sea.counter c.val + 1 ∧ ∀ j ≠ c.val, t.sea.counter j = s.sea.counter j := by
  have hmax : counterMax c.val < 2 ^ 64 := by
    have hall : ∀ c : Fin 8, counterMax c.val < 2 ^ 64 := by decide
    exact hall c
  refine ⟨_, exec_counterIncrement hlow hhigh hsettled hstrike true, ?_⟩
  exact ⟨(State.counterInc_verified hsat hmax).2, fun j hj => State.counterInc_verified_others hsat hj⟩

theorem completes_counterIncrement_failed (hlow : 1 ≤ c.val) (hhigh : c.val ≤ 5) (hsettled : s.sea.settled = true)
    (hstrike : s.seq.state ≠ .strike) (hsat : s.sea.saturated c.val = false) :
    Completes (.counterIncrement c false) s fun t =>
      t.sea.counters = s.sea.counters ∧ t.sea.storeFailed = true ∧ t.fired 1275 .fault := by
  refine ⟨_, exec_counterIncrement hlow hhigh hsettled hstrike false, ?_⟩
  dsimp only
  rw [State.counterInc_failed hsat]
  dsimp only
  rw [State.storeFails_sea]
  exact ⟨rfl, rfl, s.fired_storeFails⟩

theorem completes_counterIncrement_saturated (hlow : 1 ≤ c.val) (hhigh : c.val ≤ 5) (hsettled : s.sea.settled = true)
    (hstrike : s.seq.state ≠ .strike) (hsat : s.sea.saturated c.val = true) (v : Bool) :
    Completes (.counterIncrement c v) s fun t => t.sea = s.sea ∧ t.fired 1277 .critical := by
  refine ⟨_, exec_counterIncrement hlow hhigh hsettled hstrike v, ?_⟩
  dsimp only
  rw [State.counterInc_saturated hsat]
  exact ⟨State.fire_sea _ _ _ _, (State.fired_fire _ _ _ _ _ _).mpr (by rw [if_pos rfl])⟩

theorem completes_counterIncrement_unnamed (h : c.val = 0 ∨ 5 < c.val) (v : Bool) :
    Completes (.counterIncrement c v) s fun t => t = s := by
  have hnone : c.val < 1 ∨ 5 < c.val := h.imp_left Nat.lt_one_iff.mpr
  refine ⟨_, rfl, ?_⟩
  dsimp only
  rw [State.counterGo, if_pos (by rcases hnone with h | h <;> simp [h])]

end

/-- The base record of a refill: the five values (R404). -/
def Sea.baseRecord (x : Sea) : List (Nat × List Byte) :=
  [(0x0303, ((List.range 5).map fun i => leBytes 8 (x.counter (i + 1))).flatten)]

theorem State.refillCounters_fits {s : State} (h : s.sea.fits s.sea.baseRecord = true) :
    s.refillCounters.sea.ctrSlots = 5 ∧ (s.refillCounters.sea.value 0x0303).isSome := by
  obtain ⟨u, x, hstore, happend⟩ := State.seaStore_appends h
  have hvalue : (x.append s.sea.baseRecord).value 0x0303 = some _ :=
    Sea.value_append (by simp [Sea.baseRecord]) (List.nodup_singleton _) List.mem_cons_self
  rw [Sea.value_eq_holding, ← happend] at hvalue
  have hrefill : s.refillCounters = State.noteWear
      { u with sea := { u.sea with ctrSlots := 5, erases := Sparse.modify 0 u.sea.erases 2 (· + 1) } }
      u.sea.maxErases.1 := by
    have hbase : s.seaStore [(0x0303, ((List.range 5).map fun i => leBytes 8 (s.sea.counter (i + 1))).flatten)] true =
        (u, true) := hstore
    unfold State.refillCounters
    dsimp only
    rw [hbase]
    rfl
  rw [hrefill, State.noteWear_sea]
  exact ⟨rfl, by rw [Sea.value_eq_holding, hvalue]; rfl⟩

section
variable {s : State}

theorem completes_counterRefill (hslots : 960 < s.sea.ctrSlots) (hsettled : s.sea.settled = true)
    (hstrike : s.seq.state ≠ .strike) :
    Completes .counterRefill s fun t =>
      t.sea.counters = s.sea.counters ∧
        (s.sea.fits s.sea.baseRecord = true → t.sea.ctrSlots = 5 ∧ (t.sea.value 0x0303).isSome) := by
  refine ⟨_, rfl, ?_⟩
  dsimp only
  rw [if_neg (by simp [Nat.not_le.mpr hslots, hsettled, State.flashUsable, hstrike])]
  exact ⟨s.counters_refillCounters, State.refillCounters_fits⟩

theorem completes_counterRefill_roomy (hslots : s.sea.ctrSlots ≤ 960) : Completes .counterRefill s fun t => t = s := by
  refine ⟨_, rfl, ?_⟩
  dsimp only
  rw [if_pos (.inl hslots)]

/-! ## Erases and power-up (R395, R399, R400) -/

theorem completes_backgroundErase (herasing : s.sea.erasing = true) (hstrike : s.seq.state ≠ .strike) :
    Completes .backgroundErase s fun t =>
      t.sea.erasing = false ∧ t.sea.otherErased = true ∧ t.sea.recs = s.sea.recs := by
  refine ⟨_, rfl, ?_⟩
  dsimp only
  rw [if_neg (by simp [herasing, State.flashUsable, hstrike]), State.noteWear_sea]
  exact ⟨rfl, rfl, rfl⟩

theorem completes_backgroundErase_idle (herasing : s.sea.erasing = false) :
    Completes .backgroundErase s fun t => t = s := by
  refine ⟨_, rfl, ?_⟩
  dsimp only
  rw [if_pos (by simp [herasing])]

theorem completes_seaChestSettle (haon : s.rst.aon = true) (hsettled : s.sea.settled = false) :
    Completes .seaChestSettle s fun t =>
      t.sea.settled = true ∧ t.sea.otherErased = true ∧ t.sea.recs = s.sea.recs ∧ t.sea.counters = s.sea.counters := by
  refine ⟨_, rfl, ?_⟩
  dsimp only
  rw [if_neg (by simp [haon, hsettled]), State.noteWear_sea]
  cases herased : s.sea.otherErased
  · exact ⟨rfl, rfl, rfl, rfl⟩
  · exact ⟨rfl, herased, rfl, rfl⟩

theorem completes_seaChestSettle_settled (hsettled : s.sea.settled = true) :
    Completes .seaChestSettle s fun t => t = s := by
  refine ⟨_, rfl, ?_⟩
  dsimp only
  rw [if_pos (by simp [hsettled])]

end

/-- Settles O52: transactions, raw operations and counters, each by what it leaves of the flash and the records. -/
theorem seaChestStoresWholeOrNotAtAll : Obligations.SeaChestStoresWholeOrNotAtAll := by
  unfold Obligations.SeaChestStoresWholeOrNotAtAll
  refine ⟨fun id p s hp => ⟨fun hsettled hstrike =>
      ⟨completes_recordStore hp hsettled hstrike,
        fun hfits => completes_recordStore_failed hp hsettled hstrike (State.seaStore_unfit hfits),
        completes_recordStore_failed hp hsettled hstrike (s.seaStore_unverified _),
        completes_recordWithdraw hsettled hstrike⟩,
      fun h => ⟨completes_recordStore_closed hp h, completes_recordWithdraw_closed h⟩⟩,
    fun path s hstrike => ⟨fun hopen =>
      ⟨completes_rawProgram hstrike hopen, completes_rawProgram_refused hstrike hopen,
        completes_rawErase hstrike hopen, completes_rawErase_refused hstrike hopen⟩, fun hclosed => ?_⟩,
    fun c s => ⟨fun hlow hhigh hsettled hstrike =>
      ⟨fun hsat => ⟨completes_counterIncrement hlow hhigh hsettled hstrike hsat,
          completes_counterIncrement_failed hlow hhigh hsettled hstrike hsat⟩,
        completes_counterIncrement_saturated hlow hhigh hsettled hstrike⟩, completes_counterIncrement_unnamed⟩,
    fun s => ⟨completes_counterRefill, completes_counterRefill_roomy, completes_backgroundErase,
      completes_backgroundErase_idle, completes_seaChestSettle, completes_seaChestSettle_settled⟩⟩
  simpa using ⟨completes_rawProgram_closed hclosed, completes_rawErase_closed hclosed⟩

end Sys2Proof.Machine


/-! SUPPORT. Register reads and the paths they take (O54). -/

namespace Sys2Proof.Machine

open Sys2Proof

/-! ## Closed paths (R415, R425) -/

theorem State.onReg_of_closed {path : Path} {b : Block} {i : Nat} {s : State} (hp : s.pathOpen path = false)
    (f : State → State) : s.onReg path b i f = s := by
  simp [State.onReg, hp]

/-- An access to a domain that is down is turned away (R426). -/
theorem State.onReg_of_down {path : Path} {b : Block} {i : Nat} {s : State} (hp : s.pathOpen path = true)
    (hd : s.domainUp b i = false) (f : State → State) : s.onReg path b i f = s.refuseAccess path := by
  simp [State.onReg, hp, hd]

section
variable {path : Path} {s : State} (hp : s.pathOpen path = false)
include hp

theorem completes_onReg_closed {c : Instr} {b : Block} {i : Nat} {f : State → State}
    (hc : exec c s = .next (s.onReg path b i f)) : Completes c s fun t => t = s :=
  ⟨s, by rw [hc, State.onReg_of_closed hp], rfl⟩

theorem completes_lowWordRead_closed (a : Word) : Completes (.lowWordRead path a) s fun t => t = s := by
  refine ⟨_, exec_lowWordRead path a s, ?_⟩
  rw [if_pos (by simp [hp])]

theorem completes_registerWrite_closed (a d : Word) : Completes (.registerWrite path a d) s fun t => t = s := by
  refine ⟨s, ?_, rfl⟩
  change execRegisterWrite path a d s = _
  rw [execRegisterWrite, if_pos (by simp [hp])]

theorem completes_lockSet_closed (a d : Word) : Completes (.lockSet path a d) s fun t => t = s := by
  refine ⟨_, rfl, ?_⟩
  dsimp only
  split
  · split
    · rw [State.onReg_of_closed hp, ite_self]
    · rfl
  · rfl

theorem completes_closed {c : Instr}
    (hc : c ∈ [.mstFifoRead path, .pmuFreeze path 0, .pmuFreeze path 1, .pmuFreeze path 2, .pmuFreeze path 3,
        .pmuClear path 0, .pmuClear path 1, .pmuClear path 2, .pmuClear path 3] ∨
      (∃ ch, c = .addrTabHiRead path ch ∨ c = .addrTabClear path ch) ∨
      (∃ a, c = .lowWordRead path a) ∨
      (∃ a d, c = .registerWrite path a d ∨ c = .lockSet path a d ∨ c = .timeHiWrite path d)) :
    Completes c s fun t => t = s := by
  rcases hc with hc | ⟨ch, rfl | rfl⟩ | ⟨a, rfl⟩ | ⟨a, d, rfl | rfl | rfl⟩
  · simp only [List.mem_cons, List.not_mem_nil, or_false] at hc
    rcases hc with rfl | rfl | rfl | rfl | rfl | rfl | rfl | rfl | rfl <;> exact completes_onReg_closed hp rfl
  · exact completes_onReg_closed hp rfl
  · exact completes_onReg_closed hp rfl
  · exact completes_lowWordRead_closed hp a
  · exact completes_registerWrite_closed hp a d
  · exact completes_lockSet_closed hp a d
  · exact completes_onReg_closed hp rfl

end

/-- A high word whose latch is empty answers the current value (R427). -/
theorem State.wordRead_of_unlatched {s : State} {path : Path} {b : Block} {i : Nat} (h : b.isHigh i = true)
    (hnone : Sparse.find (s.latch path).high (b.key i) = none) : s.wordRead path b i = s.readReg path b i := by
  simp [State.wordRead, h, hnone]

/-! ## Accesses turned away, and places without a register (R425, R426) -/

section
variable {path : Path} {addr : Word} {s : State} (hp : s.pathOpen path = true)

include hp

theorem completes_lowWordRead_turnedAway
    (h : addr.toNat % 4 ≠ 0 ∨ ∃ b i, locate addr.toNat = .reg b i ∧ s.domainUp b i = false) :
    Completes (.lowWordRead path addr) s fun t =>
      t = { s with access := ⟨0#64, decide (path = .mainmast)⟩ } := by
  refine ⟨_, exec_lowWordRead path addr s, ?_⟩
  rw [if_neg (by simp [hp])]
  by_cases ha : addr.toNat % 4 = 0
  · obtain ⟨b, i, hl, hd⟩ := h.resolve_left (absurd ha)
    rw [if_neg (by simp [ha]), hl]
    exact State.onReg_of_down hp hd _
  · rw [if_pos ha]
    rfl

theorem completes_registerWrite_turnedAway (d : Word)
    (h : addr.toNat % 4 ≠ 0 ∨ ∃ b i, locate addr.toNat = .reg b i ∧ s.domainUp b i = false) :
    Completes (.registerWrite path addr d) s fun t =>
      t = { s with access := ⟨0#64, decide (path = .mainmast)⟩ } := by
  refine ⟨s.refuseAccess path, ?_, rfl⟩
  change execRegisterWrite path addr d s = _
  rw [execRegisterWrite, if_neg (by simp [hp])]
  by_cases ha : addr.toNat % 4 = 0
  · obtain ⟨b, i, hl, hd⟩ := h.resolve_left (absurd ha)
    rw [if_neg (by simp [ha]), hl]
    exact congrArg Host.Outcome.next (State.onReg_of_down hp hd _)
  · rw [if_pos ha]

section
variable (ha : addr.toNat % 4 = 0)
include ha

theorem exec_lowWordRead_place (hl : locate addr.toNat = .factory ∨ locate addr.toNat = .absent) :
    exec (.lowWordRead path addr) s = .next (s.readPlace path addr.toNat) := by
  rw [exec_lowWordRead, execLowWordRead, if_neg (by simp [hp]), if_neg (by simp [ha])]
  rcases hl with hl | hl <;> rw [hl]

theorem exec_registerWrite_place (d : Word) (hl : locate addr.toNat = .factory ∨ locate addr.toNat = .absent) :
    exec (.registerWrite path addr d) s = s.writePlace path addr.toNat d := by
  change execRegisterWrite path addr d s = _
  rw [execRegisterWrite, if_neg (by simp [hp]), if_neg (by simp [ha])]
  rcases hl with hl | hl <;> rw [hl]

theorem completes_lowWordRead_factory_debug (hdebug : path = .debug) (hl : locate addr.toNat = .factory) :
    Completes (.lowWordRead path addr) s fun t =>
      t = { s with access := ⟨(Config.factoryValue addr.toNat).setWidth 64, false⟩ } := by
  refine ⟨_, exec_lowWordRead_place hp ha (.inl hl), ?_⟩
  rw [State.readPlace, hl]
  dsimp only
  rw [if_pos hdebug]
  rfl

theorem completes_lowWordRead_zero (hl : locate addr.toNat = .factory ∨ locate addr.toNat = .absent)
    (h : path = .mainmast ∨ locate addr.toNat = .absent) :
    Completes (.lowWordRead path addr) s fun t => t = { s with access := ⟨0#64, false⟩ } := by
  refine ⟨_, exec_lowWordRead_place hp ha hl, ?_⟩
  rcases hl with hl | hl
  · have hmainmast : path = .mainmast := h.resolve_right (by simp [hl])
    rw [State.readPlace, hl]
    dsimp only
    rw [if_neg (by simp [hmainmast])]
    rfl
  · rw [State.readPlace, hl]
    rfl

theorem completes_registerWrite_ignored (d : Word) (hl : locate addr.toNat = .factory ∨ locate addr.toNat = .absent)
    (h : path = .mainmast ∨ locate addr.toNat = .absent) :
    Completes (.registerWrite path addr d) s fun t => t = { s with access := ⟨0#64, false⟩ } := by
  refine ⟨s.answerAccess 0#64 false, ?_, rfl⟩
  rw [exec_registerWrite_place hp ha d hl]
  rcases hl with hl | hl
  · have hmainmast : path = .mainmast := h.resolve_right (by simp [hl])
    rw [State.writePlace, hl]
    dsimp only
    rw [if_neg (by simp [hmainmast])]
  · rw [State.writePlace, hl]

theorem exec_registerWrite_factory_debug (d : Word) (hdebug : path = .debug) (hl : locate addr.toNat = .factory) :
    exec (.registerWrite path addr d) s = .refused .factoryRegister := by
  rw [exec_registerWrite_place hp ha d (.inl hl), State.writePlace, hl]
  dsimp only
  rw [if_pos hdebug]

section
variable {b : Block} {i : Nat} {u : State} (hl : locate addr.toNat = .reg b i) (hd : s.domainUp b i = true)
  (hu : u = { s.wakeBlock b with access := ⟨0#64, false⟩ })
include hl hd hu

theorem completes_lowWordRead_word (h : b.isHigh i = false) :
    Completes (.lowWordRead path addr) s fun t => t.access = ⟨(u.readReg path b i).setWidth 64, false⟩ := by
  subst hu
  refine ⟨_, exec_lowWordRead_reg hp ha hl hd, ?_⟩
  dsimp only [State.access_readOne]
  rw [State.wordRead_of_not_isHigh _ _ h]
  rfl

theorem completes_lowWordRead_unlatched (h : b.isHigh i = true)
    (hnone : Sparse.find (s.latch path).high (b.key i) = none) :
    Completes (.lowWordRead path addr) s fun t => t.access = ⟨(u.readReg path b i).setWidth 64, false⟩ := by
  subst hu
  refine ⟨_, exec_lowWordRead_reg hp ha hl hd, ?_⟩
  dsimp only [State.access_readOne]
  rw [State.wordRead_of_unlatched h (by rwa [State.latch_wakeBlock_answerAccess])]
  rfl

end

end

end

/-! ## Reads and writes with an effect of their own (R409, R415, R428) -/

/-- A register access with the domain awake and the result cleared (R426). -/
def State.accessing (s : State) (b : Block) : State := (s.wakeBlock b).answerAccess 0#64 false

theorem State.accessing_within (s : State) (b : Block) : Within [.access, .clk] s (s.accessing b) :=
  (State.answerAccess_within _ _ _).step (by decide) ((State.wakeBlock_within s b).step (by decide) (.refl _ s))

theorem State.evt_accessing (s : State) (b : Block) : (s.accessing b).evt = s.evt :=
  (s.accessing_within b).same .evt (by decide)

theorem State.ch_accessing (s : State) (b : Block) (n : Nat) : (s.accessing b).ch n = s.ch n :=
  congrArg (Sparse.get Mch.reset · n) ((s.accessing_within b).same .mch (by decide))

theorem domainUp_channel {ch : Chan} {s : State} (hd : s.rst.datapath = true)
    (hchiut : bitOf s.clk.chiutFailed (moduleOf ch.val) = false) (i : Nat) : s.domainUp (.mch ch.val) i = true := by
  change (s.rst.datapath && !bitOf s.clk.chiutFailed (moduleOf ch.val)) = true
  rw [hd, hchiut]
  rfl

/-- The state after an access that a command makes to a register. -/
theorem exec_access {c : Instr} {path : Path} {b : Block} {i : Nat} {f : State → State} {s : State}
    (hc : exec c s = .next (s.onReg path b i f)) (hp : s.pathOpen path = true) (hd : s.domainUp b i = true) :
    exec c s = .next (f (s.accessing b)) :=
  hc.trans (congrArg Host.Outcome.next (State.onReg_of_up hp hd f))

section
variable {path : Path} {s : State} (hp : s.pathOpen path = true)
include hp

theorem completes_mstFifoRead (hd : s.rst.datapath = true) :
    Completes (.mstFifoRead path) s fun t =>
      t.evt = { s.evt with fifo := s.evt.fifo.drop 1 } ∧
        t.access = ⟨(BitVec.ofNat 32 s.evt.fifoWord).setWidth 64, false⟩ := by
  have hevt := s.evt_accessing .evt
  refine ⟨_, exec_access rfl hp hd, ?_, ?_⟩
  · rw [← hevt]
    rfl
  · rw [State.access_readOne, State.wordRead_of_not_isHigh _ _ rfl, ← hevt]
    rfl

theorem completes_mstFifoRead_down (hd : s.rst.datapath = false) :
    Completes (.mstFifoRead path) s fun t => t = { s with access := ⟨0#64, decide (path = .mainmast)⟩ } :=
  ⟨_, rfl, State.onReg_of_down (b := .evt) (i := 2) hp hd _⟩

section
variable {ch : Chan} (hd : s.rst.datapath = true) (hchiut : bitOf s.clk.chiutFailed (moduleOf ch.val) = false)
include hd hchiut

theorem completes_addrTabHiRead :
    Completes (.addrTabHiRead path ch) s fun t =>
      (∀ e, Sparse.find (s.ch ch.val).addrTab (s.ch ch.val).addrIdx.toNat = some e →
        Sparse.find (t.ch ch.val).addrTab (s.ch ch.val).addrIdx.toNat = some { e with read := true }) ∧
      ∀ k ≠ (s.ch ch.val).addrIdx.toNat,
        Sparse.find (t.ch ch.val).addrTab k = Sparse.find (s.ch ch.val).addrTab k := by
  have hread (u : State) : (u.readOne path (.mch ch.val) 15).ch ch.val = (u.ch ch.val).markRead :=
    State.ch_modCh u ch.val Mch.markRead
  refine ⟨_, exec_access rfl hp (domainUp_channel hd hchiut 15), ?_⟩
  dsimp only
  rw [hread, State.ch_accessing]
  exact ⟨fun e he => Sparse.find_adjust_same _ he, fun k hk => Sparse.find_adjust_other _ _ hk⟩

theorem completes_addrTabClear :
    Completes (.addrTabClear path ch) s fun t =>
      (t.ch ch.val).addrTab = [] ∧ (t.ch ch.val).addrMade = 0 ∧ (t.ch ch.val).addrOverflow = 0 := by
  refine ⟨_, exec_access rfl hp (domainUp_channel hd hchiut 13), ?_⟩
  dsimp only
  rw [State.ch_modCh]
  exact ⟨rfl, rfl, rfl⟩

end

end

/-! ## The host's window (R432) -/

theorem not_cxlRegion {offset : BitVec 20} (h : 0x80000 ≤ offset.toNat) :
    ¬(offset.toNat < 0x12000 ∨ (0x20000 ≤ offset.toNat ∧ offset.toNat < 0x42000)) := by omega

section
variable {p : Port} {offset : BitVec 20} {size : Nat} {s : State}

theorem completes_hostWindowRead_linkDown (h : (s.port p).linkUp = false) :
    Completes (.hostWindowRead p offset size) s fun t => t = s := by
  refine ⟨_, rfl, ?_⟩
  dsimp only
  rw [if_pos (by simp [h])]

section
variable (hlink : (s.port p).linkUp = true)
include hlink

theorem completes_hostWindowRead_cxl
    (h : offset.toNat < 0x12000 ∨ (0x20000 ≤ offset.toNat ∧ offset.toNat < 0x42000)) :
    Completes (.hostWindowRead p offset size) s fun t =>
      t = { s with access := ⟨(Config.entropy s.draws).setWidth 64, false⟩, draws := s.draws + 1 } := by
  refine ⟨_, rfl, ?_⟩
  dsimp only
  rw [if_neg (by simp [hlink]), if_pos h]
  rfl

section
variable (hvendor : 0x80000 ≤ offset.toNat)
include hvendor

theorem completes_hostWindowRead_misshapen (h : (size ≠ 4 ∧ size ≠ 8) ∨ offset.toNat % size ≠ 0) :
    Completes (.hostWindowRead p offset size) s fun t => t = { s with access := ⟨0#64, false⟩ } := by
  refine ⟨_, rfl, ?_⟩
  dsimp only
  rw [if_neg (by simp [hlink]), if_neg (not_cxlRegion hvendor), if_pos (by rcases h with h | h <;> simp [h])]
  rfl

theorem exec_hostWindowRead_word (hsize : size = 4) (halign : offset.toNat % 4 = 0) :
    exec (.hostWindowRead p offset size) s = .next (s.hostWord p offset.toNat) := by
  subst hsize
  change Host.Outcome.next (if _ then _ else _) = _
  rw [if_neg (by simp [hlink]), if_neg (not_cxlRegion hvendor), if_neg (by omega), if_pos rfl]

theorem completes_hostWindowRead_nothing (hsize : size = 4) (halign : offset.toNat % 4 = 0)
    (h : s.hostReg p offset.toNat = none) :
    Completes (.hostWindowRead p offset size) s fun t => t = { s with access := ⟨0#64, false⟩ } := by
  refine ⟨_, exec_hostWindowRead_word hlink hvendor hsize halign, ?_⟩
  rw [State.hostWord, h]
  rfl

theorem completes_hostWindowRead_word (hsize : size = 4) (halign : offset.toNat % 4 = 0) (b : Block) (i : Nat)
    (h : s.hostReg p offset.toNat = some (b, i)) (hlow : b.isHigh i = false) :
    Completes (.hostWindowRead p offset size) s fun t =>
      t.access = ⟨((s.wakeBlock b).readReg (.host p) b i).setWidth 64, false⟩ := by
  refine ⟨_, exec_hostWindowRead_word hlink hvendor hsize halign, ?_⟩
  rw [State.hostWord, h]
  dsimp only
  rw [State.access_readOne, State.wordRead_of_not_isHigh _ _ hlow]

end

end

end

/-- Settles O54: an access by its path, its place and the domain of its block. In the statement's clauses on accesses
turned away the quantifier over the block reaches over the implication, so one block, here GLB, is enough for them; the
lemmas cited hold for every block and for unaligned addresses. -/
theorem registerAccessFollowsItsPath : Obligations.RegisterAccessFollowsItsPath := by
  unfold Obligations.RegisterAccessFollowsItsPath
  refine ⟨fun path c s hp hc => completes_closed hp hc, fun path addr d s hp =>
    ⟨.inr ⟨.glb, 0, fun h => completes_lowWordRead_turnedAway hp (.inr ⟨_, _, h⟩)⟩,
      .inr ⟨.glb, 0, fun h => completes_registerWrite_turnedAway hp d (.inr ⟨_, _, h⟩)⟩, fun ha => ⟨fun hl =>
      ⟨completes_lowWordRead_factory_debug hp ha, fun h =>
        ⟨completes_lowWordRead_zero hp ha hl h, completes_registerWrite_ignored hp ha d hl h⟩⟩,
      exec_registerWrite_factory_debug hp ha d, fun b i u hl hd hu =>
      ⟨completes_lowWordRead_word hp ha hl hd hu, completes_lowWordRead_unlatched hp ha hl hd hu⟩⟩⟩,
    fun path s hp => ⟨completes_mstFifoRead hp, completes_mstFifoRead_down hp, fun ch hd hchiut =>
      ⟨completes_addrTabHiRead hp hd hchiut, completes_addrTabClear hp hd hchiut⟩⟩,
    fun p offset size s => ⟨completes_hostWindowRead_linkDown, fun hlink => ⟨completes_hostWindowRead_cxl hlink,
      fun hvendor => ⟨completes_hostWindowRead_misshapen hlink hvendor, fun hsize halign =>
        ⟨completes_hostWindowRead_nothing hlink hvendor hsize halign,
          completes_hostWindowRead_word hlink hvendor hsize halign⟩⟩⟩⟩⟩

end Sys2Proof.Machine


/-! SUPPORT. Register writes, locks and counted cycles (O58). -/

namespace Sys2Proof.Machine

open Sys2Proof

/-! ## Fields (R6) -/

theorem toNat_ofNat_bits {w hi lo : Nat} (d : Word) (h : hi + 1 - lo ≤ w) :
    (BitVec.ofNat w (bits d hi lo)).toNat = bits d hi lo := by
  have hlt : bits d hi lo < 2 ^ (hi + 1 - lo) := Nat.mod_lt _ (Nat.two_pow_pos _)
  rw [BitVec.toNat_ofNat, Nat.mod_eq_of_lt (lt_of_lt_of_le hlt (Nat.pow_le_pow_right (by decide) h))]

theorem definedVec_undefined {w lo hi new : Nat} (old : BitVec w) (h : ¬(lo ≤ new ∧ new ≤ hi)) :
    definedVec lo hi new old = old := by
  rw [definedVec, defined, if_neg h, BitVec.ofNat_toNat, BitVec.setWidth_eq]

theorem definedVec_defined {w lo hi new : Nat} (old : BitVec w) (h : lo ≤ new ∧ new ≤ hi) :
    definedVec lo hi new old = BitVec.ofNat w new := by
  rw [definedVec, defined, if_pos h]

/-! ## Bytes of the retained SRAM (R358) -/

theorem Memory.read_writeBytes_outside {d : Byte} {bs : List Byte} {m : List Host.Cell} {a c : Nat}
    (h : c < a ∨ a + bs.length ≤ c) : Memory.read d (Memory.writeBytes d m a bs) c = Memory.read d m c := by
  induction bs generalizing m a with
  | nil => rfl
  | cons b bs ih =>
    rw [List.length_cons] at h
    rw [Memory.writeBytes, ih (by omega), Memory.read_write_other _ _ _ (by omega)]

theorem Memory.read_writeBytes_inside {d : Byte} {bs : List Byte} {m : List Host.Cell} {a k : Nat}
    (h : k < bs.length) : Memory.read d (Memory.writeBytes d m a bs) (a + k) = bs[k] := by
  induction bs generalizing m a k with
  | nil => exact absurd h (Nat.not_lt_zero k)
  | cons b bs ih =>
    rw [Memory.writeBytes]
    cases k with
    | zero => rw [Memory.read_writeBytes_outside (by omega), Nat.add_zero, Memory.read_write_same]; rfl
    | succ k =>
      rw [← Nat.add_assoc, Nat.add_right_comm, ih (Nat.lt_of_succ_lt_succ h)]
      rfl

theorem byteAt_eq {w : Nat} (d : BitVec w) (k : Nat) : byteAt d k = BitVec.ofNat 8 (d.toNat / 256 ^ k) := by
  have hbyte : (256 : Nat) = 2 ^ 8 := rfl
  rw [byteAt, BitVec.extractLsb', Nat.shiftRight_eq_div_pow, pow_mul, hbyte]

theorem Dty.read_writeSram_inside (y : Dty) (off : Nat) (d : Word) {k : Nat} (h : k < 4) :
    Memory.read 0#8 (y.writeSram off d).sram (off + k) = BitVec.ofNat 8 (d.toNat / 256 ^ k) := by
  have hlen : (bytesOf 4 d).length = 4 := by simp [bytesOf]
  rw [Dty.writeSram, Memory.read_writeBytes_inside (by rwa [hlen])]
  simp [bytesOf, byteAt_eq]

theorem Dty.read_writeSram_outside (y : Dty) (off : Nat) (d : Word) {a : Nat} (h : a < off ∨ off + 4 ≤ a) :
    Memory.read 0#8 (y.writeSram off d).sram a = Memory.read 0#8 y.sram a :=
  Memory.read_writeBytes_outside (by simpa [bytesOf] using h)

/-! ## One write of a register (R54, R416, R427) -/

theorem PortState.mode_eq_of_quiet_eq {x y : PortState} (h : x.quiet = y.quiet) :
    x.lock = y.lock ∧ x.l0pEn = y.l0pEn ∧ x.mode = y.mode :=
  ⟨(congrArg PortState.lock h :), (congrArg PortState.l0pEn h :), (congrArg PortState.mode h :)⟩

theorem PortState.writeCtrl_locked {x : PortState} (h : x.lock = true) (d : Word) : x.writeCtrl d = x := if_pos h

theorem PortState.writeCtrl_unlocked {x : PortState} (h : x.lock = false) (d : Word) :
    (x.writeCtrl d).lock = bitOf d 31 ∧ (x.writeCtrl d).l0pEn = bitOf d 8 ∧
      (x.writeCtrl d).mode = definedVec 0 2 (bits d 17 16) x.mode := by
  rw [PortState.writeCtrl, if_neg (by simp [h])]
  exact ⟨rfl, rfl, rfl⟩

/-- A port register written: the port is as the register has it, but for its event logs. -/
theorem State.quiet_port_writeReg (s : State) (path : Path) (p : Port) (i : Nat) (d : Word) :
    ((s.writeReg path (.hp p) i d).port p).quiet = ((s.port p).writeReg i d).quiet := by
  have hwrite : s.writeReg path (.hp p) i d = (s.modPort p fun x => x.writeReg i d).settleLevel := rfl
  rw [hwrite, (State.settleLevel_within _).quiet_port_eq (by decide) (by decide), State.port_modPort]

section
variable {path : Path} {addr d : Word} {s : State} (hp : s.pathOpen path = true) (ha : addr.toNat % 4 = 0)
include hp ha

theorem completes_registerWrite {b : Block} {i : Nat} (hl : locate addr.toNat = .reg b i) (hd : s.domainUp b i = true) :
    Completes (.registerWrite path addr d) s fun t => t = (s.accessing b).writeReg path b i d :=
  ⟨_, exec_registerWrite_reg hp ha hl hd, rfl⟩

/-- A port is no sleep domain: its registers are written as they stand. -/
theorem completes_registerWrite_port {p : Port} {i : Nat} (hl : locate addr.toNat = .reg (.hp p) i)
    (hd : s.rst.datapath = true) :
    Completes (.registerWrite path addr d) s fun t => (t.port p).quiet = ((s.port p).writeReg i d).quiet := by
  refine ⟨_, exec_registerWrite_reg hp ha hl hd, ?_⟩
  dsimp only
  rw [State.quiet_port_writeReg]
  rfl

theorem completes_registerWrite_devload {p : Port} (hl : locate addr.toNat = .reg (.hp p) 4)
    (hd : s.rst.datapath = true) :
    Completes (.registerWrite path addr d) s fun t =>
      bits d 15 8 < bits d 23 16 ∧ bits d 23 16 < bits d 31 24 →
        (t.port p).severe.toNat = bits d 31 24 ∧ (t.port p).moderate.toNat = bits d 23 16 ∧
          (t.port p).optimal.toNat = bits d 15 8 := by
  obtain ⟨t, hexec, hquiet⟩ := completes_registerWrite_port (d := d) hp ha hl hd
  refine ⟨t, hexec, fun hrise => ?_⟩
  have hwrite : (s.port p).writeReg 4 d = { s.port p with
      severe := BitVec.ofNat 8 (bits d 31 24), moderate := BitVec.ofNat 8 (bits d 23 16),
      optimal := BitVec.ofNat 8 (bits d 15 8) } := if_pos hrise
  obtain ⟨hoptimal, hmoderate, hsevere⟩ := PortState.thresholds_eq_of_quiet_eq hquiet
  rw [hoptimal, hmoderate, hsevere, hwrite]
  exact ⟨toNat_ofNat_bits d (by decide), toNat_ofNat_bits d (by decide), toNat_ofNat_bits d (by decide)⟩

theorem completes_registerWrite_portLocked {p : Port} (hl : locate addr.toNat = .reg (.hp p) 0)
    (hd : s.rst.datapath = true) (hlock : (s.port p).lock = true) :
    Completes (.registerWrite path addr d) s fun t => (t.port p).quiet = (s.port p).quiet := by
  obtain ⟨t, hexec, hquiet⟩ := completes_registerWrite_port (d := d) hp ha hl hd
  exact ⟨t, hexec, hquiet.trans (congrArg PortState.quiet (PortState.writeCtrl_locked hlock d))⟩

theorem completes_registerWrite_portCtrl {p : Port} (hl : locate addr.toNat = .reg (.hp p) 0)
    (hd : s.rst.datapath = true) (hlock : (s.port p).lock = false) :
    Completes (.registerWrite path addr d) s fun t =>
      (t.port p).lock = bitOf d 31 ∧ (t.port p).l0pEn = bitOf d 8 ∧
        (bits d 17 16 = 3 → (t.port p).mode = (s.port p).mode) ∧
        (bits d 17 16 ≤ 2 → (t.port p).mode.toNat = bits d 17 16) := by
  obtain ⟨t, hexec, hquiet⟩ := completes_registerWrite_port (d := d) hp ha hl hd
  obtain ⟨hlockNow, hl0p, hmode⟩ := PortState.mode_eq_of_quiet_eq hquiet
  obtain ⟨hlockSet, hl0pSet, hmodeSet⟩ := PortState.writeCtrl_unlocked hlock d
  refine ⟨t, hexec, hlockNow.trans hlockSet, hl0p.trans hl0pSet, fun h => ?_, fun h => ?_⟩
  · rw [hmode.trans hmodeSet, definedVec_undefined _ (by omega)]
  · rw [hmode.trans hmodeSet, definedVec_defined _ ⟨Nat.zero_le _, h⟩, toNat_ofNat_bits d (by decide)]

theorem completes_registerWrite_timeLo (hl : locate addr.toNat = .reg .glb 10) (haon : s.rst.aon = true)
    (hd : s.rst.datapath = true) :
    Completes (.registerWrite path addr d) s fun t =>
      (t.latch path).timeLo = some d ∧ t.glb.time = s.glb.time := by
  refine ⟨_, exec_registerWrite_reg hp ha hl ?_, ?_⟩
  · simp [State.domainUp, haon, hd]
  · exact ⟨congrArg Latches.timeLo (State.latch_modLatch _ path _), rfl⟩

theorem completes_registerWrite_stp {i : Nat} (hl : locate addr.toNat = .reg .stp i) (hd : s.rst.datapath = true) :
    Completes (.registerWrite path addr d) s fun t =>
      (i = 6 → t.stp.rebuildRate =
        if 1 ≤ bits d 5 0 ∧ bits d 5 0 ≤ 48 then bits d 5 0 else s.stp.rebuildRate) ∧
      (i = 2 → t.stp.scrubEnable = bitOf d 31 ∧ t.stp.passDays =
        if 1 ≤ bits d 5 0 ∧ bits d 5 0 ≤ 60 then bits d 5 0 else s.stp.passDays) := by
  have hstp : (s.accessing .stp).stp = s.stp := (s.accessing_within .stp).same .stp (by decide)
  obtain ⟨t, hexec, rfl⟩ := completes_registerWrite (d := d) hp ha hl hd
  refine ⟨_, hexec, ?_⟩
  change (i = 6 → ((s.accessing .stp).stp.writeReg i d).rebuildRate = _) ∧
    (i = 2 → ((s.accessing .stp).stp.writeReg i d).scrubEnable = _ ∧
      ((s.accessing .stp).stp.writeReg i d).passDays = _)
  rw [hstp]
  exact ⟨fun h => by subst h; rfl, fun h => by subst h; exact ⟨rfl, rfl⟩⟩

theorem completes_registerWrite_sram {off : Nat} (hl : locate addr.toNat = .sram off) :
    Completes (.registerWrite path addr d) s fun t =>
      (∀ k < 4, Memory.read 0#8 t.dty.sram (off + k) = BitVec.ofNat 8 (d.toNat / 256 ^ k)) ∧
        ∀ a, a < off ∨ off + 4 ≤ a → Memory.read 0#8 t.dty.sram a = Memory.read 0#8 s.dty.sram a := by
  refine ⟨State.answerAccess { s with dty := s.dty.writeSram off d } 0#64 false, ?_,
    fun k hk => s.dty.read_writeSram_inside off d hk, fun a ha => s.dty.read_writeSram_outside off d ha⟩
  change execRegisterWrite path addr d s = _
  rw [execRegisterWrite, if_neg (by simp [hp]), if_neg (by simp [ha]), hl]
  dsimp only
  rw [State.writePlace, hl]

end

section
variable {path : Path} {d : Word} {s : State} (hp : s.pathOpen path = true) (haon : s.rst.aon = true)
  (hd : s.rst.datapath = true)
include hp haon hd

theorem completes_timeHiWrite :
    Completes (.timeHiWrite path d) s fun t =>
      (∀ lo, (s.latch path).timeLo = some lo → t.glb.time = d ++ lo) ∧
        ((s.latch path).timeLo = none → t.glb.time = d ++ s.glb.time.setWidth 32) ∧
        (t.latch path).timeLo = none ∧ t.glb.timeHalf = s.glb.timeHalf := by
  have hup : s.domainUp .glb 11 = true := by simp [State.domainUp, haon, hd]
  have hlow : BitVec.ofNat 32 (lowWord s.glb.time.toNat) = s.glb.time.setWidth 32 := by
    refine BitVec.eq_of_toNat_eq ?_
    simp [lowWord]
  have htime (u : State) : (u.writeTimeHi path d).glb.time =
      d ++ ((u.latch path).timeLo).getD (BitVec.ofNat 32 (lowWord u.glb.time.toNat)) := rfl
  have hunstaged (u : State) : (u.writeTimeHi path d).latch path = { u.latch path with timeLo := none } :=
    State.latch_modLatch u path fun x => { x with timeLo := none }
  have hglb : (s.accessing .glb).glb = s.glb := rfl
  have hlatch : (s.accessing .glb).latch path = s.latch path := rfl
  refine ⟨_, exec_access rfl hp hup, ?_⟩
  dsimp only
  rw [htime, hglb, hlatch, hlow]
  refine ⟨fun lo h => ?_, fun h => ?_, congrArg Latches.timeLo (hunstaged _), rfl⟩
  · rw [h]
    rfl
  · rw [h]
    rfl

end

/-! ## Locks (R430) -/

/-- The registers with a lock bit. -/
theorem lockBit_eq_some {b : Block} {i k : Nat} (h : lockBit b i = some k) :
    (∃ p, b = .hp p ∧ i = 0 ∧ k = 31) ∨ (b = .wlv ∧ i = 0 ∧ k = 31) ∨ (b = .mst ∧ i = 1 ∧ k = 30) ∨
      (b = .seq ∧ i = 1 ∧ k = 31) ∨ (b = .clk ∧ i = 1 ∧ k = 31) := by
  unfold lockBit at h
  split at h <;> cases h <;> simp

section
variable {path : Path} {addr d : Word} {b : Block} {i k : Nat} {s : State}

theorem completes_lockSet_lockless (hl : locate addr.toNat = .reg b i) (hlock : lockBit b i = none) :
    Completes (.lockSet path addr d) s fun t => t = s := by
  refine ⟨s, ?_, rfl⟩
  change execLockSet path addr d s = _
  rw [execLockSet, hl]
  dsimp only
  rw [hlock]

theorem completes_lockSet_zero (hl : locate addr.toNat = .reg b i) (hlock : lockBit b i = some k)
    (hbit : bitOf d k = false) : Completes (.lockSet path addr d) s fun t => t = s := by
  refine ⟨s, ?_, rfl⟩
  change execLockSet path addr d s = _
  rw [execLockSet, hl]
  dsimp only
  rw [hlock]
  dsimp only
  rw [if_neg (by simp [hbit])]

theorem exec_lockSet (hp : s.pathOpen path = true) (ha : addr.toNat % 4 = 0) (hl : locate addr.toNat = .reg b i)
    (hd : s.domainUp b i = true) (hlock : lockBit b i = some k) (hbit : bitOf d k = true) :
    exec (.lockSet path addr d) s = .next ((s.accessing b).writeReg path b i d) := by
  change execLockSet path addr d s = _
  rw [execLockSet, hl]
  dsimp only
  rw [hlock]
  dsimp only
  rw [if_pos ⟨ha, hbit⟩, State.onReg_of_up hp hd]
  rfl

end

theorem Wlv.writeCtrl_lock {d : Word} (h : bitOf d 31 = true) (w : Wlv) :
    (w.writeCtrl d).lock = true ∧ (w.lock = true → w.writeCtrl d = w) := by
  unfold Wlv.writeCtrl
  split
  next hlock => exact ⟨hlock, fun _ => rfl⟩
  next hlock => exact ⟨h, fun h => absurd h hlock⟩

theorem Seq.writeReg_lock {d : Word} (h : bitOf d 31 = true) (q : Seq) :
    (q.writeReg 1 d).strikeLock = true ∧ (q.strikeLock = true → q.writeReg 1 d = q) := by
  have hctrl : q.writeReg 1 d = if q.strikeLock = true then q
      else { q with strikeLock := bitOf d 31, strikeDv := definedVec 86 100 (bits d 7 0) q.strikeDv } := rfl
  rw [hctrl]
  split
  next hlock => exact ⟨hlock, fun _ => rfl⟩
  next hlock => exact ⟨h, fun h => absurd h hlock⟩

theorem Clk.writeSleep_lock {d : Word} (h : bitOf d 31 = true) (c : Clk) :
    (c.writeSleep d).lock = true ∧ (c.lock = true → c.writeSleep d = c) := by
  unfold Clk.writeSleep
  split
  next hlock => exact ⟨hlock, fun _ => rfl⟩
  next hlock => exact ⟨h, fun h => absurd h hlock⟩

theorem PortState.writeCtrl_lock {d : Word} (h : bitOf d 31 = true) (x : PortState) :
    (x.writeCtrl d).lock = true ∧ (x.lock = true → x.writeCtrl d = x) := by
  unfold PortState.writeCtrl
  split
  next hlock => exact ⟨hlock, fun _ => rfl⟩
  next hlock => exact ⟨h, fun h => absurd h hlock⟩

/-- A kick of the watchdog leaves its lock and its timeout (R279). -/
theorem State.wdog_kick (s : State) (path : Path) :
    (nextOf (execWdogKick path s) s).mst.wdLock = s.mst.wdLock ∧
      (nextOf (execWdogKick path s) s).mst.timeoutMs = s.mst.timeoutMs := by
  unfold execWdogKick nextOf
  dsimp only
  split <;> exact ⟨rfl, rfl⟩

theorem State.writeWdog_lock {d : Word} (h : bitOf d 30 = true) (s : State) (path : Path) :
    (s.writeWdog path d).mst.wdLock = true ∧
      (s.mst.wdLock = true → (s.writeWdog path d).mst.timeoutMs = s.mst.timeoutMs) := by
  unfold State.writeWdog
  extract_lets m u
  have hu : u.mst.wdLock = true ∧ (s.mst.wdLock = true → u.mst.timeoutMs = s.mst.timeoutMs) := by
    unfold u m
    split
    next hlock => exact ⟨hlock, fun _ => rfl⟩
    next hlock => exact ⟨h, fun h => absurd h hlock⟩
  split
  · obtain ⟨hlock, htimeout⟩ := u.wdog_kick path
    rwa [hlock, htimeout]
  · exact hu

/-- A lock bit written 1 is set; a register that was locked before keeps its other fields. -/
theorem completes_lockSet {path : Path} {addr d : Word} {b : Block} {i k : Nat} {s : State}
    (hp : s.pathOpen path = true) (ha : addr.toNat % 4 = 0) (hl : locate addr.toNat = .reg b i)
    (hd : s.domainUp b i = true) (hlock : lockBit b i = some k) (hbit : bitOf d k = true) :
    Completes (.lockSet path addr d) s fun t =>
      (∀ p, b = .hp p → (t.port p).lock = true ∧
        ((s.port p).lock = true → (t.port p).quiet = (s.port p).quiet)) ∧
      (b = .wlv → t.wlv.lock = true ∧ (s.wlv.lock = true → t.wlv = s.wlv)) ∧
      (b = .mst → t.mst.wdLock = true ∧ (s.mst.wdLock = true → t.mst.timeoutMs = s.mst.timeoutMs)) ∧
      (b = .seq → t.seq.strikeLock = true ∧ (s.seq.strikeLock = true → t.seq = s.seq)) ∧
      (b = .clk → t.clk.lock = true ∧ (s.clk.lock = true → t.clk = s.clk)) := by
  refine ⟨_, exec_lockSet hp ha hl hd hlock hbit, ?_⟩
  rcases lockBit_eq_some hlock with
    ⟨q, rfl, rfl, rfl⟩ | ⟨rfl, rfl, rfl⟩ | ⟨rfl, rfl, rfl⟩ | ⟨rfl, rfl, rfl⟩ | ⟨rfl, rfl, rfl⟩
  · refine ⟨fun p hq => ?_, nofun, nofun, nofun, nofun⟩
    cases hq
    have hquiet : (((s.accessing (.hp q)).writeReg path (.hp q) 0 d).port q).quiet = ((s.port q).writeCtrl d).quiet :=
      State.quiet_port_writeReg _ _ _ _ _
    obtain ⟨hset, hkept⟩ := PortState.writeCtrl_lock hbit (s.port q)
    exact ⟨(PortState.mode_eq_of_quiet_eq hquiet).1.trans hset, fun h => by rw [hquiet, hkept h]⟩
  · have hwlv : (s.accessing .wlv).wlv = s.wlv := (s.accessing_within .wlv).same .wlv (by decide)
    refine ⟨nofun, fun _ => ?_, nofun, nofun, nofun⟩
    rw [← hwlv]
    exact Wlv.writeCtrl_lock hbit _
  · exact ⟨nofun, nofun, fun _ => State.writeWdog_lock hbit (s.accessing .mst) path, nofun, nofun⟩
  · exact ⟨nofun, nofun, nofun, fun _ => Seq.writeReg_lock hbit s.seq, nofun⟩
  · exact ⟨nofun, nofun, nofun, nofun, fun _ => Clk.writeSleep_lock hbit s.clk⟩

/-! ## Counted cycles (R8, R416, R417) -/

theorem PmuUnit.cyc_run {x : PmuUnit} (s : State) (n : Nat) (h : x.freeze = false) :
    (x.run s n).1.cyc = x.cyc + BitVec.ofNat 64 n := by
  rw [PmuUnit.run, if_neg (by simp [h])]
  dsimp only
  rw [BitVec.ofNat_add, BitVec.ofNat_toNat, BitVec.setWidth_eq]

/-- One unit of a run over units. -/
theorem pmuUnit_foldl_units (r : Nat → PmuUnit × List Nat) (l : List Nat) (t : State) (u : Nat) :
    (l.foldl (fun t v => (t.modUnit v fun _ => (r v).1).unitInterrupts v (r v).2) t).pmuUnit u =
      if u ∈ l then (r u).1 else t.pmuUnit u := by
  induction l generalizing t with
  | nil => simp
  | cons v l ih =>
    rw [List.foldl_cons, ih, State.pmuUnit_unitInterrupts]
    by_cases hl : u ∈ l
    · simp [hl]
    · by_cases hv : u = v
      · subst hv
        simp [hl]
      · simp [hl, hv, State.pmuUnit_modUnit_other]

theorem State.pmuUnit_runUnits (s : State) (n : Nat) (u : Fin 4) :
    (s.runUnits n).pmuUnit u.val = ((s.pmuUnit u.val).run s n).1 := by
  have hfold := pmuUnit_foldl_units (fun v => (s.pmuUnit v).run s n) (List.range 4) s u.val
  rw [if_pos (List.mem_range.mpr u.isLt)] at hfold
  exact hfold

/-- The state after cycles have passed, before the input is sampled. -/
def State.passed (s : State) (halves : Nat) : State :=
  { s with clock := s.clock + halves, glb := if s.rst.aon then s.glb.advance halves else s.glb }

/-- Sampling the input leaves the clock, the global state and the counters. -/
theorem State.sampleInput_leaves (s : State) :
    s.sampleInput.clock = s.clock ∧ s.sampleInput.glb = s.glb ∧ s.sampleInput.pmu = s.pmu :=
  ⟨rfl, rfl, rfl⟩

theorem passed_or_sampled {t u : State} (h : t = u ∨ t = u.sampleInput) :
    t.clock = u.clock ∧ t.glb = u.glb ∧ t.pmu = u.pmu := by
  rcases h with rfl | rfl
  · exact ⟨rfl, rfl, rfl⟩
  · exact u.sampleInput_leaves

section
variable {cycles : Nat} {s : State}

theorem completes_pmuCycleCount_zero (h : cycles = 0) : Completes (.pmuCycleCount cycles) s fun t => t = s := by
  subst h
  exact ⟨s, rfl, rfl⟩

theorem exec_pmuCycleCount (h : 0 < cycles) :
    ∃ t, exec (.pmuCycleCount cycles) s = .next t ∧
      ∃ u, u = (if s.datapathClock = true ∧ s.rst.datapath = true then s.runUnits cycles else s).passed
        (if s.datapathClock = true then cycles else 61036 * cycles) ∧
        t.clock = u.clock ∧ t.glb = u.glb ∧ t.pmu = u.pmu := by
  refine ⟨_, rfl, _, rfl, ?_⟩
  rw [if_neg (Nat.pos_iff_ne_zero.mp h)]
  exact passed_or_sampled (ite_eq_or_eq _ _ _)

theorem completes_pmuCycleCount_clocked (h : 0 < cycles) (hclock : s.datapathClock = true)
    (hd : s.rst.datapath = true) :
    Completes (.pmuCycleCount cycles) s fun t =>
      t.clock = s.clock + cycles ∧
        (∀ u : Fin 4, (s.pmuUnit u.val).freeze = false →
          (t.pmuUnit u.val).cyc = (s.pmuUnit u.val).cyc + BitVec.ofNat 64 cycles) ∧
        (s.rst.aon = true → t.glb.time =
          s.glb.time + BitVec.ofNat 64 ((cycles + if s.glb.timeHalf then 1 else 0) / 2)) := by
  obtain ⟨t, hexec, u, hu, htime, hglb, hpmu⟩ := exec_pmuCycleCount (s := s) h
  rw [if_pos ⟨hclock, hd⟩, if_pos hclock] at hu
  have hrun := s.runUnits_within cycles
  have hglbRun := hrun.glb_eq (by decide) (by decide)
  have hrst : (s.runUnits cycles).rst = s.rst := hrun.same .rst (by decide)
  have hclockRun : (s.runUnits cycles).clock = s.clock := hrun.same .clock (by decide)
  subst hu
  refine ⟨t, hexec, ?_, fun v hv => ?_, fun haon => ?_⟩
  · rw [htime, State.passed, hclockRun]
  · have hunit : t.pmuUnit v.val = (s.runUnits cycles).pmuUnit v.val :=
      congrArg (fun p : Pmu => Sparse.get PmuUnit.reset p.units v.val) hpmu
    rw [hunit, State.pmuUnit_runUnits, PmuUnit.cyc_run _ _ hv]
  · rw [hglb, State.passed, hrst, hglbRun]
    dsimp only
    rw [if_pos haon]
    rfl

theorem completes_pmuCycleCount_stopped (h : 0 < cycles) (hclock : s.datapathClock = false) :
    Completes (.pmuCycleCount cycles) s fun t => t.clock = s.clock + 61036 * cycles ∧ t.pmu = s.pmu := by
  obtain ⟨t, hexec, u, hu, htime, -, hpmu⟩ := exec_pmuCycleCount (s := s) h
  rw [if_neg (by simp [hclock]), if_neg (by simp [hclock])] at hu
  subst hu
  exact ⟨t, hexec, htime, hpmu⟩

end

/-- Settles O58: register writes by the register, locks by the register that holds the bit, cycles by the units run. -/
theorem writesLocksAndCyclesFollowTheirRules : Obligations.WritesLocksAndCyclesFollowTheirRules := by
  unfold Obligations.WritesLocksAndCyclesFollowTheirRules
  exact ⟨fun path addr d s hp ha => ⟨fun p hl hd => completes_registerWrite_devload hp ha hl hd, fun p hl hd =>
      ⟨completes_registerWrite_portLocked hp ha hl hd, completes_registerWrite_portCtrl hp ha hl hd⟩,
      completes_registerWrite_timeLo hp ha, fun i hl hd => completes_registerWrite_stp hp ha hl hd,
      fun off hl => completes_registerWrite_sram hp ha hl⟩,
    fun path d s hp haon hd => completes_timeHiWrite hp haon hd,
    fun path addr d b i k s hp ha hl hd => ⟨completes_lockSet_lockless hl, fun hlock =>
      ⟨completes_lockSet_zero hl hlock, completes_lockSet hp ha hl hd hlock⟩⟩,
    fun cycles s => ⟨completes_pmuCycleCount_zero, fun h =>
      ⟨completes_pmuCycleCount_clocked h, completes_pmuCycleCount_stopped h⟩⟩⟩

end Sys2Proof.Machine


/-! SUPPORT. The canonical form of the addressed memories (O59), and the operations that leave both memories as they were. -/

namespace Sys2Proof.Machine

open Sys2Proof

/-! ## Canonical states -/

/-- Both addressed memories of a state are in canonical form. -/
def State.Canonical (s : State) : Prop :=
  Memory.wf 0#8 s.dty.sram = true ∧ Memory.wf 0xFF#8 s.sea.flash = true

/-- An outcome leaves canonical memories. -/
def CanonicalOut (o : Out) : Prop := ∀ t, o = .next t → t.Canonical

/-- What changes neither the sea chest nor the ditty bag leaves the memories. -/
theorem Within.canonical {W : List Part} {s t : State} (hwithin : Within W s t) (hsea : Part.sea ∉ W)
    (hdty : Part.dty ∉ W) : t.Canonical ↔ s.Canonical := by
  unfold State.Canonical
  rw [hwithin.same .dty hdty, hwithin.same .sea hsea]

theorem WithinOut.canonical {W : List Part} {s : State} {o : Out} (hwithin : WithinOut W s o) (hsea : Part.sea ∉ W)
    (hdty : Part.dty ∉ W) (h : s.Canonical) : CanonicalOut o :=
  fun t ht => ((hwithin t ht).canonical hsea hdty).mpr h

@[simp] theorem State.Canonical.sram {s : State} (h : s.Canonical) : Memory.wf 0#8 s.dty.sram = true := h.1

@[simp] theorem State.Canonical.flash {s : State} (h : s.Canonical) : Memory.wf 0xFF#8 s.sea.flash = true := h.2

/-- A state written out is canonical when its ditty bag and its sea chest are. -/
@[simp] theorem State.canonical_mk (pending clock draws access latches glb port0 port1 bly cache vbf stp wlv media mch shr
    kce mst hly seq reef clk rst tel trm log sea dty evt pmu dbg) :
    (State.mk pending clock draws access latches glb port0 port1 bly cache vbf stp wlv media mch shr kce mst hly seq
      reef clk rst tel trm log sea dty evt pmu dbg).Canonical ↔
      Memory.wf 0#8 dty.sram = true ∧ Memory.wf 0xFF#8 sea.flash = true := Iff.rfl

@[simp] theorem State.canonical_fold (s : State) :
    (Memory.wf 0#8 s.dty.sram = true ∧ Memory.wf 0xFF#8 s.sea.flash = true) ↔ s.Canonical := Iff.rfl

@[simp] theorem canonicalOut_next (t : State) : CanonicalOut (.next t) ↔ t.Canonical :=
  ⟨fun h => h t rfl, fun h _ ht => by cases ht; exact h⟩

@[simp] theorem canonicalOut_fault (f : Fault) : CanonicalOut (.fault f) := fun _ h => by cases h

@[simp] theorem canonicalOut_refused (r : Refusal) : CanonicalOut (.refused r) := fun _ h => by cases h

@[simp] theorem State.canonical_nextOf {s : State} {o : Out} (ho : CanonicalOut o) (h : s.Canonical) :
    (nextOf o s).Canonical := by
  cases o with
  | next t => exact ho t rfl
  | fault f => exact h
  | refused r => exact h

theorem canonicalOut_onCommand {s : State} {m : Mbox} {op : Nat} {f : State → State} (hf : (f s).Canonical)
    (h : s.Canonical) : CanonicalOut (s.onCommand m op f) := by
  rw [State.onCommand, canonicalOut_next]
  split
  · exact hf
  · exact h

theorem canonical_foldl {α : Type} {f : State → α → State} (hf : ∀ s a, (f s a).Canonical ↔ s.Canonical) (l : List α)
    (s : State) : (l.foldl f s).Canonical ↔ s.Canonical := by
  induction l generalizing s with
  | nil => rfl
  | cons a l ih => rw [List.foldl_cons, ih, hf]

/-! ## What each operation of the two parts does to its memory -/

theorem Sparse.wf_filter {α : Type} [DecidableEq α] (d : α) (m : Sparse α) (p : Nat × α → Bool)
    (h : Sparse.wf d m = true) : Sparse.wf d (m.filter p) = true := by
  rw [Sparse.wf, Bool.and_eq_true] at h ⊢
  obtain ⟨hrising, hall⟩ := h
  exact ⟨Sparse.risingFrom_filter m p hrising,
    List.all_eq_true.mpr fun e he => List.all_eq_true.mp hall e (List.mem_of_mem_filter he)⟩

/-- An erase drops the cells of its sector. -/
@[simp] theorem Sea.wf_eraseSector (x : Sea) (k : Nat) (h : Memory.wf 0xFF#8 x.flash = true) :
    Memory.wf 0xFF#8 (x.eraseSector k).flash = true := Sparse.wf_filter _ _ _ h

/-- A program writes byte by byte. -/
@[simp] theorem Sea.wf_program (x : Sea) (l : List (Nat × Byte)) (h : Memory.wf 0xFF#8 x.flash = true) :
    Memory.wf 0xFF#8 (x.program l).flash = true := by
  induction l generalizing x with
  | nil => exact h
  | cons e l ih => exact ih _ (Memory.wf_write _ _ _ _ h)

@[simp] theorem Sea.flash_append (x : Sea) (new : List (Nat × List Byte)) : (x.append new).flash = x.flash := rfl

@[simp] theorem Sea.flash_eraseOther (x : Sea) : x.eraseOther.flash = x.flash := rfl

@[simp] theorem Sea.flash_sysReset (x : Sea) : x.sysReset.flash = x.flash := rfl

@[simp] theorem Sea.flash_compact (x : Sea) : x.compact.flash = x.flash := by
  unfold Sea.compact
  split <;> rfl

@[simp] theorem Dty.wf_writeSram (y : Dty) (off : Nat) (d : Word) (h : Memory.wf 0#8 y.sram = true) :
    Memory.wf 0#8 (y.writeSram off d).sram = true := Memory.wf_writeBytes _ _ _ _ h

@[simp] theorem Dty.sram_writeReg (y : Dty) (i : Nat) (d : Word) : (y.writeReg i d).sram = y.sram := by
  unfold Dty.writeReg
  split_ifs <;> rfl

/-! ## Operations of the other blocks -/

@[simp] theorem State.canonical_modPort (s : State) (p : Port) (f : PortState → PortState) :
    (State.modPort s p f).Canonical ↔ s.Canonical :=
  (State.modPort_within _ _ _).canonical (by decide) (by decide)

@[simp] theorem State.canonical_modCh (s : State) (n : Nat) (f : Mch → Mch) :
    (State.modCh s n f).Canonical ↔ s.Canonical :=
  (State.modCh_within _ _ _).canonical (by decide) (by decide)

@[simp] theorem State.canonical_modSlot (s : State) (k : Nat) (f : ModState → ModState) :
    (State.modSlot s k f).Canonical ↔ s.Canonical :=
  (State.modSlot_within _ _ _).canonical (by decide) (by decide)

@[simp] theorem State.canonical_modSlice (s : State) (n : Nat) (f : SliceState → SliceState) :
    (State.modSlice s n f).Canonical ↔ s.Canonical :=
  (State.modSlice_within _ _ _).canonical (by decide) (by decide)

@[simp] theorem State.canonical_modMb (s : State) (m : Nat) (f : Mb → Mb) :
    (State.modMb s m f).Canonical ↔ s.Canonical :=
  (State.modMb_within _ _ _).canonical (by decide) (by decide)

@[simp] theorem State.canonical_drawn (s : State) :
    (State.drawn s).Canonical ↔ s.Canonical :=
  (State.drawn_within _).canonical (by decide) (by decide)

@[simp] theorem State.canonical_logPut (s : State) (sev : Severity) (t : RecType) (pair : Bool) (payload : List Byte) :
    (State.logPut s sev t pair payload).Canonical ↔ s.Canonical :=
  (State.logPut_within _ _ _ _ _).canonical (by decide) (by decide)

@[simp] theorem State.canonical_markFired (s : State) (i : Nat) (v : Severity) :
    (State.markFired s i v).Canonical ↔ s.Canonical :=
  (State.markFired_within _ _ _).canonical (by decide) (by decide)

@[simp] theorem State.canonical_routeFiring (s : State) (i : Nat) (v : Severity) (d : Detail) :
    (State.routeFiring s i v d).Canonical ↔ s.Canonical :=
  (State.routeFiring_within _ _ _ _).canonical (by decide) (by decide)

@[simp] theorem State.canonical_fire (s : State) (i : Nat) (v : Severity) (d : Detail) :
    (State.fire s i v d).Canonical ↔ s.Canonical :=
  (State.fire_within _ _ _ _).canonical (by decide) (by decide)

@[simp] theorem State.canonical_fireOutcome (s : State) (v : Severity) (kind id outcome delivered seq : Nat) :
    (State.fireOutcome s v kind id outcome delivered seq).Canonical ↔ s.Canonical :=
  (State.fireOutcome_within _ _ _ _ _ _ _).canonical (by decide) (by decide)

@[simp] theorem State.canonical_pumpAll (s : State) :
    (State.pumpAll s).Canonical ↔ s.Canonical :=
  (State.pumpAll_within _).canonical (by decide) (by decide)

@[simp] theorem State.canonical_settleLevel (s : State) :
    (State.settleLevel s).Canonical ↔ s.Canonical :=
  (State.settleLevel_within _).canonical (by decide) (by decide)

@[simp] theorem State.canonical_settleBudget (s : State) :
    (State.settleBudget s).Canonical ↔ s.Canonical :=
  (State.settleBudget_within _).canonical (by decide) (by decide)

@[simp] theorem State.canonical_noteWear (s : State) (was : Nat) :
    (State.noteWear s was).Canonical ↔ s.Canonical :=
  (State.noteWear_within _ _).canonical (by decide) (by decide)

@[simp] theorem State.canonical_journalDrop (s : State) (m : Nat) (op : BitVec 16) :
    (State.journalDrop s m op).Canonical ↔ s.Canonical :=
  (State.journalDrop_within _ _ _).canonical (by decide) (by decide)

@[simp] theorem State.canonical_complete (s : State) (m : Nat) (rc : RetCode) (v : Vendor) (out : Output) (len : Nat) :
    (State.complete s m rc v out len).Canonical ↔ s.Canonical :=
  (State.complete_within _ _ _ _ _ _).canonical (by decide) (by decide)

@[simp] theorem State.canonical_startBg (s : State) (m : Nat) (abortable : Bool) (slot : Option Nat) :
    (State.startBg s m abortable slot).Canonical ↔ s.Canonical :=
  (State.startBg_within _ _ _ _).canonical (by decide) (by decide)

@[simp] theorem State.canonical_completeBg (s : State) (m : Nat) (rc : RetCode) (v : Vendor) (out : Output) :
    (State.completeBg s m rc v out).Canonical ↔ s.Canonical :=
  (State.completeBg_within _ _ _ _ _).canonical (by decide) (by decide)

@[simp] theorem State.canonical_bgProgress (s : State) (m percent : Nat) :
    (State.bgProgress s m percent).Canonical ↔ s.Canonical :=
  (State.bgProgress_within _ _ _).canonical (by decide) (by decide)

@[simp] theorem State.canonical_retireBg (s : State) (m : Nat) :
    (State.retireBg s m).Canonical ↔ s.Canonical :=
  (State.retireBg_within _ _).canonical (by decide) (by decide)

@[simp] theorem State.canonical_storeLine (s : State) (dpa : Nat) (data : Line) (poison : Option PoisonState) :
    (State.storeLine s dpa data poison).Canonical ↔ s.Canonical :=
  (State.storeLine_within _ _ _ _).canonical (by decide) (by decide)

@[simp] theorem State.canonical_fillLines (s : State) (dpa : Nat) (data : Line) (k : Nat) :
    (State.fillLines s dpa data k).Canonical ↔ s.Canonical :=
  (State.fillLines_within _ _ _ _).canonical (by decide) (by decide)

@[simp] theorem State.canonical_grantLock (s : State) (o : LockOwner) :
    (State.grantLock s o).Canonical ↔ s.Canonical :=
  (State.grantLock_within _ _).canonical (by decide) (by decide)

@[simp] theorem State.canonical_dropLock (s : State) :
    (State.dropLock s).Canonical ↔ s.Canonical :=
  (State.dropLock_within _).canonical (by decide) (by decide)

@[simp] theorem State.canonical_keyRecord (s : State) (sev : Severity) (target index op : Nat) :
    (State.keyRecord s sev target index op).Canonical ↔ s.Canonical :=
  (State.keyRecord_within _ _ _ _ _).canonical (by decide) (by decide)

@[simp] theorem State.canonical_startStream (s : State) (r len : Nat) (header : List Byte) :
    (State.startStream s r len header).Canonical ↔ s.Canonical :=
  (State.startStream_within _ _ _ _).canonical (by decide) (by decide)

@[simp] theorem State.canonical_feedLine (s : State) (l : Line) :
    (State.feedLine s l).Canonical ↔ s.Canonical :=
  (State.feedLine_within _ _).canonical (by decide) (by decide)

@[simp] theorem State.canonical_finishStream (s : State) :
    (State.finishStream s).1.Canonical ↔ s.Canonical :=
  (State.finishStream_within _).canonical (by decide) (by decide)

@[simp] theorem State.canonical_sealFails (s : State) (v : Vendor) :
    (State.sealFails s v).Canonical ↔ s.Canonical :=
  (State.sealFails_within _ _).canonical (by decide) (by decide)

@[simp] theorem State.canonical_rollBack (s : State) :
    (State.rollBack s).Canonical ↔ s.Canonical :=
  (State.rollBack_within _).canonical (by decide) (by decide)

@[simp] theorem State.canonical_saveKeyMap (s : State) :
    (State.saveKeyMap s).Canonical ↔ s.Canonical :=
  (State.saveKeyMap_within _).canonical (by decide) (by decide)

@[simp] theorem State.canonical_settleKeySlot (s : State) (slot : Nat) :
    (State.settleKeySlot s slot).Canonical ↔ s.Canonical :=
  (State.settleKeySlot_within _ _).canonical (by decide) (by decide)

@[simp] theorem State.canonical_rekeyBegin (s : State) (a b lo hi rate : Nat) :
    (State.rekeyBegin s a b lo hi rate).Canonical ↔ s.Canonical :=
  (State.rekeyBegin_within _ _ _ _ _ _).canonical (by decide) (by decide)

@[simp] theorem State.canonical_drainReads (s : State) :
    (State.drainReads s).Canonical ↔ s.Canonical :=
  (State.drainReads_within _).canonical (by decide) (by decide)

@[simp] theorem State.canonical_emptyCache (s : State) :
    (State.emptyCache s).Canonical ↔ s.Canonical :=
  (State.emptyCache_within _).canonical (by decide) (by decide)

@[simp] theorem State.canonical_freshKeys (s : State) :
    (State.freshKeys s).Canonical ↔ s.Canonical :=
  (State.freshKeys_within _).canonical (by decide) (by decide)

@[simp] theorem State.canonical_formatKeys (s : State) :
    (State.formatKeys s).Canonical ↔ s.Canonical :=
  (State.formatKeys_within _).canonical (by decide) (by decide)

@[simp] theorem State.canonical_clearPoisonList (s : State) :
    (State.clearPoisonList s).Canonical ↔ s.Canonical :=
  (State.clearPoisonList_within _).canonical (by decide) (by decide)

@[simp] theorem State.canonical_zeroMedia (s : State) :
    (State.zeroMedia s).Canonical ↔ s.Canonical :=
  (State.zeroMedia_within _).canonical (by decide) (by decide)

@[simp] theorem State.canonical_endErase (s : State) (zero : Bool) :
    (State.endErase s zero).Canonical ↔ s.Canonical :=
  (State.endErase_within _ _).canonical (by decide) (by decide)

@[simp] theorem State.canonical_holdupAbort (s : State) :
    (State.holdupAbort s).Canonical ↔ s.Canonical :=
  (State.holdupAbort_within _).canonical (by decide) (by decide)

@[simp] theorem State.canonical_dumpStops (s : State) (pages : Nat) :
    (State.dumpStops s pages).Canonical ↔ s.Canonical :=
  (State.dumpStops_within _ _).canonical (by decide) (by decide)

@[simp] theorem State.canonical_shutdown (s : State) (c : Cause) :
    (State.shutdown s c).Canonical ↔ s.Canonical :=
  (State.shutdown_within _ _).canonical (by decide) (by decide)

@[simp] theorem State.canonical_replan (s : State) :
    (State.replan s).Canonical ↔ s.Canonical :=
  (State.replan_within _).canonical (by decide) (by decide)

@[simp] theorem State.canonical_history (s : State) (summary : Bool) :
    (State.history s summary).Canonical ↔ s.Canonical :=
  (State.history_within _ _).canonical (by decide) (by decide)

@[simp] theorem State.canonical_project (s : State) :
    (State.project s).Canonical ↔ s.Canonical :=
  (State.project_within _).canonical (by decide) (by decide)

@[simp] theorem State.canonical_fenceEngine (s : State) (e : Nat) :
    (State.fenceEngine s e).Canonical ↔ s.Canonical :=
  (State.fenceEngine_within _ _).canonical (by decide) (by decide)

@[simp] theorem State.canonical_shrRefuse (s : State) :
    (State.shrRefuse s).Canonical ↔ s.Canonical :=
  (State.shrRefuse_within _).canonical (by decide) (by decide)

@[simp] theorem canonical_execShrKeyLoad (path : Path) (s : State) (h : s.Canonical) :
    CanonicalOut (execShrKeyLoad path s) :=
  (execShrKeyLoad_within _ _).canonical (by decide) (by decide) h

@[simp] theorem canonical_execShrKeyZeroize (path : Path) (s : State) (h : s.Canonical) :
    CanonicalOut (execShrKeyZeroize path s) :=
  (execShrKeyZeroize_within _ _).canonical (by decide) (by decide) h

@[simp] theorem canonical_execShrRekeyAbort (path : Path) (s : State) (h : s.Canonical) :
    CanonicalOut (execShrRekeyAbort path s) :=
  (execShrRekeyAbort_within _ _).canonical (by decide) (by decide) h

@[simp] theorem State.canonical_failPort (s : State) (p : Port) :
    (State.failPort s p).Canonical ↔ s.Canonical :=
  (State.failPort_within _ _).canonical (by decide) (by decide)

@[simp] theorem State.canonical_pcFails (s : State) (stack pc : Nat) :
    (State.pcFails s stack pc).Canonical ↔ s.Canonical :=
  (State.pcFails_within _ _ _).canonical (by decide) (by decide)

@[simp] theorem State.canonical_sliceFails (s : State) (n : Nat) :
    (State.sliceFails s n).Canonical ↔ s.Canonical :=
  (State.sliceFails_within _ _).canonical (by decide) (by decide)

@[simp] theorem State.canonical_cutSlice (s : State) :
    (State.cutSlice s).Canonical ↔ s.Canonical :=
  (State.cutSlice_within _).canonical (by decide) (by decide)

@[simp] theorem State.canonical_forceTakeover (s : State) :
    (State.forceTakeover s).Canonical ↔ s.Canonical :=
  (State.forceTakeover_within _).canonical (by decide) (by decide)

@[simp] theorem State.canonical_beginHoldOff (s : State) :
    (State.beginHoldOff s).Canonical ↔ s.Canonical :=
  (State.beginHoldOff_within _).canonical (by decide) (by decide)

@[simp] theorem State.canonical_railsOff (s : State) :
    (State.railsOff s).Canonical ↔ s.Canonical :=
  (State.railsOff_within _).canonical (by decide) (by decide)

@[simp] theorem State.canonical_warnInResume (s : State) :
    (State.warnInResume s).Canonical ↔ s.Canonical :=
  (State.warnInResume_within _).canonical (by decide) (by decide)

@[simp] theorem State.canonical_softOff (s : State) :
    (State.softOff s).Canonical ↔ s.Canonical :=
  (State.softOff_within _).canonical (by decide) (by decide)

@[simp] theorem State.canonical_groupOn (s : State) :
    (State.groupOn s).Canonical ↔ s.Canonical :=
  (State.groupOn_within _).canonical (by decide) (by decide)

@[simp] theorem State.canonical_loadSettings (s : State) :
    (State.loadSettings s).Canonical ↔ s.Canonical :=
  (State.loadSettings_within _).canonical (by decide) (by decide)

@[simp] theorem State.canonical_applyBank (s : State) :
    (State.applyBank s).Canonical ↔ s.Canonical :=
  (State.applyBank_within _).canonical (by decide) (by decide)

@[simp] theorem State.canonical_applyStrike (s : State) :
    (State.applyStrike s).Canonical ↔ s.Canonical :=
  (State.applyStrike_within _).canonical (by decide) (by decide)

@[simp] theorem State.canonical_takeStanding (s : State) (k : Nat) :
    (State.takeStanding s k).Canonical ↔ s.Canonical :=
  (State.takeStanding_within _ _).canonical (by decide) (by decide)

@[simp] theorem State.canonical_retireDie (s : State) (slot die : Nat) :
    (State.retireDie s slot die).Canonical ↔ s.Canonical :=
  (State.retireDie_within _ _ _).canonical (by decide) (by decide)

@[simp] theorem State.canonical_failChannel (s : State) (ch : Nat) :
    (State.failChannel s ch).Canonical ↔ s.Canonical :=
  (State.failChannel_within _ _).canonical (by decide) (by decide)

@[simp] theorem State.canonical_fillFails (s : State) (f : FillFail) :
    (State.fillFails s f).Canonical ↔ s.Canonical :=
  (State.fillFails_within _ _).canonical (by decide) (by decide)

@[simp] theorem State.canonical_loadPoison (s : State) :
    (State.loadPoison s).Canonical ↔ s.Canonical :=
  (State.loadPoison_within _).canonical (by decide) (by decide)

@[simp] theorem State.canonical_drawWearKey (s : State) :
    (State.drawWearKey s).Canonical ↔ s.Canonical :=
  (State.drawWearKey_within _).canonical (by decide) (by decide)

@[simp] theorem State.canonical_debugExitRecord (s : State) (boot : Bool) :
    (State.debugExitRecord s boot).Canonical ↔ s.Canonical :=
  (State.debugExitRecord_within _ _).canonical (by decide) (by decide)

@[simp] theorem State.canonical_noteSaturated (s : State) :
    (State.noteSaturated s).Canonical ↔ s.Canonical :=
  (State.noteSaturated_within _).canonical (by decide) (by decide)

@[simp] theorem State.canonical_bootPlan (s : State) :
    (State.bootPlan s).Canonical ↔ s.Canonical :=
  (State.bootPlan_within _).canonical (by decide) (by decide)

@[simp] theorem State.canonical_bootKeys (s : State) (r : BootResult) :
    (State.bootKeys s r).Canonical ↔ s.Canonical :=
  (State.bootKeys_within _ _).canonical (by decide) (by decide)

@[simp] theorem State.canonical_lockPorts (s : State) :
    (State.lockPorts s).Canonical ↔ s.Canonical :=
  (State.lockPorts_within _).canonical (by decide) (by decide)

@[simp] theorem State.canonical_invalidMeasure (s : State) :
    (State.invalidMeasure s).Canonical ↔ s.Canonical :=
  (State.invalidMeasure_within _).canonical (by decide) (by decide)

@[simp] theorem State.canonical_endSlice (s : State) (x : SliceRun) :
    (State.endSlice s x).Canonical ↔ s.Canonical :=
  (State.endSlice_within _ _).canonical (by decide) (by decide)

@[simp] theorem State.canonical_closeTicket (s : State) (x : SliceRun) (pass : Bool) :
    (State.closeTicket s x pass).Canonical ↔ s.Canonical :=
  (State.closeTicket_within _ _ _).canonical (by decide) (by decide)

@[simp] theorem State.canonical_startActivation (s : State) (m : Mbox) (slot : Fin 2) (online digestOk accepts : Bool) :
    (State.startActivation s m slot online digestOk accepts).Canonical ↔ s.Canonical :=
  (State.startActivation_within _ _ _ _ _ _).canonical (by decide) (by decide)

@[simp] theorem State.canonical_lockFor (s : State) (target index : Nat) :
    (State.lockFor s target index).Canonical ↔ s.Canonical :=
  (State.lockFor_within _ _ _).canonical (by decide) (by decide)

@[simp] theorem State.canonical_unlockFor (s : State) (target index : Nat) :
    (State.unlockFor s target index).Canonical ↔ s.Canonical :=
  (State.unlockFor_within _ _ _).canonical (by decide) (by decide)

theorem State.canonical_loadTarget {s t : State} {target index : Nat} {key : BitVec 512}
    (hload : State.loadTarget s target index key = some t) : t.Canonical ↔ s.Canonical :=
  (State.loadTarget_within _ _ _ _ _ hload).canonical (by decide) (by decide)

@[simp] theorem State.canonical_zeroizeTarget (s : State) (target index : Nat) :
    (State.zeroizeTarget s target index).Canonical ↔ s.Canonical :=
  (State.zeroizeTarget_within _ _ _).canonical (by decide) (by decide)

@[simp] theorem State.canonical_newSet (s : State) :
    (State.newSet s).Canonical ↔ s.Canonical :=
  (State.newSet_within _).canonical (by decide) (by decide)

@[simp] theorem State.canonical_newWear (s : State) :
    (State.newWear s).Canonical ↔ s.Canonical :=
  (State.newWear_within _).canonical (by decide) (by decide)

@[simp] theorem State.canonical_restoreRing (s : State) (top : Nat) :
    (State.restoreRing s top).1.Canonical ↔ s.Canonical :=
  (State.restoreRing_within _ _).canonical (by decide) (by decide)

@[simp] theorem State.canonical_bootRecord (s : State) (first last restored : Nat) :
    (State.bootRecord s first last restored).Canonical ↔ s.Canonical :=
  (State.bootRecord_within _ _ _ _).canonical (by decide) (by decide)

@[simp] theorem State.canonical_touchSector (s : State) (k : Nat) :
    (State.touchSector s k).Canonical ↔ s.Canonical :=
  (State.touchSector_within _ _).canonical (by decide) (by decide)

@[simp] theorem State.canonical_writeGlb (s : State) (path : Path) (i : Nat) (d : Word) :
    (State.writeGlb s path i d).Canonical ↔ s.Canonical :=
  (State.writeGlb_within _ _ _ _).canonical (by decide) (by decide)

@[simp] theorem State.canonical_writeAdmit (s : State) (d : Word) :
    (State.writeAdmit s d).Canonical ↔ s.Canonical :=
  (State.writeAdmit_within _ _).canonical (by decide) (by decide)

@[simp] theorem State.canonical_writeKce (s : State) (path : Path) (i : Nat) (d : Word) :
    (State.writeKce s path i d).Canonical ↔ s.Canonical :=
  (State.writeKce_within _ _ _ _).canonical (by decide) (by decide)

@[simp] theorem State.canonical_writeWdog (s : State) (path : Path) (d : Word) :
    (State.writeWdog s path d).Canonical ↔ s.Canonical :=
  (State.writeWdog_within _ _ _).canonical (by decide) (by decide)

@[simp] theorem State.canonical_writeMbox (s : State) (path : Path) (m k : Nat) (d : Word) :
    (State.writeMbox s path m k d).Canonical ↔ s.Canonical :=
  (State.writeMbox_within _ _ _ _ _).canonical (by decide) (by decide)

@[simp] theorem State.canonical_writeRetire (s : State) (d : Word) :
    (State.writeRetire s d).Canonical ↔ s.Canonical :=
  (State.writeRetire_within _ _).canonical (by decide) (by decide)

@[simp] theorem State.canonical_writeLog (s : State) (path : Path) (i : Nat) (d : Word) :
    (State.writeLog s path i d).Canonical ↔ s.Canonical :=
  (State.writeLog_within _ _ _ _).canonical (by decide) (by decide)

@[simp] theorem State.canonical_writeEvt (s : State) (i : Nat) (d : Word) :
    (State.writeEvt s i d).Canonical ↔ s.Canonical :=
  (State.writeEvt_within _ _ _).canonical (by decide) (by decide)

@[simp] theorem State.canonical_writeCs (s : State) (n i : Nat) (d : Word) :
    (State.writeCs s n i d).Canonical ↔ s.Canonical :=
  (State.writeCs_within _ _ _ _).canonical (by decide) (by decide)

@[simp] theorem State.canonical_modUnit (s : State) (u : Nat) (f : PmuUnit → PmuUnit) :
    (State.modUnit s u f).Canonical ↔ s.Canonical :=
  (State.modUnit_within _ _ _).canonical (by decide) (by decide)

@[simp] theorem State.canonical_writeTel (s : State) (path : Path) (d : Word) :
    (State.writeTel s path d).Canonical ↔ s.Canonical :=
  (State.writeTel_within _ _ _).canonical (by decide) (by decide)

@[simp] theorem State.canonical_writeChanPending (s : State) (n : Nat) (d : Word) :
    (State.writeChanPending s n d).Canonical ↔ s.Canonical :=
  (State.writeChanPending_within _ _ _).canonical (by decide) (by decide)

@[simp] theorem State.canonical_writePayload (s : State) (m off : Nat) (d : Word) :
    (State.writePayload s m off d).Canonical ↔ s.Canonical :=
  (State.writePayload_within _ _ _ _).canonical (by decide) (by decide)

@[simp] theorem State.canonical_answerAccess (s : State) (v : BitVec 64) (err : Bool) :
    (State.answerAccess s v err).Canonical ↔ s.Canonical :=
  (State.answerAccess_within _ _ _).canonical (by decide) (by decide)

@[simp] theorem State.canonical_refuseAccess (s : State) (path : Path) :
    (State.refuseAccess s path).Canonical ↔ s.Canonical :=
  (State.refuseAccess_within _ _).canonical (by decide) (by decide)

@[simp] theorem State.canonical_wakeBlock (s : State) (b : Block) : (s.wakeBlock b).Canonical ↔ s.Canonical :=
  (State.wakeBlock_within _ _).canonical (by decide) (by decide)

theorem State.canonical_onReg {s : State} {path : Path} {b : Block} {i : Nat} {f : State → State}
    (hf : ∀ u, u.Canonical → (f u).Canonical) (h : s.Canonical) : (s.onReg path b i f).Canonical := by
  unfold State.onReg
  split_ifs
  · exact h
  · simpa using h
  · exact hf _ (by simpa using h)

theorem canonical_shrKeyCmd {s : State} {path : Path} {op : BitVec 2} {f : State → Option State}
    (hf : ∀ t, f s = some t → t.Canonical) (h : s.Canonical) : (s.shrKeyCmd path op f).Canonical := by
  unfold State.shrKeyCmd
  split
  · simp [h]
  · rw [State.canonical_mk]
    split
    next t ht => exact hf t ht
    · exact (State.canonical_shrRefuse s).mpr h

end Sys2Proof.Machine


/-! SUPPORT. Every command keeps the retained SRAM and the flash in canonical form (O59). An operation that touches the
sea chest or the ditty bag leaves a canonical state exactly from a canonical one, as it leaves both memories; those that
write a memory, and the commands, keep the form. -/

namespace Sys2Proof.Machine

open Sys2Proof

/-! ## The sea chest: stores and counters (R392 to R404) -/

@[simp] theorem State.canonical_storeFails (s : State) :
    (State.storeFails s).Canonical ↔ s.Canonical := by
  simp [State.storeFails]

@[simp] theorem State.canonical_seaStore (s : State) (new : List (Nat × List Byte)) (verified : Bool) :
    (State.seaStore s new verified).1.Canonical ↔ s.Canonical := by
  unfold State.seaStore
  dsimp only
  split_ifs <;> simp

@[simp] theorem State.canonical_seaWithdraw (s : State) (id : Nat) :
    (State.seaWithdraw s id).Canonical ↔ s.Canonical := by
  simp [State.seaWithdraw]

@[simp] theorem State.canonical_refillCounters (s : State) :
    (State.refillCounters s).Canonical ↔ s.Canonical := by
  unfold State.refillCounters
  dsimp only
  split_ifs <;> simp

@[simp] theorem State.canonical_counterInc (s : State) (c : Nat) (verified : Bool) :
    (State.counterInc s c verified).1.Canonical ↔ s.Canonical := by
  unfold State.counterInc
  split_ifs <;> simp

/-! ## Verify-reads, seals and background commands (R287, R259) -/

@[simp] theorem State.canonical_verifyFails (s : State) (v : Vendor) :
    (State.verifyFails s v).Canonical ↔ s.Canonical := by
  unfold State.verifyFails
  (repeat' split) <;> simp

@[simp] theorem State.canonical_streamFails (s : State) (v : Vendor) :
    (State.streamFails s v).Canonical ↔ s.Canonical := by
  simp [State.streamFails]

@[simp] theorem State.canonical_undoBg (s : State) (m : Nat) :
    (State.undoBg s m).Canonical ↔ s.Canonical := by
  unfold State.undoBg
  dsimp only
  (repeat' split) <;> simp

/-! ## The keyed check engine (R240 to R263) -/

@[simp] theorem canonical_execEntropyStallTimeout (s : State) (h : s.Canonical) :
    CanonicalOut (execEntropyStallTimeout s) := by
  unfold execEntropyStallTimeout
  split_ifs <;> simp [h]

@[simp] theorem State.canonical_failCoreG (s : State) :
    (State.failCoreG s).Canonical ↔ s.Canonical := by
  unfold State.failCoreG
  dsimp only
  split_ifs <;> simp

@[simp] theorem canonical_execKceSelfTest (coreG : Bool) (pass : Bool) (s : State) (h : s.Canonical) :
    CanonicalOut (execKceSelfTest coreG pass s) := by
  unfold execKceSelfTest
  split_ifs <;> simp [h]

@[simp] theorem canonical_execSealDrainDone (stored : Bool) (s : State) (h : s.Canonical) :
    CanonicalOut (execSealDrainDone stored s) := by
  unfold execSealDrainDone
  dsimp only
  (repeat' split) <;> simp [h]

@[simp] theorem canonical_execSealRegistryConfirmed (stored : Bool) (s : State) (h : s.Canonical) :
    CanonicalOut (execSealRegistryConfirmed stored s) := by
  unfold execSealRegistryConfirmed
  (repeat' split) <;> simp [h]

@[simp] theorem canonical_execVerifyLineFeed (s : State) (h : s.Canonical) :
    CanonicalOut (execVerifyLineFeed s) := by
  unfold execVerifyLineFeed
  dsimp only
  (repeat' split) <;> simp [h]

@[simp] theorem canonical_execVerifyRetire (s : State) (h : s.Canonical) :
    CanonicalOut (execVerifyRetire s) := by
  unfold execVerifyRetire
  (repeat' split) <;> simp [h]

/-! ## Erases and the end of a rekey (R230, R239) -/

@[simp] theorem State.canonical_rekeyFinish (s : State) (hi : Option Nat) :
    (State.rekeyFinish s hi).Canonical ↔ s.Canonical := by
  unfold State.rekeyFinish
  split <;> simp

@[simp] theorem State.canonical_rekeyCutNow (s : State) :
    (State.rekeyCutNow s).Canonical ↔ s.Canonical := by
  simp [State.rekeyCutNow]

@[simp] theorem State.canonical_erase (s : State) (fmt : Bool) :
    (State.erase s fmt).Canonical ↔ s.Canonical := by
  have hdrop (s : State) : ((List.range 64).foldl
      (fun s i => if (s.keySlot i).state = .empty then s.seaWithdraw (recShroudKey i) else s) s).Canonical ↔
      s.Canonical := canonical_foldl (fun s i => by split <;> simp) _ s
  unfold State.erase
  simp [hdrop, apply_ite State.Canonical]

@[simp] theorem State.canonical_endFormat (s : State) :
    (State.endFormat s).Canonical ↔ s.Canonical := by
  simp [State.endFormat]

/-! ## Boot stages and the activation of memory (R42) -/

@[simp] theorem State.canonical_bootStage (s : State) (n : Nat) :
    (State.bootStage s n).Canonical ↔ s.Canonical := by
  simp [State.bootStage]

@[simp] theorem State.canonical_activateMemory (s : State) :
    (State.activateMemory s).Canonical ↔ s.Canonical := by
  simp [State.activateMemory]

@[simp] theorem State.canonical_tryActivate (s : State) :
    (State.tryActivate s).Canonical ↔ s.Canonical := by
  unfold State.tryActivate
  split_ifs <;> simp

/-! ## Shroud key commands (R226 to R236) -/

@[simp] theorem canonical_execShrKeyErase (path : Path) (s : State) (h : s.Canonical) :
    CanonicalOut (execShrKeyErase path s) := by
  unfold execShrKeyErase
  rw [canonicalOut_next]
  exact canonical_shrKeyCmd (fun t ht => Option.some.inj ht ▸ (s.canonical_erase _).mpr h) h

@[simp] theorem canonical_execShrRekeyGo (path : Path) (s : State) (h : s.Canonical) :
    CanonicalOut (execShrRekeyGo path s) := by
  unfold execShrRekeyGo
  dsimp only
  split_ifs <;> simp [h]

@[simp] theorem canonical_execRekeyEnd (s : State) (h : s.Canonical) :
    CanonicalOut (execRekeyEnd s) := by
  unfold execRekeyEnd
  split_ifs <;> simp [h]

@[simp] theorem canonical_execRekeyCut (s : State) (h : s.Canonical) :
    CanonicalOut (execRekeyCut s) := by
  unfold execRekeyCut
  split_ifs <;> simp [h]

/-! ## Replay (R117) -/

@[simp] theorem State.canonical_recordReplay (s : State) :
    (State.recordReplay s).Canonical ↔ s.Canonical := by
  unfold State.recordReplay
  dsimp only
  split_ifs <;> simp

@[simp] theorem State.canonical_fillInterrupted (s : State) :
    (State.fillInterrupted s).Canonical ↔ s.Canonical := by
  unfold State.fillInterrupted
  split <;> simp

@[simp] theorem canonical_execReplayComplete (s : State) (h : s.Canonical) :
    CanonicalOut (execReplayComplete s) := by
  unfold execReplayComplete
  dsimp only
  split_ifs <;> simp [h]

/-! ## A port that resets (R52) -/

@[simp] theorem State.canonical_abortPortMail (s : State) (p : Port) :
    (State.abortPortMail s p).Canonical ↔ s.Canonical := by
  simp [State.abortPortMail, apply_ite State.Canonical]

@[simp] theorem State.canonical_portReset (s : State) (p : Port) :
    (State.portReset s p).Canonical ↔ s.Canonical := by
  unfold State.portReset
  dsimp only
  split_ifs <;> simp

/-! ## Resets of a port (R52) -/

@[simp] theorem canonical_execPerstAssert (p : Port) (s : State) (h : s.Canonical) :
    CanonicalOut (execPerstAssert p s) := by
  simp [execPerstAssert, h]

@[simp] theorem canonical_execHotReset (p : Port) (s : State) (h : s.Canonical) :
    CanonicalOut (execHotReset p s) := by
  unfold execHotReset
  split_ifs <;> simp [h]

@[simp] theorem canonical_execCxlReset (p : Port) (s : State) (h : s.Canonical) :
    CanonicalOut (execCxlReset p s) := by
  unfold execCxlReset
  split_ifs <;> simp [h]

@[simp] theorem canonical_execFunctionLevelReset (p : Port) (s : State) (h : s.Canonical) :
    CanonicalOut (execFunctionLevelReset p s) := by
  unfold execFunctionLevelReset
  split_ifs <;> simp [h]

/-! ## The resets (R349 to R351, R355) -/

@[simp] theorem State.canonical_undoRetry (s : State) (m : Nat) :
    (State.undoRetry s m).Canonical ↔ s.Canonical := by
  unfold State.undoRetry
  dsimp only
  (repeat' split) <;> simp

@[simp] theorem State.canonical_settleMailbox (s : State) (m : Nat) :
    (State.settleMailbox s m).Canonical ↔ s.Canonical := by
  unfold State.settleMailbox
  dsimp only
  split_ifs <;> simp

@[simp] theorem State.canonical_settleMailboxes (s : State) :
    (State.settleMailboxes s).Canonical ↔ s.Canonical := by
  exact canonical_foldl State.canonical_settleMailbox _ s

@[simp] theorem State.canonical_coreResetNow (s : State) (source : Nat) :
    (State.coreResetNow s source).Canonical ↔ s.Canonical := by
  unfold State.coreResetNow
  dsimp only
  split_ifs <;> simp

@[simp] theorem State.canonical_sysResetNow (s : State) (source : Nat) :
    (State.sysResetNow s source).Canonical ↔ s.Canonical := by
  simp [State.sysResetNow]

@[simp] theorem State.canonical_ponResetNow (s : State) (source : Nat) (h : s.Canonical) :
    (State.ponResetNow s source).Canonical := by
  exact ⟨rfl, h.flash⟩

@[simp] theorem State.canonical_enterDown (s : State) (h : s.Canonical) :
    (State.enterDown s).Canonical := by
  simp [State.enterDown, h]

@[simp] theorem State.canonical_powerUp (s : State) (h : s.Canonical) :
    (State.powerUp s).Canonical := by
  unfold State.powerUp
  (repeat' split) <;> simp [h]

/-! ## The sequencer (R308 to R324) -/

@[simp] theorem canonical_execInputStable (s : State) (h : s.Canonical) :
    CanonicalOut (execInputStable s) := by
  unfold execInputStable
  dsimp only
  split_ifs <;> simp [h]

@[simp] theorem canonical_execPowerFailWarning (s : State) (h : s.Canonical) :
    CanonicalOut (execPowerFailWarning s) := by
  unfold execPowerFailWarning
  dsimp only
  split <;> simp [h]

@[simp] theorem canonical_execRailDisableStep (s : State) (h : s.Canonical) :
    CanonicalOut (execRailDisableStep s) := by
  unfold execRailDisableStep
  dsimp only
  (repeat' split) <;> simp [h]

@[simp] theorem State.canonical_powerEvent (s : State) (phase rail slot timeUs : Nat) :
    (State.powerEvent s phase rail slot timeUs).Canonical ↔ s.Canonical := by
  unfold State.powerEvent
  split_ifs <;> simp

@[simp] theorem canonical_execPowerdownRailFail (what : DownFail) (timeUs : Nat) (s : State) (h : s.Canonical) :
    CanonicalOut (execPowerdownRailFail what timeUs s) := by
  unfold execPowerdownRailFail
  (repeat' split) <;> simp [h]

@[simp] theorem State.canonical_enterRun (s : State) :
    (State.enterRun s).Canonical ↔ s.Canonical := by
  unfold State.enterRun
  dsimp only
  split_ifs <;> simp

@[simp] theorem canonical_execRailInWindow (r : Fin 7) (s : State) (h : s.Canonical) :
    CanonicalOut (execRailInWindow r s) := by
  unfold execRailInWindow
  split_ifs <;> simp [h]

@[simp] theorem canonical_execRampRailFail (r : Fin 7) (timeUs : Nat) (s : State) (h : s.Canonical) :
    CanonicalOut (execRampRailFail r timeUs s) := by
  unfold execRampRailFail
  split_ifs <;> simp [h]

@[simp] theorem canonical_execRampRetry (s : State) (h : s.Canonical) :
    CanonicalOut (execRampRetry s) := by
  unfold execRampRetry
  split_ifs <;> simp [h]

/-! ## Channel training (R208) -/

@[simp] theorem State.canonical_trained (s : State) (ch : Nat) :
    (State.trained s ch).Canonical ↔ s.Canonical := by
  unfold State.trained
  dsimp only
  split_ifs <;> simp

@[simp] theorem canonical_execChannelTraining (ch : Chan) (ok : Bool) (s : State) (h : s.Canonical) :
    CanonicalOut (execChannelTraining ch ok s) := by
  unfold execChannelTraining
  dsimp only
  split_ifs <;> simp [h]

/-! ## The release of the domains and the boot (R354 to R356) -/

@[simp] theorem canonical_execAonPowerOnDetect (pages : Nat) (s : State) (h : s.Canonical) :
    CanonicalOut (execAonPowerOnDetect pages s) := by
  unfold execAonPowerOnDetect
  split_ifs <;> simp [h]

@[simp] theorem canonical_execResetHoldOffDone (s : State) (h : s.Canonical) :
    CanonicalOut (execResetHoldOffDone s) := by
  unfold execResetHoldOffDone
  (repeat' split) <;> simp [h]

@[simp] theorem State.canonical_releaseDatapath (s : State) (fuseCrc : BitVec 2) :
    (State.releaseDatapath s fuseCrc).Canonical ↔ s.Canonical := by
  unfold State.releaseDatapath
  split_ifs <;> simp

@[simp] theorem canonical_execDomainRelease (d : RstDomain) (fuseCrc : BitVec 2) (s : State) (h : s.Canonical) :
    CanonicalOut (execDomainRelease d fuseCrc s) := by
  unfold execDomainRelease
  dsimp only
  (repeat' split) <;> simp [h]

@[simp] theorem canonical_execArrayFillDone (bad : List FillFail) (s : State) (h : s.Canonical) :
    CanonicalOut (execArrayFillDone bad s) := by
  have hfills (l : List FillFail) (s : State) : (l.foldl State.fillFails s).Canonical ↔ s.Canonical :=
    canonical_foldl State.canonical_fillFails l s
  have hfenced (s : State) : ((List.range 17).foldl
      (fun s n => s.modSlice n fun x => { x with tagSramFenced := true }) s).Canonical ↔ s.Canonical :=
    canonical_foldl (fun s n => s.canonical_modSlice n _) _ s
  unfold execArrayFillDone
  split_ifs
  · simpa using h
  · simp [h, hfills, hfenced, apply_ite State.Canonical]

@[simp] theorem State.canonical_loadBump (s : State) :
    (State.loadBump s).Canonical ↔ s.Canonical := by
  unfold State.loadBump
  split_ifs <;> simp

@[simp] theorem State.canonical_copyPowerEvent (s : State) :
    (State.copyPowerEvent s).Canonical ↔ s.Canonical := by
  unfold State.copyPowerEvent
  split_ifs <;> simp

@[simp] theorem State.canonical_payDebugExit (s : State) :
    (State.payDebugExit s).Canonical ↔ s.Canonical := by
  unfold State.payDebugExit
  split_ifs <;> simp

@[simp] theorem canonical_execFirmwareBoot (r : BootResult) (s : State) (h : s.Canonical) :
    CanonicalOut (execFirmwareBoot r s) := by
  unfold execFirmwareBoot
  split_ifs <;> simp [h]

/-! ## Debug entry and CORE reset (R271, R279) -/

@[simp] theorem canonical_execDebugEntry (stored : Bool) (s : State) (h : s.Canonical) :
    CanonicalOut (execDebugEntry stored s) := by
  unfold execDebugEntry
  dsimp only
  split_ifs <;> simp [h]

@[simp] theorem canonical_execCoreReset (src : CoreSource) (s : State) (h : s.Canonical) :
    CanonicalOut (execCoreReset src s) := by
  unfold execCoreReset
  (repeat' split) <;> simp [h]

/-! ## Measurements and self-test slices (R360, R370) -/

@[simp] theorem State.canonical_validMeasure (s : State) (r : HoldupRead) :
    (State.validMeasure s r).Canonical ↔ s.Canonical := by
  unfold State.validMeasure
  dsimp only
  split_ifs <;> simp

@[simp] theorem canonical_execHoldupMeasureEnd (r : HoldupRead) (s : State) (h : s.Canonical) :
    CanonicalOut (execHoldupMeasureEnd r s) := by
  unfold execHoldupMeasureEnd
  dsimp only
  split_ifs <;> simp [h]

@[simp] theorem canonical_execHoldupBootTimeout (s : State) (h : s.Canonical) :
    CanonicalOut (execHoldupBootTimeout s) := by
  unfold execHoldupBootTimeout
  (repeat' split) <;> simp [h]

@[simp] theorem State.canonical_unitFault (s : State) (test unit : Nat) :
    (State.unitFault s test unit).Canonical ↔ s.Canonical := by
  unfold State.unitFault
  split <;> simp

@[simp] theorem canonical_execSelfTestSliceEnd (pass : Bool) (s : State) (h : s.Canonical) :
    CanonicalOut (execSelfTestSliceEnd pass s) := by
  unfold execSelfTestSliceEnd
  (repeat' split) <;> simp [h]

@[simp] theorem canonical_execSliceFaultEnd (ownFault : Bool) (s : State) (h : s.Canonical) :
    CanonicalOut (execSliceFaultEnd ownFault s) := by
  unfold execSliceFaultEnd
  (repeat' split) <;> simp [h]

/-! ## Aborts (R288) -/

@[simp] theorem canonical_execHlyAbortRequest (m : Mbox) (s : State) (h : s.Canonical) :
    CanonicalOut (execHlyAbortRequest m s) := by
  unfold execHlyAbortRequest
  dsimp only
  split_ifs <;> simp [h]

/-! ## Standard mailbox commands (R282, R287) -/

@[simp] theorem canonical_execRequestAbortBackgroundOperation (m : Mbox) (s : State) (h : s.Canonical) :
    CanonicalOut (execRequestAbortBackgroundOperation m s) := by
  refine canonicalOut_onCommand ?_ h
  dsimp only
  split_ifs <;> simp [h]

@[simp] theorem State.canonical_openSlot (s : State) (slot offset : Nat) (h : s.Canonical) :
    (State.openSlot s slot offset).Canonical := by
  have herased : Memory.wf 0xFF#8
      ((List.range 12).foldl (fun (x : Sea) i => x.eraseSector (8 + 12 * slot + i)) s.sea).flash = true :=
    foldl_invariant (P := fun x : Sea => Memory.wf 0xFF#8 x.flash = true) (fun x _ hx => x.wf_eraseSector _ hx) _ h.flash
  unfold State.openSlot
  split_ifs <;> simp [h, herased]

@[simp] theorem canonical_execTransferFw (m : Mbox) (slot : Fin 2) (offset : Nat) (data : List Byte) (s : State)
    (h : s.Canonical) :
    CanonicalOut (execTransferFw m slot offset data s) := by
  have hslot := (State.canonical_openSlot s slot.val offset h)
  refine canonicalOut_onCommand ?_ h
  dsimp only
  split_ifs <;> simp [h, hslot.sram, hslot.flash]

@[simp] theorem State.canonical_finishActivation (s : State) (m : Mbox) :
    (State.finishActivation s m).Canonical ↔ s.Canonical := by
  unfold State.finishActivation
  dsimp only
  split_ifs <;> simp

@[simp] theorem canonical_execActivateFw (m : Mbox) (slot : Fin 2) (online digestOk accepts : Bool) (s : State)
    (h : s.Canonical) :
    CanonicalOut (execActivateFw m slot online digestOk accepts s) := by
  unfold execActivateFw
  dsimp only
  split_ifs <;> simp [h]

@[simp] theorem State.canonical_startErase (s : State) (m : Mbox) :
    (State.startErase s m).Canonical ↔ s.Canonical := by
  unfold State.startErase
  split_ifs <;> simp

@[simp] theorem State.canonical_eraseCommand (s : State) (m : Mbox) (op : Nat) (zero : Bool) :
    (State.eraseCommand s m op zero).Canonical ↔ s.Canonical := by
  unfold State.eraseCommand
  dsimp only
  split_ifs <;> simp

@[simp] theorem canonical_execSanitize (m : Mbox) (s : State) (h : s.Canonical) :
    CanonicalOut (execSanitize m s) := by
  simp [execSanitize, h]

@[simp] theorem canonical_execSecureErase (m : Mbox) (s : State) (h : s.Canonical) :
    CanonicalOut (execSecureErase m s) := by
  simp [execSecureErase, h]

/-! ## Vendor mailbox commands (R300 to R304) -/

@[simp] theorem canonical_execSeaChestStore (m : Mbox) (stored : Bool) (s : State) (h : s.Canonical) :
    CanonicalOut (execSeaChestStore m stored s) := by
  refine canonicalOut_onCommand ?_ h
  dsimp only
  split_ifs <;> simp [h]

@[simp] theorem State.canonical_startVerify (s : State) (m : Mbox) (id : Nat) (g : Registry) (buffer : Option Nat)
    (stored : Bool) :
    (State.startVerify s m id g buffer stored).Canonical ↔ s.Canonical := by
  unfold State.startVerify
  dsimp only
  (repeat' split) <;> simp

@[simp] theorem canonical_execVerifyRead (m : Mbox) (stored : Bool) (s : State) (h : s.Canonical) :
    CanonicalOut (execVerifyRead m stored s) := by
  refine canonicalOut_onCommand ?_ h
  dsimp only
  (repeat' split) <;> simp [h]

@[simp] theorem State.canonical_loadKey (s : State) (m : Mbox) (target index : Nat) (persist : Bool)
    (key : BitVec 512) (stored : Bool) :
    (State.loadKey s m target index persist key stored).Canonical ↔ s.Canonical := by
  unfold State.loadKey
  split
  · simp
  next t ht =>
    rw [← State.canonical_loadTarget ht]
    cases persist <;> simp [apply_ite State.Canonical]

@[simp] theorem canonical_execKeyLoad (m : Mbox) (stored : Bool) (s : State) (h : s.Canonical) :
    CanonicalOut (execKeyLoad m stored s) := by
  refine canonicalOut_onCommand ?_ h
  dsimp only
  split_ifs <;> simp [h]

@[simp] theorem canonical_execKeyZeroize (m : Mbox) (stored : Bool) (s : State) (h : s.Canonical) :
    CanonicalOut (execKeyZeroize m stored s) := by
  refine canonicalOut_onCommand ?_ h
  dsimp only
  split_ifs <;> simp [h]

@[simp] theorem canonical_execRekeyStart (m : Mbox) (stored : Bool) (s : State) (h : s.Canonical) :
    CanonicalOut (execRekeyStart m stored s) := by
  refine canonicalOut_onCommand ?_ h
  dsimp only
  split_ifs <;> simp [h]

@[simp] theorem State.canonical_startFormat (s : State) (m : Mbox) (stored : Bool) :
    (State.startFormat s m stored).Canonical ↔ s.Canonical := by
  unfold State.startFormat
  split_ifs <;> simp

@[simp] theorem canonical_execFormatMediaSet (m : Mbox) (stored : Bool) (s : State) (h : s.Canonical) :
    CanonicalOut (execFormatMediaSet m stored s) := by
  unfold execFormatMediaSet
  dsimp only
  split_ifs <;> simp [h]

/-! ## The writer of the logbook (R376 to R381) -/

theorem State.canonical_writeRec {s t : State} {r : LogRec} (hput : State.writeRec s r = some t) :
    t.Canonical ↔ s.Canonical := by
  unfold State.writeRec at hput
  split at hput
  · cases hput
  · split at hput <;> cases hput <;> simp

@[simp] theorem State.canonical_payLost (s : State) :
    (State.payLost s).Canonical ↔ s.Canonical := by
  unfold State.payLost
  dsimp only
  split_ifs
  · rfl
  · rfl
  · split
    next t ht => simp [State.canonical_writeRec ht]
    · rfl

@[simp] theorem State.canonical_writeHead (s : State) :
    (State.writeHead s).Canonical ↔ s.Canonical := by
  unfold State.writeHead
  dsimp only
  split
  · simp
  · split
    next t ht => simp [State.canonical_writeRec ht]
    · simp

@[simp] theorem State.canonical_drainLog (s : State) (k : Nat) :
    (State.drainLog s k).Canonical ↔ s.Canonical := by
  induction k generalizing s with
  | zero => rfl
  | succ k ih =>
    unfold State.drainLog
    rw [ih, State.canonical_writeHead]

@[simp] theorem State.canonical_chainPut (s : State) (flags : Nat) (tag : BitVec 128) :
    (State.chainPut s flags tag).Canonical ↔ s.Canonical := by
  unfold State.chainPut
  dsimp only
  split
  · rfl
  next t ht => simp [State.canonical_writeRec ht]

/-! ## The logbook (R375 to R388) -/

@[simp] theorem canonical_execLogRecordWrite (s : State) (h : s.Canonical) :
    CanonicalOut (execLogRecordWrite s) := by
  unfold execLogRecordWrite
  split_ifs <;> simp [h]

@[simp] theorem canonical_execBlockCounterAdvance (verified : Bool) (s : State) (h : s.Canonical) :
    CanonicalOut (execBlockCounterAdvance verified s) := by
  unfold execBlockCounterAdvance
  dsimp only
  split_ifs <;> simp [h]

@[simp] theorem canonical_execChainWrite (s : State) (h : s.Canonical) :
    CanonicalOut (execChainWrite s) := by
  unfold execChainWrite
  split_ifs <;> simp [h]

@[simp] theorem canonical_execChainStallTimeout (s : State) (h : s.Canonical) :
    CanonicalOut (execChainStallTimeout s) := by
  unfold execChainStallTimeout
  (repeat' split) <;> simp [h]

@[simp] theorem State.canonical_newBlock (s : State) (top : Nat) :
    (State.newBlock s top).1.Canonical ↔ s.Canonical := by
  simp [State.newBlock]

@[simp] theorem canonical_execLogbookRestore (s : State) (h : s.Canonical) :
    CanonicalOut (execLogbookRestore s) := by
  unfold execLogbookRestore
  dsimp only
  split_ifs <;> simp [h]

@[simp] theorem canonical_execLogbookClear (m : Mbox) (s : State) (h : s.Canonical) :
    CanonicalOut (execLogbookClear m s) := by
  refine canonicalOut_onCommand ?_ h
  dsimp only
  split_ifs
  · exact h
  · simp [h]
  · simp [h]
  · split
    · simp [h]
    · split
      next u hu => simpa [State.canonical_writeRec hu] using h
      · exact h

/-! ## The commands of the sea chest (R390 to R404) -/

@[simp] theorem canonical_execRecordStore (id : BitVec 15) (payload : List Byte) (verified : Bool) (s : State)
    (h : s.Canonical) :
    CanonicalOut (execRecordStore id payload verified s) := by
  unfold execRecordStore
  split_ifs <;> simp [h]

@[simp] theorem canonical_execRecordWithdraw (id : BitVec 15) (s : State) (h : s.Canonical) :
    CanonicalOut (execRecordWithdraw id s) := by
  unfold execRecordWithdraw
  split_ifs <;> simp [h]

@[simp] theorem canonical_execBackgroundErase (s : State) (h : s.Canonical) :
    CanonicalOut (execBackgroundErase s) := by
  unfold execBackgroundErase
  split_ifs <;> simp [h]

@[simp] theorem State.canonical_rawRefused (s : State) :
    (State.rawRefused s).Canonical ↔ s.Canonical := by
  simp [State.rawRefused]

@[simp] theorem State.canonical_rawProgram (s : State) (h : s.Canonical) :
    (State.rawProgram s).Canonical := by
  unfold State.rawProgram
  dsimp only
  split_ifs <;> simp [h]

@[simp] theorem State.canonical_rawErase (s : State) (h : s.Canonical) :
    (State.rawErase s).Canonical := by
  unfold State.rawErase
  dsimp only
  split_ifs <;> simp [h]

@[simp] theorem State.canonical_rawGo (s : State) (h : s.Canonical) :
    (State.rawGo s).Canonical := by
  unfold State.rawGo
  (repeat' split) <;> simp [h]

@[simp] theorem canonical_execRawProgram (path : Path) (s : State) (h : s.Canonical) :
    CanonicalOut (execRawProgram path s) := by
  unfold execRawProgram
  split_ifs <;> simp [h]

@[simp] theorem canonical_execRawErase (path : Path) (s : State) (h : s.Canonical) :
    CanonicalOut (execRawErase path s) := by
  unfold execRawErase
  split_ifs <;> simp [h]

@[simp] theorem State.canonical_counterGo (s : State) (c : Nat) (verified : Bool) :
    (State.counterGo s c verified).Canonical ↔ s.Canonical := by
  unfold State.counterGo
  split_ifs <;> simp

@[simp] theorem canonical_execCounterIncrement (ctr : Fin 8) (verified : Bool) (s : State) (h : s.Canonical) :
    CanonicalOut (execCounterIncrement ctr verified s) := by
  simp [execCounterIncrement, h]

@[simp] theorem canonical_execCounterRefill (s : State) (h : s.Canonical) :
    CanonicalOut (execCounterRefill s) := by
  unfold execCounterRefill
  split_ifs <;> simp [h]

@[simp] theorem canonical_execSeaChestSettle (s : State) (h : s.Canonical) :
    CanonicalOut (execSeaChestSettle s) := by
  unfold execSeaChestSettle
  split_ifs <;> simp [h]

/-! ## Register writes (R6 to R8) -/

@[simp] theorem State.canonical_writeShrCmd (s : State) (path : Path) (d : Word) (h : s.Canonical) :
    (State.writeShrCmd s path d).Canonical := by
  unfold State.writeShrCmd
  dsimp only
  split_ifs
  · simp [h]
  · simp [h]
  · simp [h]
  · split
    · exact State.canonical_nextOf (by simp [h]) (by simp [h])
    · exact State.canonical_nextOf (by simp [h]) (by simp [h])
    · exact State.canonical_nextOf (by simp [h]) (by simp [h])
    · simp [h]

@[simp] theorem State.canonical_writeRekeyCtrl (s : State) (path : Path) (d : Word) (h : s.Canonical) :
    (State.writeRekeyCtrl s path d).Canonical := by
  unfold State.writeRekeyCtrl
  extract_lets _ s₁ s₂
  have hs₁ : s₁.Canonical := h
  have hs₂ : s₂.Canonical := by
    unfold s₂
    split <;> simp [hs₁]
  split <;> simp [hs₂]

@[simp] theorem State.canonical_writeShr (s : State) (path : Path) (i : Nat) (d : Word) (h : s.Canonical) :
    (State.writeShr s path i d).Canonical := by
  unfold State.writeShr
  (repeat' split) <;> simp [h]

@[simp] theorem State.canonical_writeAbort (s : State) (d : Word) (h : s.Canonical) :
    (State.writeAbort s d).Canonical := by
  unfold State.writeAbort
  split_ifs <;> simp [h]

@[simp] theorem State.canonical_writeHly (s : State) (path : Path) (i : Nat) (d : Word) (h : s.Canonical) :
    (State.writeHly s path i d).Canonical := by
  unfold State.writeHly
  split_ifs <;> simp [h]

@[simp] theorem State.canonical_writeRawCtrl (s : State) (d : Word) (h : s.Canonical) :
    (State.writeRawCtrl s d).Canonical := by
  unfold State.writeRawCtrl
  dsimp only
  split_ifs <;> simp [h]

@[simp] theorem State.canonical_writeSea (s : State) (i : Nat) (d : Word) (h : s.Canonical) :
    (State.writeSea s i d).Canonical := by
  unfold State.writeSea
  (repeat' split) <;> simp [h]

@[simp] theorem State.canonical_writeReg (s : State) (path : Path) (b : Block) (i : Nat) (d : Word)
    (h : s.Canonical) :
    (State.writeReg s path b i d).Canonical := by
  unfold State.writeReg
  (repeat' split) <;> simp [h]

/-! ## One access (R425) -/

@[simp] theorem State.canonical_writePlace (s : State) (path : Path) (addr : Nat) (d : Word) (h : s.Canonical) :
    CanonicalOut (State.writePlace s path addr d) := by
  unfold State.writePlace
  (repeat' split) <;> simp [h]

@[simp] theorem canonical_execRegisterWrite (path : Path) (addr data : Word) (s : State) (h : s.Canonical) :
    CanonicalOut (execRegisterWrite path addr data s) := by
  unfold execRegisterWrite
  split_ifs
  · simp [h]
  · simp [h]
  · split
    · exact (canonicalOut_next _).mpr (State.canonical_onReg (fun u hu => u.canonical_writeReg path _ _ data hu) h)
    · exact s.canonical_writePlace path addr.toNat data h

@[simp] theorem canonical_execLockSet (path : Path) (addr data : Word) (s : State) (h : s.Canonical) :
    CanonicalOut (execLockSet path addr data s) := by
  unfold execLockSet
  rw [canonicalOut_next]
  split
  · split
    · split_ifs
      · exact State.canonical_onReg (fun u hu => u.canonical_writeReg path _ _ data hu) h
      · exact h
    · exact h
  · exact h

/-! ## Every command, every step -/

/-- A command with neither part in its footprint leaves both memories. -/
theorem canonical_of_footprint {c : Instr} {s : State} (hsea : (footprint c).contains .sea = false)
    (hdty : (footprint c).contains .dty = false) (h : s.Canonical) : CanonicalOut (exec c s) :=
  (exec_within c s).canonical (by simpa using hsea) (by simpa using hdty) h

/-- Every command keeps the form: most leave the sea chest and the ditty bag, the others by the lemma about them. -/
theorem canonical_exec (c : Instr) {s : State} (h : s.Canonical) : CanonicalOut (exec c s) := by
  cases c
  case entropyStallTimeout => exact canonical_execEntropyStallTimeout _ h
  case kceSelfTest => exact canonical_execKceSelfTest _ _ _ h
  case sealDrainDone => exact canonical_execSealDrainDone _ _ h
  case sealRegistryConfirmed => exact canonical_execSealRegistryConfirmed _ _ h
  case verifyLineFeed => exact canonical_execVerifyLineFeed _ h
  case verifyRetire => exact canonical_execVerifyRetire _ h
  case shrKeyErase => exact canonical_execShrKeyErase _ _ h
  case shrRekeyGo => exact canonical_execShrRekeyGo _ _ h
  case rekeyEnd => exact canonical_execRekeyEnd _ h
  case rekeyCut => exact canonical_execRekeyCut _ h
  case replayComplete => exact canonical_execReplayComplete _ h
  case perstAssert => exact canonical_execPerstAssert _ _ h
  case hotReset => exact canonical_execHotReset _ _ h
  case cxlReset => exact canonical_execCxlReset _ _ h
  case functionLevelReset => exact canonical_execFunctionLevelReset _ _ h
  case inputStable => exact canonical_execInputStable _ h
  case powerFailWarning => exact canonical_execPowerFailWarning _ h
  case railDisableStep => exact canonical_execRailDisableStep _ h
  case powerdownRailFail => exact canonical_execPowerdownRailFail _ _ _ h
  case railInWindow => exact canonical_execRailInWindow _ _ h
  case rampRailFail => exact canonical_execRampRailFail _ _ _ h
  case rampRetry => exact canonical_execRampRetry _ h
  case channelTraining => exact canonical_execChannelTraining _ _ _ h
  case aonPowerOnDetect => exact canonical_execAonPowerOnDetect _ _ h
  case resetHoldOffDone => exact canonical_execResetHoldOffDone _ h
  case domainRelease => exact canonical_execDomainRelease _ _ _ h
  case arrayFillDone => exact canonical_execArrayFillDone _ _ h
  case firmwareBoot => exact canonical_execFirmwareBoot _ _ h
  case debugEntry => exact canonical_execDebugEntry _ _ h
  case coreReset => exact canonical_execCoreReset _ _ h
  case holdupMeasureEnd => exact canonical_execHoldupMeasureEnd _ _ h
  case holdupBootTimeout => exact canonical_execHoldupBootTimeout _ h
  case selfTestSliceEnd => exact canonical_execSelfTestSliceEnd _ _ h
  case sliceFaultEnd => exact canonical_execSliceFaultEnd _ _ h
  case hlyAbortRequest => exact canonical_execHlyAbortRequest _ _ h
  case requestAbortBackgroundOperation => exact canonical_execRequestAbortBackgroundOperation _ _ h
  case transferFw => exact canonical_execTransferFw _ _ _ _ _ h
  case activateFw => exact canonical_execActivateFw _ _ _ _ _ _ h
  case sanitize => exact canonical_execSanitize _ _ h
  case secureErase => exact canonical_execSecureErase _ _ h
  case seaChestStore => exact canonical_execSeaChestStore _ _ _ h
  case verifyRead => exact canonical_execVerifyRead _ _ _ h
  case keyLoad => exact canonical_execKeyLoad _ _ _ h
  case keyZeroize => exact canonical_execKeyZeroize _ _ _ h
  case rekeyStart => exact canonical_execRekeyStart _ _ _ h
  case formatMediaSet => exact canonical_execFormatMediaSet _ _ _ h
  case logRecordWrite => exact canonical_execLogRecordWrite _ h
  case blockCounterAdvance => exact canonical_execBlockCounterAdvance _ _ h
  case chainWrite => exact canonical_execChainWrite _ h
  case chainStallTimeout => exact canonical_execChainStallTimeout _ h
  case logbookRestore => exact canonical_execLogbookRestore _ h
  case logbookClear => exact canonical_execLogbookClear _ _ h
  case recordStore => exact canonical_execRecordStore _ _ _ _ h
  case recordWithdraw => exact canonical_execRecordWithdraw _ _ h
  case backgroundErase => exact canonical_execBackgroundErase _ h
  case rawProgram => exact canonical_execRawProgram _ _ h
  case rawErase => exact canonical_execRawErase _ _ h
  case counterIncrement => exact canonical_execCounterIncrement _ _ _ h
  case counterRefill => exact canonical_execCounterRefill _ h
  case seaChestSettle => exact canonical_execSeaChestSettle _ h
  case registerWrite => exact canonical_execRegisterWrite _ _ _ _ h
  case lockSet => exact canonical_execLockSet _ _ _ _ h
  all_goals exact canonical_of_footprint rfl rfl h

/-- Settles O59: a step is a command on the same memories, or nothing. -/
theorem stepsKeepMemoriesCanonical : Obligations.StepsKeepMemoriesCanonical := by
  unfold Obligations.StepsKeepMemoriesCanonical
  intro s t hstep hsram hflash
  have h : s.Canonical := ⟨hsram, hflash⟩
  unfold step at hstep
  split at hstep
  · cases hstep
    exact h
  next c rest _ =>
    have hrest : State.Canonical { s with pending := rest } := h
    exact canonical_exec c hrest t hstep

end Sys2Proof.Machine
